-- ==== Sys2Proof/Word.lean ====
section
/-! DEFINITION. The word types of the module: bytes, 16-, 32- and 64-bit words, the binary interchange
formats and the binary angle of R10. -/

namespace Sys2Proof

/-- One byte. -/
abbrev Byte := BitVec 8

/-- A 16-bit word. -/
abbrev U16 := BitVec 16

/-- A register is 32 bits wide (R13). -/
abbrev Word := BitVec 32

/-- A 64-bit word. -/
abbrev U64 := BitVec 64

/-- IEEE 754 binary32, as its bits (R10). -/
abbrev F32 := BitVec 32

/-- IEEE 754 binary64, as its bits (R11). -/
abbrev F64 := BitVec 64

/-- BAM32: a full turn is 2³² (R10). -/
abbrev Bam := BitVec 32

end Sys2Proof
end

