-- ==== Sys2Proof/Types.lean ====
section
/-! DEFINITION. The types that the commands' operands and the state share: modes, roles, telegrams, measured values. -/

namespace Sys2Proof

/-- The module states (R518); `code` gives SYS_STATE.STATE of R42. -/
inductive ModState where
  | off | boot | selftest | standby | ready | active | degraded | safe | service
  deriving DecidableEq, Repr

/-- The pair roles (R42). -/
inductive Role where
  | alone | lead | shadow | barred
  deriving DecidableEq, Repr

/-- What a command carries beside its parameters: the session it came in on and its CSEQ (R528). -/
structure Hdr where
  sess : Nat
  cseq : Word
  deriving DecidableEq, Repr

/-- The value of a 64-bit DTIME in nanoseconds, or of a pick-relative time. -/
abbrev Ns := Nat

/-- The content of a telegram as an interface hands it on (R83 FRAMING): an IEC 61162 sentence from its start character
to its last character before CR LF; a binary payload of fixed layout; a CAN frame or PGN with its number; a record of
the module's own receiver with its type; the data of a PRIO module with its index. -/
inductive Body where
  | sentence (text : List Byte)
  | binary (payload : List Byte)
  | can (pgn : Nat) (data : List Byte)
  | gnss (kind : Nat) (bytes : List Byte)
  | prio (modIndex : Nat) (data : List Byte)
  deriving DecidableEq, Repr

/-- A telegram handed on to the Heddle: its session, its arrival timestamp in DTIME ns (R579), for PRIO and GNSS the
time that goes with it (R89, R604), and its content. -/
structure Telegram where
  sess : Nat
  arrival : Ns
  time : Option Ns := none
  body : Body
  deriving DecidableEq, Repr

/-- A waypoint with the leg that leaves it (R214, R221): position in mm, leg speed, heading rule 0 course, 1 fixed,
2 course plus value, heading value. -/
structure Waypoint where
  north : Int
  east : Int
  speed : F32
  rule : Nat
  value : Bam
  deriving DecidableEq, Repr

/-- A mode or setpoint command as accepted (R201, R221, R231); positions resolved to absolute values. -/
inductive GuideCmd where
  | mode (code track : Nat)
  | position (north east : Int)
  | offset (north east : Int)
  | heading (h : Bam) (dir : Nat)
  | limits (v a r ya : F32)
  | track (pts : List Waypoint)
  | follow (north east : Int) (rule : Nat)
  | wind (on : Bool) (k : F32)
  | thruster (t : Nat) (on : Bool)
  deriving DecidableEq, Repr

/-- A member of a GOOSE dataset as decoded (R241, R577): its bits as a number, its value as a number, its quality. -/
structure GooseMember where
  bits : Nat := 0
  num : F64 := 0
  good : Bool := true
  deriving DecidableEq, Repr

/-- The values of P, q, A, l and u in the Wheel's data image, in storage order (R157, R161). -/
structure QpVals where
  p : List F64 := []
  q : List F64 := []
  a : List F64 := []
  l : List F64 := []
  u : List F64 := []
  deriving DecidableEq, Repr

/-- A row of an interior-point iterate in scaled units: slacks, multipliers, y (R156). -/
structure RowPt where
  sl : F64
  su : F64
  ll : F64
  lu : F64
  y : F64
  deriving DecidableEq, Repr

/-- An interior-point iterate in scaled units (R166). -/
structure IpPoint where
  x : List F64 := []
  rows : List RowPt := []
  deriving DecidableEq, Repr

/-- A completed iterate of the Wheel on the unscaled problem (R168, R169): x and its multipliers, the three measures, mean
complementarity, step length, ‖x‖ in scaled units, and the three quantities of the infeasibility test. -/
structure WheelStep where
  x : List F64 := []
  lamL : List F64 := []
  lamU : List F64 := []
  rp : F64 := 0
  rd : F64 := 0
  gap : F64 := 0
  mu : F64 := 0
  alpha : F64 := 0x3FF0000000000000#64
  normX : F64 := 0
  certA : F64 := 0x3FF0000000000000#64
  certY : F64 := 0
  certSum : F64 := 0
  deriving DecidableEq, Repr


/-- What the servo and the filters of the time base yield with a sample (R370, R379, R382, R386): the source's prediction of
the sample in 2⁻¹⁶ ns (none while it has none), the variance of its offset, the frequency correction in 10⁻¹², the servo's
estimate of the uncertainty in ns, the frequency uncertainty in ns/s. The spec does not give these filters' coefficients. -/
structure ServoOut where
  pred : Option Int := none
  var : Nat := 0
  freq : Int := 0
  unc : F64 := 0
  y0 : F64 := 0
  deriving DecidableEq, Repr

/-- An Announce message (R368, R375, R387): sender, grandmaster, its data set, the log₂ of its interval in s, UTC offset. -/
structure Announce where
  sender : U64
  gm : U64
  prio1 : Nat := 128
  cls : Nat := 248
  acc : Nat := 0xFE
  vari : Nat := 0xFFFF
  prio2 : Nat := 128
  logInt : Int := 0
  utcOfs : Int := 37
  utcValid : Bool := false
  leap61 : Bool := false
  leap59 : Bool := false
  deriving DecidableEq, Repr


/-- Consecutive samples of a stream that are alike (R299, R300): I, Q, the frame lane, how many. -/
structure SampRun where
  i : BitVec 4
  q : BitVec 4
  f : BitVec 4 := 8
  n : Nat := 1
  deriving DecidableEq, Repr

/-- What training finds on a stream (R302): bit t of a lane set while tap t showed no error in 4,096 samples; the places of the
marks in each pick of the check, counted in samples from the pick tick. -/
structure TrainIn where
  i : BitVec 128 := 0
  q : BitVec 128 := 0
  f : BitVec 128 := 0
  marks : List (List Nat) := []
  deriving DecidableEq, Repr

/-- A satellite as pair 2 predicts it (R313, R316, R317): constellation 0 GPS, 1 Galileo, 2 GLONASS, 3 BeiDou, 4 QZSS, 5 SBAS;
number or GLONASS slot, frequency number, signals it carries, elevation in 0.01°, an almanac of its constellation exists; per
signal the predicted code phase in half chips and Doppler in Hz. -/
structure SatIn where
  con : Nat
  sv : Nat
  fcn : Int := 0
  sigs : List Nat := []
  elev : Int := 0
  almanac : Bool := true
  pred : List (Nat × Nat × F64) := []
  deriving DecidableEq, Repr

/-- A cell of a search (R311): code bin of 0.5 chip and Doppler bin from the centre of the search, and the coherent I and Q sums of
its blocks over T_coh, in order. -/
structure CellIn where
  code : Int
  dop : Int
  blocks : List (Int × Int)
  deriving DecidableEq, Repr

/-- A dwell of a search (R311, R312): its strongest cells, and the statistics of all its other cells added up. -/
structure DwellIn where
  cells : List CellIn := []
  rest : Nat := 0
  deriving DecidableEq, Repr

/-- A dump (R320, R321, R324): primary code periods integrated (1 ms each for L2C before synchronisation), the sums of the taps VE, E,
P, L, VL, N, PD as I and Q before they saturate, the program's frequency error in Hz; synchronisation achieved: length in ms of the
data bit or secondary code and ms since its last boundary at this dump's end; a cycle slip found. -/
structure DumpIn where
  k : Nat := 1
  taps : List (Int × Int) := []
  ferr : F64 := 0
  sync : Option (Nat × Nat) := none
  slip : Bool := false
  deriving DecidableEq, Repr

/-- What the navigation data of a channel gives a latch (R335): the system time in ns, within its week (its day for GLONASS), at which
the primary code epoch 0 of the channel's count was sent, once the time of week is decoded; the polarity of the data bits resolved. -/
structure ChanIn where
  ch : Nat
  tow : Option Nat := none
  half : Bool := false
  deriving DecidableEq, Repr

/-- A satellite by the broadcast navigation data, at the time of sending (R338): position in m and velocity in m/s in WGS 84, clock in m
and m/s, delay of the ionosphere model on L1 and of the troposphere in m, standard deviations of a pseudorange in m and of a range
rate in m/s, elevation in 0.01°, the SBAS correction in m. -/
structure NavIn where
  con : Nat
  sv : Nat
  pos : F64 × F64 × F64
  vel : F64 × F64 × F64 := (0, 0, 0)
  clk : F64 := 0
  clkDot : F64 := 0
  iono : F64 := 0
  tropo : F64 := 0
  sig : F64 := 0x3FF0000000000000#64
  sigDop : F64 := 0x3FF0000000000000#64
  elev : Int := 9000
  sbas : Option F64 := none
  deriving DecidableEq, Repr

/-- The RTK solution (R341): satellites that give double differences, best and second-best residual of the integer search, position. -/
structure RtkIn where
  sats : List (Nat × Nat) := []
  best : F64
  second : F64
  lat : F64
  lon : F64
  hgt : F64
  sigH : F32 := 0
  sigV : F32 := 0
  deriving DecidableEq, Repr

/-- An attitude solution (R342, R344): best and second-best residual of its integer search, measured baseline lengths, angles,
standard deviations in degrees, satellites used. -/
structure AttIn where
  best : F64
  second : F64
  bl1 : F64
  bl2 : F64
  heading : Bam
  pitch : Bam
  roll : Bam
  sigHdg : F32 := 0
  sigAtt : F32 := 0
  nsv : Nat
  deriving DecidableEq, Repr

/-- The angle-of-arrival test of a signal of a satellite (R350): directions north, east, down of it and of the reference satellite of
its double differences, and the double differences measured on the two baselines in cycles, their fixed ambiguities removed. -/
structure AoaIn where
  con : Nat
  sv : Nat
  sig : Nat
  fcn : Int := 0
  dir : F64 × F64 × F64
  ref : F64 × F64 × F64
  dd1 : F64
  dd2 : F64
  deriving DecidableEq, Repr

/-- What pair 2 has at a latch beside the channels (R335 to R351): navigation data, the results of the integer searches, the double
differences of the common-direction test per baseline (1 or 2) in cycles, the leap-second count of the navigation data, the servo. -/
structure LatchIn where
  chans : List ChanIn := []
  nav : List NavIn := []
  rtk : Option RtkIn := none
  aoa : List AoaIn := []
  att : Option AttIn := none
  common : List (Nat × F64) := []
  leap : Option (Int × Bool × Bool) := none
  servo : ServoOut := {}
  deriving DecidableEq, Repr

/-- An input record of the Kiln table (R438): mode 0 OFF, 1 EQUIV, 2 ANTIV, 3 RESET; sources 0xFF none; filter in samples;
T_disc in ms. -/
structure KInRec where
  mode : Nat
  tpsA : Nat
  tpsB : Nat
  filter : Nat
  tdisc : Nat
  deriving DecidableEq, Repr

/-- An output record of the Kiln table (R438). -/
structure KOutRec where
  used : Bool
  flags : Nat
  restart : Nat
  xmask : Nat
  imask : Nat
  emask : Nat
  offDelay : Nat
  iMin : Nat
  deriving DecidableEq, Repr

/-- An envelope record of the Kiln table (R438): mode 0 unchecked, 1 tunnel, 2 azimuth; margin in %. -/
structure KEnvRec where
  mode : Nat
  margin : Nat
  fLim : F32
  fRev : F32
  fDot : F32
  omega : Bam
  aMargin : Bam
  sectors : List (Bam × Bam)
  deriving DecidableEq, Repr

/-- A cross-trip record of the Kiln table (R471): filter in 10 µs. -/
structure KXtRec where
  used : Bool
  lossEvent : Bool
  filter : Nat
  imask : Nat
  omask : Nat
  flags : Nat
  deriving DecidableEq, Repr

/-- The Kiln table (R438): its bytes and its records. Times P, W, S and t_d in µs, T_hb in ms, T_sw in s. -/
structure KTable where
  raw : List Byte
  sealId : U64
  p : Nat
  w : Nat
  s : Nat
  tpsEn : Nat
  hbT : Nat
  swInt : Nat
  swDark : Nat
  ins : List KInRec
  outs : List KOutRec
  envs : List KEnvRec
  xts : List KXtRec
  deriving DecidableEq, Repr

/-- Readback of an output pair (R418): voltages of its two terminals in mV, load current in mA, the overcurrent limit of
8 A for 5 µs acted, a gate read back against its command. -/
structure KOutMeas where
  vh : Nat := 0
  vl : Nat := 0
  cur : Nat := 0
  beyond : Bool := false
  gate : Bool := false
  deriving DecidableEq, Repr

/-- What the Kiln meets in one sample cycle (R398 to R418): terminal levels of channels A and B as KA reads them, and where KB reads
others those; supplies in mV, sources (voltage in mV, current limit acting), outputs, a condition result or output command of KB that
differs from KA's, an uncorrectable error in the table store, the claim line: dominant now, a valid claim frame of the partner ended
in this cycle. -/
structure KSample where
  a : Word := 0
  b : Word := 0
  aKb : Option Word := none
  bKb : Option Word := none
  fs1 : Nat := 24000
  fs2 : Nat := 24000
  src : List (Nat × Bool) := []
  out : List KOutMeas := []
  differ : Bool := false
  ecc : Bool := false
  dom : Bool := false
  claim : Bool := false
  deriving DecidableEq, Repr


/-- A warm-start record (R172), held as its fields, with the CRC-32C that it carries. -/
structure WarmRec where
  role : Nat
  fprint : U64
  beat : Nat
  anchor : Nat
  n : Nat
  m : Nat
  status : Nat
  iter : Nat
  mu : F64
  x : List F64
  lamL : List F64
  lamU : List F64
  chk : Word := 0
  deriving DecidableEq, Repr

/-- A plan (R181): DTIME of node 0, node distance in ms (0 for a single node), Fx and Fy per thruster and node. -/
structure WheelPlan where
  apply : Nat
  hMs : Nat
  nodes : List (List (F64 × F64))
  deriving DecidableEq, Repr

/-- A capture of the SYNC set: DTIME of the edge, TCLK there, the values of each variable by symbol and element: one value, or the fields
of a built-in instance (R511). -/
structure SyncCap where
  edge : Nat
  tclk : Nat
  vals : List ((Word × Nat) × List U64)
  deriving DecidableEq, Repr

/-- An entry of the force table (R501). -/
structure Force where
  sym : Word
  elem : Word
  ty : Nat
  value : U64
  deriving DecidableEq, Repr

/-- A force command (R501, R512): set, clear, clear all. -/
inductive ForceOp where
  | put (f : Force)
  | clear (sym elem : Word)
  | clearAll
  deriving DecidableEq, Repr

/-- What a mirrored command does when it is accepted (R468, R508, R512, R534). -/
inductive MirAct where
  | guide (g : GuideCmd)
  | select (group : Nat) (sess : Option Nat)
  | force (f : ForceOp)
  | taskRestart (i : Nat)
  | change (drop : Bool) (progId : U64)
  deriving DecidableEq, Repr

/-- The mode and the setpoints in force at the LEAD, with its reference and soft start (R200, R205, R206): positions in m, angles in
radians. -/
structure GuideSnap where
  mode : Nat := 0
  followTrk : Nat := 0
  sp : F64 × F64 := (0, 0)
  spH : F64 := 0
  dir : Nat := 0
  off : F64 × F64 := (0, 0)
  followRule : Nat := 0
  refP : F64 × F64 := (0, 0)
  refV : F64 × F64 := (0, 0)
  refA : F64 × F64 := (0, 0)
  refH : F64 := 0
  refR : F64 := 0
  refY : F64 := 0
  limits : Option (F64 × F64 × F64 × F64) := none
  track : List Waypoint := []
  leg : Nat := 0
  q : F64 × F64 := (0, 0)
  windCmd : Option (Bool × F64) := none
  soft : Option Nat := none
  beta : F64 := 0
  deriving DecidableEq, Repr

/-- A beat record that STATE frames carry (R453): the Observer output record, the Wheel outcome record and plan, the SYNC image, the
warm-start record. -/
inductive BeatRec where
  | obs (b : List Byte)
  | wheel (b : List Byte) (plan : Option WheelPlan)
  | sync (c : SyncCap)
  | warm (r : WarmRec)
  deriving DecidableEq, Repr

/-- A chunk of a beat record: its kind in the order of priority, the record's length, where the chunk begins and how many bytes it has;
the chunk that completes a record hands over the whole. -/
structure BeatChunk where
  kind : Nat
  total : Nat
  ofs : Nat
  len : Nat
  whole : Option BeatRec := none
  deriving DecidableEq, Repr

/-- A beat record on its way: its kind, its length, the bytes already sent. -/
structure OutRec where
  kind : Nat
  total : Nat
  sent : Nat
  rec' : BeatRec
  deriving DecidableEq, Repr

/-- What a STATE frame carries behind its header (R453): sequence numbers, mirrored commands, what became of those acknowledged (the
DTIME of acceptance, none when refused), the mode and setpoints in force, the agreed pick of an online change (as a DTIME of its tick,
with DROP_FORCES), acknowledgements, the PROGID of a staged change, and chunks of beat records. -/
structure StateBody where
  seqs : List (Nat × Word) := []
  cmds : List (Nat × MirAct) := []
  outcomes : List (Nat × Option Nat) := []
  guide : Option GuideSnap := none
  acks : List Nat := []
  staged : Option U64 := none
  agreed : Option (Nat × Bool) := none
  chunks : List BeatChunk := []
  deriving DecidableEq, Repr


/-- What a handshake settled on (R523), with the code points of the TLS registries: protocol version, cipher suite, group, the client's
signature scheme; whether the client showed a certificate; what must not be there: a pre-shared key or resumed session, 0-RTT data, a
connection ID; and whether the handshake itself, with its proof of possession, went through. -/
structure Handshake where
  version : Nat := 0xFEFC
  suite : Nat := 0x1301
  group : Nat := 0x0017
  scheme : Nat := 0x0403
  cert : Bool := true
  psk : Bool := false
  earlyData : Bool := false
  connId : Bool := false
  done : Bool := true
  deriving DecidableEq, Repr

/-- What a frame on port A or B carries (R558, R559, R576 to R578, R584): frames of the first four kinds are not handed on to
session processing; a frame of a command session is handed on to the row of its record. -/
inductive EthBody where
  | linkLocal
  | supervision
  | ptp
  | ipv6
  | arp (mine conflict : Bool)
  | icmp (b : List Byte)
  | igmp (v3 : Bool)
  | datagram450 (group : Word) (port : Nat) (b : List Byte)
  | udp (src : Word) (port : Nat) (b : List Byte)
  | goose (appid : Nat) (src gocb : List Byte) (st sq : Word) (ttl : Nat) (sim : Bool) (m : List GooseMember)
  | command
  | unknown
  deriving DecidableEq, Repr


/-- What the PMIC reads in a pick (R671, R679, R690, R694): VIN, HOLD and VBAT in mV, the one-second mean input power in mW, the rail
groups that are good, temperatures in 0.1 °C. -/
structure PowerIn where
  vin : Nat := 24000
  hold : Nat := 48000
  vbat : Nat := 3000
  inPwr : Nat := 42000
  rails : BitVec 5 := 31
  tBase : Int := 250
  tLoom : Int := 250
  tKiln : Int := 250
  tPmic : Int := 250
  deriving DecidableEq, Repr

end Sys2Proof
end

