-- ==== Sys2Proof/Draft.lean ====
section
/-! DEFINITION. The Draft (the configuration image) as typed data, block by block: the parameters that the chapters
give it (R543). The byte layout of the image as a whole is not given by the spec. -/

namespace Sys2Proof

/-- WARP and module parameters of a Draft (R48, R521, R665). -/
structure DraftBase where
  /-- The 8-byte Draft identity (R543). -/
  ident : U64 := 0
  /-- Key identifier of the certificate under which the Draft's signature verifies, and of the one under which its Kiln table's
  co-signature verifies; none where it verifies under none (R543). -/
  sigKey : Option U64 := none
  coKey : Option U64 := none
  /-- Beat length selection (R48). -/
  nsel : BitVec 3 := 1
  /-- AUTOREADY (R521). -/
  autoReady : Bool := true
  /-- GNSS raw decimation (R665). -/
  rawDecim : Nat := 10
  /-- Incident span in minutes (R665). -/
  incidentMin : Nat := 10
  deriving DecidableEq, Repr

/-- A field descriptor of a decoder table (R84). -/
structure FieldDesc where
  src : Nat
  fmt : Nat
  width : Nat
  dest : Nat
  required : Bool
  unit : Nat
  mtch : Nat
  scale : F64
  offset : F64
  deriving DecidableEq, Repr

/-- A decoder table as its 16-byte header and its descriptors spell it (R83). -/
structure DecTable where
  id : Nat
  framing : Nat
  key : List Byte
  keyOfs : Nat
  reckind : Nat
  noChk : Bool
  desc : List FieldDesc
  deriving DecidableEq, Repr

/-- A mount: lever arm in mm, roll, pitch and yaw offsets (R97). -/
structure Mount where
  x : Int
  y : Int
  z : Int
  roll : Bam
  pitch : Bam
  yaw : Bam
  deriving DecidableEq, Repr

/-- The intake parameters of a session (R117): timing 0 TELEGRAM, 1 ARRIVAL, 2 INTERNAL; group 0 none, 1 position,
2 heading, 3 attitude, 4 heave, 5 wind. -/
structure Intake where
  sess : Nat
  timing : Nat := 0
  latencyUs : Nat := 0
  maxAgeMs : Nat := 200
  arrFactor : F64 := 0x4010000000000000#64
  mount : Nat := 0
  group : Nat := 0
  sigma : F64 := 0
  heaveSigma : F64 := 0
  classMap : List Nat := [0, 1, 1, 1, 1, 1, 1, 1, 1, 1]
  mult : List F64 := List.replicate 7 0x3FF0000000000000#64
  sigRho : F64 := 0x3FA999999999999A#64
  sigBeta : F64 := 0x3F5C987103B761F5#64
  moving : Bool := false
  deriving DecidableEq, Repr

/-- A group's gate parameters (R101, R110). -/
structure GroupParam where
  gmin : F64
  k : F64 := 0x4010000000000000#64
  minSel : Nat := 2
  deriving DecidableEq, Repr

/-- HEDDLE's part of the Draft (R8 origin, R82, R97, R101, R117). -/
structure DraftHeddle where
  /-- The decoder tables as bytes: each a header of 16 bytes and 24 bytes for every descriptor (R83, R84). -/
  tableImages : List (List Byte) := []
  mounts : List (Nat × Mount) := []
  intake : List Intake := []
  /-- Position, heading, attitude, heave, wind; angles in radians. -/
  groups : List GroupParam := [
    { gmin := 0x3FD3333333333333#64 }, { gmin := 0x3F81DF46A2529D39#64 }, { gmin := 0x3F81DF46A2529D39#64 },
    { gmin := 0x3FC999999999999A#64 }, { gmin := 0x3FF0000000000000#64 }]
  reflectors : List (F64 × F64 × F64) := []
  /-- WGS 84 latitude, longitude (radians) and height (m) of the origin. -/
  lat0 : F64 := 0
  lon0 : F64 := 0
  h0 : F64 := 0
  deriving DecidableEq, Repr

/-- OBS's part of the Draft (R132): matrices by rows, angles in radians, times in seconds. -/
structure DraftObs where
  m : (F64 × F64 × F64) × (F64 × F64 × F64) × (F64 × F64 × F64)
  d : (F64 × F64 × F64) × (F64 × F64 × F64) × (F64 × F64 × F64)
  tThr : F64 × F64 × F64 := (0x3FF0000000000000#64, 0x3FF0000000000000#64, 0x3FF0000000000000#64)
  lambda : F64 := 0x3FB999999999999A#64
  tpMin : F64 := 0x4014000000000000#64
  tpMax : F64 := 0x4034000000000000#64
  tp0 : F64 := 0x4024000000000000#64
  qNu : F64 × F64 × F64
  qB : F64 × F64 × F64
  qW : F64 × F64 × F64
  qTau : F64 × F64 × F64
  /-- Initial standard deviation of each of the 18 states. -/
  sd0 : List F64
  posWarn : F64 := 0x4000000000000000#64
  posLimit : F64 := 0x4014000000000000#64
  hdgWarn : F64 := 0x3F91DF46A2529D39#64
  hdgLimit : F64 := 0x3FAACEE9F37BEBD5#64
  maxDrS : Nat := 600
  warmAgeS : Nat := 120
  wind : Bool := true
  fingerprint : U64 := 0
  deriving DecidableEq, Repr

/-- What a variable of the joint problem stands for (R232): a thruster's force component (body y when `y`), its power, a section's bus
slack, a demand slack, a component of the vessel state, each at its node. -/
inductive VarRole where
  | force (t j : Nat) (y : Bool)
  | power (t j : Nat)
  | busSlack (b j : Nat)
  | demandSlack (k : Nat)
  | vessel (j k : Nat)
  deriving DecidableEq, Repr

/-- What a row of the joint problem stands for (R233). -/
inductive RowRole where
  | avail (t j : Nat) (y : Bool)
  | region (t j i : Nat)
  | wedge (t j : Nat) (second : Bool)
  | rate (t j i : Nat)
  | power (t j i : Nat)
  | bus (b j : Nat)
  | slackPos (b j : Nat)
  | demand (k : Nat)
  | dynamics (j k : Nat)
  | initial (k : Nat)
  deriving DecidableEq, Repr

/-- A Wheel schedule: the header of R159 and the sections of R160. The supernode partition and the engine program are private to the
Workbench and stay bytes. What each variable and row stands for is the Workbench's too, and is held with the schedule (log entry 13). -/
structure WheelSched where
  version : Nat := 1
  role : Nat
  n : Nat
  m : Nat
  nnzP : Nat
  nnzA : Nat
  nnzL : Nat
  nSuper : Nat
  hSteps : Nat
  hMs : Nat
  tSetup : Nat
  tIter : Nat
  mem : Nat
  fprint : U64
  nThr : Nat
  chk : Word
  colP : List Nat
  rowP : List Nat
  colA : List Nat
  rowA : List Nat
  /-- Per thruster and node: indices of Fx and Fy, 0xFFFF for none. -/
  thrMap : List (List (Nat × Nat))
  shift : List Nat
  /-- The fill-reducing ordering: n + m indices. -/
  perm : List Nat := []
  supers : List (BitVec 8) := []
  program : List (BitVec 8) := []
  vars : List VarRole := []
  rows : List RowRole := []
  deriving DecidableEq, Repr

/-- WHEEL's part of the Draft (R158, R193). -/
structure DraftWheel where
  scheds : List WheelSched := []
  epsP : F64 := 0x3EB0C6F7A0B5ED8D#64
  epsD : F64 := 0x3EB0C6F7A0B5ED8D#64
  epsG : F64 := 0x3EB0C6F7A0B5ED8D#64
  cap : Nat := 40
  deriving DecidableEq, Repr

/-- The guidance parameters (R223): angles and angular rates in radians. -/
structure DraftGuide where
  joy : Option Nat := none
  db : F64 := 0x3FA999999999999A#64
  fxMax : Option F64 := none
  fyMax : Option F64 := none
  mMax : Option F64 := none
  wr : F64 := 0x3FB999999999999A#64
  vMax : F64 := 0x3FE0000000000000#64
  aMax : F64 := 0x3F947AE147AE147B#64
  rMax : F64 := 0x3F757254C2C98977#64
  yawAcc : F64 := 0x3F26E05A695F8191#64
  kp : F64 × F64 × F64
  kd : F64 × F64 × F64
  tSs : F64 := 0x4034000000000000#64
  wCont : F64 := 0x3FF0000000000000#64
  maxStep : F64 := 0x4049000000000000#64
  centre : F64 × F64 := (0, 0)
  radius : F64 := 0x40C3880000000000#64
  xteWarn : F64 := 0x4014000000000000#64
  tWv : F64 := 0x405E000000000000#64
  fMin : F64 := 0x40D3880000000000#64
  lWv : F64 := 0
  windOn : Bool := true
  kw : F64 := 0x3FE999999999999A#64
  tWf : F64 := 0x4008000000000000#64
  rhoA : F64 := 0x3FF399999999999A#64
  aF : Option F64 := none
  aL : Option F64 := none
  lOa : Option F64 := none
  cx : Option (List F32) := none
  cy : Option (List F32) := none
  cn : Option (List F32) := none
  maxWind : F64 := 0x404E000000000000#64
  deriving DecidableEq, Repr

/-- A thruster record (R228). A tunnel thruster uses fFwd and fRev, an azimuth thruster fMax, facets, sectors and azRate.
`station` is the remote station that carries its drive, if one does (R230 cause 5); `manual` is the SAFE action (R568). -/
structure ThrRec where
  azi : Bool
  x : Int
  y : Int
  sect : Nat
  fFwd : F32 := 0
  fRev : F32 := 0
  fMax : F32 := 0
  facets : List F32 := []
  sectors : List (Bam × Bam) := []
  /-- rad/s. -/
  azRate : F64 := 0
  /-- N/s. -/
  thrRate : F64
  p0 : F64
  pMax : F64
  sess : Nat
  sync : Bool := false
  slot : Option Nat := none
  station : Option Nat := none
  manual : Bool := false
  deriving DecidableEq, Repr

/-- A failure set (R253). -/
structure Scenario where
  thr : List Nat := []
  gens : List Nat := []
  sects : List Nat := []
  deriving DecidableEq, Repr

/-- ALLOC's allocation parameters (R257). -/
structure DraftAlloc where
  thr : List ThrRec := []
  /-- The last power node; none where the Draft leaves the default. -/
  jP : Option Nat := none
  k : Nat := 3
  wF : F64 := 0x3E112E0BE826D695#64
  wDelta : F64 := 0x3E7AD7F29ABCAF48#64
  wP : F64 := 0x3F50624DD2F1A9FC#64
  wSig : F64 := 0x408F400000000000#64
  wSig2 : F64 := 0x3FF0000000000000#64
  wS : F64 × F64 × F64 := (0x3F847AE147AE147B#64, 0x3F847AE147AE147B#64, 0x3F847AE147AE147B#64)
  wFf : F64 := 0x3E45798EE2308C3A#64
  /-- Tracking weights of position and heading (R207); no table of the spec lists them (log entry 132). -/
  wPos : F64 := 0x3FF0000000000000#64
  wHdg : F64 := 0x3FF0000000000000#64
  tauMax : F64 × F64 × F64
  scenarios : List Scenario := []
  mc : F64 := 0x3FF3333333333333#64
  tolc : F64 := 0x3F947AE147AE147B#64
  deriving DecidableEq, Repr

/-- Where a breaker position comes from (R240). -/
inductive SrcKind where
  | goose (sess mem : Nat)
  | di (k : Nat)
  | prio (station bit : Nat)
  deriving DecidableEq, Repr

/-- A breaker source: polarity, and whether staleness means open (R241). -/
structure BrkSource where
  kind : SrcKind
  inv : Bool := false
  staleOpen : Bool := false
  deriving DecidableEq, Repr

/-- A number that is fixed or comes from a GOOSE member with a substitute until its first good value (R240, R241). -/
inductive NumSource where
  | fixed (v : F64)
  | goose (sess mem : Nat) (subst : Option F64 := none)
  deriving DecidableEq, Repr

structure GenRec where
  sect : Nat
  /-- kW. -/
  pRated : F64
  kst : F64 := 0x3FF199999999999A#64
  derate : NumSource := .fixed 0x3FF0000000000000#64
  breaker : List BrkSource
  tOnlineMs : Nat := 5000
  deriving DecidableEq, Repr

structure SectRec where
  load : NumSource := .fixed 0
  reserve : F64 := 0
  deriving DecidableEq, Repr

structure TieRec where
  a : Nat
  b : Nat
  breaker : List BrkSource
  deriving DecidableEq, Repr

/-- The power plant (R240, R242, R246). -/
structure DraftPlant where
  gens : List GenRec := []
  sects : List SectRec := []
  ties : List TieRec := []
  /-- T_st in seconds. -/
  tSt : F64 := 0x4034000000000000#64
  /-- Filter time of the fast digital inputs in µs (R242); the default is the model's (log entry 136). -/
  diFilterUs : Nat := 0
  deriving DecidableEq, Repr

/-- A feedback source of a slot (R266): an analog channel, a numeric item of a PRIO station (station, item), or a decoded
field of a session (session, DEST); with scale and offset. The drive's THRUST and OUTPUT are session fields (R571). -/
inductive FbKind where
  | analog (ch : Nat)
  | prio (station item : Nat)
  | session (sess dest : Nat)
  | driveThrust (thr : Nat)
  | driveOutput (thr : Nat)
  deriving DecidableEq, Repr

structure FbSource where
  kind : FbKind
  scale : F64 := 0x3FF0000000000000#64
  offset : F64 := 0
  lo : F64 := 0xFFEFFFFFFFFFFFFF#64
  hi : F64 := 0x7FEFFFFFFFFFFFFF#64
  deriving DecidableEq, Repr

/-- A controller of a slot (R269, R272, R290). -/
structure CtrlRec where
  fb : FbSource
  limit : F64 := 0
  onLossDrop : Bool := false
  kp : F64
  ki : F64
  kd : F64
  /-- Seconds. -/
  tf : F64 := 0x3F847AE147AE147B#64
  tt : F64 := 0x3FB999999999999A#64
  deriving DecidableEq, Repr

/-- The period source of the repetitive stage (R274). -/
inductive RepSource where
  | fixed (period : F64)
  | pulseDi (k : Nat)
  | pulsePrio (station bit : Nat)
  | wave (dof : Nat)
  deriving DecidableEq, Repr

/-- The repetitive stage (R273 to R275, R290). -/
structure RepRec where
  source : RepSource
  tMin : F64
  tMax : F64
  len : Nat := 64
  nAdv : Nat := 0
  krc : F64 := 0x3FB999999999999A#64
  q : F64 := 0x3FEFF7CED916872B#64
  urc : F64
  tFade : F64 := 0x4000000000000000#64
  deriving DecidableEq, Repr

/-- A slot record (R264 to R290): maps of 17 points; fallback kind 0 HOLD, 1 RAMP, 2 HANDOVER. -/
structure SlotRec where
  slot : Nat
  uLo : F64
  uHi : F64
  signed : Bool := false
  duMax : F64
  refMap : List F64
  ffMap : List F64
  /-- Range of the feedforward map's argument. -/
  ffLo : F64
  ffHi : F64
  capMap : List F64
  refRate : F64 := 0
  ctrls : List CtrlRec
  actual : Option FbSource := none
  sStale : Nat := 5
  nFz : Nat := 100
  qFz : F64 := 0
  duFz : F64
  wVar : Nat := 1000
  varMin : F64 := 0
  eMax : F64
  tFe : Nat := 500
  fbKind : Nat := 1
  /-- Per second. -/
  rampRate : F64
  uZero : F64 := 0
  autoRec : Bool := false
  /-- Milliseconds. -/
  tRec : Nat := 5000
  tSs : Nat := 2000
  rep : Option RepRec := none
  deriving DecidableEq, Repr


/-- An IF stream (R306): band code, zero frequency in Hz, inversion. -/
structure StreamRec where
  band : Nat
  fz : Nat
  inv : Bool := false
  deriving DecidableEq, Repr

/-- An enabled signal (R316): SIGID, priority, three-antenna mark, parameter set. -/
structure SignalRec where
  sig : Nat
  prio : Nat
  three : Bool := true
  pset : Nat := 0
  deriving DecidableEq, Repr

/-- A parameter set (R327): program 0 TRK_STD, 1 TRK_BOC, 2 TRK_FDMA, 3 TRK_WEAK; d and d_v in hundredths of a chip; times in
ms; thresholds as stated. -/
structure PsetRec where
  prog : Nat := 0
  bPll : F64 := 0x402E000000000000#64
  order : Nat := 3
  bFll : F64 := 0x4010000000000000#64
  bDll : F64 := 0x3FE0000000000000#64
  d : Nat := 20
  dv : Nat := 50
  tiMax : Nat := 20
  tCoh : Nat := 1
  nNc : Nat := 10
  acq : F64 := 0x402C000000000000#64
  pli : F64 := 0x3FE999999999999A#64
  /-- 0.01 dB-Hz. -/
  loss : Int := 2500
  tLoss : Nat := 500
  deriving DecidableEq, Repr

/-- GNSS's part of the Draft (R306, R316, R327, R345, R354): the twelve streams, excluded satellites as (constellation,
number), antenna vectors in mm, ranges as in R354, thresholds of MULTIPATH to COUNTERFEIT. -/
structure DraftGnss where
  streams : List (Option StreamRec) := []
  signals : List SignalRec := []
  psets : List PsetRec := []
  /-- 0.01°. -/
  mask : Nat := 500
  excluded : List (Nat × Nat) := []
  mLat : Nat := 100
  ants : List (Option (Int × Int × Int)) := [some (0, 0, 0), none, none]
  delays : List Nat := []
  rtcm : Option Nat := none
  /-- s. -/
  ageLimit : Nat := 10
  ratio : F64 := 0x4008000000000000#64
  tRr : F64 := 0x3FC999999999999A#64
  iLo : F64 := 0xC024000000000000#64
  iHi : F64 := 0x4062C00000000000#64
  tRes : F64 := 0x4014000000000000#64
  tClk : F64 := 0x4049000000000000#64
  tAoa : F64 := 0x3FC3333333333333#64
  thresh : List Nat := [160, 160, 160, 160]
  /-- The internal position, heading and attitude sessions. -/
  posSess : Option Nat := none
  hdgSess : Option Nat := none
  attSess : Option Nat := none
  deriving DecidableEq, Repr


/-- PAIR's part of the Draft (R449, R451, R475). -/
structure DraftPair where
  /-- Pair mode: 0 SOLO, 1 PAIR. -/
  mode : Nat := 0
  /-- Rejoin after restart: 0 MANUAL, 1 AUTO. -/
  rejoin : Nat := 0
  /-- Divergence test: 0 off, 1 on. -/
  diverge : Nat := 1
  /-- The pair fingerprint. -/
  print : U64 := 0
  deriving DecidableEq, Repr


/-- A routine of the Twill code: its first word and its length in words (R495). -/
structure TwRoutine where
  start : Nat
  len : Nat
  deriving DecidableEq, Repr

/-- A task (R481). -/
structure TwTask where
  beat : Bool := false
  m : Nat := 1
  phase : Nat := 0
  prio : Nat := 0
  wMs : Nat := 10
  restart : Bool := false
  subst : Bool := false
  /-- Word address of its entry routine. -/
  entry : Nat
  /-- Symbol IDs of its SYNC set. -/
  sync : List Word := []
  deriving DecidableEq, Repr

/-- A symbol: area 3 data, 4 retentive, 5 input image, 6 output image (the operand modes of R495); bit address, type code,
element count, writer task, and whether it is a built-in instance (type then 0x10) or elementary. -/
structure TwSym where
  id : Word
  area : Nat
  bit : Nat
  ty : Nat
  count : Nat := 1
  writer : Option Nat := none
  /-- A built-in instance: its length in bytes and whether it is a timer. -/
  inst : Option (Nat × Bool) := none
  deriving DecidableEq, Repr

/-- What the Shuttle copies into the input image at a release, beside the PRIO modules and analog channels (R487). -/
inductive TwSource where
  | di (k : Nat)
  | session (sess dest : Nat) (ty : Nat)
  | kiln (offset : Nat)
  | obsRecord
  | wheelRecord
  deriving DecidableEq, Repr

structure TwInMap where
  src : TwSource
  ofs : Nat
  st : Option Nat := none
  deriving DecidableEq, Repr

/-- An area of the output image with its writer task; the output session it feeds, if one (R488, R489). -/
structure TwOutArea where
  ofs : Nat
  len : Nat
  writer : Nat
  sess : Option Nat := none
  /-- Bytes of each telegram field in the area: 1, 2, 4 or 8. -/
  unit : Nat := 1
  deriving DecidableEq, Repr

/-- A Twill program: the Shuttle's part of the Draft, or the program of an online change (R481, R487 to R495, R504). -/
structure TwProg where
  code : List Word := []
  routines : List TwRoutine := []
  tasks : List TwTask := []
  syms : List TwSym := []
  inMaps : List TwInMap := []
  outAreas : List TwOutArea := []
  /-- Bytes of the areas that do not start at 0: (area, byte offset, byte). -/
  init : List (Nat × Nat × Byte) := []
  progId : U64 := 0
  retId : U64 := 0
  deriving DecidableEq, Repr

/-- A staged online-change image (R504, R506): its base PROGID, the new program, the pair fingerprint that goes with it, and the key
identifier of the anchor under which its signature verifies, if one. -/
structure TwChange where
  base : U64
  prog : TwProg
  print : U64 := 0
  sigKey : Option U64 := none
  deriving DecidableEq, Repr


/-- A PTP domain (R372, R375, R392): profile 0 default delay request-response, 1 default peer-to-peer, 2 power utility, any
other value an unsupported one; transport 0 Ethernet, 1 UDP on IPv4. -/
structure PtpDomain where
  number : Nat := 0
  profile : Nat := 0
  transport : Nat := 0
  master : Bool := false
  prio1 : Nat := 128
  prio2 : Nat := 128
  deriving DecidableEq, Repr

/-- A PPS output (R388, R392): mode 0 OFF, 1 ESTABLISHED, 2 ALWAYS; width in ms; advance in ns. -/
structure PpsRec where
  mode : Nat := 1
  width : Nat := 100
  low : Bool := false
  advance : Nat := 0
  deriving DecidableEq, Repr

/-- TIME's part of the Draft (R392): ranks of PTPA, PTPB and GNSS (none disabled), domains of PTPA, PTPB and the ring,
asymmetries of ports A to D in 0.5 ns, times in ns unless said otherwise. -/
structure DraftTime where
  ranks : List (Option Nat) := [none, none, some 1]
  domains : List PtpDomain := [{}, { number := 1 }, {}]
  ringLog : Int := -3
  asym : List Int := [0, 0, 0, 0]
  /-- Hz. -/
  bPtp : F64 := 0x3FA999999999999A#64
  bGnss : F64 := 0x3F847AE147AE147B#64
  /-- s. -/
  tQual : Nat := 10
  tAgree : Nat := 200
  tStep : Nat := 1000000
  thresh : Nat := 1000
  holdLimit : Nat := 10000
  /-- ns/s². -/
  dRef : F64 := 0x3EC0C6F7A0B5ED8D#64
  dTcxo : F64 := 0x3F50624DD2F1A9FC#64
  refUse : Bool := true
  pps : List PpsRec := [{}, {}]
  leap : Nat := 37
  deriving DecidableEq, Repr

/-- A provisioned session record (R580). -/
structure SessRec where
  index : Nat
  kind : Nat
  rx : Bool := true
  tx : Bool := false
  rtcm : Bool := false
  iface : Nat := 0
  address : List Byte := []
  tStaleUs : Nat := 1000000
  tLostUs : Nat := 5000000
  admitN : Nat := 3
  glaze : Nat := 255
  rate : Nat := 100
  errLim : Nat := 10
  period : Nat := 0
  tables : List Nat := []
  deriving DecidableEq, Repr


/-- A UART (R572): rate, receive and transmit session. -/
structure UartRec where
  baud : Nat := 0
  rx : Option Nat := none
  tx : Option Nat := none
  deriving DecidableEq, Repr

/-- A CAN controller (R574, R575): bit rates, format, mode, NMEA 2000, acceptance filters (identifier, mask). -/
structure CanRec where
  nominal : Nat := 250000
  fdRate : Nat := 0
  fd : Bool := false
  listen : Bool := false
  n2k : Bool := false
  filters : List (Nat × Nat) := []
  deriving DecidableEq, Repr

/-- A GOOSE subscription's key and the types of its members (R577): type 0 boolean, 1 bit-string, 2 integer, 3 unsigned,
4 binary32. -/
structure GooseRec where
  sess : Nat
  appid : Nat
  src : List Byte
  gocb : List Byte
  types : List Nat := []
  deriving DecidableEq, Repr

/-- NET and FIELD (R555 to R558, R562, R564, R572 to R577). -/
structure DraftNet where
  ip : Word := 0
  plen : Nat := 24
  gateway : Word := 0
  /-- Forced speed code of ports A and B; none negotiates. -/
  speedA : Option Nat := none
  speedB : Option Nat := none
  driveVlan : Nat := 0
  prioVlan : Nat := 0
  beatGroup : List Byte := []
  replyGroup : List Byte := []
  /-- Multicast groups of IEC 61162-450 with their UDP ports (R576). -/
  groups : List (Word × Nat) := []
  /-- The module's own identity in the tag blocks it sends. -/
  ident : List Byte := []
  uarts : List UartRec := []
  cans : List (Option CanRec) := []
  goose : List GooseRec := []
  deriving DecidableEq, Repr

/-- A Glaze parameter set (R611). -/
structure GlazeSet where
  width : Nat
  refin : Bool
  refout : Bool
  poly : Nat
  init : Nat
  xorout : Nat
  deriving DecidableEq, Repr


/-- A module of a remote station (R594, R600): alive modes 0 NONE, 1 COUNT, 2 COUNT_NZ; where the input image holds its
data and status byte, and the output image its output data. -/
structure StaModule where
  index : Nat
  mtype : Nat
  inLen : Nat := 0
  outLen : Nat := 0
  aliveIn : Nat := 0
  aliveOut : Nat := 0
  glaze : Option Nat := none
  inOfs : Option Nat := none
  stOfs : Option Nat := none
  outOfs : Option Nat := none
  deriving DecidableEq, Repr

/-- A remote station (R594). -/
structure StaRec where
  sta : Nat
  sess : Nat
  cycle : Nat := 1
  phase : Nat := 0
  /-- T_wd in ms; none for the default, cycle + 9. -/
  wd : Option Nat := none
  mods : List StaModule
  skip : Nat := 3
  thr : List Nat := []
  ageOfs : Option Nat := none
  deriving DecidableEq, Repr


/-- The freeze source of a DC block (R634). -/
inductive FrzSource where
  | none
  | di (k : Nat)
  | out (bit : Nat)
  deriving DecidableEq, Repr

/-- An analog channel (R640): mode 0 OFF, 1 VOLT, 2 CURRENT, 3 RESOLVER; rate code 0 to 3 for 1, 2, 4, 8 kHz; where the
input image holds its value and status byte. -/
structure AdcChan where
  mode : Nat := 0
  rate : Nat := 0
  flat : Bool := true
  dcb : Bool := false
  /-- Hz. -/
  fc : F64 := 0x3FB999999999999A#64
  freeze : FrzSource := .none
  cal : Bool := true
  inOfs : Option Nat := none
  stOfs : Option Nat := none
  deriving DecidableEq, Repr

/-- An excitation output with its resolver pair (R640): kHz, volts rms. -/
structure ExcRec where
  fex : Nat := 8
  amp : F64 := 0x4010000000000000#64
  phase : Bam := 0
  ratio : F64 := 0x3FE0000000000000#64
  deriving DecidableEq, Repr

structure DraftAdc where
  chans : List AdcChan := []
  exc : List ExcRec := []
  deriving DecidableEq, Repr

/-- The Draft: the configuration image, block by block. -/
structure Draft where
  base : DraftBase := {}
  heddle : DraftHeddle := {}
  obs : DraftObs
  wheel : DraftWheel := {}
  guide : DraftGuide
  alloc : DraftAlloc
  plant : DraftPlant := {}
  loop : List SlotRec := []
  /-- The provisioned session records, 64 bytes each (R580). -/
  sessionImages : List (List Byte) := []
  /-- Glaze sets 4 to 63 by index, 16 bytes each (R611). -/
  glazeImages : List (Nat × List Byte) := []
  stations : List StaRec := []
  adc : DraftAdc := {}
  shuttle : TwProg := {}
  pair : DraftPair := {}
  net : DraftNet := {}
  time : DraftTime := {}
  gnss : DraftGnss := {}
  /-- The Kiln table (R438), 3,208 bytes. -/
  kiln : List Byte := []
  deriving DecidableEq, Repr


/-- What the bytes of a bulk transfer spell (R544): a Draft, an online change, or a firmware image with its version, its epoch and
whether its signature verifies. -/
inductive BulkImage where
  | draft (d : Draft)
  | change (c : TwChange)
  | firmware (version : Word) (epoch : Nat) (ok : Bool)
  deriving DecidableEq, Repr

end Sys2Proof
end

