-- ==== Sys2Proof/Syntax.lean ====
section
/-! DEFINITION. The commands of the block: one constructor per row of spec/opcode_table.json. A command's operands are
what arrives from outside the module with it: telegram contents, arrival instants, measured values, register values. -/

namespace Sys2Proof

/-- The commands (log entry 1): each constructor is one whole step. -/
inductive Instr where
  /-- POWER_UP (R675): VIN reaching 17.0 V brings the dies up in fixed order, increments PCC and starts BOOT. -/
  | powerUp (rtc : Option Nat)
  /-- POWER_FAIL_WARNING (R676): VIN below 16.5 V, above 40 V or a thermal shutdown makes the PMIC warn the Loom and Kiln and carry the module from HOLD. -/
  | powerFailWarning
  /-- WARNING_WITHDRAWN (R677): VIN back above 17.0 V for 10 ms before hold-up ends withdraws the warning and recharges HOLD. -/
  | warningWithdrawn
  /-- HOLD_UP_END (R676): HOLD falling to 16.0 V ends the hold-up and the PMIC powers the module down. -/
  | holdUpEnd
  /-- RST_N_LOW (R682): RST_N low for 10 µs or more resets the Loom into a cold start at BOOT. -/
  | rstNLow
  /-- PMIC_WATCHDOG_EXPIRY (R682): 100 ms without service from control-core pair 0 resets the Loom into a cold start. -/
  | pmicWatchdogExpiry
  /-- RAIL_FAULT (R683): A rail out of range holds its die in reset, with the reactions and latching of the fault rules. -/
  | railFault (rail : Nat)
  /-- THERMAL_SHUTDOWN (R690): Baseplate above 110 °C or a junction above 125 °C for 10 ms starts the warning, hold-up and shutdown. -/
  | thermalShutdown
  /-- THERMAL_RECOVERY (R690): After a thermal shutdown the cooled module powers up as from OFF with reset code 7. -/
  | thermalRecovery (tBase tLoom tKiln tPmic : Int) (rtc : Option Nat)
  /-- VIN_OUT_OF_BAND (R673): VIN in a warning band for 1 s sets VINOUT and raises an event. -/
  | vinOutOfBand
  /-- HOLD_CAPACITANCE_MEASURE (R679): Every hour the PMIC measures the HOLD capacitance by a 2 V discharge and updates the hold-up estimate. -/
  | holdCapacitanceMeasure (us : Nat)
  /-- HOLD_CHARGE_TIMEOUT (R681): HOLDOK not reached 1.0 s after charging began raises an event and sets HOLDLOW while the start continues. -/
  | holdChargeTimeout
  /-- BOOT_VERIFY_COMPLETE (R540): The boot ROM finishes verifying a firmware slot, falling back to the other slot or staying in BOOT on failure. -/
  | bootVerifyComplete (seat ok0 ok1 : Bool) (us : Nat)
  /-- SELFTEST_COMPLETE (R518): The self-tests end, taking the module to STANDBY or to SAFE with cause SELFTEST. -/
  | selftestComplete (ok : Bool) (trips : List (Bool × Bool)) (glazeBad : BitVec 16) (draftWhole : Bool) (hits : List (Nat × Nat × Byte)) (damaged : List Word)
  /-- CLOCK_COMPARISON (R33): Every 25 µs the 15 frequency comparisons are evaluated and failures confirmed. -/
  | clockComparison (counts : List (Nat × Nat)) (half : Nat × Nat)
  /-- OTIME_SAVE (R361): Every second the time base saves OTIME in MRAM. -/
  | otimeSave
  /-- PICK_TICK (R67): The pick tick from the phase accumulator starts a pick and its fast lane. -/
  | pickTick (netUs : Nat) (spare : Bool) (streams : List (List SampRun)) (exc : List F64) (svcEn : Bool) (pw : PowerIn)
  /-- BEAT_EDGE (R60): At a beat edge the Warp runs the edge check and starts the beat in a Reed bank or drops it. -/
  | beatEdge
  /-- DROP_WINDOW_DEGRADE (R64): The third drop within 100 edges sets DEGDROP and records the DROPS cause. -/
  | dropWindowDegrade
  /-- DROP_WINDOW_CLEAR (R65): 100 clean edges clear DEGDROP and may return the module to ACTIVE. -/
  | dropWindowClear
  /-- DROP_RUN_SAFE (R66): Ten consecutive dropped beats take the module to SAFE. -/
  | dropRunSafe
  /-- INTAKE (R55): INTAKE latches for each session the newest value that arrived before the cutoff. -/
  | intake
  /-- PROJECT_AND_VOTE (R104): Candidate values are projected to the reference point and each group is voted. -/
  | projectAndVote
  /-- OBSERVE (R135): The Observer propagates, applies updates, guards and writes its output and prediction. -/
  | observe
  /-- MAX_DEAD_RECKONING_TIME (R143): Position dead reckoning beyond the maximum time sets POSLOST. -/
  | maxDeadReckoningTime (t : Ns)
  /-- WAVE_FREQUENCY_UPDATE (R130): After each 60 s interval the wave frequency is updated from zero crossings. -/
  | waveFrequencyUpdate
  /-- OBS_WARM_RECORD_WRITE (R145): Every 100th started beat the Observer writes a warm-restart record to MRAM. -/
  | obsWarmRecordWrite
  /-- BEAT_TASK_RELEASE (R482): At b+1.50 of a started beat the BEAT task is released. -/
  | beatTaskRelease
  /-- GUIDE (R208): GUIDE applies commands, advances the reference model and writes the data image. -/
  | guide (t : Ns)
  /-- SOFT_START_COMPLETE (R207): The blend factor reaching 1 ends the soft start. -/
  | softStartComplete
  /-- SOLVE_START (R165): SOLVE begins with setup and the starting point and pre-empts any consequence solve. -/
  | solveStart (ecc : Option (Fin 8)) (t : Ns)
  /-- WHEEL_ITERATION (R169): A completed interior-point iteration is tested and may end the solve. -/
  | wheelIteration (residues : List (Fin 8)) (ecc : Option (Fin 8)) (t : Ns)
  /-- CONE_SOLVE_DEADLINE (R178): At b+(N − 2.0) the engines stop and the outcome is decided. -/
  | coneSolveDeadline (residues : List (Fin 8)) (ecc : Option (Fin 8)) (sent : Nat)
  /-- WHEEL_DEGRADED_ENTRY (R185): MISSRUN reaching 3 puts the Wheel into its allocation-only degraded mode. -/
  | wheelDegradedEntry
  /-- WHEEL_DEGRADED_END (R186): 100 clean started beats end the Wheel degraded mode. -/
  | wheelDegradedEnd
  /-- WHEEL_MISS_SAFE (R187): MISSRUN reaching 20 takes the module to SAFE. -/
  | wheelMissSafe
  /-- WHEEL_RECORD_COPY (R176): Every 100th started beat the warm-start record is copied to MRAM. -/
  | wheelRecordCopy
  /-- CONSEQUENCE_CYCLE_START (R253): A beat count that is a multiple of 60 begins a consequence cycle. -/
  | consequenceCycleStart
  /-- CONSEQUENCE_SCENARIO_END (R255): A consequence scenario ends and is reported HELD, NOT_HELD or NOT_EVAL. -/
  | consequenceScenarioEnd (residues : List (Fin 8)) (ecc : Option (Fin 8))
  /-- RECORD (R648): RECORD writes the beat summary into the Sherd staging. -/
  | record (t : Ns)
  /-- RECORD_COMPLETE (R59): RECORD finishing releases its Reed bank. -/
  | recordComplete (t : Ns)
  /-- CONE_STAGE_OVERRUN (R62): PROJECT and VOTE or OBSERVE not done by its deadline is a Loom fault. -/
  | coneStageOverrun (observe : Bool)
  /-- CONE_GUIDE_LATE (R62): GUIDE not done by b+2.00 is counted and SOLVE waits for it. -/
  | coneGuideLate
  /-- CONE_TELEGRAMS_LATE (R62): Thruster telegrams not on the wire by b+(N − 1.5) raise an event. -/
  | coneTelegramsLate (sent : Nat)
  /-- CONE_WITHHOLD_LIMIT (R62): At b+(N − 1.0) unsent thruster telegrams are discarded. -/
  | coneWithholdLimit (sent : Nat)
  /-- CONE_RECORD_LATE (R62): RECORD not done by b+(N + 0.8) is counted. -/
  | coneRecordLate (t : Ns)
  /-- CONE_PHASE_BACK_LATE (R62): Phase-back telegrams not on the wire by p+0.30 are sent at once. -/
  | conePhaseBackLate
  /-- CONE_LOOP_OVERRUN (R285): A loop engine overrun puts every closed slot into fallback. -/
  | coneLoopOverrun
  /-- CONE_SHUTTLE_OVERRUN (R484): A pick task still running at the tick loses its next release. -/
  | coneShuttleOverrun (tick : Bool)
  /-- SCRUB_LATE (R70): A scrub pass exceeding its limit sets its late flag. -/
  | scrubLate (mram : Bool)
  /-- TELEGRAM_DECODE (R87): The Heddle decodes an arriving telegram into records, rejecting invalid ones. -/
  | telegramDecode
  /-- TRACK_TIMEOUT (R113): A track without a hit for 2.0 s is deleted. -/
  | trackTimeout (k : Nat) (t : Ns)
  /-- SESSION_STALE (R582): No valid telegram for T_STALE makes a LIVE session STALE. -/
  | sessionStale (i : Nat) (t : Ns)
  /-- SESSION_LOST (R582): No valid telegram for T_LOST makes the session LOST. -/
  | sessionLost (i : Nat) (t : Ns)
  /-- SESSION_UNBAR (R582): 10 s after barring the session returns to PROVISIONED. -/
  | sessionUnbar (i : Nat) (t : Ns)
  /-- FAST_INPUT_CHANGE (R242): A filter-confirmed change of a fast digital input is taken. -/
  | fastInputChange (k : Nat) (level : Bool) (t : Ns)
  /-- GOOSE_FRAME_RECEIVE (R577): A GOOSE frame is accepted or discarded and its members decoded. -/
  | gooseFrameReceive (p appid : Nat) (src gocb : List Byte) (st sq : Word) (ttl : Nat) (sim : Bool) (m : List GooseMember) (t : Ns)
  /-- GOOSE_STALE (R241): No frame within timeAllowedToLive makes the subscription stale. -/
  | gooseStale (i : Nat) (t : Ns)
  /-- BREAKER_INTERMEDIATE_TIMEOUT (R241): An intermediate breaker position held for 200 ms is taken as open. -/
  | breakerIntermediateTimeout (tie : Bool) (i src : Nat) (t : Ns)
  /-- BREAKER_DISAGREEMENT (R243): Breaker sources disagreeing for more than 500 ms raise an event. -/
  | breakerDisagreement (tie : Bool) (i : Nat) (t : Ns)
  /-- GENERATOR_ONLINE (R244): A set closed for T_online without interruption becomes online. -/
  | generatorOnline (g : Nat) (t : Ns)
  /-- TRIP_CHECK (R247): At p+0.05 fast inputs are latched and each island is checked against its short-term power. -/
  | tripCheck (sent react : Nat)
  /-- DRIVE_STATUS_RECEIVE (R571): A drive status frame is accepted and its fields taken. -/
  | driveStatusReceive (i : Nat) (b : List Byte) (t : Ns)
  /-- LOOP_ENGINE_RUN (R269): Each pick every slot computes its controllers, selects and clamps its output and sends its telegram. -/
  | loopEngineRun (late : Nat)
  /-- SLOT_SOFT_COMPLETE (R279): T_ss,loop elapsed takes the slot from SOFT to CLOSED. -/
  | slotSoftComplete (k : Nat)
  /-- FOLLOWING_ERROR_TIMEOUT (R281): A following error beyond E_max for T_fe starts a fallback with cause 4. -/
  | followingErrorTimeout (k : Nat)
  /-- SLOT_AUTO_RECOVERY (R286): Good feedback for T_rec recovers an AUTO slot through SOFT. -/
  | slotAutoRecovery (k : Nat)
  /-- PERIOD_SOURCE_INVALID (R275): A period source failing freezes the repetitive table and fades it out. -/
  | periodSourceInvalid (k : Nat)
  /-- RESET_LOOP_SLOT (R287): The command puts a slot in fallback into SOFT at the next pick. -/
  | resetLoopSlot (h : Hdr) (k : Nat)
  /-- GROUP_TRAINING_START (R302): Training of an IF group begins by raising IFTRNa. -/
  | groupTrainingStart (a : Nat)
  /-- GROUP_TRAINING_COMPLETE (R302): Training ends and each stream passes to UP or stays DOWN. -/
  | groupTrainingComplete (a : Nat) (res : List TrainIn)
  /-- GROUP_RETRAIN_TIMER (R303): A group with every stream DOWN is retrained after 1 s and every 10 s. -/
  | groupRetrainTimer (a : Nat)
  /-- GNSS_RETRAIN (R304): The command retrains the selected groups. -/
  | gnssRetrain (h : Hdr) (mask : Nat)
  /-- ACQUISITION_SEARCH_COMPLETE (R312): A search dwell completes and a confirmed detection is handed to its channel. -/
  | acquisitionSearchComplete (d : DwellIn)
  /-- DEMAND_LIST (R316): Once per second the demand list is formed and units granted or displaced. -/
  | demandList (sats : List SatIn) (load : List Nat)
  /-- CHANNEL_LOST_TIMEOUT (R317): A unit LOST for 10 s releases its channels. -/
  | channelLostTimeout (c : Nat)
  /-- ACCUMULATION_DUMP (R324): At an accumulation boundary the program forms lock quantities and changes channel state. -/
  | accumulationDump (c : Nat) (v : DumpIn) (t : Ns)
  /-- LOOP_UPDATE (R326): A loop core writes new NCO words, or a late update is discarded. -/
  | loopUpdate (c : Nat) (car cod : BitVec 40) (slew : Int) (t : Ns)
  /-- FEATURE_GRID (R352): In every fourth pick the array forms delay-Doppler grids and the classifier scores them. -/
  | featureGrid (scores : List (List Nat))
  /-- COMMON_LATCH (R333): All channels are latched at one pick tick and raw measurements formed. -/
  | commonLatch (v : LatchIn)
  /-- RAW_RECORD_POST (R346): Pair 2 posts the raw record of a latch. -/
  | rawRecordPost (t : Ns)
  /-- POSITION_RECORD_POST (R346): Pair 2 posts the position record to the internal sessions. -/
  | positionRecordPost (t : Ns)
  /-- ATTITUDE_RECORD_POST (R346): Pair 2 posts the attitude record to the internal sessions. -/
  | attitudeRecordPost (t : Ns)
  /-- GNSS_RECORD_DISCARD (R346): A record not ready by latch + 100 ms is discarded. -/
  | gnssRecordDiscard (t : Ns)
  /-- EXCLUSION_HOLD_EXPIRY (R347): An exclusion hold runs out and the signal returns. -/
  | exclusionHoldExpiry
  /-- WITHDRAWAL_END (R351): 60 s of passing latches ends a position and attitude withdrawal. -/
  | withdrawalEnd (com : Bool)
  /-- RTCM_MESSAGE_RECEIVE (R340): An RTCM message is accepted, ignored or rejected. -/
  | rtcmMessageReceive (i : Nat) (b : List Byte) (t : Ns)
  /-- PTP_SYNC_RECEIVE (R373): A Sync gives a source sample that may qualify, fault or steer DTIME. -/
  | ptpSyncReceive (i p : Nat) (twoStep : Bool) (seq : Nat) (t1 corr t2 : Int) (logInt : Int) (v : ServoOut)
  /-- FOLLOW_UP_RECEIVE (R377): A Follow_Up completes a two-step Sync or is forwarded on the ring. -/
  | followUpReceive (i p seq : Nat) (t1 corr : Int) (v : ServoOut) (b : List Byte) (bad : Bool)
  /-- ANNOUNCE_RECEIVE (R368): An Announce is taken and a grandmaster change requalifies the source. -/
  | announceReceive (i : Nat) (a : Announce)
  /-- DELAY_RESP_RECEIVE (R373): A Delay_Resp completes a path-delay measurement on a port. -/
  | delayRespReceive (i p seq : Nat) (t4 : Int)
  /-- DELAY_REQ_RECEIVE (R375): As master the module answers a Delay_Req. -/
  | delayReqReceive (i p seq : Nat) (t : Ns)
  /-- PDELAY_REQ_RECEIVE (R376): The module answers a Pdelay_Req on a ring port. -/
  | pdelayReqReceive (p seq : Nat) (t : Ns)
  /-- PDELAY_RESP_RECEIVE (R376): A Pdelay response completes a link-delay measurement. -/
  | pdelayRespReceive (p seq : Nat) (t4 turn : Int)
  /-- MANAGEMENT_MESSAGE_RECEIVE (R372): A PTP management message is counted and dropped. -/
  | managementMessageReceive
  /-- RING_PTP_FORWARD (R376): A ring PTP message is forwarded with its correction. -/
  | ringPtpForward (ing seq : Nat) (sync twoStep udp bad : Bool) (corr residence : Int) (b : List Byte)
  /-- MASTER_SYNC_SEND (R375): As master the module sends one-step Sync on ports A and B. -/
  | masterSyncSend (i : Nat)
  /-- RING_SYNC_SEND (R378): The ring master sends Sync on ports C and D at its interval. -/
  | ringSyncSend
  /-- PTP_SOURCE_TIMEOUT (R368): Missing Announce or Sync makes a PTP source LOST, possibly entering holdover. -/
  | ptpSourceTimeout (i : Nat)
  /-- SOURCE_QUALIFIED (R369): A QUALIFYING source becomes GOOD after T_qual. -/
  | sourceQualified (i : Nat)
  /-- SOURCE_FAULT_EXPIRY (R370): 60 s without a backward jump ends FAULTY. -/
  | sourceFaultExpiry (i : Nat)
  /-- SUSPECT_RETURN (R380): A SUSPECT source agreeing for T_qual returns to GOOD. -/
  | suspectReturn (i : Nat)
  /-- DTIME_STEP (R383): DTIME steps forward at a pick tick or beat edge and held times shift. -/
  | dtimeStep
  /-- HOLDOVER_LIMIT (R386): Holdover uncertainty exceeding the limit raises an event. -/
  | holdoverLimit
  /-- REFIN_QUALIFY (R364): REFIN within tolerance for 1 s is taken into use. -/
  | refinQualify (devs : List Int)
  /-- REFIN_FAILURE (R365): A failed REFIN switches the PLLs to the TCXO without a step. -/
  | refinFailure (edge : Bool) (dev ratio : Int)
  /-- REFIN_RESTORE (R365): REFIN good for 60 s is used again. -/
  | refinRestore (ratio : Int)
  /-- TCXO_FAILURE (R365): A failed TCXO removes the fallback. -/
  | tcxoFailure (edge : Bool) (dev : Int)
  /-- LEAP_SECOND_APPLY (R387): A pending leap second changes the count at the end of the UTC day. -/
  | leapSecondApply
  /-- PPS_PULSE (R388): A PPS output pulses at a whole second of DTIME. -/
  | ppsPulse (n : Nat) (t : Ns)
  /-- TPVALID_CHANGE (R390): TPVALID goes high after 2 s of its conditions or low on a failure. -/
  | tpvalidChange
  /-- TIME_STATUS (R391): The command returns the time base status. -/
  | timeStatus (h : Hdr)
  /-- TIME_SOURCE_USE (R391): The command enables or disables a time source. -/
  | timeSourceUse (h : Hdr) (i use' : Nat)
  /-- TIME_REESTABLISH (R385): The command clears EST so DTIME may be set again. -/
  | timeReestablish (h : Hdr)
  /-- KILN_SAMPLE_CYCLE (R398): Every 10 µs both Kiln channels evaluate inputs, conditions and outputs and compare results. -/
  | kilnSampleCycle (z : KSample)
  /-- DISCREPANCY_FAULT (R412): Channels still differing after T_disc latch a discrepancy fault. -/
  | discrepancyFault (n : Nat)
  /-- TEST_PULSE_START (R408): A test-pulse source switches off at its offset within the period. -/
  | testPulseStart (n : Nat)
  /-- TEST_PULSE_END (R411): At the end of a pulse the channels are checked and faults latched. -/
  | testPulseEnd (n : Nat)
  /-- OPEN_LOAD_WARNING (R418): Current below I_min for 1 s raises an open-load warning. -/
  | openLoadWarning (o : Nat)
  /-- FIELD_SUPPLY_FAULT (R417): A supply out of range for 1 ms switches its outputs and sources off. -/
  | fieldSupplyFault (f : Nat)
  /-- FIELD_SUPPLY_RESTORE (R417): A supply in range for 100 ms lets its outputs return by restart. -/
  | fieldSupplyRestore (f : Nat)
  /-- SWITCH_TEST_START (R421): An automatic or repeated switch test of an output begins. -/
  | switchTestStart (o : Nat)
  /-- SWITCH_TEST_PHASE_END (R419): A timed switch test phase ends and its expectation is checked. -/
  | switchTestPhaseEnd (o : Nat)
  /-- SWITCH_TEST_OVERDUE (R421): 24 h without a completed test sets STOVERDUE. -/
  | switchTestOverdue (o : Nat)
  /-- OFF_DELAY_EXPIRY (R424): The STOP1 off-delay elapses and the output goes off. -/
  | offDelayExpiry (o : Nat)
  /-- RESET_INPUT_RELEASE (R426): Releasing a reset pushbutton after a valid press restarts waiting outputs. -/
  | resetInputRelease (n : Nat)
  /-- TRIP_LINE_ASSERT (R428): A lockstep mismatch gates off LOOMDEP outputs and latches TRIP. -/
  | tripLineAssert
  /-- TRIP_CLEAR (R428): Every line at no-trip for 1 ms clears TRIP. -/
  | tripClear (quiet : Nat)
  /-- HEARTBEAT_EXCHANGE (R429): At p+0.50 the Loom and Kiln exchange heartbeats with status and mailbox traffic. -/
  | heartbeatExchange (chal : Word) (bad badUp : Bool) (cyc : Nat)
  /-- HEARTBEAT_TIMEOUT (R429): No valid heartbeat for T_hb + 0.05 ms sets HB_LOST. -/
  | heartbeatTimeout (c : Nat)
  /-- COMMAND_COPY_CHECK (R432): The Kiln checks an arriving command copy against the envelope. -/
  | commandCopyCheck (err : Word)
  /-- KILN_TABLE_LOAD (R436): The Kiln checks a received table and enters RUN when conditions hold. -/
  | kilnTableLoad
  /-- KILN_CLEAR (R442): The command clears a latched input, output, envelope or source fault. -/
  | kilnClear (h : Hdr) (kind index : Nat)
  /-- KILN_SWITCH_TEST (R442): The command tests the named outputs. -/
  | kilnSwitchTest (h : Hdr) (mask : U16)
  /-- KILN_WITHHOLD (R442): The command sets or clears withhold bits. -/
  | kilnWithhold (h : Hdr) (mask values : U16)
  /-- MAILBOX_CLEAR (R446): Mailbox operation 0x01 asks the Kiln to clear a fault. -/
  | mailboxClear (arg : Word)
  /-- MAILBOX_SWITCH_TEST (R446): Mailbox operation 0x02 asks for switch tests. -/
  | mailboxSwitchTest (arg : Word)
  /-- MAILBOX_READ_TABLE (R446): Mailbox operation 0x03 reads a word of the Kiln table. -/
  | mailboxReadTable (arg : Word)
  /-- WITHHOLD_MASK_WRITE (R430): A write to KILN_WITHHOLD sets the withhold mask. -/
  | withholdMaskWrite (v : Word)
  /-- CROSS_TRIP_LINE_LEVEL (R470): A cross-trip line held static for FILTER is taken as asserted or lost. -/
  | crossTripLineLevel (x : Nat) (high : Bool) (held : Nat)
  /-- CLAIM_FRAME_SEND (R456): The claim holder sends a claim frame every 100 µs and may lose arbitration. -/
  | claimFrameSend (line : List Bool)
  /-- CLAIM_LINE_FREE (R457): No partner claim for 300 µs declares the line free, and an armed Kiln takes the claim. -/
  | claimLineFree
  /-- LCLM_FAULT (R457): A stuck or misread lead-claim line declares an LCLM fault. -/
  | lclmFault (c : Nat)
  /-- FAST_FRAME_SEND (R453): Each pick the module sends its FAST frame. -/
  | fastFrameSend
  /-- STATE_FRAME_SEND (R453): Each pick the module sends its STATE frame. -/
  | stateFrameSend
  /-- FAST_FRAME_RECEIVE (R455): A SHADOW applies the LEAD's slot outputs and caps from a FAST frame. -/
  | fastFrameReceive (lane : Bool) (b : List Byte) (t : Ns) (rtt : Nat)
  /-- STATE_FRAME_RECEIVE (R455): A STATE frame delivers mirrored records, sequence numbers and commands. -/
  | stateFrameReceive (lane ok : Bool) (b : StateBody)
  /-- DORYO_LANE_TIMEOUT (R452): A lane without a valid frame for 2 picks goes DOWN. -/
  | doryoLaneTimeout (lane : Bool)
  /-- TAKEOVER (R464): A SHADOW holding the claim becomes LEAD at the next pick tick. -/
  | takeover
  /-- ARM_DELAY_EXPIRY (R460): Seat 1 sets ARM 10 picks after entering READY. -/
  | armDelayExpiry
  /-- PAIR_STATUS (R474): The command returns the pair registers. -/
  | pairStatus (h : Hdr)
  /-- PAIR_TRANSFER (R474): The command makes the LEAD release the lead to the SHADOW. -/
  | pairTransfer (h : Hdr)
  /-- PAIR_BAR (R474): The command bars the module. -/
  | pairBar (h : Hdr)
  /-- PAIR_UNBAR (R474): The command makes a BARRED module SHADOW. -/
  | pairUnbar (h : Hdr)
  /-- PICK_TASK_RELEASE (R482): At p+0.40 the due PICK tasks are released. -/
  | pickTaskRelease
  /-- TASK_WATCHDOG (R485): A PICK task running for W is aborted. -/
  | taskWatchdog (i : Nat) (t : Ns)
  /-- BEAT_TASK_LIMIT (R485): The BEAT task still running at b+(N − 0.2) is aborted. -/
  | beatTaskLimit (t : Ns)
  /-- SYNC_IMAGE_APPLY (R511): A SHADOW replaces differing SYNC variables with the LEAD's values. -/
  | syncImageApply
  /-- ONLINE_CHANGE_SWITCH (R507): At the switch point the new program replaces the old. -/
  | onlineChangeSwitch
  /-- ONLINE_CHANGE_ABANDON (R507): No switch point within 100 picks abandons the change. -/
  | onlineChangeAbandon
  /-- NOP (R495): Does nothing. -/
  | twNop
  /-- LD (R495): Pushes the operand. -/
  | twLd
  /-- ST (R501): Stores the top of stack, subject to forcing. -/
  | twSt
  /-- DUP (R495): Duplicates the top of stack. -/
  | twDup
  /-- DROP (R495): Removes the top of stack. -/
  | twDrop
  /-- SWAP (R495): Exchanges the top two values. -/
  | twSwap
  /-- LDX (R495): Pushes an indexed element. -/
  | twLdx
  /-- STX (R501): Stores to an indexed element, subject to forcing. -/
  | twStx
  /-- ADD (R494): Adds the top two values. -/
  | twAdd
  /-- SUB (R494): Subtracts the top two values. -/
  | twSub
  /-- MUL (R494): Multiplies the top two values. -/
  | twMul
  /-- DIV (R494): Divides the top two values. -/
  | twDiv
  /-- MOD (R494): Takes the integer remainder. -/
  | twMod
  /-- NEG (R494): Negates the top value. -/
  | twNeg
  /-- ABS (R495): Takes the absolute value. -/
  | twAbs
  /-- MIN (R495): Takes the smaller of two values. -/
  | twMin
  /-- MAX (R495): Takes the larger of two values. -/
  | twMax
  /-- LIMIT (R495): Limits a value between bounds. -/
  | twLimit
  /-- SQRT (R495): Takes the square root. -/
  | twSqrt
  /-- SIN (R495): Takes the sine. -/
  | twSin
  /-- COS (R495): Takes the cosine. -/
  | twCos
  /-- ATAN2 (R495): Takes the two-argument arctangent. -/
  | twAtan2
  /-- EXP (R495): Takes the exponential. -/
  | twExp
  /-- LN (R495): Takes the natural logarithm. -/
  | twLn
  /-- AND (R495): Bitwise or Boolean AND. -/
  | twAnd
  /-- OR (R495): Bitwise or Boolean OR. -/
  | twOr
  /-- XOR (R495): Bitwise or Boolean XOR. -/
  | twXor
  /-- NOT (R495): Bitwise or Boolean NOT. -/
  | twNot
  /-- SHL (R494): Shifts left. -/
  | twShl
  /-- SHR (R494): Shifts right. -/
  | twShr
  /-- ROL (R494): Rotates left. -/
  | twRol
  /-- ROR (R494): Rotates right. -/
  | twRor
  /-- EQ (R494): Compares for equality. -/
  | twEq
  /-- NE (R494): Compares for inequality. -/
  | twNe
  /-- LT (R494): Compares less than. -/
  | twLt
  /-- LE (R494): Compares less or equal. -/
  | twLe
  /-- GT (R494): Compares greater than. -/
  | twGt
  /-- GE (R494): Compares greater or equal. -/
  | twGe
  /-- SEL (R495): Selects one of two values by a condition. -/
  | twSel
  /-- CVT (R494): Converts between types. -/
  | twCvt
  /-- JMP (R495): Jumps unconditionally. -/
  | twJmp
  /-- JMPC (R495): Jumps when the condition is TRUE. -/
  | twJmpc
  /-- JMPCN (R495): Jumps when the condition is FALSE. -/
  | twJmpcn
  /-- CALL (R495): Calls a routine with its instance. -/
  | twCall
  /-- RET (R495): Returns from a routine. -/
  | twRet
  /-- END (R488): Completes the task and commits its writes and retentive journal. -/
  | twEnd (t : Ns)
  /-- TON (R498): Executes an on-delay timer. -/
  | twTon
  /-- TOF (R498): Executes an off-delay timer. -/
  | twTof
  /-- TP (R498): Executes a pulse timer. -/
  | twTp
  /-- CTU (R499): Executes an up counter. -/
  | twCtu
  /-- CTD (R499): Executes a down counter. -/
  | twCtd
  /-- CTUD (R499): Executes an up-down counter. -/
  | twCtud
  /-- R_TRIG (R500): Detects a rising edge. -/
  | twRTrig
  /-- F_TRIG (R500): Detects a falling edge. -/
  | twFTrig
  /-- SR (R495): Executes a set-dominant bistable. -/
  | twSr
  /-- RS (R495): Executes a reset-dominant bistable. -/
  | twRs
  /-- EVT (R503): Raises a program event when the condition is TRUE. -/
  | twEvt
  /-- SHUTTLE_RUN (R512): The command stops the Shuttle or starts it WARM or COLD. -/
  | shuttleRun (h : Hdr) (action : Nat)
  /-- SHUTTLE_TASK_RESTART (R512): The command restarts a HALTED task. -/
  | shuttleTaskRestart (h : Hdr) (i : Nat)
  /-- ONLINE_CHANGE (R505): The command checks and schedules an online change. -/
  | onlineChange (h : Hdr) (flags : Nat) (id : U64)
  /-- ONLINE_CHANGE_DISCARD (R512): The command empties online-change staging. -/
  | onlineChangeDiscard (h : Hdr)
  /-- FORCE_SET (R501): The command forces an item to a value. -/
  | forceSet (h : Hdr) (sym elem : Word) (ty : Nat) (value : U64) (mram : Bool)
  /-- FORCE_CLEAR (R501): The command removes one force. -/
  | forceClear (h : Hdr) (sym elem : Word) (mram : Bool)
  /-- FORCE_CLEAR_ALL (R512): The command removes every force. -/
  | forceClearAll (h : Hdr) (mram : Bool)
  /-- FORCE_LIST (R512): The command returns force table entries. -/
  | forceList (h : Hdr) (first : Nat)
  /-- PING (R533): The command returns an empty success. -/
  | ping (h : Hdr)
  /-- GET_IDENTITY (R534): The command returns the module identity. -/
  | getIdentity (h : Hdr)
  /-- GET_STATE (R534): The command returns state and causes. -/
  | getState (h : Hdr)
  /-- GET_CERTIFICATE (R534): The command returns part of the device certificate chain. -/
  | getCertificate (h : Hdr) (start : Nat)
  /-- GET_DRAFT_INFO (R534): The command returns Draft and program identities. -/
  | getDraftInfo (h : Hdr)
  /-- GO_READY (R518): The command takes STANDBY to READY and starts beats. -/
  | goReady (h : Hdr)
  /-- GO_ACTIVE (R518): The command requests ACTIVE at the next beat edge. -/
  | goActive (h : Hdr)
  /-- GO_SAFE (R518): The command enters SAFE at once. -/
  | goSafe (h : Hdr)
  /-- LEAVE_SAFE (R520): The command returns SAFE to READY and clears the SAFE causes. -/
  | leaveSafe (h : Hdr)
  /-- GO_STANDBY (R518): The command returns the module to STANDBY and stops beats. -/
  | goStandby (h : Hdr)
  /-- ENTER_SERVICE (R518): The command enters SERVICE when SVC_EN is high. -/
  | enterService (h : Hdr)
  /-- RESTART (R682): The command starts a warm or cold restart. -/
  | restart (h : Hdr) (kind : Nat)
  /-- SET_DP_MODE (R200): The command requests a DP mode for the next edge. -/
  | setDpMode (h : Hdr) (code trk : Nat)
  /-- SET_POSITION (R222): The command sets a position setpoint. -/
  | setPosition (h : Hdr) (flag : Nat) (north east : Word)
  /-- SET_HEADING (R209): The command sets a heading setpoint and turn direction. -/
  | setHeading (h : Hdr) (hdg : Bam) (dir : Nat)
  /-- SET_MOTION_LIMITS (R222): The command sets motion limits. -/
  | setMotionLimits (h : Hdr) (v a r y : F32)
  /-- LOAD_TRACK (R214): The command loads a waypoint track. -/
  | loadTrack (h : Hdr) (pts : List Waypoint)
  /-- SET_FOLLOW (R217): The command sets the follow offset and heading rule. -/
  | setFollow (h : Hdr) (north east : Word) (rule : Nat)
  /-- SET_WIND_FF (R221): The command enables wind feedforward and sets k_w. -/
  | setWindFf (h : Hdr) (enable : Nat) (kw : F32)
  /-- SET_THRUSTER_USE (R231): The command switches a thruster on or off. -/
  | setThrusterUse (h : Hdr) (t use' : Nat)
  /-- SELECT_REFERENCE (R107): The command makes an operator selection in a group. -/
  | selectReference (h : Hdr) (g sess : Nat)
  /-- RELEASE_REFERENCE (R107): The command ends an operator selection. -/
  | releaseReference (h : Hdr) (g : Nat)
  /-- DRAFT_ACTIVATE (R543): The command checks and activates the staged Draft. -/
  | draftActivate (h : Hdr) (id : U64) (mram : Bool)
  /-- DRAFT_DISCARD (R543): The command empties Draft staging. -/
  | draftDiscard (h : Hdr)
  /-- DRAFT_REVERT (R543): The command activates the previous Draft. -/
  | draftRevert (h : Hdr) (id : U64) (mram : Bool)
  /-- LEDGER_INFO (R547): The command returns the ledger span and newest hash. -/
  | ledgerInfo (h : Hdr)
  /-- LEDGER_READ (R547): The command returns ledger entries. -/
  | ledgerRead (h : Hdr) (first : Word) (count : Nat)
  /-- FIRMWARE_ACTIVATE (R541): The command marks the inactive slot on trial and restarts cold. -/
  | firmwareActivate (h : Hdr) (flags : Nat) (mram : Bool)
  /-- ANCHOR_ADD (R542): The command adds a trust anchor or deny entry. -/
  | anchorAdd (h : Hdr) (kind level : Nat) (keyId : U64) (certOk mram : Bool)
  /-- ANCHOR_REMOVE (R542): The command removes a trust anchor or deny entry. -/
  | anchorRemove (h : Hdr) (kind : Nat) (keyId : U64) (mram : Bool)
  /-- ANCHOR_LIST (R533): The command lists the trust anchors. -/
  | anchorList (h : Hdr)
  /-- SAFETY_UNLOCK (R536): The command checks the safety password and grants SAFETY. -/
  | safetyUnlock (h : Hdr) (pw : List Byte)
  /-- SAFETY_LOCK (R536): The command drops the session's SAFETY level. -/
  | safetyLock (h : Hdr)
  /-- SAFETY_PASSWORD_SET (R538): The command sets a new safety password. -/
  | safetyPasswordSet (h : Hdr) (pw : List Byte) (salt : BitVec 128) (mram : Bool)
  /-- SAFETY_PASSWORD_RESET (R538): The command removes the safety password in SERVICE. -/
  | safetyPasswordReset (h : Hdr) (mram : Bool)
  /-- REC_STATUS (R657): The command returns recorder status and freezes. -/
  | recStatus (h : Hdr)
  /-- REC_READ (R658): The command returns recorder records. -/
  | recRead (h : Hdr) (area : Nat) (rseq : Word) (ofs fixes : Nat)
  /-- REC_FREEZE (R657): The command sets a manual freeze. -/
  | recFreeze (h : Hdr) (fromH fromUs toH toUs : Word)
  /-- REC_RELEASE (R657): The command releases a freeze. -/
  | recRelease (h : Hdr) (i : Nat)
  /-- TELEM_CONFIG (R659): The command configures a telemetry stream. -/
  | telemConfig (h : Hdr) (i enable : Nat) (ip : Word) (port : U16) (mask decim : Nat) (mram : Bool)
  /-- MEM_READ (R534): The command reads memory or registers. -/
  | memRead (h : Hdr) (a n : Nat)
  /-- MEM_WRITE (R534): The command writes General SRAM or RW registers in SERVICE with a ledger entry. -/
  | memWrite (h : Hdr) (a : Nat) (b : List Byte) (mram : Bool)
  /-- BULK_OPEN (R544): The command opens a bulk transfer. -/
  | bulkOpen (h : Hdr) (target len : Nat) (digest : List Byte)
  /-- BULK_WRITE (R544): The command appends data to the open transfer. -/
  | bulkWrite (h : Hdr) (ofs : Nat) (data : List Byte)
  /-- BULK_CLOSE (R544): The command checks and stages the transferred image. -/
  | bulkClose (h : Hdr) (img : BulkImage) (nand : Bool)
  /-- BULK_ABORT (R544): The command discards the open transfer. -/
  | bulkAbort (h : Hdr)
  /-- BULK_TIMEOUT (R544): 60 s without BULK_WRITE aborts the transfer. -/
  | bulkTimeout
  /-- CLIENT_HELLO (R586): A ClientHello gets a retry request or creates a command session entry. -/
  | clientHello (p : Nat) (cookie : Bool) (t : Ns)
  /-- CLOSE_NOTIFY (R524): A close_notify closes the command session. -/
  | closeNotify (i : Nat)
  /-- COMMAND_SESSION_TIMEOUT (R524): 60 s without a record closes a command session. -/
  | commandSessionTimeout (i : Nat)
  /-- SAFETY_EXPIRY (R536): SAFETY lapses after 15 min. -/
  | safetyExpiry (i : Nat)
  /-- LOCKOUT_EXPIRY (R537): The SAFETY_UNLOCK lockout ends after 15 min of OTIME. -/
  | lockoutExpiry
  /-- SVC_EN_LOW (R518): SVC_EN low for one pick ends SERVICE. -/
  | svcEnLow
  /-- PORT_LINK_UP (R555): A port links and its use is decided. -/
  | portLinkUp (p speed : Nat) (mdix : Bool)
  /-- PORT_LINK_DOWN (R561): A port loses link and its network is declared broken. -/
  | portLinkDown (p : Nat)
  /-- PRP_SUPERVISION_SEND (R559): Every 1.0 s the module sends PRP supervision frames. -/
  | prpSupervisionSend
  /-- LAN_SILENCE (R561): No frame on a LAN for 2.0 s declares it broken. -/
  | lanSilence (p : Nat)
  /-- RING_SUPERVISION_SEND (R561): Every 1.0 s the HSR supervision frame is sent and the previous one's return checked. -/
  | ringSupervisionSend
  /-- PRP_FRAME_RECEIVE (R559): A frame on port A or B is kept or discarded as a duplicate and handed on. -/
  | prpFrameReceive (p n : Nat) (src : List Byte) (seq : Option Nat) (bad : Bool) (b : EthBody) (t : Ns)
  /-- RING_FRAME_FORWARD (R560): A ring frame is forwarded cut-through or removed. -/
  | ringFrameForward (ing : Nat) (src : List Byte) (seq : Nat) (own sup bad : Bool) (mine queued : Nat) (b : List Byte)
  /-- ARP_REQUEST (R558): The module answers an ARP request within its rate. -/
  | arpRequest (p : Nat) (mine conflict : Bool)
  /-- ICMP_ECHO_REQUEST (R558): The module answers an ICMP echo within its rate. -/
  | icmpEchoRequest (p : Nat) (b : List Byte)
  /-- IGMP_QUERY (R558): The module answers an IGMP query. -/
  | igmpQuery (v3 : Bool)
  /-- ADMISSION_OPEN (R585): 1.0 s after NET_READY and link-up, admission of unknown partners opens. -/
  | admissionOpen
  /-- UART_CHARACTER_RECEIVE (R573): A UART character extends, completes or discards the sentence in assembly. -/
  | uartCharacterReceive (u : Nat) (c : Byte) (err : Nat) (t : Ns)
  /-- CAN_FRAME_RECEIVE (R574): A CAN frame passes the filters and is reassembled or taken. -/
  | canFrameReceive (c id rec' : Nat) (fast full : Bool) (b : List Byte) (t : Ns)
  /-- CAN_BUS_OFF (R574): A controller enters bus-off. -/
  | canBusOff (c : Nat)
  /-- CAN_BUS_OFF_RECOVERY (R574): A bus-off controller recovers after 128 recessive sequences. -/
  | canBusOffRecovery (c : Nat)
  /-- IEC_61162_450_DATAGRAM (R576): A UdPbC datagram is checked and its sentences handed on. -/
  | iec61162450Datagram (p : Nat) (group : Word) (dport : Nat) (b : List Byte) (t : Ns)
  /-- UDP_BINARY_DATAGRAM (R578): A UDP binary or RTCM datagram is taken for its session. -/
  | udpBinaryDatagram (p : Nat) (src : Word) (sport : Nat) (b : List Byte) (t : Ns)
  /-- OUTPUT_SESSION_SEND (R578): An output session sends committed fields at its period. -/
  | outputSessionSend (i : Nat)
  /-- RIO_REQUEST_BUILD (R595): At p+0.75 the due station requests are built and sent. -/
  | rioRequestBuild
  /-- RIO_REPLY_RECEIVE (R602): A station reply is checked and held for the latch. -/
  | rioReplyReceive (k : Nat) (b : List Byte) (t : Ns)
  /-- GLAZE_BACKGROUND_TEST (R618): Every second each unit computes a test check value. -/
  | glazeBackgroundTest (bad : BitVec 16)
  /-- ADC_OUTPUT_SAMPLE (R631): A channel chain delivers an output sample with its condition. -/
  | adcOutputSample (c j : Nat) (pa pb : Bool) (t : Ns)
  /-- SAMPLE_LINK_FRAME (R633): A sample-link frame is checked, replaced if bad, and the link judged. -/
  | sampleLinkFrame (ok : Bool) (bits : List (List Bool)) (t : Ns)
  /-- SHUNT_DISCONNECT (R626): Current above 32 mA disconnects the shunt. -/
  | shuntDisconnect (c : Nat)
  /-- SHUNT_RECONNECT (R626): The shunt reconnects 1 s after the current falls below 30 mA. -/
  | shuntReconnect (c below : Nat)
  /-- CALIBRATION_SLOT_START (R638): A channel's calibration slot begins. -/
  | calibrationSlotStart
  /-- CALIBRATION_PHASE_END (R639): A calibration phase ends, its test is made and the output may switch chains. -/
  | calibrationPhaseEnd (formed : Bool)
  /-- PAGE_PROGRAM (R650): A full or 1 s old page is programmed to NAND. -/
  | pageProgram (outcome : Nat)
  /-- BLOCK_ERASE (R652): The next block of an area is erased within the wear budget. -/
  | blockErase (arch fail : Bool)
  /-- FLUSH_COMPLETE (R654): The power-fail flush ends with the cause-5 power record. -/
  | flushComplete
  /-- MON_HELP (R662): The monitor lists its commands. -/
  | monHelp
  /-- MON_ID (R662): The monitor prints identity. -/
  | monId
  /-- MON_ST (R662): The monitor prints state, role, mode and causes. -/
  | monSt
  /-- MON_TIME (R662): The monitor prints time information. -/
  | monTime
  /-- MON_EV (R662): The monitor prints the newest events. -/
  | monEv
  /-- MON_REC (R662): The monitor prints recorder status. -/
  | monRec
  /-- MON_RD (R663): The monitor reads 32-bit words. -/
  | monRd
  /-- MON_WR (R664): The monitor writes one word in SERVICE with a ledger entry. -/
  | monWr (mram : Bool)
  /-- MON_LOG (R662): The monitor turns event logging on or off. -/
  | monLog
  /-- SYS_OTIME_H_READ (R43): Reading SYS_OTIME_H latches the microsecond count. -/
  | sysOtimeHRead
  /-- WARP_CFG_WRITE (R78): A write sets NSEL while unlocked and ignores reserved values. -/
  | warpCfgWrite (v : Word)
  /-- WARP_CONE_WRITE (R80): Writing ones clears Cone monitor bits. -/
  | warpConeWrite (v : Word)
  /-- WARP_BG_WRITE (R80): Writing ones clears background flags. -/
  | warpBgWrite (v : Word)
  /-- WARP_PICK_H_READ (R77): Reading the high word latches the low pick count. -/
  | warpPickHRead
  /-- WARP_BEAT_H_READ (R77): Reading the high word latches the low beat count. -/
  | warpBeatHRead
  /-- WARP_NEXTEDGE_H_READ (R77): Reading the high word latches the low next-edge time. -/
  | warpNextedgeHRead
  /-- HEDDLE_SESSEL_WRITE (R120): A write snapshots the selected session into its window. -/
  | heddleSesselWrite (v : Word)
  /-- HEDDLE_TRKSEL_WRITE (R120): A write snapshots the selected track into its window. -/
  | heddleTrkselWrite (v : Word)
  /-- OBS_SEL_WRITE (R151): A write snapshots the selected state and variance. -/
  | obsSelWrite (v : Word)
  /-- WHEEL_FP_H_READ (R196): Reading the high word latches the low fingerprint. -/
  | wheelFpHRead
  /-- WHEEL_ENG_READ (R197): Reading returns and clears the residue bits. -/
  | wheelEngRead
  /-- ALLOC_THRSEL_WRITE (R260): A write snapshots the selected thruster. -/
  | allocThrselWrite (v : Word)
  /-- PWR_SECSEL_WRITE (R262): A write snapshots the selected section. -/
  | pwrSecselWrite (v : Word)
  /-- LOOP_SLOTSEL_WRITE (R294): A write snapshots the selected slot. -/
  | loopSlotselWrite (v : Word)
  /-- GNSS_STRMSEL_WRITE (R330): A write snapshots the selected stream. -/
  | gnssStrmselWrite (v : Word)
  /-- GNSS_CHSEL_WRITE (R330): A write snapshots the selected channel. -/
  | gnssChselWrite (v : Word)
  /-- GNSS_SIGSEL_WRITE (R357): A write snapshots the selected channel's integrity state. -/
  | gnssSigselWrite (v : Word)
  /-- TIME_DT_H_READ (R395): Reading the high word latches the low word and fraction of DTIME. -/
  | timeDtHRead
  /-- TIME_SRCSEL_WRITE (R395): A write snapshots the selected time source. -/
  | timeSrcselWrite (v : Word)
  /-- KILN_SEAL_H_READ (R445): Reading the high word latches the low seal word. -/
  | kilnSealHRead
  /-- KILN_INSEL_WRITE (R445): A write snapshots the selected input mirror. -/
  | kilnInselWrite (v : Word)
  /-- KILN_OUTSEL_WRITE (R445): A write snapshots the selected output mirror. -/
  | kilnOutselWrite (v : Word)
  /-- SHUTTLE_PROGID_H_READ (R515): Reading the high word latches the low PROGID word. -/
  | shuttleProgidHRead
  /-- SHUTTLE_RETID_H_READ (R515): Reading the high word latches the low RETID word. -/
  | shuttleRetidHRead
  /-- SHUTTLE_TASKSEL_WRITE (R515): A write snapshots the selected task. -/
  | shuttleTaskselWrite (v : Word)
  /-- SHUTTLE_TASKSTAT_READ (R515): Reading returns and clears the task's sticky flags. -/
  | shuttleTaskstatRead
  /-- SEC_SERIAL_H_READ (R551): Reading the high word latches the low serial word. -/
  | secSerialHRead
  /-- NET_PORTSEL_WRITE (R590): A write snapshots the selected port. -/
  | netPortselWrite (v : Word)
  /-- NET_SESSEL_WRITE (R590): A write snapshots the selected session. -/
  | netSesselWrite (v : Word)
  /-- FIELD_UARTSEL_WRITE (R591): A write snapshots the selected UART. -/
  | fieldUartselWrite (v : Word)
  /-- FIELD_CANSEL_WRITE (R591): A write snapshots the selected CAN controller. -/
  | fieldCanselWrite (v : Word)
  /-- RIO_STASEL_WRITE (R621): A write snapshots the selected station. -/
  | rioStaselWrite (v : Word)
  /-- GLAZE_PSSEL_WRITE (R623): A write snapshots the selected parameter set. -/
  | glazePsselWrite (v : Word)
  /-- GLAZE_SWSEL_WRITE (R619): A write selects a software unit and set and loads INIT. -/
  | glazeSwselWrite (v : Word)
  /-- GLAZE_SWRUN_WRITE (R619): A write replaces the running value. -/
  | glazeSwrunWrite (v : Word)
  /-- GLAZE_SWRUN_READ (R619): A read waits for pending bytes and returns the running value. -/
  | glazeSwrunRead
  /-- GLAZE_SWDATA_WRITE (R619): A write feeds NBYTES bytes into the software unit. -/
  | glazeSwdataWrite (v : Word)
  /-- GLAZE_SWCHK_READ (R619): A read returns the check value of the running value. -/
  | glazeSwchkRead
  /-- ADC_CHSEL_WRITE (R642): A write snapshots the selected channel. -/
  | adcChselWrite (v : Word)
  /-- REGISTER_WRITE (R14): A write to any other register acts by its access code. -/
  | registerWrite (a : Nat) (v : Word)
  /-- UNKNOWN_OPCODE (R535): A command packet that is malformed, has a bad length or names an opcode not in R533 gets one refusal reply from the 0x1xxx range. -/
  | unknownOpcode (sess : Nat) (b : List Byte)
  /-- DTLS_HANDSHAKE_COMPLETE (R525): The client's final handshake flight completes or fails the DTLS handshake, checks the certificate chain, assigns the session level and opens or refuses the command session. -/
  | dtlsHandshakeComplete (i : Nat) (hs : Handshake) (leaf : U64) (chain : List U64) (anchor : U64) (certOk periodOk : Bool) (t : Ns)
  /-- MON_CHARACTER_RECEIVE (R661): A character on MON_RX is buffered into the line in assembly, ends the line at CR or LF, or discards the line on buffer overflow. -/
  | monCharacterReceive (c : Byte)
  /-- MON_UNKNOWN_COMMAND (R662): A monitor line that names no monitor command is refused with 0x1002 and recorded as a monitor record. -/
  | monUnknownCommand
  /-- CAN_BUS_ERROR (R574): A bus error raises the controller's error counters and may take it into or out of error passive, with event 0x0B24_0002. -/
  | canBusError (c tec rec' : Nat)
  /-- DELAY_REQ_SEND (R373): Each PTP slave port sends its Delay_Req at its interval to measure the mean path delay. -/
  | delayReqSend (i p : Nat) (t : Ns)
  /-- PDELAY_REQ_SEND (R376): Each peer-delay port sends Pdelay_Req at its interval to measure the link delay to its neighbour. -/
  | pdelayReqSend (p : Nat) (t : Ns)
  /-- ANNOUNCE_SEND (R375): As master of a domain the module sends Announce messages with its clockClass and clockAccuracy at the announce interval. -/
  | announceSend (i : Nat)
  /-- HOLD_CHARGE_COMPLETE (R679): HOLD reaching 45 V sets HOLDOK, ends the wait of SELFTEST, and the charge yields the capacitance measurement and a new hold-up estimate. -/
  | holdChargeComplete (uc : Nat)
  deriving DecidableEq, Repr

end Sys2Proof
end

