-- ==== Sys2Proof/Machine/Bytes.lean ====
section
/-! DEFINITION. Byte order, saturating counters, bit fields and small list operations (R12, R13). -/

namespace Sys2Proof.Machine

/-- One byte of a number. -/
def byteOf (n : Nat) : Byte := BitVec.ofNat 8 n
/-- Two bytes, most significant first (R12: wire values). -/
def be16 (n : Nat) : List Byte := [byteOf (n / 256), byteOf n]
/-- Four bytes, most significant first. -/
def be32 (n : Nat) : List Byte := be16 (n / 65536) ++ be16 n
/-- Eight bytes, most significant first. -/
def be64 (n : Nat) : List Byte := be32 (n / 4294967296) ++ be32 n
/-- Two bytes, least significant first (R12: structures in memory). -/
def le16 (n : Nat) : List Byte := (be16 n).reverse
/-- Four bytes, least significant first. -/
def le32 (n : Nat) : List Byte := (be32 n).reverse
/-- Eight bytes, least significant first. -/
def le64 (n : Nat) : List Byte := (be64 n).reverse
/-- The number whose bytes stand most significant first. -/
def ofBe (l : List Byte) : Nat := l.foldl (fun a b => a * 256 + b.toNat) 0
/-- The number whose bytes stand least significant first. -/
def ofLe (l : List Byte) : Nat := ofBe l.reverse
/-- n zero bytes. -/
def zeros (n : Nat) : List Byte := List.replicate n 0#8
/-- Exactly n bytes: cut, or filled up with zeros. -/
def fitBytes (n : Nat) (l : List Byte) : List Byte := l.take n ++ zeros (n - l.length)

/-- n + k, saturating at top (the registers that say "saturates"). -/
def satAdd (top n k : Nat) : Nat := if n + k > top then top else n + k
/-- A counter of 16 bits that saturates at 0xFFFF. -/
def sat16 (n : Nat) : Nat := satAdd 0xFFFF n 1
/-- A counter of 32 bits that saturates at 0xFFFF_FFFF. -/
def sat32 (n : Nat) : Nat := satAdd 0xFFFFFFFF n 1

/-- 1 for true, 0 for false. -/
def b2n (b : Bool) : Nat := if b then 1 else 0
/-- A field of width w at bit lo. -/
def fld (lo w n : Nat) : Nat := n % 2 ^ w * 2 ^ lo
/-- A bit at position lo. -/
def fbit (lo : Nat) (b : Bool) : Nat := if b then 2 ^ lo else 0
/-- Bit i of a number. -/
def nbit (n i : Nat) : Bool := n / 2 ^ i % 2 == 1
/-- The bits [hi:lo] of a number. -/
def nbits (n hi lo : Nat) : Nat := n / 2 ^ lo % 2 ^ (hi + 1 - lo)
/-- The low word of a 64-bit value. -/
def lo32 (n : Nat) : Word := BitVec.ofNat 32 n
/-- The high word of a 64-bit value. -/
def hi32 (n : Nat) : Word := BitVec.ofNat 32 (n / 4294967296)
/-- A signed number in 32 bits, two's complement. -/
def word (n : Nat) : Word := BitVec.ofNat 32 n
def sword (n : Int) : Word := BitVec.ofInt 32 n
/-- A signed number limited to lo … hi. -/
def iclamp (lo hi x : Int) : Int := if x < lo then lo else if hi < x then hi else x

/-- The first refusal of a list of checks in order (R22). -/
def firstSome {α : Type} : List (Option α) → Option α
  | [] => none
  | some a :: _ => some a
  | none :: l => firstSome l

/-- Element i of a list, changed. -/
def modifyAt {α : Type} (l : List α) (i : Nat) (f : α → α) : List α :=
  match l[i]? with
  | some a => l.set i (f a)
  | none => l

/-- Mask with bit i set where the i-th element satisfies p. -/
def maskOf {α : Type} (p : α → Bool) : List α → Nat
  | [] => 0
  | a :: l => b2n (p a) + 2 * maskOf p l

/-- How many elements satisfy p. -/
def countP {α : Type} (p : α → Bool) (l : List α) : Nat := (l.filter p).length

/-- An association list: the value of a key. -/
def aget {α : Type} (k : Nat) : List (Nat × α) → Option α
  | [] => none
  | (i, a) :: l => if i = k then some a else aget k l

/-- Each value of n bytes in the other byte order; a rest shorter than n stands (R12). -/
def swapUnits (n : Nat) : Nat → List Byte → List Byte
  | 0, l => l
  | fuel + 1, l => if l.length < n ∨ n = 0 then l else (l.take n).reverse ++ swapUnits n fuel (l.drop n)
def swapped (n : Nat) (l : List Byte) : List Byte := swapUnits n l.length l

/-- An association list: a key's value set; a new key goes to the end. -/
def aset {α : Type} (k : Nat) (v : α) : List (Nat × α) → List (Nat × α)
  | [] => [(k, v)]
  | (i, a) :: l => if i = k then (k, v) :: l else (i, a) :: aset k v l

/-- An association list: a key removed. -/
def adel {α : Type} (k : Nat) (l : List (Nat × α)) : List (Nat × α) := l.filter (fun p => p.1 != k)

/-- Sequence comparison modulo 2³²: `a` is newer than `b` (R570 item 1). -/
def seqNewer (a b : Word) : Bool := let d := (a - b).toNat; decide (1 ≤ d ∧ d ≤ 2147483647)

/-- The codes of an ASCII text. -/
def ascii (t : String) : List Byte := t.toList.map (fun c => byteOf c.toNat)

/-- Insertion into a sorted list by key. -/
def insertBy {α : Type} (le : α → α → Bool) (a : α) : List α → List α
  | [] => [a]
  | b :: l => if le a b then a :: b :: l else b :: insertBy le a l

/-- Stable insertion sort. -/
def sortBy {α : Type} (le : α → α → Bool) (l : List α) : List α := l.foldr (insertBy le) []

end Sys2Proof.Machine
end

