-- ==== Sys2Proof/Config.lean ====
section
/-! DEFINITION. What the spec leaves open or what each module is made with: constants and functions without a
body. Nothing in Lean can evaluate them, so a statement holds for every value of them. -/

namespace Sys2Proof

/-- FREE VALUE (log entry 2). The payload and sign of a NaN result of binary64 arithmetic: operation number and
operands. The spec gives no payload. -/
opaque Config.nanPayload64 : Nat → F64 → F64 → BitVec 64

/-- FREE VALUE (log entry 2). The payload and sign of a NaN result of binary32 arithmetic. -/
opaque Config.nanPayload32 : Nat → F32 → F32 → BitVec 32

/-- FREE VALUE (log entry 3). The sine of an angle in radians: the spec gives no last bits. -/
opaque Config.fsin : F64 → F64
/-- FREE VALUE (log entry 3). The cosine of an angle in radians. -/
opaque Config.fcos : F64 → F64
/-- FREE VALUE (log entry 3). The tangent of an angle in radians. -/
opaque Config.ftan : F64 → F64
/-- FREE VALUE (log entry 3). atan2(y, x) in radians. -/
opaque Config.fatan2 : F64 → F64 → F64
/-- FREE VALUE (log entry 3). The exponential. -/
opaque Config.fexp : F64 → F64
/-- FREE VALUE (log entry 3). The natural logarithm. -/
opaque Config.fln : F64 → F64
/-- FREE VALUE (log entry 3). The arcsine. -/
opaque Config.fasin : F64 → F64
/-- FREE VALUE (log entry 3). The power x to the y. -/
opaque Config.fpow : F64 → F64 → F64


/-- FREE VALUE (log entry 16). The Selvedge factory trim of an analog channel: gain and offset in volts. -/
opaque Config.adcTrim : Nat → F64 × F64

/-- FREE VALUE (log entry 17). What a 17-point map gives outside its range: the map (0 reference, 1 feedforward, 2 cap), the
argument. -/
opaque Config.mapOutside : Nat → F64 → F64

/-- FREE VALUE (log entry 18). The absolute value of the least value of a signed Twill type, by type. -/
opaque Config.twAbsMin : Nat → U64
/-- FREE VALUE (log entry 18). MIN (0) and MAX (1) of Twill with a NaN operand. -/
opaque Config.twMinMaxNan : Nat → U64 → U64 → U64

/-- FREE VALUE (log entry 19). The clockClass announced while DTIME is established, a source is selected and TPVALID is low:
the table of R375 has no line for it. -/
opaque Config.clockClassOpen : Nat
/-- FREE VALUE (log entry 20). The module's PTP clock identity and its offsetScaledLogVariance. -/
opaque Config.clockId : U64
opaque Config.clockVariance : Nat

/-- FREE VALUE (log entry 24). The device identity key's ECDSA signature of a ledger entry's first 96 bytes, r then s (R545):
the key never leaves the module. -/
opaque Config.ledgerSig : List (BitVec 8) → Vector (BitVec 8) 64

/-- FREE VALUE (log entry 25). What mailbox operation 0x03 returns for an offset that is odd or not below 3,208, and RESULT of
operation 0x01 with a kind or an index out of range (R446). -/
opaque Config.mbData : Word → BitVec 16
opaque Config.mbResult : Word → BitVec 8
/-- FREE VALUE (log entry 25). KILN_OTEST of an output without a completed switch test (R444). -/
opaque Config.noTest : Nat → Word

/-- FREE VALUE (log entry 5). What a byte outside the General partition reads as from outside, by the number of the read and the
address: the spec does not give the layout of the other partitions, of the MRAM window and of the boot ROM. -/
opaque Config.memByte : Nat → Nat → BitVec 8

/-- FREE VALUE (log entry 26). Key identifier of the device certificate, and the DER certificate chain that it heads: each module
has its own (R539). -/
opaque Config.deviceKey : U64
opaque Config.certChain : List (BitVec 8)
/-- FREE VALUE (log entry 27). NUM of the SYS events of clock supervision: 0 a checker fault, n domain n failed (R34, R35); the spec
lists no number for them. -/
opaque Config.clockEvent : Nat → BitVec 16
/-- FREE VALUE (log entry 27). NUM of the SYS integrity event of a write to a partition of another owner (R29). -/
opaque Config.integrityEvent : BitVec 16
/-- FREE VALUE (log entry 28). The check value of a beat-sync frame: the frame goes to a group and has no session whose parameter set
R565 could name. -/
opaque Config.syncCheck : List (BitVec 8) → BitVec 32
/-- FREE VALUE (log entry 125). The coefficients of the half-band stages and of the final FIR stage (FLAT or FAST), with 16 fraction
bits: R629 gives tap counts and responses. -/
opaque Config.halfTap : Nat → Int
opaque Config.finalTap : Bool → Nat → Int
/-- FREE VALUE (log entry 125). The demodulation reference of a resolver pair: f_ex in kHz, the demodulation phase, the modulator
sample of the pick (R635). -/
opaque Config.resRef : Nat → Bam → Nat → BitVec 28
/-- FREE VALUE (log entry 125). The first bit of the alternating bits that replace a failed sample-link frame (R633). -/
opaque Config.altFirst : Bool
/-- The 64-bit serial number in one-time fuses (R539): each module has its own. -/
opaque Config.serial : U64

end Sys2Proof
end

