-- ==== Sys2Proof/Machine/State.lean ====
section
/-! DEFINITION. The state of the module as plain data: every register, queue, buffer, counter, mode and pin that the spec
gives it, block by block, the queue of waiting commands, and the state right after reset. -/

namespace Sys2Proof.Machine

/-- SYS_STATE.STATE of each module state (R42); OFF never reads. -/
def stateCode : ModState → Nat
  | .off => 0 | .boot => 1 | .selftest => 2 | .standby => 3 | .ready => 4
  | .active => 5 | .degraded => 6 | .safe => 7 | .service => 8

/-- SYS_STATE.ROLE of each role (R42). -/
def roleCode : Role → Nat
  | .alone => 0 | .lead => 1 | .shadow => 2 | .barred => 3

/-- One event as raised: code (R17), detail bytes, OTIME in microseconds and DTIME in nanoseconds (0 while DTIME
is not established), and whether it is a Kiln event with times converted under R431. -/
structure EventRec where
  code : Word
  detail : List Byte := []
  otimeUs : Nat := 0
  dtime : Nat := 0
  kiln : Bool := false
  deriving DecidableEq, Repr

/-- What leaves the module: frames, replies, text, pulses, and the values that register reads return. -/
inductive Output where
  /-- A drive frame from its drive header to its check value, sent on ports C and D (R564, R565). -/
  | drive (sess : Nat) (bytes : List Byte)
  /-- A command reply (R529). -/
  | reply (sess : Nat) (bytes : List Byte)
  /-- A PRIO request from its header to its check value (R597). -/
  | prio (station : Nat) (bytes : List Byte)
  /-- A telemetry datagram's UDP payload, from UDP port 47211 to an address and port (R659, R660). -/
  | telemetry (stream : Nat) (ip : Word) (port : U16) (bytes : List Byte)
  /-- A frame of another kind on an Ethernet port: its name and content. -/
  | frame (port : Nat) (kind : String) (bytes : List Byte)
  /-- A datagram or sentence of an output session (R578). -/
  | session (sess : Nat) (bytes : List Byte)
  /-- Bytes sent on a UART (R572, R578). -/
  | uart (u : Nat) (bytes : List Byte)
  /-- A frame on the pair's serial lanes or on the claim line (R453, R456). -/
  | pair (kind : String) (bytes : List Byte)
  /-- Text of the monitor (R661). -/
  | monitor (text : List Byte)
  /-- A pulse on PPS output n at a whole second (R388). -/
  | pulse (n : Nat) (second : Nat)
  /-- A STATE frame: its header as bytes and what it carries (R453). -/
  | state (header : List Byte) (body : StateBody)
  /-- The value that a register read returns. -/
  | regValue (offset : Nat) (value : Word)
  deriving DecidableEq, Repr

/-- SYS: module state, role, clock supervision, PCC and OTIME (R40 to R43, R33 to R35). -/
structure Sys where
  st : ModState := .boot
  role : Role := .alone
  /-- Both firmware slots failed: STATE0 to STATE2 blink at 4 Hz (R540, R689). -/
  bootFailed : Bool := false
  /-- An entry into ACTIVE (or into DEGRADED by takeover) that waits for its beat edge (R53, R519). -/
  pending : Option ModState := none
  /-- SYS_CLKFAIL.DOMAIN (R42). -/
  clkFail : BitVec 9 := 0
  /-- SYS_CLKCMP.CMP, confirmed comparison failures (R33, R42). -/
  clkCmp : BitVec 15 := 0
  /-- The failures of the last evaluation, for the confirmation of R33. -/
  cmpLast : BitVec 15 := 0
  /-- Comparisons reported as checker faults (R34). -/
  checker : BitVec 15 := 0
  /-- SYS_PCC (R362). -/
  pcc : Word := 0
  /-- SYS_OTIME_US as latched (R43). -/
  otimeLatch : Word := 0
  /-- A Loom fault: the Loom has stopped the Kiln heartbeat (R35, R62). -/
  loomFault : Bool := false
  /-- Level of SVC_EN (R518, R688). -/
  svcEn : Bool := false
  /-- Level of PAIR_SEAT as read at the release of the Loom reset (R688). -/
  pairSeat : Bool := false
  deriving DecidableEq, Repr

/-- The instant: DTIME of the current pick tick, nanoseconds since it, OTIME in microseconds at the tick. -/
structure Clk where
  /-- DTIME is established (TIME_STAT.EST, R360). -/
  est : Bool := false
  tick : Nat := 0
  /-- The fraction of a nanosecond of DTIME, in 2⁻¹⁶ ns (R359). -/
  frac : BitVec 16 := 0
  sub : Nat := 0
  otimeUs : Nat := 0
  deriving DecidableEq, Repr

/-- The holders of a Reed bank (R59): the stages of a beat, the beat task and RECORD. -/
inductive Holder where
  | intake | vote | observe | guide | beatTask | solve | dispatch | record
  deriving DecidableEq, Repr

/-- How far the stages of the current beat have come (R31, R54). -/
inductive Stage where
  | idle | edge | intake | voted | observed | guided | solving | solved | dispatched | recorded
  deriving DecidableEq, Repr

/-- A started beat: its bank (false A, true B), beat count, DTIME of its edge, holders left, and how far its RECORD
has come (0 not begun, 1 running, 2 done) (R59, R60). -/
structure Beat where
  bank : Bool := false
  count : Nat := 0
  edge : Nat := 0
  /-- The sub-nanosecond fraction of the DTIME of its edge (R147, R359). -/
  frac : BitVec 16 := 0
  /-- Pick count of its edge. -/
  pick : Nat := 0
  /-- Beats dropped since the started beat before it (R648). -/
  drops : Nat := 0
  /-- Monitor 6 has fired for its RECORD (R62). -/
  lateFired : Bool := false
  /-- WARP_STAT at b+0.60 (R648). -/
  wstat : Word := 0
  /-- The module drove the thrusters when this beat started: DISPATCH may send it (R53, R464). -/
  live : Bool := false
  holders : List Holder := []
  recording : Nat := 0
  /-- Its summary from OLDEST on, kept for a RECORD that begins after the next beat has started (R648). -/
  data : List Byte := []
  deriving DecidableEq, Repr

/-- WARP: picks, beats, the Reed, the Cone, drops, the grid and background work (R44 to R81). -/
structure Warp where
  nsel : BitVec 3 := 1
  /-- Picks are generated (R47). -/
  picks : Bool := false
  pickCount : Nat := 0
  /-- Beats run, from the first beat edge on (WARP_STAT.RUN). -/
  run : Bool := false
  /-- The 48-bit phase accumulator that places the ticks, in 2⁻³⁰ cycles of CLK_NET (R44, log entry 126). -/
  acc : BitVec 48 := 0
  /-- The present pick leaves time for background work (R70). -/
  spare : Bool := false
  /-- Pick count at which the next beat edge falls; none while none is scheduled (R50). -/
  nextEdge : Option Nat := none
  beatCount : Nat := 0
  /-- L and L′ of R60. -/
  last : Option Beat := none
  prev : Option Beat := none
  /-- Beats of an earlier run whose RECORD still holds its bank (R60). -/
  old : List Beat := []
  bank : Bool := false
  /-- Pick within the beat (WARP_STAT.PHASE). -/
  phase : Nat := 0
  stage : Stage := .idle
  /-- Beat edges since the last started beat, for the elapsed time of R58. -/
  sinceStart : Nat := 0
  /-- The elapsed time handed to OBSERVE and SOLVE, in ms (R58). -/
  elapsedMs : Nat := 0
  /-- The last 100 beat edges, newest first: true for a drop (R63). -/
  window : List Bool := []
  dropRun : Nat := 0
  /-- The present run of drops has already taken the module to SAFE (R66). -/
  dropSafe : Bool := false
  dropCnt : Nat := 0
  /-- Drops since the previous started beat, for the beat summary (R648). -/
  dropsSince : Nat := 0
  degDrop : Bool := false
  cone : BitVec 10 := 0
  coneCnt : List Nat := [0, 0, 0, 0, 0, 0, 0, 0, 0, 0]
  /-- WARP_GRIDOFS, ns, positive when late (R46, R76). -/
  gridOfs : Int := 0
  /-- Grid steering has been announced (R75). -/
  gridSteer : Bool := false
  bphErr : Bool := false
  guideEnd : Nat := 0
  recordEnd : Nat := 0
  bgSram : Bool := false
  bgMram : Bool := false
  bgConseq : Bool := false
  bgTelem : Bool := false
  pickL : Word := 0
  beatL : Word := 0
  edgeL : Word := 0
  /-- Bytes scrubbed in the SRAM and MRAM passes and the picks each pass has taken (R70). -/
  sramDone : Nat := 0
  sramPicks : Nat := 0
  sramTold : Bool := false
  mramTold : Bool := false
  mramDone : Nat := 0
  mramPicks : Nat := 0
  /-- Beat telegrams built by DISPATCH and not yet on the wire (R53, R62). -/
  txBeat : List Output := []
  /-- Phase-back telegrams built and not yet on the wire (R62 monitor 7). -/
  txPhase : List Output := []
  deriving DecidableEq, Repr

/-- A decoded record of a session's decoder table (R82, R86): slots by DEST, quality class, ToV and arrival. -/
structure InRec where
  table : Nat
  kind : Nat
  tov : Nat
  arrival : Nat
  slots : List (Nat × F64) := []
  cls : Nat := 1
  targetId : Option F64 := none
  /-- Number by which a fresh value is told from one latched before (R109). -/
  serial : Nat := 0
  oldCounted : Bool := false
  deriving DecidableEq, Repr

/-- An entry of an attitude ring (R98): angles in radians, body rates when present. -/
structure RingEntry where
  tov : Nat
  roll : F64 := 0
  pitch : F64 := 0
  heading : F64 := 0
  rates : Option (F64 × F64 × F64) := none
  deriving DecidableEq, Repr

/-- Deselection of a session in one group: runs of rejected and of acceptable fresh values, and the mark (R110). -/
structure DeselRun where
  bad : Nat := 0
  good : Nat := 0
  desel : Bool := false
  deriving DecidableEq, Repr

/-- What the Heddle keeps per session (R82, R87, R93 to R95, R98, R110). -/
structure HedSess where
  /-- Records decoded and not yet superseded at a latch, newest first. -/
  recent : List InRec := []
  latched : List InRec := []
  /-- Serial numbers of the records that the last INTAKE latched for the first time. -/
  fresh : List Nat := []
  /-- SEQ of the last accepted record, of an integer format and of a format that never wraps (R87). -/
  lastSeq : Option Int := none
  lastSeqF : Option F64 := none
  /-- Projected values by table with the record's serial; none where no attitude was found (R98). -/
  proj : List (Nat × Nat × Option (F64 × F64 × F64)) := []
  /-- The scan in progress of a relative session: its ToV, detections taken, tracks hit (R111). -/
  scanTov : Option Nat := none
  scanCount : Nat := 0
  scanHits : List Nat := []
  /-- The position of a fixed-target session as the last INTAKE latched it, with its ToV (R115). -/
  rel : Option ((F64 × F64 × F64) × Nat) := none
  /-- ToV of the newest relative position latched by an earlier started beat (R109, R115). -/
  relTov : Nat := 0
  /-- Apparent offsets of the last 60 s of arrivals: (arrival, arrival − ToV), oldest first. -/
  offsets : List (Nat × Int) := []
  /-- Arrival of the first offset since the window was cleared, for the full 60 s of R95. -/
  winStart : Option Nat := none
  switched : Bool := false
  ring : List RingEntry := []
  suspect : Bool := false
  own : DeselRun := {}
  heave : DeselRun := {}
  decErr : Nat := 0
  gateRej : Nat := 0
  old : Nat := 0
  future : Nat := 0
  deriving DecidableEq, Repr

/-- Track states with their codes (R124). -/
inductive TrkState where
  | free | tentative | confirmed | coasting
  deriving DecidableEq, Repr

/-- A relative-reference track (R111 to R116). -/
structure Track where
  st : TrkState := .free
  sess : Nat := 0
  targetId : Option F64 := none
  range : F64 := 0
  bearing : F64 := 0
  /-- Offset d of the last hit from the VRP in the local tangent plane, and its ToV. -/
  d : F64 × F64 × F64 := (0, 0, 0)
  tov : Nat := 0
  /-- The last scans, newest first, at most 8: true for a hit. -/
  scans : List Bool := []
  missRun : Nat := 0
  lastHit : Nat := 0
  /-- Target locations p_VRP + d of its last hits, newest first; whether the position group accepted a candidate and was not
  dead-reckoning in the beat of each (R114). -/
  hits : List ((F64 × F64 × F64) × Bool) := []
  anchor : Option (F64 × F64 × F64) := none
  anchoredAt : Nat := 0
  farRun : Nat := 0
  moving : Bool := false
  deriving DecidableEq, Repr

/-- A group's vote: status of R123, the run of clean votes, the present contradiction and dead-reckoning conditions
with the events already raised, and the operator selection (R104 to R110). -/
structure Group where
  cand : Nat := 0
  acc : Nat := 0
  contra : Bool := false
  /-- Outcome of the contradiction as last announced: 1 one agrees, 2 unresolved, 3 wind. -/
  contraKind : Nat := 0
  dr : Bool := false
  /-- Dead-reckoning condition as last announced: 0 none, 1 no candidate, 2 lone candidate. -/
  drKind : Nat := 0
  cleanRun : Nat := 0
  opSel : Option Nat := none
  /-- A selection made since the last started beat, and a release asked for (R107). -/
  opNew : Option Nat := none
  belowMin : Bool := false
  /-- Candidate sessions of the last started beat. -/
  cands : List Nat := []
  /-- Accepted sessions of the last started beat. -/
  accepted : List Nat := []
  deriving DecidableEq, Repr

/-- A measurement that VOTE hands to OBSERVE (R109, R133): kind 0 position, 1 heading. -/
structure Meas where
  kind : Nat
  sess : Nat
  tov : Nat
  v1 : F64
  v2 : F64 := 0
  sigma : F64
  deriving DecidableEq, Repr

/-- HEDDLE (R82 to R125). -/
structure Heddle where
  /-- Telegrams handed on by the interfaces and not yet decoded. -/
  inbox : List Telegram := []
  sess : List (Nat × HedSess) := []
  serial : Nat := 1
  tracks : List Track := List.replicate 64 {}
  anchorNo : Nat := 0
  groups : List Group := [{}, {}, {}, {}, {}]
  attLead : Option Nat := none
  hdgLead : Option Nat := none
  /-- What VOTE handed to OBSERVE in the last started beat. -/
  meas : List Meas := []
  /-- Roll, pitch and heave of the last started beat: weighted means when the group accepted something (R134). -/
  attOut : Option (F64 × F64) := none
  heaveOut : Option F64 := none
  /-- Wind vector accepted in the last started beat, relative to the vessel, body x and y (R108, R219). -/
  windOut : Option (F64 × F64) := none
  /-- Down component of the newest accepted position (R100), and the body rates of each fresh accepted attitude record, by session
  (R109). -/
  down : Option F64 := none
  attRates : List (Nat × (F64 × F64 × F64)) := []
  /-- HEDDLE_STAT and the group status registers as the last started beat left them (R120, R121, R123). -/
  statReg : Word := 0
  grpRegs : List Word := [0, 0, 0, 0, 0]
  nfresh : Nat := 0
  /-- HEDDLE_OLDEST in microseconds; none shows 0xFFFF_FFFF. -/
  oldest : Option Nat := none
  noAtt : Nat := 0
  sesSel : Word := 0
  winTime : Word := 0
  winOfs : Word := 0
  winDrift : Word := 0
  winCnt : Word := 0
  winErr : Word := 0
  trkSel : Word := 0
  trkStat : Word := 0
  trkRng : Word := 0
  trkBrg : Word := 0
  deriving DecidableEq, Repr

/-- An entry of the Observer's history (R136): the edge, the posterior, and the transition to the next stored edge. -/
structure ObsHist where
  edge : Nat
  x : List F64
  p : List (List F64)
  /-- Transition to the next stored edge, and the wind input and wave frequencies used on the way there. -/
  phi : List (List F64) := []
  wind : F64 × F64 × F64 := (0, 0, 0)
  omega : List F64 := []
  deriving DecidableEq, Repr

/-- The prediction for the vote (R139). -/
structure Prediction where
  edge : Nat
  north : F64
  east : F64
  psi : F64
  vn : F64
  ve : F64
  r : F64
  sigPos : F64
  sigHdg : F64
  deriving DecidableEq, Repr

/-- A warm-restart record (R145): its fields and the CRC-32C that stands behind them in MRAM. -/
structure ObsWarm where
  seq : Word
  edge : Nat
  fingerprint : U64
  bias : List F64
  cov : List (List F64)
  omega : List F64
  pcc : Word
  otimeUs : Nat
  crc : Word := 0
  deriving DecidableEq, Repr

/-- OBS (R126 to R153). -/
structure Obs where
  valid : Bool := false
  conv : Bool := false
  drPos : Bool := false
  drHdg : Bool := false
  pWarn : Bool := false
  pLimit : Bool := false
  hWarn : Bool := false
  hLimit : Bool := false
  posLost : Bool := false
  warmStart : Bool := false
  windFf : Bool := false
  rept : Bool := false
  attHold : Bool := false
  gap : Bool := false
  x : List F64 := List.replicate 18 0
  p : List (List F64) := List.replicate 18 (List.replicate 18 0)
  /-- The thrust input τ_cmd from each DTIME at which it changed, newest first (R128). -/
  tauLog : List (Nat × (F64 × F64 × F64)) := []
  /-- The wind force of the last GUIDE; none while it is not taken from GUIDE (R129). -/
  tauWind : Option (F64 × F64 × F64) := none
  omega : List F64 := [0, 0, 0]
  /-- The previous started beat edge, or the initialisation edge (R135). -/
  lastEdge : Nat := 0
  hist : List ObsHist := []
  pred : Option Prediction := none
  /-- Wave displacement signs at the started beat edges, newest first: (edge, north, east, heading) (R130). -/
  waveLog : List (Nat × (Bool × Bool × Bool)) := []
  waveSince : Nat := 0
  /-- The limit at which the estimate of each degree of freedom stands: 0 none, 1 the lower, 2 the upper (R130). -/
  waveClamped : List Nat := [0, 0, 0]
  drPosAt : Nat := 0
  drHdgAt : Nat := 0
  drPosS : Nat := 0
  drHdgS : Nat := 0
  r95 : F64 := 0
  h95 : F64 := 0
  nUpd : Nat := 0
  nDly : Nat := 0
  lateCnt : Nat := 0
  guardCnt : Nat := 0
  /-- Started beats since each of the last guard actions (R138). -/
  guards : List Nat := []
  warmResult : Nat := 0
  warmSlot : Bool := false
  warmAge : Nat := 0
  sel : Word := 0
  selVal : F64 := 0
  selVar : F64 := 0
  /-- Roll, pitch, heave as output (R134). -/
  roll : F64 := 0
  pitch : F64 := 0
  heave : F64 := 0
  /-- Started beats counted from initialisation (R145). -/
  beats : Nat := 0
  /-- The two MRAM slots and the next sequence number (R145). -/
  warm0 : Option ObsWarm := none
  warm1 : Option ObsWarm := none
  warmSeq : Word := 0
  /-- A warm-restart record is due (R145). -/
  warmDue : Bool := false
  /-- The states of the last output and SIG_N, SIG_E, SIG_HDG in radians (R138, R147). -/
  outX : List F64 := List.replicate 18 0
  sig : F64 × F64 × F64 := (0, 0, 0)
  /-- Quantities whose dead reckoning ended in this beat and whose first innovation is awaited (R144). -/
  reacqPos : Bool := false
  reacqHdg : Bool := false
  /-- The output record of the last started beat, 128 bytes (R147). -/
  record : List Byte := []
  /-- What the Reed banks A and B hold of the Observer's record (R59, R147). -/
  banks : List (List Byte) := [[], []]
  deriving DecidableEq, Repr

/-- A main solve in progress (R165 to R169, R188 to R191). -/
structure Solve where
  role : Nat
  /-- DTIME of its start. -/
  start : Nat
  iter : Nat := 0
  warm : Bool := false
  coldMis : Bool := false
  pivot : Bool := false
  /-- The values that the solve runs on, and the scaled point it has reached (R165, R166, R173, R177). -/
  vals : QpVals := {}
  pt : IpPoint := {}
  last : Option WheelStep := none
  /-- How often dp and dd have been multiplied by 100 (R189). -/
  raised : Nat := 0
  smallRun : Nat := 0
  /-- A residue mismatch has occurred in this beat (R191). -/
  residue : Bool := false
  deriving DecidableEq, Repr

/-- WHEEL (R154 to R198). -/
structure Wheel where
  status : Nat := 0
  sched : Nat := 0
  /-- Role of the schedule of the present beat's main solve, as its conditions held at T_k (R163). -/
  role : Nat := 1
  iter : Nat := 0
  warm : Bool := false
  startUs : Nat := 0
  endUs : Nat := 0
  rp : F32 := 0
  rd : F32 := 0
  gap : F32 := 0
  wdeg : Bool := false
  missRun : Nat := 0
  cleanRun : Nat := 0
  /-- The present run of FALLBACK outcomes has already taken the module to SAFE (R187). -/
  missSafe : Bool := false
  missCnt : Nat := 0
  accCnt : Nat := 0
  mismatch : Nat := 0
  aged : Nat := 0
  pivCnt : Nat := 0
  refac : Nat := 0
  projCnt : Nat := 0
  /-- Residue mismatches since the last update of WHEEL_ENG and engine faults (R191); WHEEL_ENG and CONSEQ as the last started beat
  wrote them (R196). -/
  residue : BitVec 8 := 0
  fault : BitVec 8 := 0
  residueReg : BitVec 8 := 0
  faultReg : BitVec 8 := 0
  conseqReg : Bool := false
  /-- DTIME of each engine's last residue mismatch (R191). -/
  lastResidue : List (Nat × Nat) := []
  fp : U64 := 0
  fpL : Word := 0
  dimN : Nat := 0
  dimM : Nat := 0
  fnz : Nat := 0
  /-- Warm-start records by the schedule's role (R171). -/
  recs : List (Nat × WarmRec) := []
  /-- The two MRAM slots with the order in which they were written (R176). -/
  slot0 : Option (Nat × WarmRec) := none
  slot1 : Option (Nat × WarmRec) := none
  slotSeq : Nat := 0
  /-- The next main solve takes its record from the MRAM slots (R176). -/
  useSlots : Bool := true
  copyDue : Bool := false
  /-- Started beats since the first main solve of the present run (R176). -/
  solves : Nat := 0
  plan : Option WheelPlan := none
  solve : Option Solve := none
  /-- The outcome of the present beat, decided and not yet dispatched: node 0 after the projector, and PFLAGS (R182). -/
  node0 : List (F64 × F64) := []
  pflags : List Nat := []
  /-- The outcome record of the last started beat (R183). -/
  record : List Byte := []
  deriving DecidableEq, Repr

/-- Guidance (R199 to R227): positions in m, angles in radians. -/
structure Guide where
  /-- DP mode code (R199). -/
  mode : Nat := 0
  /-- Commands accepted since the last started edge, and those latched at it, in order of acceptance (R201). -/
  waiting : List GuideCmd := []
  latched : List GuideCmd := []
  cause : Nat := 0
  sp : F64 × F64 := (0, 0)
  spH : F64 := 0
  /-- Turn direction of the heading setpoint (R209). -/
  dir : Nat := 0
  refP : F64 × F64 := (0, 0)
  refV : F64 × F64 := (0, 0)
  refA : F64 × F64 := (0, 0)
  refH : F64 := 0
  refR : F64 := 0
  refY : F64 := 0
  /-- Motion limits set by command (R222). -/
  limits : Option (F64 × F64 × F64 × F64) := none
  /-- DTIME of the soft-start edge while a soft start runs (R207). -/
  soft : Option Nat := none
  /-- β has reached 1 and the soft start waits for its end (R207). -/
  softDone : Bool := false
  beta : F64 := 0
  remain : Nat := 0
  /-- An entry into ACTIVE from READY at this edge begins a soft start (R205). -/
  enteredActive : Bool := false
  track : List Waypoint := []
  leg : Nat := 0
  q : F64 × F64 := (0, 0)
  done : Bool := false
  xte : F64 := 0
  xteOver : Bool := false
  followTrk : Nat := 0
  off : F64 × F64 := (0, 0)
  followRule : Nat := 0
  tgtValid : Bool := false
  /-- Joystick session LIVE at the last started beat of the run; none before its first (R213). -/
  joyLive : Option Bool := none
  /-- Axes that have once lain inside the dead band since a forced change (R203). -/
  joyArmed : Bool × Bool × Bool := (true, true, true)
  /-- Serial number of the joystick record that is not used any more (R213). -/
  joyOld : Option Nat := none
  windCmd : Option (Bool × F64) := none
  wFilt : Option (F64 × F64) := none
  /-- Wind feedforward suspended or disabled at the last started beat; none before the first of a run (R220). -/
  wSusp : Option Bool := none
  wRamp : Option Nat := none
  /-- The resumption ramp ran in the last started beat (R226). -/
  ramping : Bool := false
  wind : F64 × F64 × F64 := (0, 0, 0)
  fFilt : Option (F64 × F64) := none
  law : Bool := false
  tauFf : F64 × F64 × F64 := (0, 0, 0)
  demand : F64 × F64 × F64 := (0, 0, 0)
  /-- The reference at every horizon node: north, east, heading (R210). -/
  nodes : List (F64 × F64 × F64) := []
  accepted : Nat := 0
  superseded : Nat := 0
  deriving DecidableEq, Repr

/-- A phase-back cap in force (R248): force in N, power in kW, DTIME of the pick that raised it. -/
structure Cap where
  f : F64
  p : F64
  raised : Nat
  deriving DecidableEq, Repr

/-- A thruster as ALLOC and PWR hold it (R230, R231, R234, R248, R252). -/
structure Thr where
  on : Bool := true
  /-- Cause of unavailability at the last started edge; 0 available. -/
  cause : Nat := 0
  /-- One of the causes 3 to 5 held at that edge, whatever the lowest was (R277). -/
  cut : Bool := false
  /-- The command in force, body x and y, any cap applied. -/
  cmd : F64 × F64 := (0, 0)
  /-- The dispatched command that waits for its edge: force, application time, and whether it lifts the cap. -/
  next : Option ((F64 × F64) × Nat × Bool) := none
  /-- α_0 and the last commanded azimuth in radians. -/
  az0 : F64 := 0
  lastAz : F64 := 0
  /-- The drive's last status: azimuth, thrust, output, ready and not local (R569, R571). -/
  drvAz : Option Bam := none
  /-- Arrival, thrust and output of its last status telegrams, newest first (R267). -/
  drvLog : List (Nat × F32 × F32) := []
  drvReady : Bool := false
  /-- Its STATUS bits, cap sequence number held, clock at measurement, and its epoch and seat as recorded (R569, R571). -/
  drvStatus : Nat := 0
  drvCap : Nat := 0
  drvMeas : Nat := 0
  drvTok : Word × Nat := (0, 0)
  capSeq : U16 := 0
  cap : Option Cap := none
  /-- CAPSEQ of the cap that the waiting command lifts. -/
  lift : Option U16 := none
  deriving DecidableEq, Repr

/-- The values of one thruster in the data image (R232 to R236). -/
structure ThrImg where
  avail : Bool
  lo : F64 × F64
  hi : F64 × F64
  /-- Inward normals of the wedge's edges, node by node. -/
  wedge : List ((F64 × F64) × (F64 × F64)) := []
  rateLo : List F64
  rateHi : List F64
  /-- Ḟ_t·h, the bound of the rate rows of the later nodes (R235). -/
  rateStep : F64 := 0
  /-- Tangent planes of the power curve: slopes and constant. -/
  power : List (F64 × F64 × F64)
  fIn : F64 × F64
  deriving DecidableEq, Repr

/-- The data image that ALLOC writes (R157, R232 to R239): the quantities by family, and the values at the places that the schedule's
pattern gives them. -/
structure Image where
  role : Nat
  edge : Nat
  thr : List ThrImg
  /-- Bus rows node by node: a limit in kW per section, none for a free row (R237). -/
  bus : List (List (Option F64))
  /-- Lead sections and dead sections as PWR held them (R237). -/
  island : List Nat := []
  dead : BitVec 8 := 0
  demand : F64 × F64 × F64 := (0, 0, 0)
  /-- Horizon: initial state, reference headings, disturbances, references, tracking factor, continuity term. -/
  x0 : List F64 := []
  psiR : List F64 := []
  dist : List (F64 × F64 × F64) := []
  refs : List (F64 × F64 × F64) := []
  trackW : F64 := 0
  cont : F64 := 0
  tauObs : F64 × F64 × F64 := (0, 0, 0)
  tauFf : F64 × F64 × F64 := (0, 0, 0)
  /-- The rate rows are free (R254 item 4). -/
  rateFree : Bool := false
  vals : QpVals := {}
  deriving DecidableEq, Repr

/-- A consequence result (R255): 1 HELD, 2 NOT_HELD, 3 NOT_EVAL; deficit and utilisation in 0.1 %. -/
structure CqRes where
  result : Nat := 0
  deficit : Nat := 0
  util : Nat := 0
  deriving DecidableEq, Repr

/-- ALLOC (R228 to R260). -/
structure Alloc where
  thr : List Thr := List.replicate 32 {}
  widen : Nat := 0
  image : Option Image := none
  cqCycles : Nat := 0
  cqN : Nat := 0
  cqRes : List CqRes := List.replicate 8 {}
  /-- The cycle in progress: the scenarios' data images and the results so far. -/
  cqImgs : List Image := []
  cqDone : List CqRes := []
  cqActive : Bool := false
  sel : Word := 0
  selStat : Word := 0
  selFx : Word := 0
  selFy : Word := 0
  selPwr : Word := 0
  selCapF : Word := 0
  selCapP : Word := 0
  selAz : Word := 0
  /-- ALLOC_STAT's counts, ALLOC_AVAIL and ALLOC_USE as the last started beat wrote them (R259). -/
  nThr : Nat := 0
  availReg : Nat := 0
  useReg : Nat := 0
  deriving DecidableEq, Repr

/-- A breaker (R241 to R243): state of each source, since when a source is intermediate, the breaker itself. -/
structure Brk where
  src : List Bool := []
  inter : List (Option Nat) := []
  closed : Bool := false
  disagree : Option Nat := none
  told : Bool := false
  deriving DecidableEq, Repr

/-- A GOOSE subscription (R241, R577). -/
structure GooseSub where
  st : Word := 0
  sq : Word := 0
  ttlMs : Nat := 0
  rx : Nat := 0
  seen : Bool := false
  stale : Bool := false
  mems : List GooseMember := []
  deriving DecidableEq, Repr

/-- The power plant of PWR (R240 to R262). -/
structure Plant where
  /-- Fast digital inputs: confirmed changes (input, DTIME, level) not yet latched, and the levels latched at p+0.05. -/
  diPend : List (Nat × Nat × Bool) := []
  di : BitVec 16 := 0
  /-- Rising edges of each fast input, newest first, as DTIME (R274). -/
  diEdge : List (Nat × List Nat) := []
  goose : List (Nat × GooseSub) := []
  /-- GOOSE frames accepted and not yet taken by a trip check: session, arrival, members. -/
  goosePend : List (Nat × Nat × List GooseMember) := []
  gooseSim : Nat := 0
  /-- Last good values of numeric members: (session, member) ↦ value. -/
  good : List ((Nat × Nat) × F64) := []
  /-- Members announced as stale or of bad quality. -/
  badMem : List (Nat × Nat) := []
  gens : List Brk := List.replicate 16 {}
  ties : List Brk := List.replicate 12 {}
  online : BitVec 16 := 0
  closedAt : List (Option Nat) := List.replicate 16 none
  /-- Lead section of each section's island. -/
  island : List Nat := [0, 0, 0, 0, 0, 0, 0, 0]
  dead : BitVec 8 := 0
  tLoss : List (Option Nat) := List.replicate 8 none
  cont : List F64 := List.replicate 8 0
  st : List F64 := List.replicate 8 0
  est : List F64 := List.replicate 8 0
  load : List F64 := List.replicate 8 0
  /-- PWR_PPSTAT, PWR_GENON and PWR_TIES as the last trip check wrote them (R261, R262). -/
  ppStat : Word := 0
  genOn : Word := 0
  tieStat : Word := 0
  pbCnt : Nat := 0
  pbIsl : Nat := 0
  pbKappa : Nat := 0
  pbReact : Nat := 0
  sel : Word := 0
  selCont : Word := 0
  selSt : Word := 0
  selAlloc : Word := 0
  selEst : Word := 0
  selLoad : Word := 0
  /-- Latched PRIO fast inputs: (station, bit) ↦ level, none while stale. -/
  prioFast : List ((Nat × Nat) × Option Bool) := []
  deriving DecidableEq, Repr

/-- A controller of a slot (R267, R269, R272): integral, derivative state, last valid feedback and the one before it. -/
structure Ctrl where
  integ : F64 := 0
  d : F64 := 0
  y : F64 := 0
  yPrev : F64 := 0
  has : Bool := false
  fresh : Bool := false
  valid : Bool := false
  /-- Consecutive picks without a fresh valid sample (R281). -/
  stale : Nat := 0
  dropped : Bool := false
  v : F64 := 0
  /-- Number of the session value taken last, and the error of this pick. -/
  serial : Nat := 0
  e : F64 := 0
  deriving DecidableEq, Repr

/-- The repetitive stage of a slot (R273 to R275): table, phase, fade factor, and its period source. -/
structure Rep where
  table : List F64 := []
  phase : F64 := 0
  g : F64 := 0
  /-- Fade factor and DTIME at the start of the present fade (R275). -/
  g0 : F64 := 0
  fadeAt : Nat := 0
  up : Bool := false
  learning : Bool := false
  valid : Bool := true
  /-- Period in seconds now, and the last valid one before a loss. -/
  period : F64 := 0
  before : F64 := 0
  /-- Consecutive valid periods since the loss. -/
  run : Nat := 0
  lastEdge : Option Nat := none
  /-- Table entry of this pick (R273). -/
  k : Nat := 0
  deriving DecidableEq, Repr

/-- A slot of the loop engine (R276): state code, cause of the last fallback, references, controllers, output. -/
structure Slot where
  st : Nat := 1
  cause : Nat := 0
  /-- The force that DISPATCH handed over, in force, and the one that waits with its application time (R268). -/
  force : F64 := 0
  next : Option (F64 × F64 × Nat) := none
  az : F64 := 0
  rCmd : F64 := 0
  rEff : F64 := 0
  ctrls : List Ctrl := [{}, {}, {}, {}]
  u : F64 := 0
  /-- In FALLBACK: the output held or on its ramp, before the clamp by a cap (R283). -/
  held : F64 := 0
  /-- The drive's reported actual output (R277). -/
  act : F64 := 0
  actSerial : Nat := 0
  win : Nat := 0
  /-- Step 3 of R271 acted. -/
  rateLim : Bool := false
  capClamp : Bool := false
  sat : Bool := false
  /-- DTIME of the entry into SOFT, and y₀ there (R279). -/
  softAt : Nat := 0
  y0 : F64 := 0
  /-- Following-error timer in picks, freeze run, outputs of the run newest first (R281, R282). -/
  feTimer : Nat := 0
  frzRun : Nat := 0
  uHist : List F64 := []
  varBuf : List F64 := []
  /-- DTIME since which every feedback has been good (R286). -/
  goodSince : Option Nat := none
  rep : Rep := {}
  fallbacks : Nat := 0
  freezes : Nat := 0
  /-- RESET_LOOP_SLOT accepted: SOFT at the next pick (R287). -/
  reset : Bool := false
  /-- OTIME at which Cone monitor 8 last fired while the slot stood in its fallback (R287). -/
  ovrAgain : Option Nat := none
  deriving DecidableEq, Repr

/-- LOOP (R264 to R296). -/
structure Loop where
  slots : List (Nat × Slot) := []
  ovr : Bool := false
  fbCnt : Nat := 0
  sel : Word := 0
  win : List Word := [0, 0, 0, 0, 0, 0, 0, 0]
  deriving DecidableEq, Repr


/-- An IF stream (R303, R305). -/
structure Stream12 where
  up : Bool := false
  /-- It has been UP in the present run of the baseband. -/
  wasUp : Bool := false
  power : Bool := false
  run : Nat := 0
  flagged : Nat := 0
  downs : Nat := 0
  rms : Nat := 0
  clip : Nat := 0
  /-- Samples with a frame error in the last pick (R300). -/
  errs : Nat := 0
  /-- Input delay of the lanes I, Q, F in taps, and the sample of a pick that carries the mark (R302, R303). -/
  taps : List Nat := [0, 0, 0]
  markAt : Nat := 0
  deriving DecidableEq, Repr

/-- A tracking channel (R318 to R326): state code of R323, identity, words, lock quantities, and OTIME in microseconds since
which each condition of R324 has held. -/
structure Chan where
  st : Nat := 0
  sig : Nat := 0
  con : Nat := 0
  sv : Nat := 0
  strm : Nat := 0
  pset : Nat := 0
  fcn : Int := 0
  /-- Number of its unit, 0 for none; elevation in 0.01°. -/
  unit : Nat := 0
  elev : Int := 0
  /-- Entry into the present state, and into PLL. -/
  since : Nat := 0
  pllAt : Nat := 0
  ferrOk : Option Nat := none
  pliHi : Option Nat := none
  pliLo : Option Nat := none
  cnLo : Option Nat := none
  pli : Option F64 := none
  /-- Ratios of R324 of the last second, newest first, and C/N0 in 0.01 dB-Hz. -/
  ratios : List (Nat × F64) := []
  cn0 : Int := 0
  /-- Synchronisation: length of the data bit or secondary code and the time since its last boundary, ms (R321). -/
  sync : Option (Nat × Nat) := none
  sat : Bool := false
  bumps : Nat := 0
  /-- Dumps in a row in which VE (negative) or VL (positive) exceeded P. -/
  side : Int := 0
  car : BitVec 40 := 0
  cod : BitVec 40 := 0
  /-- The NCOs at the last boundary (R318): carrier phase, 24-bit count of cycles above 40 bits; code phase in 2⁻⁴⁰ chip within the
  primary code; count of primary code epochs; the DTIME of the boundary. -/
  carPh : BitVec 64 := 0
  codPh : Nat := 0
  epochs : BitVec 32 := 0
  ncoAt : Nat := 0
  /-- Carrier phase in 2⁻⁴⁰ cycle and samples since the present PLL period began (R335). -/
  pllPh : Int := 0
  pllN : Nat := 0
  /-- Words and slew that wait for the next accumulation boundary; slews counted. -/
  next : Option (BitVec 40 × BitVec 40 × Int) := none
  slews : Nat := 0
  /-- A step of 2⁻⁶ chip that the side-peak test orders (R325). -/
  bump : Int := 0
  lateRun : Nat := 0
  /-- A loss of lock or a cycle slip since the last latch; their count. -/
  slip : Bool := false
  slips : Nat := 0
  /-- The last five judgements per grid: scores, newest first; class judged (R352, R353). -/
  grids : List (List Nat) := []
  cls : Nat := 0
  scores : List Nat := [0, 0, 0, 0, 0]
  deriving DecidableEq, Repr

/-- A search request (R313): kind 0 REACQ, 1 AIDED, 2 COLD; signal priority, order of queueing, channel, the code phase in half
chips and the Doppler in Hz about which it searches, and the best cell of its first dwell. -/
structure Acq where
  kind : Nat
  prio : Nat
  order : Nat
  ch : Nat
  code : Nat := 0
  est : F64 := 0
  first : Option (Int × Int) := none
  deriving DecidableEq, Repr

/-- The snapshot of the search in progress (R310): stream, mixing frequency as an NCO word, samples at two per chip, blocks of T_coh,
T_coh in ms. -/
structure Snap where
  strm : Nat
  mix : BitVec 40
  len : Nat
  blocks : Nat
  coh : Nat
  deriving DecidableEq, Repr

/-- What a latch takes of a channel (R334). -/
structure ChanLatch where
  ch : Nat
  epochs : BitVec 32
  chips : Nat
  codFrac : BitVec 40
  cycles : BitVec 24
  carFrac : BitVec 40
  car : BitVec 40
  cod : BitVec 40
  st : Nat
  cn0 : Int
  lockT : Nat
  slips : Nat
  pllPh : Int
  pllN : Nat
  deriving DecidableEq, Repr

/-- An exclusion (R347): satellite and signal (none for every signal of it), reason bit, OTIME at which its hold ends. -/
structure Excl where
  con : Nat
  sv : Nat
  sig : Option Nat := none
  reason : Nat
  until' : Nat
  deriving DecidableEq, Repr

/-- A record formed from a latch and not yet posted (R346). -/
structure DueRec where
  tov : Nat
  /-- OTIME in microseconds of the latch. -/
  ot : Nat
  bytes : List Byte
  deriving DecidableEq, Repr

/-- GNSS (R297 to R358). -/
structure Gnss where
  run : Bool := false
  streams : List Stream12 := List.replicate 12 {}
  /-- Groups to train, in order; groups in training; groups whose last training failed a stream. -/
  queue : List Nat := []
  busy : List Nat := []
  fail : BitVec 3 := 0
  trainings : Nat := 0
  /-- OTIME of the next retraining of each group (R303). -/
  retrain : List (Option Nat) := [none, none, none]
  chans : List Chan := List.replicate 384 {}
  unitNo : Nat := 0
  acq : List Acq := []
  cur : Option Acq := none
  snap : Option Snap := none
  acqNo : Nat := 0
  refused : Nat := 0
  searches : Nat := 0
  detects : Nat := 0
  load : List Nat := [0, 0, 0, 0, 0, 0, 0, 0]
  late : Nat := 0
  shedUnits : Nat := 0
  shedChans : Nat := 0
  strmSel : Word := 0
  strmWin : List Word := [0, 0, 0, 0]
  chSel : Word := 0
  chWin : List Word := [0, 0, 0, 0, 0, 0, 0]
  /-- Latch: sequence number of the last latch, its DTIME, clock offset in ns of the last solution. -/
  lseq : Nat := 0
  latchAt : Nat := 0
  latched : List ChanLatch := []
  /-- The last position, m in WGS 84, from which the next solution starts (R338). -/
  ecef : F64 × F64 × F64 := (0, 0, 0)
  clkOfs : Option F64 := none
  /-- Latch number of the last solution. -/
  clkSeq : Nat := 0
  isb : List (Nat × F64) := []
  /-- Clock offsets of the last 60 s, newest first: (OTIME, ns). -/
  clkLog : List (Nat × F64) := []
  fix : Nat := 0
  nsv : Nat := 0
  astat : Nat := 0
  noAoa : Bool := false
  /-- Fixed double-difference ambiguities from a fixed attitude solution are held. -/
  ambig : Bool := false
  excl : List Excl := []
  /-- Constellations excluded until an OTIME. -/
  exclC : List (Nat × Nat) := []
  /-- Withdrawals CLKBAD and COMMON: the OTIME since which every latch passes, none while out of force. -/
  clkBad : Option Nat := none
  common : Option Nat := none
  rawDue : List DueRec := []
  posDue : List DueRec := []
  attDue : List DueRec := []
  mLate : Nat := 0
  /-- Correction age in 0.1 s at the last latch. -/
  corrAge : Nat := 65535
  /-- DTIME of the epoch of the newest MSM message, the reference position in 0.1 mm, and a move of it not yet judged. -/
  msmAt : Option Nat := none
  refPos : Option (Int × Int × Int) := none
  moved : Bool := false
  ageOut : Bool := false
  rtcmOk : Nat := 0
  rtcmIgn : Nat := 0
  rtcmTold : List (Nat × Nat) := []
  gridPtr : Nat := 0
  sigSel : Word := 0
  sigWin : List Word := [0, 0, 0]
  deriving DecidableEq, Repr

/-- A PTP port of a source or of the ring: offset of its last sample in 2⁻¹⁶ ns with its OTIME in microseconds, mean path
or link delay in 2⁻¹⁶ ns, the delays of the last 60 s as (OTIME, delay), newest first, the last Sync's times (R373, R376). -/
structure PtpPort where
  ofs : Option (Nat × Int) := none
  delay : Option Int := none
  delays : List (Nat × Int) := []
  /-- Origin and receive time of the last Sync, for the delay measurement. -/
  sync : Option (Int × Int) := none
  /-- A two-step Sync that waits for its Follow_Up: sequence, receive time, correction. -/
  wait : Option (Nat × Int × Int) := none
  /-- The request sent: sequence number and time. -/
  req : Option (Nat × Int) := none
  reqNo : Nat := 0
  /-- Ring: two-step Syncs passed on, newest first: sequence, OTIME, correction to add (R377). -/
  passed : List (Nat × Nat × Int) := []
  deriving DecidableEq, Repr

/-- A time source (R367 to R371): state code, switched off by command, offset θ in 2⁻¹⁶ ns and its variance. -/
structure TimeSource where
  st : Nat := 0
  off : Bool := false
  theta : Int := 0
  var : Nat := 0
  /-- What the servo yielded with its last sample. -/
  sv : ServoOut := {}
  /-- OTIME in microseconds since which it qualifies, until which it is FAULTY, since which a SUSPECT source agrees. -/
  since : Nat := 0
  faultTo : Nat := 0
  agree : Option Nat := none
  losses : Nat := 0
  faults : Nat := 0
  /-- A sample has come since the source began anew (R369). -/
  fed : Bool := false
  /-- OTIME of the last Announce and Sync, and their intervals in microseconds. -/
  annAt : Nat := 0
  annInt : Nat := 1000000
  syncAt : Nat := 0
  syncInt : Nat := 1000000
  gm : Option U64 := none
  sender : Option U64 := none
  /-- The UTC offset that its master gives as valid, with leap61 and leap59 (R387). -/
  utc : Option (Int × Bool × Bool) := none
  /-- Ports A and B. -/
  a : PtpPort := {}
  b : PtpPort := {}
  /-- Ports that gave the last sample: 0 both, 1 A, 2 B, 3 none. -/
  ports : Nat := 3
  /-- The module is master of this domain (R375). -/
  mast : Bool := false
  deriving DecidableEq, Repr

/-- TIME (R359 to R396). -/
structure TimeBase where
  /-- A leap-second count is in force (R387). -/
  leapIn : Bool := false
  hold : Bool := false
  tpvalid : Bool := false
  /-- OTIME in microseconds since which the conditions of TPVALID hold (R390). -/
  tpSince : Option Nat := none
  /-- The oscillator is REFIN; REFIN failed and OTIME of its last failure; TCXO failed (R364, R365). -/
  refUse : Bool := false
  refBad : Bool := false
  refFailAt : Nat := 0
  tcxoBad : Bool := false
  srcs : List TimeSource := [{}, {}, {}]
  /-- The selected set (R379). -/
  sel : List Nat := []
  /-- Frequency correction in 10⁻¹²; the servo's uncertainty in ns and its frequency uncertainty in ns/s (R366, R386). -/
  freq : Int := 0
  unc : F64 := 0
  y0 : F64 := 0
  /-- Holdover: u₀, OTIME of its entry, its limit announced (R386). -/
  u0 : F64 := 0
  holdAt : Nat := 0
  holdTold : Bool := false
  steps : Nat := 0
  secSteps : Nat := 0
  /-- TAI − UTC in seconds in force, its source (0 Draft, 1 MRAM, 2 GNSS, 3 PTP), pending leap seconds (R387, R396). -/
  leap : Int := 0
  leapSrc : Nat := 0
  l61 : Bool := false
  l59 : Bool := false
  leapGnss : Option (Int × Bool × Bool) := none
  /-- The count saved in MRAM. -/
  leapMram : Option Int := none
  /-- Link delays of ports A to D by peer delay, and the ring's ports (R376). -/
  links : List PtpPort := [{}, {}, {}, {}]
  /-- The module has entered READY since the last start (R378). -/
  ringOn : Bool := false
  tcCnt : Nat := 0
  tcMiss : Nat := 0
  mgmt : Nat := 0
  /-- Sequence numbers of the Sync and Announce messages sent in the three domains. -/
  txSync : List Nat := [0, 0, 0]
  txAnn : List Nat := [0, 0, 0]
  /-- OTIME in microseconds at which each PPS output's pulse ends (R389). -/
  ppsEnd : List Nat := [0, 0]
  /-- OTIME in microseconds and DTIME as saved in MRAM (R360, R361). -/
  savedOtime : Nat := 0
  savedDtime : Nat := 0
  dtL : Word := 0
  dtFrac : Word := 0
  srcSel : Word := 0
  win : List Word := [0, 0, 0, 0]
  deriving DecidableEq, Repr

/-- A thruster's part of a command copy to the Kiln (R432). -/
structure KilnCopy where
  thr : Nat
  fx : F32
  fy : F32
  apply : Nat
  beat : Nat
  cap : Option (F32 × U16)
  disp : Bool
  deriving DecidableEq, Repr

/-- A transfer of command copies over the safety link: sequence number, copies, check value (R25, R432, R434). -/
structure CopyMsg where
  seq : U16 := 0
  copies : List KilnCopy := []
  chk : Word := 0
  deriving DecidableEq, Repr

/-- A safety input of the Kiln (R404 to R413): filtered values and runs of unmasked samples, the sample at which a mismatch
began, the latched fault (0 none, 1 discrepancy, 2 test pulse, 3 source or supply), both channels 0 since it latched. -/
structure KInput where
  fa : Bool := false
  fb : Bool := false
  runA : Nat := 0
  runB : Nat := 0
  mis : Option Nat := none
  fault : Nat := 0
  both0 : Bool := false
  /-- RESET: the sample at which the press began; the press and the release that wait for their restart (R426). -/
  press : Option Nat := none
  rel : Option (Nat × Nat) := none
  /-- Consecutive failed own-pulse and foreign-pulse checks by source (R411). -/
  ownA : Nat := 0
  ownB : Nat := 0
  forA : List Nat := [0, 0, 0, 0, 0, 0, 0, 0]
  forB : List Nat := [0, 0, 0, 0, 0, 0, 0, 0]
  /-- Terminal levels in the sample before the pulse in progress began, and in its last sample. -/
  preA : Bool := false
  preB : Bool := false
  lastA : Bool := false
  lastB : Bool := false
  deriving DecidableEq, Repr

/-- A switch test in progress (R419): bright or dark, its phase and the Kiln time in µs at which the phase began. -/
structure KTest where
  bright : Bool
  phase : Nat := 0
  since : Nat
  deriving DecidableEq, Repr

/-- What KB holds of an input beside KA's KInput (R398, R405): its filtered values and runs of unmasked samples. -/
structure KFilter where
  fa : Bool := false
  fb : Bool := false
  runA : Nat := 0
  runB : Nat := 0
  deriving DecidableEq, Repr

/-- A safety output of the Kiln (R414 to R424): state and cause codes of R415 and R447. -/
structure KOutput where
  st : Nat := 4
  cause : Nat := 0
  fkind : Nat := 0
  openLoad : Bool := false
  /-- Kiln time in µs at which the off-delay ends (R424). -/
  offAt : Option Nat := none
  /-- The off condition at the last evaluation, and the sample at which it last became true (R426). -/
  cond : Bool := true
  rose : Nat := 0
  /-- Its restart has been given (R426). -/
  go : Bool := false
  /-- Consecutive samples of readback disagreement, of gate disagreement, above 2.6 A, below I_min. -/
  rb : Nat := 0
  gate : Nat := 0
  oc : Nat := 0
  low : Nat := 0
  vh : Nat := 0
  vl : Nat := 0
  cur : Nat := 0
  test : Option KTest := none
  /-- Kiln time in µs of the last completed switch test; automatic tests begun since RUN; repetition due; overdue (R420, R421). -/
  tested : Option Nat := none
  autoN : Nat := 0
  again : Option Nat := none
  overdue : Bool := false
  deriving DecidableEq, Repr

/-- A test-pulse source (R407 to R410): fault, in a pulse, Kiln times in µs of the next and of the last pulse's start, samples
of acting current limit. -/
structure KSource where
  fault : Bool := false
  pulse : Bool := false
  next : Nat := 0
  start : Option Nat := none
  lim : Nat := 0
  deriving DecidableEq, Repr

/-- A field supply (R417): at fault, consecutive samples out of range and in range. -/
structure KSupply where
  bad : Bool := false
  outRun : Nat := 0
  inRun : Nat := 0
  /-- Its voltage in mV at the last sample. -/
  mv : Nat := 0
  deriving DecidableEq, Repr

/-- A mailbox operation on its way (R446): 1 clear, 2 switch test, 3 read table, 4 withhold (the command alone), another
number as written; its argument, the command session and CSEQ that wait for it with the opcode, the pick it was given in. -/
structure KReq where
  op : Nat
  arg : Word
  owner : Option (Nat × Word × Nat) := none
  pick : Nat := 0
  deriving DecidableEq, Repr

/-- The Kiln (R398 to R448, R456 to R459, R470). Its times are its own: sample cycles since its reset. -/
structure Kiln where
  powered : Bool := false
  /-- 0 LOAD, 1 RUN, 2 FAULT (R399) and the cause of FAULT (KFCAUSE). -/
  st : Nat := 0
  fcause : Nat := 0
  samp : Nat := 0
  tbl : Option KTable := none
  /-- Bright tests of a loaded table are not complete (R436). -/
  boot : Bool := false
  runAt : Nat := 0
  rawA : Word := 0
  rawB : Word := 0
  ins : List KInput := List.replicate 32 {}
  /-- KB's filters of the inputs; the rest of the two channels is one state while they agree (R398). -/
  kb : List KFilter := List.replicate 32 {}
  outs : List KOutput := List.replicate 16 {}
  srcs : List KSource := List.replicate 8 {}
  fs : List KSupply := [{}, {}]
  /-- A pulse whose foreign check waits for the end of its mask: source, Kiln time in µs (R411). -/
  fore : Option (Nat × Nat) := none
  testQ : List Nat := []
  trip : Bool := false
  tripAt : Nat := 0
  hbLost : Bool := false
  /-- CLK_KLN cycles at the last heartbeat received right, and at the last valid one; valid ones in a row. -/
  hbSeen : Option Nat := none
  hbValid : Option Nat := none
  hbRun : Nat := 0
  hbSeq : U16 := 0
  chal : Word := 0
  invalid : Nat := 0
  lostCnt : Nat := 0
  evDrop : Nat := 0
  /-- From the last valid heartbeat: state and role codes, ARM, a table change marked (R437, R459). -/
  mstate : Nat := 0
  mrole : Nat := 0
  arm : Bool := false
  withhold : BitVec 16 := 0
  env : BitVec 32 := 0
  /-- A valid copy inside the envelope has arrived since ENV_t latched (R435). -/
  envOk : BitVec 32 := 0
  /-- Violations that wait for their application pick: thruster, application time (R433). -/
  envPend : List (Nat × Nat) := []
  prev : List (Nat × (F32 × F32 × Nat)) := []
  copyRej : Nat := 0
  /-- Sequence number of the last transfer of copies whose check value was right; none before the first (R434). -/
  copySeq : Option U16 := none
  copyIn : List CopyMsg := []
  /-- Events not yet sent: code, detail, sample count (R431). -/
  evq : List (Word × List Byte × Nat) := []
  /-- A SAFEMOD output has gone off since the last heartbeat (R427). -/
  safemod : Bool := false
  /-- The mailbox operation carried out and its result and data, due in the next heartbeat (R446). -/
  ans : Option (KReq × Nat × Nat) := none
  /-- Cross-trip inputs asserted, and lost (R470). -/
  xtHigh : BitVec 4 := 0
  xtLost : BitVec 4 := 0
  claim : Bool := false
  lineFree : Bool := false
  /-- Samples without a claim frame of the partner; samples of a dominant line; own frames misread in a row. -/
  silence : Nat := 0
  domRun : Nat := 0
  wrong : Nat := 0
  /-- LCLM fault by its three cases (R457), and the third as the Loom reported it. -/
  lclm : BitVec 3 := 0
  contra : Bool := false
  freeAt : Nat := 0
  deriving DecidableEq, Repr

/-- The KILN block of the Loom (R444 to R448): the mailbox and the windows. -/
structure KilnPort where
  withhold : BitVec 16 := 0
  mbArg : Word := 0
  /-- Operations that wait for a heartbeat, first in first out. -/
  reqs : List KReq := []
  /-- A register operation is in transit; its response is present; a write came while BUSY; RESULT and DATA. -/
  busy : Bool := false
  done : Bool := false
  ovr : Bool := false
  result : Nat := 0
  data : Nat := 0
  sealL : Word := 0
  insel : Word := 0
  istat : Word := 0
  outsel : Word := 0
  owin : List Word := [4, 0, 0]
  /-- The challenge that the next heartbeat answers (R429). -/
  chal : Word := 0
  seq : U16 := 0
  /-- The next table is a change to a Kiln in RUN (R437). -/
  change : Bool := false
  deriving DecidableEq, Repr


/-- A lane of the Doryo link (R452). -/
structure Lane where
  up : Bool := false
  /-- A valid frame has arrived in the current pick; picks without one; consecutive valid frames. -/
  seen : Bool := false
  silent : Nat := 0
  good : Nat := 0
  err : Nat := 0
  deriving DecidableEq, Repr

/-- A command whose mirror waits for the SHADOW's acknowledgement (R468): its number, session, CSEQ and opcode, and what it
does. -/
structure Mirror where
  id : Nat
  sess : Nat
  cseq : Word
  op : Nat
  act : MirAct
  deriving DecidableEq, Repr

/-- PAIR (R449 to R479). -/
structure Pair where
  epoch : Word := 0
  /-- LASTAPPLY of this module, and the partner's as last mirrored (R453, R467). -/
  lastApply : Nat := 0
  partnerLast : Nat := 0
  /-- The LEAD's warm-start record and plan as last received whole (R455). -/
  leadWarm : Option WarmRec := none
  leadPlan : Option WheelPlan := none
  lane0 : Lane := {}
  lane1 : Lane := {}
  /-- From the partner's last valid FAST frame: epoch, role, state, flags, seat, fingerprint. -/
  pEpoch : Word := 0
  pRole : Nat := 0
  pState : Nat := 0
  pFlags : Nat := 0
  pSeat : Nat := 0
  pPrint : U64 := 0
  /-- A FAST frame has arrived in the current pick, and in the one before. -/
  fastNow : Bool := false
  fastPrev : Bool := false
  /-- Picks since a FAST frame showed a SHADOW partner, and since one showed QUAL; saturating at 255. -/
  shadowAge : Nat := 255
  qualAge : Nat := 255
  dtofs : Int := 0
  ofsOver : Bool := false
  /-- The claim as reported in the last heartbeat; ARM as sent in it (R459). -/
  claim : Bool := false
  arm : Bool := false
  /-- Pick count from which seat 1 may set ARM (R460); none while no delay runs. -/
  armFrom : Option Nat := none
  /-- Seat 1 has waited its delay since its first entry into READY. -/
  armReady : Bool := false
  /-- The FAST frames carry RELEASE; the block has stopped transmitting (R454). -/
  release : Bool := false
  silent : Bool := false
  qual : Bool := false
  lclm : Bool := false
  /-- The SHADOW clears ARM after a claim report that contradicted the partner's frame (R463). -/
  yield : Bool := false
  /-- OTIME in microseconds at which the own Kiln declared the line free, as last reported. -/
  freeAt : Nat := 0
  taken : Nat := 0
  unqual : Nat := 0
  toRole : Nat := 0
  toTx : Nat := 0
  /-- The first telegram after a takeover has not left yet. -/
  txDue : Bool := false
  mirAge : Nat := 0
  wsAdopt : Nat := 0
  divRun : Nat := 0
  diverge : Bool := false
  fpMis : Bool := false
  /-- Mirroring: the next number, commands waiting, acknowledgements due, sequence numbers last mirrored by the LEAD, PROGID
  of the change that the partner has staged. -/
  mirNext : Nat := 1
  mirror : List Mirror := []
  /-- Numbers of the partner's commands taken since the link came up. -/
  mirSeen : List Nat := []
  /-- Of these, the ones whose outcome at the LEAD is not yet known: what they do, and whether their acknowledgement has left. -/
  mirHeld : List (Nat × MirAct × Bool) := []
  /-- Outcomes at the LEAD of acknowledged commands (DTIME of acceptance, none when refused), and how many frames still tell them. -/
  mirOut : List (Nat × Option Nat × Nat) := []
  acks : List Nat := []
  seqs : List (Nat × Word) := []
  pStaged : Option U64 := none
  /-- Sequence numbers as mirrored last, to tell those changed in the pick. -/
  sentSeqs : List (Nat × Word) := []
  /-- The agreed switch pick of an online change has not been mirrored yet (R508). -/
  agreeDue : Option (Nat × Bool) := none
  /-- The newest beat records handed to STATE frames: Observer record, outcome, edge of the SYNC image, ANCHOR of the warm-start
  record. -/
  sentObs : List Byte := []
  sentWheel : List Byte := []
  sentSync : Nat := 0
  sentWarm : Nat := 0
  /-- The records on their way, in the order of priority, and what has come of the partner's: length and bytes by kind (R453). -/
  outRecs : List OutRec := []
  inRecs : List (Nat × Nat × Nat) := []
  /-- Why the module is barred: 0 not, 1 PAIR_BAR, 2 a Loom fault or R465, 3 a restart (R460). -/
  barredBy : Nat := 0
  /-- The claim has been reported taken with no partner frame showing CLAIM: the lead is taken at the next tick (R463). -/
  takeDue : Bool := false
  /-- The module has the lead with its present epoch (R461). -/
  led : Bool := false
  /-- No FAST frame has arrived since the restart (R460). -/
  fresh : Bool := false
  /-- The partner's last mirrored state among READY, ACTIVE and DEGRADED, as a code (R464). -/
  pLead : Nat := 4
  deriving DecidableEq, Repr


/-- The areas of the Shuttle's memory: cells that hold a byte other than 0, in rising order of address (R491, R487,
R489). -/
structure Areas where
  data : List Host.Cell := []
  ret : List Host.Cell := []
  inp : List Host.Cell := []
  out : List Host.Cell := []
  deriving DecidableEq, Repr

/-- A task (R481 to R485): state 0 idle, 1 ready or running, 2 HALTED. -/
structure Task where
  st : Nat := 0
  /-- Pick count, tick, OTIME in microseconds and beat count of its release; first release since the Shuttle started. -/
  pick : Nat := 0
  tick : Nat := 0
  tclk : Nat := 0
  beatNo : Nat := 0
  first : Bool := false
  ran : Bool := false
  /-- DTIME of the release, for the watchdog and the execution time. -/
  at' : Nat := 0
  /-- Module state, role, DP mode, EST and TPVALID at the release (R497). -/
  sys : List Nat := []
  pc : Nat := 0
  stack : List U64 := []
  calls : List (Nat × Option (Nat × Nat)) := []
  inst : Option (Nat × Nat) := none
  view : Areas := {}
  /-- Writes of this release: area, bit address, width in bits. -/
  dirty : List (Nat × Nat × Nat) := []
  forces : List Force := []
  divz : Bool := false
  range : Bool := false
  fpout : Bool := false
  lost : Nat := 0
  /-- Releases still to be lost (R484). -/
  owed : Nat := 0
  evsup : Nat := 0
  /-- OTIME of its last aborts, newest first (R485). -/
  aborts : List Nat := []
  lastUs : Nat := 0
  maxUs : Nat := 0
  deriving DecidableEq, Repr

/-- SHUTTLE (R480 to R517). -/
structure Shuttle where
  run : Bool := false
  /-- Start count, kept in MRAM; kind of the last start: 0 none, 1 COLD, 2 WARM. -/
  starts : Word := 0
  kind : Nat := 0
  /-- The program in force (R504): that of the Draft or of an online change. -/
  prog : TwProg := {}
  tasks : List Task := []
  /-- The areas as committed. -/
  com : Areas := {}
  /-- The retentive journal in MRAM with its RETID, and whether its CRC-32C is right (R492, R510). -/
  journal : List Host.Cell := []
  journalId : U64 := 0
  journalOk : Bool := false
  forces : List Force := []
  blocked : Nat := 0
  /-- Pick count of the last start; releases follow at the next pick (R509). -/
  startPick : Nat := 0
  /-- An online-change image staged, and the change accepted: agreed pick, DROP_FORCES, session and CSEQ that wait for the
  reply. -/
  change : Option TwChange := none
  agreed : Option (Nat × Bool × Option (Nat × Word)) := none
  fault : Word := 0
  corr : Nat := 0
  syncAge : Nat := 0
  caps : List SyncCap := []
  /-- The LEAD's SYNC image as received whole. -/
  leadSync : Option SyncCap := none
  progIdL : Word := 0
  retIdL : Word := 0
  sel : Word := 0
  winStat : Word := 0
  winTime : Word := 0
  winRel : Word := 0
  deriving DecidableEq, Repr

/-- A command session (R524, R530, R536). -/
structure CmdSession where
  /-- Entry of the session table (R524). -/
  idx : Nat
  /-- VIEW 0, OPERATE 1, ENGINEER 2 (R525). -/
  level : Nat
  /-- The session's anchor grants SAFETY (R536, R538). -/
  grantsSafety : Bool := false
  /-- Opened to an unprovisioned module (R527). -/
  unprov : Bool := false
  /-- Key identifier of the client certificate (R545 ACTOR). -/
  actor : U64 := 0
  /-- CSEQ and reply of the last command evaluated (R530). -/
  last : Option (Word × List Byte) := none
  /-- The command that still waits for its reply: its CSEQ and opcode (R531). -/
  waiting : Option (Word × Nat) := none
  /-- Pick count at which a waiting Kiln command was evaluated (R442, R531). -/
  kilnPick : Option Nat := none
  /-- OTIME in microseconds of the last record (R524). -/
  lastRecord : Nat := 0
  /-- OTIME at which SAFETY lapses; none when the session does not hold it (R536). -/
  safetyUntil : Option Nat := none
  deriving DecidableEq, Repr

/-- CMD (R518 to R550). -/
structure Cmd where
  sessions : List CmdSession := []
  /-- CMD_CAUSE.DEGCAUSE and SAFECAUSE (R520). -/
  deg : BitVec 8 := 0
  safe : BitVec 8 := 0
  accCnt : Nat := 0
  refCnt : Nat := 0
  lastRefStatus : U16 := 0
  lastRefOpcode : U16 := 0
  authHandshake : Nat := 0
  authPassword : Nat := 0
  /-- Session that issued the last ENTER_SERVICE: its level and actor (R664). -/
  serviceBy : Option (Nat × U64) := none
  deriving DecidableEq, Repr

/-- One ledger entry in its wire form, bytes 0 to 159 (R545). -/
abbrev LedgerBytes := List Byte

/-- A trust anchor or deny entry (R525, R542): kind 0 CLIENT, 1 DRAFT, 2 SAFETY_KEY. -/
structure Anchor where
  kind : Nat
  level : Nat
  keyId : U64
  deriving DecidableEq, Repr

/-- A firmware slot (R540, R541). -/
structure FwSlot where
  present : Bool := true
  version : Word := 0
  epoch : Nat := 0
  deriving DecidableEq, Repr

/-- An open bulk transfer (R544). -/
structure Bulk where
  sess : Nat
  target : Nat
  length : Nat
  digest : List Byte
  received : List Byte := []
  lastWrite : Nat := 0
  deriving DecidableEq, Repr

/-- SEC: identity, anchors, password, firmware, ledger, Draft images (R525, R536 to R547, R551). -/
structure Sec where
  anchors : List Anchor := []
  deny : List U64 := []
  /-- A safety password is set: salt and PBKDF2 result (R536, R538). -/
  password : Option (BitVec 128 × BitVec 256) := none
  /-- OTIME in microseconds of the failed unlocks that count (R537). -/
  failedUnlocks : List Nat := []
  lockUntil : Option Nat := none
  slot0 : FwSlot := {}
  slot1 : FwSlot := { present := false }
  /-- Slot marked active, slot booted (false 0, true 1). -/
  activeSlot : Bool := false
  bootedSlot : Bool := false
  /-- The active slot is on trial, boots begun on trial, FLOOR asked for (R541). -/
  trial : Bool := false
  trialBoots : Nat := 0
  trialFloor : Bool := false
  floor : Nat := 0
  /-- The other slot was booted after a verification failure: event 0x1134_0002 due (R540). -/
  slotFailed : Bool := false
  /-- Entries of the ledger, oldest first (R545), and the SEQ of the next one. -/
  ledger : List LedgerBytes := []
  ledgerNext : Word := 0
  /-- Active Draft verified (SEC_STAT.DRAFTOK). -/
  draftOk : Bool := false
  bulk : Option Bulk := none
  serialL : Word := BitVec.setWidth 32 Config.serial
  deriving DecidableEq, Repr

/-- Session states with their codes in NET_SESSTAT.STATE (R590). -/
inductive SessState where
  | provisioned | admitted | live | stale | lost | barred | free
  deriving DecidableEq, Repr

/-- An entry of the session table (R580 to R583, R590). -/
structure Session where
  st : SessState := .provisioned
  kind : Nat := 0
  iface : Nat := 0
  /-- Valid telegrams, rejected for check, rejected for sequence, rate drops, state changes. -/
  rx : Nat := 0
  check : Nat := 0
  seqRej : Nat := 0
  rateDrop : Nat := 0
  changes : Nat := 0
  /-- DTIME of the last valid telegram (R582). -/
  lastValid : Option Nat := none
  /-- Valid telegrams of the present run towards ADMITN. -/
  run : Nat := 0
  /-- The whole second of DTIME in which rejected telegrams are counted, and their number. -/
  rejSec : Nat := 0
  rejCount : Nat := 0
  barredAt : Nat := 0
  /-- The budget of R583 in thousandths of a telegram, and the pick it was last filled in. -/
  credit : Nat := 0
  creditPick : Nat := 0
  /-- T_STALE in microseconds where the partner gives it (timeAllowedToLive, R241, R581). -/
  ttlUs : Option Nat := none
  /-- Last sequence number sent, and last accepted from the partner (R467, R570, R571). -/
  txSeq : Word := 0
  rxSeq : Option Word := none
  deriving DecidableEq, Repr


/-- An IPv4 configuration: address, prefix length, default gateway (R557). -/
structure IpConf where
  ip : Word
  plen : Nat
  gateway : Word
  deriving DecidableEq, Repr

/-- An Ethernet port (R554 to R561, R587, R590). -/
structure Port where
  up : Bool := false
  speed : Nat := 0
  used : Bool := false
  mdix : Bool := false
  downs : Nat := 0
  rx : Nat := 0
  tx : Nat := 0
  budget : Nat := 0
  unprov : Nat := 0
  fcs : Nat := 0
  fwd : Nat := 0
  dup : Nat := 0
  /-- Frames handed to session processing in the current pick (R587). -/
  now : Nat := 0
  /-- OTIME in microseconds of the last frame. -/
  last : Option Nat := none
  /-- Bytes waiting in the egress buffer for forwarded frames (R560). -/
  buf : Nat := 0
  /-- The own ring supervision frame sent on this port has returned on the other (R561). -/
  back : Bool := false
  deriving DecidableEq, Repr

/-- A received frame remembered for duplicate discard (R559): source MAC, sequence number, port, OTIME in microseconds. -/
structure PrpSeen where
  src : List Byte
  seq : Nat
  port : Nat
  at' : Nat
  deriving DecidableEq, Repr

/-- NET (R554 to R593). -/
structure Net where
  ready : Bool := false
  /-- OTIME in microseconds of NET_READY, and of the first link-up of port A or B (R585). -/
  readyAt : Option Nat := none
  linkAt : Option Nat := none
  admitOpen : Bool := false
  prenr : Nat := 0
  admitted : Nat := 0
  deferred : Nat := 0
  arpDrop : Nat := 0
  icmpDrop : Nat := 0
  overrun : Nat := 0
  ports : List Port := [{}, {}, {}, {}]
  lanBad : List Bool := [false, false]
  ringBad : Bool := false
  /-- The ring has been closed once: forwarding runs (R560). -/
  forwarding : Bool := false
  /-- The IPv4 configuration saved in MRAM (R557), and the address in use. -/
  saved : Option IpConf := none
  ip : Word := 0
  /-- Answers in the running second of OTIME: the second, ARP, ICMP (R558). -/
  ansSec : Nat := 0
  arpNow : Nat := 0
  icmpNow : Nat := 0
  /-- HelloRetryRequests and entries created in the current pick (R586). -/
  retryNow : Nat := 0
  createdNow : Nat := 0
  /-- Pick count of the counters of the current pick. -/
  pick : Nat := 0
  seen : List PrpSeen := []
  prpSeq : Nat := 0
  hsrSeq : Nat := 0
  ringSup : Bool := false
  portSel : Word := 0
  portWin : List Word := [0, 0, 0, 0, 0, 0]
  sesSel : Word := 0
  sesWin : List Word := [6, 0, 0, 0xFFFFFFFF, 0]
  deriving DecidableEq, Repr

/-- A UART (R572, R573). -/
structure Uart where
  asm : List Byte := []
  /-- A tag block is being skipped. -/
  tag : Bool := false
  accepted : Nat := 0
  discarded : Nat := 0
  framing : Nat := 0
  overrun : Nat := 0
  /-- OTIME in microseconds of the last accepted sentence or RTCM message. -/
  last : Option Nat := none
  deriving DecidableEq, Repr

/-- A sequence in assembly on NMEA 2000 (R575): source address, PGN, sequence identifier (none for ISO transport), total
length, next frame, bytes. -/
structure N2kSeq where
  src : Nat
  pgn : Nat
  sid : Option Nat
  total : Nat
  next : Nat
  bytes : List Byte
  deriving DecidableEq, Repr

/-- A CAN controller (R574, R575, R592): bus 0 error active, 1 error passive, 2 bus-off, 3 unused. -/
structure Can where
  bus : Nat := 3
  tec : Nat := 0
  rec' : Nat := 0
  frames : Nat := 0
  overflow : Nat := 0
  errFrames : Nat := 0
  busOffs : Nat := 0
  /-- NAME by source address. -/
  names : List (Nat × U64) := []
  seqs : List N2kSeq := []
  deriving DecidableEq, Repr

/-- FIELD (R572 to R575, R591 to R593). -/
structure Field where
  uarts : List Uart := [{}, {}, {}, {}, {}, {}, {}, {}]
  cans : List Can := [{}, {}, {}, {}]
  uartSel : Word := 0
  uartWin : List Word := [0, 0, 0]
  canSel : Word := 0
  canWin : List Word := [3, 0, 0]
  deriving DecidableEq, Repr

/-- A software unit of the Glaze (R619): set index and running value. -/
structure SwUnit where
  /-- None until the first write to the unit since reset; then the index of its set. -/
  set : Option Nat := none
  run : Nat := 0
  deriving DecidableEq, Repr

/-- A stream's context: set index, running value, byte count (R616). -/
structure GlazeCtx where
  set : Nat
  run : Nat
  count : Nat
  deriving DecidableEq, Repr

/-- GLAZE (R611 to R624). -/
structure Glaze where
  failCnt : Nat := 0
  /-- GLAZE_STAT.FAIL. -/
  fail : BitVec 16 := 0
  ctxsw : Nat := 0
  /-- The stream whose context each hardware unit holds (R616): unit ↦ session. -/
  loaded : List (Nat × Nat) := []
  /-- The contexts of the streams in the Heddle and Observer partition (R616). -/
  ctx : List (Nat × GlazeCtx) := []
  psSel : Word := 0
  psFmt : Word := 0
  psPoly : Word := 0
  psInit : Word := 0
  psXor : Word := 0
  swSel : Word := 0
  sw0 : SwUnit := {}
  sw1 : SwUnit := {}
  swCtl : Word := 3
  deriving DecidableEq, Repr

/-- A module of a station as received and sent (R603, R604). -/
structure StaMod where
  /-- A block has been accepted since the Shuttle started. -/
  has : Bool := false
  /-- The last accepted block had VALID = 0 or MFAULT = 1. -/
  bad : Bool := false
  /-- Accepted in the latch of the station's last due reply. -/
  now : Bool := false
  /-- Last accepted alive value; none when the next value is taken without check. -/
  alive : Option Nat := none
  data : List Byte := []
  /-- Alive value of the last block sent, none before the first. -/
  sent : Option Nat := none
  deriving DecidableEq, Repr

/-- A remote station (R594 to R608). -/
structure Sta where
  /-- SAFE in the newest accepted reply; a module was faulty in it. -/
  safe : Bool := false
  mfault : Bool := false
  /-- Requests built since the return to LIVE; none when it never was DROPPED (R608). -/
  back : Option Nat := none
  /-- The valid replies not yet latched, newest first: arrival and PRIO header with module blocks. -/
  held : List (Nat × List Byte) := []
  /-- A reply is due; the last due one was counted as missing. -/
  due : Bool := false
  missed : Bool := false
  /-- Pick count of the last latch of a reply. -/
  latchPick : Nat := 0
  /-- The highest epoch of its replies. -/
  epoch : Word := 0
  /-- SAMPLED of the newest accepted reply; the AGE of the last latch. -/
  sampled : Option Nat := none
  age : Option Nat := none
  wd : Nat := 0
  missing : Nat := 0
  late : Nat := 0
  mchk : Nat := 0
  alive : Nat := 0
  mods : List (Nat × StaMod) := []
  deriving DecidableEq, Repr

/-- RIO (R593 to R625). -/
structure Rio where
  /-- Stations that are DROPPED (R606). -/
  dropped : List Nat := []
  sta : List (Nat × Sta) := []
  /-- Rising edges of each PRIO fast input, newest first, as DTIME, under the number of `edgeKey` (R274, R600). -/
  edges : List (Nat × List Nat) := []
  sel : Word := 0
  /-- RIO_SSTAT to RIO_SWD as of the last snapshot. -/
  win : List Word := [6, 0xFFFFFFFF, 0, 0, 0, 0, 0]
  deriving DecidableEq, Repr


/-- Sums over the VALID samples of a calibration phase (R638). -/
structure CalSum where
  n : Nat := 0
  /-- All samples of the phase, valid or not. -/
  all : Nat := 0
  own : F64 := 0
  spare : F64 := 0
  /-- Sums and counts in the second reference of SPAREREF and CHANREF. -/
  n2 : Nat := 0
  ref : F64 := 0
  deriving DecidableEq, Repr

/-- An analog channel (R627 to R639): condition 0 OFF, 1 VALID, 2 UNSETTLED, 3 INVALID. -/
structure AdcCh where
  cond : Nat := 0
  /-- Cause of INVALID as announced (R628). -/
  cause : Nat := 0
  settle : Nat := 0
  val : F32 := 0
  raw : Int := 0
  /-- The last VALID value, and the newest sample delivered before p+0.10 with its validity (R267, R487). -/
  last : Option F64 := none
  latch : Option F64 := none
  /-- Time of validity of the newest sample, DTIME ns (R631). -/
  tov : Nat := 0
  m : F64 := 0
  mSet : Bool := false
  frozen : Bool := false
  onSpare : Bool := false
  calFault : Bool := false
  range : Bool := false
  /-- The last sample was outside the valid span or saturated, in VOLT mode (R628). -/
  beyond : Bool := false
  /-- Offset O in V and gain G in use. -/
  o : F64 := 0
  g : F64 := 0
  /-- Coefficients in MRAM by mode: G and O (R637). -/
  saved : List (Nat × (F64 × F64)) := []
  result : Nat := 0
  /-- OTIME in microseconds of the last passed slot. -/
  passAt : Option Nat := none
  diff : F64 := 0
  ang : Bam := 0
  /-- The 250 Ω shunt is connected (R626). -/
  shunt : Bool := true
  /-- The next sample is the first after a switch between the chains (R634, R639). -/
  hand : Bool := false
  deriving DecidableEq, Repr

/-- An excitation output (R636). -/
structure Exc where
  bad : Nat := 0
  good : Nat := 0
  fault : Bool := false
  deriving DecidableEq, Repr

/-- The fourth-order CIC decimator of a modulator: four integrators, four combs, samples since its last output, that output (R629,
R630). -/
structure Cic where
  i1 : BitVec 28 := 0
  i2 : BitVec 28 := 0
  i3 : BitVec 28 := 0
  i4 : BitVec 28 := 0
  c1 : BitVec 28 := 0
  c2 : BitVec 28 := 0
  c3 : BitVec 28 := 0
  c4 : BitVec 28 := 0
  n : Nat := 0
  out : BitVec 28 := 0
  deriving DecidableEq, Repr

/-- A FIR stage that decimates by 2: its last inputs, newest first, and whether one has come since its last output (R629). -/
structure Fir where
  hist : List Int := []
  odd : Bool := false
  deriving DecidableEq, Repr

/-- The FIR stages of a modulator's chain, half-bands first; whether a stage has saturated since the last output; the last output
code and whether a stage saturated on it (R628 to R630). -/
structure Chain where
  firs : List Fir := []
  sat : Bool := false
  code : Int := 0
  clip : Bool := false
  deriving DecidableEq, Repr

/-- ADC (R626 to R644). -/
structure Adc where
  run : Bool := false
  /-- The decimators of the 33 modulators, the spare last, and the FIR stages after them. -/
  cic : List Cic := List.replicate 33 {}
  chains : List Chain := List.replicate 33 {}
  /-- Modulator samples since the pick tick, 6,144 to a pick (R32, R635). -/
  bitNo : Nat := 0
  chans : List AdcCh := List.replicate 32 {}
  exc : List Exc := List.replicate 8 {}
  badFrames : Nat := 0
  lostPicks : Nat := 0
  /-- Frames failed in the pick `badPick`, consecutive lost picks, pick count of the last lost pick. -/
  badNow : Nat := 0
  badPick : Nat := 0
  lostRun : Nat := 0
  lostAt : Nat := 0
  linkBad : Bool := false
  cycles : Nat := 0
  abandoned : Nat := 0
  /-- The slot in progress: channel, phase 0 to 5, pick count of its start. -/
  slotCh : Option Nat := none
  ph : Nat := 0
  slotAt : Nat := 0
  sum : CalSum := {}
  /-- Coefficients of the spare and the new ones of the channel: O and G. -/
  spareO : F64 := 0
  spareG : F64 := 0
  newO : F64 := 0
  newG : F64 := 0
  newOk : Bool := false
  ov1Ok : Bool := false
  spareFail : Nat := 0
  spareBad : Bool := false
  sel : Word := 0
  /-- ADC_CHCFG to ADC_CHANG as of the last snapshot. -/
  win : List Word := [0, 0, 0, 0, 0, 0, 0, 0, 0]
  deriving DecidableEq, Repr

/-- A recorder record (R645): its length is 36 bytes more than its payload. -/
structure Rec where
  rtype : Nat
  high : Bool
  kiln : Bool := false
  recovered : Bool := false
  rseq : Word
  pcc : Word
  otimeUs : Nat
  /-- OTIME of its staging, for the age of a page (R650). -/
  staged : Nat
  dtime : Nat
  srcblk : Nat
  srcinst : Nat := 0
  payload : List Byte
  deriving DecidableEq, Repr

/-- A freeze: its OTIME span in microseconds, and a trigger order number for incident freezes (R656). -/
structure Freeze where
  lo : Nat
  hi : Nat
  born : Nat := 0
  deriving DecidableEq, Repr

/-- A telemetry stream (R659, R660). -/
structure Stream where
  enable : Bool := false
  ip : Word := 0
  port : U16 := 0
  mask : Nat := 0
  decim : Nat := 1
  dseq : Word := 0
  /-- Beat summaries seen since the last one sent. -/
  beats : Nat := 0
  deriving DecidableEq, Repr

/-- A NAND block that holds records: its place in the circle of its area, its records in RSEQ order, pages programmed (R651, R652). -/
structure Block where
  no : Nat := 0
  recs : List Rec := []
  pages : Nat := 0
  deriving DecidableEq, Repr

/-- SHERD (R645 to R660, R667). -/
structure Sherd where
  rseq : Word := 0
  flushed : Word := 0
  /-- Unflushed records, oldest first (R649). -/
  staging : List Rec := []
  /-- Bytes of the oldest unflushed record that are programmed already; pages programmed in this pick (R650). -/
  headDone : Nat := 0
  pagesNow : Nat := 0
  /-- A block erase has begun in the present pick (R70). -/
  eraseNow : Bool := false
  /-- Records staged since the last pick tick, for telemetry (R660). -/
  fresh : List Rec := []
  /-- Blocks that hold records, oldest written first; the last is the one in writing. -/
  ring : List Block := [{}]
  archive : List Block := [{}]
  /-- Bytes of HIGH records written to the archive's block in writing. -/
  archFill : Nat := 0
  /-- Blocks of the ring and of the archive that remain, spare blocks, blocks retired, erase counts above 0 by place, the archive's from 65,536 on. -/
  ringSize : Nat := 28672
  archiveSize : Nat := 2048
  spare : Nat := 1136
  retired : Nat := 0
  erase : List (Nat × Nat) := []
  /-- The next block of each area has been erased ahead (R652). -/
  ringErased : Bool := true
  archiveErased : Bool := true
  stopped : Bool := false
  pfFlush : Bool := false
  /-- LOW records are not accepted (R654, R677). -/
  lowShut : Bool := false
  pfStart : Nat := 0
  dropLow : Nat := 0
  dropHigh : Nat := 0
  dropTelem : Nat := 0
  flushTime : Nat := 0
  flushLost : Nat := 0
  freezes : List (Nat × Freeze) := []
  born : Nat := 0
  streams : List Stream := [{}, {}, {}, {}]
  spareWarned : Bool := false
  wearWarned : Bool := false
  /-- RSEQ of the newest record staged before the last start (R655). -/
  startSeq : Word := 0
  /-- A power-fail flush began (cause 4 record) and no cause-5 record was written since (R655). -/
  flushOpen : Bool := false
  deriving DecidableEq, Repr

/-- MON: the Narti monitor (R661 to R664, R669). -/
structure Mon where
  /-- The line in assembly; its rest is being skipped after an overflow. -/
  line : List Byte := []
  skip : Bool := false
  /-- The complete line in execution, and the characters that arrive meanwhile. -/
  cur : Option (List Byte) := none
  buffer : List Byte := []
  log : Bool := false
  ovf : Bool := false
  exec : Nat := 0
  refused : Nat := 0
  writes : Nat := 0
  deriving DecidableEq, Repr

/-- PMIC side of PWR (R671 to R695). -/
structure Pmic where
  pfw : Bool := false
  /-- The warning comes from a thermal shutdown and is never withdrawn (R677). -/
  pfwThermal : Bool := false
  holdOk : Bool := false
  holdLow : Bool := false
  vinOut : Bool := false
  vbatLow : Bool := false
  hot95 : Bool := false
  hot100 : Bool := false
  /-- CLK_AON had failed when the module powered down: the real-time clock kept no time (R35). -/
  rtcDead : Bool := false
  rtcLost : Bool := false
  vin : Nat := 0
  hold : Nat := 0
  vbat : Nat := 0
  holdCap : Nat := 0
  holdEst : Nat := 0
  /-- PWR_RAILS.GOOD and FAULT. -/
  railGood : BitVec 5 := 0
  railFault : BitVec 5 := 0
  /-- OTIME in microseconds of the last Loom, MRAM or NAND rail fault (R683). -/
  railAt : Option Nat := none
  /-- Dies held in reset until the next power-up from OFF: bit 0 Kiln, 1 Loom, 2 Selvedge (R683). -/
  held : BitVec 3 := 0
  rstCause : Nat := 1
  pfWarn : Nat := 0
  pfWithdrawn : Nat := 0
  tBase : Int := 0
  tLoom : Int := 0
  tKiln : Int := 0
  tPmic : Int := 0
  inPwr : Nat := 0
  peak : Nat := 0
  /-- The module was shut down by temperature and waits to cool (R690). -/
  thermalOff : Bool := false
  /-- A reset that came during a warning and is held (R678): its code of R682. -/
  heldReset : Option Nat := none
  /-- SELFTEST waits for HOLDOK (R681). -/
  waitHold : Bool := false
  /-- OTIME in microseconds: charging began (R681); the last capacitance measurement (R679); a temperature beyond its shutdown limit
  since (R690); VIN in a warning band since (R673). -/
  chargeAt : Nat := 0
  capAt : Nat := 0
  hotSince : Option Nat := none
  bandSince : Option Nat := none
  /-- One-second mean input powers of the last 60 s that no later one exceeds, newest first: OTIME in microseconds, mW (R679). -/
  pwrLog : List (Nat × Nat) := []
  deriving DecidableEq, Repr

/-- Why a step stops with a fault: no rule of the spec stops the module so; the type has one constructor so that it is
not empty, and nothing raises it (safe). -/
inductive Fault where
  /-- Raised by nothing (safe). -/
  | none
  deriving DecidableEq, Repr

/-- Why a command is refused by the model. -/
inductive Refusal where
  /-- A command that has no meaning yet; raised by exec's arm for it alone (safe: the model stops). -/
  | notModelled (mnemonic : String)
  deriving DecidableEq, Repr

/-- The module. -/
structure State where
  sys : Sys := {}
  /-- The active Draft, the staged Draft and the previous one (R543, R544). -/
  draft : Option Draft := none
  staged : Option Draft := none
  prevDraft : Option Draft := none
  clk : Clk := {}
  warp : Warp := {}
  heddle : Heddle := {}
  obs : Obs := {}
  wheel : Wheel := {}
  guide : Guide := {}
  alloc : Alloc := {}
  plant : Plant := {}
  loop : Loop := {}
  rio : Rio := {}
  adc : Adc := {}
  shuttle : Shuttle := {}
  /-- The KILN mirror registers by offset, as the last heartbeat left them (R444). -/
  mirror : List (Nat × Word) := []
  kiln : Kiln := {}
  kport : KilnPort := {}
  pair : Pair := {}
  /-- Command copies on their way to the Kiln, oldest first (R74, R432). -/
  copies : List CopyMsg := []
  /-- Sequence number of the last of them (R25). -/
  copySeq : U16 := 0
  /-- What the registers show that are renewed at every pick, latch or second, by address; one not listed shows the present
  value (R293, R330, R356, R394, R477, R514, R549, R589, R591, R621, R642, R667, R669, R693). -/
  shown : List (Nat × Word) := []
  time : TimeBase := {}
  gnss : Gnss := {}
  /-- The session table by index; an index not listed is free (R580). -/
  sess : List (Nat × Session) := []
  net : Net := {}
  field : Field := {}
  glaze : Glaze := {}
  cmd : Cmd := {}
  sec : Sec := {}
  sherd : Sherd := {}
  mon : Mon := {}
  pmic : Pmic := {}
  /-- SRAM cells of the General partition that hold a byte other than 0 (R28, R29), in rising order of address. -/
  mem : List Host.Cell := []
  /-- Every event raised, oldest first (R17). -/
  events : List EventRec := []
  /-- Everything that left the module, oldest first. -/
  out : List Output := []
  /-- OTIME in microseconds at which a rate-limited event was last raised, by its key. -/
  limits : List (Nat × Nat) := []
  /-- The model's own counter from which free values are drawn (log entry 4). -/
  free : Nat := 0
  /-- The commands that wait, first in first out. -/
  pending : List Instr := []
  deriving DecidableEq, Repr

/-- The module right after power-up reset: BOOT, every register at the reset value its map gives, no Draft, the Kiln in LOAD, HOLD
charging (R40, R399, R675, R684). -/
def State.reset : State := { kiln := { powered := true }, pmic := { waitHold := true } }

end Sys2Proof.Machine
end

