-- ==== Sys2Proof/Machine/Ops.lean ====
section
/-! DEFINITION. The operations every meaning shares: the present instant, what leaves the module, recorder records,
events with their reactions, rate limits, and memory. -/

namespace Sys2Proof.Machine

/-- DTIME at the present instant, in ns. -/
def State.now (s : State) : Nat := s.clk.tick + s.clk.sub
/-- OTIME at the present instant, in microseconds (R361). -/
def State.otime (s : State) : Nat := s.clk.otimeUs + s.clk.sub / 1000
/-- DTIME as records show it: 0 while DTIME is not established (R645). -/
def State.stamp (s : State) : Nat := if s.clk.est then s.now else 0
/-- The state at t ns after the current pick tick. -/
def State.at (s : State) (t : Nat) : State := { s with clk := { s.clk with sub := t } }
/-- The state at the DTIME t, when t lies after the current tick. -/
def State.atDtime (s : State) (t : Nat) : State :=
  if s.clk.tick ≤ t then s.at (t - s.clk.tick) else s

/-- The Ethernet ports on which something leaves: both of a network for doubly attached nodes (R559, R560, R564). -/
def Output.ports : Output → List Nat
  | .drive _ _ => [2, 3]
  | .prio _ _ => [2, 3]
  | .reply _ _ => [0, 1]
  | .telemetry _ _ _ _ => [0, 1]
  | .session _ _ => [0, 1]
  | .frame p _ _ => [p]
  | _ => []

/-- NET_PTX counts the frames sent on each port (R589). -/
def Net.sent (n : Net) (o : Output) : Net :=
  { n with ports := o.ports.foldl (fun (l : List Port) p => modifyAt l p (fun x => { x with tx := sat32 x.tx })) n.ports }

/-- The first drive telegram after a takeover ends the interval that PAIR_TOLAST.TOTX records (R466, R478). -/
def Pair.sentOne (p : Pair) (o : Output) (otime : Nat) : Pair :=
  match o with
  | .drive _ _ => if p.txDue then { p with txDue := false, toTx := min 0xFFFF (otime - p.freeAt) } else p
  | _ => p

/-- Registers show new values. -/
def State.shows (s : State) (l : List (Nat × Word)) : State :=
  { s with shown := l ++ s.shown.filter (fun e => !l.any (fun p => p.1 == e.1)) }

/-- Something leaves the module. -/
def State.emit (s : State) (o : Output) : State :=
  { s with out := s.out ++ [o], net := s.net.sent o, pair := s.pair.sentOne o s.otime }
/-- Several things leave the module, in order. -/
def State.emitAll (s : State) (o : List Output) : State := o.foldl State.emit s

/-- The Draft sets the pair mode to PAIR (R449). -/
def State.pairMode (s : State) : Bool := match s.draft with
  | some d => d.pair.mode == 1
  | none => false

/-- The Doryo link is up while either lane is (R452). -/
def Pair.linkUp (p : Pair) : Bool := p.lane0.up || p.lane1.up

/-- Total length of a record in bytes (R645). -/
def Rec.length (r : Rec) : Nat := 36 + r.payload.length
/-- Bytes of unflushed LOW records and of all unflushed records (R649). -/
def Sherd.lowBytes (h : Sherd) : Nat := (h.staging.filter (fun r => !r.high)).foldl (fun n r => n + r.length) 0
def Sherd.allBytes (h : Sherd) : Nat := h.staging.foldl (fun n r => n + r.length) 0
/-- Staging holds 8 MiB; LOW records at most 7.5 MiB of it (R649). -/
def stagingSize : Nat := 8388608
def stagingLow : Nat := 7864320

/-- Whether a record of this class and length finds room (R649, R654 item 2). -/
def Sherd.room (h : Sherd) (high : Bool) (len : Nat) : Bool :=
  if high then decide (h.allBytes + len ≤ stagingSize)
  else !h.lowShut && decide (h.lowBytes + len ≤ stagingLow) && decide (h.allBytes + len ≤ stagingSize)

/-- A record is staged when it finds room: the next RSEQ is assigned (R646). Otherwise it is counted as dropped.
`now` is the OTIME of staging, `otime` and `dtime` the header times. Raises nothing. -/
def Sherd.put (h : Sherd) (pcc : Word) (rtype : Nat) (high kiln : Bool) (now otime dtime blk inst' : Nat)
    (payload : List Byte) : Sherd :=
  if h.room high (36 + payload.length) then
    let r : Rec := {
      rtype := rtype, high := high, kiln := kiln, rseq := h.rseq + 1, pcc := pcc, otimeUs := otime, staged := now
      dtime := dtime, srcblk := blk, srcinst := inst', payload := payload }
    { h with rseq := h.rseq + 1, staging := h.staging ++ [r], fresh := h.fresh ++ [r] }
  else if high then { h with dropHigh := satAdd 255 h.dropHigh 1 }
  else { h with dropLow := satAdd 4095 h.dropLow 1 }

/-- Severity of an event code (R17). -/
def evSev (code : Word) : Nat := code.toNat / 2 ^ 20 % 16
/-- Block of an event code (R17). -/
def evBlock (code : Word) : Nat := code.toNat / 2 ^ 24

/-- The record of an event: code, detail length, detail (R647). -/
def EventRec.payload (e : EventRec) : List Byte := be32 e.code.toNat ++ byteOf e.detail.length :: e.detail

/-- A line of the monitor's log for an event (R662, R13). -/
def hexDigit (n : Nat) : Byte := byteOf (if n % 16 < 10 then 48 + n % 16 else 55 + n % 16)
def hexOf : Nat → Nat → List Byte
  | 0, _ => []
  | k + 1, n => hexOf k (n / 16) ++ [hexDigit n]
/-- 0xHHHH_HHHH (R13). -/
def hexWord (w : Word) : List Byte := ascii "0x" ++ hexOf 4 (w.toNat / 65536) ++ ascii "_" ++ hexOf 4 w.toNat
/-- End of a monitor line. -/
def crlf : List Byte := [13#8, 10#8]

/-- An event with given times: staged as a HIGH record, kept, and printed while LOG is on (R17, R645 to R647, R662). -/
def State.raiseRec (s : State) (e : EventRec) : State :=
  let s1 : State := { s with
    events := s.events ++ [e]
    sherd := s.sherd.put s.sys.pcc 1 true e.kiln s.otime e.otimeUs e.dtime (evBlock e.code) 0 e.payload }
  if s.mon.log then s1.emit (.monitor (hexWord e.code ++ crlf)) else s1

/-- An event raised now, without the freeze that severity 5 sets. -/
def State.raisePlain (s : State) (code : Word) (detail : List Byte := []) : State :=
  s.raiseRec { code := code, detail := detail, otimeUs := s.otime, dtime := s.stamp }

/-- The Draft's incident span in microseconds (R656, R665). -/
def State.incidentUs (s : State) : Nat := (match s.draft with | some d => d.base.incidentMin | none => 10) * 60000000

/-- A block of the ring or the archive holds a record inside a freeze (R656). -/
def Block.inside (b : Block) (lo hi : Nat) : Bool := b.recs.any (fun r => decide (lo ≤ r.otimeUs ∧ r.otimeUs ≤ hi))
/-- The ring's blocks that the freezes protect. -/
def Sherd.frozenBlocks (h : Sherd) (fz : List (Nat × Freeze)) : Nat :=
  countP (fun b => fz.any (fun f => b.inside f.2.lo f.2.hi)) h.ring
/-- At most half of the ring may be frozen (R656). -/
def Sherd.freezeFits (h : Sherd) (fz : List (Nat × Freeze)) : Bool := decide (2 * h.frozenBlocks fz ≤ h.ringSize)

/-- The incident freezes, oldest first. -/
def incidents (fz : List (Nat × Freeze)) : List (Nat × Freeze) :=
  sortBy (fun a b => decide (a.2.born ≤ b.2.born)) (fz.filter (fun f => decide (4 ≤ f.1)))

/-- Older incident freezes are released, oldest first, while the limit would be passed; the released ids are listed. -/
def releaseOlder (h : Sherd) (new : Nat × Freeze) : List (Nat × Freeze) → List (Nat × Freeze) → List Nat
    → List (Nat × Freeze) × List Nat
  | [], fz, rel => (fz, rel)
  | f :: older, fz, rel =>
    if h.freezeFits (new :: fz) then (fz, rel) else releaseOlder h new older (adel f.1 fz) (rel ++ [f.1])

/-- The start of a span moved later, ring block by ring block, until the limit holds (R656). -/
def shortenFrom (h : Sherd) (fz : List (Nat × Freeze)) (id : Nat) (f : Freeze) : List Block → Freeze
  | [] => f
  | b :: bs =>
    if h.freezeFits ((id, f) :: fz) then f
    else
      let last := b.recs.foldl (fun m r => max m r.otimeUs) 0
      shortenFrom h fz id (if last < f.lo then f else { f with lo := min f.hi (last + 1) }) bs

/-- The lowest id of lo … hi−1 that holds no freeze. -/
def freeId (fz : List (Nat × Freeze)) : List Nat → Option Nat
  | [] => none
  | i :: l => if (aget i fz).isNone then some i else freeId fz l

/-- An incident freeze begins: from the incident span before now to 60 s after now. A fifth replaces the oldest; one
that would pass the 50 % limit first releases older ones and is then shortened from its start (R656). -/
def State.incidentFreeze (s : State) : State :=
  let h := s.sherd
  let f : Freeze := { lo := s.otime - s.incidentUs, hi := s.otime + 60000000, born := h.born }
  let (fz0, rel0) :=
    match freeId h.freezes [4, 5, 6, 7], incidents h.freezes with
    | some _, _ => (h.freezes, [])
    | none, [] => (h.freezes, [])
    | none, o :: _ => (adel o.1 h.freezes, [o.1])
  let id := (freeId fz0 [4, 5, 6, 7]).getD 4
  let (fz1, rel) := releaseOlder h (id, f) (incidents fz0) fz0 rel0
  let f1 := shortenFrom h fz1 id f h.ring
  let s1 : State := { s with sherd := { h with freezes := aset id f1 fz1, born := h.born + 1 } }
  let s2 := rel.foldl (fun t r => t.raisePlain 0x0F000007#32 [byteOf r]) s1
  s2.raisePlain 0x0F000006#32 [byteOf id]

/-- An event is raised; one of severity 5 sets an incident freeze (R656). -/
def State.raise (s : State) (code : Word) (detail : List Byte := []) : State :=
  let s1 := s.raisePlain code detail
  if evSev code = 5 then s1.incidentFreeze else s1

/-- An event raised at most once per `period` microseconds for its key. -/
def State.raiseLimited (s : State) (key period : Nat) (code : Word) (detail : List Byte := []) : State :=
  match aget key s.limits with
  | some t => if s.otime < t + period then s
              else State.raise { s with limits := aset key s.otime s.limits } code detail
  | none => State.raise { s with limits := aset key s.otime s.limits } code detail

/-- A record other than an event is staged; a dropped one raises its event (R649). -/
def State.stage (s : State) (rtype : Nat) (high : Bool) (blk inst' : Nat) (payload : List Byte)
    (times : Option (Nat × Nat) := none) : State :=
  let ot := (times.map Prod.fst).getD s.otime
  let dt := (times.map Prod.snd).getD s.stamp
  let fits := s.sherd.room high (36 + payload.length)
  let s1 : State := { s with sherd := s.sherd.put s.sys.pcc rtype high false s.otime ot dt blk inst' payload }
  if fits then s1
  else if high then s1.raise 0x0F410002#32
  else s1.raiseLimited 0x0F110001 1000000 0x0F110001#32

/-! ### holders of a beat (R59) -/

/-- A holder releases the beat's bank. -/
def Beat.release (b : Beat) (h : Holder) : Beat := { b with holders := b.holders.filter (fun x => x != h) }
/-- GUIDE or the beat task still runs: the stage "GUIDE and beat task" is not complete (R54, R56). -/
def Beat.guiding (b : Beat) : Bool := b.holders.contains .guide || b.holders.contains .beatTask

/-- Microseconds from a beat's edge to now, as WARP_LATE shows them. DESIGN CHOICE (log entry 127): modulo 65,536. -/
def State.endUs (s : State) (b : Beat) : Nat := ((s.now - b.edge) / 1000) % 65536

/-- GUIDE or the beat task of the last beat ends; GUIDE_END is the end of both (R54, R80). -/
def State.releaseGuide (s : State) (h : Holder) : State :=
  match s.warp.last with
  | none => s
  | some b =>
    let b1 := b.release h
    { s with warp := { s.warp with
        last := some b1, guideEnd := if b.guiding && !b1.guiding then s.endUs b else s.warp.guideEnd } }

/-! ### memory -/

/-- The cells lie in rising order of address and none holds the byte that an unlisted cell reads as. -/
def memWf : List Host.Cell → Bool
  | [] => true
  | [c] => c.2 != 0
  | c :: d :: l => c.2 != 0 && decide (c.1 < d.1) && memWf (d :: l)

/-- The byte at an address of the General partition; an unlisted one reads 0 (log entry 5). -/
def memRead (m : List Host.Cell) (a : Nat) : Byte :=
  match m with
  | [] => 0
  | c :: l => if c.1 = a then c.2 else memRead l a

/-- A byte is written; the canonical form is kept. -/
def memWrite (m : List Host.Cell) (a : Nat) (b : Byte) : List Host.Cell :=
  match m with
  | [] => if b = 0 then [] else [(a, b)]
  | c :: l =>
    if a < c.1 then (if b = 0 then c :: l else (a, b) :: c :: l)
    else if a = c.1 then (if b = 0 then l else (a, b) :: l)
    else c :: memWrite l a b

/-- Bytes at rising addresses. -/
def memWriteBytes (m : List Host.Cell) (a : Nat) : List Byte → List Host.Cell
  | [] => m
  | b :: l => memWriteBytes (memWrite m a b) (a + 1) l

/-- The next free value's number: the counter is read and advanced (log entry 4). -/
def State.draw (s : State) : Nat × State := (s.free, { s with free := s.free + 1 })

end Sys2Proof.Machine
end

