-- ==== Sys2Proof/Machine/Float.lean ====
section
/-! DEFINITION. IEEE 754 binary64 and binary32 arithmetic on bit patterns, round to nearest even, written with
Nat and Int so that the kernel can evaluate it (R10, R11). A finite value is held as sign, magnitude and a power of two
and computed exactly before one rounding. -/

namespace Sys2Proof.Machine

/-- What a floating-point word stands for: `fin neg m e` is m·2^e with m above 0. -/
inductive Fp where
  | nan
  | inf (neg : Bool)
  | zero (neg : Bool)
  | fin (neg : Bool) (m : Nat) (e : Int)
  deriving DecidableEq, Repr

/-- The exponent of the last place of a subnormal, for precision p and exponent width ew. -/
def fpLsbMin (p ew : Nat) : Int := 2 - ((2 ^ (ew - 1) : Nat) : Int) - ((p - 1 : Nat) : Int)

/-- The value that a bit pattern of precision p and exponent width ew stands for. -/
def fpDecode (p ew bits : Nat) : Fp :=
  let frac := bits % 2 ^ (p - 1)
  let ex := bits / 2 ^ (p - 1) % 2 ^ ew
  let neg := decide (bits / 2 ^ (p - 1 + ew) % 2 = 1)
  if ex = 2 ^ ew - 1 then (if frac = 0 then .inf neg else .nan)
  else if ex = 0 then (if frac = 0 then .zero neg else .fin neg frac (fpLsbMin p ew))
  else .fin neg (frac + 2 ^ (p - 1)) (fpLsbMin p ew + ((ex - 1 : Nat) : Int))

/-- The sign bit's weight. -/
def fpSign (p ew : Nat) (neg : Bool) : Nat := if neg then 2 ^ (p - 1 + ew) else 0

/-- The bit pattern nearest to (m + a positive part below 1 when `sticky`)·2^e, ties to even. -/
def fpRound (p ew : Nat) (neg : Bool) (m : Nat) (e : Int) (sticky : Bool) : Nat :=
  if m = 0 then fpSign p ew neg else
  let q0 := e + ((Nat.log2 m + 1 : Nat) : Int) - (p : Int)
  let q := if q0 < fpLsbMin p ew then fpLsbMin p ew else q0
  let up : Nat :=
    if q ≤ e then m <<< (e - q).toNat
    else
      let k := (q - e).toNat
      let hi := m >>> k
      let rem := m % 2 ^ k
      let half := 2 ^ (k - 1)
      if rem > half ∨ (rem = half ∧ (sticky ∨ hi % 2 = 1)) then hi + 1 else hi
  let carry := decide (up = 2 ^ p)
  let mant := if carry then 2 ^ (p - 1) else up
  let q' := if carry then q + 1 else q
  if mant < 2 ^ (p - 1) then fpSign p ew neg + mant
  else
    let ex := (q' - fpLsbMin p ew).toNat + 1
    if ex ≥ 2 ^ ew - 1 then fpSign p ew neg + (2 ^ ew - 1) * 2 ^ (p - 1)
    else fpSign p ew neg + ex * 2 ^ (p - 1) + (mant - 2 ^ (p - 1))

/-- A signed exact value n·2^e, rounded; a zero is positive. -/
def fpOfInt (p ew : Nat) (n : Int) (e : Int) : Nat := fpRound p ew (decide (n < 0)) n.natAbs e false

/-- The signed magnitude of a finite value aligned to the exponent e. -/
def fpAlign (neg : Bool) (m : Nat) (e0 e : Int) : Int :=
  let v : Int := ((m <<< (e0 - e).toNat : Nat) : Int)
  if neg then -v else v

/-- Exact sum, one rounding; none for the invalid operation. -/
def fpAdd (p ew : Nat) (a b : Fp) : Option Nat :=
  match a, b with
  | .nan, _ => none
  | _, .nan => none
  | .inf x, .inf y => if x = y then some (fpSign p ew x + (2 ^ ew - 1) * 2 ^ (p - 1)) else none
  | .inf x, _ => some (fpSign p ew x + (2 ^ ew - 1) * 2 ^ (p - 1))
  | _, .inf y => some (fpSign p ew y + (2 ^ ew - 1) * 2 ^ (p - 1))
  | .zero x, .zero y => some (fpSign p ew (x && y))
  | .zero _, .fin n m e => some (fpRound p ew n m e false)
  | .fin n m e, .zero _ => some (fpRound p ew n m e false)
  | .fin n1 m1 e1, .fin n2 m2 e2 =>
    let e := if e1 ≤ e2 then e1 else e2
    some (fpOfInt p ew (fpAlign n1 m1 e1 e + fpAlign n2 m2 e2 e) e)

/-- Exact product, one rounding; none for the invalid operation. -/
def fpMul (p ew : Nat) (a b : Fp) : Option Nat :=
  let infBits := (2 ^ ew - 1) * 2 ^ (p - 1)
  match a, b with
  | .nan, _ => none
  | _, .nan => none
  | .inf _, .zero _ => none
  | .zero _, .inf _ => none
  | .inf x, .inf y => some (fpSign p ew (x != y) + infBits)
  | .inf x, .fin y _ _ => some (fpSign p ew (x != y) + infBits)
  | .fin x _ _, .inf y => some (fpSign p ew (x != y) + infBits)
  | .zero x, .zero y => some (fpSign p ew (x != y))
  | .zero x, .fin y _ _ => some (fpSign p ew (x != y))
  | .fin x _ _, .zero y => some (fpSign p ew (x != y))
  | .fin x m1 e1, .fin y m2 e2 => some (fpRound p ew (x != y) (m1 * m2) (e1 + e2) false)

/-- Quotient with one rounding; none for the invalid operations. -/
def fpDiv (p ew : Nat) (a b : Fp) : Option Nat :=
  let infBits := (2 ^ ew - 1) * 2 ^ (p - 1)
  match a, b with
  | .nan, _ => none
  | _, .nan => none
  | .inf _, .inf _ => none
  | .zero _, .zero _ => none
  | .inf x, .zero y => some (fpSign p ew (x != y) + infBits)
  | .inf x, .fin y _ _ => some (fpSign p ew (x != y) + infBits)
  | .zero x, .inf y => some (fpSign p ew (x != y))
  | .fin x _ _, .inf y => some (fpSign p ew (x != y))
  | .zero x, .fin y _ _ => some (fpSign p ew (x != y))
  | .fin x _ _, .zero y => some (fpSign p ew (x != y) + infBits)
  | .fin x m1 e1, .fin y m2 e2 =>
    let k := p + 3 + Nat.log2 m2
    let n := m1 <<< k
    some (fpRound p ew (x != y) (n / m2) (e1 - (k : Int) - e2) (decide (n % m2 ≠ 0)))

/-- Integer square root, bit by bit. -/
def isqrtAux (n : Nat) : Nat → Nat → Nat
  | 0, r => r
  | k + 1, r => let t := r + 2 ^ k; if t * t ≤ n then isqrtAux n k t else isqrtAux n k r

/-- The largest r with r·r ≤ n. -/
def isqrt (n : Nat) : Nat := isqrtAux n (Nat.log2 n / 2 + 1) 0

/-- Square root with one rounding; none for a negative operand. -/
def fpSqrt (p ew : Nat) (a : Fp) : Option Nat :=
  match a with
  | .nan => none
  | .inf false => some ((2 ^ ew - 1) * 2 ^ (p - 1))
  | .inf true => none
  | .zero x => some (fpSign p ew x)
  | .fin true _ _ => none
  | .fin false m e =>
    let odd := decide (e % 2 ≠ 0)
    let m1 := if odd then m * 2 else m
    let e1 := if odd then e - 1 else e
    let n := m1 <<< (2 * (p + 2))
    let r := isqrt n
    some (fpRound p ew false r (e1 / 2 - ((p + 2 : Nat) : Int)) (decide (r * r ≠ n)))

/-- Order of two values: none when either is a NaN. -/
def fpCmp (a b : Fp) : Option Ordering :=
  match a, b with
  | .nan, _ => none
  | _, .nan => none
  | .inf x, .inf y => some (if x = y then .eq else if x then .lt else .gt)
  | .inf x, _ => some (if x then .lt else .gt)
  | _, .inf y => some (if y then .gt else .lt)
  | .zero _, .zero _ => some .eq
  | .zero _, .fin y _ _ => some (if y then .gt else .lt)
  | .fin x _ _, .zero _ => some (if x then .lt else .gt)
  | .fin x m1 e1, .fin y m2 e2 =>
    let e := if e1 ≤ e2 then e1 else e2
    some (compare (fpAlign x m1 e1 e) (fpAlign y m2 e2 e))

/-! ### binary64 -/

def f64Decode (a : F64) : Fp := fpDecode 53 11 a.toNat

/-- A NaN whose payload and sign the spec leaves open (log entry 2). -/
def f64Nan (op : Nat) (a b : F64) : F64 :=
  0x7FF8000000000000#64 ||| (Config.nanPayload64 op a b &&& 0x8007FFFFFFFFFFFF#64)

def f64Of (op : Nat) (a b : F64) : Option Nat → F64
  | none => f64Nan op a b
  | some n => BitVec.ofNat 64 n

def fadd (a b : F64) : F64 := f64Of 0 a b (fpAdd 53 11 (f64Decode a) (f64Decode b))
/-- The value with its sign bit inverted. -/
def fneg (a : F64) : F64 := a ^^^ 0x8000000000000000#64
/-- The value with its sign bit cleared. -/
def fabs (a : F64) : F64 := a &&& 0x7FFFFFFFFFFFFFFF#64
def fsub (a b : F64) : F64 := f64Of 1 a b (fpAdd 53 11 (f64Decode a) (f64Decode (fneg b)))
def fmul (a b : F64) : F64 := f64Of 2 a b (fpMul 53 11 (f64Decode a) (f64Decode b))
def fdiv (a b : F64) : F64 := f64Of 3 a b (fpDiv 53 11 (f64Decode a) (f64Decode b))
def fsqrt (a : F64) : F64 := f64Of 4 a a (fpSqrt 53 11 (f64Decode a))
def fcmp (a b : F64) : Option Ordering := fpCmp (f64Decode a) (f64Decode b)
def flt (a b : F64) : Bool := fcmp a b == some .lt
def fle (a b : F64) : Bool := fcmp a b == some .lt || fcmp a b == some .eq
def feq (a b : F64) : Bool := fcmp a b == some .eq
/-- Neither NaN nor infinite. -/
def ffinite (a : F64) : Bool := a.toNat / 2 ^ 52 % 2 ^ 11 != 2047
def fisNan (a : F64) : Bool := f64Decode a == .nan
/-- The smaller of two values; the first when they compare equal or unordered. -/
def fmin (a b : F64) : F64 := if flt b a then b else a
/-- The larger of two values; the first when they compare equal or unordered. -/
def fmax (a b : F64) : F64 := if flt a b then b else a
/-- a limited to lo … hi. -/
def fclamp (a lo hi : F64) : F64 := fmin (fmax a lo) hi
/-- An integer in binary64. -/
def fofInt (n : Int) : F64 := BitVec.ofNat 64 (fpOfInt 53 11 n 0)
def fofNat (n : Nat) : F64 := fofInt (n : Int)
/-- n / d in binary64, one rounding. -/
def fofRat (n : Int) (d : Nat) : F64 :=
  let k := 56 + Nat.log2 d
  let m := n.natAbs <<< k
  if n = 0 then 0#64
  else BitVec.ofNat 64 (fpRound 53 11 (decide (n < 0)) (m / d) (-(k : Int)) (decide (m % d ≠ 0)))
/-- Exact scaling by 2^k with one rounding. -/
def fscale (a : F64) (k : Int) : F64 :=
  match f64Decode a with
  | .fin n m e => BitVec.ofNat 64 (fpRound 53 11 n m (e + k) false)
  | _ => a

/-- The largest integer not above a finite value; none for a NaN or an infinity. -/
def fpFloor : Fp → Option Int
  | .nan => none
  | .inf _ => none
  | .zero _ => some 0
  | .fin n m e =>
    let s : Int := if n then -(m : Int) else (m : Int)
    if 0 ≤ e then some (s * ((2 ^ e.toNat : Nat) : Int))
    else some (s / ((2 ^ (-e).toNat : Nat) : Int))

/-- The nearest integer, ties to even; none for a NaN or an infinity. -/
def fpRint : Fp → Option Int
  | .nan => none
  | .inf _ => none
  | .zero _ => some 0
  | .fin n m e =>
    if 0 ≤ e then
      let v : Int := ((m * 2 ^ e.toNat : Nat) : Int)
      some (if n then -v else v)
    else
      let k := (-e).toNat
      let hi := m / 2 ^ k
      let rem := m % 2 ^ k
      let half := 2 ^ (k - 1)
      let r : Int := ((if rem > half ∨ (rem = half ∧ hi % 2 = 1) then hi + 1 else hi : Nat) : Int)
      some (if n then -r else r)

/-- Toward zero; none for a NaN or an infinity. -/
def fpTrunc : Fp → Option Int
  | .nan => none
  | .inf _ => none
  | .zero _ => some 0
  | .fin n m e =>
    let v : Int := if 0 ≤ e then ((m * 2 ^ e.toNat : Nat) : Int) else ((m / 2 ^ (-e).toNat : Nat) : Int)
    some (if n then -v else v)

/-- Floor of a binary64, 0 where there is no integer. -/
def ffloor (a : F64) : Int := (fpFloor (f64Decode a)).getD 0
/-- Nearest integer of a binary64, 0 where there is none. -/
def frint (a : F64) : Int := (fpRint (f64Decode a)).getD 0
/-- a limited to the integers lo … hi after rounding to nearest. -/
def frintClamp (a : F64) (lo hi : Int) : Int :=
  let r := frint a
  if flt a (fofInt lo) then lo else if flt (fofInt hi) a then hi else r

/-! ### binary32 -/

def f32Decode (a : F32) : Fp := fpDecode 24 8 a.toNat
def f32Nan (op : Nat) (a b : F32) : F32 :=
  0x7FC00000#32 ||| (Config.nanPayload32 op a b &&& 0x803FFFFF#32)
def f32Of (op : Nat) (a b : F32) : Option Nat → F32
  | none => f32Nan op a b
  | some n => BitVec.ofNat 32 n
def f32Finite (a : F32) : Bool := a.toNat / 2 ^ 23 % 2 ^ 8 != 255
def f32Add (a b : F32) : F32 := f32Of 0 a b (fpAdd 24 8 (f32Decode a) (f32Decode b))
def f32Neg (a : F32) : F32 := a ^^^ 0x80000000#32
def f32Abs (a : F32) : F32 := a &&& 0x7FFFFFFF#32
def f32Sub (a b : F32) : F32 := f32Of 1 a b (fpAdd 24 8 (f32Decode a) (f32Decode (f32Neg b)))
def f32Mul (a b : F32) : F32 := f32Of 2 a b (fpMul 24 8 (f32Decode a) (f32Decode b))
def f32Div (a b : F32) : F32 := f32Of 3 a b (fpDiv 24 8 (f32Decode a) (f32Decode b))
def f32Sqrt (a : F32) : F32 := f32Of 4 a a (fpSqrt 24 8 (f32Decode a))
def f32Cmp (a b : F32) : Option Ordering := fpCmp (f32Decode a) (f32Decode b)
def f32Lt (a b : F32) : Bool := f32Cmp a b == some .lt
def f32Le (a b : F32) : Bool := f32Cmp a b == some .lt || f32Cmp a b == some .eq

/-- The binary32 nearest to a binary64. -/
def f64to32 (a : F64) : F32 :=
  match f64Decode a with
  | .nan => f32Nan 8 (BitVec.ofNat 32 (a.toNat / 2 ^ 32)) (BitVec.ofNat 32 a.toNat)
  | .inf n => BitVec.ofNat 32 (fpSign 24 8 n + 0x7F800000)
  | .zero n => BitVec.ofNat 32 (fpSign 24 8 n)
  | .fin n m e => BitVec.ofNat 32 (fpRound 24 8 n m e false)

/-- A binary32 as a binary64, exact. -/
def f32to64 (a : F32) : F64 :=
  match f32Decode a with
  | .nan => f64Nan 9 (BitVec.ofNat 64 a.toNat) 0#64
  | .inf n => BitVec.ofNat 64 (fpSign 53 11 n + 0x7FF0000000000000)
  | .zero n => BitVec.ofNat 64 (fpSign 53 11 n)
  | .fin n m e => BitVec.ofNat 64 (fpRound 53 11 n m e false)

/-- An integer in binary32. -/
def f32OfInt (n : Int) : F32 := BitVec.ofNat 32 (fpOfInt 24 8 n 0)

/-! ### constants and angles -/

/-- π in binary64. -/
def fpi : F64 := 0x400921FB54442D18#64
/-- 2π in binary64. -/
def f2pi : F64 := 0x401921FB54442D18#64
/-- Degrees to radians: a·(π/180). -/
def fdeg2rad (a : F64) : F64 := fmul a (fdiv fpi (fofInt 180))
/-- Radians to degrees. -/
def frad2deg (a : F64) : F64 := fmul a (fdiv (fofInt 180) fpi)
/-- BAM32, unsigned reading, to radians in 0 … 2π. -/
def bamToRad (b : Bam) : F64 := fmul (fscale (fofNat b.toNat) (-32)) f2pi
/-- BAM32, two's complement reading, to radians in −π … π. -/
def bamToRadS (b : Bam) : F64 := fmul (fscale (fofInt b.toInt) (-32)) f2pi
/-- Radians to BAM32, rounded to the nearest step and wrapped. -/
def radToBam (a : F64) : Bam := BitVec.ofInt 32 (frint (fscale (fdiv a f2pi) 32))
/-- An angle wrapped to −π ≤ a < π. -/
def fwrap (a : F64) : F64 :=
  fsub a (fmul f2pi (fofInt (ffloor (fdiv (fadd a fpi) f2pi))))

end Sys2Proof.Machine
end

