-- ==== Sys2Proof/Machine/Vec.lean ====
section
/-! DEFINITION. Vectors, rotations and small matrices in binary64, each sum taken from left to right (R9, R11, R97, R99;
log entry 6). -/

namespace Sys2Proof.Machine

abbrev V3 := F64 × F64 × F64

def v3add (a b : V3) : V3 := (fadd a.1 b.1, fadd a.2.1 b.2.1, fadd a.2.2 b.2.2)
def v3sub (a b : V3) : V3 := (fsub a.1 b.1, fsub a.2.1 b.2.1, fsub a.2.2 b.2.2)
def v3neg (a : V3) : V3 := (fneg a.1, fneg a.2.1, fneg a.2.2)
def v3scale (k : F64) (a : V3) : V3 := (fmul k a.1, fmul k a.2.1, fmul k a.2.2)
def v3dot (a b : V3) : F64 := fadd (fadd (fmul a.1 b.1) (fmul a.2.1 b.2.1)) (fmul a.2.2 b.2.2)
def v3norm (a : V3) : F64 := fsqrt (v3dot a a)

/-- A 3 × 3 matrix by rows. -/
abbrev M3 := V3 × V3 × V3

def m3apply (m : M3) (v : V3) : V3 := (v3dot m.1 v, v3dot m.2.1 v, v3dot m.2.2 v)
def m3t (m : M3) : M3 :=
  ((m.1.1, m.2.1.1, m.2.2.1), (m.1.2.1, m.2.1.2.1, m.2.2.2.1), (m.1.2.2, m.2.1.2.2, m.2.2.2.2))
def m3mul (a b : M3) : M3 :=
  let t := m3t b
  ((v3dot a.1 t.1, v3dot a.1 t.2.1, v3dot a.1 t.2.2), (v3dot a.2.1 t.1, v3dot a.2.1 t.2.1, v3dot a.2.1 t.2.2),
   (v3dot a.2.2 t.1, v3dot a.2.2 t.2.1, v3dot a.2.2 t.2.2))

/-- Rz(ψ)·Ry(θ)·Rx(φ): body components to the local tangent plane (R99). -/
def rotZYX (psi theta phi : F64) : M3 :=
  let cp := Config.fcos psi; let sp := Config.fsin psi
  let ct := Config.fcos theta; let st := Config.fsin theta
  let cf := Config.fcos phi; let sf := Config.fsin phi
  ((fmul cp ct, fsub (fmul (fmul cp st) sf) (fmul sp cf), fadd (fmul (fmul cp st) cf) (fmul sp sf)),
   (fmul sp ct, fadd (fmul (fmul sp st) sf) (fmul cp cf), fsub (fmul (fmul sp st) cf) (fmul cp sf)),
   (fneg st, fmul ct sf, fmul ct cf))

/-- Heading, pitch and roll of a body-to-plane matrix. -/
def eulerOf (m : M3) : V3 :=
  (Config.fatan2 m.2.1.1 m.1.1,
   Config.fatan2 (fneg m.2.2.1) (fsqrt (fadd (fmul m.2.2.2.1 m.2.2.2.1) (fmul m.2.2.2.2 m.2.2.2.2))),
   Config.fatan2 m.2.2.2.1 m.2.2.2.2)

/-- The distance of two angles, 0 … π. -/
def angDist (a b : F64) : F64 := fabs (fwrap (fsub a b))

/-- Sum of a list from left to right. -/
def fsum (l : List F64) : F64 := l.foldl fadd 0
/-- Scalar product of two lists. -/
def fdotl (a b : List F64) : F64 := fsum (List.zipWith fmul a b)

/-! ### matrices as lists of rows -/

abbrev Mat := List (List F64)

def matZero (n : Nat) : Mat := List.replicate n (List.replicate n 0)
def matGet (m : Mat) (i j : Nat) : F64 := (m.getD i []).getD j 0
def matOf (n : Nat) (f : Nat → Nat → F64) : Mat := (List.range n).map (fun i => (List.range n).map (fun j => f i j))
def matId (n : Nat) : Mat := matOf n (fun i j => if i = j then fofNat 1 else 0)
def matT (n : Nat) (m : Mat) : Mat := matOf n (fun i j => matGet m j i)
def matAdd (a b : Mat) : Mat := List.zipWith (List.zipWith fadd) a b
def matSub (a b : Mat) : Mat := List.zipWith (List.zipWith fsub) a b
def matScale (k : F64) (a : Mat) : Mat := a.map (fun r => r.map (fmul k))
def matVec (a : Mat) (v : List F64) : List F64 := a.map (fun r => fdotl r v)
def matMul (n : Nat) (a b : Mat) : Mat :=
  let t := matT n b
  a.map (fun r => t.map (fun c => fdotl r c))
def vecAdd (a b : List F64) : List F64 := List.zipWith fadd a b
def vecScale (k : F64) (a : List F64) : List F64 := a.map (fmul k)

/-- Solution of a 3 × 3 linear system by Cramer's rule. -/
def det3 (m : M3) : F64 :=
  fadd (fsub (fmul m.1.1 (fsub (fmul m.2.1.2.1 m.2.2.2.2) (fmul m.2.1.2.2 m.2.2.2.1)))
             (fmul m.1.2.1 (fsub (fmul m.2.1.1 m.2.2.2.2) (fmul m.2.1.2.2 m.2.2.1))))
       (fmul m.1.2.2 (fsub (fmul m.2.1.1 m.2.2.2.1) (fmul m.2.1.2.1 m.2.2.1)))

def m3solve (m : M3) (b : V3) : V3 :=
  let d := det3 m
  let t := m3t m
  (fdiv (det3 (m3t (b, t.2.1, t.2.2))) d, fdiv (det3 (m3t (t.1, b, t.2.2))) d, fdiv (det3 (m3t (t.1, t.2.1, b))) d)

/-- The larger eigenvalue of the symmetric matrix (a b; b c). -/
def eigMax (a b c : F64) : F64 :=
  let h := fmul (fofRat 1 2) (fadd a c)
  let d := fmul (fofRat 1 2) (fsub a c)
  fadd h (fsqrt (fadd (fmul d d) (fmul b b)))

end Sys2Proof.Machine
end

