-- ==== Sys2Proof/Machine/GnssCore.lean ====
section
/-! DEFINITION. The GNSS baseband: its streams, channels and the search queue, when it runs, and what a stop discards (R297,
R302 to R315, R332, R358). -/

namespace Sys2Proof.Machine

def State.gnssRec (s : State) : DraftGnss :=
  match s.draft with
  | some d => d.gnss
  | none => {}

def State.streamRec (s : State) (k : Nat) : Option StreamRec := (s.gnssRec.streams[k]?).bind (fun x => x)
def State.strm (s : State) (k : Nat) : Stream12 := s.gnss.streams.getD k {}
def State.setStrm (s : State) (k : Nat) (x : Stream12) : State := { s with gnss := { s.gnss with streams := s.gnss.streams.set k x } }
def State.chan (s : State) (c : Nat) : Chan := s.gnss.chans.getD c {}
def State.setChan (s : State) (c : Nat) (x : Chan) : State := { s with gnss := { s.gnss with chans := s.gnss.chans.set c x } }

/-- The streams of a group that the Draft enables. -/
def State.groupStreams (s : State) (a : Nat) : List Nat := [4 * a, 4 * a + 1, 4 * a + 2, 4 * a + 3].filter (fun k => (s.streamRec k).isSome)

/-- The groups with an enabled stream, ascending. -/
def State.gnssGroups (s : State) : List Nat := [0, 1, 2].filter (fun a => !(s.groupStreams a).isEmpty)

/-- What a stop leaves: the counters that only a reset and Draft activation clear (R332, R358). -/
def Gnss.stopped (g : Gnss) : Gnss :=
  { streams := g.streams.map (fun (x : Stream12) => { flagged := x.flagged, downs := x.downs, rms := x.rms, clip := x.clip, taps := x.taps })
    trainings := g.trainings, refused := g.refused, searches := g.searches, detects := g.detects, late := g.late
    strmSel := g.strmSel, strmWin := g.strmWin, chSel := g.chSel, chWin := g.chWin, mLate := g.mLate, rtcmOk := g.rtcmOk
    rtcmIgn := g.rtcmIgn, rtcmTold := g.rtcmTold, sigSel := g.sigSel, sigWin := g.sigWin, load := g.load, msmAt := g.msmAt
    refPos := g.refPos }

/-- The baseband starts with an empty channel table; every group is trained, in ascending order (R297, R302). -/
def State.gnssStart (s : State) : State :=
  { s with gnss := { s.gnss.stopped with run := true, queue := s.gnssGroups } }

/-- The baseband follows the module state (R297). -/
def State.gnssFollow (s : State) : State :=
  let on := s.draft.isSome && match s.sys.st with
    | .ready => true
    | .active => true
    | .degraded => true
    | .safe => true
    | .service => s.gnss.run
    | _ => false
  if on && !s.gnss.run then s.gnssStart
  else if !on && s.gnss.run then
    { s with gnss := s.gnss.stopped, shown := s.shown.filter (fun e => !(decide (0x40070090 ≤ e.1 ∧ e.1 < 0x40070200))) }
  else s

/-- Draft activation clears the counters; the lane delays stand until the next training (R332, R358). -/
def Gnss.activated (g : Gnss) : Gnss :=
  { streams := g.streams.map (fun (x : Stream12) => { taps := x.taps })
    strmSel := g.strmSel, strmWin := g.strmWin, chSel := g.chSel, chWin := g.chWin, sigSel := g.sigSel, sigWin := g.sigWin }

/-! ### signals (R308) -/

/-- Carrier frequency in Hz of a signal, with the GLONASS frequency number. -/
def sigFreq (sig : Nat) (k : Int) : Int :=
  if sig = 1 ∨ sig = 2 ∨ sig = 5 ∨ sig = 6 ∨ sig = 9 ∨ sig = 0x10 ∨ sig = 0x13 then 1575420000
  else if sig = 3 ∨ sig = 7 then 1227600000
  else if sig = 4 ∨ sig = 8 ∨ sig = 0x0A ∨ sig = 0x11 then 1176450000
  else if sig = 0x0B then 1207140000
  else if sig = 0x0C then 1278750000
  else if sig = 0x0D then 1602000000 + 562500 * k
  else if sig = 0x0E then 1246000000 + 437500 * k
  else if sig = 0x0F then 1561098000
  else 1268520000

/-- Chip rate in chips per second. -/
def sigChips (sig : Nat) : Nat :=
  if sig = 4 ∨ sig = 8 ∨ sig = 0x0A ∨ sig = 0x0B ∨ sig = 0x11 ∨ sig = 0x12 then 10230000
  else if sig = 0x0C then 5115000
  else if sig = 0x0D ∨ sig = 0x0E then 511000
  else if sig = 0x0F then 2046000
  else 1023000

/-- Primary code period in ms; for L2C that of CM. -/
def sigMs (sig : Nat) : Nat :=
  if sig = 2 ∨ sig = 6 ∨ sig = 0x10 then 10 else if sig = 3 ∨ sig = 7 then 20 else if sig = 9 then 4 else 1

def sigL2c (sig : Nat) : Bool := sig == 3 || sig == 7

/-- Chips of the code that the code NCO counts through: the primary code, for L2C the 1.5 s of CL at the multiplexed rate. -/
def sigSpan (sig : Nat) : Nat := if sigL2c sig then 1534500 else sigChips sig / 1000 * sigMs sig

/-- The tracked component carries navigation data; the others are pilots. -/
def sigData (sig : Nat) : Bool :=
  sig == 1 || sig == 5 || sig == 0x0D || sig == 0x0E || sig == 0x0F || sig == 0x12 || sig == 0x13

/-- Band code (R306). -/
def sigBand (sig : Nat) : Nat :=
  if sig = 3 ∨ sig = 7 ∨ sig = 0x0E then 1
  else if sig = 0x0C ∨ sig = 0x12 then 2
  else if sig = 4 ∨ sig = 8 ∨ sig = 0x0A ∨ sig = 0x0B ∨ sig = 0x11 then 3
  else 0

/-- Constellation of a signal: 0 GPS, 1 Galileo, 2 GLONASS, 3 BeiDou, 4 QZSS, 5 SBAS. -/
def sigCon (sig : Nat) : Nat :=
  if sig ≤ 4 then 0 else if sig ≤ 8 then 4 else if sig ≤ 0x0C then 1 else if sig ≤ 0x0E then 2 else if sig ≤ 0x12 then 3 else 5

/-- Binary-offset-carrier signals (R322). -/
def sigBoc (sig : Nat) : Bool := sig == 2 || sig == 6 || sig == 9 || sig == 0x10
def sigGlonass (sig : Nat) : Bool := sig == 0x0D || sig == 0x0E

/-- The stream of a group that carries a band. -/
def State.bandStream (s : State) (a band : Nat) : Option Nat :=
  (s.groupStreams a).find? (fun k => match s.streamRec k with
    | some r => r.band == band
    | none => false)

/-- A frequency in Hz as a 40-bit word of 81.84 MHz / 2⁴⁰ (R318), rounded to nearest. -/
def rateWord (hz : F64) : Int := frint (fscale (fdiv hz (fofNat 81840000)) 40)

/-- CAR and COD words of a channel at a Doppler (R307, R318). -/
def State.words (s : State) (x : Chan) (dop : F64) : BitVec 40 × BitVec 40 :=
  let f := sigFreq x.sig x.fcn
  match s.streamRec x.strm with
  | some r =>
    let bb := fadd (fofInt (f - r.fz)) dop
    let car := rateWord (if r.inv then fneg bb else bb)
    let code := fadd (fofNat (sigChips x.sig)) (fdiv (fmul dop (fofNat (sigChips x.sig))) (fofInt f))
    (BitVec.ofInt 40 car, BitVec.ofInt 40 (rateWord code))
  | none => (0, 0)

def State.pset (s : State) (x : Chan) : PsetRec := s.gnssRec.psets.getD x.pset {}

/-- Doppler in Hz from CAR (R307, R335). -/
def State.doppler (s : State) (x : Chan) : F64 :=
  match s.streamRec x.strm with
  | some r =>
    let bb := fscale (fmul (fofInt x.car.toInt) (fofNat 81840000)) (-40)
    fsub (if r.inv then fneg bb else bb) (fofInt (sigFreq x.sig x.fcn - r.fz))
  | none => 0

/-! ### oscillators (R318, R319) -/

/-- The NCOs run on for n samples; the carrier of a phase-locked channel is added up. -/
def Chan.advance (x : Chan) (n : Nat) : Chan :=
  let span := sigSpan x.sig * 2 ^ 40
  let ph := x.codPh + n * x.cod.toNat
  { x with
    carPh := x.carPh + BitVec.ofInt 64 (x.car.toInt * n), codPh := ph % span, epochs := x.epochs + BitVec.ofNat 32 (ph / span)
    pllPh := if x.st = 4 then x.pllPh + x.car.toInt * n else x.pllPh, pllN := if x.st = 4 then x.pllN + n else x.pllN }

/-- A slew of the code by `sl` 2⁻⁶ chip; each is counted. -/
def Chan.slewBy (x : Chan) (sl : Int) : Chan :=
  let span : Int := ((sigSpan x.sig * 2 ^ 40 : Nat) : Int)
  let v : Int := x.codPh + sl * 2 ^ 34
  if sl = 0 then x
  else { x with codPh := (v.emod span).toNat, epochs := x.epochs + BitVec.ofInt 32 (v.fdiv span), slews := x.slews + 1 }

/-- Length in ms of one step of the integration time: the primary code period, or 1 ms for L2C before synchronisation (R321). -/
def Chan.unitMs (x : Chan) : Nat := if sigL2c x.sig && x.sync.isNone then 1 else sigMs x.sig

/-- Samples until the code phase has passed k such steps: the accumulation boundary. -/
def Chan.samplesTo (x : Chan) (k : Nat) : Nat :=
  let unit := sigChips x.sig / 1000 * x.unitMs * 2 ^ 40
  ((x.codPh / unit + k) * unit - x.codPh + x.cod.toNat - 1) / x.cod.toNat

/-- Samples of 81.84 MHz from the last boundary to now. -/
def State.samplesNow (s : State) (x : Chan) : Nat := (s.now - x.ncoAt) * 8184 / 100000

/-! ### the search queue (R313) -/

/-- Requests are served by kind, then by signal priority, then by order of queueing. -/
def acqBefore (a b : Acq) : Bool :=
  decide (a.kind < b.kind) || (a.kind == b.kind && (decide (a.prio < b.prio) || (a.prio == b.prio && decide (a.order ≤ b.order))))

/-- T_coh in ms: for a pilot at most one primary code period (R311). -/
def coherent (sig tCoh : Nat) : Nat := if sigData sig || sigL2c sig then tCoh else min tCoh (sigMs sig)

/-- The snapshot of a search (R310): mixed to the signal's baseband frequency at zero Doppler, two samples per chip, at most
1.0 s at 1.023 Mcps and 100 ms at 10.23 Mcps. -/
def State.snapOf (s : State) (a : Acq) : Snap :=
  let x := s.chan a.ch
  let p := s.pset x
  let coh := coherent x.sig p.tCoh
  let block := 2 * (sigChips x.sig / 1000) * coh
  let n := min p.nNc (2046000 / block)
  { strm := x.strm, mix := (s.words x 0).1, len := n * block, blocks := n, coh := coh }

/-- The engine takes the next request when it has none, and a fresh snapshot for it. -/
def State.acqNext (s : State) : State :=
  match s.gnss.cur, sortBy acqBefore s.gnss.acq with
  | none, a :: rest => { s with gnss := { s.gnss with cur := some a, snap := some (s.snapOf a), acq := rest } }
  | none, [] => { s with gnss := { s.gnss with snap := none } }
  | some _, _ => s

def State.sigRec (s : State) (sig : Nat) : Option SignalRec := s.gnssRec.signals.find? (fun r => r.sig == sig)

/-- A search is requested for a channel about a code phase in half chips and a Doppler; a full queue refuses it (R313). -/
def State.request313 (s : State) (kind c code : Nat) (est : F64) : State :=
  let g := s.gnss
  if g.acq.any (fun a => a.ch == c) || (match g.cur with
    | some a => a.ch == c
    | none => false) then s
  else if 256 ≤ g.acq.length then { s with gnss := { g with refused := sat16 g.refused } }
  else
    let p := match s.sigRec (s.chan c).sig with
      | some r => r.prio
      | none => 33
    State.acqNext { s with gnss := { g with
        acq := g.acq ++ [{ kind := kind, prio := p, order := g.acqNo, ch := c, code := code, est := est }], acqNo := g.acqNo + 1 } }

/-- The last tracked code phase in half chips. -/
def Chan.halfChips (x : Chan) : Nat := x.codPh / 2 ^ 39

/-- REACQ about the last code phase and Doppler of a channel (R313). -/
def State.requestLost (s : State) (c : Nat) : State := s.request313 0 c (s.chan c).halfChips (s.doppler (s.chan c))

/-- A channel enters a state; a PLL period begins with its phase at zero. -/
def Chan.to (x : Chan) (st now : Nat) : Chan :=
  { x with
    st := st, since := now, ferrOk := none, pliHi := none, pliLo := none, cnLo := none
    pllAt := if st = 4 then now else x.pllAt, pllPh := if st = 4 then 0 else x.pllPh, pllN := if st = 4 then 0 else x.pllN }

/-- A channel is LOST: event when it was in FLL or PLL, and REACQ is requested (R323, R324). -/
def State.chanLost (s : State) (c : Nat) : State :=
  let x := s.chan c
  if x.st = 0 ∨ x.st = 5 then s
  else
    let s1 := s.setChan c { x.to 5 s.otime with slip := true, slips := x.slips + 1, lateRun := 0, side := 0, bump := 0, next := none }
    let s2 := if x.st = 3 ∨ x.st = 4 then s1.raise 0x08090006#32 (be16 c) else s1
    s2.requestLost c

/-- Every channel on a stream is LOST (R303, R304, R324). -/
def State.streamLost (s : State) (k : Nat) : State :=
  (List.range 384).foldl (fun (a : State) c => if (a.chan c).st ≠ 0 ∧ (a.chan c).strm = k then a.chanLost c else a) s

end Sys2Proof.Machine
end

