-- ==== Sys2Proof/Machine/ShuttleCore.lean ====
section
/-! DEFINITION. The Shuttle's areas, forces, starts and stops (R480, R487 to R493, R501, R509, R510). -/

namespace Sys2Proof.Machine

/-! ### types and areas (R491, R493) -/

/-- Width of a type in bits (R493). -/
def tyBits (ty : Nat) : Nat :=
  match ty with
  | 0 => 1
  | 1 => 8 | 5 => 8 | 9 => 8
  | 2 => 16 | 6 => 16 | 10 => 16
  | 3 => 32 | 7 => 32 | 11 => 32 | 13 => 32
  | _ => 64

/-- Sizes of the areas in bytes (R487, R489, R491). -/
def areaSize (a : Nat) : Nat :=
  match a with
  | 3 => 1835008
  | 4 => 262144
  | 5 => 262144
  | 6 => 131072
  | _ => 0

def Areas.get (m : Areas) (a : Nat) : List Host.Cell :=
  match a with
  | 3 => m.data
  | 4 => m.ret
  | 5 => m.inp
  | _ => m.out
def Areas.put (m : Areas) (a : Nat) (l : List Host.Cell) : Areas :=
  match a with
  | 3 => { m with data := l }
  | 4 => { m with ret := l }
  | 5 => { m with inp := l }
  | _ => { m with out := l }

/-- n bytes from a byte offset, as a number, least significant first. -/
def cellsLe (l : List Host.Cell) (a : Nat) : Nat → Nat
  | 0 => 0
  | n + 1 => (memRead l a).toNat + 256 * cellsLe l (a + 1) n

/-- A value of w bits at a bit address. -/
def Areas.read (m : Areas) (a bit w : Nat) : U64 :=
  let l := m.get a
  if w = 1 then BitVec.ofNat 64 (b2n (nbit (memRead l (bit / 8)).toNat (bit % 8)))
  else BitVec.ofNat 64 (cellsLe l (bit / 8) (w / 8))

/-- A byte with one bit set to a value. -/
def setBitTo (b : Byte) (i : Nat) (v : Bool) : Byte :=
  if v then b ||| BitVec.ofNat 8 (2 ^ i) else b &&& ~~~(BitVec.ofNat 8 (2 ^ i))

def Areas.write (m : Areas) (a bit w : Nat) (v : U64) : Areas :=
  let l := m.get a
  if w = 1 then m.put a (memWrite l (bit / 8) (setBitTo (memRead l (bit / 8)) (bit % 8) (v.getLsbD 0)))
  else m.put a (memWriteBytes l (bit / 8) ((le64 v.toNat).take (w / 8)))

/-- Writes of a task passed from its view to the committed areas (R488). -/
def Areas.commit (com view : Areas) (dirty : List (Nat × Nat × Nat)) : Areas :=
  dirty.foldl (fun (m : Areas) d => m.write d.1 d.2.1 d.2.2 (view.read d.1 d.2.1 d.2.2)) com

/-- Initial values of the program's areas; `keep` tells which bytes are meant. -/
def progInitial (p : TwProg) : Areas :=
  p.init.foldl (fun (m : Areas) e => m.put e.1 (memWrite (m.get e.1) e.2.1 e.2.2)) {}

/-- An area of the output image takes its initial values (R490). -/
def Areas.substOut (m : Areas) (p : TwProg) (o : TwOutArea) : Areas :=
  let ini := (progInitial p).out
  { m with out := memWriteBytes m.out o.ofs ((List.range o.len).map (fun i => memRead ini (o.ofs + i))) }

/-! ### forces (R501) -/

/-- Bits of an element: a BOOL takes one, every other type its size. -/
def symBits (y : TwSym) : Nat := tyBits y.ty

/-- Where a force acts: area, bit address, width (R501). -/
def forceAt (p : TwProg) (f : Force) : Option (Nat × Nat × Nat) :=
  match p.syms.find? (fun y => y.id == f.sym && y.inst.isNone) with
  | some y =>
    let e := if f.elem = 0xFFFFFFFF#32 then 0 else f.elem.toNat
    if e < y.count then some (y.area, y.bit + e * tyBits y.ty, tyBits y.ty) else none
  | none => none

/-- The items of the data, retentive and output areas hold their forced values (R501). -/
def Areas.forced (m : Areas) (p : TwProg) (fs : List Force) : Areas :=
  fs.foldl (fun (m : Areas) f => match forceAt p f with
    | some (a, b, w) => if a = 5 then m else m.write a b w f.value
    | none => m) m

/-- What a program reads: the input elements with their forces (R501). -/
def Areas.forcedInputs (m : Areas) (p : TwProg) (fs : List Force) : Areas :=
  fs.foldl (fun (m : Areas) f => match forceAt p f with
    | some (a, b, w) => if a = 5 then m.write a b w f.value else m
    | none => m) m

/-! ### starts and stops (R480, R490, R509, R510) -/

/-- What a stop leaves of a task: a running one is discarded, a halted one stays halted, the counters stand (R517). -/
def Task.stopped (k : Task) : Task :=
  { k with st := if k.st = 1 then 0 else k.st, dirty := [], stack := [], calls := [], owed := 0 }
/-- What a start leaves of a task: its counters and sticky flags; MAX clears (R509, R517). -/
def Task.started (k : Task) : Task :=
  { divz := k.divz, range := k.range, fpout := k.fpout, lost := k.lost, evsup := k.evsup, aborts := k.aborts, lastUs := k.lastUs }

/-- The Shuttle stops: running tasks are discarded, every output area takes its initial values once; forces stay (R490, R501). -/
def State.shuttleStop (s : State) : State :=
  let h := s.shuttle
  if !h.run then s
  else
    let com := h.prog.outAreas.foldl (fun (m : Areas) o => m.substOut h.prog o) h.com
    (State.releaseGuide { s with
      shuttle := { h with
        run := false, tasks := h.tasks.map Task.stopped, com := com.forced h.prog h.forces, caps := [], leadSync := none } }
      .beatTask).raise 0x12000002#32

/-- The Shuttle starts, WARM or COLD (R509): values as the kind says, forces kept. -/
def State.shuttleStart (s : State) (warm : Bool) : State :=
  let h := s.shuttle
  let ini := progInitial h.prog
  let com0 : Areas := if warm then { ini with ret := h.journal } else ini
  -- an analog channel reads invalid until it has had a VALID sample (R627)
  let stat : List Nat := match s.draft with
    | some d => d.adc.chans.filterMap (fun (x : AdcChan) => x.stOfs)
    | none => []
  let com := ({ com0 with inp := stat.foldl (fun (l : List Host.Cell) a => memWriteBytes l a [2#8]) com0.inp } : Areas).forced h.prog h.forces
  let clear (x : Sta) : Sta := { x with mods := x.mods.map (fun (p : Nat × StaMod) => (p.1, { p.2 with has := false, now := false })) }
  State.raise { s with
    shuttle := { h with
      run := true, starts := h.starts + 1, kind := if warm then 2 else 1, tasks := (List.range h.prog.tasks.length).map (fun i => Task.started (h.tasks.getD i {}))
      com := com
      journal := com.ret, journalId := h.prog.retId, journalOk := true, startPick := s.warp.pickCount
      caps := [], leadSync := none }
    rio := { s.rio with sta := s.rio.sta.map (fun (p : Nat × Sta) => (p.1, clear p.2)) } }
    0x12000001#32 [byteOf (b2n warm)]

/-- A WARM start is possible: the journal's RETID is the program's and its check is right; else COLD with its event
(R510). -/
def State.shuttleWarm (s : State) : State :=
  let h := s.shuttle
  if h.journalOk && h.journalId == h.prog.retId then s.shuttleStart true
  else (s.raise 0x12130003#32).shuttleStart false

/-- The Shuttle on entry into READY (R480, R510). -/
def State.shuttleReady (s : State) : State :=
  if s.draft.isSome && !s.shuttle.run then s.shuttleWarm else s

end Sys2Proof.Machine
end

