-- ==== Sys2Proof/Machine/Stop.lean ====
section
/-! DEFINITION. What each block gives up when beats stop, when the module enters SAFE, and when it leaves ACTIVE and
DEGRADED (R125, R153, R198, R199, R203, R227, R263, R278). -/

namespace Sys2Proof.Machine

/-- The estimate, the history, the prediction and all flags are discarded (R153). The warm-restart slots stay. -/
def Obs.discard (o : Obs) : Obs :=
  { tauLog := o.tauLog, lateCnt := o.lateCnt, guardCnt := o.guardCnt, warmResult := o.warmResult, warmSlot := o.warmSlot
    warmAge := o.warmAge, sel := o.sel, selVal := o.selVal, selVar := o.selVar
    warm0 := o.warm0, warm1 := o.warm1, warmSeq := o.warmSeq }

/-- A Draft activation or a reset also clears the counters (R153). -/
def Obs.activated (o : Obs) : Obs := { o.discard with lateCnt := 0, guardCnt := 0 }

/-- The degraded mode, MISSRUN, CLEANRUN and the plan are discarded; the next run begins with status NONE and without a record, but for
what R176 provides from the slots (R198). -/
def Wheel.stopped (w : Wheel) : Wheel :=
  { w with
    wdeg := false, missRun := 0, cleanRun := 0, missSafe := false, plan := none, solve := none, status := 0, sched := 0
    iter := 0, warm := false, solves := 0, copyDue := false, node0 := [], pflags := [], recs := [], conseqReg := false, role := 1 }

/-- The sessions of drive telegrams. -/
def driveSess (l : List Output) : List Nat :=
  l.filterMap (fun o => match o with
    | .drive i _ => some i
    | _ => none)

/-- The beat telegrams not yet on the wire are discarded and never sent: their commands never come into force (R53, R62, R128). -/
def State.unsendBeat (s : State) : State :=
  let lost := driveSess s.warp.txBeat
  let recs := match s.draft with
    | some d => d.alloc.thr
    | none => []
  let mask := recs.map (fun (r : ThrRec) => lost.contains r.sess)
  { s with
    warp := { s.warp with txBeat := [] }
    alloc := { s.alloc with
      thr := (List.zip (List.range s.alloc.thr.length) s.alloc.thr).map (fun p =>
        if mask.getD p.1 false then { p.2 with next := none, lift := none } else p.2) } }

/-- The commands that a forced change prevails over (R203). -/
def cmdYields : GuideCmd → Bool
  | .mode _ _ => true
  | .position _ _ => true
  | .offset _ _ => true
  | .heading _ _ => true
  | .track _ => true
  | .follow _ _ _ => true
  | _ => false

/-- The mode and setpoint commands: all that GUIDE serves but thruster use (R203, R221, R231). -/
def cmdSets : GuideCmd → Bool
  | .thruster _ _ => false
  | _ => true

/-- Each command that is discarded is counted and reported (R203). -/
def State.supersede (s : State) (l : List GuideCmd) : State :=
  l.foldl (fun (a : State) _ =>
    State.raise { a with guide := { a.guide with superseded := sat16 a.guide.superseded } } 0x06200103#32) s

/-- The mode becomes IDLE at once because the module enters SAFE or beats stop: every mode and setpoint command not yet applied is
discarded (R199, R203). -/
def State.forceIdle (s : State) : State :=
  let g := s.guide
  let s1 := s.supersede ((g.latched ++ g.waiting).filter cmdSets)
  let s2 : State := { s1 with guide := { s1.guide with
    mode := 0, latched := g.latched.filter (fun (c : GuideCmd) => !cmdSets c), waiting := g.waiting.filter (fun (c : GuideCmd) => !cmdSets c)
    soft := none, softDone := false, beta := 0, remain := 0, enteredActive := false
    cause := if g.mode = 0 then s1.guide.cause else 4 } }
  if g.mode = 0 then s2 else s2.raise 0x0600010A#32

/-- The track, the setpoints, the limits and wind settings made by command and the reference are discarded (R227). -/
def Guide.stopped (g : Guide) : Guide := { cause := g.cause, accepted := g.accepted, superseded := g.superseded }

/-- A slot enters OPEN: its repetitive table is cleared (R275, R278). -/
def Slot.opened (q : Slot) : Slot :=
  if q.st = 0 then q
  else { q with
    st := 1, feTimer := 0, frzRun := 0, uHist := [], varBuf := [], goodSince := none, reset := false
    rep := { q.rep with table := [], g := 0, g0 := 0, up := false, learning := false } }

def State.openSlots (s : State) : State :=
  { s with loop := { s.loop with slots := s.loop.slots.map (fun p => (p.1, p.2.opened)) } }

/-- Caps in force and the short-term windows are discarded; CAPSEQ stays (R263). Every thruster is switched on at the next
start of beats (R231). -/
def State.plantStop (s : State) : State :=
  { s with
    alloc := { s.alloc with
      image := none, cqActive := false, cqImgs := [], cqDone := []
      thr := s.alloc.thr.map (fun x => { x with cap := none, lift := none, next := none, on := true }) }
    plant := { s.plant with tLoss := List.replicate 8 none } }

/-- A group ends its contradiction and its operator selection (R106, R107, R125). DESIGN CHOICE (log entry 130): the announced
dead-reckoning condition is forgotten too, so that the next run of beats announces it anew. -/
def State.stopGroup (s : State) (g : Nat) : State :=
  let x := s.heddle.groups.getD g {}
  let s1 : State := { s with heddle := { s.heddle with
    groups := s.heddle.groups.set g { x with
      contra := false, contraKind := 0, cleanRun := 0, opSel := none, opNew := none, drKind := 0, belowMin := false } } }
  let s2 := if x.contra then s1.raise 0x03020003#32 [byteOf g] else s1
  if x.opSel.isSome then s2.raise 0x0302000E#32 [byteOf g] else s2

/-- The Heddle when beats stop (R125): leaders, contradictions with their SUSPECT marks, selections. -/
def State.heddleStop (s : State) : State :=
  let s1 : State := { s with heddle := { s.heddle with
    attLead := none, hdgLead := none, meas := []
    sess := s.heddle.sess.map (fun p => (p.1, { p.2 with suspect := false })) } }
  [0, 1, 2, 3, 4].foldl (fun (a : State) g => a.stopGroup g) s1

end Sys2Proof.Machine
end

