-- ==== Sys2Proof/Machine/Transitions.lean ====
section
/-! DEFINITION. Changes of the module state with everything they bring about: causes of DEGRADED and SAFE, start and
stop of beats, and what each block does then (R36, R50, R53, R81, R518 to R521). -/

namespace Sys2Proof.Machine

/-- The beat length N in picks of each NSEL (R48). -/
def beatLen (nsel : BitVec 3) : Nat :=
  match nsel.toNat with
  | 0 => 5 | 1 => 10 | 2 => 20 | 3 => 25 | 4 => 50 | _ => 10

def State.n (s : State) : Nat := beatLen s.warp.nsel

/-- CMD_CAUSE (R550). -/
def State.cause (s : State) : Word := BitVec.ofNat 32 (s.cmd.deg.toNat + s.cmd.safe.toNat * 65536)

/-- States in which the beat pipeline may run (R36). -/
def State.isActive (s : State) : Bool := s.sys.st == .active || s.sys.st == .degraded

/-- The nearest whole millisecond of a DTIME: at exactly half the one below, from which the lengthening of picks leads on (R46). -/
def nearestMs (t : Nat) : Nat := (t + 499999) / 1000000

/-- The offset of a tick from the nearest millisecond, positive when late; half a millisecond counts as late (R46, R76). -/
def gridOffset (t : Nat) : Int := (t : Int) - ((nearestMs t * 1000000 : Nat) : Int)

/-- How much a pick is lengthened: at most 42 ns towards the nearest millisecond; at exactly 0.5 ms picks are
lengthened (R45, R46). -/
def gridStep (ofs : Int) : Int := if ofs = 500000 then 42 else iclamp (-42) 42 (-ofs)

/-- The DTIME of the tick that follows a tick (R44 to R46). -/
def nextTick (t : Nat) : Nat := ((t : Int) + 1000000 + gridStep (gridOffset t)).toNat

/-- The DTIME of the k-th tick after a tick, as the Warp schedules it (R72). -/
def tickAfter : Nat → Nat → Nat
  | 0, t => t
  | k + 1, t => tickAfter k (nextTick t)

/-- The DTIME of the next beat edge; 0 while none is scheduled (R72, R77). -/
def State.nextEdgeTime (s : State) : Nat :=
  match s.warp.nextEdge with
  | some p => tickAfter (p - s.warp.pickCount) s.clk.tick
  | none => 0

/-- The number, from `k` on, of the first tick whose DTIME millisecond count is a multiple of n (R50). -/
def firstMultiple (n ms : Nat) : Nat → Nat → Nat
  | 0, k => k
  | fuel + 1, k => if (ms + k) % n = 0 then k else firstMultiple n ms fuel (k + 1)

/-- Beats are scheduled when the module enters READY: the first edge falls on the first tick numbered 2 or higher
whose millisecond count is a multiple of N; beat count, drop window, completion times and phase restart (R50, R81). DESIGN
CHOICE (log entry 127): while the grid stands off the millisecond, a tick's count is that of the nearest millisecond. -/
def State.startBeats (s : State) : State :=
  if s.warp.run || s.warp.nextEdge.isSome then s else
  let k := firstMultiple s.n (nearestMs s.clk.tick) 50 2
  { s with
    warp := { s.warp with
      nextEdge := some (s.warp.pickCount + k), beatCount := 0, last := none, prev := none, phase := 0
      stage := .idle, sinceStart := 0, elapsedMs := 0, window := [], dropRun := 0, dropSafe := false, dropsSince := 0
      guideEnd := 0, recordEnd := 0, bphErr := false }
    pair := { s.pair with leadPlan := none } }

/-- Beats stop: a pending first edge is discarded, the DROPS cause ends with DEGDROP; banks still held by a RECORD
stay held (R50, R60, R81). -/
def Warp.stop (w : Warp) : Warp :=
  let held (b : Option Beat) : List Beat :=
    match b with
    | some x => if x.holders.contains .record && x.recording == 1 then [x] else []
    | none => []
  { w with
    run := false, nextEdge := none, last := none, prev := none, phase := 0, stage := .idle, dropSafe := false
    degDrop := false, old := w.old ++ held w.prev ++ held w.last, txBeat := [] }

/-- Causes 0 to 3 of DEGRADED belong to the run of beats: DROPS, WHEEL, PLIMIT and HLIMIT end with it (R81, R153, R198). -/
def State.stopBeats (s : State) : State :=
  let s1 := (s.forceIdle).heddleStop
  let s2 : State := { s1 with
    warp := s1.warp.stop
    cmd := { s1.cmd with deg := s1.cmd.deg &&& 0xF0#8 }
    sys := { s1.sys with pending := none }
    obs := s1.obs.discard
    wheel := s1.wheel.stopped
    guide := s1.guide.stopped }
  (s2.plantStop).openSlots

/-- A new module state: event 0x0100_0001 with the old and the new state; the events of entering DEGRADED and SAFE
carry CMD_CAUSE; entering SAFE sets an incident freeze (R522, R656). Leaving ACTIVE and DEGRADED opens every slot
(R278), and the GNSS baseband follows the state (R297). -/
def State.setSt (s : State) (new : ModState) : State :=
  let old := s.sys.st
  let drove := (old == .active || old == .degraded) && !(new == .active || new == .degraded)
  let s0 := if drove then s.openSlots else s
  let s1 := (State.raise { s0 with sys := { s0.sys with st := new } } 0x01000001#32
    [byteOf (stateCode old), byteOf (stateCode new)]).gnssFollow
  match new with
  | .degraded => s1.raise 0x01300002#32 (be32 s1.cause.toNat)
  | .safe => (s1.raise 0x01400003#32 (be32 s1.cause.toNat)).incidentFreeze
  | _ => s1

/-- A DEGRADED cause is recorded; in ACTIVE the module enters DEGRADED, in DEGRADED an added cause raises
0x0130_0002, in every other state nothing else happens (R64, R520). -/
def State.setDeg (s : State) (bit : Nat) : State :=
  let had := s.cmd.deg.getLsbD bit
  let s1 : State := { s with cmd := { s.cmd with deg := s.cmd.deg ||| BitVec.ofNat 8 (2 ^ bit) } }
  match s.sys.st with
  | .active => s1.setSt .degraded
  | .degraded => if had then s1 else s1.raise 0x01300002#32 (be32 s1.cause.toNat)
  | _ => s1

/-- A DEGRADED cause clears by its own rule; with the last one DEGRADED returns to ACTIVE (R518, R520). -/
def State.clearDeg (s : State) (bit : Nat) : State :=
  if s.cmd.deg.getLsbD bit then
    let s1 : State := { s with cmd := { s.cmd with deg := s.cmd.deg &&& ~~~(BitVec.ofNat 8 (2 ^ bit)) } }
    if s1.sys.st = .degraded ∧ s1.cmd.deg = 0 then s1.setSt .active else s1
  else s

/-- What an entry into SAFE does to the pair (R454, R465): a LEAD whose partner showed itself as SHADOW in the last two picks
releases the claim and becomes BARRED, silently unless GO_SAFE asked for it; a SHADOW with a Loom fault becomes BARRED. A module
that has just taken the lead unqualified keeps it (R464). -/
def State.inLastTwo (s : State) (age : Nat) : Bool := decide (age ≤ if 400000 ≤ s.clk.sub then 1 else 2)
def State.pairSafe (s : State) (bit : Nat) : State :=
  let p := s.pair
  if !s.pairMode || bit = 6 then s
  else if s.sys.role == .lead && p.claim && p.led && s.inLastTwo p.shadowAge then
    let s1 := s.unsendBeat
    { s1 with
      pair := { p with release := true, barredBy := 2, led := false, silent := p.silent || bit != 0 }
      warp := { s1.warp with txPhase := [] } }
  else if bit = 1 && s.sys.role == .shadow then { s with pair := { p with barredBy := 2 } }
  else s

/-- Entering SAFE at once: the telegrams not yet on the wire and a pending entry into ACTIVE are discarded (R53, R519);
a cause that arises in SAFE is added. The states from which each cause enters SAFE are those of R518. -/
def State.enterSafe (s : State) (bit : Nat) : State :=
  let s1 : State := { s with cmd := { s.cmd with safe := s.cmd.safe ||| BitVec.ofNat 8 (2 ^ bit) } }
  let go : State :=
    State.pairSafe (State.forceIdle (State.setSt { s1.unsendBeat with
      sys := { s1.sys with pending := none } } .safe)) bit
  match s.sys.st with
  | .safe => if bit = 1 then s1.pairSafe bit else s1
  | .active => go
  | .degraded => go
  | .ready => if bit = 0 then s else go
  | .standby => if bit = 0 ∨ bit = 2 ∨ bit = 3 then s else go
  | .service => if bit = 0 ∨ bit = 2 ∨ bit = 3 then s else go
  | .selftest => if bit = 7 then go else s
  | _ => s

/-- A Loom fault: the Loom stops the Kiln heartbeat and the module enters SAFE with cause LOOMFAULT (R35, R62). -/
def State.loomFault (s : State) : State := State.enterSafe { s with sys := { s.sys with loomFault := true } } 1

/-- The module enters STANDBY or SERVICE: beats and the Shuttle stop (R50, R480). -/
def State.goIdle (s : State) (new : ModState) : State := ((s.stopBeats).shuttleStop).setSt new

/-- The module enters READY: beats start unless they run, the Shuttle starts unless it runs, and the ring domain has its
master from now on; seat 1 of a pair waits 10 picks with ARM after its first entry (R50, R378, R460, R510). -/
def State.goReady (s : State) : State :=
  let s1 := ((s.setSt .ready).startBeats).shuttleReady
  let p := s1.pair
  let wait := s1.pairMode && s1.sys.pairSeat && !p.armReady && p.armFrom.isNone
  { s1 with
    time := { s1.time with ringOn := true }
    pair := { p with armFrom := if wait then some (s1.warp.pickCount + 10) else p.armFrom } }

end Sys2Proof.Machine
end

