-- ==== Sys2Proof/Machine/Adc.lean ====
section
/-! DEFINITION. ADC: output samples and their conditions, the DC block, resolvers, the sample link, rotating calibration, and
its registers (R626 to R644). -/

namespace Sys2Proof.Machine

def State.adcRec (s : State) : DraftAdc :=
  match s.draft with
  | some d => d.adc
  | none => {}
def State.adcChan (s : State) (c : Nat) : AdcChan := s.adcRec.chans.getD c {}
def State.excRec (s : State) (e : Nat) : ExcRec := s.adcRec.exc.getD e {}
def State.ach (s : State) (c : Nat) : AdcCh := s.adc.chans.getD c {}
def State.setAch (s : State) (c : Nat) (x : AdcCh) : State := { s with adc := { s.adc with chans := s.adc.chans.set c x } }

/-- What the two chains hold for a channel at an output instant (R629, R638): the 24-bit code of the channel's own chain and of the
spare's, and whether a stage saturated on the sample. -/
structure AdcIn where
  own : Int
  ownSat : Bool
  spare : Int
  spareSat : Bool
  deriving DecidableEq, Repr
def State.adcIn (s : State) (c : Nat) : AdcIn :=
  let x := s.adc.chains.getD c {}
  let y := s.adc.chains.getD 32 {}
  { own := x.code, ownSat := x.clip, spare := y.code, spareSat := y.clip }

/-- The group delay D in ns (R631): front end and CIC, n half-bands of 5 samples of their own input rate, the final FIR's 15 or 3
samples of 2·f_out. -/
def groupDelay (d : AdcChan) : Nat :=
  let half := match d.rate with
    | 0 => 2460940
    | 1 => 1210940
    | 2 => 585940
    | _ => 273440
  20000 + half + (if d.flat then 15 else 3) * 500000 / 2 ^ d.rate

/-- The settle count S (R631). -/
def settleCount (d : AdcChan) : Nat := if d.flat then 21 else 9

/-- Volts per code (R637). -/
def codeScale : F64 := fdiv (fofRat 25 2) (fofNat 8388608)
/-- The calibrated value in volts, or in mA in CURRENT mode (R637). -/
def calValue (mode : Nat) (g o : F64) (k : Int) : F64 :=
  let v := fsub (fmul (fmul g (fofInt k)) codeScale) o
  if mode = 2 then fmul v (fofNat 4) else v

/-- A channel enters UNSETTLED for S samples (R632). -/
def AdcCh.unsettle (x : AdcCh) (d : AdcChan) : AdcCh :=
  if d.mode = 0 then x else { x with settle := settleCount d, cond := if x.cond = 3 then 3 else 2 }

def State.unsettleAll (s : State) : State :=
  (List.range 32).foldl (fun (a : State) c => a.setAch c ((a.ach c).unsettle (a.adcChan c))) s

/-- A chain start (R632, R637): conditions and DC estimates restart, coefficients are those saved for the mode, or the
factory trim. -/
def AdcCh.start (x : AdcCh) (c : Nat) (d : AdcChan) : AdcCh :=
  let (g, o) := (aget d.mode x.saved).getD (Config.adcTrim c)
  if d.mode = 0 then { saved := x.saved, passAt := x.passAt, result := x.result, diff := x.diff, g := g, o := o, shunt := x.shunt }
  else { saved := x.saved, passAt := x.passAt, result := x.result, diff := x.diff, shunt := x.shunt
         g := g, o := o, cond := 2, settle := settleCount d }

def State.adcStart (s : State) : State :=
  let chans := (List.zip (List.range 32) s.adc.chans).map (fun p => p.2.start p.1 (s.adcChan p.1))
  { s with adc := { s.adc with
      run := true, chans := chans, chains := List.replicate 33 {}, slotCh := none, ph := 0, sum := {}, spareFail := 0, exc := List.replicate 8 {} } }

/-- Without an active Draft, or below STANDBY, every channel is OFF (R632). -/
def State.adcStop (s : State) : State :=
  { s with adc := { s.adc with
      run := false, slotCh := none, ph := 0, chans := s.adc.chans.map (fun (x : AdcCh) => { x with cond := 0, settle := 0 }) } }

/-! ### samples -/

/-- Whether a value lies in the valid span of its mode (R626). -/
def inSpan (mode : Nat) (v : F64) : Bool :=
  if mode = 2 then fle (fofRat 36 10) v && fle v (fofNat 21)
  else fle (fabs v) (fofRat 105 10)

/-- The slot in progress is that of this channel and past the settling of its phase; picks into the phase (R638). -/
def State.calAt (s : State) (c : Nat) : Option Nat :=
  let k := s.warp.pickCount - s.adc.slotAt
  let begin := match s.adc.ph with
    | 1 => 0 | 2 => 300 | 3 => 600 | 4 => 1200 | _ => 1500
  if s.adc.slotCh = some c ∧ begin + 25 ≤ k then some (k - begin) else none

/-- A sample of both chains enters the sums of the phase in progress (R638). -/
def State.calSample (s : State) (c : Nat) (settled : Bool) (a : AdcIn) : State :=
  match s.calAt c with
  | none => s
  | some k =>
    let d := s.adcChan c
    let x := s.ach c
    let z := s.adc.sum
    let y : CalSum := { z with all := z.all + 1 }
    let code (i : Int) : F64 := fofInt i
    let sum : CalSum :=
      match s.adc.ph with
      | 1 =>
        if a.spareSat then y
        else if k < 150 then { y with n := y.n + 1, spare := fadd y.spare (code a.spare) }
        else { y with n2 := y.n2 + 1, ref := fadd y.ref (code a.spare) }
      | 3 =>
        if a.ownSat then y
        else if k < 300 then { y with n := y.n + 1, own := fadd y.own (code a.own) }
        else { y with n2 := y.n2 + 1, ref := fadd y.ref (code a.own) }
      | 2 =>
        let v := calValue d.mode x.g x.o a.own
        let w := calValue d.mode s.adc.spareG s.adc.spareO a.spare
        if settled && !a.ownSat && !a.spareSat && (d.mode == 3 || (inSpan d.mode v && inSpan d.mode w)) then
          { y with n := y.n + 1, own := fadd y.own v, spare := fadd y.spare w }
        else y
      | 4 =>
        let v := calValue d.mode s.adc.newG s.adc.newO a.own
        let w := calValue d.mode s.adc.spareG s.adc.spareO a.spare
        if settled && !a.ownSat && !a.spareSat && (d.mode == 3 || (inSpan d.mode v && inSpan d.mode w)) then
          { y with n := y.n + 1, own := fadd y.own v, spare := fadd y.spare w }
        else y
      | _ => z
    { s with adc := { s.adc with sum := sum } }

/-- Causes of INVALID that do not come from the sample itself (R628, R636): 4 calibration fault, 6 sample link lost, 7 CLK_ADC
failed, 8 excitation fault, 3 shunt disconnected. -/
def State.adcBlocked (s : State) (c : Nat) : Nat :=
  let d := s.adcChan c
  let x := s.ach c
  if s.sys.clkFail.getLsbD 6 then 7
  else if s.adc.linkBad then 6
  else if x.calFault then 4
  else if d.mode = 3 ∧ (s.adc.exc.getD (c / 2) {}).fault then 8
  else if d.mode = 2 ∧ !x.shunt then 3
  else 0

/-- The freeze source is active (R634). -/
def State.adcFreeze (s : State) (d : AdcChan) : Bool :=
  match d.freeze with
  | .none => false
  | .di k => s.plant.di.getLsbD k
  | .out bit => nbit (memRead s.shuttle.com.out (bit / 8)).toNat (bit % 8)

/-- The condition of a sample: 1, 2 or 3, with the samples still to settle (R628, R632). A VOLT sample back inside
the span after one outside it starts the count. -/
def nextCond (x : AdcCh) (d : AdcChan) (cause : Nat) (beyond : Bool) : Nat × Nat :=
  let settle := if x.beyond && !beyond then settleCount d else x.settle
  if cause ≠ 0 then (3, settle - 1) else if settle = 0 then (1, 0) else (2, settle - 1)

/-- The DC block (R634): the estimate, whether it has been set, the output, whether it is frozen. -/
def dcBlock (d : AdcChan) (x : AdcCh) (cond : Nat) (freeze : Bool) (v : F64) : F64 × Bool × F64 × Bool :=
  if !d.dcb then (x.m, x.mSet, v, false)
  else
    let frozen := cond != 1 || freeze || x.hand
    let fout := fofNat (1000 * 2 ^ d.rate)
    let alpha := fsub (fofNat 1) (Config.fexp (fneg (fdiv (fmul f2pi d.fc) fout)))
    let m := if !x.mSet then (if cond = 1 then v else x.m)
      else if frozen then x.m
      else fadd x.m (fmul alpha (fsub v x.m))
    (m, x.mSet || cond == 1, fsub v m, frozen)

/-- The channel's value and status byte in the input image (R627, R487). -/
def State.mapAnalog (s : State) (c : Nat) : State :=
  let d := s.adcChan c
  let x := s.ach c
  let put (t : State) (a : Nat) (l : List Byte) : State :=
    { t with shuttle := { t.shuttle with com := { t.shuttle.com with inp := memWriteBytes t.shuttle.com.inp a l } } }
  let status := match x.last with
    | none => 2
    | some _ => if x.cond = 1 then 0 else if x.cond = 2 then 1 else 2
  let s1 := match d.inOfs with
    | some a => put s a (le32 (f64to32 (x.last.getD 0)).toNat)
    | none => s
  match d.stOfs with
  | some a => put s1 a [byteOf status]
  | none => s1

/-- A channel takes the condition, value and events of an output sample (R627, R628). `j` is the sample's number within the
pick: sample 0 is the newest before p+0.10 (R631). -/
def State.deliver (s : State) (c j cause cond settle : Nat) (code : Int) (v : F64) (range : Bool) : State :=
  let d := s.adcChan c
  let x := s.ach c
  let (m, mSet, y, frozen) := dcBlock d x cond (s.adcFreeze d) v
  let x1 : AdcCh := { x with
    cond := cond, settle := settle, tov := s.clk.tick + j * 1000000 / 2 ^ d.rate - groupDelay d, raw := code, val := f64to32 y, m := m, mSet := mSet, frozen := frozen, hand := false
    range := range, last := if cond = 1 then some y else x.last
    latch := if j = 0 then (if cond = 1 then some y else none) else x.latch
    cause := if cond = 3 then (if x.cause = 0 then cause else x.cause) else if cond = 1 then 0 else x.cause }
  let s1 := s.setAch c x1
  let s2 := if cond = 3 ∧ x.cause = 0 then s1.raise 0x0D220001#32 [byteOf c, byteOf cause]
    else if cond = 1 ∧ x.cause ≠ 0 then s1.raise 0x0D020002#32 [byteOf c]
    else s1
  if j = 0 then s2.mapAnalog c else s2

/-- CLK_ADC has failed or the sample link is lost: every channel in use is INVALID at once, with its event at the start of the episode
(R35, R628, R633). -/
def State.adcInvalid (s : State) : State :=
  (List.range 32).foldl (fun (a : State) c =>
    if !a.adc.run || (a.adcChan c).mode == 0 then a
    else
      let x := a.ach c
      let cause := a.adcBlocked c
      let a1 := a.setAch c { x with cond := 3, latch := none, cause := if x.cause = 0 then cause else x.cause }
      (if x.cause = 0 then a1.raise 0x0D220001#32 [byteOf c, byteOf cause] else a1).mapAnalog c) s

/-- Angle in degrees, from 0 up to but excluding 360 (R635). -/
def degrees (y x : F64) : F64 :=
  let a := frad2deg (Config.fatan2 y x)
  let b := if flt a 0 then fadd a (fofNat 360) else a
  if fle (fofNat 360) b then 0 else b

/-- ADC_OUTPUT_SAMPLE (R631): sample j of channel c; in RESOLVER mode c = 2e carries the pair. `pa` and `pb` tell a parity error in the
state of the chain of channel c and of channel c + 1 (R630). -/
def execAdcOutputSample (c j : Nat) (pa pb : Bool) (t : Ns) (s : State) : Host.Outcome State Fault Refusal :=
  let s0 := s.at t
  let a := s0.adcIn c
  let b := s0.adcIn (c + 1)
  let d := s0.adcChan c
  let pick (x : AdcCh) (i : AdcIn) : Int × Bool × F64 × F64 :=
    if x.onSpare then (i.spare, i.spareSat, s0.adc.spareG, s0.adc.spareO) else (i.own, i.ownSat, x.g, x.o)
  .next (if !s0.adc.run then s
    else if d.mode = 0 then s0.calSample c true a
    else if d.mode = 3 then
      if c % 2 = 1 then s else
      let r := s0.excRec (c / 2)
      let x0 := (s0.ach c)
      let x1 := s0.ach (c + 1)
      let e := s0.adcChan (c + 1)
      let x0' := if pa then x0.unsettle d else x0
      let x1' := if pb then x1.unsettle e else x1
      let (k0, _, g0, o0) := pick x0 a
      let (k1, _, g1, o1) := pick x1 b
      let vs := calValue 3 g0 o0 k0
      let vc := calValue 3 g1 o1 k1
      let mu := fdiv (fsqrt (fadd (fmul vs vs) (fmul vc vc))) (fmul r.ratio r.amp)
      let bad := !(fle (fofRat 8 10) mu && fle mu (fofRat 12 10))
      let cause (i : Nat) : Nat := if s0.adcBlocked i ≠ 0 then s0.adcBlocked i else if bad then 5 else 0
      let ang := degrees vs vc
      let (q0, n0) := nextCond x0' d (cause c) false
      let (q1, n1) := nextCond x1' e (cause (c + 1)) false
      -- a calibration fault does not keep a sample out of the means (R638, R639)
      let usable (q i n : Nat) : Bool := q == 1 || (cause i == 4 && !bad && n == 0)
      let bam := radToBam (Config.fatan2 vs vc)
      let s1 := (s0.setAch c { x0' with ang := bam }).setAch (c + 1) x1'
      let s2 := (s1.calSample c (usable q0 c n0) a).calSample (c + 1) (usable q1 (c + 1) n1) b
      (s2.deliver c j (cause c) q0 n0 k0 ang false).deliver (c + 1) j (cause (c + 1)) q1 n1 k1 mu false
    else
      let x := s0.ach c
      let x' := if pa then x.unsettle d else x
      let (k, sat, g, o) := pick x a
      let v := calValue d.mode g o k
      let range := !inSpan d.mode v
      let blocked := s0.adcBlocked c
      let cause := if blocked ≠ 0 then blocked else if range then 1 else if sat ∧ d.mode = 1 then 2 else 0
      let beyond := d.mode == 1 && (range || sat)
      let (q, n) := nextCond x' d cause beyond
      let s1 := (s0.setAch c { x' with beyond := beyond }).calSample c (q == 1 || (blocked == 4 && !range && !beyond && n == 0)) a
      s1.deliver c j cause q n k v range)

/-! ### shunt, link, excitation -/

/-- SHUNT_DISCONNECT (R626): a current above 32 mA through the shunt of channel c. -/
def execShuntDisconnect (c : Nat) (s : State) : Host.Outcome State Fault Refusal :=
  .next (if (s.adcChan c).mode = 2 ∧ (s.ach c).shunt then s.setAch c { s.ach c with shunt := false } else s)

/-- SHUNT_RECONNECT (R626): the current has been below 30 mA for `below` ns. -/
def execShuntReconnect (c : Nat) (below : Nat) (s : State) : Host.Outcome State Fault Refusal :=
  .next (if 1000000000 ≤ below then s.setAch c { s.ach c with shunt := true } else s)

/-- One modulator sample, u for a 1 and −u for a 0: the integrators and, at every 48th sample, the combs, all modulo 2²⁸ (R629,
R630). -/
def Cic.bit (x : Cic) (u : BitVec 28) (b : Bool) : Cic :=
  let i1 := x.i1 + (if b then u else -u)
  let i2 := x.i2 + i1
  let i3 := x.i3 + i2
  let i4 := x.i4 + i3
  if x.n + 1 < 48 then { x with i1 := i1, i2 := i2, i3 := i3, i4 := i4, n := x.n + 1 }
  else
    let d1 := i4 - x.c1
    let d2 := d1 - x.c2
    let d3 := d2 - x.c3
    { i1 := i1, i2 := i2, i3 := i3, i4 := i4, c1 := i4, c2 := d1, c3 := d2, c4 := d3, n := 0, out := d3 - x.c4 }

/-- A value of n bits in two's complement, clipped, and whether it was (R630). -/
def clipTo (n : Nat) (v : Int) : Int × Bool :=
  let m : Int := 2 ^ (n - 1)
  if v < -m then (-m, true) else if m - 1 < v then (m - 1, true) else (v, false)

/-- The sum of products of a FIR stage from tap k on, in 40 bits, saturating; a zero input adds nothing (R630). -/
def firSum (tap : Nat → Int) : Nat → List Int → Int × Bool
  | _, [] => (0, false)
  | k, v :: l =>
    let (a, z) := firSum tap (k + 1) l
    if v = 0 then (a, z)
    else
      let (r, y) := clipTo 40 (a + tap k * v)
      (r, z || y)

/-- An input of a FIR stage of n taps; every second gives an output, rounded to 24 bits, and whether the stage saturated (R629,
R630). -/
def Fir.push (tap : Nat → Int) (n : Nat) (x : Fir) (v : Int) : Fir × Option (Int × Bool) :=
  let h := (v :: x.hist).take n
  if !x.odd then ({ hist := h, odd := true }, none)
  else
    let (a, z) := firSum tap 0 h
    let (r, y) := clipTo 24 ((a + 32768) / 65536)
    ({ hist := h, odd := false }, some (r, z || y))

/-- The half-bands still to pass and the final stage: the stages after the input, the output if there is one, whether a stage
saturated. -/
def firsPush (flat : Bool) : Nat → List Fir → Int → List Fir × Option Int × Bool
  | 0, fs, v =>
    match (fs.headD {}).push (Config.finalTap flat) (if flat then 31 else 7) v with
    | (f, some (w, z)) => ([f], some w, z)
    | (f, none) => ([f], none, false)
  | n + 1, fs, v =>
    match (fs.headD {}).push Config.halfTap 11 v with
    | (f, some (w, z)) =>
      let (r, o, y) := firsPush flat n fs.tail w
      (f :: r, o, z || y)
    | (f, none) => (f :: fs.tail, none, false)

/-- A CIC output enters a chain of n half-bands (R629). -/
def Chain.push (flat : Bool) (n : Nat) (x : Chain) (v : Int) : Chain :=
  match firsPush flat n x.firs v with
  | (fs, some w, z) => { firs := fs, sat := false, code := w, clip := x.sat || z }
  | (fs, none, z) => { x with firs := fs, sat := x.sat || z }

/-- One bit of a modulator passes its CIC stage and, at a CIC output, its chain; k counts the samples of the pick. -/
def chainBit (flat : Bool) (n : Nat) (ref : Nat → BitVec 28) (p : Nat × Cic × Chain) (b : Bool) : Nat × Cic × Chain :=
  let x := p.2.1.bit (ref p.1) b
  ((p.1 + 1) % 6144, x, if x.n = 0 then p.2.2.push flat n x.out.toInt else p.2.2)

/-- Alternating bits, whose mean is zero (R633). -/
def alternating (first : Bool) : Nat → List Bool
  | 0 => []
  | n + 1 => first :: alternating (!first) n

/-- The channel whose rate, profile and demodulation a modulator's chain runs with: the spare takes those of the slot's channel
(R638). -/
def State.chainChan (s : State) (m : Nat) : Nat := if m = 32 then s.adc.slotCh.getD 32 else m

/-- A modulator on the terminals of a channel in RESOLVER mode is multiplied by the reference of its pair; on its references it is not
(R635, R638). -/
def State.chainRef (s : State) (m : Nat) : Nat → BitVec 28 :=
  let c := s.chainChan m
  let onRef := if m = 32 then s.adc.ph == 1 || s.adc.ph == 5 else s.adc.slotCh == some m && s.adc.ph == 3
  if (s.adcChan c).mode = 3 && !onRef then Config.resRef (s.excRec (c / 2)).fex (s.excRec (c / 2)).phase else fun _ => 1

/-- The bits of a frame reach the chains; a frame that fails its check is replaced (R629, R633). -/
def State.sampled (s : State) (ok : Bool) (bits : List (List Bool)) : Adc :=
  let a := s.adc
  let run (m : Nat) : Cic × Chain :=
    let d := s.adcChan (s.chainChan m)
    let l := bits.getD m []
    ((if ok then l else alternating Config.altFirst l.length).foldl (chainBit d.flat (6 - d.rate) (s.chainRef m))
      (a.bitNo, a.cic.getD m {}, a.chains.getD m {})).2
  let all := (List.range 33).map run
  { a with cic := all.map Prod.fst, chains := all.map Prod.snd, bitNo := (a.bitNo + (bits.getD 0 []).length) % 6144 }

/-- SAMPLE_LINK_FRAME (R633): a frame, right or failing its check, with the bitstreams of the 33 modulators. -/
def execSampleLinkFrame (ok : Bool) (bits : List (List Bool)) (t : Ns) (s : State) : Host.Outcome State Fault Refusal :=
  let s0 : State := { s.at t with adc := s.sampled ok bits }
  let a := s0.adc
  let k := s0.warp.pickCount
  let now := if a.badPick = k then a.badNow else 0
  .next (if ok then
      if a.linkBad && decide (a.lostAt + 100 < k) then
        State.unsettleAll { s0 with adc := { a with linkBad := false, lostRun := 0 } }
      else s0
    else
      let lost := decide (now + 1 = 16)
      let run := if !lost then a.lostRun else if a.lostRun ≠ 0 ∧ a.lostAt + 1 = k then a.lostRun + 1 else 1
      let s1 : State := { s0 with adc := { a with
        badFrames := sat16 a.badFrames, badNow := now + 1, badPick := k, lostRun := run
        lostAt := if lost then k else a.lostAt, lostPicks := if lost then sat16 a.lostPicks else a.lostPicks } }
      let s2 := (s1.raiseLimited 0x0D120003 1000000 0x0D120003#32).unsettleAll
      if lost && decide (10 ≤ run) && !a.linkBad then
        (State.raise { s2 with adc := { s2.adc with linkBad := true } } 0x0D42000A#32).adcInvalid
      else s2)

/-- An RMS amplitude within ±10 % of the Draft's (R636). -/
def excOk (r : ExcRec) (v : F64) : Bool := fle (fmul (fofRat 9 10) r.amp) v && fle v (fmul (fofRat 11 10) r.amp)

/-- EXCITATION_CHECK (R636): each pick, the RMS amplitude read back at every output. -/
def State.excCheck (s : State) (amps : List F64) : State :=
  if !s.adc.run then s else
  (List.range 8).foldl (fun (a : State) e =>
    if (a.adcChan (2 * e)).mode ≠ 3 then a else
    let x := a.adc.exc.getD e {}
    let y : Exc := if !excOk (s.excRec e) (amps.getD e 0) then { x with bad := x.bad + 1, good := 0 } else { x with bad := 0, good := x.good + 1 }
    let put (z : Exc) (t : State) : State := { t with adc := { t.adc with exc := t.adc.exc.set e z } }
    if !x.fault && decide (2 ≤ y.bad) then (put { y with fault := true } a).raise 0x0D240004#32 [byteOf e]
    else if x.fault && decide (10 ≤ y.good) then
      let a1 := put { y with fault := false } a
      let a2 := a1.setAch (2 * e) ((a1.ach (2 * e)).unsettle (a1.adcChan (2 * e)))
      a2.setAch (2 * e + 1) ((a2.ach (2 * e + 1)).unsettle (a2.adcChan (2 * e + 1)))
    else put y a) s

/-! ### rotating calibration (R637 to R639) -/

/-- CALIBRATION_SLOT_START (R638): the slot of a channel begins in the pick whose count modulo 60,000 is 1,875·c. -/
def execCalibrationSlotStart (s : State) : Host.Outcome State Fault Refusal :=
  let m := s.warp.pickCount % 60000
  .next (if s.adc.run && s.warp.picks && !s.adc.spareBad && s.adc.slotCh.isNone && decide (m % 1875 = 0) then
      { s with adc := { s.adc with
        slotCh := some (m / 1875), ph := 1, slotAt := s.warp.pickCount, sum := {}, chains := s.adc.chains.set 32 {} } }
    else s)

/-- Gain and offset from the mean codes at zero and at +8.000 V (R637). -/
def calCoef (zero ref : F64) : F64 × F64 :=
  let g := fdiv (fofNat 8) (fmul (fsub ref zero) codeScale)
  (g, fmul (fmul g zero) codeScale)
/-- The limits of R637. -/
def calOk (c : F64 × F64) : Bool := fle (fabs c.2) (fofRat 5 100) && fle (fabs (fsub c.1 (fofNat 1))) (fofRat 1 100)

def mean (sum : F64) (n : Nat) : F64 := fdiv sum (fofNat n)

/-- The output of a channel is taken from one of the chains (R639). -/
def AdcCh.switch (x : AdcCh) (spare : Bool) : AdcCh := if x.onSpare = spare then x else { x with onSpare := spare, hand := true }

/-- The mean difference of an overlap is within its limit (R638). -/
def overlapOk (mode : Nat) (d : F64) : Bool := fle (fabs d) (if mode = 2 then fofRat 8 1000 else fofRat 5 1000)

/-- The slot is abandoned: the output returns to the own chain with the old coefficients (R639). -/
def State.calAbandon (s : State) (c : Nat) : State :=
  let s1 := s.setAch c ((s.ach c).switch false)
  { s1 with adc := { s1.adc with ph := 5, abandoned := sat16 s1.adc.abandoned, spareFail := 0, sum := {} } }

/-- The end of a slot's PARK phase. -/
def State.calDone (s : State) (c : Nat) : State :=
  { s with adc := { s.adc with
      slotCh := none, ph := 0, sum := {}, cycles := if c = 31 then (s.adc.cycles + 1) % 65536 else s.adc.cycles } }

/-- CALIBRATION_PHASE_END (R639): the phase in progress ends; `formed` tells whether the control cores have its results. -/
def execCalibrationPhaseEnd (formed : Bool) (s : State) : Host.Outcome State Fault Refusal :=
  let a := s.adc
  .next (match a.slotCh with
    | none => s
    | some c =>
      let d := s.adcChan c
      let x := s.ach c
      let k := s.warp.pickCount - a.slotAt
      let due := match a.ph with
        | 1 => 300 | 2 => 600 | 3 => 1200 | 4 => 1500 | _ => 1875
      if k < due then s
      else if a.ph = 5 then s.calDone c
      else
        let z := a.sum
        let valid := z.n + z.n2
        if !formed || decide (2 * valid < z.all) || decide (z.n = 0) || (decide (a.ph = 1 ∨ a.ph = 3) && decide (z.n2 = 0)) then
          s.calAbandon c
        else if a.ph = 1 then
          let (g, o) := calCoef (mean z.spare z.n) (mean z.ref z.n2)
          if calOk (g, o) then
            { s with adc := { a with
                spareG := g, spareO := o, spareFail := 0, sum := {}, ph := if d.mode = 0 ∨ !d.cal then 5 else 2 } }
          else
            let s1 := State.raise { s with adc := { a with spareFail := a.spareFail + 1, ph := 5, sum := {} } } 0x0D180007#32 [byteOf c]
            if 3 ≤ a.spareFail + 1 then
              State.raise { s1 with adc := { s1.adc with spareBad := true, slotCh := none, ph := 0 } } 0x0D380008#32
            else s1
        else if a.ph = 2 then
          let df := fsub (mean z.own z.n) (mean z.spare z.n)
          let s1 := s.setAch c { x.switch true with diff := df }
          { s1 with adc := { s1.adc with ph := 3, sum := {}, ov1Ok := overlapOk d.mode df } }
        else if a.ph = 3 then
          let (g, o) := calCoef (mean z.own z.n) (mean z.ref z.n2)
          let ok := calOk (g, o)
          { s with adc := { a with
              newG := if ok then g else x.g, newO := if ok then o else x.o, newOk := ok, ph := 4, sum := {} } }
        else
          let df := fsub (mean z.own z.n) (mean z.spare z.n)
          let ok := overlapOk d.mode df
          let y : AdcCh := { x.switch false with diff := df }
          let put (w : AdcCh) : State :=
            let t := s.setAch c w
            { t with adc := { t.adc with ph := 5, sum := {} } }
          if a.newOk && ok then
            let cleared := y.calFault && a.ov1Ok
            let w : AdcCh := { y with
              g := a.newG, o := a.newO, saved := aset d.mode (a.newG, a.newO) y.saved, result := 1
              passAt := some s.otime, calFault := y.calFault && !a.ov1Ok }
            if cleared then (put w).raise 0x0D080006#32 [byteOf c] else put w
          else
            (put { y with result := if a.newOk then 3 else 2, calFault := true }).raise 0x0D280005#32 [byteOf c])

/-! ### parameters and registers (R640, R642 to R644) -/

/-- The analog parameters lie in their ranges (R635, R640). -/
def adcParamOk (d : DraftAdc) : Bool :=
  decide (d.chans.length ≤ 32 ∧ d.exc.length ≤ 8)
    && d.exc.all (fun e => [4, 8, 16].contains e.fex && fle (fofNat 2) e.amp && fle e.amp (fofNat 7)
      && fle (fofRat 1 10) e.ratio && fle e.ratio (fofNat 1))
    && (List.range d.chans.length).all (fun c =>
      let x := d.chans.getD c {}
      let y := d.chans.getD (if c % 2 = 0 then c + 1 else c - 1) {}
      decide (x.mode ≤ 3 ∧ x.rate ≤ 3)
        && (!x.dcb || (fle (fofRat 1 100) x.fc && fle x.fc (fofNat 10) && fle x.fc (fofNat (10 * 2 ^ x.rate))))
        && (match x.freeze with
            | .di k => decide (k < 16)
            | .out b => decide (b < 1048576)
            | .none => true)
        && (x.mode != 3 || (decide (c < 16) && y.mode == 3 && x.rate == y.rate && x.flat == y.flat
            && decide (4 * 2 ^ x.rate ≤ (d.exc.getD (c / 2) {}).fex))))

/-- A write to ADC_CHSEL takes the snapshot of a channel (R642). -/
def State.writeChsel (s : State) (v : Word) : State :=
  let c := v.toNat % 32
  let d := s.adcChan c
  let x := s.ach c
  let age := match x.passAt with
    | some t => min 65535 ((s.otime - t) / 1000000)
    | none => 65535
  let win : List Word :=
    [ word (d.mode + d.rate * 4 + fbit 4 d.flat + fbit 5 d.dcb + fbit 6 x.frozen + fbit 7 x.onSpare + fld 16 5 x.settle)
    , x.val, sword x.raw, f64to32 x.m, f64to32 x.o, f64to32 x.g
    , word (x.result + age * 65536), f64to32 x.diff
    , if d.mode = 3 ∧ c % 2 = 0 then x.ang else 0 ]
  { s with adc := { s.adc with sel := word c, win := win } }

/-- ADC_CHSEL_WRITE (R642). -/
def execAdcChselWrite (v : Word) (s : State) : Host.Outcome State Fault Refusal := .next (s.writeChsel v)

/-- The value of an ADC register (R642, R643). -/
def State.adcReg (s : State) (off : Nat) : Word :=
  let a := s.adc
  match off with
  | 0x00 => word (b2n a.run + fbit 1 (a.run && !a.spareBad) + fbit 2 a.spareBad + fbit 3 a.linkBad
      + (a.slotCh.getD 63) * 256 + a.ph * 65536)
  | 0x04 => word (maskOf (fun (x : AdcCh) => x.cond == 1) a.chans)
  | 0x08 => word (maskOf (fun (x : AdcCh) => x.cond == 2) a.chans)
  | 0x0C => word (maskOf (fun (x : AdcCh) => x.range) a.chans)
  | 0x10 => word (maskOf (fun (x : AdcCh) => x.calFault) a.chans)
  | 0x14 => word (a.badFrames + a.lostPicks * 65536)
  | 0x18 => word (a.cycles + a.abandoned * 65536)
  | 0x20 => a.sel
  | _ => if 0x24 ≤ off ∧ off ≤ 0x44 then a.win.getD ((off - 0x24) / 4) 0 else 0

/-- ADC_LINK and ADC_CALCNT clear on Draft activation (R644). -/
def Adc.activated (a : Adc) : Adc := { a with badFrames := 0, lostPicks := 0, cycles := 0, abandoned := 0 }

end Sys2Proof.Machine
end

