-- ==== Sys2Proof/Machine/ObsModel.lean ====
section
/-! DEFINITION. The Observer's model: its 18 states, the continuous-time equations, their Jacobian, the process noise and
the propagation of state and covariance (R126, R127, R131, R132). -/

namespace Sys2Proof.Machine

/-- The model with M⁻¹ formed, the noise densities, and the wave frequencies in force. -/
structure ObsModel where
  minv : M3
  /-- M⁻¹·D. -/
  mid : M3
  tThr : V3
  lambda : F64
  omega : List F64
  q : Mat

/-- The inverse of a 3 × 3 matrix, column by column. -/
def m3inv (m : M3) : M3 :=
  let one := fofNat 1
  m3t (m3solve m (one, 0, 0), m3solve m (0, one, 0), m3solve m (0, 0, one))

def v3get (v : V3) : Nat → F64
  | 0 => v.1
  | 1 => v.2.1
  | _ => v.2.2
def m3get (m : M3) (i j : Nat) : F64 :=
  match i with
  | 0 => v3get m.1 j
  | 1 => v3get m.2.1 j
  | _ => v3get m.2.2 j
def xget (x : List F64) (i : Nat) : F64 := x.getD i 0

/-- Process noise densities: the force noise enters through M⁻¹; bias, wave rates and thrust directly (R127, R132). -/
def obsNoise (d : DraftObs) (minv : M3) : Mat :=
  matOf 18 (fun i j =>
    if 3 ≤ i ∧ i < 6 ∧ 3 ≤ j ∧ j < 6 then
      fsum ((List.range 3).map (fun k => fmul (fmul (m3get minv (i - 3) k) (v3get d.qNu k)) (m3get minv (j - 3) k)))
    else if i = j then
      (if 6 ≤ i ∧ i < 9 then v3get d.qB (i - 6)
       else if i = 10 ∨ i = 12 ∨ i = 14 then v3get d.qW ((i - 10) / 2)
       else if 15 ≤ i then v3get d.qTau (i - 15) else 0)
    else 0)

def obsModel (d : DraftObs) (omega : List F64) : ObsModel :=
  let mi := m3inv d.m
  { minv := mi, mid := m3mul mi d.d, tThr := d.tThr, lambda := d.lambda, omega := omega, q := obsNoise d mi }

/-- ẋ of R127 under a thrust input and a wind input. -/
def obsDeriv (md : ObsModel) (tau wind : V3) (x : List F64) : List F64 :=
  let c := Config.fcos (xget x 2); let s := Config.fsin (xget x 2)
  let u := xget x 3; let v := xget x 4; let r := xget x 5
  let bn := xget x 6; let be := xget x 7
  let b : V3 := (fadd (fmul c bn) (fmul s be), fsub (fmul c be) (fmul s bn), xget x 8)
  let f := v3add (v3add (xget x 15, xget x 16, xget x 17) wind) b
  let nu := v3sub (m3apply md.minv f) (m3apply md.mid (u, v, r))
  let wave (k : Nat) : F64 :=
    let w := md.omega.getD k 0
    fsub (fneg (fmul (fmul w w) (xget x (9 + 2 * k)))) (fmul (fmul (fmul (fofNat 2) md.lambda) w) (xget x (10 + 2 * k)))
  let lag (k : Nat) : F64 := fdiv (fsub (v3get tau k) (xget x (15 + k))) (v3get md.tThr k)
  [fsub (fmul u c) (fmul v s), fadd (fmul u s) (fmul v c), r, nu.1, nu.2.1, nu.2.2, 0, 0, 0,
   xget x 10, wave 0, xget x 12, wave 1, xget x 14, wave 2, lag 0, lag 1, lag 2]

/-- The Jacobian F of the model (R131). -/
def obsJac (md : ObsModel) (x : List F64) : Mat :=
  let c := Config.fcos (xget x 2); let s := Config.fsin (xget x 2)
  let u := xget x 3; let v := xget x 4
  let bn := xget x 6; let be := xget x 7
  let one := fofNat 1
  let dpsi := m3apply md.minv (fsub (fmul c be) (fmul s bn), fneg (fadd (fmul c bn) (fmul s be)), 0)
  let rt : M3 := ((c, s, 0), (fneg s, c, 0), (0, 0, one))
  let mr := m3mul md.minv rt
  matOf 18 (fun i j =>
    match i with
    | 0 => if j = 2 then fneg (fadd (fmul u s) (fmul v c)) else if j = 3 then c else if j = 4 then fneg s else 0
    | 1 => if j = 2 then fsub (fmul u c) (fmul v s) else if j = 3 then s else if j = 4 then c else 0
    | 2 => if j = 5 then one else 0
    | 9 => if j = 10 then one else 0
    | 11 => if j = 12 then one else 0
    | 13 => if j = 14 then one else 0
    | _ =>
      if 3 ≤ i ∧ i < 6 then
        (if j = 2 then v3get dpsi (i - 3)
         else if 3 ≤ j ∧ j < 6 then fneg (m3get md.mid (i - 3) (j - 3))
         else if 6 ≤ j ∧ j < 9 then m3get mr (i - 3) (j - 6)
         else if 15 ≤ j then m3get md.minv (i - 3) (j - 15) else 0)
      else if i = 10 ∨ i = 12 ∨ i = 14 then
        let w := md.omega.getD ((i - 10) / 2) 0
        (if j + 1 = i then fneg (fmul w w) else if j = i then fneg (fmul (fmul (fofNat 2) md.lambda) w) else 0)
      else if 15 ≤ i ∧ j = i then fneg (fdiv one (v3get md.tThr (i - 15))) else 0)

/-- One Runge–Kutta step of h seconds (R131). -/
def obsRk (md : ObsModel) (tau wind : V3) (h : F64) (x : List F64) : List F64 :=
  let half := fmul h (fofRat 1 2)
  let k1 := obsDeriv md tau wind x
  let k2 := obsDeriv md tau wind (vecAdd x (vecScale half k1))
  let k3 := obsDeriv md tau wind (vecAdd x (vecScale half k2))
  let k4 := obsDeriv md tau wind (vecAdd x (vecScale h k3))
  let sum := vecAdd (vecAdd (vecAdd k1 (vecScale (fofNat 2) k2)) (vecScale (fofNat 2) k3)) k4
  vecAdd x (vecScale (fdiv h (fofNat 6)) sum)

/-- State, covariance and the transition gathered so far. -/
structure ObsXP where
  x : List F64
  p : Mat
  phi : Mat

/-- One step of state and covariance: Φ = I + F·h + F²·h²/2, P := Φ·P·Φᵀ + Q·h (R131). -/
def obsStep (md : ObsModel) (tau wind : V3) (ns : Nat) (a : ObsXP) : ObsXP :=
  let h := fdiv (fofNat ns) (fofNat 1000000000)
  let f := obsJac md a.x
  let phi := matAdd (matAdd (matId 18) (matScale h f)) (matScale (fmul (fmul h h) (fofRat 1 2)) (matMul 18 f f))
  { x := obsRk md tau wind h a.x
    p := matAdd (matMul 18 (matMul 18 phi a.p) (matT 18 phi)) (matScale h md.q)
    phi := matMul 18 phi a.phi }

/-- The thrust input in force at a DTIME (R128). -/
def tauAt (log : List (Nat × V3)) (t : Nat) : V3 :=
  match log with
  | [] => (0, 0, 0)
  | e :: l => if e.1 ≤ t then e.2 else tauAt l t

/-- The lengths of the steps over a span of ns: whole milliseconds, the remainder last (R131; log entry 10). -/
def stepLens : Nat → Nat → List Nat
  | 0, _ => []
  | k + 1, len => if len = 0 then [] else if len ≤ 1000000 then [len] else 1000000 :: stepLens k (len - 1000000)

def stepsOf (len : Nat) : List Nat := stepLens (len / 1000000 + 1) len

/-- The steps from a to b with one thrust input. -/
def obsSpan (md : ObsModel) (tau wind : V3) (a b : Nat) (y : ObsXP) : ObsXP :=
  (stepsOf (b - a)).foldl (fun (z : ObsXP) ns => obsStep md tau wind ns z) y

/-- Propagation from a to b, stopping at each change of the thrust input (R131). -/
def obsPropagate (md : ObsModel) (log : List (Nat × V3)) (wind : V3) (a b : Nat) (y : ObsXP) : ObsXP :=
  let stops := ((log.filter (fun e => decide (a < e.1 ∧ e.1 < b))).map Prod.fst).reverse ++ [b]
  (stops.foldl (fun (z : Nat × ObsXP) t => (t, obsSpan md (tauAt log z.1) wind z.1 t z.2)) (a, y)).2

/-- A scalar measurement: the two states whose sum it measures, its value, its variance, whether it is an angle. -/
structure ObsScalar where
  i : Nat
  j : Nat
  y : F64
  var : F64
  angle : Bool

/-- The innovation of a scalar at a state (R133). -/
def ObsScalar.innov (m : ObsScalar) (x : List F64) : F64 :=
  let e := fsub m.y (fadd (xget x m.i) (xget x m.j))
  if m.angle then fwrap e else e

/-- H·P·Hᵀ + σ². -/
def ObsScalar.s (m : ObsScalar) (p : Mat) : F64 :=
  fadd (fadd (fadd (matGet p m.i m.i) (matGet p m.j m.j)) (fmul (fofNat 2) (matGet p m.i m.j))) m.var

/-- P·Hᵀ. -/
def ObsScalar.ph (m : ObsScalar) (p : Mat) : List F64 := p.map (fun r => fadd (r.getD m.i 0) (r.getD m.j 0))

/-- x + K·e and P − K·S·Kᵀ. -/
def obsGain (k : List F64) (e s : F64) (a : ObsXP) : ObsXP :=
  { a with
    x := vecAdd a.x (vecScale e k)
    p := matSub a.p (k.map (fun u => k.map (fun v => fmul (fmul u s) v))) }

/-- A scalar update at its ToV (R133). -/
def obsUpdate (m : ObsScalar) (a : ObsXP) : ObsXP :=
  let s := m.s a.p
  obsGain ((m.ph a.p).map (fun v => fdiv v s)) (m.innov a.x) s a

/-- The parameters of a Draft lie in their ranges, M is symmetric positive definite, D + Dᵀ positive semidefinite (R132). -/
def obsParamOk (d : DraftObs) : Bool :=
  let within (x : F64) (lo hi : F64) : Bool := fle lo x && fle x hi
  let all3 (v : V3) (f : F64 → Bool) : Bool := f v.1 && f v.2.1 && f v.2.2
  let m := d.m
  let sym := feq m.1.2.1 m.2.1.1 && feq m.1.2.2 m.2.2.1 && feq m.2.1.2.2 m.2.2.2.1
  let det2 (a b c e : F64) : F64 := fsub (fmul a e) (fmul b c)
  let pd := sym && flt 0 m.1.1 && flt 0 (det2 m.1.1 m.1.2.1 m.2.1.1 m.2.1.2.1) && flt 0 (det3 m)
  let t := m3t d.d
  let g : M3 := (v3add d.d.1 t.1, v3add d.d.2.1 t.2.1, v3add d.d.2.2 t.2.2)
  let psd := fle 0 g.1.1 && fle 0 g.2.1.2.1 && fle 0 g.2.2.2.2
    && fle 0 (det2 g.1.1 g.1.2.1 g.2.1.1 g.2.1.2.1) && fle 0 (det2 g.1.1 g.1.2.2 g.2.2.1 g.2.2.2.2)
    && fle 0 (det2 g.2.1.2.1 g.2.1.2.2 g.2.2.2.1 g.2.2.2.2) && fle 0 (det3 g)
  let q (x : F64) : Bool := flt 0 x && fle x (fofNat 1000000000000000)
  pd && psd && all3 d.tThr (fun x => within x (fofRat 1 10) (fofNat 30)) && within d.lambda (fofRat 1 100) (fofRat 1 2)
    && within d.tpMin (fofNat 2) (fofNat 30) && within d.tpMax (fofNat 2) (fofNat 30) && flt d.tpMin d.tpMax
    && within d.tp0 d.tpMin d.tpMax && all3 d.qNu q && all3 d.qB q && all3 d.qW q && all3 d.qTau q
    && decide (d.sd0.length = 18) && d.sd0.all (fun x => flt 0 x)
    && within d.posWarn (fofRat 1 2) (fofNat 50) && within d.posLimit (fofNat 1) (fofNat 100) && flt d.posWarn d.posLimit
    && within d.hdgWarn (fdeg2rad (fofRat 1 5)) (fdeg2rad (fofNat 10))
    && within d.hdgLimit (fdeg2rad (fofRat 1 2)) (fdeg2rad (fofNat 20)) && flt d.hdgWarn d.hdgLimit
    && decide (10 ≤ d.maxDrS ∧ d.maxDrS ≤ 3600 ∧ d.warmAgeS ≤ 600)

end Sys2Proof.Machine
end

