-- ==== Sys2Proof/Machine/Glaze.lean ====
section
/-! DEFINITION. Check values: the Glaze parameter sets and the computation of R611 to R613. The units, contexts and
registers of the Glaze are in Machine/GlazeUnits.lean. -/

namespace Sys2Proof.Machine

/-- The low w bits of n in reverse order. -/
def revBits : Nat → Nat → Nat
  | 0, _ => 0
  | w + 1, n => n % 2 * 2 ^ w + revBits w (n / 2)

/-- One bit into the running value (R612). -/
def glazeBit (w poly reg : Nat) (bit : Bool) : Nat :=
  let top := (reg / 2 ^ (w - 1) % 2 == 1) != bit
  let r := reg * 2 % 2 ^ w
  if top then r ^^^ poly else r

/-- The bits of a byte from bit 7 down. -/
def glazeBits (w poly : Nat) : Nat → Nat → Nat → Nat
  | 0, _, reg => reg
  | k + 1, b, reg => glazeBits w poly k b (glazeBit w poly reg (b / 2 ^ k % 2 == 1))

/-- One byte into the running value (R612). -/
def glazeByte (g : GlazeSet) (reg : Nat) (b : Byte) : Nat :=
  glazeBits g.width g.poly 8 (if g.refin then revBits 8 b.toNat else b.toNat) reg

/-- Bytes in wire order. -/
def glazeRun (g : GlazeSet) (reg : Nat) (l : List Byte) : Nat := l.foldl (glazeByte g) reg

/-- The check value of a running value (R612). -/
def glazeFinish (g : GlazeSet) (reg : Nat) : Nat :=
  (if g.refout then revBits g.width reg else reg) ^^^ g.xorout

/-- The check value over bytes. -/
def glazeCheck (g : GlazeSet) (l : List Byte) : Nat := glazeFinish g (glazeRun g g.init l)

/-- ⌈w/8⌉ (R612). -/
def glazeBytes (g : GlazeSet) : Nat := (g.width + 7) / 8

/-- A check value as sent: right-aligned, big-endian (R612). -/
def glazeWire (g : GlazeSet) (l : List Byte) : List Byte := (be32 (glazeCheck g l)).drop (4 - (glazeBytes g))

/-- The fixed sets 0 to 3 (R613). -/
def fixedSets : List GlazeSet := [
  { width := 32, refin := true, refout := true, poly := 0x1EDC6F41, init := 0xFFFFFFFF, xorout := 0xFFFFFFFF },
  { width := 32, refin := true, refout := true, poly := 0x04C11DB7, init := 0xFFFFFFFF, xorout := 0xFFFFFFFF },
  { width := 24, refin := false, refout := false, poly := 0x864CFB, init := 0, xorout := 0 },
  { width := 16, refin := false, refout := false, poly := 0x1021, init := 0xFFFF, xorout := 0 }]

/-- A set from its 16 bytes (R611). -/
def glazeSetOf (b : List Byte) : GlazeSet :=
  let le (i n : Nat) : Nat := ofLe ((b.drop i).take n)
  { width := le 0 1, refin := nbit (le 1 1) 0, refout := nbit (le 1 1) 1, poly := le 4 4, init := le 8 4, xorout := le 12 4 }

/-- What the typed set does not show: its length and the reserved bits (R16, R611). -/
def glazeBytesOk (b : List Byte) : Bool := decide (b.length = 16 ∧ ofLe ((b.drop 1).take 3) ≤ 3)

end Sys2Proof.Machine

/-- The Glaze sets that a Draft defines (R611). -/
def Sys2Proof.Draft.glaze (d : Sys2Proof.Draft) : List (Nat × Sys2Proof.GlazeSet) :=
  d.glazeImages.map (fun e => (e.1, Sys2Proof.Machine.glazeSetOf e.2))

namespace Sys2Proof.Machine

/-- A set by its index: fixed, or of the Draft (R611, R613). -/
def State.glazeSet (s : State) (i : Nat) : Option GlazeSet :=
  if i < 4 then fixedSets[i]?
  else match s.draft with
    | some d => aget i d.glaze
    | none => none

/-- CRC-32C over bytes (set 0). -/
def crc32c (l : List Byte) : Nat := glazeCheck { width := 32, refin := true, refout := true, poly := 0x1EDC6F41, init := 0xFFFFFFFF, xorout := 0xFFFFFFFF } l

/-- A command copy as bytes, and the 32-bit check value of a transfer of copies, formed with its sequence number (R25, R432; its
polynomial and layout are PRESUMED, log entry 138). -/
def KilnCopy.bytes (c : KilnCopy) : List Byte :=
  byteOf c.thr :: byteOf (b2n c.disp + 2 * b2n c.cap.isSome) :: be32 c.fx.toNat ++ be32 c.fy.toNat ++ be64 c.apply ++ be64 c.beat
    ++ (match c.cap with
      | some (f, q) => be32 f.toNat ++ be16 q.toNat
      | none => zeros 6)
def copyCheck (seq : U16) (l : List KilnCopy) : Word := word (crc32c (be16 seq.toNat ++ (l.map KilnCopy.bytes).flatten))
/-- A transfer of copies as the Loom forms it. -/
def copyMsg (seq : U16) (l : List KilnCopy) : CopyMsg := { seq := seq, copies := l, chk := copyCheck seq l }

/-- A check value at the end of a payload is correct under a set (R612, R614). -/
def glazeTailOk (g : GlazeSet) (p : List Byte) : Bool :=
  decide ((glazeBytes g) ≤ p.length) && ofBe (p.drop (p.length - (glazeBytes g))) == glazeCheck g (p.take (p.length - (glazeBytes g)))

end Sys2Proof.Machine
end

