-- ==== Sys2Proof/Machine/TimeShift.lean ====
section
/-! DEFINITION. A step of DTIME shifts every DTIME value that the module holds for later comparison (R363). -/

namespace Sys2Proof.Machine

/-! ### warm-restart records (R145) -/

/-- The bytes of the Observer's warm-restart record before its CRC. PRESUMED (log entry 42): in the order in which R145 lists the
fields, little-endian, the reals as binary64. -/
def ObsWarm.bytes (w : ObsWarm) : List Byte :=
  le32 w.seq.toNat ++ le64 w.edge ++ le64 w.fingerprint.toNat
    ++ ((w.bias ++ w.cov.flatten ++ w.omega).map (fun (x : F64) => le64 x.toNat)).flatten ++ le32 w.pcc.toNat ++ le64 w.otimeUs

/-- The record with its CRC-32C; and whether the CRC that it carries is right. -/
def ObsWarm.seal (w : ObsWarm) : ObsWarm := { w with crc := word (crc32c w.bytes) }
def ObsWarm.good (w : ObsWarm) : Bool := w.crc == word (crc32c w.bytes)

/-- The bytes of a Wheel's warm-start record before its check value (R172). -/
def warmBytes (r : WarmRec) : List Byte :=
  let vals (l : List F64) (k : Nat) : List Byte := ((List.range k).map (fun i => le64 (l.getD i 0).toNat)).flatten
  ascii "WHWS" ++ le32 (60 + 8 * r.n + 16 * r.m) ++ le64 r.fprint.toNat ++ le64 r.beat ++ le64 r.anchor ++ le32 r.n ++ le32 r.m
    ++ [byteOf r.status, byteOf r.iter] ++ zeros 2 ++ le64 r.mu.toNat ++ zeros 4 ++ vals r.x r.n ++ vals r.lamL r.m ++ vals r.lamU r.m

/-- The record with its CRC-32C; and whether the one that it carries is right (R172, R175). -/
def warmSeal (r : WarmRec) : WarmRec := { r with chk := word (crc32c (warmBytes r)) }
def warmGood (r : WarmRec) : Bool := r.chk == word (crc32c (warmBytes r))

/-! ### the shift (R363) -/

/-- A time moved by d ns. -/
def sh (d : Int) (t : Nat) : Nat := ((t : Int) + d).toNat
def shO (d : Int) (t : Option Nat) : Option Nat := t.map (sh d)
def sh1 {α : Type} (d : Int) (p : Nat × α) : Nat × α := (sh d p.1, p.2)

def shRec (d : Int) (r : InRec) : InRec := { r with tov := sh d r.tov, arrival := sh d r.arrival }

def shHed (d : Int) (x : HedSess) : HedSess :=
  { x with
    recent := x.recent.map (shRec d), latched := x.latched.map (shRec d), scanTov := shO d x.scanTov
    relTov := sh d x.relTov, rel := x.rel.map (fun r => (r.1, sh d r.2)), offsets := x.offsets.map (fun e => (sh d e.1, e.2 + d)), winStart := shO d x.winStart
    ring := x.ring.map (fun (e : RingEntry) => { e with tov := sh d e.tov }) }

def shTrack (d : Int) (k : Track) : Track :=
  { k with tov := sh d k.tov, lastHit := sh d k.lastHit, anchoredAt := sh d k.anchoredAt }

def shTel (d : Int) (t : Telegram) : Telegram := { t with arrival := sh d t.arrival, time := shO d t.time }

def shHeddle (d : Int) (h : Heddle) : Heddle :=
  { h with
    inbox := h.inbox.map (shTel d), sess := h.sess.map (fun (p : Nat × HedSess) => (p.1, shHed d p.2))
    tracks := h.tracks.map (shTrack d), meas := h.meas.map (fun (m : Meas) => { m with tov := sh d m.tov }) }

/-- A warm-restart record with its DTIME moved; a record with a wrong CRC stays as it is. -/
def shObsWarm (d : Int) (w : ObsWarm) : ObsWarm := if w.good then ObsWarm.seal { w with edge := sh d w.edge } else w

def shObs (d : Int) (o : Obs) : Obs :=
  { o with
    warm0 := o.warm0.map (shObsWarm d), warm1 := o.warm1.map (shObsWarm d)
    tauLog := o.tauLog.map (sh1 d), lastEdge := sh d o.lastEdge
    hist := o.hist.map (fun (e : ObsHist) => { e with edge := sh d e.edge })
    pred := o.pred.map (fun (e : Prediction) => { e with edge := sh d e.edge })
    waveLog := o.waveLog.map (sh1 d), waveSince := sh d o.waveSince, drPosAt := sh d o.drPosAt, drHdgAt := sh d o.drHdgAt }

def shWarm (d : Int) (r : WarmRec) : WarmRec := if warmGood r then warmSeal { r with anchor := sh d r.anchor } else r
def shPlan (d : Int) (p : WheelPlan) : WheelPlan := { p with apply := sh d p.apply }

def shWheel (d : Int) (w : Wheel) : Wheel :=
  { w with
    lastResidue := w.lastResidue.map (fun (p : Nat × Nat) => (p.1, sh d p.2))
    recs := w.recs.map (fun (p : Nat × WarmRec) => (p.1, shWarm d p.2))
    slot0 := w.slot0.map (fun (p : Nat × WarmRec) => (p.1, shWarm d p.2))
    slot1 := w.slot1.map (fun (p : Nat × WarmRec) => (p.1, shWarm d p.2))
    plan := w.plan.map (shPlan d), solve := w.solve.map (fun (x : Solve) => { x with start := sh d x.start }) }

def shThr (d : Int) (x : Thr) : Thr :=
  { x with
    next := x.next.map (fun (n : (F64 × F64) × Nat × Bool) => (n.1, sh d n.2.1, n.2.2))
    cap := x.cap.map (fun (c : Cap) => { c with raised := sh d c.raised }) }

def shAlloc (d : Int) (a : Alloc) : Alloc :=
  { a with
    thr := a.thr.map (shThr d), image := a.image.map (fun (m : Image) => { m with edge := sh d m.edge }) }

def shBrk (d : Int) (b : Brk) : Brk := { b with inter := b.inter.map (shO d), disagree := shO d b.disagree }

def shPlant (d : Int) (p : Plant) : Plant :=
  { p with
    goose := p.goose.map (fun (e : Nat × GooseSub) => (e.1, { e.2 with rx := if e.2.rx = 0 then 0 else sh d e.2.rx }))
    diPend := p.diPend.map (fun (e : Nat × Nat × Bool) => (e.1, sh d e.2.1, e.2.2))
    diEdge := p.diEdge.map (fun (e : Nat × List Nat) => (e.1, e.2.map (sh d)))
    goosePend := p.goosePend.map (fun (e : Nat × Nat × List GooseMember) => (e.1, sh d e.2.1, e.2.2))
    gens := p.gens.map (shBrk d), ties := p.ties.map (shBrk d), closedAt := p.closedAt.map (shO d), tLoss := p.tLoss.map (shO d) }

def shSlot (d : Int) (q : Slot) : Slot :=
  { q with
    next := q.next.map (fun (n : F64 × F64 × Nat) => (n.1, n.2.1, sh d n.2.2)), softAt := sh d q.softAt
    goodSince := shO d q.goodSince, rep := { q.rep with fadeAt := sh d q.rep.fadeAt, lastEdge := shO d q.rep.lastEdge } }

def shLoop (d : Int) (l : Loop) : Loop :=
  { l with slots := l.slots.map (fun (p : Nat × Slot) => (p.1, shSlot d p.2)) }

def shRio (d : Int) (r : Rio) : Rio :=
  { r with
    sta := r.sta.map (fun (p : Nat × Sta) => (p.1, { p.2 with held := p.2.held.map (sh1 d), sampled := shO d p.2.sampled }))
    edges := r.edges.map (fun (p : Nat × List Nat) => (p.1, p.2.map (sh d))) }

def shCap (d : Int) (c : SyncCap) : SyncCap := { c with edge := sh d c.edge }

def shShuttle (d : Int) (s : Shuttle) : Shuttle :=
  { s with
    tasks := s.tasks.map (fun (t : Task) => { t with tick := sh d t.tick, at' := sh d t.at' })
    caps := s.caps.map (shCap d), leadSync := s.leadSync.map (shCap d) }

def shPair (d : Int) (p : Pair) : Pair :=
  { p with
    lastApply := sh d p.lastApply, partnerLast := sh d p.partnerLast, leadWarm := p.leadWarm.map (shWarm d)
    leadPlan := p.leadPlan.map (shPlan d)
    mirOut := p.mirOut.map (fun (x : Nat × Option Nat × Nat) => (x.1, shO d x.2.1, x.2.2)) }

def shBeat (d : Int) (b : Beat) : Beat := { b with edge := sh d b.edge }

def shWarp (d : Int) (w : Warp) : Warp :=
  { w with last := w.last.map (shBeat d), prev := w.prev.map (shBeat d), old := w.old.map (shBeat d) }

def shSession (d : Int) (x : Session) : Session := { x with lastValid := shO d x.lastValid, barredAt := sh d x.barredAt }

def shGnss (d : Int) (g : Gnss) : Gnss :=
  let due (r : DueRec) : DueRec := { r with tov := sh d r.tov }
  { g with
    chans := g.chans.map (fun (x : Chan) => { x with ncoAt := sh d x.ncoAt })
    latchAt := sh d g.latchAt, rawDue := g.rawDue.map due, posDue := g.posDue.map due, attDue := g.attDue.map due
    msmAt := shO d g.msmAt }

/-- DTIME moves by d ns with everything that is held in it. -/
def State.shiftTime (s : State) (d : Int) : State :=
  { s with
    clk := { s.clk with tick := sh d s.clk.tick }
    warp := shWarp d s.warp, heddle := shHeddle d s.heddle, obs := shObs d s.obs, wheel := shWheel d s.wheel
    guide := { s.guide with soft := shO d s.guide.soft, wRamp := shO d s.guide.wRamp }
    alloc := shAlloc d s.alloc, plant := shPlant d s.plant, loop := shLoop d s.loop, rio := shRio d s.rio
    shuttle := shShuttle d s.shuttle, pair := shPair d s.pair, gnss := shGnss d s.gnss
    copies := s.copies.map (fun (m : CopyMsg) =>
      copyMsg m.seq (m.copies.map (fun (c : KilnCopy) => { c with apply := sh d c.apply })))
    sess := s.sess.map (fun (p : Nat × Session) => (p.1, shSession d p.2)) }

end Sys2Proof.Machine
end

