-- ==== Sys2Proof/Machine/Sessions.lean ====
section
/-! DEFINITION. The session table: states, budgets and the rejected telegrams of a second (R580 to R583). -/

namespace Sys2Proof.Machine

/-! ### session records as bytes (R580) -/

/-- A session record from its 64 bytes; 0xFFFF stands for an unused decoder table. -/
def sessRecOf (b : List Byte) : SessRec :=
  let at' (i : Nat) : Nat := (b.getD i 0).toNat
  let le (i n : Nat) : Nat := ofLe ((b.drop i).take n)
  { index := le 0 2, kind := at' 2, rx := nbit (at' 3) 0, tx := nbit (at' 3) 1, rtcm := nbit (at' 3) 2, iface := at' 4
    address := (b.drop 8).take 16, tStaleUs := le 24 4, tLostUs := le 28 4, admitN := at' 32, glaze := at' 33, rate := le 34 2
    errLim := le 40 2, period := le 42 2, tables := ([44, 46, 48, 50].map (fun i => le i 2)).filter (fun t => t != 65535) }

/-- What the typed record does not show: its length and the reserved fields (R16, R580). -/
def sessBytesOk (b : List Byte) : Bool :=
  let clear (i n : Nat) : Bool := ((b.drop i).take n).all (fun x => x == 0)
  decide (b.length = 64 ∧ (b.getD 3 0).toNat ≤ 7) && clear 5 3 && clear 36 4 && clear 52 12

end Sys2Proof.Machine

/-- The provisioned sessions of a Draft (R580). -/
def Sys2Proof.Draft.sessions (d : Sys2Proof.Draft) : List Sys2Proof.SessRec := d.sessionImages.map Sys2Proof.Machine.sessRecOf

namespace Sys2Proof.Machine

/-- The provisioned record of a session (R580). -/
def State.sessRec (s : State) (i : Nat) : Option SessRec :=
  match s.draft with
  | some d => d.sessions.find? (fun r => r.index == i)
  | none => none

def State.session (s : State) (i : Nat) : Option Session := aget i s.sess
def State.setSession (s : State) (i : Nat) (x : Session) : State := { s with sess := aset i x s.sess }

/-- T_STALE in ns: the Draft's, or what the partner gave (R580, R581). -/
def State.tStale (s : State) (i : Nat) : Nat :=
  let us := match s.sessRec i with
    | some r => r.tStaleUs
    | none => 1000000
  let us' := match s.session i with
    | some x => x.ttlUs.getD us
    | none => us
  us' * 1000

/-- T_LOST in ns. -/
def State.tLost (s : State) (i : Nat) : Nat :=
  (match s.sessRec i with
   | some r => r.tLostUs
   | none => 5000000) * 1000

/-- The event of entering a session state (R582). -/
def sessEvent : SessState → Option Word
  | .live => some 0x0A050008#32
  | .stale => some 0x0A150009#32
  | .lost => some 0x0A25000A#32
  | .barred => some 0x0A25000B#32
  | _ => none

/-- The station whose session an index names, if one (R594). -/
def State.staOfSess (s : State) (i : Nat) : Option StaRec :=
  match s.draft with
  | some d => d.stations.find? (fun r => r.sess == i)
  | none => none

def State.sta (s : State) (k : Nat) : Sta := (aget k s.rio.sta).getD {}
def State.setSta (s : State) (k : Nat) (x : Sta) : State := { s with rio := { s.rio with sta := aset k x s.rio.sta } }

/-- STATION_DROPPED and STATION_RETURN (R606, R608): a station session leaves LIVE, or returns to it. -/
def State.stationHook (s : State) (i : Nat) (old new : SessState) : State :=
  match s.staOfSess i with
  | none => s
  | some r =>
    if old = .live ∧ new ≠ .live then
      State.raise { s with rio := { s.rio with dropped := r.sta :: s.rio.dropped.filter (fun k => k != r.sta) } }
        0x0C250001#32 [byteOf r.sta]
    else if new = .live ∧ s.rio.dropped.contains r.sta then
      let s1 : State := { s with rio := { s.rio with dropped := s.rio.dropped.filter (fun k => k != r.sta) } }
      (s1.setSta r.sta { s1.sta r.sta with back := some 0 }).raise 0x0C050002#32 [byteOf r.sta]
    else s

/-- A session enters a state: counted, with the event of the table under R582; a station session drops or returns its
station. -/
def State.sessTo (s : State) (i : Nat) (x : Session) (new : SessState) : State :=
  let s1 := s.setSession i { x with st := new, changes := sat16 x.changes }
  let s2 := match sessEvent new with
    | some c => s1.raise c (be16 i)
    | none => s1
  s2.stationHook i x.st new

/-- The context of a stream after the bytes l of its telegram (R612, R616). -/
def State.glazeCtx (s : State) (set : Nat) (l : List Byte) : GlazeCtx :=
  { set := set, count := l.length, run := match s.glazeSet set with
    | some g => glazeRun g g.init l
    | none => 0 }

/-- A unit of the Glaze takes the bytes l of stream i, from the start of the telegram on: when it holds another stream's context, the
contexts are exchanged and the switch is counted (R616). -/
def State.glazeUnit (s : State) (u i set : Nat) (l : List Byte) : State :=
  let switched := match aget u s.glaze.loaded with
    | some j => j != i
    | none => false
  { s with glaze := { s.glaze with
    loaded := aset u i s.glaze.loaded, ctxsw := if switched then sat32 s.glaze.ctxsw else s.glaze.ctxsw
    ctx := aset i (s.glazeCtx set l) s.glaze.ctx } }

/-- The unit that serves a session's reception: 0 to 3 the ports, 12 the UARTs, 13 the CAN controllers (R615). -/
def rxUnit (r : SessRec) : Nat := if r.kind = 3 then 12 else if r.kind = 4 ∨ r.kind = 5 then 13 else r.iface % 4

/-- The bytes before the check value of a telegram of a session with a parameter set pass the session's unit. -/
def State.glazeRx (s : State) (r : SessRec) (b : List Byte) : State :=
  match s.glazeSet r.glaze with
  | some g => s.glazeUnit (rxUnit r) r.index r.glaze (b.take (b.length - glazeBytes g))
  | none => s

/-- Received check values wrong (GLAZE_FAILCNT, R617). -/
def State.glazeFail (s : State) : State := { s with glaze := { s.glaze with failCnt := sat32 s.glaze.failCnt } }

/-- The first valid telegram of a run admits a session; with ADMITN 1 it is LIVE at once, which is a second change of state (R582). -/
def State.sessAdmit (s : State) (i : Nat) (y : Session) (admitN : Nat) : State :=
  let s1 := s.sessTo i { y with run := 1 } .admitted
  match decide (admitN ≤ 1), s1.session i with
  | true, some z => s1.sessTo i z .live
  | _, _ => s1

/-- A valid telegram advances its session (R582). -/
def State.sessValid (s : State) (i : Nat) (ts : Nat) : State :=
  match s.session i with
  | none => s
  | some x =>
    let admitN := match s.sessRec i with
      | some r => r.admitN
      | none => 1
    let near := match x.lastValid with
      | some t => decide (ts ≤ t + s.tStale i)
      | none => false
    let y : Session := { x with rx := sat32 x.rx, lastValid := some ts }
    match x.st with
    | .provisioned => s.sessAdmit i y admitN
    | .admitted =>
      let run := if near then x.run + 1 else 1
      if admitN ≤ run then s.sessTo i { y with run := run } .live else s.setSession i { y with run := run }
    | .live => s.setSession i y
    | .stale => s.sessTo i y .live
    | .lost => s.sessAdmit i y admitN
    | _ => s

/-- A rejected telegram: counted, and the session is barred when more than ERRLIM are rejected within one whole second
of DTIME (R582). `seq` tells a rejection for sequence or token from one for check, decode or type (R590). -/
def State.sessReject (s : State) (i : Nat) (ts : Nat) (seq : Bool) : State :=
  match s.session i with
  | none => s
  | some x =>
    let sec := ts / 1000000000
    let n := if x.rejSec = sec then x.rejCount + 1 else 1
    let y : Session := { x with
      rejSec := sec, rejCount := n
      check := if seq then x.check else sat16 x.check
      seqRej := if seq then sat16 x.seqRej else x.seqRej }
    let lim := match s.sessRec i with
      | some r => r.errLim
      | none => 65535
    if lim < n ∧ x.st ≠ .barred then s.sessTo i { y with barredAt := ts, run := 0 } .barred
    else s.setSession i y

/-- A session that takes telegrams: it is provisioned and neither barred nor free (R582). -/
def State.sessTakes (s : State) (i : Nat) : Bool :=
  match s.session i with
  | some x => x.st != .barred && x.st != .free
  | none => false

/-- The budget of RATE telegrams per 1,000 picks with a burst of max(4, RATE/10) (R583): the session after the telegram
and whether it is within the budget. -/
def State.budget (s : State) (i : Nat) (x : Session) : Session × Bool :=
  let rate := match s.sessRec i with
    | some r => r.rate
    | none => 65535
  let burst := max 4 (rate / 10) * 1000
  let have' := min burst (x.credit + rate * (s.warp.pickCount - x.creditPick))
  if 1000 ≤ have' then ({ x with credit := have' - 1000, creditPick := s.warp.pickCount }, true)
  else ({ x with credit := have', creditPick := s.warp.pickCount, rateDrop := sat16 x.rateDrop }, false)

/-- A valid telegram is charged to its session's budget: none when it is dropped (R583). -/
def State.charge (s : State) (i : Nat) : State × Bool :=
  match s.session i with
  | none => (s, false)
  | some x => let (y, ok) := s.budget i x; (s.setSession i y, ok)

/-- SESSION_STALE (R582): a LIVE session without a valid telegram for T_STALE; command sessions follow R524. -/
def State.sessStale (s : State) (i : Nat) : State :=
  match s.session i with
  | some x =>
    if x.st = .live ∧ x.kind ≠ 0x0A ∧ x.kind ≠ 0x0B ∧ x.kind ≠ 0x0C ∧ (x.lastValid.getD 0) + s.tStale i ≤ s.now then s.sessTo i x .stale
    else s
  | none => s

/-- SESSION_LOST (R582): an ADMITTED or STALE session without a valid telegram for T_LOST. -/
def State.sessLost (s : State) (i : Nat) : State :=
  match s.session i with
  | some x =>
    if x.kind ≠ 0x0A ∧ (x.st = .admitted ∨ x.st = .stale) ∧ (x.lastValid.getD 0) + s.tLost i ≤ s.now then
      s.sessTo i { x with run := 0 } .lost
    else s
  | none => s

/-- SESSION_UNBAR (R582): 10 s after barring. -/
def State.sessUnbar (s : State) (i : Nat) : State :=
  match s.session i with
  | some x =>
    if x.st = .barred ∧ x.barredAt + 10000000000 ≤ s.now then
      s.sessTo i { x with run := 0, rejCount := 0, lastValid := none } .provisioned
    else s
  | none => s

/-- A packet of a command session counts as a valid telegram (R590). -/
def State.sessPacket (s : State) (i : Nat) : State :=
  match s.session i with
  | some x => s.setSession i { x with rx := sat32 x.rx, lastValid := some s.now }
  | none => s

/-- The session is LIVE. -/
def State.sessLive (s : State) (i : Nat) : Bool :=
  match s.session i with
  | some x => x.st == .live
  | none => false

end Sys2Proof.Machine
end

