-- ==== Sys2Proof/Machine/Decoder.lean ====
section
/-! DEFINITION. Decoder tables applied to telegrams: sentences, binary payloads, CAN frames, receiver records and PRIO
data to slot values (R83 to R90). -/

namespace Sys2Proof.Machine

/-! ### tables as bytes (R83, R84) -/

/-- A descriptor from its 24 bytes (R84). -/
def fieldDescOf (b : List Byte) : FieldDesc :=
  let at' (i : Nat) : Nat := (b.getD i 0).toNat
  { src := ofLe (b.take 2), fmt := at' 2, width := at' 3, dest := at' 4, required := nbit (at' 5) 0, unit := at' 6, mtch := at' 7
    scale := BitVec.ofNat 64 (ofLe ((b.drop 8).take 8)), offset := BitVec.ofNat 64 (ofLe ((b.drop 16).take 8)) }

/-- The descriptors of a table, 24 bytes each. -/
def fieldDescsOf : Nat → List Byte → List FieldDesc
  | 0, _ => []
  | n + 1, b => fieldDescOf (b.take 24) :: fieldDescsOf n (b.drop 24)

/-- A table from its bytes (R83). -/
def decTableOf (b : List Byte) : DecTable :=
  let at' (i : Nat) : Nat := (b.getD i 0).toNat
  { id := ofLe (b.take 2), framing := at' 2, key := (b.drop 4).take 8, keyOfs := ofLe ((b.drop 12).take 2), reckind := at' 14
    noChk := nbit (at' 15) 0, desc := fieldDescsOf (at' 3) (b.drop 16) }

/-- What the typed table does not show: its length, reserved bits of FLAGS and DFLAGS, and KEY_OFS where FRAMING has no use for it
(R16, R83, R84). -/
def tableBytesOk (b : List Byte) : Bool :=
  let at' (i : Nat) : Nat := (b.getD i 0).toNat
  decide (b.length = 16 + 24 * at' 3) && decide (at' 15 ≤ 1) && (at' 2 == 2 || ofLe ((b.drop 12).take 2) == 0)
    && (List.range (at' 3)).all (fun i => decide (at' (16 + 24 * i + 5) ≤ 1))

end Sys2Proof.Machine

/-- The decoder tables of a Draft (R82). -/
def Sys2Proof.DraftHeddle.tables (h : Sys2Proof.DraftHeddle) : List Sys2Proof.DecTable :=
  h.tableImages.map Sys2Proof.Machine.decTableOf

namespace Sys2Proof.Machine

/-- The decoder tables that a session of a Draft binds (R82). -/
def tablesOf (d : Draft) (i : Nat) : List DecTable :=
  match d.sessions.find? (fun (r : SessRec) => r.index == i) with
  | some r => r.tables.filterMap (fun t => d.heddle.tables.find? (fun (x : DecTable) => x.id == t))
  | none => []

/-- A table fills a slot. -/
def fills (dest : Nat) (t : DecTable) : Bool := t.desc.any (fun (x : FieldDesc) => x.dest == dest)

/-- The intake parameters of every session that binds decoder tables: those that the Draft gives, else the defaults (R117). -/
def intakesOf (d : Draft) : List Intake :=
  d.heddle.intake ++ (d.sessions.filter (fun (r : SessRec) => !r.tables.isEmpty
    && !d.heddle.intake.any (fun (p : Intake) => p.sess == r.index))).map (fun (r : SessRec) => { sess := r.index })

/-- An attitude session whose records carry HEAVE also feeds the heave group (R101). -/
def feedsHeave (d : Draft) (p : Intake) : Bool := p.group == 3 && (tablesOf d p.sess).any (fills 0x0B)

/-! ### sentences and fields -/

/-- The value of a decimal digit's character. -/
def digitOf (b : Byte) : Option Nat := if 48 ≤ b.toNat ∧ b.toNat ≤ 57 then some (b.toNat - 48) else none

/-- Digits with an optional point: number, decimals, significant digits; none when another character stands. -/
def scanDigits : List Byte → Nat → Nat → Nat → Bool → Option (Nat × Nat × Nat)
  | [], n, dec, sig, _ => some (n, dec, sig)
  | b :: l, n, dec, sig, point =>
    if b = 46#8 then (if point then none else scanDigits l n dec sig true)
    else match digitOf b with
      | some d => scanDigits l (n * 10 + d) (if point then dec + 1 else dec)
          (if n = 0 ∧ d = 0 then sig else sig + 1) point
      | none => none

/-- ASCII decimal: optional sign, up to 15 significant digits, optional decimal point (R85): value as n / 10^d. -/
def parseDecimal (l : List Byte) : Option (Int × Nat) :=
  let (neg, body) := match l with
    | 45#8 :: r => (true, r)
    | 43#8 :: r => (false, r)
    | r => (false, r)
  if body.all (fun b => b == 46#8) then none
  else match scanDigits body 0 0 0 false with
    | some (n, d, sig) => if 15 < sig then none else some (if neg then -(n : Int) else (n : Int), d)
    | none => none

/-- All characters are digits: their number. -/
def parseNat (l : List Byte) : Option Nat :=
  if l.isEmpty then none else l.foldl (fun a b => match a, digitOf b with
    | some n, some d => some (n * 10 + d)
    | _, _ => none) (some 0)

/-- A text cut at every `sep`. -/
def splitAtByte (sep : Byte) : List Byte → List (List Byte)
  | [] => [[]]
  | b :: l =>
    match splitAtByte sep l with
    | [] => [[b]]
    | f :: fs => if b = sep then [] :: f :: fs else (b :: f) :: fs

/-- Value of a hexadecimal digit's character. -/
def hexVal (b : Byte) : Option Nat :=
  match digitOf b with
  | some d => some d
  | none => if 65 ≤ b.toNat ∧ b.toNat ≤ 70 then some (b.toNat - 55)
            else if 97 ≤ b.toNat ∧ b.toNat ≤ 102 then some (b.toNat - 87) else none

/-- An IEC 61162 sentence: its fields from the address on, and its checksum's verdict: none when it has none. -/
structure SentenceParts where
  fields : List (List Byte)
  chk : Option Bool

def xorAll (l : List Byte) : Byte := l.foldl (fun a b => a ^^^ b) 0

def parseSentence (t : List Byte) : SentenceParts :=
  let body := t.drop 1
  let data := body.takeWhile (fun b => b != 42#8)
  let rest := body.drop data.length
  { fields := splitAtByte 44#8 data
    chk := match rest with
      | [_, a, b] => some (match hexVal a, hexVal b with
          | some x, some y => x * 16 + y == (xorAll data).toNat
          | _, _ => false)
      | [] => none
      | _ => some false }

/-- What a field gives: nothing (empty or absent), a failure to parse or match, or a value. -/
inductive FieldVal where
  | empty
  | bad
  | num (v : F64) (raw : Int)
  | time (ns : Nat)
  | tod (ns : Nat)
  | quality (q : Nat)
  | matched
  deriving DecidableEq, Repr

/-- SI from the unit of a descriptor (R84 UNIT). -/
def toSi (unit : Nat) (v : F64) : F64 :=
  match unit with
  | 1 => fdeg2rad v
  | 2 => fmul v (fofRat 1852 3600)
  | 3 => fdiv v (fofInt 1000)
  | 4 => fmul v (fofRat 3048 10000)
  | _ => v

/-- raw × SCALE + OFFSET, converted from UNIT (R85). -/
def descValue (d : FieldDesc) (raw : F64) : F64 := toSi d.unit (fadd (fmul raw d.scale) d.offset)

/-- n / 10^k in binary64. -/
def decToF (n : Int) (k : Nat) : F64 := fofRat n (10 ^ k)

/-- Degrees and minutes ddmm.mmmm with the hemisphere character: radians (R85 formats 0x02, 0x03). -/
def parseDegMin (l h : List Byte) (pos neg : Byte) (maxDeg : Nat) : FieldVal :=
  if l.isEmpty then .empty else
  match parseDecimal l with
  | none => .bad
  | some (n, k) =>
    let q := 10 ^ k
    let m := n.toNat
    let deg := m / (100 * q)
    let minq := m - deg * 100 * q
    if n < 0 ∨ minq ≥ 60 * q ∨ deg > maxDeg then .bad
    else
      let v := fdeg2rad (fofRat ((deg * 60 * q + minq : Nat) : Int) (60 * q))
      if h = [pos] then .num v 0 else if h = [neg] then .num (fneg v) 0 else .bad

/-- hhmmss with up to four decimals: nanoseconds of the day (R85 format 0x04). -/
def parseTod (l : List Byte) : FieldVal :=
  if l.isEmpty then .empty else
  match parseDecimal l with
  | none => .bad
  | some (n, k) =>
    let q := 10 ^ k
    let m := n.toNat
    let hh := m / (10000 * q); let mm := m / (100 * q) % 100
    let sq := m % (100 * q)
    if n < 0 ∨ 4 < k ∨ hh > 23 ∨ mm > 59 ∨ sq ≥ 61 * q then .bad
    else .tod ((hh * 3600 + mm * 60) * 1000000000 + sq * 1000000000 / q)

/-- A field of a sentence. -/
def asciiField (d : FieldDesc) (f : List (List Byte)) : FieldVal :=
  let l := f.getD d.src []
  match d.fmt with
  | 0x01 => if l.isEmpty then .empty else
      match parseDecimal l with
      | some (n, k) => .num (descValue d (decToF n k)) n
      | none => .bad
  | 0x02 => parseDegMin l (f.getD (d.src + 1) []) 78#8 83#8 90
  | 0x03 => parseDegMin l (f.getD (d.src + 1) []) 69#8 87#8 180
  | 0x04 => parseTod l
  | 0x05 => match l with
      | b :: _ => if b.toNat = d.mtch then .matched else .bad
      | [] => .bad
  | 0x06 => if l.isEmpty then .empty else
      match parseNat l with
      | some q => if q ≤ 9 then .quality q else .bad
      | none => .bad
  | _ => .bad

/-- The bit field of width w at bit offset o, bit 0 being the most significant of the first byte. -/
def bitField (p : List Byte) (o w : Nat) : Option Nat :=
  if o + w ≤ 8 * p.length then some (ofBe p / 2 ^ (8 * p.length - o - w) % 2 ^ w) else none

/-- A field of a binary payload. A match field that lies beyond the payload does not match. DESIGN CHOICE (log entry 128): raw of the
BAM32 formats 0x14 and 0x15 is the angle in radians. -/
def binField (d : FieldDesc) (p : List Byte) : FieldVal :=
  let w := match d.fmt with
    | 0x12 => 32 | 0x13 => 64 | 0x14 => 32 | 0x15 => 32 | 0x16 => 80 | _ => d.width
  match bitField p d.src w with
  | none => if d.fmt = 0x17 then .bad else .empty
  | some n =>
    match d.fmt with
    | 0x10 => .num (descValue d (fofNat n)) n
    | 0x11 => let i : Int := if n < 2 ^ (w - 1) then (n : Int) else (n : Int) - ((2 ^ w : Nat) : Int)
              .num (descValue d (fofInt i)) i
    | 0x12 => let v := BitVec.ofNat 32 n
              if f32Finite v then .num (descValue d (f32to64 v)) 0 else .bad
    | 0x13 => let v := BitVec.ofNat 64 n
              if ffinite v then .num (descValue d v) 0 else .bad
    | 0x14 => .num (descValue d (bamToRad (BitVec.ofNat 32 n))) n
    | 0x15 => .num (descValue d (bamToRadS (BitVec.ofNat 32 n))) n
    | 0x16 => .time (n / 2 ^ 32 * 1000000000 + n % 2 ^ 32)
    | 0x17 => if n = d.mtch then .matched else .bad
    | _ => .bad

/-- A table is meant for a telegram: framing and key (R83). -/
def tableMatches (t : DecTable) (b : Body) : Bool :=
  match b with
  | .sentence x =>
    let addr := (parseSentence x).fields.getD 0 []
    t.framing == 1 && (t.key.take 3).filter (fun c => c != 0) == addr.drop (addr.length - 3)
  | .binary p =>
    t.framing == 2 && bitField p (t.keyOfs * 8) 16 == some (ofLe (t.key.take 2))
  | .can pgn _ => t.framing == 3 && pgn == ofLe (t.key.take 3)
  | .gnss k _ => t.framing == 4 && k == (t.key.getD 0 0).toNat
  | .prio m _ => t.framing == 5 && m == (t.key.getD 0 0).toNat

/-- The fields of a telegram under a table. -/
def tableFields (t : DecTable) (b : Body) : List (FieldDesc × FieldVal) :=
  match b with
  | .sentence x => let f := (parseSentence x).fields; t.desc.map (fun d => (d, asciiField d f))
  | .binary p => t.desc.map (fun d => (d, binField d p))
  | .can _ p => t.desc.map (fun d => (d, binField d p))
  | .gnss _ p => t.desc.map (fun d => (d, binField d p))
  | .prio _ p => t.desc.map (fun d => (d, binField d p))

/-- The slots that a record kind must have (R86). -/
def mandatory : Nat → List Nat
  | 1 => [0x01, 0x02] | 2 => [0x04, 0x05] | 3 => [0x08] | 4 => [0x09, 0x0A] | 5 => [0x0B]
  | 6 => [0x10, 0x11] | 7 => [0x28, 0x29] | 9 => [0x38, 0x39, 0x3A] | _ => []

/-- The range of a slot (R10, R11; log entry 7): angles and positions as their formats hold them, every other slot any
finite value. -/
def slotOk (dest : Nat) (v : F64) : Bool :=
  let within (lo hi : F64) : Bool := fle lo v && fle v hi
  ffinite v &&
  (match dest with
   | 0x01 => within (fneg (fdiv fpi (fofInt 2))) (fdiv fpi (fofInt 2))
   | 0x02 => within (fneg fpi) fpi
   | 0x08 => fle 0 v && flt v f2pi
   | 0x09 => fle (fneg fpi) v && flt v fpi
   | 0x0A => fle (fneg fpi) v && flt v fpi
   | 0x11 => fle (fneg fpi) v && flt v f2pi
   | 0x03 => within (fofRat (-2147483647) 1000) (fofRat 2147483647 1000)
   | 0x04 => within (fofRat (-2147483647) 1000) (fofRat 2147483647 1000)
   | 0x05 => within (fofRat (-2147483647) 1000) (fofRat 2147483647 1000)
   | 0x0B => within (fofRat (-2147483647) 1000) (fofRat 2147483647 1000)
   | _ => true)

/-- The number values by slot. -/
def slotValues (l : List (FieldDesc × FieldVal)) : List (Nat × F64) :=
  l.filterMap (fun p => match p.2 with
    | .num v _ => some (p.1.dest, v)
    | _ => none)

/-- The full timestamp of the TOV slot, and the time of day of the TOD slot (R86). -/
def tovOf (l : List (FieldDesc × FieldVal)) : Option Nat :=
  (l.filterMap (fun p => match p.2 with
    | .time n => if p.1.dest = 0x20 then some n else none
    | .num v _ => if p.1.dest = 0x20 then some (frint (fmul v (fofInt 1000000000))).toNat else none
    | _ => none)).head?

def todOf (l : List (FieldDesc × FieldVal)) : Option Nat :=
  (l.filterMap (fun p => match p.2 with
    | .tod n => if p.1.dest = 0x21 then some n else none
    | .num v _ => if p.1.dest = 0x21 then some (frint (fmul v (fofInt 1000000000))).toNat else none
    | _ => none)).head?

/-- The UTC instant with a time of day nearest to an arrival, in TAI ns (R90). -/
def resolveTod (tod arrival : Nat) (leap : Int) : Nat :=
  let day : Int := 86400000000000
  let utc : Int := (arrival : Int) - leap * 1000000000
  let base := utc / day * day + (tod : Int)
  let cand := [base - day, base, base + day]
  let best := cand.foldl (fun b c => if (c - utc).natAbs < (b - utc).natAbs then c else b) (base - day)
  (best + leap * 1000000000).toNat

/-- Quality value of a record: the ASCII digit or the QUALITY slot rounded (R88). -/
def qualityOf (l : List (FieldDesc × FieldVal)) : Option Int :=
  (l.filterMap (fun p => match p.2 with
    | .quality q => some (q : Int)
    | .num v _ => if p.1.dest = 0x1C then some (frint v) else none
    | _ => none)).head?

/-- Class of a quality value (R88). -/
def classOf (inp : Intake) (q : Option Int) : Nat :=
  match q with
  | none => 1
  | some v => if 0 ≤ v ∧ v ≤ 9 then inp.classMap.getD v.toNat 0 else 0

/-- SEQ against the last accepted one: none when the record has no SEQ; otherwise whether it is newer (R87). -/
structure SeqVal where
  int : Option Int := none
  flt : Option F64 := none

def seqOf (l : List (FieldDesc × FieldVal)) : Option (FieldDesc × F64 × Int) :=
  (l.filterMap (fun p => match p.2 with
    | .num v r => if p.1.dest = 0x30 then some (p.1, v, r) else none
    | _ => none)).head?

/-- The modulus of a SEQ counter; none when it never wraps (R87). -/
def seqModulus (d : FieldDesc) : Option Nat :=
  match d.fmt with
  | 0x10 => some (2 ^ d.width)
  | 0x11 => some (2 ^ d.width)
  | 0x14 => some (2 ^ 32)
  | 0x15 => some (2 ^ 32)
  | 0x01 => if d.width = 0 then none else some (10 ^ d.width)
  | _ => none

def seqFresh (hs : HedSess) (d : FieldDesc) (v : F64) (r : Int) : Bool :=
  match seqModulus d with
  | some m =>
    match hs.lastSeq with
    | some h => let k := ((r - h) % (m : Int)).toNat
                decide (1 ≤ k ∧ k ≤ (m + 1) / 2 - 1)
    | none => true
  | none =>
    match hs.lastSeqF with
    | some h => flt h v
    | none => true

/-- A record as decoded, before its ToV is judged. -/
structure Decoded where
  table : Nat
  kind : Nat
  slots : List (Nat × F64)
  /-- The time of the record's own time field (R89, R604), and the latch instant of a record of the module's receiver. -/
  timed : Option Nat
  latch : Option Nat
  cls : Nat
  seqInt : Option Int
  seqFlt : Option F64
  deriving Repr

/-- What a table makes of a telegram: the record, or none when R87 rejects it, with true when its SEQ alone does. -/
def tableRecord (t : DecTable) (inp : Intake) (hs : HedSess) (leap : Int) (tel : Telegram) : Option Decoded × Bool :=
  let fs := tableFields t tel.body
  let chkOk := match tel.body with
    | .sentence x => match (parseSentence x).chk with
        | some ok => ok
        | none => t.noChk
    | _ => true
  let fieldsOk := fs.all (fun p => match p.2 with
    | .bad => false
    | .empty => !p.1.required
    | _ => true)
  let slots := slotValues fs
  let slotsOk := slots.all (fun p => slotOk p.1 p.2)
  let mandOk := (mandatory t.reckind).all (fun d => slots.any (fun p => p.1 == d))
  let timed := match tovOf fs, todOf fs with
    | some n, _ => some n
    | none, some n => some (resolveTod n tel.arrival leap)
    | none, none => if t.framing = 5 then tel.time else none
  let timeOk := match inp.timing with
    | 0 => timed.isSome
    | 2 => tel.time.isSome
    | _ => true
  let sq := seqOf fs
  let seqOk := match sq with
    | some (d, v, r) => seqFresh hs d v r
    | none => true
  if chkOk && fieldsOk && slotsOk && mandOk && timeOk then
    (if seqOk then
      some {
        table := t.id, kind := t.reckind, slots := slots, timed := timed, latch := tel.time, cls := classOf inp (qualityOf fs)
        seqInt := sq.bind (fun q => if (seqModulus q.1).isSome then some q.2.2 else none)
        seqFlt := sq.bind (fun q => if (seqModulus q.1).isSome then none else some q.2.1) }
    else none, !seqOk)
  else (none, false)

end Sys2Proof.Machine
end

