-- ==== Sys2Proof/Machine/Warp.lean ====
section
/-! DEFINITION. The Warp: picks, beat edges, the Reed, the Cone, drops and the WARP registers (R44 to R81). The parts of
a pick tick and of a beat edge that other blocks have are in Machine/Pick.lean. -/

namespace Sys2Proof.Machine

/-- One more firing of Cone monitor m: its bit and its counter (R62, R80). -/
def Warp.fire (w : Warp) (m : Nat) : Warp :=
  { w with cone := w.cone ||| BitVec.ofNat 10 (2 ^ m), coneCnt := modifyAt w.coneCnt m sat32 }

def State.fire (s : State) (m : Nat) : State := { s with warp := s.warp.fire m }

/-- Drops among the last 100 beat edges (WARP_DROPWIN.WIN). -/
def Warp.win (w : Warp) : Nat := countP (fun b => b) w.window

/-- What a pick of `ns` nanoseconds of DTIME adds to the phase accumulator: its length in cycles of CLK_NET, 8 ns each, corrected
by the frequency of CLK_NET against DTIME in 10⁻¹² (R44). The scale of 2⁻³⁰ cycles is the model's (log entry 126). -/
def phaseAdd (ns : Nat) (freq : Int) : BitVec 48 :=
  BitVec.ofNat 48 (ns * 134217728 * 1000000000000 / (1000000000000 + freq).toNat)

/-- What a pick adds to the fraction of DTIME: DTIME advances in each cycle of CLK_NET by its 8 ns with the frequency correction
(R359). DESIGN CHOICE (log entry 11): over a pick's whole cycles at once, in 2⁻¹⁶ ns. -/
def fracAdd (acc : BitVec 48) (freq : Int) : BitVec 16 :=
  BitVec.ofNat 16 (acc.toNat / 1073741824 * 524288 * (1000000000000 + freq).toNat / 1000000000000)

/-- A new pick: the tick's DTIME, OTIME, the accumulator's phase, the pick count, the phase, and the grid's events (R44 to R47,
R361). `netUs` is how many microseconds of CLK_NET the last pick took. -/
def State.warpTick (s : State) (netUs : Nat) : State :=
  let t := nextTick s.clk.tick
  let ofs := gridOffset t
  let aligned := decide (-1000 ≤ ofs ∧ ofs ≤ 1000)
  let w := s.warp
  let add := phaseAdd (t - s.clk.tick) s.time.freq
  let s1 : State := { s with
    clk := { s.clk with tick := t, sub := 0, otimeUs := s.clk.otimeUs + netUs, frac := s.clk.frac + fracAdd add s.time.freq }
    warp := { w with
      acc := w.acc + add
      pickCount := w.pickCount + 1
      phase := if w.run then (w.phase + 1) % s.n else 0
      gridOfs := ofs
      gridSteer := !aligned } }
  if aligned && w.gridSteer then s1.raise 0x0201000D#32
  else if !aligned && !w.gridSteer then s1.raise 0x0201000C#32
  else s1

/-- The scrubs of one pick, in background time when the pick leaves any (R70): 9 KiB of SRAM, 1,280 bytes of MRAM. -/
def State.scrub (s : State) (spare : Bool) : State :=
  let w := s.warp
  let d1 := if spare then w.sramDone + 9216 else w.sramDone
  let d2 := if spare then w.mramDone + 1280 else w.mramDone
  let end1 := decide (100663296 ≤ d1)
  let end2 := decide (67108864 ≤ d2)
  { s with warp := { w with
      spare := spare
      sramDone := if end1 then 0 else d1, sramPicks := if end1 then 0 else w.sramPicks + 1
      sramTold := if end1 then false else w.sramTold
      mramDone := if end2 then 0 else d2, mramPicks := if end2 then 0 else w.mramPicks + 1
      mramTold := if end2 then false else w.mramTold } }

/-- All holders of a started beat (R59). -/
def allHolders : List Holder := [.intake, .vote, .observe, .guide, .beatTask, .solve, .dispatch, .record]

/-- Every holder other than RECORD has released (R60 condition 1). -/
def Beat.onlyRecord (b : Beat) : Bool := b.holders.all (fun h => h == .record)
/-- RECORD still holds the beat's bank. -/
def Beat.recordHolds (b : Beat) : Bool := b.holders.contains .record

/-- The bank that the beat due at this edge would take (R60). -/
def Warp.dueBank (w : Warp) : Bool :=
  match w.last, w.prev with
  | none, _ => false
  | some l, none => !l.bank
  | some _, some l' => l'.bank

/-- The edge check (R60). -/
def Warp.edgeCheck (w : Warp) : Bool :=
  let c1 := match w.last with
    | none => true
    | some l => l.onlyRecord
  let c2 := match w.last, w.prev with
    | some _, some l' => !l'.recordHolds
    | _, _ => !w.old.any (fun b => b.bank == w.dueBank && b.recordHolds)
  c1 && c2

/-- A dropped beat: nothing switches; it is counted (R61, R63). -/
def State.dropBeat (s : State) : State :=
  let w := s.warp
  State.raise { s with warp := { w with
    window := (true :: w.window).take 100, dropCnt := sat32 w.dropCnt, dropRun := satAdd 255 w.dropRun 1
    dropsSince := w.dropsSince + 1, sinceStart := w.sinceStart + 1 } } 0x02110001#32

/-- The part of a beat's summary that its bank holds: OLDEST, drops, the Observer's record of that bank and the Wheel's (R147, R648). -/
def State.summaryData (s : State) (b : Beat) : List Byte :=
  be32 (match s.heddle.oldest with
    | some n => n
    | none => 0xFFFFFFFF)
  ++ be16 b.drops ++ be16 0 ++ s.obs.banks.getD (b2n b.bank) [] ++ s.wheel.record

/-- A beat that is no longer the last keeps its data for a RECORD that has not begun (R59, R648). -/
def State.keepData (s : State) (b : Beat) : Beat := if b.recording = 0 then { b with data := s.summaryData b } else b

/-- A started beat takes its bank; the elapsed time is a whole number of beats (R58, R60). -/
def State.startBeat (s : State) : State :=
  let w := s.warp
  let b := w.dueBank
  { s with warp := { w with
      window := (false :: w.window).take 100, dropRun := 0, dropSafe := false
      prev := w.last.map s.keepData
      last := some { bank := b, count := w.beatCount, edge := s.clk.tick, frac := s.clk.frac, pick := w.pickCount, drops := w.dropsSince, holders := allHolders }
      bank := b, stage := .edge, dropsSince := 0, sinceStart := 0
      elapsedMs := if w.last.isSome then (w.sinceStart + 1) * s.n else s.n } }

/-- A beat edge is due at the present tick. -/
def State.edgeDue (s : State) : Bool := s.warp.picks && s.warp.nextEdge == some s.warp.pickCount

/-- The Warp's part of a beat edge: the count, the next edge, the edge check and its outcome (R50, R51, R60). -/
def State.warpEdge (s : State) : State :=
  let w := s.warp
  let s1 : State := { s with warp := { w with
    nextEdge := some (w.pickCount + s.n), run := true, phase := 0
    beatCount := if w.run then w.beatCount + 1 else 0 } }
  if s1.warp.edgeCheck then s1.startBeat else s1.dropBeat

/-- A change of state that waited for its beat edge takes effect; an entry into ACTIVE with a cause recorded enters
DEGRADED, which only LEAD and ALONE may be in; a DEGRADED entered by takeover without a cause returns to ACTIVE (R37, R53, R518, R520). -/
def State.pendingAtEdge (s : State) : State :=
  match s.sys.pending with
  | some p =>
    let s1 : State := { s with sys := { s.sys with pending := none } }
    if s.sys.st = .ready ∧ (s.sys.role = .lead ∨ s.sys.role = .alone) then s1.setSt (if s.cmd.deg = 0 then p else .degraded) else s1
  | none => if s.sys.st = .degraded ∧ s.cmd.deg = 0 then s.setSt .active else s

/-- DROP_WINDOW_DEGRADE (R64). -/
def execDropWindowDegrade (s : State) : Host.Outcome State Fault Refusal :=
  .next (if s.warp.run && decide (3 ≤ s.warp.win) && !s.warp.degDrop then
    (State.raise { s with warp := { s.warp with degDrop := true } } 0x02310002#32).setDeg 0
  else s)

/-- DROP_WINDOW_CLEAR (R65). -/
def execDropWindowClear (s : State) : Host.Outcome State Fault Refusal :=
  .next (if s.warp.run && s.warp.win == 0 && s.warp.degDrop then
    (State.raise { s with warp := { s.warp with degDrop := false } } 0x02010003#32).clearDeg 0
  else s)

/-- DROP_RUN_SAFE (R66): once per run of drops. -/
def execDropRunSafe (s : State) : Host.Outcome State Fault Refusal :=
  .next (if s.warp.run && decide (10 ≤ s.warp.dropRun) && !s.warp.dropSafe then
    (State.raise { s with warp := { s.warp with dropSafe := true } } 0x0241000F#32).enterSafe 2
  else s)

/-- A started beat's stages have not passed `stage`. -/
def Stage.num : Stage → Nat
  | .idle => 0 | .edge => 1 | .intake => 2 | .voted => 3 | .observed => 4 | .guided => 5
  | .solving => 6 | .solved => 7 | .dispatched => 8 | .recorded => 9

def Warp.before (w : Warp) (st : Stage) : Bool := w.run && w.stage != .idle && decide (w.stage.num < st.num)

/-- CONE_STAGE_OVERRUN (R62): monitor 0 (PROJECT and VOTE) or, with `observe`, monitor 1 (OBSERVE). -/
def execConeStageOverrun (observe : Bool) (s : State) : Host.Outcome State Fault Refusal :=
  .next (if s.warp.before (if observe then .observed else .voted) then
    (State.raise (s.fire (b2n observe)) 0x02410005#32).loomFault
  else s)

/-- CONE_GUIDE_LATE (R62 monitor 2): GUIDE or the beat task is not complete at b+2.00. -/
def execConeGuideLate (s : State) : Host.Outcome State Fault Refusal :=
  let late := match s.warp.last with
    | some l => l.guiding
    | none => false
  .next (if s.warp.run && s.warp.stage != .idle && late then
    State.raise ((s.fire 2).at 0) 0x02110004#32
  else s)

/-- Telegrams that wait go on the wire, the first `k` of them. -/
def State.sendBeat (s : State) (k : Nat) : State :=
  State.emitAll { s with warp := { s.warp with txBeat := s.warp.txBeat.drop k } } (s.warp.txBeat.take k)

/-- CONE_TELEGRAMS_LATE (R62 monitor 4): `sent` of the waiting telegrams got on the wire before the deadline. -/
def execConeTelegramsLate (sent : Nat) (s : State) : Host.Outcome State Fault Refusal :=
  let s1 := s.sendBeat sent
  .next (if s1.warp.txBeat.isEmpty then s1 else State.raise (s1.fire 4) 0x02210006#32)

/-- CONE_WITHHOLD_LIMIT (R62 monitor 5): what is not on the wire by b+(N − 1.0) is discarded and never sent. -/
def execConeWithholdLimit (sent : Nat) (s : State) : Host.Outcome State Fault Refusal :=
  let s1 := s.sendBeat sent
  .next (if s1.warp.txBeat.isEmpty then s1
    else State.raise (s1.unsendBeat.fire 5) 0x02210007#32)

/-- RECORD of a beat is overdue at the DTIME t: it still holds its bank at b+(N + 0.8) (R62 monitor 6). -/
def Beat.recordLate (b : Beat) (n t : Nat) : Bool :=
  b.recordHolds && !b.lateFired && decide (b.edge + n * 1000000 + 800000 ≤ t)

def markLate (n t : Nat) (b : Beat) : Beat := if b.recordLate n t then { b with lateFired := true } else b

/-- CONE_RECORD_LATE (R62 monitor 6), at t ns after the tick. -/
def execConeRecordLate (t : Ns) (s : State) : Host.Outcome State Fault Refusal :=
  let s0 := s.at t
  let w := s0.warp
  let late := (w.last.toList ++ w.prev.toList ++ w.old).any (fun b => b.recordLate s.n s0.now)
  .next (if late then
    State.raise (State.fire { s0 with warp := { w with
      last := w.last.map (markLate s.n s0.now), prev := w.prev.map (markLate s.n s0.now)
      old := w.old.map (markLate s.n s0.now) } } 6) 0x02110008#32
  else s)

/-- CONE_PHASE_BACK_LATE (R62 monitor 7): what remains is sent at once. -/
def execConePhaseBackLate (s : State) : Host.Outcome State Fault Refusal :=
  .next (if s.warp.txPhase.isEmpty then s
    else
      let s1 := State.raise ((s.at 300000).fire 7) 0x02310010#32
      State.emitAll { s1 with
        warp := { s1.warp with txPhase := [] }
        plant := { s1.plant with pbReact := 250000 } } s.warp.txPhase)

/-- SCRUB_LATE (R70): an SRAM pass over 12 s or, with `mram`, an MRAM pass over 60 s; once per pass. -/
def execScrubLate (mram : Bool) (s : State) : Host.Outcome State Fault Refusal :=
  let w := s.warp
  .next (if mram then
      (if decide (60000 < w.mramPicks) && !w.mramTold then
        State.raise { s with warp := { w with bgMram := true, mramTold := true } } 0x0221000B#32 else s)
    else
      (if decide (12000 < w.sramPicks) && !w.sramTold then
        State.raise { s with warp := { w with bgSram := true, sramTold := true } } 0x0221000B#32 else s))

/-- RECORD of one beat ends: its bank is released. -/
def Beat.recordDone (b : Beat) : Beat := { b.release .record with recording := 2 }

/-- RECORD_COMPLETE (R59) at t ns after the tick: the RECORD in progress releases its Reed bank. -/
def execRecordComplete (t : Ns) (s : State) : Host.Outcome State Fault Refusal :=
  let s0 := s.at t
  let w := s0.warp
  let done (b : Beat) : Nat := s0.endUs b
  match w.old with
  | b :: rest => .next { s0 with warp := { w with old := rest, recordEnd := done b } }
  | [] =>
    match w.prev, w.last with
    | some p, l =>
      if p.recording = 1 then .next { s0 with warp := { w with prev := some p.recordDone, recordEnd := done p } }
      else match l with
        | some b =>
          if b.recording = 1 then .next { s0 with warp := { w with last := some b.recordDone, recordEnd := done b } }
          else .next s
        | none => .next s
    | none, some b =>
      if b.recording = 1 then .next { s0 with warp := { w with last := some b.recordDone, recordEnd := done b } }
      else .next s
    | none, none => .next s

/-! ### registers -/

/-- WARP is unlocked in STANDBY and locked in every other state; a reserved value has no effect (R48, R78). -/
def State.writeWarpCfg (s : State) (v : Word) : State :=
  if s.sys.st = .standby ∧ v.toNat % 8 ≤ 4 then { s with warp := { s.warp with nsel := BitVec.ofNat 3 v.toNat } } else s

/-- WARP_CFG_WRITE (R78). -/
def execWarpCfgWrite (v : Word) (s : State) : Host.Outcome State Fault Refusal := .next (s.writeWarpCfg v)

/-- Each 1 clears its monitor bit (R14, R80). -/
def State.writeWarpCone (s : State) (v : Word) : State :=
  { s with warp := { s.warp with cone := s.warp.cone &&& ~~~(BitVec.ofNat 10 v.toNat) } }

/-- WARP_CONE_WRITE (R80). -/
def execWarpConeWrite (v : Word) (s : State) : Host.Outcome State Fault Refusal := .next (s.writeWarpCone v)

/-- Each 1 clears its background flag (R14, R80). -/
def State.writeWarpBg (s : State) (v : Word) : State :=
  let w := s.warp
  { s with warp := { w with
      bgSram := w.bgSram && !v.getLsbD 0, bgMram := w.bgMram && !v.getLsbD 1
      bgConseq := w.bgConseq && !v.getLsbD 2, bgTelem := w.bgTelem && !v.getLsbD 3 } }

/-- WARP_BG_WRITE (R80). -/
def execWarpBgWrite (v : Word) (s : State) : Host.Outcome State Fault Refusal := .next (s.writeWarpBg v)

/-- WARP_STAT (R79). -/
def State.warpStat (s : State) : Word :=
  let w := s.warp
  word (fbit 0 w.run + fbit 1 w.bank + fbit 2 w.degDrop + fbit 3 (w.picks && decide (-1000 ≤ w.gridOfs ∧ w.gridOfs ≤ 1000))
    + fbit 4 w.bphErr + fld 8 6 (if w.run then w.phase else 0))

/-- A read of WARP_PICK_H, WARP_BEAT_H or WARP_NEXTEDGE_H latches its low word (R77). -/
def State.latchPick (s : State) : State := { s with warp := { s.warp with pickL := lo32 s.warp.pickCount } }
def State.latchBeat (s : State) : State := { s with warp := { s.warp with beatL := lo32 s.warp.beatCount } }
def State.latchEdge (s : State) : State := { s with warp := { s.warp with edgeL := lo32 s.nextEdgeTime } }

/-- WARP_PICK_H_READ (R77). -/
def execWarpPickHRead (s : State) : Host.Outcome State Fault Refusal :=
  .next ((s.latchPick).emit (.regValue 0x4001000C (hi32 s.warp.pickCount)))
/-- WARP_BEAT_H_READ (R77). -/
def execWarpBeatHRead (s : State) : Host.Outcome State Fault Refusal :=
  .next ((s.latchBeat).emit (.regValue 0x40010014 (hi32 s.warp.beatCount)))
/-- WARP_NEXTEDGE_H_READ (R77). -/
def execWarpNextedgeHRead (s : State) : Host.Outcome State Fault Refusal :=
  .next ((s.latchEdge).emit (.regValue 0x4001002C (hi32 s.nextEdgeTime)))

/-- The value of a WARP register (R76); a high word is read without its latch here. -/
def State.warpReg (s : State) (off : Nat) : Word :=
  let w := s.warp
  match off with
  | 0x00 => word w.nsel.toNat
  | 0x04 => s.warpStat
  | 0x08 => w.pickL
  | 0x0C => hi32 w.pickCount
  | 0x10 => w.beatL
  | 0x14 => hi32 w.beatCount
  | 0x18 => word w.dropCnt
  | 0x1C => word (fld 0 7 w.win + fld 8 8 w.dropRun)
  | 0x20 => word w.cone.toNat
  | 0x24 => sword w.gridOfs
  | 0x28 => if w.nextEdge.isSome then w.edgeL else 0
  | 0x2C => hi32 s.nextEdgeTime
  | 0x30 => word (fld 0 16 w.guideEnd + fld 16 16 w.recordEnd)
  | 0x34 => word (fbit 0 w.bgSram + fbit 1 w.bgMram + fbit 2 w.bgConseq + fbit 3 w.bgTelem)
  | _ => if 0x40 ≤ off ∧ off ≤ 0x64 ∧ off % 4 = 0 then word (w.coneCnt.getD ((off - 0x40) / 4) 0) else 0

/-- SYS_OTIME_H_READ (R43): the microsecond count is latched. -/
def State.latchOtime (s : State) : State := { s with sys := { s.sys with otimeLatch := word (s.otime % 3600000000) } }
def State.otimeHours (s : State) : Word := word (s.otime / 3600000000)
def execSysOtimeHRead (s : State) : Host.Outcome State Fault Refusal :=
  .next ((s.latchOtime).emit (.regValue 0x40000014 s.otimeHours))

/-- The value of a SYS register (R40 to R42). -/
def State.sysReg (s : State) (off : Nat) : Word :=
  match off with
  | 0x00 => 0x8640B100#32
  | 0x04 => word (stateCode s.sys.st + roleCode s.sys.role * 16)
  | 0x08 => word s.sys.clkFail.toNat
  | 0x0C => word s.sys.clkCmp.toNat
  | 0x10 => s.sys.pcc
  | 0x14 => s.otimeHours
  | 0x18 => s.sys.otimeLatch
  | _ => 0

end Sys2Proof.Machine
end

