-- ==== Sys2Proof/Machine/Heddle.lean ====
section
/-! DEFINITION. The Heddle's intake: decoding, partner clocks, attitude rings, relative tracks, and INTAKE
(R82 to R99, R111 to R116). VOTE is in Machine/Vote.lean. -/

namespace Sys2Proof.Machine

def State.hed (s : State) (i : Nat) : HedSess := (aget i s.heddle.sess).getD {}
def State.setHed (s : State) (i : Nat) (h : HedSess) : State :=
  { s with heddle := { s.heddle with sess := aset i h s.heddle.sess } }

/-- The intake parameters of a session (R117). -/
def State.intake (s : State) (i : Nat) : Option Intake :=
  match s.draft with
  | some d => (intakesOf d).find? (fun p => p.sess == i)
  | none => none

/-- The mount of a session (R97). -/
def State.mountOf (s : State) (p : Intake) : Mount :=
  match s.draft with
  | some d => (aget p.mount d.heddle.mounts).getD { x := 0, y := 0, z := 0, roll := 0, pitch := 0, yaw := 0 }
  | none => { x := 0, y := 0, z := 0, roll := 0, pitch := 0, yaw := 0 }

/-- The lever arm in metres. -/
def leverArm (m : Mount) : V3 := (fdiv (fofInt m.x) (fofInt 1000), fdiv (fofInt m.y) (fofInt 1000), fdiv (fofInt m.z) (fofInt 1000))

/-- C_sb maps body components to sensor components: the transpose of the z-y-x matrix of the offsets (R97, log entry 8). -/
def mountCsb (m : Mount) : M3 := m3t (rotZYX (bamToRadS m.yaw) (bamToRadS m.pitch) (bamToRadS m.roll))

def slotOf (r : List (Nat × F64)) (d : Nat) : Option F64 := aget d r

/-! ### partner clocks (R93 to R95) -/

/-- Sums for the line through the window, times relative to the newest arrival. -/
def lineSums (t0 : Nat) (l : List (Nat × Int)) : Int × Int × Int × Int × Int :=
  l.foldl (fun a p =>
    let x : Int := (p.1 : Int) - (t0 : Int)
    (a.1 + 1, a.2.1 + x, a.2.2.1 + p.2, a.2.2.2.1 + x * x, a.2.2.2.2 + x * p.2)) (0, 0, 0, 0, 0)

/-- Offset estimate in µs and drift in 10⁻⁹ of a window (R93, R122). -/
def lineFit (l : List (Nat × Int)) : Int × Int :=
  match l.getLast? with
  | none => (0, 0)
  | some (t0, _) =>
    let (n, sx, sy, sxx, sxy) := lineSums t0 l
    let den := n * sxx - sx * sx
    if den = 0 then (sy / n / 1000, 0)
    else
      let num := n * sxy - sx * sy
      ((sy * den - num * sx) / (n * den) / 1000, num * 1000000000 / den)

/-- The wander in ns: the largest apparent offset of the window minus the smallest (R93). -/
def wander (l : List (Nat × Int)) : Nat :=
  match l with
  | [] => 0
  | p :: _ => (l.foldl (fun m q => max m q.2) p.2 - l.foldl (fun m q => min m q.2) p.2).toNat

/-- A new apparent offset (R93): arrivals older than 60 s leave the window; a window that all have left begins anew. -/
def HedSess.addOffset (h : HedSess) (arrival : Nat) (o : Int) : HedSess :=
  let kept := h.offsets.filter (fun p => decide (arrival ≤ p.1 + 60000000000))
  { h with
    offsets := kept ++ [(arrival, o)]
    winStart := if kept.isEmpty then some arrival else some (h.winStart.getD arrival) }

/-- The window holds a full 60 s of arrivals. -/
def HedSess.fullWin (h : HedSess) : Bool :=
  match h.winStart, h.offsets.getLast? with
  | some a, some (b, _) => decide (a + 60000000000 ≤ b)
  | _, _ => false

/-- A session in TELEGRAM mode switches to arrival timing and back (R94, R95). -/
def State.judgeTiming (s : State) (i : Nat) (p : Intake) : State :=
  let h := s.hed i
  let w := wander h.offsets
  if p.timing ≠ 0 ∨ h.offsets.length < 10 then s
  else if !h.switched && decide (s.n * 1000000 < w) then
    State.raise (s.setHed i { h with switched := true }) 0x03210004#32 (be16 i)
  else if h.switched && h.fullWin && decide (w ≤ s.n * 500000) then
    State.raise (s.setHed i { h with switched := false }) 0x03010005#32 (be16 i)
  else s

/-! ### attitude rings (R98) -/

/-- An entry into a ring, in order of ToV, the newest 256 kept. -/
def ringAdd (r : List RingEntry) (e : RingEntry) : List RingEntry :=
  let l := insertBy (fun a b => decide (b.tov < a.tov)) e r
  l.take 256

/-- Body rates from sensor rates: ω_b = C_sbᵀ·ω_s (R99). -/
def bodyRates (m : Mount) (slots : List (Nat × F64)) : Option V3 :=
  match slotOf slots 0x0C, slotOf slots 0x0D, slotOf slots 0x0E with
  | some x, some y, some z => some (m3apply (m3t (mountCsb m)) (x, y, z))
  | _, _, _ => none

/-- Heading, pitch and roll of the body from an attitude record (R99). -/
def bodyAttitude (m : Mount) (slots : List (Nat × F64)) : V3 :=
  eulerOf (m3mul (rotZYX ((slotOf slots 0x08).getD 0) ((slotOf slots 0x0A).getD 0) ((slotOf slots 0x09).getD 0)) (mountCsb m))

/-- An angle of 0 … 2π. -/
def wrap2pi (a : F64) : F64 := fsub a (fmul f2pi (fofInt (ffloor (fdiv a f2pi))))

/-- Heading of the body from a heading record (R99). -/
def bodyHeading (m : Mount) (slots : List (Nat × F64)) : F64 := fsub ((slotOf slots 0x08).getD 0) (bamToRadS m.yaw)

/-- The ring entry of an accepted record of an attitude or heading session. -/
def ringEntry (p : Intake) (m : Mount) (kind tov : Nat) (slots : List (Nat × F64)) : Option RingEntry :=
  if p.group = 3 ∧ kind = 4 then
    let e := bodyAttitude m slots
    some { tov := tov, heading := e.1, pitch := e.2.1, roll := e.2.2, rates := bodyRates m slots }
  else if p.group = 2 ∧ kind = 3 then
    some { tov := tov, heading := bodyHeading m slots, rates := (slotOf slots 0x0E).map (fun r => (0, 0, r)) }
  else none

/-- Euler-angle rates (φ̇, θ̇, ψ̇) of a full entry (R98). -/
def eulerRates (e : RingEntry) (w : V3) : V3 :=
  let sf := Config.fsin e.roll; let cf := Config.fcos e.roll
  let a := fadd (fmul w.2.1 sf) (fmul w.2.2 cf)
  (fadd w.1 (fmul a (Config.ftan e.pitch)), fsub (fmul w.2.1 cf) (fmul w.2.2 sf), fdiv a (Config.fcos e.pitch))

def nsToS (n : Nat) : F64 := fdiv (fofNat n) (fofInt 1000000000)

/-- A ring's roll, pitch and heading at a ToV: interpolated, extrapolated by up to 50 ms, or nothing (R98). The ring
stands newest first. `full` tells an attitude session from a heading session. -/
def ringAt (full : Bool) (t : Nat) : List RingEntry → Option V3
  | [] => none
  | e :: older =>
    if e.tov ≤ t then
      if e.tov = t then some (e.roll, e.pitch, e.heading)
      else if 50000000 < t - e.tov then none
      else match e.rates with
        | none => some (e.roll, e.pitch, e.heading)
        | some w =>
          let dt := nsToS (t - e.tov)
          if full then
            let r := eulerRates e w
            some (fadd e.roll (fmul r.1 dt), fadd e.pitch (fmul r.2.1 dt), fadd e.heading (fmul r.2.2 dt))
          else some (e.roll, e.pitch, fadd e.heading (fmul w.2.2 dt))
    else
      let rec between (hi : RingEntry) : List RingEntry → Option V3
        | [] => none
        | lo :: rest =>
          if lo.tov ≤ t then
            let f := fdiv (nsToS (t - lo.tov)) (nsToS (hi.tov - lo.tov))
            let lin (a b : F64) : F64 := fadd a (fmul f (fwrap (fsub b a)))
            some (lin lo.roll hi.roll, lin lo.pitch hi.pitch, lin lo.heading hi.heading)
          else between lo rest
      between e older

/-- Roll and pitch from the attitude leader at a ToV. -/
def State.rollPitchAt (s : State) (t : Nat) : Option (F64 × F64) :=
  match s.heddle.attLead with
  | some i => (ringAt true t (s.hed i).ring).map (fun v => (v.1, v.2.1))
  | none => none

/-- C_nb at a ToV from both leaders (R98, R99). -/
def State.cnbAt (s : State) (t : Nat) : Option M3 :=
  match s.rollPitchAt t, s.heddle.hdgLead with
  | some (roll, pitch), some i => (ringAt false t (s.hed i).ring).map (fun v => rotZYX v.2.2 pitch roll)
  | _, _ => none

/-! ### projection (R99) -/

/-- WGS 84 geodetic coordinates to ECEF. -/
def ecefOf (lat lon h : F64) : V3 :=
  let a := fofInt 6378137
  let f := fdiv (fofInt 1) (fofRat 298257223563 1000000000)
  let e2 := fmul f (fsub (fofInt 2) f)
  let sl := Config.fsin lat; let cl := Config.fcos lat
  let n := fdiv a (fsqrt (fsub (fofInt 1) (fmul e2 (fmul sl sl))))
  (fmul (fmul (fadd n h) cl) (Config.fcos lon), fmul (fmul (fadd n h) cl) (Config.fsin lon),
   fmul (fadd (fmul n (fsub (fofInt 1) e2)) h) sl)

/-- ECEF difference to north, east and down about an origin. -/
def nedOf (lat0 lon0 h0 lat lon h : F64) : V3 :=
  let d := v3sub (ecefOf lat lon h) (ecefOf lat0 lon0 h0)
  let sl := Config.fsin lat0; let cl := Config.fcos lat0
  let so := Config.fsin lon0; let co := Config.fcos lon0
  (v3dot (fneg (fmul sl co), fneg (fmul sl so), cl) d, v3dot (fneg so, co, 0) d,
   v3dot (fneg (fmul cl co), fneg (fmul cl so), fneg sl) d)

/-- A record projected to the vessel reference point and the local tangent plane: none for lack of attitude. -/
def State.project (s : State) (p : Intake) (r : InRec) : Option V3 :=
  let m := s.mountOf p
  let arm := leverArm m
  let sl (d : Nat) : F64 := (slotOf r.slots d).getD 0
  match r.kind, s.draft with
  | 1, some d =>
    (s.cnbAt r.tov).map (fun c =>
      v3sub (nedOf d.heddle.lat0 d.heddle.lon0 d.heddle.h0 (sl 1) (sl 2) ((slotOf r.slots 3).getD d.heddle.h0)) (m3apply c arm))
  | 2, _ => (s.cnbAt r.tov).map (fun c => v3sub (sl 4, sl 5, 0) (m3apply c arm))
  | 3, _ => some (wrap2pi (bodyHeading m r.slots), 0, 0)
  | 4, _ => let e := bodyAttitude m r.slots; some (e.2.2, e.2.1, e.1)
  | 5, _ =>
    let own := match slotOf r.slots 9, slotOf r.slots 10 with
      | some _, some _ => let e := bodyAttitude m r.slots; some (e.2.2, e.2.1)
      | _, _ => s.rollPitchAt r.tov
    own.map (fun rp =>
      let v := m3apply (rotZYX 0 rp.2 rp.1) (v3neg arm)
      (fadd (fadd (sl 0x0B) v.2.2) arm.2.2, 0, 0))
  | 7, _ =>
    let dir := fadd (sl 0x29) (bamToRadS m.yaw)
    some (fmul (sl 0x28) (Config.fcos dir), fmul (sl 0x28) (Config.fsin dir), 0)
  | _, _ => none

/-- The heave of an attitude record that carries HEAVE, at its own roll and pitch (R99, R101). -/
def State.projectHeave (s : State) (p : Intake) (r : InRec) : Option V3 :=
  (slotOf r.slots 0x0B).map (fun h =>
    let m := s.mountOf p
    let arm := leverArm m
    let e := bodyAttitude m r.slots
    let v := m3apply (rotZYX 0 e.2.1 e.2.2) (v3neg arm)
    (fadd (fadd h v.2.2) arm.2.2, 0, 0))

/-! ### relative tracks (R111 to R116) -/

def State.track (s : State) (k : Nat) : Track := s.heddle.tracks.getD k {}
def State.setTrack (s : State) (k : Nat) (t : Track) : State :=
  { s with heddle := { s.heddle with tracks := s.heddle.tracks.set k t } }

/-- A track is deleted with event 0x0300_000C; a tentative one without (R113). -/
def State.deleteTrack (s : State) (k : Nat) : State :=
  let told := s.track k
  let s1 := s.setTrack k {}
  if told.st = .tentative then s1 else s1.raise 0x0300000C#32 [byteOf k]

/-- A scan passed without a hit (R113). -/
def State.missTrack (s : State) (k : Nat) : State :=
  let t := s.track k
  let u : Track := { t with scans := (false :: t.scans).take 8, missRun := satAdd 255 t.missRun 1 }
  match t.st with
  | .tentative => if 3 ≤ u.missRun then s.deleteTrack k else s.setTrack k u
  | .confirmed => if 10 ≤ u.missRun then s.deleteTrack k else s.setTrack k { u with st := .coasting }
  | .coasting => if 10 ≤ u.missRun then s.deleteTrack k else s.setTrack k u
  | .free => s

/-- The scan of a session closes: its tracks without a hit miss. -/
def State.closeScan (s : State) (i : Nat) : State :=
  let hits := (s.hed i).scanHits
  (List.range 64).foldl (fun t k =>
    if (t.track k).st ≠ .free ∧ (t.track k).sess = i ∧ ¬ hits.contains k then t.missTrack k else t) s

/-- The vessel reference point at a ToV from the Observer's estimate (log entry 9). -/
def State.vrpAt (s : State) (t : Nat) : V3 :=
  let x (k : Nat) : F64 := s.obs.x.getD k 0
  let dt := fdiv (fofInt ((t : Int) - (s.obs.lastEdge : Int))) (fofInt 1000000000)
  let c := Config.fcos (x 2); let sn := Config.fsin (x 2)
  (fadd (fadd (x 0) (x 9)) (fmul dt (fsub (fmul (x 3) c) (fmul (x 4) sn))),
   fadd (fadd (x 1) (x 11)) (fmul dt (fadd (fmul (x 3) sn) (fmul (x 4) c))), 0)

/-- Mean of points. -/
def meanV3 (l : List V3) : V3 := v3scale (fdiv (fofInt 1) (fofNat l.length)) (l.foldl v3add (0, 0, 0))
/-- Horizontal distance. -/
def hdist (a b : V3) : F64 :=
  let x := fsub a.1 b.1; let y := fsub a.2.1 b.2.1
  fsqrt (fadd (fmul x x) (fmul y y))

/-- A track takes its anchor; anchors are numbered in their order (R115). -/
def State.anchorAt (s : State) (k : Nat) (p : V3) : State :=
  let u := s.setTrack k { s.track k with anchor := some p, anchoredAt := s.heddle.anchorNo }
  { u with heddle := { u.heddle with anchorNo := s.heddle.anchorNo + 1 } }

/-- Anchoring of a confirmed track of a fixed-target session, and its loss (R114). -/
def State.anchorTrack (s : State) (k : Nat) (moving : Bool) : State :=
  let t := s.track k
  if moving ∨ t.moving then s else
  match t.anchor with
  | some a =>
    let loc := (t.hits.headD (a, true)).1
    let far := if flt (fofInt 1) (hdist loc a) then t.farRun + 1 else 0
    if 5 ≤ far then s.setTrack k { t with anchor := none, moving := true, farRun := 0 }
    else s.setTrack k { t with farRun := far }
  | none =>
    if t.st ≠ .confirmed ∨ t.hits.length < 5 then s else
    let pts := (t.hits.take 5).map Prod.fst
    let m := meanV3 pts
    let refl := match s.draft with
      | some d => d.heddle.reflectors.find? (fun p => fle (hdist p m) (fofInt 1))
      | none => none
    let tight := pts.all (fun p => fle (hdist p m) (fofRat 1 2)) && (t.hits.take 5).all Prod.snd
    match refl with
    | some p => s.anchorAt k p
    | none => if tight then s.anchorAt k m else s

/-- A hit on a track (R113, R114). Its location p_VRP + d is kept where the detection could be projected and the Observer has an
estimate, with whether the position group accepted a candidate and was not dead-reckoning in that beat. -/
def State.hitTrack (s : State) (k i : Nat) (rng brg : F64) (tid : Option F64) (d : Option V3) (tov : Nat)
    (moving : Bool) : State :=
  let t := s.track k
  let good := decide (1 ≤ (s.heddle.groups.getD 0 {}).acc) && !(s.heddle.groups.getD 0 {}).dr
  let loc : Option V3 := if s.obs.valid then d.map (fun dd => v3add (s.vrpAt tov) dd) else none
  let hits := match loc with
    | some p => (p, good) :: t.hits
    | none => t.hits
  let u : Track := { t with
    sess := i, range := rng, bearing := brg, targetId := tid.orElse (fun _ => t.targetId), d := d.getD t.d
    tov := if d.isSome then tov else t.tov, scans := (true :: t.scans).take 8, missRun := 0, lastHit := s.now, hits := hits.take 8 }
  let s1 := match t.st with
    | .tentative =>
      if 5 ≤ countP (fun b => b) u.scans then State.raise (s.setTrack k { u with st := .confirmed }) 0x0310000B#32 [byteOf k]
      else s.setTrack k u
    | .coasting => s.setTrack k { u with st := .confirmed }
    | .confirmed => s.setTrack k u
    | .free => s.setTrack k { u with st := .tentative }
  if loc.isSome then s1.anchorTrack k moving else s1

/-- The track nearest to a detection among those whose gates hold it (R112): squared distance in gate widths. -/
def State.bestTrack (s : State) (i : Nat) (p : Intake) (rng brg : F64) (tid : Option F64) (used : List Nat) : Option Nat :=
  let gr := fmax (fofRat 1 2) (fmul (fofInt 3) p.sigRho)
  let gb := fmax (fdeg2rad (fofInt 1)) (fmul (fofInt 3) p.sigBeta)
  let ok := (List.range 64).filterMap (fun k =>
    let t := s.track k
    let dr := fabs (fsub rng t.range)
    let db := angDist brg t.bearing
    let idOk : Bool := match tid, t.targetId with
      | some a, some b => feq a b
      | _, _ => true
    if t.st ≠ .free ∧ t.sess = i ∧ ¬ used.contains k ∧ fle dr gr ∧ fle db gb ∧ idOk then
      let a := fdiv dr gr; let b := fdiv db gb
      some (k, fadd (fmul a a) (fmul b b))
    else none)
  (ok.foldl (fun (b : Option (Nat × F64)) c => match b with
    | some x => if flt c.2 x.2 then some c else some x
    | none => some c) none).map Prod.fst

/-- A detection (R111, R112). DESIGN CHOICE (log entry 128): it is projected as it is decoded, with the rings and leaders of that
instant. -/
def State.detect (s : State) (i : Nat) (p : Intake) (r : InRec) : State :=
  let h0 := s.hed i
  let s0 := if h0.scanTov = some r.tov then s
    else
      let c := s.closeScan i
      c.setHed i { c.hed i with scanTov := some r.tov, scanCount := 0, scanHits := [] }
  let h := s0.hed i
  if 8 ≤ h.scanCount then s0.setHed i { h with decErr := sat16 h.decErr }
  else
    let rng := (slotOf r.slots 0x10).getD 0
    let brg := fwrap ((slotOf r.slots 0x11).getD 0)
    let el := (slotOf r.slots 0x12).getD 0
    let m := s0.mountOf p
    let u : V3 := (fmul rng (fmul (Config.fcos el) (Config.fcos brg)), fmul rng (fmul (Config.fcos el) (Config.fsin brg)), fneg (fmul rng (Config.fsin el)))
    let d := (s0.cnbAt r.tov).map (fun c => m3apply c (v3add (leverArm m) (m3apply (m3t (mountCsb m)) u)))
    let s1 := if d.isSome then s0 else { s0 with heddle := { s0.heddle with noAtt := sat32 s0.heddle.noAtt } }
    let own := countP (fun t => t.st != .free && t.sess == i) s1.heddle.tracks
    let pick := match s1.bestTrack i p rng brg r.targetId h.scanHits with
      | some k => some k
      | none => if 16 ≤ own then none
                else (List.range 64).find? (fun k => (s1.track k).st == .free)
    match pick with
    | some k =>
      let s2 := s1.hitTrack k i rng brg r.targetId d r.tov p.moving
      let h2 := s2.hed i
      s2.setHed i { h2 with scanCount := h2.scanCount + 1, scanHits := k :: h2.scanHits }
    | none => let h2 := s1.hed i; s1.setHed i { h2 with scanCount := h2.scanCount + 1 }

/-- TRACK_TIMEOUT (R113): 2.0 s since the last hit, seen t ns after the tick. -/
def execTrackTimeout (k : Nat) (t : Ns) (s : State) : Host.Outcome State Fault Refusal :=
  let s0 := s.at t
  let tr := s0.track k
  .next (if (tr.st = .confirmed ∨ tr.st = .coasting) ∧ tr.lastHit + 2000000000 ≤ s0.now then s0.deleteTrack k else s)

/-! ### decoding (R87 to R91) -/

/-- An accepted record takes its place: SEQ, partner clock, ToV, ring, latch list, tracks. -/
def State.acceptRecord (s : State) (i : Nat) (p : Intake) (arrival : Nat) (d : Decoded) : State :=
  let h := s.hed i
  let h1 : HedSess := { h with lastSeq := d.seqInt.orElse (fun _ => h.lastSeq), lastSeqF := d.seqFlt.orElse (fun _ => h.lastSeqF) }
  let h2 := match d.timed with
    | some t => h1.addOffset arrival ((arrival : Int) - (t : Int))
    | none => h1
  let byArrival := arrival - p.latencyUs * 1000
  let tov := match p.timing with
    | 2 => d.latch.getD byArrival
    | 1 => byArrival
    | _ => if h.switched then byArrival else d.timed.getD byArrival
  let s1 := (s.setHed i h2).judgeTiming i p
  if arrival + 1000000 < tov then
    let h3 := s1.hed i
    s1.setHed i { h3 with future := sat16 h3.future, lastSeq := h.lastSeq, lastSeqF := h.lastSeqF }
  else
    let r : InRec := {
      table := d.table, kind := d.kind, tov := tov, arrival := arrival, slots := d.slots, cls := d.cls
      targetId := slotOf d.slots 0x13, serial := s1.heddle.serial }
    let h3 := s1.hed i
    let ring := match ringEntry p (s1.mountOf p) d.kind tov d.slots with
      | some e => ringAdd h3.ring e
      | none => h3.ring
    let s2 := s1.setHed i { h3 with recent := r :: h3.recent, ring := ring }
    let s3 : State := { s2 with heddle := { s2.heddle with serial := s2.heddle.serial + 1 } }
    if d.kind = 6 ∧ d.cls ≠ 0 then s3.detect i p r else s3

/-- The telegram's own check value (R614): the body without it, or none when it is wrong. -/
def State.stripGlaze (s : State) (r : SessRec) (b : Body) : Option Body :=
  if r.glaze = 255 then some b else
  match s.glazeSet r.glaze with
  | none => some b
  | some g =>
    match b with
    | .binary p => if glazeTailOk g p then some (.binary (p.take (p.length - glazeBytes g))) else none
    | .can n p => if glazeTailOk g p then some (.can n (p.take (p.length - glazeBytes g))) else none
    | x => some x

/-- The bytes of a telegram that a session's Glaze set covers with their check value: binary payloads and CAN data (R614). -/
def glazeBody : Body → Option (List Byte)
  | .binary p => some p
  | .can _ p => some p
  | _ => none

/-- The records that a session's tables make of a telegram. -/
def State.recordsOf (s : State) (r : SessRec) (p : Intake) (t : Telegram) : List (Option Decoded × Bool) :=
  match s.draft with
  | none => []
  | some d =>
    (r.tables.filterMap (fun id => d.heddle.tables.find? (fun x => x.id == id && tableMatches x t.body))).map
      (fun x => tableRecord x p (s.hed t.sess) s.time.leap t)

/-- A PRIO module's data: its session was judged when the reply arrived (R602, R604). -/
def isPrio : Body → Bool
  | .prio _ _ => true
  | _ => false

/-- A decoded record, where decoding gave one, takes its place. -/
def State.acceptOne (s : State) (i : Nat) (p : Intake) (arrival : Nat) (d : Option Decoded) : State :=
  match d with
  | some d => s.acceptRecord i p arrival d
  | none => s

/-- The records of a telegram take their places, those that decoding gave. -/
def State.acceptAll (s : State) (p : Intake) (t : Telegram) (l : List (Option Decoded × Bool)) : State :=
  l.foldl (fun a x => a.acceptOne t.sess p t.arrival x.1) s

/-- The records of a telegram whose check value is right: it is valid when all decode; else the good ones are taken and it is
rejected (R87 to R91). -/
def State.decodeBytes (s : State) (r : SessRec) (p : Intake) (t : Telegram) (b : Body) : State :=
  let recs := s.recordsOf r p { t with body := b }
  let bad := recs.filter (fun x => x.1.isNone)
  if bad.isEmpty then
    let (s1, ok) := s.charge t.sess
    if ok then (s1.sessValid t.sess t.arrival).acceptAll p t recs else s1
  else
    let h := s.hed t.sess
    let s1 := s.setHed t.sess { h with decErr := satAdd 0xFFFF h.decErr bad.length }
    (s1.acceptAll p t recs).sessReject t.sess t.arrival (bad.all Prod.snd)

/-- A telegram of a session (R87, R582, R583). -/
def State.decode (s : State) (t : Telegram) : State :=
  match s.sessRec t.sess with
  | none => s
  | some r =>
    if !s.sessTakes t.sess then s else
    let s := match glazeBody t.body with
      | some b => s.glazeRx r b
      | none => s
    let p := (s.intake t.sess).getD { sess := t.sess }
    if isPrio t.body then
      let recs := s.recordsOf r p t
      let h := s.hed t.sess
      (s.setHed t.sess { h with decErr := satAdd 0xFFFF h.decErr (countP (fun (x : Option Decoded × Bool) => x.1.isNone) recs) }).acceptAll
        p t recs
    else
    match s.stripGlaze r t.body with
    | none =>
      let h := s.hed t.sess
      ((s.setHed t.sess { h with decErr := sat16 h.decErr }).glazeFail).sessReject t.sess t.arrival false
    | some b => s.decodeBytes r p t b

/-- TELEGRAM_DECODE (R87): the telegram at the front of the Heddle's inbox. -/
def execTelegramDecode (s : State) : Host.Outcome State Fault Refusal :=
  match s.heddle.inbox with
  | [] => .next s
  | t :: rest => .next (State.decode (State.atDtime { s with heddle := { s.heddle with inbox := rest } } t.arrival) t)

/-! ### INTAKE (R55, R91) -/

/-- The relative position of a fixed-target session: the mean over at most 8 anchored, confirmed tracks of
(anchor − d), oldest anchoring first (R115); with the newest ToV among them. -/
def State.relativeValue (s : State) (i : Nat) : Option (V3 × Nat) :=
  let l := s.heddle.tracks.filter (fun t => t.st == .confirmed && t.sess == i && t.anchor.isSome)
  let sorted := (sortBy (fun a b => decide (a.anchoredAt ≤ b.anchoredAt)) l).take 8
  if sorted.isEmpty then none
  else some (meanV3 (sorted.map (fun t => v3sub (t.anchor.getD (0, 0, 0)) t.d)), sorted.foldl (fun m t => max m t.tov) 0)

/-- The newest record of each table whose arrival is earlier than the cutoff is latched; older ones are superseded. -/
def HedSess.latch (h : HedSess) (cutoff : Nat) : HedSess :=
  let early := h.recent.filter (fun r => decide (r.arrival < cutoff))
  let late := h.recent.filter (fun r => decide (cutoff ≤ r.arrival))
  let newest := early.foldl (fun (l : List InRec) r => if l.any (fun x => x.table == r.table) then l else l ++ [r]) []
  let kept := h.latched.filter (fun r => !newest.any (fun x => x.table == r.table))
  { h with recent := late, latched := kept ++ newest, fresh := newest.map InRec.serial }

/-- A stage of the current beat ends: its holder releases the bank (R59). -/
def State.stageDone (s : State) (h : Holder) (st : Stage) : State :=
  { s with warp := { s.warp with last := s.warp.last.map (fun b => b.release h), stage := st } }

/-- The edge of the beat in progress. -/
def State.beatEdge (s : State) : Nat :=
  match s.warp.last with
  | some b => b.edge
  | none => 0

/-- INTAKE (R55). -/
def execIntake (s : State) : Host.Outcome State Fault Refusal :=
  .next (if s.warp.run && s.warp.stage == .edge then
    State.stageDone { s with heddle := { s.heddle with
        sess := s.heddle.sess.map (fun p => (p.1, { p.2.latch (s.beatEdge + 280000) with rel := s.relativeValue p.1 })) } } .intake .intake
  else s)

/-! ### windows and registers (R119 to R125) -/

def HedSess.timeWord (h : HedSess) (p : Option Intake) : Word :=
  let timing := match p with
    | some x => x.timing
    | none => 0
  let mode := if timing = 2 then 3 else if timing = 1 then 1 else if h.switched then 2 else 0
  word (mode + fbit 2 h.fullWin + fbit 3 h.suspect + fbit 4 h.own.desel + fbit 5 h.heave.desel
    + fld 16 16 (min 65535 (wander h.offsets / 1000)))

/-- A write to HEDDLE_SESSEL takes the snapshot of its session (R120). DESIGN CHOICE (log entry 129): an offset or a drift outside
signed 32 bits shows its low 32 bits, and WANDER is rounded down. -/
def State.writeSesSel (s : State) (v : Word) : State :=
  let i := v.toNat % 512
  let h := s.hed i
  let f := lineFit h.offsets
  { s with heddle := { s.heddle with
      sesSel := word i, winTime := h.timeWord (s.intake i), winOfs := sword f.1, winDrift := sword f.2
      winCnt := word (fld 0 16 h.old + fld 16 16 h.future), winErr := word (fld 0 16 h.decErr + fld 16 16 h.gateRej) } }

def execHeddleSesselWrite (v : Word) (s : State) : Host.Outcome State Fault Refusal := .next (s.writeSesSel v)

def trkCode : TrkState → Nat
  | .free => 0 | .tentative => 1 | .confirmed => 2 | .coasting => 3

/-- A write to HEDDLE_TRKSEL takes the snapshot of its track (R120, R124). -/
def State.writeTrkSel (s : State) (v : Word) : State :=
  let k := v.toNat % 64
  let t := s.track k
  { s with heddle := { s.heddle with
      trkSel := word k
      trkStat := word (trkCode t.st + fbit 2 t.anchor.isSome + fbit 3 t.moving + fld 4 4 (countP (fun b => b) t.scans)
        + fld 8 8 t.missRun + fld 16 9 t.sess)
      trkRng := sword (frintClamp (fmul t.range (fofInt 1000)) 0 4294967295)
      trkBrg := radToBam t.bearing } }

def execHeddleTrkselWrite (v : Word) (s : State) : Host.Outcome State Fault Refusal := .next (s.writeTrkSel v)

/-- A group's status register as a started beat leaves it (R123). -/
def Group.word (g : Group) : Word :=
  Machine.word (fld 0 4 g.cand + fld 4 4 g.acc + fbit 8 g.contra + fbit 9 g.dr + fbit 10 g.opSel.isSome
    + fld 16 9 (g.opSel.getD 0))

/-- The value of a HEDDLE register (R119). -/
def State.heddleReg (s : State) (off : Nat) : Word :=
  let h := s.heddle
  match off with
  | 0x00 => h.statReg
  | 0x04 => match h.oldest with
      | some n => word (min 0xFFFFFFFF n)
      | none => 0xFFFFFFFF#32
  | 0x08 => h.sesSel
  | 0x0C => h.winTime
  | 0x10 => h.winOfs
  | 0x14 => h.winDrift
  | 0x18 => h.winCnt
  | 0x1C => h.winErr
  | 0x20 => h.grpRegs.getD 0 0
  | 0x24 => h.grpRegs.getD 1 0
  | 0x28 => h.grpRegs.getD 2 0
  | 0x2C => h.grpRegs.getD 3 0
  | 0x30 => h.grpRegs.getD 4 0
  | 0x34 => word h.noAtt
  | 0x40 => h.trkSel
  | 0x44 => h.trkStat
  | 0x48 => h.trkRng
  | 0x4C => h.trkBrg
  | _ => 0

/-- SESSION_STALE, SESSION_LOST and SESSION_UNBAR (R582) of session i, t ns after the tick. -/
def execSessionStale (i : Nat) (t : Ns) (s : State) : Host.Outcome State Fault Refusal := .next ((s.at t).sessStale i)
def execSessionLost (i : Nat) (t : Ns) (s : State) : Host.Outcome State Fault Refusal := .next ((s.at t).sessLost i)
def execSessionUnbar (i : Nat) (t : Ns) (s : State) : Host.Outcome State Fault Refusal := .next ((s.at t).sessUnbar i)

end Sys2Proof.Machine
end

