-- ==== Sys2Proof/Machine/Vote.lean ====
section
/-! DEFINITION. PROJECT and VOTE: candidates, gates, the vote of each group, contradictions, deselection, operator
selections and what is handed to OBSERVE (R92, R98 to R110, R115, R134). Groups are numbered 0 position, 1 heading,
2 attitude, 3 heave, 4 wind. -/

namespace Sys2Proof.Machine

/-- A candidate: its session, projected and aligned values, standard deviation, freshness (R102, R103). -/
structure Cand where
  sess : Nat
  /-- Projected value, not aligned. -/
  raw : V3
  /-- Aligned to T_k. -/
  v : V3
  sigma : F64
  fresh : Bool
  tov : Nat
  rates : Option V3 := none

/-- The record kinds of each group that a record of a session may have (R117). -/
def groupKinds : Nat → List Nat
  | 0 => [1, 2] | 1 => [3] | 2 => [4] | 3 => [5] | _ => [7]

/-- Candidates at most (R101). -/
def groupMax (g : Nat) : Nat := if g = 4 then 4 else 8

/-- Key of a stored projection: a table's records, or the heave of an attitude record. -/
def projKey (heave : Bool) (r : InRec) : Nat := if heave then r.table + 65536 else r.table

def projFind (l : List (Nat × Nat × Option V3)) (key serial : Nat) : Option (Option V3) :=
  (l.find? (fun p => p.1 == key && p.2.1 == serial)).map (fun p => p.2.2)

/-- One latched record projected, once; a value without attitude is counted (R98). -/
def State.projectOne (s : State) (p : Intake) (heave : Bool) (r : InRec) : State :=
  let h := s.hed p.sess
  let key := projKey heave r
  if (projFind h.proj key r.serial).isSome then s
  else
    let v := if heave then s.projectHeave p r else s.project p r
    let s1 := s.setHed p.sess { h with proj := (key, r.serial, v) :: h.proj.filter (fun x => x.1 != key) }
    if v.isNone && !heave then { s1 with heddle := { s1.heddle with noAtt := sat32 s1.heddle.noAtt } } else s1

/-- Every latched record of a session in a group is projected; a value past its maximum age is counted once (R91). -/
def State.projectSession (s : State) (p : Intake) : State :=
  let todo := (s.hed p.sess).latched.filter (fun r => p.group != 0 && (groupKinds (p.group - 1)).contains r.kind)
  let s1 := todo.foldl (fun a r => a.projectOne p false r) s
  let s2 := if p.group = 3 then
      (todo.filter (fun r => (slotOf r.slots 0x0B).isSome)).foldl (fun a r => a.projectOne p true r) s1
    else s1
  let h := s2.hed p.sess
  let late (r : InRec) : Bool := !r.oldCounted && decide (r.tov + p.maxAgeMs * 1000000 < s2.beatEdge)
  let n := countP late h.latched
  s2.setHed p.sess { h with
    old := satAdd 0xFFFF h.old n
    latched := h.latched.map (fun r => if late r then { r with oldCounted := true } else r) }

/-- σ_i of a record (R103). -/
def State.sigmaOf (s : State) (p : Intake) (heave : Bool) (g : Nat) (r : InRec) : F64 :=
  let slot := match g with
    | 0 => slotOf r.slots 0x18
    | 1 => slotOf r.slots 0x1A
    | 2 => slotOf r.slots 0x1A
    | 3 => slotOf r.slots 0x19
    | _ => none
  let base := match slot with
    | some x => if flt 0 x then x else if heave then p.heaveSigma else p.sigma
    | none => if heave then p.heaveSigma else p.sigma
  let m := fmul base (p.mult.getD (r.cls - 1) (fofInt 1))
  if (s.hed p.sess).switched then fmul m (fsqrt p.arrFactor) else m

/-- The prediction for the present edge, advanced across dropped beats by whole beats (R58, R102, R139). -/
def State.predNow (s : State) : Option Prediction :=
  s.obs.pred.map (fun p =>
    let ms := s.warp.elapsedMs
    if ms ≤ s.n then p
    else
      let dt := fdiv (fofNat (ms - s.n)) (fofNat 1000)
      let f := fdiv (fofNat ms) (fofNat s.n)
      { p with
        north := fadd p.north (fmul p.vn dt), east := fadd p.east (fmul p.ve dt), psi := fadd p.psi (fmul p.r dt)
        sigPos := fmul p.sigPos f, sigHdg := fmul p.sigHdg f })

/-- A candidate's value moved to T_k by the prediction's velocities (R102). -/
def alignValue (pred : Option Prediction) (g : Nat) (age : Int) (v : V3) : V3 :=
  match pred with
  | none => v
  | some p =>
    let dt := fdiv (fofInt age) (fofInt 1000000000)
    match g with
    | 0 => (fadd v.1 (fmul p.vn dt), fadd v.2.1 (fmul p.ve dt), v.2.2)
    | 1 => (fadd v.1 (fmul p.r dt), v.2.1, v.2.2)
    | _ => v

/-- GNSS results are withdrawn from VOTE while CLK_GNSS is failed (R35). -/
def State.withdrawn (s : State) (i : Nat) : Bool :=
  s.sys.clkFail.getLsbD 3 && (match s.sessRec i with
    | some r => r.kind == 6
    | none => false)

/-- The record that arrived last. -/
def newestOf (l : List InRec) : Option InRec :=
  l.foldl (fun (b : Option InRec) r => match b with
    | some x => if x.arrival < r.arrival then some r else some x
    | none => some r) none

/-- The candidate of a session in a group, if it has one (R102). -/
def State.candidate (s : State) (pred : Option Prediction) (g : Nat) (p : Intake) : Option Cand :=
  let heave := g == 3 && p.group == 3
  let h := s.hed p.sess
  let edge := s.beatEdge
  let rec' := newestOf (h.latched.filter (fun r =>
    if heave then r.kind == 4 && (slotOf r.slots 0x0B).isSome else (groupKinds g).contains r.kind))
  if s.withdrawn p.sess then none else
  match rec' with
  | some r =>
    match projFind h.proj (projKey heave r) r.serial with
    | some (some v) =>
      if r.cls = 0 ∨ r.tov + p.maxAgeMs * 1000000 < edge then none
      else some {
        sess := p.sess, raw := v, v := alignValue pred g ((edge : Int) - (r.tov : Int)) v
        sigma := s.sigmaOf p heave g r, fresh := h.fresh.contains r.serial, tov := r.tov
        rates := if g = 2 then bodyRates (s.mountOf p) r.slots else none }
    | _ => none
  | none =>
    if g = 0 ∧ ¬ p.moving then
      match h.rel with
      | some (v, tov) =>
        if tov + p.maxAgeMs * 1000000 < edge then none
        else some {
          sess := p.sess, raw := v, v := alignValue pred 0 ((edge : Int) - (tov : Int)) v
          sigma := if h.switched then fmul p.sigma (fsqrt p.arrFactor) else p.sigma
          fresh := decide (h.relTov < tov), tov := tov }
      | none => none
    else none

/-- The sessions of a group: those placed in it and, for heave, the attitude sessions that feed it (R102). -/
def State.groupSessions (s : State) (g : Nat) : List Intake :=
  match s.draft with
  | none => []
  | some d =>
    sortBy (fun a b => decide (a.sess ≤ b.sess))
      (d.heddle.intake.filter (fun p => p.group == g + 1 || (g == 3 && feedsHeave d p)))

/-- The candidates of a group: those with the smallest σ when more qualify than the limit (R102). -/
def State.candidates (s : State) (pred : Option Prediction) (g : Nat) : List Cand :=
  let all := (s.groupSessions g).filterMap (s.candidate pred g)
  let sorted := sortBy (fun a b => flt a.sigma b.sigma || (feq a.sigma b.sigma && decide (a.sess ≤ b.sess))) all
  sortBy (fun a b => decide (a.sess ≤ b.sess)) (sorted.take (groupMax g))

/-- Distance of two values in a group (R101). -/
def groupDist (g : Nat) (a b : V3) : F64 :=
  match g with
  | 0 => hdist a b
  | 1 => angDist a.1 b.1
  | 2 => fmax (angDist a.1 b.1) (angDist a.2.1 b.2.1)
  | 3 => fabs (fsub a.1 b.1)
  | _ => hdist a b

/-- G_min + K·√(σ_i² + σ_j²) (R103). -/
def gateOf (gp : GroupParam) (si sj : F64) : F64 :=
  fadd gp.gmin (fmul gp.k (fsqrt (fadd (fmul si si) (fmul sj sj))))

def weightOf (c : Cand) : F64 := fdiv (fofInt 1) (fmul c.sigma c.sigma)

def pairOk (g : Nat) (gp : GroupParam) (a b : Cand) : Bool := fle (groupDist g a.v b.v) (gateOf gp a.sigma b.sigma)

/-- A candidate agrees with the prediction (R103); position and heading alone have one. -/
def agrees (pred : Option Prediction) (g : Nat) (gp : GroupParam) (c : Cand) : Bool :=
  match pred with
  | none => false
  | some p =>
    match g with
    | 0 => fle (hdist c.v (p.north, p.east, 0)) (gateOf gp c.sigma p.sigPos)
    | 1 => fle (angDist c.v.1 p.psi) (gateOf gp c.sigma p.sigHdg)
    | _ => false

def hasPred (pred : Option Prediction) (g : Nat) : Bool := pred.isSome && decide (g ≤ 1)

/-- Least sum of weighted distances; ties: smaller sigma, then lower session index (R104). -/
def medianOf (g : Nat) (l : List Cand) : Option Cand :=
  let cost (c : Cand) : F64 := fsum (l.map (fun x => fmul (weightOf x) (groupDist g c.v x.v)))
  l.foldl (fun (b : Option Cand) c => match b with
    | none => some c
    | some x =>
      if flt (cost c) (cost x) then some c
      else if feq (cost c) (cost x) && (flt c.sigma x.sigma || (feq c.sigma x.sigma && decide (c.sess < x.sess))) then some c
      else some x) none

/-- What the vote of R104 comes to. -/
inductive Verdict where
  /-- Accepted without contradiction. -/
  | accept (l : List Nat)
  /-- resolve was reached: the sessions that agree with the prediction. -/
  | resolve (agree : List Nat)
  /-- Dead reckoning: 1 no candidate, 2 a lone candidate outside its gate. -/
  | dead (kind : Nat)
  deriving DecidableEq, Repr

/-- The vote of a group (R104, R105). -/
def voteOf (pred : Option Prediction) (g : Nat) (gp : GroupParam) (l : List Cand) : Verdict :=
  let agree := (l.filter (agrees pred g gp)).map Cand.sess
  match l with
  | [] => .dead 1
  | [a] => if !hasPred pred g || agrees pred g gp a then .accept [a.sess] else .dead 2
  | [a, b] => if pairOk g gp a b then .accept [a.sess, b.sess] else .resolve agree
  | _ =>
    match medianOf g l with
    | none => .dead 1
    | some m =>
      let acc := (l.filter (fun c => pairOk g gp c m)).map Cand.sess
      if acc = [m.sess] then .resolve agree else .accept acc

/-- Event of a contradiction's outcome (R105, R108). -/
def contraEvent : Nat → Word
  | 1 => 0x03220001#32 | 2 => 0x03320002#32 | _ => 0x0322000D#32

def drEvent (k : Nat) : Word := if k = 1 then 0x03320009#32 else 0x0332000A#32

def State.group (s : State) (g : Nat) : Group := s.heddle.groups.getD g {}
def State.setGroup (s : State) (g : Nat) (x : Group) : State :=
  { s with heddle := { s.heddle with groups := s.heddle.groups.set g x } }

/-- SUSPECT marks of a group's sessions are set or cleared. -/
def State.markSuspect (s : State) (ids : List Nat) (v : Bool) : State :=
  ids.foldl (fun a i => a.setHed i { a.hed i with suspect := v }) s

/-- The end of a contradiction (R106). -/
def State.endContra (s : State) (g : Nat) : State :=
  let x := s.group g
  let s1 := (s.markSuspect ((s.groupSessions g).map Intake.sess) false).setGroup g
    { x with contra := false, contraKind := 0, cleanRun := 0, opSel := none }
  let s2 := if x.opSel.isSome then s1.raise 0x0302000E#32 [byteOf g] else s1
  s2.raise 0x03020003#32 [byteOf g]

/-- The Draft's parameters of a group. -/
def State.groupParam (s : State) (g : Nat) : GroupParam :=
  match s.draft with
  | some d => d.heddle.groups.getD g { gmin := 0 }
  | none => { gmin := 0 }

/-- The deselection run of a session in a group: the heave run of an attitude session that feeds heave (R110). -/
def deselOf (p : Intake) (g : Nat) (h : HedSess) : DeselRun := if g = 3 ∧ p.group = 3 then h.heave else h.own
def setDesel (p : Intake) (g : Nat) (h : HedSess) (d : DeselRun) : HedSess :=
  if g = 3 ∧ p.group = 3 then { h with heave := d } else { h with own := d }

/-- A fresh value judged: runs, deselection and reselection (R110). -/
def State.judgeFresh (s : State) (g : Nat) (p : Intake) (ok : Bool) : State :=
  let h := s.hed p.sess
  let d := deselOf p g h
  if ok then
    let good := d.good + 1
    let d' : DeselRun := if d.desel && decide (10 ≤ good) then {} else { d with bad := 0, good := if d.desel then good else 0 }
    s.setHed p.sess (setDesel p g h d')
  else
    let bad := d.bad + 1
    let h1 : HedSess := { h with gateRej := sat16 h.gateRej }
    if 5 ≤ bad ∧ ¬ d.desel then
      State.raise (s.setHed p.sess (setDesel p g h1 { bad := bad, good := 0, desel := true })) 0x03220007#32
        (be16 p.sess ++ [byteOf g])
    else s.setHed p.sess (setDesel p g h1 { d with bad := bad, good := 0 })

/-- Inverse-variance weighted mean of plain values. -/
def wmean (l : List (F64 × F64)) : F64 := fdiv (fsum (l.map (fun p => fmul p.1 p.2))) (fsum (l.map Prod.fst))
/-- Inverse-variance weighted mean of angles on the circle. -/
def wcirc (l : List (F64 × F64)) : F64 :=
  Config.fatan2 (fsum (l.map (fun p => fmul p.1 (Config.fsin p.2)))) (fsum (l.map (fun p => fmul p.1 (Config.fcos p.2))))

/-- What one group contributes to the beat: its accepted candidates. -/
structure GroupOut where
  s : State
  accepted : List Cand

/-- Operator selection at this beat: a new one takes its place, one whose session has no candidate ends (R107). -/
def State.opSelect (s : State) (g : Nat) (cands : List Cand) : State :=
  let x := s.group g
  let s1 := match x.opNew with
    | some i =>
      let a := if x.opSel.isSome then s.raise 0x0302000E#32 [byteOf g] else s
      (a.setGroup g { a.group g with opSel := some i, opNew := none }).raise 0x0302000E#32 [byteOf g]
    | none => s
  match (s1.group g).opSel with
  | some i =>
    if cands.any (fun c => c.sess == i) then s1
    else (s1.setGroup g { s1.group g with opSel := none }).raise 0x0302000E#32 [byteOf g]
  | none => s1

/-- One group's vote in a started beat. DESIGN CHOICE (log entry 130): while exactly one candidate agrees, a change of which one it is
is no change of the outcome and raises no new event. -/
def State.voteGroup (s : State) (pred : Option Prediction) (g : Nat) : GroupOut :=
  let gp := s.groupParam g
  let sessions := s.groupSessions g
  let cands := s.candidates pred g
  let v := voteOf pred g gp cands
  let before := s.group g
  let s1 := s.opSelect g cands
  -- contradiction and dead reckoning
  let s2 := match v with
    | .resolve agree =>
      let kind := if g = 4 then 3 else if agree.length = 1 then 1 else 2
      let x := s1.group g
      let a := (s1.markSuspect (cands.map Cand.sess) true).setGroup g
        { x with contra := true, contraKind := kind, cleanRun := 0, drKind := 0 }
      if before.contra && before.contraKind == kind then a else a.raise (contraEvent kind) [byteOf g]
    | .dead k =>
      let x := s1.group g
      let a := s1.setGroup g { x with cleanRun := 0, drKind := k }
      if before.drKind = k then a else a.raise (drEvent k) [byteOf g]
    | .accept _ =>
      let x := s1.group g
      let run := x.cleanRun + 1
      let joined := decide (3 ≤ cands.length) && decide (before.cands.length < 3)
      let a := s1.setGroup g { x with cleanRun := run, drKind := 0 }
      if x.contra && (decide (5 ≤ run) || joined) then a.endContra g else a
  let wouldAccept := match v with
    | .accept l => l
    | .resolve agree => if g ≠ 4 ∧ agree.length = 1 then agree else []
    | .dead _ => []
  -- fresh values judged
  let s3 := cands.foldl (fun a c => if c.fresh then
      (match sessions.find? (fun p => p.sess == c.sess) with
       | some p => a.judgeFresh g p (wouldAccept.contains c.sess)
       | none => a) else a) s2
  let desel (c : Cand) : Bool := match sessions.find? (fun p => p.sess == c.sess) with
    | some p => (deselOf p g (s3.hed c.sess)).desel
    | none => false
  let accepted := match (s3.group g).opSel with
    | some i => cands.filter (fun c => c.sess == i)
    | none => cands.filter (fun c => wouldAccept.contains c.sess && !desel c)
  -- minimum of selected sessions
  let selected := countP (fun p => !(deselOf p g (s3.hed p.sess)).desel) sessions
  let below := decide (selected < gp.minSel)
  let x3 := s3.group g
  let s4 := s3.setGroup g { x3 with
    cand := cands.length, acc := accepted.length, dr := accepted.isEmpty, cands := cands.map Cand.sess
    accepted := accepted.map Cand.sess, belowMin := below }
  let s5 := if below && !before.belowMin then s4.raise 0x03220008#32 [byteOf g] else s4
  { s := s5, accepted := accepted }

/-- The leader of a group: the largest weight among the accepted, then the lower session index (R98). -/
def leaderOf (l : List Cand) : Option Nat :=
  (l.foldl (fun (b : Option Cand) c => match b with
    | none => some c
    | some x => if flt (weightOf x) (weightOf c) || (feq (weightOf x) (weightOf c) && decide (c.sess < x.sess)) then some c else some x)
    none).map Cand.sess

/-- Measurements for OBSERVE from the fresh accepted values (R109, R133). -/
def measOf (kind : Nat) (l : List Cand) : List Meas :=
  (l.filter Cand.fresh).map (fun c => { kind := kind, sess := c.sess, tov := c.tov, v1 := c.raw.1, v2 := c.raw.2.1, sigma := c.sigma })

def agesOf (edge : Nat) (l : List Cand) : List Nat := l.map (fun c => edge - c.tov)

/-- PROJECT and VOTE (R98 to R110, R134). -/
def State.projectAndVote (s : State) : State :=
  let all : List Intake := match s.draft with
    | some d => sortBy (fun (a b : Intake) => decide (a.sess ≤ b.sess)) (intakesOf d)
    | none => []
  let s0 : State := all.foldl (fun (a : State) (p : Intake) => a.projectSession p) s
  let pred := s0.predNow
  let pos := s0.voteGroup pred 0
  let hdg := pos.s.voteGroup pred 1
  let att := hdg.s.voteGroup pred 2
  let hve := att.s.voteGroup pred 3
  let wnd := hve.s.voteGroup pred 4
  let edge := s.beatEdge
  let ages := agesOf edge pos.accepted ++ agesOf edge hdg.accepted ++ agesOf edge att.accepted ++ agesOf edge hve.accepted
    ++ agesOf edge wnd.accepted
  let fresh := countP Cand.fresh pos.accepted + countP Cand.fresh hdg.accepted + countP Cand.fresh att.accepted
    + countP Cand.fresh hve.accepted + countP Cand.fresh wnd.accepted
  let w (c : Cand) (x : F64) : F64 × F64 := (weightOf c, x)
  let s1 := wnd.s
  let sess := s1.heddle.sess.map (fun (p : Nat × HedSess) => (p.1, { p.2 with
    fresh := []
    relTov := match p.2.rel with
      | some r => max r.2 p.2.relTov
      | none => p.2.relTov }))
  State.stageDone { s1 with heddle := { s1.heddle with
      sess := sess
      attLead := leaderOf att.accepted, hdgLead := leaderOf hdg.accepted
      meas := measOf 0 pos.accepted ++ measOf 1 hdg.accepted
      attOut := if att.accepted.isEmpty then none else
        some (wcirc (att.accepted.map (fun c => w c c.v.1)), wcirc (att.accepted.map (fun c => w c c.v.2.1)))
      attRates := (att.accepted.filter Cand.fresh).filterMap (fun (c : Cand) => c.rates.map (fun r => (c.sess, r)))
      heaveOut := if hve.accepted.isEmpty then none else some (wmean (hve.accepted.map (fun c => w c c.v.1)))
      windOut := if wnd.accepted.isEmpty then none else
        some (wmean (wnd.accepted.map (fun c => w c c.v.1)), wmean (wnd.accepted.map (fun c => w c c.v.2.1)))
      down := (pos.accepted.map (fun (c : Cand) => c.raw.2.2)).head?
      nfresh := min 255 fresh
      statReg := word (fbit 0 (leaderOf att.accepted).isSome + fbit 1 (leaderOf hdg.accepted).isSome + fld 8 8 (min 255 fresh))
      grpRegs := s1.heddle.groups.map Group.word
      oldest := if ages.isEmpty then none else some (ages.foldl max 0 / 1000) } } .vote .voted

/-- PROJECT_AND_VOTE (R104). -/
def execProjectAndVote (s : State) : Host.Outcome State Fault Refusal :=
  .next (if s.warp.run && s.warp.stage == .intake then s.projectAndVote else s)

end Sys2Proof.Machine
end

