-- ==== Sys2Proof/Machine/Observer.lean ====
section
/-! DEFINITION. OBSERVE: measurement updates, delayed updates, the numeric guard, initialisation, dead reckoning, the
output record and the prediction; warm-restart records, wave frequency and the OBS registers (R128 to R153). -/

namespace Sys2Proof.Machine

/-- A signed value in thousandths, rounded, limited to 32 bits (R11). -/
def milli (x : F64) : Word := sword (frintClamp (fmul x (fofNat 1000)) (-2147483648) 2147483647)
/-- binary32 in memory, little-endian (R12). -/
def leF32 (x : F64) : List Byte := le32 (f64to32 x).toNat
def leMilli (x : F64) : List Byte := le32 (milli x).toNat
def leBam (x : F64) : List Byte := le32 (radToBam x).toNat

/-- The north and east velocity of a state. -/
def xVel (x : List F64) : F64 × F64 :=
  let c := Config.fcos (xget x 2); let s := Config.fsin (xget x 2)
  (fsub (fmul (xget x 3) c) (fmul (xget x 4) s), fadd (fmul (xget x 3) s) (fmul (xget x 4) c))

/-- The three scalar quantities: north, east, heading (R133). -/
def scalarsOf (m : Meas) : List ObsScalar :=
  let var := fmul m.sigma m.sigma
  if m.kind = 0 then
    [{ i := 0, j := 9, y := m.v1, var := var, angle := false }, { i := 1, j := 11, y := m.v2, var := var, angle := false }]
  else [{ i := 2, j := 13, y := m.v1, var := var, angle := true }]

/-- Ascending ToV; at equal ToV heading before position, then the lower session index (R135). -/
def measLe (a b : Meas) : Bool :=
  decide (a.tov < b.tov) || (a.tov == b.tov &&
    (decide (b.kind < a.kind) || (a.kind == b.kind && decide (a.sess ≤ b.sess))))

/-- The events of the first innovation after dead reckoning (R144): its length in mm, or its angle as BAM32. -/
def State.reacquire (s : State) (d : DraftObs) (m : Meas) (x : List F64) : State :=
  let e := (scalarsOf m).map (fun c => c.innov x)
  if m.kind = 0 then
    if s.obs.reacqPos then
      let len := fsqrt (fsum (e.map (fun v => fmul v v)))
      let s1 : State := { s with obs := { s.obs with reacqPos := false } }
      if flt d.posWarn len then s1.raise 0x0428000A#32 (be32 (milli len).toNat) else s1
    else s
  else if s.obs.reacqHdg then
    let len := fabs (fsum e)
    let s1 : State := { s with obs := { s.obs with reacqHdg := false } }
    if flt d.hdgWarn len then s1.raise 0x0428000A#32 (be32 (radToBam len).toNat) else s1
  else s

/-- OBSERVE while it runs: the time reached, state and covariance, the module, updates applied, of which delayed. -/
structure ObsRun where
  t : Nat
  y : ObsXP
  s : State
  upd : Nat
  dly : Nat

/-- Part 1: one value at its ToV, at most T_k (R135). -/
def obsPart1 (md : ObsModel) (d : DraftObs) (wind : V3) (tk : Nat) (r : ObsRun) (m : Meas) : ObsRun :=
  let t := max r.t (min m.tov tk)
  let y := obsPropagate md r.s.obs.tauLog wind r.t t r.y
  let l := scalarsOf m
  { t := t, y := l.foldl (fun a c => obsUpdate c a) y, s := r.s.reacquire d m y.x, upd := r.upd + l.length, dly := r.dly }

/-- The newest history entry at or before t with the newer ones after it, oldest of those first (R136). The history is
newest first. -/
def histAt (t : Nat) : List ObsHist → List ObsHist → Option (ObsHist × List ObsHist)
  | [], _ => none
  | e :: l, newer => if e.edge ≤ t then some (e, newer) else histAt t l (e :: newer)

/-- Part 2: one delayed value (R136, R137). -/
def obsPart2 (md : ObsModel) (d : DraftObs) (tk : Nat) (r : ObsRun) (m : Meas) : ObsRun :=
  match histAt m.tov r.s.obs.hist [] with
  | none =>
    let s1 : State := { r.s with obs := { r.s.obs with lateCnt := sat32 r.s.obs.lateCnt } }
    { r with s := s1.raiseLimited (0x0411000D * 1024 + m.sess) 60000000 0x0411000D#32 (be16 m.sess) }
  | some (e, newer) =>
    let mde : ObsModel := { md with omega := e.omega }
    let y := obsPropagate mde r.s.obs.tauLog e.wind e.edge m.tov { x := e.x, p := e.p, phi := matId 18 }
    let next := match newer with
      | n :: _ => n.edge
      | [] => tk
    let z := obsPropagate mde r.s.obs.tauLog e.wind m.tov next { y with phi := matId 18 }
    let phi := newer.foldl (fun a n => matMul 18 n.phi a) z.phi
    let l := scalarsOf m
    let apply (a : ObsXP) (c : ObsScalar) : ObsXP :=
      let sv := c.s y.p
      obsGain ((matVec phi (c.ph y.p)).map (fun v => fdiv v sv)) (c.innov y.x) sv a
    { r with
      y := l.foldl apply r.y
      s := r.s.reacquire d m y.x
      upd := r.upd + l.length
      dly := r.dly + l.length }

/-- P symmetrised, with its diagonal not below 10⁻¹² (R138). -/
def obsSym (p : Mat) : Mat :=
  let eps := fdiv (fofNat 1) (fofNat 1000000000000)
  matOf 18 (fun i j =>
    let v := fmul (fadd (matGet p i j) (matGet p j i)) (fofRat 1 2)
    if i = j ∧ flt v eps then eps else v)

def allFinite (x : List F64) (p : Mat) : Bool := x.all ffinite && p.all (fun r => r.all ffinite)

/-- P at initialisation (R140). -/
def obsP0 (d : DraftObs) : Mat := matOf 18 (fun i j => if i = j then let v := d.sd0.getD i 0; fmul v v else 0)

/-- The previous output moved on by its velocity and yaw rate over ns (R138). -/
def advanceOut (x : List F64) (ns : Nat) : List F64 :=
  let dt := nsToS ns
  let v := xVel x
  ((x.set 0 (fadd (xget x 0) (fmul v.1 dt))).set 1 (fadd (xget x 1) (fmul v.2 dt))).set 2
    (fadd (xget x 2) (fmul (xget x 5) dt))

/-- The guard's reset of the state (R138 item 2). -/
def guardReset (x out : List F64) (tau : V3) : List F64 :=
  (List.range 18).map (fun i =>
    if i < 3 then xget out i
    else if i < 9 then (if ffinite (xget x i) then xget x i else 0)
    else if i < 15 then 0
    else if ffinite (xget x i) then xget x i else v3get tau (i - 15))

/-- The guard acts: event, counter, and the third action within 100 started beats (R138). -/
def State.guardActs (s : State) : State :=
  let o := s.obs
  let recent := o.beats :: o.guards.filter (fun b => decide (o.beats < b + 100))
  let s1 := State.raise { s with obs := { o with guardCnt := sat32 o.guardCnt, guards := recent } } 0x0432000B#32
  if 3 ≤ recent.length then (s1.raise 0x0442000C#32).loomFault else s1

/-- R95 and σ_ψ-based H95 of a covariance (R141). -/
def r95Of (p : Mat) : F64 :=
  fmul (fofRat 2448 1000) (fsqrt (eigMax (matGet p 0 0) (matGet p 0 1) (matGet p 1 1)))
def h95Of (p : Mat) : F64 := fmul (fofRat 196 100) (fsqrt (matGet p 2 2))

/-- Dead reckoning begins or ends by the groups' status of this beat (R142, R144). -/
def State.drStatus (s : State) (tk : Nat) : State :=
  let p := (s.group 0).dr
  let h := (s.group 1).dr
  let o := s.obs
  let s1 : State :=
    if p && !o.drPos then { s with obs := { o with drPos := true, drPosAt := tk } }
    else if !p && o.drPos then
      State.raise { s with obs := { o with drPos := false, reacqPos := true } } 0x04080009#32 [0#8]
    else s
  let o1 := s1.obs
  if h && !o1.drHdg then { s1 with obs := { o1 with drHdg := true, drHdgAt := tk } }
  else if !h && o1.drHdg then
    State.raise { s1 with obs := { o1 with drHdg := false, reacqHdg := true } } 0x04080009#32 [1#8]
  else s1

/-- Whole seconds of dead reckoning at the DTIME t (R142). -/
def drSeconds (on : Bool) (t0 t : Nat) : Nat := if on then min 65535 ((t - t0) / 1000000000) else 0

/-- The crossings of R143 and their ends (R144), position. -/
def State.crossPos (s : State) (d : DraftObs) : State :=
  let o := s.obs
  if o.drPos then
    let s1 := if flt d.posWarn o.r95 && !o.pWarn then
        State.raise { s with obs := { o with pWarn := true } } 0x04280004#32
      else s
    if flt d.posLimit o.r95 && !o.pLimit then
      (State.raise { s1 with obs := { s1.obs with pLimit := true } } 0x04380005#32).setDeg 2
    else s1
  else if fle o.r95 d.posWarn then
    State.clearDeg { s with obs := { o with pWarn := false, pLimit := false, posLost := false } } 2
  else s

/-- The crossings of R143 and their ends (R144), heading. -/
def State.crossHdg (s : State) (d : DraftObs) : State :=
  let o := s.obs
  if o.drHdg then
    let s1 := if flt d.hdgWarn o.h95 && !o.hWarn then
        State.raise { s with obs := { o with hWarn := true } } 0x04280007#32
      else s
    if flt d.hdgLimit o.h95 && !o.hLimit then
      (State.raise { s1 with obs := { s1.obs with hLimit := true } } 0x04380008#32).setDeg 3
    else s1
  else if fle o.h95 d.hdgWarn then
    State.clearDeg { s with obs := { o with hWarn := false, hLimit := false } } 3
  else s

/-- OBS_STAT (R152). -/
def Obs.stat (o : Obs) : Nat :=
  fbit 0 o.valid + fbit 1 o.conv + fbit 2 o.drPos + fbit 3 o.drHdg + fbit 4 o.pWarn + fbit 5 o.pLimit + fbit 6 o.hWarn
    + fbit 7 o.hLimit + fbit 8 o.posLost + fbit 9 o.warmStart + fbit 10 o.windFf + fbit 11 o.rept + fbit 12 o.attHold
    + fbit 13 o.gap

/-- A wave period 2π/ω₀ in 0.01 s (R130). -/
def wavePeriod (w : F64) : Nat := (frintClamp (fmul (fdiv f2pi w) (fofNat 100)) 0 65535).toNat

/-- A group is absent: no session placed in it, nor feeding it (R134). -/
def State.groupAbsent (s : State) (g : Nat) : Bool := (s.groupSessions g).isEmpty

/-- Roll, pitch and heave: passed through, held, or absent (R134). -/
def State.passThrough (s : State) : State :=
  let h := s.heddle
  let o := s.obs
  let noAtt := s.groupAbsent 2
  let noHve := s.groupAbsent 3
  let a := if noAtt then (0, 0) else h.attOut.getD (o.roll, o.pitch)
  let v := if noHve then 0 else h.heaveOut.getD o.heave
  { s with obs := { o with
      roll := a.1, pitch := a.2, heave := v
      attHold := (!noAtt && h.attOut.isNone) || (!noHve && h.heaveOut.isNone) } }

/-- Bytes 24 to 123 of the output record while VALID is 1 (R147). -/
def Obs.body (o : Obs) : List Byte :=
  let x := o.outX
  leMilli (xget x 0) ++ leMilli (xget x 1) ++ leBam (xget x 2) ++ leBam o.roll ++ leBam o.pitch ++ leMilli o.heave
    ++ leF32 (xget x 3) ++ leF32 (xget x 4) ++ leF32 (frad2deg (xget x 5)) ++ leF32 (xget x 6) ++ leF32 (xget x 7)
    ++ leF32 (xget x 8) ++ leMilli (xget x 9) ++ leMilli (xget x 11) ++ leBam (xget x 13) ++ leF32 (xget x 15)
    ++ leF32 (xget x 16) ++ leF32 (xget x 17) ++ leF32 o.sig.1 ++ leF32 o.sig.2.1 ++ leF32 (frad2deg o.sig.2.2)
    ++ leF32 o.r95 ++ le16 o.drPosS ++ le16 o.drHdgS ++ le16 (wavePeriod (o.omega.getD 0 0))
    ++ le16 (wavePeriod (o.omega.getD 1 0)) ++ le16 (wavePeriod (o.omega.getD 2 0)) ++ zeros 2

/-- The output record of the beat with the bytes 24 to 123 given (R147). -/
def State.obsRecord (s : State) (tk : Nat) (body : List Byte) : List Byte :=
  let b := s.warp.last.getD {}
  let l := le64 tk ++ le16 b.frac.toNat ++ le16 s.obs.stat ++ le32 (s.heddle.oldest.getD 0xFFFFFFFF) ++ le64 b.count ++ body
  l ++ le32 (crc32c l)

/-- The record is written into the beat's Reed bank (R147). -/
def State.putRecord (s : State) (r : List Byte) : State :=
  { s with obs := { s.obs with record := r, banks := s.obs.banks.set (b2n s.warp.bank) r } }

/-- The prediction for the edge T_k + N ms (R139). -/
def obsPredict (md : ObsModel) (log : List (Nat × V3)) (wind : V3) (n tk : Nat) (y : ObsXP) : Prediction :=
  let t := tk + n * 1000000
  let z := obsPropagate md log wind tk t y
  let x := z.x
  let v := xVel x
  let cov (i j k l : Nat) : F64 :=
    fadd (fadd (matGet z.p i j) (matGet z.p i l)) (fadd (matGet z.p k j) (matGet z.p k l))
  { edge := t
    north := fadd (xget x 0) (xget x 9), east := fadd (xget x 1) (xget x 11), psi := fadd (xget x 2) (xget x 13)
    vn := v.1, ve := v.2, r := xget x 5
    sigPos := fsqrt (eigMax (cov 0 0 9 9) (cov 0 1 9 11) (cov 1 1 11 11))
    sigHdg := fsqrt (cov 2 2 13 13) }

/-- Signs of the wave displacements (R130). -/
def waveSigns (x : List F64) : Bool × Bool × Bool :=
  (!flt (xget x 9) 0, !flt (xget x 11) 0, !flt (xget x 13) 0)

def sigOf (p : Mat) : V3 := (fsqrt (matGet p 0 0), fsqrt (matGet p 1 1), fsqrt (matGet p 2 2))

/-- Bytes 24 to 123 of the previous output with position and heading replaced (R138 item 1). -/
def repeatBody (old : List Byte) (out : List F64) : List Byte :=
  leMilli (xget out 0) ++ leMilli (xget out 1) ++ leBam (xget out 2) ++ (old.drop 36).take 88

/-- Part 3 of R135: flags, crossings, output record, history entry and prediction, for the state and covariance that the
beat ends with; `out` is the state that the output shows; with `rept` the output repeats the previous one. -/
def State.obsEnd (s : State) (d : DraftObs) (md : ObsModel) (wind : V3) (tk : Nat) (y : ObsXP) (out : List F64)
    (rept : Bool) : State :=
  let o := s.obs
  let s1 : State := { s with obs := { o with
    x := y.x, p := y.p, outX := out, sig := sigOf y.p
    r95 := r95Of y.p, h95 := h95Of y.p
    drPosS := drSeconds o.drPos o.drPosAt tk, drHdgS := drSeconds o.drHdg o.drHdgAt tk } }
  let s2 := (s1.crossPos d).crossHdg d
  let o2 := s2.obs
  let conv := fle o2.r95 d.posWarn && fle o2.h95 d.hdgWarn
  let s3 : State := { s2 with obs := { o2 with conv := conv, warmStart := o2.warmStart && !conv } }
  let s4 := s3.putRecord (s3.obsRecord tk (if rept then repeatBody s3.obs.record out else s3.obs.body))
  let o4 := s4.obs
  { s4 with obs := { o4 with
      hist := ({ edge := tk, x := y.x, p := y.p } :: o4.hist).take 128
      pred := some (obsPredict md o4.tauLog wind s4.n tk y)
      waveLog := ((tk, waveSigns y.x) :: o4.waveLog).filter (fun e => decide (tk ≤ e.1 + 61000000000))
      lastEdge := tk } }

/-! ### initialisation (R140, R146) -/

/-- The newer of two slots: its number and record. -/
def newerWarm (a b : Option ObsWarm) : Option (Bool × ObsWarm) :=
  match a, b with
  | none, none => none
  | some a, none => some (false, a)
  | none, some b => some (true, b)
  | some a, some b => if a.seq < b.seq then some (true, b) else some (false, a)

/-- The newest warm-restart slot with a correct CRC (R146). -/
def Obs.newestWarm (o : Obs) : Option (Bool × ObsWarm) := newerWarm (o.warm0.filter ObsWarm.good) (o.warm1.filter ObsWarm.good)

/-- The warm-restart record judged at T_k: OBS_WARM.RESULT with the slot, the age, and the record when it is used (R146, R152).
DESIGN CHOICE (log entry 42): with no correct CRC in any written slot the result is 3 for the newer one, age 0; a record that fails by
its fingerprint and by age or time counts as refused for its fingerprint. -/
def State.judgeWarm (s : State) (d : DraftObs) (tk : Nat) : Nat × Bool × Nat × Option ObsWarm :=
  let bad := newerWarm s.obs.warm0 s.obs.warm1
  match s.obs.newestWarm with
  | none => (if d.warmAgeS = 0 ∨ bad.isNone then 0 else 3, (bad.map Prod.fst).getD false, 0, none)
  | some (slot, w) =>
    let age := min 65535 ((tk - w.edge) / 1000000000)
    if d.warmAgeS = 0 then (0, slot, 0, none)
    else if w.fingerprint ≠ d.fingerprint then (3, slot, age, none)
    else if ¬ s.clk.est ∨ tk < w.edge ∨ w.edge + d.warmAgeS * 1000000000 < tk then (2, slot, age, none)
    else (1, slot, age, some w)

/-- The Observer initialises from the fresh accepted values (R140, R146). -/
def State.obsInit (s : State) (d : DraftObs) (wind : V3) (tk : Nat) (pos hdg : List Meas) : State :=
  let w (m : Meas) : F64 := fdiv (fofNat 1) (fmul m.sigma m.sigma)
  let north := wmean (pos.map (fun m => (w m, m.v1)))
  let east := wmean (pos.map (fun m => (w m, m.v2)))
  let psi := wcirc (hdg.map (fun m => (w m, m.v1)))
  let (result, slot, age, warm) := s.judgeWarm d tk
  let omega0 := fdiv f2pi d.tp0
  let bias := match warm with
    | some r => r.bias
    | none => [0, 0, 0]
  let omega := match warm with
    | some r => r.omega
    | none => [omega0, omega0, omega0]
  let x := [north, east, psi, 0, 0, 0] ++ bias ++ List.replicate 9 0
  let p0 := obsP0 d
  let p := match warm with
    | some r => matOf 18 (fun i j => if 6 ≤ i ∧ i < 9 ∧ 6 ≤ j ∧ j < 9 then matGet r.cov (i - 6) (j - 6) else matGet p0 i j)
    | none => p0
  let o := s.obs
  let s1 : State := { s with obs := { o with
    valid := true, warmStart := warm.isSome, warmResult := result, warmSlot := slot, warmAge := age
    omega := omega, hist := [], beats := 0, guards := [], waveLog := [], waveSince := tk
    waveClamped := [0, 0, 0], nUpd := 0, nDly := 0, rept := false, gap := false, warmDue := false } }
  let s2 := if result = 2 ∨ result = 3 then s1.raise 0x04130003#32 [byteOf result] else s1
  let s3 := s2.raise (if warm.isSome then 0x04000002#32 else 0x04000001#32)
  s3.obsEnd d (obsModel d omega) wind tk { x := x, p := p, phi := matId 18 } x false

/-! ### OBSERVE -/

/-- The wind input (R129). -/
def State.obsWind (s : State) (d : DraftObs) : Option V3 := if d.wind then s.obs.tauWind else none

/-- The transition of the newest history entry to the present edge, with the inputs it was formed under. -/
def setPhi (phi : Mat) (wind : V3) (omega : List F64) : List ObsHist → List ObsHist
  | [] => []
  | e :: l => { e with phi := phi, wind := wind, omega := omega } :: l

/-- OBSERVE in a started beat while the Observer is initialised (R135 to R138). It propagates over the elapsed time that the Warp
gives it, a whole number of beats (R58); what lies before T_L by DTIME is delayed. -/
def State.obsRun (s : State) (d : DraftObs) (wind : V3) (tk : Nat) : State :=
  let o := s.obs
  let tl := o.lastEdge
  let t0 := tk - s.warp.elapsedMs * 1000000
  let md := obsModel d o.omega
  let s0 := State.drStatus { s with obs := { o with
    beats := o.beats + 1, warmDue := o.warmDue || (o.beats + 1) % 100 == 0
    gap := decide (s.n < s.warp.elapsedMs), rept := false } } tk
  let sorted := sortBy measLe s.heddle.meas
  let early := sorted.filter (fun (m : Meas) => decide (tl ≤ m.tov))
  let late := sorted.filter (fun (m : Meas) => decide (m.tov < tl))
  let r1 := early.foldl (obsPart1 md d wind tk) { t := t0, y := { x := o.x, p := o.p, phi := matId 18 }, s := s0, upd := 0, dly := 0 }
  let y1 := obsPropagate md o.tauLog wind r1.t tk r1.y
  let o1 := r1.s.obs
  let r2 : ObsRun := { r1 with
    t := tk, y := y1
    s := { r1.s with obs := { o1 with hist := setPhi y1.phi wind o.omega o1.hist } } }
  let r3 := late.foldl (obsPart2 md d tk) r2
  let p := obsSym r3.y.p
  let o3 := r3.s.obs
  let s3 : State := { r3.s with obs := { o3 with nUpd := min 255 r3.upd, nDly := min 255 r3.dly } }
  if allFinite r3.y.x p then s3.obsEnd d md wind tk { r3.y with p := p } r3.y.x false
  else
    let out := advanceOut o.outX (s.warp.elapsedMs * 1000000)
    let s4 := State.guardActs { s3 with obs := { s3.obs with rept := true } }
    s4.obsEnd d md wind tk { x := guardReset r3.y.x out (tauAt o.tauLog tk), p := obsP0 d, phi := matId 18 } out true

/-- OBSERVE (R133 to R147). -/
def State.observe (s : State) : State :=
  match s.draft with
  | none => s.stageDone .observe .observed
  | some dr =>
    let d := dr.obs
    let tk := s.beatEdge
    let wind := s.obsWind d
    let s0 := State.passThrough { s with obs := { s.obs with windFf := wind.isSome } }
    let pos := s.heddle.meas.filter (fun (m : Meas) => m.kind == 0)
    let hdg := s.heddle.meas.filter (fun (m : Meas) => m.kind == 1)
    let w := wind.getD (0, 0, 0)
    let s1 :=
      if s0.obs.valid then s0.obsRun d w tk
      else if pos.isEmpty || hdg.isEmpty then s0.putRecord (s0.obsRecord tk (zeros 100))
      else s0.obsInit d w tk pos hdg
    s1.stageDone .observe .observed

/-- WARP_STAT at b+0.60, for the beat summary (R648). -/
def State.keepStat (s : State) : State :=
  { s with warp := { s.warp with last := s.warp.last.map (fun (b : Beat) => { b with wstat := s.warpStat }) } }

/-- OBSERVE (R135). -/
def execObserve (s : State) : Host.Outcome State Fault Refusal :=
  .next (if s.warp.run && s.warp.stage == .voted then s.keepStat.observe else s)

/-- MAX_DEAD_RECKONING_TIME (R143), at t ns after the tick. -/
def execMaxDeadReckoningTime (t : Ns) (s : State) : Host.Outcome State Fault Refusal :=
  let s0 := s.at t
  let o := s0.obs
  .next (match s0.draft with
    | none => s
    | some d =>
      if o.valid && o.drPos && !o.posLost && decide (o.drPosAt + d.obs.maxDrS * 1000000000 < s0.now) then
        State.raise { s0 with obs := { o with posLost := true } } 0x04480006#32
      else s)

/-- Sign changes along a list, newest first. -/
def crossings : List Bool → Nat
  | a :: b :: l => b2n (a != b) + crossings (b :: l)
  | _ => 0

/-- ω₀ of one degree of freedom after an interval (R130), and the limit at which it stands (0 none, 1 lower, 2 upper) when `was` is the
one at which it stood before: a limit once reached holds while the estimate stays there. -/
def waveUpdate (d : DraftObs) (w : F64) (c was : Nat) : F64 × Nat :=
  let w1 := if 4 ≤ c then
      fadd (fmul (fofRat 8 10) w) (fmul (fofRat 2 10) (fdiv (fmul fpi (fofNat c)) (fofNat 60)))
    else w
  let lo := fdiv f2pi d.tpMax
  let hi := fdiv f2pi d.tpMin
  if flt w1 lo then (lo, 1) else if flt hi w1 then (hi, 2)
  else (w1, if was = 1 ∧ feq w1 lo ∨ was = 2 ∧ feq w1 hi then was else 0)

/-- One degree of freedom of a wave frequency update. -/
def State.waveDof (s : State) (d : DraftObs) (k : Nat) (signs : List Bool) : State :=
  let o := s.obs
  let was := o.waveClamped.getD k 0
  let (w, cl) := waveUpdate d (o.omega.getD k 0) (crossings signs) was
  let s1 : State := { s with obs := { o with omega := o.omega.set k w, waveClamped := o.waveClamped.set k cl } }
  if cl ≠ 0 ∧ cl ≠ was then s1.raise 0x0409000E#32 [byteOf k] else s1

/-- WAVE_FREQUENCY_UPDATE (R130). -/
def execWaveFrequencyUpdate (s : State) : Host.Outcome State Fault Refusal :=
  .next (match s.draft with
    | none => s
    | some dr =>
      let o := s.obs
      let t := s.beatEdge
      if s.warp.before .observed && o.valid && decide (o.waveSince + 60000000000 ≤ t) then
        let l := o.waveLog.filter (fun e => decide (t ≤ e.1 + 60000000000))
        let s1 : State := { s with obs := { o with waveSince := t } }
        ((s1.waveDof dr.obs 0 (l.map (fun e => e.2.1))).waveDof dr.obs 1 (l.map (fun e => e.2.2.1))).waveDof dr.obs 2
          (l.map (fun e => e.2.2.2))
      else s)

/-- A warm-restart record is written to the next slot (R145). -/
def State.writeWarm (s : State) : State :=
  let o := s.obs
  if o.valid then
    let r : ObsWarm := {
      seq := o.warmSeq + 1, edge := o.lastEdge
      fingerprint := (match s.draft with
        | some d => d.obs.fingerprint
        | none => 0)
      bias := [xget o.x 6, xget o.x 7, xget o.x 8]
      cov := [[matGet o.p 6 6, matGet o.p 6 7, matGet o.p 6 8], [matGet o.p 7 6, matGet o.p 7 7, matGet o.p 7 8],
        [matGet o.p 8 6, matGet o.p 8 7, matGet o.p 8 8]]
      omega := o.omega, pcc := s.sys.pcc, otimeUs := s.otime }
    { s with obs := { o with
        warmSeq := o.warmSeq + 1, warmDue := false
        warm0 := if o.warmSeq.getLsbD 0 then o.warm0 else some r.seal
        warm1 := if o.warmSeq.getLsbD 0 then some r.seal else o.warm1 } }
  else s

/-- OBS_WARM_RECORD_WRITE (R145). -/
def execObsWarmRecordWrite (s : State) : Host.Outcome State Fault Refusal :=
  .next (if s.warp.run && s.obs.warmDue then s.writeWarm else s)

/-! ### registers (R150 to R152) -/

/-- A write to OBS_SEL takes the snapshot (R151). -/
def State.writeObsSel (s : State) (v : Word) : State :=
  let o := s.obs
  let i := v.toNat % 32
  { s with obs := { o with
      sel := word i
      selVal := if i < 18 then xget o.x i else 0
      selVar := if i < 18 then matGet o.p i i else 0 } }

/-- OBS_SEL_WRITE (R151). -/
def execObsSelWrite (v : Word) (s : State) : Host.Outcome State Fault Refusal := .next (s.writeObsSel v)

/-- The value of an OBS register (R150, R152). -/
def State.obsReg (s : State) (off : Nat) : Word :=
  let o := s.obs
  let tp (k : Nat) : Nat := if o.valid then wavePeriod (o.omega.getD k 0) else 0
  match off with
  | 0x00 => word o.stat
  | 0x04 => word (o.drPosS + o.drHdgS * 65536)
  | 0x08 => if o.valid then word (frintClamp (fmul o.r95 (fofNat 1000)) 0 4294967295).toNat else 0xFFFFFFFF#32
  | 0x0C => if o.valid then word (frintClamp (fscale (fdiv o.h95 f2pi) 32) 0 4294967295).toNat else 0xFFFFFFFF#32
  | 0x10 => word (o.nUpd + o.nDly * 256)
  | 0x14 => word o.lateCnt
  | 0x18 => word o.guardCnt
  | 0x1C => word (o.warmResult + fbit 2 o.warmSlot + o.warmAge * 65536)
  | 0x20 => word (tp 0 + tp 1 * 65536)
  | 0x24 => word (tp 2)
  | 0x28 => o.sel
  | 0x2C => lo32 o.selVal.toNat
  | 0x30 => hi32 o.selVal.toNat
  | 0x34 => lo32 o.selVar.toNat
  | 0x38 => hi32 o.selVar.toNat
  | _ => 0

end Sys2Proof.Machine
end

