-- ==== Sys2Proof/Machine/Thrust.lean ====
section
/-! DEFINITION. Thrusters: forces, azimuths, forbidden sectors, regions, power, and the fast projector (R182, R228, R229). -/

namespace Sys2Proof.Machine

abbrev V2 := F64 × F64

def v2add (a b : V2) : V2 := (fadd a.1 b.1, fadd a.2 b.2)
def v2sub (a b : V2) : V2 := (fsub a.1 b.1, fsub a.2 b.2)
def v2scale (k : F64) (a : V2) : V2 := (fmul k a.1, fmul k a.2)
def v2dot (a b : V2) : F64 := fadd (fmul a.1 b.1) (fmul a.2 b.2)
def v2norm (a : V2) : F64 := fsqrt (v2dot a a)
def v2dir (a : F64) : V2 := (Config.fcos a, Config.fsin a)
/-- A vector limited to a length (R208). -/
def v2limit (a : V2) (m : F64) : V2 := let l := v2norm a; if flt m l then v2scale (fdiv m l) a else a
def v2zero (a : V2) : Bool := feq a.1 0 && feq a.2 0

/-- An angle brought into 0 … 2π. -/
def fmod2pi (a : F64) : F64 :=
  let r := fsub a (fmul f2pi (fofInt (ffloor (fdiv a f2pi))))
  if fle f2pi r then 0 else r

/-- The Draft's thruster records and one of them. -/
def State.thrRecs (s : State) : List ThrRec :=
  match s.draft with
  | some d => d.alloc.thr
  | none => []
def State.thrRec (s : State) (t : Nat) : Option ThrRec := s.thrRecs[t]?
def State.thr (s : State) (t : Nat) : Thr := s.alloc.thr.getD t {}
def State.setThr (s : State) (t : Nat) (x : Thr) : State :=
  { s with alloc := { s.alloc with thr := s.alloc.thr.set t x } }

def mmToM (n : Int) : F64 := fdiv (fofInt n) (fofNat 1000)

/-- τ_t (R229). -/
def tauOf (r : ThrRec) (f : V2) : V3 :=
  (f.1, f.2, fsub (fmul (mmToM r.x) f.2) (fmul (mmToM r.y) f.1))

/-- F_ref (R229). -/
def fRef (r : ThrRec) (f : V2) : F64 :=
  if r.azi then f32to64 r.fMax else if flt f.2 0 then f32to64 r.fRev else f32to64 r.fFwd

/-- g_t at a force (R229), kW; P0 where the Draft gives a force range of zero (log entry 132). -/
def powerOf (r : ThrRec) (f : V2) : F64 :=
  let m := if r.azi then v2norm f else fabs f.2
  let ref := fRef r f
  let x := if feq ref 0 then 0 else fdiv m ref
  fadd r.p0 (fmul (fsub r.pMax r.p0) (fmul x (fsqrt x)))

/-- A forbidden sector in radians: start and width, clockwise. -/
def sectorRad (p : Bam × Bam) : V2 := (bamToRad p.1, bamToRad (p.2 - p.1))

/-- The offset of an azimuth into a sector when it lies strictly inside it. -/
def insideSector (a : F64) (p : Bam × Bam) : Option (F64 × F64) :=
  let q := sectorRad p
  let off := fmod2pi (fsub a q.1)
  if flt 0 off && flt off q.2 then some (off, q.2) else none

/-- Step 2: a direction inside a forbidden sector goes to the nearer edge; midway, to the sector's end (R182). -/
def sectorClip (r : ThrRec) (f : V2) : V2 :=
  if v2zero f then f
  else
    let a := Config.fatan2 f.2 f.1
    match r.sectors.find? (fun p => (insideSector a p).isSome) with
    | some p =>
      let q := sectorRad p
      let off := fmod2pi (fsub a q.1)
      let b := if flt off (fmul q.2 (fofRat 1 2)) then q.1 else fadd q.1 q.2
      v2scale (v2norm f) (v2dir b)
    | none => f

/-- cos 11.25°, through the half-angle formula. -/
def cos1125 : F64 :=
  let two := fofNat 2
  fdiv (fsqrt (fadd two (fsqrt (fadd two (fsqrt two))))) two

/-- The facet distances of an azimuth thruster; where the Draft gives none, F_max·cos 11.25° each (R228). -/
def facetsOf (r : ThrRec) : List F32 :=
  if r.facets.isEmpty then List.replicate 16 (f64to32 (fmul (f32to64 r.fMax) cos1125)) else r.facets

/-- The outward normal of facet i (R228). -/
def facetNormal (i : Nat) : V2 := v2dir (fmul (fofNat i) (fdiv fpi (fofNat 8)))

/-- Step 3: the region of an azimuth thruster, the range of a tunnel thruster (R182). -/
def regionClip (r : ThrRec) (f : V2) : V2 :=
  if r.azi then
    let ratio (i : Nat) (d : F32) : F64 :=
      fdiv (v2dot (facetNormal i) f) (f32to64 d)
    let worst := (List.zipWith ratio (List.range 16) (facetsOf r)).foldl fmax 0
    if flt (fofNat 1) worst then v2scale (fdiv (fofNat 1) worst) f else f
  else (0, fclamp f.2 (fneg (f32to64 r.fRev)) (f32to64 r.fFwd))

/-- How much of the clockwise arc of a length from an azimuth lies inside a sector. -/
def arcInSector (a len : F64) (p : Bam × Bam) : F64 :=
  let q := sectorRad p
  let o := fmod2pi (fsub q.1 a)
  let part (lo : F64) : F64 := fmax 0 (fsub (fmin len (fadd lo q.2)) (fmax 0 lo))
  fadd (part o) (part (fsub o f2pi))

/-- The angle inside forbidden sectors of a clockwise arc. -/
def arcForbidden (r : ThrRec) (a len : F64) : F64 := fsum (r.sectors.map (arcInSector a len))

/-- The azimuth reached from `a` towards `b` by turning at most `lim`, along the arc that R182 chooses. -/
def turnTo (r : ThrRec) (a b lim : F64) : F64 :=
  let cw := fmod2pi (fsub b a)
  let ccw := fmod2pi (fsub a b)
  let fcw := arcForbidden r a cw
  let fccw := arcForbidden r b ccw
  let goCw := flt fcw fccw || (feq fcw fccw && fle cw ccw)
  if goCw then (if fle cw lim then b else fadd a lim) else (if fle ccw lim then b else fsub a lim)

/-- Step 4: the change from the command in force over N ms (R182). -/
def rateClip (r : ThrRec) (ms : Nat) (fIn : V2) (az0 : F64) (f : V2) : V2 :=
  let dt := fdiv (fofNat ms) (fofNat 1000)
  let df := fmul r.thrRate dt
  if r.azi then
    let m0 := v2norm fIn
    let a0 := if v2zero fIn then az0 else Config.fatan2 fIn.2 fIn.1
    let m := fclamp (v2norm f) (fmax 0 (fsub m0 df)) (fadd m0 df)
    let a := if v2zero f then a0 else turnTo r a0 (Config.fatan2 f.2 f.1) (fmul r.azRate dt)
    let turned := !v2zero f && feq a (Config.fatan2 f.2 f.1)
    if turned && feq m (v2norm f) then f else v2scale m (v2dir a)
  else (f.1, fclamp f.2 (fsub fIn.2 df) (fadd fIn.2 df))

/-- Steps 1 to 3 (R182, R235). -/
def limitClip (r : ThrRec) (avail : Bool) (f : V2) : V2 :=
  if avail then regionClip r (sectorClip r f) else (0, 0)

def v2eq (a b : V2) : Bool := feq a.1 b.1 && feq a.2 b.2

/-- A value moved by more than 0.1 % of a range (R182). -/
def farBy (moved range : F64) : Bool := flt (fdiv range (fofNat 1000)) moved

/-- The whole range of a thruster's force: F_max, or F_fwd + F_rev. -/
def fullForce (r : ThrRec) : F64 := if r.azi then f32to64 r.fMax else fadd (f32to64 r.fFwd) (f32to64 r.fRev)

/-- Step 4 moved a force far: by its magnitude against twice the thrust rate over the interval, by its azimuth against twice the
azimuth rate (R182, log entry 133). -/
def rateFar (r : ThrRec) (ms : Nat) (a b : V2) : Bool :=
  let dt := fdiv (fofNat (2 * ms)) (fofNat 1000)
  let turn := fabs (fwrap (fsub (Config.fatan2 b.2 b.1) (Config.fatan2 a.2 a.1)))
  farBy (if r.azi then fabs (fsub (v2norm a) (v2norm b)) else fabs (fsub a.2 b.2)) (fmul r.thrRate dt)
    || (r.azi && !v2zero a && !v2zero b && farBy turn (fmul r.azRate dt))

/-- Steps 1 to 4 with the flags of those that changed the value; steps 2 and 3 prevail over step 4. The last part says whether a
step moved it by more than 0.1 % of the range of its limit: the force range for steps 1 and 3, the full circle for step 2 (R182, log
entry 133). -/
def projectThr (r : ThrRec) (avail : Bool) (ms : Nat) (fIn : V2) (az0 : F64) (f : V2) : V2 × Nat × Bool :=
  if avail then
    let f2 := sectorClip r f
    let f3 := regionClip r f2
    let f4 := rateClip r ms fIn az0 f3
    let f5 := regionClip r (sectorClip r f4)
    let turn := fabs (fwrap (fsub (Config.fatan2 f2.2 f2.1) (Config.fatan2 f.2 f.1)))
    (f5, fbit 1 (!v2eq f f2) + fbit 2 (!v2eq f2 f3) + fbit 3 (!v2eq f3 f5),
      (!v2eq f f2 && farBy turn f2pi) || farBy (v2norm (v2sub f2 f3)) (fullForce r) || (!v2eq f3 f5 && rateFar r ms f3 f5))
  else ((0, 0), fbit 0 (!v2zero f), farBy (v2norm f) (fullForce r))

/-- The largest factor in [0, 1] for which `ok` holds, by bisection steps that keep the feasible end (R182, R248). -/
def bisect (ok : F64 → Bool) : Nat → F64 → F64 → F64
  | 0, lo, _ => lo
  | n + 1, lo, hi =>
    let mid := fmul (fadd lo hi) (fofRat 1 2)
    if ok mid then bisect ok n mid hi else bisect ok n lo mid

/-- The factor that brings a group of thrusters within a power, or 1 when it is within it (R182, R248). -/
def scaleFactor (l : List (ThrRec × V2)) (limit : F64) : F64 :=
  let total (k : F64) : F64 := fsum (l.map (fun p => powerOf p.1 (v2scale k p.2)))
  if fle (total (fofNat 1)) limit then fofNat 1 else bisect (fun k => fle (total k) limit) 16 0 (fofNat 1)

/-- Generalized force of the commands in force of the available thrusters (R128). -/
def State.tauNow (s : State) : V3 :=
  (List.zipWith (fun (t : Nat) (r : ThrRec) => (t, r)) (List.range s.thrRecs.length) s.thrRecs).foldl
    (fun (a : V3) p => if (s.thr p.1).cause = 0 then v3add a (tauOf p.2 (s.thr p.1).cmd) else a) (0, 0, 0)

/-- The Observer's thrust input changes now (R128). -/
def State.logTau (s : State) : State :=
  let v := s.tauNow
  let l := s.obs.tauLog
  if (l.head?.map Prod.snd) = some v then s
  else
    let oldest := match s.obs.hist.getLast? with
      | some h => h.edge
      | none => s.now
    let keep := l.filter (fun e => decide (oldest ≤ e.1))
    let base := (l.filter (fun e => decide (e.1 < oldest))).take 1
    { s with obs := { s.obs with tauLog := (s.now, v) :: (keep ++ base) } }

end Sys2Proof.Machine
end

