-- ==== Sys2Proof/Machine/Drive.lean ====
section
/-! DEFINITION. Drive frames: header, cap record, sequence numbers and check value (R250, R564 to R568). -/

namespace Sys2Proof.Machine

/-- The module sends thruster telegrams: ACTIVE or DEGRADED, in the roles LEAD and ALONE (R36, R53). -/
def State.leads (s : State) : Bool :=
  (s.sys.role == .lead || s.sys.role == .alone) && (!s.pairMode || (s.pair.claim && s.pair.led && s.pair.barredBy == 0))
def State.drives (s : State) : Bool := s.isActive && s.leads

/-- binary32 as sent. -/
def beF32 (x : F64) : List Byte := be32 (f64to32 x).toNat

/-- A cap record (R250). -/
def capRecord (t : Nat) (pb : Bool) (seq : U16) (cap : Option Cap) : List Byte :=
  match cap with
  | some c => byteOf t :: byteOf (1 + b2n pb * 2) :: be16 seq.toNat ++ beF32 c.f ++ beF32 c.p ++ be64 c.raised
  | none => byteOf t :: byteOf (b2n pb * 2) :: be16 seq.toNat ++ zeros 16

/-- The cap record of a thruster as it stands. -/
def State.capOf (s : State) (t : Nat) (pb : Bool) : List Byte := capRecord t pb (s.thr t).capSeq (s.thr t).cap

/-- The check value of a frame under a session's parameter set, in 4 bytes (R565). -/
def State.frameCheck (s : State) (i : Nat) (l : List Byte) : List Byte :=
  match s.sessRec i with
  | some r =>
    (match s.glazeSet r.glaze with
     | some g => be32 (glazeCheck g l)
     | none => zeros 4)
  | none => zeros 4

/-- The next sequence number of a session (R467). -/
def State.nextSeq (s : State) (i : Nat) : Word × State :=
  match s.session i with
  | some x => (x.txSeq + 1, s.setSession i { x with txSeq := x.txSeq + 1 })
  | none => (0, s)

/-- The bytes of a frame that leaves on ports C and D pass units 6 and 7 (R615, R616). -/
def State.glazeTx (s : State) (i : Nat) (l : List Byte) : State :=
  match s.sessRec i with
  | some r => (s.glazeUnit 6 i r.glaze l).glazeUnit 7 i r.glaze l
  | none => s

/-- A drive frame from its drive header to its check value (R564, R565). -/
def State.driveFrame (s : State) (i ftype : Nat) (payload : List Byte) : State × Output :=
  let (seq, s1) := s.nextSeq i
  let l := byteOf 1 :: byteOf ftype :: be16 payload.length ++ be32 s.pair.epoch.toNat ++ [byteOf (b2n s.sys.pairSeat)] ++ zeros 3
    ++ be32 seq.toNat ++ be64 s.clk.tick ++ payload
  (s1.glazeTx i l, .drive i (l ++ s.frameCheck i l))

/-- Several drive frames, in order. -/
def State.driveFrames (s : State) : List (Nat × Nat × List Byte) → State × List Output
  | [] => (s, [])
  | p :: l =>
    let (s1, o) := s.driveFrame p.1 p.2.1 p.2.2
    let (s2, os) := s1.driveFrames l
    (s2, o :: os)

/-- Thruster indices of the Draft. -/
def State.thrIds (s : State) : List Nat := List.range s.thrRecs.length

/-- SAFE frames for every drive session (R568). -/
def State.safeFrames (s : State) : State × List Output :=
  s.driveFrames (s.thrIds.filterMap (fun t => (s.thrRec t).map (fun r =>
    (r.sess, 5, byteOf t :: byteOf (if r.manual then 2 else 1) :: zeros 2 ++ be64 s.clk.tick ++ s.capOf t false))))

end Sys2Proof.Machine
end

