-- ==== Sys2Proof/Machine/Plant.lean ====
section
/-! DEFINITION. PWR: GOOSE members, breakers, generator sets, islands, short-term windows, the trip check and phase-back
(R240 to R250, R261 to R263). -/

namespace Sys2Proof.Machine

def State.plantRec (s : State) : DraftPlant :=
  match s.draft with
  | some d => d.plant
  | none => {}

/-- The fast lane runs: every state from STANDBY on (R67). -/
def State.fastLane (s : State) : Bool :=
  s.warp.picks && s.sys.st != .off && s.sys.st != .boot && s.sys.st != .selftest

/-! ### GOOSE members -/

def Plant.sub (p : Plant) (i : Nat) : GooseSub := (aget i p.goose).getD {}

/-- A member usable now: its subscription is not stale and its quality is good (R241). -/
def Plant.member (p : Plant) (i m : Nat) : Option GooseMember :=
  let g := p.sub i
  if !g.seen || g.stale then none
  else match g.mems[m]? with
    | some x => if x.good then some x else none
    | none => none

/-- Numeric members keep their last good value; before the first the Draft's substitute holds, by default `dflt` (R241). -/
def Plant.numOf (p : Plant) (dflt : F64) : NumSource → F64
  | .fixed v => v
  | .goose i m subst =>
    match p.member i m with
    | some x => x.num
    | none => ((p.good.find? (fun e => e.1 == (i, m))).map Prod.snd).getD (subst.getD dflt)
/-- A section load in kW, and the derating of a generator set (R240, R241). -/
def Plant.loadOf (p : Plant) (r : SectRec) : F64 := p.numOf 0 r.load
def Plant.derateOf (p : Plant) (r : GenRec) : F64 := p.numOf (fofNat 1) r.derate

/-- Last good values after a frame of a subscription. -/
def goodAfter (i : Nat) (mems : List GooseMember) (l : List ((Nat × Nat) × F64)) : List ((Nat × Nat) × F64) :=
  (List.zipWith (fun (m : Nat) (x : GooseMember) => (m, x)) (List.range mems.length) mems).foldl
    (fun (a : List ((Nat × Nat) × F64)) p =>
      if p.2.good then ((i, p.1), p.2.num) :: a.filter (fun e => e.1 != (i, p.1)) else a) l

/-- Members whose quality turns bad or good are announced (R241). -/
def State.announceMembers (s : State) (i : Nat) (mems : List GooseMember) : State :=
  (List.zipWith (fun (m : Nat) (x : GooseMember) => (m, x)) (List.range mems.length) mems).foldl
    (fun (a : State) p =>
      let bad := a.plant.badMem.contains (i, p.1)
      if !p.2.good && !bad then
        State.raise { a with plant := { a.plant with badMem := (i, p.1) :: a.plant.badMem } } 0x16250107#32 (be16 i ++ [byteOf p.1])
      else if p.2.good && bad then
        State.raise { a with plant := { a.plant with badMem := a.plant.badMem.filter (fun e => e != (i, p.1)) } } 0x16050108#32
          (be16 i ++ [byteOf p.1])
      else a) s

/-- A member that is NaN or infinite is no measurement: it counts as one whose quality is not good (R11, R241). -/
def soundMember (x : GooseMember) : GooseMember := { x with good := x.good && ffinite x.num }

/-- One accepted GOOSE frame is taken by the trip check: its members, and the end of a staleness (R241, R242). -/
def State.takeGoose (s : State) (i : Nat) (l : List GooseMember) : State :=
  let g := s.plant.sub i
  let mems := l.map soundMember
  let s1 : State := { s with plant := { s.plant with
    goose := aset i { g with mems := mems, seen := true, stale := false } s.plant.goose
    good := goodAfter i mems s.plant.good } }
  let s2 := if g.stale then s1.raise 0x16050108#32 (be16 i) else s1
  s2.announceMembers i mems

/-- GOOSE_STALE (R241) at t ns after the tick. -/
def execGooseStale (i : Nat) (t : Ns) (s : State) : Host.Outcome State Fault Refusal :=
  let s0 := s.at t
  let g := s0.plant.sub i
  .next (if g.seen && !g.stale && decide (g.rx + g.ttlMs * 1000000 ≤ s0.now) then
      State.raise { s0 with plant := { s0.plant with goose := aset i { g with stale := true } s0.plant.goose } }
        0x16250107#32 (be16 i)
    else s)

/-! ### breakers (R241 to R243) -/

/-- What a source reports: closed or open, none when it holds its last state; and whether it is intermediate. -/
def Plant.source (p : Plant) (b : BrkSource) : Option Bool × Bool :=
  let stale : Option Bool × Bool := (if b.staleOpen then some false else none, false)
  match b.kind with
  | .goose i m =>
    if (p.sub i).seen then
      match p.member i m with
      | some x =>
        let v := x.bits % 4
        if v = 0 then (none, true)
        else if v = 3 then (some false, false)
        else (some ((v == 2) != b.inv), false)
      | none => stale
    else (none, false)
  | .di k => (some (p.di.getLsbD k != b.inv), false)
  | .prio st bit =>
    match p.prioFast.find? (fun e => e.1 == (st, bit)) with
    | some (_, some v) => (some (v != b.inv), false)
    | some (_, none) => stale
    | none => (none, false)

/-- A breaker after the latched changes of a pick at the DTIME t: the first report of a loss acts, only agreement
restores; disagreement is timed (R243). -/
def Brk.step (k : Brk) (p : Plant) (src : List BrkSource) (t : Nat) : Brk :=
  let old (i : Nat) : Bool := k.src.getD i false
  let now := (List.zipWith (fun (i : Nat) (b : BrkSource) => (i, p.source b)) (List.range src.length) src)
  let st := now.map (fun e => e.2.1.getD (old e.1))
  let inter := now.map (fun e => if e.2.2 then some ((k.inter.getD e.1 none).getD t) else none)
  let closed := !st.isEmpty && st.all (fun b => b)
  let differ := st.any (fun b => b) && st.any (fun b => !b)
  { src := st, inter := inter, closed := closed
    disagree := if differ then some (k.disagree.getD t) else none
    told := differ && k.told }

/-- The breaker of a generator set, or of a tie. -/
def Plant.brk (p : Plant) (tie : Bool) (i : Nat) : Brk := if tie then p.ties.getD i {} else p.gens.getD i {}
def Plant.setBrk (p : Plant) (tie : Bool) (i : Nat) (b : Brk) : Plant :=
  if tie then { p with ties := p.ties.set i b } else { p with gens := p.gens.set i b }

/-- BREAKER_INTERMEDIATE_TIMEOUT (R241): a source intermediate for 200 ms counts as open. -/
def execBreakerIntermediateTimeout (tie : Bool) (i src : Nat) (t : Ns) (s : State) : Host.Outcome State Fault Refusal :=
  let s0 := s.at t
  let b := s0.plant.brk tie i
  .next (match b.inter.getD src none with
    | some t0 =>
      if t0 + 200000000 ≤ s0.now then
        { s0 with plant := s0.plant.setBrk tie i { b with src := b.src.set src false } }
      else s
    | none => s)

/-- BREAKER_DISAGREEMENT (R243): once per episode. -/
def execBreakerDisagreement (tie : Bool) (i : Nat) (t : Ns) (s : State) : Host.Outcome State Fault Refusal :=
  let s0 := s.at t
  let b := s0.plant.brk tie i
  .next (match b.disagree with
    | some t0 =>
      if !b.told && decide (t0 + 500000000 < s0.now) then
        State.raise { s0 with plant := s0.plant.setBrk tie i { b with told := true } } 0x16220109#32 [byteOf (b2n tie), byteOf i]
      else s
    | none => s)

/-- FAST_INPUT_CHANGE (R242): the filter has confirmed a change of input k at t ns after the tick. -/
def execFastInputChange (k : Nat) (level : Bool) (t : Ns) (s : State) : Host.Outcome State Fault Refusal :=
  let s0 := s.at t
  .next { s0 with plant := { s0.plant with
      diPend := s0.plant.diPend ++ [(k, s0.now, level)]
      diEdge := if level then aset k ((s0.now :: (aget k s0.plant.diEdge).getD []).take 64) s0.plant.diEdge
        else s0.plant.diEdge } }

/-- GENERATOR_ONLINE (R244): a set closed for T_online without interruption. -/
def execGeneratorOnline (g : Nat) (t : Ns) (s : State) : Host.Outcome State Fault Refusal :=
  let s0 := s.at t
  let p := s0.plant
  .next (match (s0.plantRec.gens)[g]?, p.closedAt.getD g none with
    | some r, some t0 =>
      if (p.brk false g).closed && !p.online.getLsbD g && decide (t0 + r.tOnlineMs * 1000000 ≤ s0.now) then
        State.raise { s0 with plant := { p with online := p.online ||| BitVec.ofNat 16 (2 ^ g) } } 0x16080102#32 [byteOf g]
      else s
    | _, _ => s)

/-! ### islands and limits (R245, R246) -/

/-- One pass over the closed ties: both ends take the lower lead. -/
def joinTies (ties : List (Nat × Nat)) (lead : List Nat) : List Nat :=
  ties.foldl (fun (l : List Nat) (p : Nat × Nat) =>
    let m := min (l.getD p.1 p.1) (l.getD p.2 p.2)
    (l.set p.1 m).set p.2 m) lead

def joinAll (ties : List (Nat × Nat)) : Nat → List Nat → List Nat
  | 0, l => l
  | k + 1, l => joinAll ties k (joinTies ties l)

/-- The lead section of every section's island under a set of closed ties. -/
def islandsOf (n : Nat) (ties : List (Nat × Nat)) : List Nat :=
  let l := joinAll ties 8 (List.range 8)
  (List.range 8).map (fun i => if i < n then l.getD i i else 0)

/-- The closed ties. -/
def Plant.closedTies (p : Plant) (r : DraftPlant) : List (Nat × Nat) :=
  (List.zipWith (fun (i : Nat) (x : TieRec) => (i, x)) (List.range r.ties.length) r.ties).filterMap
    (fun e => if (p.brk true e.1).closed then some (e.2.a, e.2.b) else none)

/-- Generator sets with their index. -/
def genIds (r : DraftPlant) : List (Nat × GenRec) := List.zip (List.range r.gens.length) r.gens

/-- P_cont and P_st of the sections `mem`, with the online sets `on` (R246). -/
def Plant.limits (p : Plant) (r : DraftPlant) (on : Nat → Bool) (mem : Nat → Bool) : F64 × F64 :=
  let g := (genIds r).filter (fun e => on e.1 && mem e.2.sect)
  let secs := (List.zip (List.range r.sects.length) r.sects).filter (fun e => mem e.1)
  let loads := fsum (secs.map (fun e => p.loadOf e.2))
  let res := fsum (secs.map (fun e => e.2.reserve))
  let cont := fsum (g.map (fun e => fmul e.2.pRated (p.derateOf e.2)))
  let st := fsum (g.map (fun e => fmul e.2.pRated e.2.kst))
  (fsub (fsub cont loads) res, fsub st loads)

/-- The latest t_loss of the sections of an island (R246). -/
def Plant.lossOf (p : Plant) (lead : Nat) : Option Nat :=
  (List.zip p.island p.tLoss).foldl (fun (m : Option Nat) e => if e.1 = lead then
    (match m, e.2 with
     | some a, some b => some (max a b)
     | none, b => b
     | a, none => a) else m) none

/-- P_alloc of a section's island for a node at the DTIME t (R246). -/
def State.pAlloc (s : State) (sec t : Nat) : F64 :=
  let p := s.plant
  let lead := p.island.getD sec sec
  let cont := p.cont.getD sec 0
  let st := p.st.getD sec 0
  let tSt := s.plantRec.tSt
  match p.lossOf lead with
  | some t0 =>
    let frac := fsub (fofNat 1) (fdiv (fdiv (fofInt ((t : Int) - (t0 : Int))) (fofNat 1000000000)) tSt)
    if feq tSt 0 then cont else fadd cont (fmul (fsub st cont) (fmin (fofNat 1) (fmax 0 frac)))
  | none => cont

/-- The thrusters of an island with their commands in force. -/
def State.islandThr (s : State) (lead : Nat) : List (Nat × ThrRec) :=
  (List.zip s.thrIds s.thrRecs).filter (fun e => s.plant.island.getD e.2.sect e.2.sect == lead)

/-- Limits, estimates and loads of every section, at p+0.05 (R246, R261). -/
def State.plantLimits (s : State) : State :=
  let p := s.plant
  let r := s.plantRec
  let secs := List.range 8
  let lim (i : Nat) : F64 × F64 :=
    if i < r.sects.length then
      p.limits r (fun g => p.online.getLsbD g) (fun x => p.island.getD x x == p.island.getD i i)
    else (0, 0)
  let l := secs.map lim
  let est (i : Nat) : F64 :=
    if i < r.sects.length then
      fsum ((s.islandThr (p.island.getD i i)).map (fun e => powerOf e.2 (s.thr e.1).cmd))
    else 0
  { s with plant := { p with
      cont := l.map Prod.fst, st := l.map Prod.snd, est := secs.map est
      load := secs.map (fun i => match r.sects[i]? with
        | some x => p.loadOf x
        | none => 0) } }

/-- A generator set lost opens the short-term window of its island (R246). -/
def openWindow (p : Plant) (sec t : Nat) : Plant :=
  let lead := p.island.getD sec sec
  { p with tLoss := List.zipWith (fun (i : Nat) (o : Option Nat) => if i = lead then some t else o) p.island p.tLoss }

/-- The trip check's view of the plant: inputs latched, frames taken, breakers, sets, islands, dead sections (R242 to
R245). -/
def State.plantUpdate (s : State) : State :=
  let cut := s.clk.tick + 40000
  let r := s.plantRec
  let p0 := s.plant
  let early := p0.diPend.filter (fun e => decide (e.2.1 < cut))
  let di := early.foldl (fun (d : BitVec 16) e =>
    if e.2.2 then d ||| BitVec.ofNat 16 (2 ^ e.1) else d &&& ~~~(BitVec.ofNat 16 (2 ^ e.1))) p0.di
  let frames := p0.goosePend.filter (fun e => decide (e.2.1 < cut))
  let s1 : State := { s with plant := { p0 with
    di := di, diPend := p0.diPend.filter (fun e => decide (cut ≤ e.2.1))
    goosePend := p0.goosePend.filter (fun e => decide (cut ≤ e.2.1)) } }
  let s2 := frames.foldl (fun (a : State) e => a.takeGoose e.1 e.2.2) s1
  let p2 := s2.plant
  let gens := List.zipWith (fun (k : Brk) (g : GenRec) => k.step p2 g.breaker s2.now) p2.gens r.gens
  let ties := List.zipWith (fun (k : Brk) (g : TieRec) => k.step p2 g.breaker s2.now) p2.ties r.ties
  let p3 : Plant := { p2 with
    gens := gens ++ p2.gens.drop gens.length, ties := ties ++ p2.ties.drop ties.length }
  let ids := List.range r.gens.length
  let lost := ids.filter (fun g => p3.online.getLsbD g && !(p3.brk false g).closed)
  let closedAt := (List.range 16).map (fun g =>
    if (p3.brk false g).closed then some ((p3.closedAt.getD g none).getD s2.now) else none)
  let online := lost.foldl (fun (o : BitVec 16) g => o &&& ~~~(BitVec.ofNat 16 (2 ^ g))) p3.online
  let s3 : State := { s2 with plant := { p3 with closedAt := closedAt, online := online } }
  let s4 := lost.foldl (fun (a : State) g => a.raise 0x16280101#32 [byteOf g]) s3
  let island := islandsOf r.sects.length (s4.plant.closedTies r)
  let s5 : State := { s4 with plant := { s4.plant with island := island } }
  let s6 := if island = s4.plant.island then s5 else s5.raise 0x16080103#32
  let dead := (List.range r.sects.length).filter (fun i =>
    !(genIds r).any (fun e => online.getLsbD e.1 && island.getD e.2.sect e.2.sect == island.getD i i))
  let deadV : BitVec 8 := BitVec.ofNat 8 ((dead.map (fun i => 2 ^ i)).foldl (· + ·) 0)
  let s7 : State := { s6 with plant := { s6.plant with dead := deadV } }
  let s8 := dead.foldl (fun (a : State) i => if s4.plant.dead.getLsbD i then a else a.raise 0x16380106#32 [byteOf i]) s7
  let p8 := lost.foldl (fun (p : Plant) g => match r.gens[g]? with
    | some x => openWindow p x.sect s8.clk.tick
    | none => p) s8.plant
  State.plantLimits { s8 with plant := p8 }

/-! ### phase-back (R247 to R249) -/

/-- One thruster takes its share of a phase-back: a cap only replaces a higher one (R248). -/
def State.capThr (s : State) (kappa : F64) (e : Nat × ThrRec) : State × Bool :=
  let x := s.thr e.1
  let f := v2scale kappa x.cmd
  let m := if e.2.azi then v2norm f else fabs f.2
  let lower := match x.cap with
    | some c => flt m c.f
    | none => true
  if lower then
    (s.setThr e.1 { x with
      cmd := f, capSeq := x.capSeq + 1, cap := some { f := m, p := powerOf e.2 f, raised := s.clk.tick } }, true)
  else (s.setThr e.1 { x with cmd := f }, false)

/-- Phase-back on one island: the island, κ and the thrusters whose caps were raised, if any (R248). -/
def State.phaseIsland (s : State) (lead : Nat) : State × Option (Nat × F64 × List Nat) :=
  let l := s.islandThr lead
  let p := s.plant
  let dead := p.dead.getLsbD lead
  let st := p.st.getD lead 0
  if l.isEmpty || !(dead || flt st (p.est.getD lead 0)) then (s, none)
  else
    let pairs := l.map (fun e => (e.2, (s.thr e.1).cmd))
    let total (k : F64) : F64 := fsum (pairs.map (fun q => powerOf q.1 (v2scale k q.2)))
    let kappa := if dead || flt st (total 0) then 0 else bisect (fun k => fle (total k) st) 16 0 (fofNat 1)
    let (s1, ids) := l.foldl (fun (a : State × List Nat) e =>
      let (t, hit) := a.1.capThr kappa e
      (t, if hit then a.2 ++ [e.1] else a.2)) (s, [])
    if ids.isEmpty then (s1, none)
    else ({ s1 with plant := { s1.plant with
      pbIsl := lead, pbKappa := (frintClamp (fscale kappa 16) 0 65535).toNat } }, some (lead, kappa, ids))

/-- Phase-back in the trip check: caps, the Observer's thrust input, the telegrams of the pick; the islands on which caps were raised
(R247 to R249). -/
def State.phaseBack (s : State) : State × List (Nat × F64 × List Nat) :=
  let leads := (List.range s.plantRec.sects.length).filter (fun i => s.plant.island.getD i i == i)
  let (s1, pb) := leads.foldl (fun (a : State × List (Nat × F64 × List Nat)) i =>
    let (t, r) := a.1.phaseIsland i
    (t, a.2 ++ r.toList)) (s, [])
  if pb.isEmpty then (s1, [])
  else
    let ids := pb.flatMap (fun r => r.2.2)
    let s2 := State.raise { s1 with plant := { s1.plant with pbCnt := sat32 s1.plant.pbCnt } } 0x16290104#32
    let s3 := (s2.logTau).plantLimits
    if s3.drives then
      let (s4, out) := s3.driveFrames (ids.filterMap (fun t => (s3.thrRec t).map (fun r => (r.sess, 2, s3.capOf t true))))
      ({ s4 with warp := { s4.warp with txPhase := s4.warp.txPhase ++ out } }, pb)
    else (s3, pb)

/-- The phase-back record of an island (R647): lead section, thrusters capped, κ, PWR_PBREACT, then each thruster's cap. -/
def State.phaseRecord (s : State) (r : Nat × F64 × List Nat) : State :=
  s.stage 5 true 0x16 0 ([byteOf r.1, byteOf r.2.2.length] ++ beF32 r.2.1 ++ be32 s.plant.pbReact
    ++ r.2.2.flatMap (fun t => [byteOf t, 0#8] ++ be16 (s.thr t).capSeq.toNat ++ (match (s.thr t).cap with
      | some c => beF32 c.f
      | none => zeros 4)))

/-- `sent` of the waiting phase-back telegrams are on the wire, the last of them `react` ns after the latch at p+0.05 (R67, R249). -/
def State.sendPhase (s : State) (sent react : Nat) : State :=
  let l := s.warp.txPhase
  if l.isEmpty then s
  else
    let s1 := State.emitAll { s with warp := { s.warp with txPhase := l.drop sent } } (l.take sent)
    if l.length ≤ sent then { s1 with plant := { s1.plant with pbReact := react } } else s1

/-! ### registers (R261, R262) -/

/-- The DTIME of the next beat edge, the present instant while none is scheduled. -/
def State.nextEdgeOr (s : State) : Nat :=
  match s.warp.nextEdge with
  | some k => tickAfter (k - s.warp.pickCount) s.clk.tick
  | none => s.now

/-- A write to PWR_SECSEL takes the snapshot (R262). -/
def State.writeSecsel (s : State) (v : Word) : State :=
  let p := s.plant
  let i := v.toNat % 8
  let f (x : F64) : Word := f64to32 x
  { s with plant := { p with
      sel := word i, selCont := f (p.cont.getD i 0), selSt := f (p.st.getD i 0)
      selAlloc := f (s.pAlloc i s.nextEdgeOr), selEst := f (p.est.getD i 0), selLoad := f (p.load.getD i 0) } }

/-- PWR_SECSEL_WRITE (R262). -/
def execPwrSecselWrite (v : Word) (s : State) : Host.Outcome State Fault Refusal := .next (s.writeSecsel v)

/-- A source of a breaker is stale now. -/
def Plant.srcStale (p : Plant) (b : BrkSource) : Bool :=
  match b.kind with
  | .goose i m => (p.sub i).seen && (p.member i m).isNone
  | .di _ => false
  | .prio st bit => (p.prioFast.find? (fun e => e.1 == (st, bit))).any (fun e => e.2.isNone)

/-- A number's member is stale or of bad quality now. -/
def Plant.numStale (p : Plant) : NumSource → Bool
  | .fixed _ => false
  | .goose i m _ => (p.sub i).seen && (p.member i m).isNone

/-- PWR_PPSTAT, PWR_GENON and PWR_TIES as they stand at p+0.05 (R261, R262). -/
def State.plantLatch (s : State) : State :=
  let p := s.plant
  let r := s.plantRec
  let n := r.sects.length
  let win (i : Nat) : Bool := match p.lossOf (p.island.getD i i) with
    | some t0 => i < n && flt (fdiv (fofNat (s.clk.tick - t0)) (fofNat 1000000000)) r.tSt
    | none => false
  { s with plant := { p with
    ppStat := word (p.dead.toNat + maskOf win (List.range 8) * 256
      + countP (fun i => p.island.getD i i == i) (List.range n) * 65536)
    genOn := word (p.online.toNat + maskOf (fun (g : GenRec) => g.breaker.any p.srcStale || p.numStale g.derate) r.gens * 65536)
    tieStat := word (maskOf (fun (b : Brk) => b.closed) (p.ties.take r.ties.length)
      + maskOf (fun (t : TieRec) => t.breaker.any p.srcStale) r.ties * 65536) } }

/-- The value of a power-plant register (R261, R262), by its offset from 0x0800. -/
def State.plantReg (s : State) (off : Nat) : Word :=
  let p := s.plant
  match off with
  | 0x00 => p.ppStat
  | 0x04 => p.genOn
  | 0x08 => p.tieStat
  | 0x0C => word ((List.range 8).foldl (fun a i => a + p.island.getD i 0 * 8 ^ i) 0)
  | 0x10 => p.sel
  | 0x14 => p.selCont
  | 0x18 => p.selSt
  | 0x1C => p.selAlloc
  | 0x20 => p.selEst
  | 0x24 => p.selLoad
  | 0x28 => word p.pbCnt
  | 0x2C => word (p.pbIsl + p.pbKappa * 65536)
  | 0x30 => word p.pbReact
  | _ => 0

/-- A breaker source names a member of a dataset of up to 64, one of the 16 fast digital inputs, or a PRIO fast input (R240, R577). -/
def srcKindOk : SrcKind → Bool
  | .goose _ m => decide (m < 64)
  | .di k => decide (k < 16)
  | .prio _ _ => true

/-- The power-plant records lie in their ranges (R240 to R242, R257). -/
def plantParamOk (d : DraftPlant) : Bool :=
  let within (x lo hi : F64) : Bool := fle lo x && fle x hi
  let src (l : List BrkSource) : Bool :=
    (decide (l.length = 1) || decide (l.length = 2)) && l.all (fun b => srcKindOk b.kind) &&
    (match l with
     | [a, b] => (match a.kind, b.kind with
        | .goose _ _, .goose _ _ => false
        | .di _, .di _ => false
        | .prio _ _, .prio _ _ => false
        | _, _ => true)
     | _ => true)
  let load (n : NumSource) : Bool := match n with
    | .fixed v => ffinite v
    | .goose _ m v => decide (m < 64) && v.all (fun x => within x 0 (fofNat 100000))
  let derate (n : NumSource) : Bool := match n with
    | .fixed v => feq v (fofNat 1)
    | .goose _ m v => decide (m < 64) && v.all (fun x => within x 0 (fofNat 1))
  decide (d.gens.length ≤ 16 ∧ d.sects.length ≤ 8 ∧ d.ties.length ≤ 12)
    && d.gens.all (fun g => decide (g.sect < d.sects.length) && ffinite g.pRated && within g.kst (fofNat 1) (fofRat 3 2)
      && src g.breaker && decide (g.tOnlineMs ≤ 60000) && derate g.derate)
    && d.sects.all (fun x => load x.load && within x.reserve 0 (fofNat 100000))
    && d.ties.all (fun t => decide (t.a < d.sects.length ∧ t.b < d.sects.length) && src t.breaker)
    && within d.tSt 0 (fofNat 60) && decide (d.diFilterUs ≤ 500 ∧ d.diFilterUs % 10 = 0)

end Sys2Proof.Machine
end

