-- ==== Sys2Proof/Machine/Qp.lean ====
section
/-! DEFINITION. The Wheel's arithmetic: the quadratic program of R154 to R156, Ruiz scaling, starting points, the interior-point
iteration with its LDLᵀ factorization in binary32, the measures of R168 and the certificate of R169 (R165 to R173, R177, R188 to R190).
DESIGN CHOICE (log entry 131): sums run in ascending index, products into sums are fused as the tile fuses them, and the scaling leaves
the cost unscaled; the engine program that fixes the reduction order is private to the Workbench. -/

namespace Sys2Proof.Machine

/-! ### binary32 with one rounding -/

/-- The exact product of two values. -/
def fpProd (a b : Fp) : Fp :=
  match a, b with
  | .nan, _ => .nan
  | _, .nan => .nan
  | .inf _, .zero _ => .nan
  | .zero _, .inf _ => .nan
  | .inf x, .inf y => .inf (x != y)
  | .inf x, .fin y _ _ => .inf (x != y)
  | .fin x _ _, .inf y => .inf (x != y)
  | .zero x, .zero y => .zero (x != y)
  | .zero x, .fin y _ _ => .zero (x != y)
  | .fin x _ _, .zero y => .zero (x != y)
  | .fin x m1 e1, .fin y m2 e2 => .fin (x != y) (m1 * m2) (e1 + e2)

/-- a·b + c with one rounding, as the tiles of the supernode engines compute it. -/
def f32Fma (a b c : F32) : F32 := f32Of 5 a b (fpAdd 24 8 (fpProd (f32Decode a) (f32Decode b)) (f32Decode c))

/-! ### the problem (R154 to R156) -/

/-- Column numbers of the stored entries from the column pointers (R161). -/
def colsOf (ptr : List Nat) : List Nat :=
  ((List.range (ptr.length - 1)).map (fun j => List.replicate (ptr.getD (j + 1) 0 - ptr.getD j 0) j)).flatten
/-- The stored positions (row, column) in storage order. -/
def positions (ptr rows : List Nat) : List (Nat × Nat) := List.zip rows (colsOf ptr)

/-- The stored value at a position; 0 outside the pattern. -/
def storedAt (l : List ((Nat × Nat) × F64)) (i j : Nat) : F64 :=
  match l.find? (fun e => e.1.1 == i && e.1.2 == j) with
  | some e => e.2
  | none => 0

/-- A matrix of r rows and c columns by its entries. -/
def matRect (r c : Nat) (f : Nat → Nat → F64) : Mat := (List.range r).map (fun i => (List.range c).map (f i))

/-- P from its stored upper triangle, and A (R155, R161). -/
def schedP (w : WheelSched) (v : QpVals) : Mat :=
  let l := List.zip (positions w.colP w.rowP) v.p
  matRect w.n w.n (fun i j => storedAt l (min i j) (max i j))
def schedA (w : WheelSched) (v : QpVals) : Mat :=
  let l := List.zip (positions w.colA w.rowA) v.a
  matRect w.m w.n (fun i j => storedAt l i j)

/-- 1 × 10²⁰, from which a bound counts as infinite (R156). -/
def qpInf : F64 := fofNat 100000000000000000000

/-- The class of a row (R156). -/
inductive RowClass where
  | equality | lower | upper | two | free
  deriving DecidableEq, Repr

def rowClass (l u : F64) : RowClass :=
  let lo := !fle l (fneg qpInf)
  let hi := !fle qpInf u
  if lo && hi then (if feq l u then .equality else .two) else if lo then .lower else if hi then .upper else .free

/-- A side has a slack and a multiplier. -/
def RowClass.lo : RowClass → Bool
  | .lower => true
  | .two => true
  | _ => false
def RowClass.hi : RowClass → Bool
  | .upper => true
  | .two => true
  | _ => false

/-- The values are finite and no lower bound lies above its upper bound (R165 item 2). -/
def valsOk (v : QpVals) : Bool :=
  v.p.all ffinite && v.q.all ffinite && v.a.all ffinite && v.l.all ffinite && v.u.all ffinite
    && (List.zipWith fle v.l v.u).all (fun b => b)

/-! ### scaling (R165 item 3) -/

/-- The ∞-norm of a vector. -/
def normInf (l : List F64) : F64 := l.foldl (fun m x => fmax m (fabs x)) 0

/-- A scaled problem with its scaling: x = d·x̂ and λ = e·λ̂, element by element. -/
structure Qp where
  p : Mat
  a : Mat
  q : List F64
  l : List F64
  u : List F64
  cls : List RowClass
  d : List F64
  e : List F64

/-- Column j of a matrix. -/
def column (a : Mat) (j : Nat) : List F64 := a.map (fun r => r.getD j 0)
/-- Aᵀ·y for a matrix of c columns. -/
def matTVec (a : Mat) (c : Nat) (y : List F64) : List F64 := (List.range c).map (fun j => fdotl (column a j) y)

/-- The factor that brings a norm to 1 in the limit of the passes. -/
def ruizFactor (x : F64) : F64 := if feq x 0 then fofNat 1 else fdiv (fofNat 1) (fsqrt x)

/-- Rows and columns of a matrix multiplied by factors. -/
def scaleBoth (r c : List F64) (a : Mat) : Mat := List.zipWith (fun k row => List.zipWith (fun f x => fmul (fmul k x) f) c row) r a

/-- One pass of Ruiz scaling over P, A and q. -/
def Qp.ruiz (s : Qp) : Qp :=
  let dj := (List.range s.q.length).map (fun j => ruizFactor (fmax (normInf (column s.p j)) (normInf (column s.a j))))
  let ei := s.a.map (fun r => ruizFactor (normInf r))
  { s with
    p := scaleBoth dj dj s.p, a := scaleBoth ei dj s.a, q := List.zipWith fmul dj s.q
    d := List.zipWith fmul s.d dj, e := List.zipWith fmul s.e ei }

/-- The problem as it stands, with the scaling 1. -/
def qpOf (w : WheelSched) (v : QpVals) : Qp :=
  { p := schedP w v, a := schedA w v, q := v.q, l := v.l, u := v.u, cls := List.zipWith rowClass v.l v.u
    d := List.replicate w.n (fofNat 1), e := List.replicate w.m (fofNat 1) }

/-- Four passes; the bounds follow their rows. -/
def Qp.scaled (s : Qp) : Qp :=
  let t := s.ruiz.ruiz.ruiz.ruiz
  { t with l := List.zipWith fmul t.e s.l, u := List.zipWith fmul t.e s.u }

/-! ### points -/

/-- Rows of a point with their class, bounds and A·x. -/
structure RowNow where
  cls : RowClass
  l : F64
  u : F64
  ax : F64
  pt : RowPt

def Qp.rows (s : Qp) (z : IpPoint) : List RowNow :=
  (List.zip s.cls (List.zip s.l (List.zip s.u (List.zip (matVec s.a z.x) z.rows)))).map (fun e =>
    { cls := e.1, l := e.2.1, u := e.2.2.1, ax := e.2.2.2.1, pt := e.2.2.2.2 })

/-- y = λ^u − λ^l on rows with a slack (R156). -/
def rowY (c : RowClass) (ll lu y : F64) : F64 :=
  match c with
  | .equality => y
  | .free => 0
  | .lower => fneg ll
  | .upper => lu
  | .two => fsub lu ll

/-- The cold start (R177). -/
def Qp.cold (s : Qp) : IpPoint :=
  let one := fofNat 1
  { x := List.replicate s.q.length 0
    rows := (List.zip s.cls (List.zip s.l s.u)).map (fun e =>
      { sl := fmax one (fneg e.2.1), su := fmax one e.2.2, ll := one, lu := one, y := rowY e.1 one one one }) }

/-- The warm start from shifted unscaled values (R173): x, λ^l, λ^u and the record's mean complementarity. On an equality row y is the
difference of the two multipliers that the record holds (log entry 131). -/
def Qp.warm (s : Qp) (x ll lu : List F64) (mu : F64) : IpPoint :=
  let theta := fmax (fofRat 1 10000) (fsqrt mu)
  let xs := List.zipWith fdiv x s.d
  let ls := List.zip (List.zipWith fdiv ll s.e) (List.zipWith fdiv lu s.e)
  { x := xs
    rows := (List.zip s.cls (List.zip s.l (List.zip s.u (List.zip (matVec s.a xs) ls)))).map (fun e =>
      let a := fmax e.2.2.2.2.1 theta
      let b := fmax e.2.2.2.2.2 theta
      { sl := fmax (fsub e.2.2.2.1 e.2.1) theta, su := fmax (fsub e.2.2.1 e.2.2.2.1) theta, ll := a, lu := b
        y := rowY e.1 a b (fsub e.2.2.2.2.2 e.2.2.2.2.1) }) }

/-! ### the measures of R166 -/

/-- Complementarity products of the finite sides. -/
def RowNow.comp (r : RowNow) : List F64 :=
  (if r.cls.lo then [fmul r.pt.sl r.pt.ll] else []) ++ (if r.cls.hi then [fmul r.pt.su r.pt.lu] else [])
/-- The mean over all finite sides; 0 without any. -/
def meanComp (l : List RowNow) : F64 :=
  let c := (l.map RowNow.comp).flatten
  if c.isEmpty then 0 else fdiv (fsum c) (fofNat c.length)

/-- λ^l/s^l + λ^u/s^u. -/
def RowNow.w (r : RowNow) : F64 :=
  fadd (if r.cls.lo then fdiv r.pt.ll r.pt.sl else 0) (if r.cls.hi then fdiv r.pt.lu r.pt.su else 0)
/-- inv(W): 0 on an equality row. DESIGN CHOICE (log entry 131): a free row is ignored by a 1 here and zeros in its row of K. -/
def RowNow.winv (r : RowNow) : F64 :=
  match r.cls with
  | .equality => 0
  | .free => fofNat 1
  | _ => fdiv (fofNat 1) r.w

/-- Slack residuals. -/
def RowNow.rl (r : RowNow) : F64 := fsub (fsub r.ax r.l) r.pt.sl
def RowNow.ru (r : RowNow) : F64 := fsub (fsub r.u r.ax) r.pt.su

/-! ### K and its factor (R166, R167, R188, R189) -/

/-- 1 × 10⁻⁹, times 100 for every raise, at most 1 × 10⁻⁵ (R166, R189). -/
def regular (raised : Nat) : F64 :=
  let k := min raised 2
  fofRat 1 (if k = 0 then 1000000000 else if k = 1 then 10000000 else 100000)

/-- K in binary64 (R166). -/
def Qp.matK (s : Qp) (rows : List RowNow) (reg : F64) : Mat :=
  let n := s.q.length
  let act : Mat := List.zipWith (fun (r : RowNow) (a : List F64) => if r.cls = .free then a.map (fun _ => 0) else a) rows s.a
  let top := (List.zip (List.range n) s.p).map (fun e =>
    e.2.set e.1 (fadd (e.2.getD e.1 0) reg) ++ column act e.1)
  let low := (List.zip (List.range rows.length) (List.zip rows act)).map (fun e =>
    e.2.2 ++ (List.replicate rows.length 0).set e.1 (fneg (fadd e.2.1.winv reg)))
  top ++ low

/-- The order of a permutation applied to a list. -/
def permute {α : Type} (perm : List Nat) (z : α) (l : List α) : List α := perm.map (fun i => l.getD i z)
/-- The same undone. -/
def unpermute (perm : List Nat) (l : List F64) : List F64 :=
  (List.range perm.length).map (fun k => l.getD (perm.idxOf k) 0)

/-- A factor: each pivot with the column below it, in the schedule's order. -/
abbrev Ldl := List (F32 × List F32)

/-- Elimination of one pivot after another: pivots of the wrong sign or below `lim` are replaced by `rep` with the right sign and
counted (R188). -/
def ldlFrom (lim rep : F32) : List Bool → List (List F32) → Ldl × Nat
  | neg :: signs, row :: rest =>
    let d0 := row.headD 0
    let bad := f32Lt (f32Abs d0) lim || (if neg then f32Lt 0 d0 else f32Lt d0 0)
    let d := if bad then (if neg then f32Neg rep else rep) else d0
    let us := row.drop 1
    let ls := us.map (fun u => f32Div u d)
    let next := List.zipWith (fun (r : List F32) (l : F32) =>
      List.zipWith (fun a u => f32Fma (f32Neg l) u a) (r.drop 1) us) rest ls
    let (f, k) := ldlFrom lim rep signs next
    ((d, ls) :: f, k + b2n bad)
  | _, _ => ([], 0)

/-- The largest of a list of binary32 magnitudes. -/
def f32Top (l : List F32) : F32 := l.foldl (fun m x => if f32Lt m (f32Abs x) then f32Abs x else m) 0

/-- L·D·Lᵀ of K rounded to binary32, in the schedule's order; the first `n` unknowns are the positive block. -/
def ldlOf (n : Nat) (perm : List Nat) (k : Mat) : Ldl × Nat :=
  let rows := (permute perm [] k).map (fun r => (permute perm 0 r).map f64to32)
  let top := f32to64 (f32Top ((List.zip (List.range rows.length) rows).map (fun e => e.2.getD e.1 0)))
  ldlFrom (f64to32 (fdiv top (fofNat 10000000000))) (f64to32 (fdiv top (fofNat 1000000))) (perm.map (fun i => decide (n ≤ i))) rows

/-- A factorization that failed: NaN or infinity, or more than 64 replacements (R189). -/
def ldlBad (f : Ldl × Nat) : Bool :=
  decide (64 < f.2) || !f.1.all (fun e => f32Finite e.1 && e.2.all f32Finite)

/-- Forward and backward substitution in binary32. -/
def forward : Ldl → List F32 → List F32
  | e :: f, b :: l => b :: forward f (List.zipWith (fun x k => f32Fma (f32Neg k) b x) l e.2)
  | _, _ => []
def backward : Ldl → List F32 → List F32
  | e :: f, z :: l =>
    let xs := backward f l
    (List.zipWith (fun k x => (k, x)) e.2 xs).foldl (fun a p => f32Fma (f32Neg p.1) p.2 a) z :: xs
  | _, _ => []

/-- The triangular solves in binary32 for a right-hand side in the schedule's order. -/
def solve32 (f : Ldl) (b : List F64) : List F64 :=
  (backward f (List.zipWith (fun z (e : F32 × List F32) => f32Div z e.1) (forward f (b.map f64to32)) f)).map f32to64

/-- One solve: the triangular solves and exactly two refinement steps against K in binary64 (R167). -/
def kSolve (k : Mat) (perm : List Nat) (f : Ldl) (b : List F64) : List F64 :=
  let one (r : List F64) : List F64 := unpermute perm (solve32 f (permute perm 0 r))
  let refine (x : List F64) : List F64 := vecAdd x (one (List.zipWith fsub b (matVec k x)))
  refine (refine (one b))

/-! ### directions and steps (R166) -/

/-- The right-hand side of a row's complementarity: the target minus s·λ, less a second-order term. -/
structure RowTarget where
  cl : F64
  cu : F64

def RowNow.rhs (r : RowNow) (t : RowTarget) : F64 :=
  match r.cls with
  | .equality => fsub r.l r.ax
  | .free => 0
  | _ =>
    let gu := if r.cls.hi then fdiv (fsub t.cu (fmul r.pt.lu r.ru)) r.pt.su else 0
    let gl := if r.cls.lo then fdiv (fsub t.cl (fmul r.pt.ll r.rl)) r.pt.sl else 0
    fneg (fmul r.winv (fsub gu gl))

/-- The direction of a row from A·δx and the solved δy. -/
def RowNow.dir (r : RowNow) (t : RowTarget) (adx dy : F64) : RowPt :=
  let dsl := fadd adx r.rl
  let dsu := fsub r.ru adx
  let dll := fdiv (fsub t.cl (fmul r.pt.ll dsl)) r.pt.sl
  let dlu := fdiv (fsub t.cu (fmul r.pt.lu dsu)) r.pt.su
  { sl := if r.cls.lo then dsl else 0, su := if r.cls.hi then dsu else 0, ll := if r.cls.lo then dll else 0
    lu := if r.cls.hi then dlu else 0, y := rowY r.cls dll dlu dy }

/-- The direction for the targets `t`. -/
def Qp.direction (s : Qp) (z : IpPoint) (rows : List RowNow) (solve : List F64 → List F64) (t : List RowTarget) : IpPoint :=
  let n := s.q.length
  let rd := vecAdd (vecAdd (matVec s.p z.x) s.q) (matTVec s.a n (z.rows.map RowPt.y))
  let v := solve (rd.map fneg ++ List.zipWith RowNow.rhs rows t)
  let dx := v.take n
  { x := dx
    rows := (List.zip (List.zip rows t) (List.zip (matVec s.a dx) (v.drop n))).map (fun e => e.1.1.dir e.1.2 e.2.1 e.2.2) }

/-- The largest step that keeps a value at or above 0. -/
def toZero (m v dv : F64) : F64 := if flt dv 0 then fmin m (fdiv (fneg v) dv) else m
/-- α_max over slacks and multipliers of the finite sides; at most 10⁴ (every use takes the lesser of it and 1). -/
def maxStep (rows : List RowNow) (d : List RowPt) : F64 :=
  (List.zip rows d).foldl (fun m e =>
    let a := if e.1.cls.lo then toZero (toZero m e.1.pt.sl e.2.sl) e.1.pt.ll e.2.ll else m
    if e.1.cls.hi then toZero (toZero a e.1.pt.su e.2.su) e.1.pt.lu e.2.lu else a) (fofNat 10000)

/-- A point moved by α along a direction. -/
def movePt (z : IpPoint) (al : F64) (d : IpPoint) : IpPoint :=
  let g (a b : F64) : F64 := fadd a (fmul al b)
  { x := List.zipWith g z.x d.x
    rows := List.zipWith (fun (a b : RowPt) =>
      { sl := g a.sl b.sl, su := g a.su b.su, ll := g a.ll b.ll, lu := g a.lu b.lu, y := g a.y b.y }) z.rows d.rows }

/-- What an iteration comes to: pivots replaced, factorizations repeated for a failure, the raises of dp and dd, and the new point with
its step, none when the second factorization failed too (R166, R188, R189). -/
structure IpOut where
  pivots : Nat
  refac : Nat
  raised : Nat
  next : Option (IpPoint × F64 × IpPoint)

/-- The predictor-corrector step with a factored K (R166). -/
def Qp.step (s : Qp) (z : IpPoint) (rows : List RowNow) (solve : List F64 → List F64) : IpPoint × F64 × IpPoint :=
  let mu := meanComp rows
  let one := fofNat 1
  let aff := s.direction z rows solve (rows.map (fun r => { cl := fneg (fmul r.pt.sl r.pt.ll), cu := fneg (fmul r.pt.su r.pt.lu) }))
  let alAff := fmin one (maxStep rows aff.rows)
  let muAff := meanComp (s.rows (movePt z alAff aff))
  let ratio := if feq mu 0 then 0 else fdiv muAff mu
  let tgt := fmul (fmul (fmul ratio ratio) ratio) mu
  let cor := s.direction z rows solve ((List.zip rows aff.rows).map (fun e =>
    { cl := fsub (fsub tgt (fmul e.1.pt.sl e.1.pt.ll)) (fmul e.2.sl e.2.ll)
      cu := fsub (fsub tgt (fmul e.1.pt.su e.1.pt.lu)) (fmul e.2.su e.2.lu) }))
  let al := fmin one (fmul (fofRat 99 100) (maxStep rows cor.rows))
  (movePt z al cor, al, cor)

/-- One iteration of R166 on the scaled problem. -/
def Qp.iteration (s : Qp) (perm : List Nat) (raised : Nat) (z : IpPoint) : IpOut :=
  let rows := s.rows z
  let n := s.q.length
  let k1 := s.matK rows (regular raised)
  let f1 := ldlOf n perm k1
  if ldlBad f1 then
    let up := min 2 (raised + 1)
    let k2 := s.matK rows (regular up)
    let f2 := ldlOf n perm k2
    { pivots := f1.2 + f2.2, refac := 1, raised := up
      next := if ldlBad f2 then none else some (s.step z rows (kSolve k2 perm f2.1)) }
  else { pivots := f1.2, refac := 0, raised := raised, next := some (s.step z rows (kSolve k1 perm f1.1)) }

/-! ### the iterate on the unscaled problem (R168, R169) -/

/-- Multipliers λ^l and λ^u of a row as R172 holds them: 0 where the side is infinite, y of an equality row split by its sign. -/
def rowLam (c : RowClass) (p : RowPt) : F64 × F64 :=
  match c with
  | .equality => (fmax 0 (fneg p.y), fmax 0 p.y)
  | _ => (if c.lo then p.ll else 0, if c.hi then p.lu else 0)

/-- Σ (u·λ^u − l·λ^l) over the finite sides. -/
def boundSum (s : Qp) (ll lu : List F64) : F64 :=
  fsum ((List.zip s.cls (List.zip (List.zip s.l s.u) (List.zip ll lu))).map (fun e =>
    let fin := e.1 == .equality
    fsub (if fin || e.1.hi then fmul e.2.1.2 e.2.2.2 else 0) (if fin || e.1.lo then fmul e.2.1.1 e.2.2.1 else 0)))

/-- ‖Ax − Π(Ax)‖ over the rows. -/
def projGap (s : Qp) (ax : List F64) : F64 :=
  normInf ((List.zip s.cls (List.zip (List.zip s.l s.u) ax)).map (fun e =>
    let fin := e.1 == .equality
    let hi := if (fin || e.1.hi) && flt e.2.1.2 e.2.2 then e.2.1.2 else e.2.2
    fsub e.2.2 (if (fin || e.1.lo) && flt e.2.2 e.2.1.1 then e.2.1.1 else hi)))

/-- The measures of an iterate: `s` unscaled, `sc` scaled, the new scaled point, its step length and direction. -/
def measure (s sc : Qp) (z : IpPoint) (al : F64) (dir : IpPoint) : WheelStep :=
  let one := fofNat 1
  let n := s.q.length
  let x := List.zipWith fmul sc.d z.x
  let lam (p : List RowPt) : List (F64 × F64) :=
    (List.zip sc.e (List.zipWith rowLam sc.cls p)).map (fun e => (fmul e.1 e.2.1, fmul e.1 e.2.2))
  let ls := lam z.rows
  let ll := ls.map Prod.fst
  let lu := ls.map Prod.snd
  let y := List.zipWith fsub lu ll
  let ax := matVec s.a x
  let px := matVec s.p x
  let aty := matTVec s.a n y
  let half := fmul (fofRat 1 2) (fdotl x px)
  let pv := fadd half (fdotl s.q x)
  let dv := fsub (fneg half) (boundSum s ll lu)
  -- the dual step: its parts per side, each scaled back
  let dl := (List.zip sc.e (List.zip sc.cls dir.rows)).map (fun e =>
    match e.2.1 with
    | .equality => (fmul e.1 (fmax 0 (fneg e.2.2.y)), fmul e.1 (fmax 0 e.2.2.y))
    | _ => (fmul e.1 e.2.2.ll, fmul e.1 e.2.2.lu))
  let dy := dl.map (fun e => fsub e.2 e.1)
  { x := x, lamL := ll, lamU := lu
    rp := fdiv (projGap s ax) (fmax one (normInf ax))
    rd := fdiv (normInf (vecAdd (vecAdd px s.q) aty)) (fmax one (fmax (normInf px) (fmax (normInf aty) (normInf s.q))))
    gap := fdiv (fabs (fsub pv dv)) (fmax one (fmax (fabs pv) (fabs dv)))
    mu := meanComp (sc.rows z), alpha := al, normX := normInf z.x
    certA := normInf (matTVec s.a n dy), certY := normInf dy, certSum := boundSum s (dl.map Prod.fst) (dl.map Prod.snd) }

end Sys2Proof.Machine
end

