-- ==== Sys2Proof/Machine/Alloc.lean ====
section
/-! DEFINITION. ALLOC: availability, the values of the joint problem, and the ALLOC registers (R228 to R239, R257 to R260). The
quantities of a beat stand by family, thruster and node; the schedule says which variable or row stands for which of them, and its
pattern where the values go (log entry 13). -/

namespace Sys2Proof.Machine

/-! ### availability (R230, R231) -/

/-- A thruster's drive cannot be reached: cause 3, 4 or 5 holds (R230, R277). -/
def State.driveCut (s : State) (t : Nat) (r : ThrRec) : Bool :=
  !s.sessLive r.sess || !(s.thr t).drvReady || (r.station.map (fun k => s.rio.dropped.contains k)).getD false

/-- The lowest cause of unavailability of a thruster; 0 when it is available (R230). -/
def State.thrCause (s : State) (t : Nat) (r : ThrRec) : Nat :=
  let x := s.thr t
  let slotFb := match r.slot with
    | some k => (match aget k s.loop.slots with
        | some q => q.st == 4 || q.st == 5
        | none => false)
    | none => false
  if !x.on then 1
  else if s.plant.dead.getLsbD r.sect then 2
  else if !s.sessLive r.sess then 3
  else if !x.drvReady then 4
  else if (r.station.map (fun k => s.rio.dropped.contains k)).getD false then 5
  else if slotFb then 6 else 0

/-- THRUSTER_AVAILABILITY at a started beat edge (R230). -/
def State.availability (s : State) : State :=
  s.thrIds.foldl (fun (a : State) t =>
    match a.thrRec t with
    | none => a
    | some r =>
      let x := a.thr t
      let c := a.thrCause t r
      let az0 := if !v2zero x.cmd then Config.fatan2 x.cmd.2 x.cmd.1
        else match x.drvAz with
          | some b => bamToRad b
          | none => x.lastAz
      let b := a.setThr t { x with cause := c, cut := a.driveCut t r, az0 := az0 }
      if x.cause = 0 ∧ c ≠ 0 then b.raise 0x06200002#32 [byteOf t, byteOf c]
      else if x.cause ≠ 0 ∧ c = 0 then b.raise 0x06000003#32 [byteOf t]
      else b) s

/-- The commands of the last dispatched beat come into force at their application time; a lifting command lifts the cap
it knew (R128, R252). -/
def State.applyCommands (s : State) : State :=
  let due (x : Thr) : Bool := match x.next with
    | some n => decide (nearestMs n.2.1 ≤ nearestMs s.clk.tick)
    | none => false
  let before := s.thrIds.filter (fun t => (s.thr t).cap.isSome)
  let s1 := s.thrIds.foldl (fun (a : State) t =>
    let x := a.thr t
    if due x then
      match x.next with
      | some n =>
        let lifts := n.2.2 && x.lift == some x.capSeq
        let cap := if lifts then none else x.cap
        let m := v2norm n.1
        let f := match cap with
          | some c => if flt c.f m then v2scale (fdiv c.f m) n.1 else n.1
          | none => n.1
        a.setThr t { x with
          cmd := f, next := none, lift := none, cap := cap
          lastAz := if v2zero f then x.lastAz else Config.fatan2 f.2 f.1 }
      | none => a
    else a) s
  let leads := (before.filterMap (fun t => (s.thrRec t).map (fun r => s.plant.island.getD r.sect r.sect))).eraseDups
  let lifted := leads.filter (fun i => !(s1.islandThr i).any (fun e => (s1.thr e.1).cap.isSome))
  lifted.foldl (fun (a : State) i => a.raise 0x16090105#32 [byteOf i]) s1

/-! ### wedges (R234) -/

/-- How far a direction can turn before it meets a forbidden sector, clockwise and counterclockwise; none when it meets
none. -/
def freeTurn (r : ThrRec) (a : F64) : F64 × F64 :=
  r.sectors.foldl (fun (m : F64 × F64) p =>
    let q := sectorRad p
    if (insideSector a p).isSome then (0, 0)
    else (fmin m.1 (fmod2pi (fsub q.1 a)), fmin m.2 (fmod2pi (fsub a (fadd q.1 q.2))))) (f2pi, f2pi)

/-- The wedge at a node as an arc relative to α_0: its two edges (R234). `w0` is the wedge of node 0, `dir` the direction
that the centre shall be near, relative to α_0. -/
def wedgeArc (r : ThrRec) (az0 tau : F64) (w0 : Option V2) (dir : F64) : V2 :=
  let reach := fmul r.azRate tau
  let free := freeTurn r az0
  let hi := fmin reach free.1
  let lo := fneg (fmin reach free.2)
  let half := fmul fpi (fofRat 1 2)
  if fle (fsub hi lo) fpi then (lo, hi)
  else
    let full := fle f2pi (fsub hi lo)
    let cLo := if full then fneg fpi else fadd lo half
    let cHi := if full then fpi else fsub hi half
    let b := match w0 with
      | some w => (fmax cLo (fsub w.2 half), fmin cHi (fadd w.1 half))
      | none => (cLo, cHi)
    -- the centre in the range that lies nearest the direction on the circle
    let far (c : F64) : F64 := fabs (fwrap (fsub c dir))
    let nearer (c e : F64) : F64 := if flt (far e) (far c) then e else c
    let at' (d : F64) : F64 := fclamp d b.1 b.2
    let c := nearer (nearer (at' dir) (at' (fadd dir f2pi))) (at' (fsub dir f2pi))
    (fsub c half, fadd c half)

/-- The inward normals of a wedge's edges. -/
def wedgeNormals (az0 : F64) (w : V2) : V2 × V2 :=
  let a := fadd az0 w.1
  let b := fadd az0 w.2
  ((fneg (Config.fsin a), Config.fcos a), (Config.fsin b, fneg (Config.fcos b)))

/-- The direction of a plan at a DTIME (R181, R234). -/
def planAt (p : WheelPlan) (t at' : Nat) : V2 :=
  let nodes := p.nodes.getD t []
  let last := nodes.length - 1
  if p.hMs = 0 ∨ at' ≤ p.apply then nodes.getD 0 (0, 0)
  else
    let step := p.hMs * 1000000
    let j := (at' - p.apply) / step
    if last ≤ j then nodes.getD last (0, 0)
    else
      let f := fdiv (fofNat ((at' - p.apply) % step)) (fofNat step)
      let a := nodes.getD j (0, 0)
      v2add a (v2scale f (v2sub (nodes.getD (j + 1) (0, 0)) a))

/-! ### the data image (R232 to R239) -/

/-- Seconds of a count of ms. -/
def msToS (n : Nat) : F64 := fdiv (fofNat n) (fofNat 1000)

/-- The wedges of an azimuth thruster at nodes 0 to `h`. -/
def State.wedges (s : State) (t : Nat) (r : ThrRec) (h hMs : Nat) : List (V2 × V2) :=
  let x := s.thr t
  let rel (v : V2) : F64 := if v2zero v then 0 else fwrap (fsub (Config.fatan2 v.2 v.1) x.az0)
  let dir (j : Nat) : F64 := match s.wheel.plan with
    | some p => rel (planAt p t (s.nextEdgeOr + j * hMs * 1000000))
    | none => 0
  let w0 := wedgeArc r x.az0 (msToS s.n) none (dir 0)
  (List.range (h + 1)).map (fun j =>
    wedgeNormals x.az0 (if j = 0 then w0 else wedgeArc r x.az0 (msToS (s.n + j * hMs)) (some w0) (dir j)))

/-- Unit directions of the rate rows: four for an azimuth thruster, the body y axis for a tunnel thruster (R233). -/
def rateDirs (azi : Bool) : List V2 :=
  if azi then (List.range 4).map (fun i => v2dir (fmul (fofNat i) (fdiv fpi (fofNat 4)))) else [(0, fofNat 1)]

/-- The tangent planes of the power curve with the row p ≥ P0 (R236). -/
def powerRows (r : ThrRec) (k : Nat) : List (F64 × F64 × F64) :=
  let dirs := if r.azi then (List.range 8).map (fun i => v2dir (fmul (fofNat i) (fdiv fpi (fofNat 4))))
    else [(0, fofNat 1), (0, fneg (fofNat 1))]
  let row (e : V2) (i : Nat) : F64 × F64 × F64 :=
    let ref := let x := fRef r e; if feq x 0 then fofNat 1 else x
    let q := fdiv (fofNat (i + 1)) (fofNat k)
    let g := fadd r.p0 (fmul (fsub r.pMax r.p0) (fmul q (fsqrt q)))
    let slope := fdiv (fmul (fmul (fofRat 3 2) (fsub r.pMax r.p0)) (fsqrt q)) ref
    (fmul slope e.1, fmul slope e.2, fsub g (fmul slope (fmul q ref)))
  (0, 0, r.p0) :: (dirs.map (fun e => (List.range k).map (row e))).flatten

/-- The values of one thruster; the second part says whether it counts as widened (R233 to R236). -/
def State.thrImage (s : State) (t : Nat) (r : ThrRec) (k h hMs : Nat) : ThrImg × Bool :=
  let x := s.thr t
  let avail := x.cause == 0
  let fm := f32to64 r.fMax
  let hi : V2 := if !avail then (0, 0) else if r.azi then (fm, fm) else (0, f32to64 r.fFwd)
  let lo : V2 := if !avail then (0, 0) else if r.azi then (fneg fm, fneg fm) else (0, fneg (f32to64 r.fRev))
  let f' := limitClip r avail x.cmd
  let df := fmul r.thrRate (msToS s.n)
  let need := (rateDirs r.azi).map (fun d => v2dot d (v2sub f' x.cmd))
  ({ avail := avail, lo := lo, hi := hi
     wedge := if r.azi then s.wedges t r h hMs else []
     rateLo := need.map (fun e => fmin (fneg df) e)
     rateHi := need.map (fun e => fmax df e)
     rateStep := fmul r.thrRate (msToS hMs)
     power := powerRows r k, fIn := x.cmd },
   !v2eq f' x.cmd)

/-- Bus limits of every section at a node time: the island's limit in its lead section's row, the others and the rows of
dead sections free (R237). -/
def State.busRow (s : State) (t : Nat) : List (Option F64) :=
  (List.range s.plantRec.sects.length).map (fun i =>
    if s.plant.island.getD i i == i && !s.plant.dead.getLsbD i then some (s.pAlloc i t) else none)

/-- The schedule of the main solve by the conditions as they hold now (R163). -/
def State.roleNow (s : State) : Nat :=
  match s.draft with
  | some d => if d.wheel.scheds.any (fun w => w.role == 2) && decide (3 ≤ s.guide.mode) && !s.wheel.wdeg then 2 else 1
  | none => 1
/-- At a started beat edge the conditions of R163 are taken as they hold at T_k. -/
def State.latchRole (s : State) : State := { s with wheel := { s.wheel with role := s.roleNow } }
/-- The schedule of the beat's main solve (R163). -/
def State.solveRole (s : State) : Nat := s.wheel.role

def State.sched (s : State) (role : Nat) : Option WheelSched :=
  match s.draft with
  | some d => d.wheel.scheds.find? (fun w => w.role == role)
  | none => none

/-- The disturbance in the body frame at a heading (R239). -/
def State.disturb (s : State) (psi : F64) : V3 :=
  let c := Config.fcos psi; let sn := Config.fsin psi
  let x := s.obs.x
  v3add (fadd (fmul c (xget x 6)) (fmul sn (xget x 7)), fsub (fmul c (xget x 7)) (fmul sn (xget x 6)), xget x 8) s.guide.wind

/-- The Observer's estimate at T_k moved to T_{k+1} under the commands in force: N, E, ψ, u, v, r (R239). -/
def State.estimateNext (s : State) : List F64 :=
  match s.draft with
  | some d =>
    let md := obsModel d.obs s.obs.omega
    let t := s.beatEdge
    (obsPropagate md s.obs.tauLog (s.obs.tauWind.getD (0, 0, 0)) t (t + s.n * 1000000)
      { x := s.obs.x, p := matZero 18, phi := matId 18 }).x.take 6
  | none => []

def v3clip (a lim : V3) : V3 :=
  (fclamp a.1 (fneg lim.1) lim.1, fclamp a.2.1 (fneg lim.2.1) lim.2.1, fclamp a.2.2 (fneg lim.2.2) lim.2.2)

/-! ### values at their places (R157, R233 to R239) -/

/-- The part of a force component in the generalized force of its thruster: surge, sway, yaw (R229). -/
def forceTau (r : ThrRec) (y : Bool) : V3 := if y then (0, fofNat 1, mmToM r.x) else (fofNat 1, 0, fneg (mmToM r.y))
def v3at (v : V3) (k : Nat) : F64 := if k = 0 then v.1 else if k = 1 then v.2.1 else v.2.2
def v2at (v : V2) (y : Bool) : F64 := if y then v.2 else v.1
def m3at (m : M3) (i j : Nat) : F64 := v3at (if i = 0 then m.1 else if i = 1 then m.2.1 else m.2.2) j
def b2f (b : Bool) : F64 := if b then fofNat 1 else 0

/-- What the values of a data image are formed from: the Draft, the image's quantities, and the horizon's last node and step. -/
structure ImgCtx where
  d : Draft
  im : Image
  h : Nat
  /-- The horizon step in seconds. -/
  dt : F64

def ImgCtx.thr (c : ImgCtx) (t : Nat) : Option (ThrRec × ThrImg) :=
  match c.d.alloc.thr[t]?, c.im.thr[t]? with
  | some r, some i => some (r, i)
  | _, _ => none

/-- c_b,t: the thruster's section belongs to the present island of section b (R237). -/
def ImgCtx.member (c : ImgCtx) (b t : Nat) : Bool :=
  match c.d.alloc.thr[t]? with
  | some r => c.im.island.getD r.sect r.sect == c.im.island.getD b b
  | none => false

/-- Coefficients of the dynamics rows of node j at the vessel state of node j or of the next (R239). -/
def ImgCtx.dynVessel (c : ImgCtx) (j k : Nat) (next : Bool) (k' : Nat) : F64 :=
  let psi := c.im.psiR.getD j 0
  let cs := fmul c.dt (Config.fcos psi)
  let sn := fmul c.dt (Config.fsin psi)
  if k < 3 then
    if k' = k then (if next then fofNat 1 else fneg (fofNat 1))
    else if next then 0
    else if k = 0 then (if k' = 3 then fneg cs else if k' = 4 then sn else 0)
    else if k = 1 then (if k' = 3 then fneg sn else if k' = 4 then fneg cs else 0)
    else (if k' = 5 then fneg c.dt else 0)
  else if k' < 3 then 0
  else
    let m := m3at c.d.obs.m (k - 3) (k' - 3)
    if next then m else fsub (fmul c.dt (m3at c.d.obs.d (k - 3) (k' - 3))) m

/-- The value of A at a row and a variable by what they stand for (R233 to R239). -/
def ImgCtx.coef (c : ImgCtx) (row : RowRole) (v : VarRole) : F64 :=
  match row, v with
  | .avail t j y, .force t' j' y' => b2f (t == t' && j == j' && y == y')
  | .region t j i, .force t' j' y => if t = t' ∧ j = j' then v2at (facetNormal i) y else 0
  | .wedge t j second, .force t' j' y =>
    (match c.thr t with
     | some p =>
       let n := p.2.wedge.getD j ((0, 0), (0, 0))
       if t = t' ∧ j = j' then v2at (if second then n.2 else n.1) y else 0
     | none => 0)
  | .rate t j i, .force t' j' y =>
    (match c.thr t with
     | some p =>
       let e := v2at ((rateDirs p.1.azi).getD i (0, 0)) y
       if t ≠ t' then 0 else if j' = j then e else if j' + 1 = j then fneg e else 0
     | none => 0)
  | .power t j _, .power t' j' => b2f (t == t' && j == j')
  | .power t j i, .force t' j' y =>
    (match c.thr t with
     | some p =>
       let e := p.2.power.getD i (0, 0, 0)
       if t = t' ∧ j = j' then fneg (if y then e.2.1 else e.1) else 0
     | none => 0)
  | .bus b j, .power t j' => b2f (j == j' && c.member b t)
  | .bus b j, .busSlack b' j' => fneg (b2f (b == b' && j == j'))
  | .slackPos b j, .busSlack b' j' => b2f (b == b' && j == j')
  | .demand k, .force t j y =>
    (match c.thr t with
     | some p => if j = 0 then v3at (forceTau p.1 y) k else 0
     | none => 0)
  | .demand k, .demandSlack k' => fneg (b2f (k == k'))
  | .dynamics j k, .vessel j' k' =>
    if j' = j then c.dynVessel j k false k' else if j' = j + 1 then c.dynVessel j k true k' else 0
  | .dynamics j k, .force t j' y =>
    (match c.thr t with
     | some p => if j = j' ∧ 3 ≤ k then fneg (fmul c.dt (v3at (forceTau p.1 y) (k - 3))) else 0
     | none => 0)
  | .initial k, .vessel j k' => b2f (j == 0 && k == k')
  | _, _ => 0

/-- A bound that counts as infinite (R156). -/
def noLower : F64 := fneg qpInf
def noUpper : F64 := qpInf

/-- l and u of a row by what it stands for (R233 to R237, R239). -/
def ImgCtx.bounds (c : ImgCtx) (row : RowRole) : V2 :=
  match row with
  | .avail t _ y =>
    (match c.thr t with
     | some p => (v2at p.2.lo y, v2at p.2.hi y)
     | none => (0, 0))
  | .region t _ i =>
    (match c.thr t with
     | some p => (noLower, f32to64 ((facetsOf p.1).getD i 0))
     | none => (noLower, noUpper))
  | .wedge _ _ _ => (0, noUpper)
  | .rate t j i =>
    (match c.thr t with
     | some p =>
       let base := v2dot ((rateDirs p.1.azi).getD i (0, 0)) p.2.fIn
       if c.im.rateFree then (noLower, noUpper)
       else if j = 0 then (fadd base (p.2.rateLo.getD i 0), fadd base (p.2.rateHi.getD i 0))
       else (fneg p.2.rateStep, p.2.rateStep)
     | none => (noLower, noUpper))
  | .power t _ i =>
    (match c.thr t with
     | some p => ((p.2.power.getD i (0, 0, 0)).2.2, noUpper)
     | none => (noLower, noUpper))
  | .bus b j => (noLower, match (c.im.bus.getD j []).getD b none with
    | some p => p
    | none => noUpper)
  | .slackPos _ _ => (0, noUpper)
  | .demand k => (v3at c.im.demand k, v3at c.im.demand k)
  | .dynamics j k =>
    if k < 3 then (0, 0)
    else
      let x := fmul c.dt (v3at (c.im.dist.getD j (0, 0, 0)) (k - 3))
      (x, x)
  | .initial k => (c.im.x0.getD k 0, c.im.x0.getD k 0)

/-- Scalar product of two generalized forces. -/
def ImgCtx.tauDot (c : ImgCtx) (t : Nat) (y : Bool) (v : V3) : F64 :=
  match c.thr t with
  | some p => v3dot (forceTau p.1 y) v
  | none => 0

/-- The value of P at two variables (R207, R238): ½·w_σ2·σ² for the quadratic penalty (log entry 132). -/
def ImgCtx.costP (c : ImgCtx) (v w : VarRole) : F64 :=
  let a := c.d.alloc
  match v, w with
  | .force t j y, .force t' j' y' =>
    let same := t == t' && y == y'
    let own :=
      if same && j == j' then fadd a.wF (fmul a.wDelta (fofNat (if j < c.h then 2 else 1)))
      else if same && (j + 1 == j' || j' + 1 == j) then fneg a.wDelta else 0
    if c.im.role = 2 ∧ j = 0 ∧ j' = 0 then
      match c.thr t' with
      | some p => fadd own (fmul (fadd (fmul (fofNat 2) c.im.cont) a.wFf) (c.tauDot t y (forceTau p.1 y')))
      | none => own
    else own
  | .busSlack b j, .busSlack b' j' => if b = b' ∧ j = j' then a.wSig2 else 0
  | .demandSlack k, .demandSlack k' => if k = k' then v3at a.wS k else 0
  | .vessel j k, .vessel j' k' =>
    if j = j' ∧ k = k' then (if k < 2 then fmul c.im.trackW a.wPos else if k = 2 then fmul c.im.trackW a.wHdg else 0) else 0
  | _, _ => 0

/-- The value of q at a variable (R207, R238). -/
def ImgCtx.costQ (c : ImgCtx) (v : VarRole) : F64 :=
  let a := c.d.alloc
  match v with
  | .force t j y =>
    let fin := match c.thr t with
      | some p => v2at p.2.fIn y
      | none => 0
    let start := if j = 0 then fneg (fmul a.wDelta fin) else 0
    if c.im.role = 2 ∧ j = 0 then
      fsub start (c.tauDot t y (v3add (v3scale (fmul (fofNat 2) c.im.cont) c.im.tauObs) (v3scale a.wFf c.im.tauFf)))
    else start
  | .power _ _ => a.wP
  | .busSlack _ _ => a.wSig
  | .demandSlack _ => 0
  | .vessel j k =>
    let r := c.im.refs.getD j (0, 0, 0)
    if k < 2 then fneg (fmul (fmul c.im.trackW a.wPos) (v3at r k))
    else if k = 2 then fneg (fmul (fmul c.im.trackW a.wHdg) r.2.2) else 0

/-- The values at the places of a schedule's pattern (R157): an explicit zero stays in its place. -/
def fillVals (d : Draft) (w : WheelSched) (im : Image) : QpVals :=
  let c : ImgCtx := { d := d, im := im, h := w.hSteps, dt := msToS w.hMs }
  let var (i : Nat) : VarRole := w.vars.getD i (.demandSlack 3)
  let row (i : Nat) : RowRole := w.rows.getD i (.demand 3)
  let b := w.rows.map c.bounds
  { p := (positions w.colP w.rowP).map (fun e => c.costP (var e.1) (var e.2))
    q := w.vars.map c.costQ
    a := (positions w.colA w.rowA).map (fun e => c.coef (row e.1) (var e.2))
    l := b.map Prod.fst, u := b.map Prod.snd }

/-- Angles in order, each moved by whole turns to within half a turn of the one before it (R239). -/
def unwrapFrom : F64 → List F64 → List F64
  | _, [] => []
  | p, a :: l => let b := fadd p (fwrap (fsub a p)); b :: unwrapFrom b l

/-- ALLOC writes the data image (R157, R232 to R239). -/
def State.writeImage (s : State) : State :=
  match s.draft with
  | none => s
  | some d =>
    let role := s.solveRole
    let w := s.sched role
    let h := if role = 2 then (w.map WheelSched.hSteps).getD 0 else 0
    let hMs := if role = 2 then (w.map WheelSched.hMs).getD 0 else 0
    let jP := if role = 2 then d.alloc.jP.getD (min 4 h) else 0
    let l := (List.zip s.thrIds d.alloc.thr).map (fun e => s.thrImage e.1 e.2 d.alloc.k h hMs)
    let g := s.guide
    let nodes := if g.nodes.isEmpty then [(g.refP.1, g.refP.2, g.refH)] else g.nodes
    let psi0 := (nodes.headD (0, 0, 0)).2.2
    let psiR := unwrapFrom psi0 (nodes.map (fun p => p.2.2))
    let x0 := s.estimateNext
    let img0 : Image := {
      role := role, edge := s.beatEdge, thr := l.map Prod.fst
      bus := (List.range (jP + 1)).map (fun j => s.busRow (s.nextEdgeOr + j * hMs * 1000000))
      island := s.plant.island, dead := s.plant.dead
      demand := if role = 2 then (0, 0, 0) else v3clip g.demand d.alloc.tauMax
      x0 := if role = 2 then x0.set 2 (fadd psi0 (fwrap (fsub (xget x0 2) psi0))) else []
      psiR := if role = 2 then psiR else []
      dist := if role = 2 then psiR.map s.disturb else []
      refs := if role = 2 then List.zipWith (fun (p : V3) (a : F64) => (p.1, p.2.1, a)) nodes psiR else []
      trackW := if g.soft.isSome then fmax g.beta (fofRat 1 20) else fofNat 1
      cont := if g.soft.isSome then fmul (fsub (fofNat 1) g.beta) d.guide.wCont else 0
      tauObs := (xget s.obs.x 15, xget s.obs.x 16, xget s.obs.x 17)
      tauFf := g.tauFf }
    let img := match w with
      | some x => { img0 with vals := fillVals d x img0 }
      | none => img0
    { s with alloc := { s.alloc with
        image := some img
        nThr := s.thrRecs.length
        availReg := maskOf (fun (x : Thr) => x.cause == 0) (s.alloc.thr.take s.thrRecs.length)
        useReg := maskOf Thr.on (s.alloc.thr.take s.thrRecs.length)
        widen := satAdd 0xFFFF s.alloc.widen (countP (fun (e : ThrImg × Bool) => e.2) l) } }


/-! ### registers (R259, R260) -/

/-- A write to ALLOC_THRSEL takes the snapshot (R260). -/
def State.writeThrsel (s : State) (v : Word) : State :=
  let t := v.toNat % 32
  let a := s.alloc
  match s.thrRec t with
  | none => { s with alloc := { a with
      sel := word t, selStat := 0, selFx := 0, selFy := 0, selPwr := 0, selCapF := 0, selCapP := 0, selAz := 0 } }
  | some r =>
    let x := s.thr t
    let f (y : F64) : Word := f64to32 y
    { s with alloc := { a with
        sel := word t
        selStat := word (x.cause + fbit 3 r.azi + r.sect * 16 + fbit 7 x.cap.isSome + x.capSeq.toNat * 65536)
        selFx := f x.cmd.1, selFy := f x.cmd.2, selPwr := f (powerOf r x.cmd)
        selCapF := (match x.cap with
          | some c => f c.f
          | none => 0)
        selCapP := (match x.cap with
          | some c => f c.p
          | none => 0)
        selAz := radToBam x.az0 } }

/-- ALLOC_THRSEL_WRITE (R260). -/
def execAllocThrselWrite (v : Word) (s : State) : Host.Outcome State Fault Refusal := .next (s.writeThrsel v)

/-- The value of an allocation register (R259, R260). -/
def State.allocReg (s : State) (off : Nat) : Word :=
  let a := s.alloc
  let ts := a.thr.take s.thrRecs.length
  match off with
  | 0x00 => word (a.nThr + countP (fun i => a.availReg.testBit i) (List.range 32) * 64 + a.widen * 65536)
  | 0x04 => word a.availReg
  | 0x08 => word a.useReg
  | 0x0C => word (maskOf (fun (x : Thr) => x.cap.isSome) ts)
  | 0x10 => a.sel
  | 0x14 => a.selStat
  | 0x18 => a.selFx
  | 0x1C => a.selFy
  | 0x20 => a.selPwr
  | 0x24 => a.selCapF
  | 0x28 => a.selCapP
  | 0x2C => a.selAz
  | 0x40 => word (a.cqCycles % 65536 + a.cqN * 65536)
  | _ =>
    if 0x44 ≤ off ∧ off ≤ 0x60 ∧ off % 4 = 0 then
      match a.cqRes[(off - 0x44) / 4]? with
      | some r => word (r.result + r.deficit * 256 + r.util * 1048576)
      | none => 0
    else 0

/-- A value of signed 32 bits. -/
def inS32 (x : Int) : Bool := decide (-2147483648 ≤ x ∧ x ≤ 2147483647)

/-- The thruster records and allocation parameters lie in their ranges (R228, R257, R264). A J_P that the Draft leaves at its default
of 4 is taken as min(4, H) (log entry 132). -/
def allocParamOk (d : DraftAlloc) (h : Nat) (driveSess : Nat → Bool) : Bool :=
  let within (x lo hi : F64) : Bool := fle lo x && fle x hi
  let pos3 (v : V3) : Bool := flt 0 v.1 && flt 0 v.2.1 && flt 0 v.2.2
  let blocked (r : ThrRec) : Bool :=
    -- every azimuth lies inside some sector: the start edge of each sector is inside another one
    !r.sectors.isEmpty && r.sectors.all (fun p => r.sectors.any (fun q => (insideSector (bamToRad p.1) q).isSome))
  let one (r : ThrRec) : Bool :=
    decide (r.sect < 8) && inS32 r.x && inS32 r.y && fle 0 r.p0 && fle r.p0 r.pMax && within r.thrRate (fofNat 1000) (fofNat 10000000)
      && driveSess r.sess
      && (match r.slot with
          | some k => decide (k < 64)
          | none => true)
      && (if r.azi then
            ffinite (f32to64 r.fMax) && fle 0 (f32to64 r.fMax) && decide ((facetsOf r).length = 16)
              && (facetsOf r).all (fun f => within (f32to64 f) (fmul (fofRat 1 2) (f32to64 r.fMax)) (f32to64 r.fMax))
              && decide (r.sectors.length ≤ 4) && r.sectors.all (fun p => p.1 != p.2) && !blocked r
              && within r.azRate (fdeg2rad (fofNat 1)) (fdeg2rad (fofNat 60))
          else ffinite (f32to64 r.fFwd) && ffinite (f32to64 r.fRev) && fle 0 (f32to64 r.fFwd) && fle 0 (f32to64 r.fRev))
  let uniq (l : List Nat) : Bool := decide l.Nodup
  decide (1 ≤ d.thr.length ∧ d.thr.length ≤ 32) && d.thr.all one && uniq (d.thr.map ThrRec.sess)
    && decide ((d.jP.getD (min 4 h)) ≤ h) && decide (2 ≤ d.k ∧ d.k ≤ 4) && flt 0 d.wF && flt 0 d.wDelta && within d.wP 0 (fofNat 1)
    && flt 0 d.wSig && flt 0 d.wSig2 && pos3 d.wS && within d.wFf 0 (fofNat 1) && pos3 d.tauMax
    && decide (d.scenarios.length ≤ 8) && within d.mc (fofNat 1) (fofNat 2) && within d.tolc (fofRat 5 1000) (fofRat 20 100)

end Sys2Proof.Machine
end

