-- ==== Sys2Proof/Machine/Guide.lean ====
section
/-! DEFINITION. GUIDE: DP modes, forced changes, soft start, the reference model, joystick, tracks, follow, weathervane,
wind feedforward, the allocation-only law, and the guidance registers (R199 to R227). -/

namespace Sys2Proof.Machine

def State.guideRec (s : State) : Option DraftGuide := s.draft.map (fun d => d.guide)

/-- Modes that hold a position, and modes that hold a heading (R199). -/
def holdsPos (m : Nat) : Bool := decide (3 ≤ m)
def holdsHdg (m : Nat) : Bool := decide (2 ≤ m)

/-- The motion limits in force: v, a, r, yaw acceleration (R208, R222). -/
def Guide.lim (g : Guide) (d : DraftGuide) : F64 × F64 × F64 × F64 := g.limits.getD (d.vMax, d.aMax, d.rMax, d.yawAcc)

/-- The Observer's low-frequency position, velocity in the plane, heading and yaw rate. -/
def State.estPos (s : State) : V2 := (xget s.obs.x 0, xget s.obs.x 1)
def State.estVel (s : State) : V2 := xVel s.obs.x
def State.estHdg (s : State) : F64 := xget s.obs.x 2

/-- R(ψ)·v, body to plane, and R(ψ)ᵀ·v. -/
def rotBody (psi : F64) (v : V2) : V2 :=
  let c := Config.fcos psi; let s := Config.fsin psi
  (fsub (fmul c v.1) (fmul s v.2), fadd (fmul s v.1) (fmul c v.2))
def rotPlane (psi : F64) (v : V2) : V2 :=
  let c := Config.fcos psi; let s := Config.fsin psi
  (fadd (fmul c v.1) (fmul s v.2), fsub (fmul c v.2) (fmul s v.1))

/-! ### tracks (R214 to R216) -/

def wpPos (w : Waypoint) : V2 := (mmToM w.north, mmToM w.east)
def Guide.wp (g : Guide) (i : Nat) : V2 := match g.track[i]? with
  | some w => wpPos w
  | none => (0, 0)

/-- The course of the leg that ends at waypoint i. -/
def Guide.course (g : Guide) (i : Nat) : F64 := let v := v2sub (g.wp i) (g.wp (i - 1)); Config.fatan2 v.2 v.1

/-- The orthogonal projection of a point onto the leg that ends at waypoint i, clamped to it (R215). -/
def Guide.project (g : Guide) (i : Nat) (p : V2) : V2 :=
  let a := g.wp (i - 1)
  let v := v2sub (g.wp i) a
  let l := v2dot v v
  if feq l 0 then a else v2add a (v2scale (fclamp (fdiv (v2dot (v2sub p a) v) l) 0 (fofNat 1)) v)

/-- The along-track point moves a distance along the legs (R215). -/
def Guide.alongTrack (g : Guide) : Nat → F64 → Guide
  | 0, _ => g
  | fuel + 1, dist =>
    let e := g.wp g.leg
    let v := v2sub e g.q
    let l := v2norm v
    if flt dist l then { g with q := v2add g.q (v2scale (fdiv dist l) v) }
    else if g.leg + 1 < g.track.length then Guide.alongTrack { g with q := e, leg := g.leg + 1 } fuel (fsub dist l)
    else { g with q := e }

/-- The speed of the active leg, at most the speed that the reference can attain, its limit in force (R215; DEDUCED, log
entry 14). -/
def Guide.legSpeed (g : Guide) (vMax : F64) : F64 :=
  match g.track[g.leg - 1]? with
  | some w => fmin (f32to64 w.speed) vMax
  | none => 0

/-- The heading setpoint of the active leg (R214, R215). -/
def Guide.legHeading (g : Guide) : Option F64 :=
  match g.track[g.leg - 1]? with
  | some w =>
    if w.rule = 0 then some (g.course g.leg)
    else if w.rule = 1 then some (bamToRad w.value)
    else some (fadd (g.course g.leg) (bamToRadS w.value))
  | none => none

/-- The last waypoint is reached (R215). -/
def Guide.atEnd (g : Guide) : Bool :=
  decide (g.leg + 1 = g.track.length) && v2eq g.q (g.wp g.leg)
    && fle (v2norm (v2sub g.refP (g.wp g.leg))) (fofNat 1)

/-! ### the reference model (R208, R209) -/

/-- The heading error towards a setpoint with a turn direction, and the direction that remains (R209). -/
def headingError (dir : Nat) (sp p : F64) : F64 × Nat :=
  let w := fwrap (fsub sp p)
  let short := if feq (fabs w) fpi then fpi else w
  if dir = 1 then
    let r := fmod2pi (fsub sp p)
    if flt r fpi then (short, 0) else (r, 1)
  else if dir = 2 then
    let r := fmod2pi (fsub p sp)
    if flt r fpi then (short, 0) else (fneg r, 2)
  else (short, 0)

/-- The jerk law (R208). -/
def jerk (w e v a : F64) : F64 :=
  fsub (fsub (fmul (fmul (fmul w w) w) e) (fmul (fmul (fmul (fofNat 3) w) w) v)) (fmul (fmul (fofNat 3) w) a)

def flimit (x m : F64) : F64 := fclamp x (fneg m) m

/-- One step of h seconds of the horizontal reference towards s. -/
def Guide.stepPos (g : Guide) (d : DraftGuide) (h : F64) (s : V2) : Guide :=
  let l := g.lim d
  let e := v2sub s g.refP
  let j : V2 := (jerk d.wr e.1 g.refV.1 g.refA.1, jerk d.wr e.2 g.refV.2 g.refA.2)
  let a := v2limit (v2add g.refA (v2scale h j)) l.2.1
  let v := v2limit (v2add g.refV (v2scale h a)) l.1
  { g with refA := a, refV := v, refP := v2add g.refP (v2scale h v) }

/-- One step of h seconds of the heading reference. -/
def Guide.stepHdg (g : Guide) (d : DraftGuide) (h : F64) : Guide :=
  let l := g.lim d
  let (e, dir) := headingError g.dir g.spH g.refH
  let a := flimit (fadd g.refY (fmul h (jerk d.wr e g.refR g.refY))) l.2.2.2
  let r := flimit (fadd g.refR (fmul h a)) l.2.2.1
  { g with dir := dir, refY := a, refR := r, refH := fmod2pi (fadd g.refH (fmul h r)) }

/-- The setpoint of the horizontal reference in the mode in force (R208, R215, R218). -/
def Guide.target (g : Guide) (d : DraftGuide) : V2 :=
  if g.mode = 4 then g.q
  else if g.mode = 6 then v2sub g.sp (rotBody g.refH (d.lWv, 0))
  else g.sp

/-- One step of both references; in TRACK the along-track point and the leg's heading move too. -/
def Guide.step (g : Guide) (d : DraftGuide) (h : F64) : Guide :=
  let g1 := if g.mode = 4 then
      let a := g.alongTrack (g.track.length + 1) (fmul h (g.legSpeed (g.lim d).1))
      { a with spH := (a.legHeading).getD a.spH }
    else g
  let g2 := if holdsPos g1.mode then g1.stepPos d h (g1.target d) else g1
  if holdsHdg g2.mode then g2.stepHdg d h else g2

def Guide.steps (d : DraftGuide) (h : F64) : Nat → Guide → Guide
  | 0, g => g
  | n + 1, g => Guide.steps d h n (g.step d h)

/-- The reference at the horizon's nodes: steps of 10 ms, the last one shorter where the node needs it (R210). -/
def Guide.horizon (d : DraftGuide) (hMs : Nat) : Nat → Guide → List V3
  | 0, _ => []
  | n + 1, g =>
    let a := Guide.steps d (fofRat 1 100) (hMs / 10) g
    let b := if hMs % 10 = 0 then a else a.step d (msToS (hMs % 10))
    (b.refP.1, b.refP.2, b.refH) :: Guide.horizon d hMs n b

/-! ### mode changes (R199 to R207) -/

/-- Soft start at the edge T_k: the reference takes the Observer's estimate; the setpoints too, unless `keepPos` or `keepHdg` says that
a setpoint command is latched at the edge or that a forced change names the setpoint (R203, R206). -/
def State.softStart (s : State) (keepPos keepHdg : Bool) : State :=
  let g := s.guide
  let p := s.estPos
  let psi := s.estHdg
  let g1 := if holdsPos g.mode then
      { g with refP := p, refV := s.estVel, refA := (0, 0), sp := if keepPos then g.sp else p }
    else g
  let g2 := if holdsHdg g.mode then
      { g1 with
        refH := fmod2pi psi, refR := xget s.obs.x 5, refY := 0
        spH := if keepHdg then g1.spH else fmod2pi psi, dir := if keepHdg then g1.dir else 0 }
    else g1
  { s with guide := { g2 with soft := some s.beatEdge, softDone := false, beta := 0 } }

/-- The relative track that FOLLOW names, while it is confirmed (R113, R200). -/
def State.followTarget (s : State) (k : Nat) : Option Track :=
  let t := s.track k
  if t.st = .confirmed then some t else none

/-- A forced change of mode (R203): the commands latched at the edge that it prevails over are discarded. -/
def State.forced (s : State) (new cause : Nat) (ev : Word) : State :=
  let s1 := s.supersede (s.guide.latched.filter cmdYields)
  let g := s1.guide
  State.raise { s1 with guide := { g with
    mode := new, cause := cause, latched := g.latched.filter (fun (c : GuideCmd) => !cmdYields c), limits := none } } ev

/-- The forced changes of this beat (R203). -/
def State.forcedChanges (s : State) : State :=
  let g := s.guide
  if s.obs.posLost && holdsPos g.mode then
    let s1 := s.forced 2 1 0x06400107#32
    let s2 : State := { s1 with guide := { s1.guide with
      spH := g.refH, dir := 0, joyArmed := (false, false, false) } }
    s2.softStart false true
  else if g.mode = 4 && g.atEnd then
    let s1 := s.forced 3 2 0x06000108#32
    let s2 : State := { s1 with guide := { s1.guide with sp := g.wp g.leg, done := true } }
    s2.softStart true false
  else if g.mode = 5 && (s.followTarget g.followTrk).isNone then
    let s1 := s.forced 3 3 0x06200109#32
    let s2 : State := { s1 with guide := { s1.guide with sp := g.refP } }
    s2.softStart true false
  else s

/-- The kind of a command, for replacement by a later one (R201). -/
def cmdKind : GuideCmd → Nat
  | .mode _ _ => 0 | .position _ _ => 1 | .offset _ _ => 2 | .heading _ _ => 3 | .limits _ _ _ _ => 4
  | .track _ => 5 | .follow _ _ _ => 6 | .wind _ _ => 7 | .thruster t _ => 8 + t

/-- A later command of a kind replaces an earlier one. -/
def lastOfKind : List GuideCmd → List GuideCmd
  | [] => []
  | c :: l => if l.any (fun x => cmdKind x == cmdKind c) then lastOfKind l else c :: lastOfKind l

/-- A mode command is applied (R201, R205). -/
def State.applyMode (s : State) (code trk : Nat) (l : List GuideCmd) : State :=
  let g := s.guide
  if g.mode = code then
    (if code = 5 then { s with guide := { g with followTrk := trk } } else s)
  else
    let s1 := State.raise { s with guide := { g with mode := code, limits := none, fFilt := none } } 0x06000101#32
      [byteOf g.mode, byteOf code]
    let s2 : State := { s1 with guide := { s1.guide with followTrk := if code = 5 then trk else s1.guide.followTrk } }
    if 2 ≤ code then
      let s3 := s2.softStart (l.any (fun c => cmdKind c == 1 || cmdKind c == 2)) (l.any (fun c => cmdKind c == 3))
      if code = 4 then
        let g3 := s3.guide
        { s3 with guide := { g3 with leg := 1, q := Guide.project g3 1 s.estPos } }
      else s3
    else { s2 with guide := { s2.guide with soft := none, softDone := false, beta := 0, remain := 0 } }

/-- A setpoint, limit, wind or thruster command is applied (R201, R214, R217, R221, R231). -/
def State.applySetpoint (s : State) (c : GuideCmd) : State :=
  let g := s.guide
  match c with
  | .mode _ _ => s
  | .position n e => { s with guide := { g with sp := (mmToM n, mmToM e) } }
  | .offset n e => { s with guide := { g with off := (mmToM n, mmToM e) } }
  | .heading h dir =>
    if g.mode = 4 then
      { s with guide := { g with
          track := modifyAt g.track (g.leg - 1) (fun w => if w.rule = 1 then { w with value := h } else w)
          spH := bamToRad h, dir := dir } }
    else { s with guide := { g with spH := bamToRad h, dir := dir } }
  | .limits v a r y =>
    { s with guide := { g with
        limits := some (f32to64 v, f32to64 a, fdeg2rad (f32to64 r), fdeg2rad (f32to64 y)) } }
  | .track pts =>
    let g1 : Guide := { g with track := pts, done := false, leg := 1 }
    { s with guide := { g1 with q := if g.mode = 4 then g1.project 1 s.estPos else g1.wp 0 } }
  | .follow n e rule => { s with guide := { g with off := (mmToM n, mmToM e), followRule := rule } }
  | .wind on k => { s with guide := { g with windCmd := some (on, f32to64 k) } }
  | .thruster t on => s.setThr t { s.thr t with on := on }

/-- The commands latched at the edge take effect: a mode command first, then the others in order (R201). -/
def State.applyLatched (s : State) : State :=
  let l := lastOfKind s.guide.latched
  let s0 : State := { s with guide := { s.guide with latched := [] } }
  let s1 := l.foldl (fun (a : State) c => match c with
    | .mode code trk => a.applyMode code trk l
    | _ => a) s0
  let s2 := l.foldl (fun (a : State) c => a.applySetpoint c) s1
  { s2 with guide := { s2.guide with
      accepted := satAdd 0xFFFF s2.guide.accepted (countP (fun (c : GuideCmd) => decide (cmdKind c < 8)) l) } }

/-! ### joystick (R212, R213) -/

/-- Dead band (R212). -/
def deadBand (db j : F64) : F64 :=
  let x := fclamp j (fneg (fofNat 1)) (fofNat 1)
  if fle (fabs x) db then 0
  else
    let m := fdiv (fsub (fabs x) db) (fsub (fofNat 1) db)
    if flt x 0 then fneg m else m

/-- The joystick's latched record. -/
def State.joyRec (s : State) (i : Nat) : Option InRec := (s.hed i).latched.find? (fun r => r.kind == 9)

/-- Loss and return of the joystick session, and the three axes of this beat (R203, R213). -/
def State.joystick (s : State) (d : DraftGuide) : State × V3 :=
  match d.joy with
  | none => (s, (0, 0, 0))
  | some i =>
    let live := s.sessLive i
    let g := s.guide
    let serial := (s.joyRec i).map InRec.serial
    let s1 : State := { s with guide := { g with
      joyLive := some live, joyOld := if !live && g.joyLive != some false then serial else g.joyOld } }
    let s2 := match g.joyLive with
      | some true => if live then s1 else s1.raise 0x06350104#32
      | some false => if live then s1.raise 0x06050105#32 else s1
      | none => s1
    match s2.joyRec i with
    | some r =>
      if live && s2.guide.joyOld != some r.serial then
        let j (k : Nat) : F64 := deadBand d.db ((slotOf r.slots (0x38 + k)).getD 0)
        let a := s2.guide.joyArmed
        let arm : Bool × Bool × Bool := (a.1 || feq (j 0) 0, a.2.1 || feq (j 1) 0, a.2.2 || feq (j 2) 0)
        ({ s2 with guide := { s2.guide with joyArmed := arm } },
         (if a.1 then j 0 else 0, if a.2.1 then j 1 else 0, if a.2.2 then j 2 else 0))
      else (s2, (0, 0, 0))
    | none => (s2, (0, 0, 0))

/-! ### wind (R219, R220) -/

/-- A coefficient table at an angle 0 … 2π: 37 entries in steps of 10° (R219). DESIGN CHOICE (log entry 135): without a table, which
the Draft may leave out while it switches wind feedforward off, the coefficient is 0. -/
def coefAt (o : Option (List F32)) (gamma : F64) : F64 :=
  let l := o.getD []
  let x := fdiv (frad2deg gamma) (fofNat 10)
  let k := (ffloor x).toNat
  let a := f32to64 (l.getD k 0)
  let b := f32to64 (l.getD (k + 1) 0)
  fadd a (fmul (fsub x (fofNat k)) (fsub b a))

/-- A first-order low pass over an interval (log entry 15). -/
def lowPass (dt tc old x : F64) : F64 := fadd old (fmul (fsub (fofNat 1) (Config.fexp (fneg (fdiv dt tc)))) (fsub x old))

/-- τ_wind of this beat, with suspension, resumption and the ramp (R219, R220). -/
def State.windForce (s : State) (d : DraftGuide) (dt : F64) : State :=
  let g := s.guide
  let tk := s.beatEdge
  let filt := match s.heddle.windOut with
    | some w => some (match g.wFilt with
      | some o => (lowPass dt d.tWf o.1 w.1, lowPass dt d.tWf o.2 w.2)
      | none => w)
    | none => g.wFilt
  let vr := match filt with
    | some w => v2norm w
    | none => 0
  let (on, kw) := match g.windCmd with
    | some c => c
    | none => (d.windOn, d.kw)
  let other := (s.group 4).contra || (s.group 4).dr || filt.isNone || flt d.maxWind vr
  let susp := other || !on
  let s1 := match g.wSusp with
    | some w =>
      if susp && !w && other then s.raise 0x0622010B#32
      else if !susp && w then s.raise 0x0602010C#32 else s
    | none => s
  let ramp := if susp then none else some (g.wRamp.getD tk)
  let k := match ramp with
    | some t0 => fmin (fofNat 1) (fdiv (nsToS (tk - t0)) (fofNat 30))
    | none => 0
  let wind : V3 := match filt with
    | some w =>
      if susp then (0, 0, 0)
      else
        let gamma := fmod2pi (Config.fatan2 w.2 w.1)
        let q := fmul (fmul kw k) (fmul (fmul (fofRat 1 2) d.rhoA) (fmul vr vr))
        let aL := d.aL.getD 0
        (fmul q (fmul (d.aF.getD 0) (coefAt d.cx gamma)), fmul q (fmul aL (coefAt d.cy gamma)),
         fmul q (fmul (fmul aL (d.lOa.getD 0)) (coefAt d.cn gamma)))
    | none => (0, 0, 0)
  { s1 with
    guide := { s1.guide with
      wFilt := if susp then none else filt, wSusp := some susp, wRamp := ramp, wind := wind
      ramping := match ramp with
        | some t0 => decide (tk < t0 + 30000000000)
        | none => false }
    obs := { s1.obs with tauWind := if susp then none else some wind } }

/-! ### setpoints that move on their own (R213, R217, R218) -/

/-- The setpoints of JOYSTICK_AUTO_HEADING, FOLLOW and WEATHERVANE in this beat. -/
def State.moveSetpoints (s : State) (d : DraftGuide) (joyN dt : F64) : State :=
  let g := s.guide
  match g.mode with
  | 2 =>
    if feq joyN 0 then s
    else { s with guide := { g with spH := fmod2pi (fadd g.spH (fmul (fmul joyN (g.lim d).2.2.1) dt)), dir := 0 } }
  | 5 =>
    (match s.followTarget g.followTrk with
     | some t =>
       let age := fdiv (fofInt ((s.beatEdge : Int) - (t.tov : Int))) (fofNat 1000000000)
       let v := s.estVel
       let dd : V2 := (fsub t.d.1 (fmul v.1 age), fsub t.d.2.1 (fmul v.2 age))
       let far := fle (fofNat 5) (v2norm dd)
       { s with guide := { g with
           sp := v2add (v2add s.estPos dd) g.off, tgtValid := true
           spH := if g.followRule = 1 && far then fmod2pi (Config.fatan2 dd.2 dd.1) else g.spH } }
     | none => { s with guide := { g with tgtValid := false } })
  | 6 =>
    let w := rotBody s.estHdg (g.wind.1, g.wind.2.1)
    let f : V2 := (fadd (xget s.obs.x 6) w.1, fadd (xget s.obs.x 7) w.2)
    let ff := match g.fFilt with
      | some o => (lowPass dt d.tWv o.1 f.1, lowPass dt d.tWv o.2 f.2)
      | none => f
    { s with guide := { g with
        fFilt := some ff
        spH := if flt d.fMin (v2norm ff) then fmod2pi (Config.fatan2 (fneg ff.2) (fneg ff.1)) else g.spH
        dir := if flt d.fMin (v2norm ff) then 0 else g.dir } }
  | _ => s

/-- The degrees of freedom that the mode does not hold follow the estimate, moved to T_{k+1} (R208). -/
def State.followEstimate (s : State) : State :=
  if s.obs.valid then
    let g := s.guide
    let dt := msToS s.n
    let p := v2add s.estPos (v2scale dt s.estVel)
    let h := fmod2pi (fadd s.estHdg (fmul dt (xget s.obs.x 5)))
    let g1 := if holdsPos g.mode then g else { g with refP := p, refV := s.estVel, refA := (0, 0), sp := p }
    let g2 := if holdsHdg g.mode then g1 else { g1 with refH := h, refR := xget s.obs.x 5, refY := 0, spH := h, dir := 0 }
    { s with guide := g2 }
  else s

/-- The cross-track error and its warning (R216). -/
def State.crossTrack (s : State) (d : DraftGuide) : State :=
  let g := s.guide
  if g.mode = 4 then
    let c := g.course g.leg
    let v := v2sub s.estPos (g.wp (g.leg - 1))
    let x := fsub (fmul (Config.fcos c) v.2) (fmul (Config.fsin c) v.1)
    let s1 : State := { s with guide := { g with xte := x } }
    if !g.xteOver && flt d.xteWarn (fabs x) then
      State.raise { s1 with guide := { s1.guide with xteOver := true } } 0x06280106#32 (be32 (milli x).toNat)
    else if g.xteOver && fle (fabs x) (fmul (fofRat 8 10) d.xteWarn) then
      State.raise { s1 with guide := { s1.guide with xteOver := false } } 0x06280106#32 (be32 (milli x).toNat)
    else s1
  else { s with guide := { g with xte := 0, xteOver := false } }

/-! ### the allocation-only law (R211, R212) -/

def v3mul (a b : V3) : V3 := (fmul a.1 b.1, fmul a.2.1 b.2.1, fmul a.2.2 b.2.2)

/-- τ_ff (R211). -/
def State.tauFeed (s : State) (d : DraftObs) : V3 :=
  let g := s.guide
  let v := rotPlane g.refH g.refV
  let a := rotPlane g.refH g.refA
  v3add (m3apply d.m (a.1, a.2, g.refY)) (m3apply d.d (v.1, v.2, g.refR))

/-- τ_law (R212). -/
def State.tauLaw (s : State) (d : Draft) : V3 :=
  let g := s.guide
  let x := s.obs.x
  let ep := rotPlane s.estHdg (v2sub g.refP s.estPos)
  let e : V3 := (ep.1, ep.2, fwrap (fsub g.refH s.estHdg))
  let v := rotPlane g.refH g.refV
  let nu : V3 := v3sub (v.1, v.2, g.refR) (xget x 3, xget x 4, xget x 5)
  let b := rotPlane s.estHdg (xget x 6, xget x 7)
  v3sub (v3sub (v3add (v3add (s.tauFeed d.obs) (v3mul d.guide.kp e)) (v3mul d.guide.kd nu)) (b.1, b.2, xget x 8)) g.wind

/-- The demand of the mode in force (R207, R212). -/
def State.demandOf (s : State) (d : Draft) (joy : V3) : V3 :=
  let g := s.guide
  let k := d.guide
  let x := s.obs.x
  let obs : V3 := (xget x 15, xget x 16, xget x 17)
  let law := s.tauLaw d
  let mix : V3 := if g.soft.isSome then v3add (v3scale (fsub (fofNat 1) g.beta) obs) (v3scale g.beta law) else law
  let jx := fmul joy.1 (k.fxMax.getD 0)
  let jy := fmul joy.2.1 (k.fyMax.getD 0)
  match g.mode with
  | 0 => (0, 0, 0)
  | 1 => (jx, jy, fmul joy.2.2 (k.mMax.getD 0))
  | 2 => (jx, jy, mix.2.2)
  | _ => mix

/-- The soft-start blend of this beat; β = 1 awaits SOFT_START_COMPLETE (R207). -/
def State.blend (s : State) (d : DraftGuide) : State :=
  let g := s.guide
  match g.soft with
  | some t0 =>
    let t := nsToS (s.beatEdge - t0)
    let beta := if feq d.tSs 0 then fofNat 1 else fmin (fofNat 1) (fdiv t d.tSs)
    let left := fmax 0 (fsub d.tSs t)
    { s with guide := { g with
        beta := beta, softDone := fle (fofNat 1) beta
        remain := (frintClamp (fmul left (fofNat 10)) 0 65535).toNat } }
  | none => s

/-! ### GUIDE -/

/-- How far the reference moves in this beat, in ms: over the interval since the last started beat; a reference set to the estimate at T_k
in this beat moves from there to T_{k+1} (R204, R206, R208; DEDUCED, log entry 135). -/
def State.refMs (s : State) : Nat := if s.guide.soft == some s.beatEdge then s.n else s.warp.elapsedMs

/-- GUIDE in a started beat (R201 to R220). -/
def State.guideRun (s : State) (d : Draft) : State :=
  let k := d.guide
  let dt := msToS s.warp.elapsedMs
  let s0 := s.forcedChanges
  let l := s0.guide.latched
  let s1 := s0.applyLatched
  let s2 := if s1.guide.enteredActive then
      let a := s1.softStart (l.any (fun c => cmdKind c == 1 || cmdKind c == 2)) (l.any (fun c => cmdKind c == 3))
      { a with guide := { a.guide with enteredActive := false } }
    else s1
  let s3 := s2.blend k
  let (s4, joy) := s3.joystick k
  let s5 := s4.windForce k dt
  let s6 := s5.moveSetpoints k joy.2.2 dt
  let s7 := if s6.obs.valid then { s6 with guide := Guide.steps k (fofRat 1 1000) s6.refMs s6.guide } else s6
  let s8 := (s7.followEstimate).crossTrack k
  let role := s8.solveRole
  let sc := s8.sched 2
  let g := s8.guide
  let nodes : List V3 := match sc with
    | some w => if role = 2 then (g.refP.1, g.refP.2, g.refH) :: Guide.horizon k w.hMs w.hSteps g else []
    | none => []
  let s9 : State := { s8 with guide := { g with
    law := role == 1, nodes := nodes, tauFf := s8.tauFeed d.obs } }
  let s10 : State := { s9 with guide := { s9.guide with demand := s9.demandOf d joy } }
  s10.writeImage

/-- GUIDE (R208), complete at t ns after the tick. -/
def execGuide (t : Ns) (s : State) : Host.Outcome State Fault Refusal :=
  let s0 := s.at t
  let w := s0.warp
  let due := match w.last with
    | some b => b.holders.contains .guide && !b.holders.contains .observe
    | none => false
  .next (if w.run && due && decide (s0.beatEdge + 1500000 ≤ s0.now) then
      let s1 := match s0.draft with
        | some d => s0.guideRun d
        | none => s0
      let s2 := s1.releaseGuide .guide
      { s2 with warp := { s2.warp with stage := if s2.warp.stage == .observed then .guided else s2.warp.stage } }
    else s)

/-- SOFT_START_COMPLETE (R207). -/
def execSoftStartComplete (s : State) : Host.Outcome State Fault Refusal :=
  .next (if s.guide.soft.isSome && s.guide.softDone then
      State.raise { s with guide := { s.guide with soft := none, softDone := false, remain := 0 } } 0x06000102#32
    else s)

/-! ### registers (R225, R226) -/

/-- The mode command that waits for the next edge: the last one accepted. -/
def Guide.pend (g : Guide) : Option Nat :=
  (g.latched ++ g.waiting).foldl (fun (m : Option Nat) c => match c with
    | .mode code _ => some code
    | _ => m) none

/-- The value of a guidance register, by its offset from 0x0C00 (R225, R226). -/
def State.guideReg (s : State) (off : Nat) : Word :=
  let g := s.guide
  let joy := g.joyLive == some true
  let wsusp := g.wSusp.getD false
  let sp := if g.mode = 4 then g.q else g.sp
  match off with
  | 0x00 => word (g.mode + fbit 3 g.pend.isSome + g.pend.getD 0 * 16 + fbit 7 g.soft.isSome + fbit 8 joy + fbit 9 wsusp
      + fbit 10 g.ramping + fbit 11 g.law + g.cause * 4096)
  | 0x04 => word ((frintClamp (fscale g.beta 15) 0 32768).toNat + g.remain * 65536)
  | 0x08 => milli sp.1
  | 0x0C => milli sp.2
  | 0x10 => radToBam g.spH
  | 0x14 => milli g.refP.1
  | 0x18 => milli g.refP.2
  | 0x1C => radToBam g.refH
  | 0x20 => f64to32 g.wind.1
  | 0x24 => f64to32 g.wind.2.1
  | 0x28 => f64to32 g.wind.2.2
  | 0x2C => word (g.leg % 64 + fbit 6 (!g.track.isEmpty) + fbit 7 g.done + g.track.length * 256 + g.followTrk * 65536
      + fbit 22 (g.mode == 5 && g.tgtValid))
  | 0x30 => milli g.xte
  | 0x34 => word (g.accepted + g.superseded * 65536)
  | _ => 0

/-- The guidance parameters lie in their ranges: those that are given, and those that a joystick or wind feedforward makes mandatory
(R219, R223). -/
def guideParamOk (d : DraftGuide) : Bool :=
  let within (x lo hi : F64) : Bool := fle lo x && fle x hi
  let pos3 (v : V3) : Bool := flt 0 v.1 && flt 0 v.2.1 && flt 0 v.2.2
  let table (l : List F32) : Bool := decide (l.length = 37) && (l.head? == l.getLast?) && l.all f32Finite
  let pos (need : Bool) (x : Option F64) : Bool := match x with
    | some v => flt 0 v
    | none => !need
  let tab (need : Bool) (x : Option (List F32)) : Bool := match x with
    | some l => table l
    | none => !need
  let joy := d.joy.isSome
  let wind := d.windOn
  d.joy.all (fun i => decide (i < 512)) && [d.fxMax, d.fyMax, d.mMax].all (pos joy)
    && [d.aF, d.aL, d.lOa].all (pos wind) && [d.cx, d.cy, d.cn].all (tab wind)
    && within d.db 0 (fofRat 2 10) && within d.wr (fofRat 1 100) (fofNat 1) && within d.vMax (fofRat 5 100) (fofNat 3)
    && within d.aMax (fofRat 5 1000) (fofRat 5 10) && within d.rMax (fdeg2rad (fofRat 5 100)) (fdeg2rad (fofNat 2))
    && within d.yawAcc (fdeg2rad (fofRat 1 1000)) (fdeg2rad (fofRat 1 10)) && pos3 d.kp && pos3 d.kd
    && within d.tSs 0 (fofNat 120) && flt 0 d.wCont && within d.maxStep (fofNat 1) (fofNat 1000)
    && within d.radius (fofNat 10) (fofNat 100000) && within d.xteWarn (fofRat 5 10) (fofNat 100)
    && within d.tWv (fofNat 10) (fofNat 600) && within d.fMin 0 (fofNat 10000000) && within d.lWv 0 (fofNat 200)
    && within d.kw 0 (fofNat 1) && within d.tWf (fofRat 5 10) (fofNat 60) && within d.rhoA (fofNat 1) (fofRat 15 10)
    && within d.maxWind (fofNat 5) (fofNat 100)

end Sys2Proof.Machine
end

