-- ==== Sys2Proof/Machine/KilnTable.lean ====
section
/-! DEFINITION. The Kiln table: reading its records and the checks of its load (R407, R408, R438, R439, R471). -/

namespace Sys2Proof.Machine

/-- A little-endian field of n bytes at offset o (R83). -/
def leAt (b : List Byte) (o n : Nat) : Nat := ofLe ((b.drop o).take n)

/-- Length of the table (R438). -/
def kilnTableLen : Nat := 3208

/-- An input record (R438). -/
def kInRec (b : List Byte) : KInRec :=
  { mode := leAt b 0 1, tpsA := leAt b 1 1, tpsB := leAt b 2 1, filter := leAt b 4 2, tdisc := leAt b 6 2 }

/-- An output record (R438). -/
def kOutRec (b : List Byte) : KOutRec :=
  { used := leAt b 0 1 == 1, flags := leAt b 1 1, restart := leAt b 2 1, xmask := leAt b 3 1, imask := leAt b 4 4
    emask := leAt b 8 4, offDelay := leAt b 12 2, iMin := leAt b 14 2 }

/-- An envelope record (R438): the first NSEC sectors. -/
def kEnvRec (b : List Byte) : KEnvRec :=
  { mode := leAt b 0 1, margin := leAt b 2 1, fLim := word (leAt b 4 4), fRev := word (leAt b 8 4), fDot := word (leAt b 12 4)
    omega := word (leAt b 16 4), aMargin := word (leAt b 20 4)
    sectors := ([0, 1, 2, 3].take (leAt b 1 1)).map (fun i => (word (leAt b (24 + 8 * i) 4), word (leAt b (28 + 8 * i) 4))) }

/-- A cross-trip record (R471). -/
def kXtRec (b : List Byte) : KXtRec :=
  { used := leAt b 0 1 == 1, lossEvent := leAt b 1 1 == 1, filter := leAt b 2 2, imask := leAt b 4 4, omask := leAt b 8 2
    flags := leAt b 10 1 }

/-- The records of n bytes from offset o on, k of them. -/
def chunks (b : List Byte) (o n k : Nat) : List (List Byte) := (List.range k).map (fun i => (b.drop (o + n * i)).take n)

/-- The table as its records (R438). -/
def kilnTable (b : List Byte) : KTable :=
  { raw := b, sealId := BitVec.ofNat 64 (leAt b 12 8), p := leAt b 20 4, w := leAt b 24 2, s := leAt b 26 2, tpsEn := leAt b 28 1
    hbT := leAt b 29 1, swInt := leAt b 32 4, swDark := leAt b 36 2
    ins := (chunks b 64 16 32).map kInRec
    outs := (chunks b 576 32 16).map kOutRec
    envs := (chunks b 1088 64 32).map kEnvRec
    xts := (chunks b 3136 16 4).map kXtRec }

/-- Bytes from offset o up to offset e are zero. -/
def zeroFrom (b : List Byte) (o e : Nat) : Bool := ((b.drop o).take (e - o)).all (fun x => x == 0)

/-- The two check values of the table: KA by CRC-32C, KB by CRC-32 (R436, R438). -/
def kilnCrcOk (b : List Byte) : Bool :=
  b.length == kilnTableLen && leAt b 3200 4 == crc32c (b.take 3200)
  && leAt b 3204 4 == glazeCheck { width := 32, refin := true, refout := true, poly := 0x04C11DB7, init := 0xFFFFFFFF, xorout := 0xFFFFFFFF } (b.take 3200)

/-- The header's fields and reserved bytes (R408, R438). -/
def kilnHeaderOk (b : List Byte) (t : KTable) : Bool :=
  b.take 4 == ascii "KTBL" && leAt b 4 2 == 1 && zeroFrom b 6 8 && leAt b 8 4 == kilnTableLen && zeroFrom b 30 32 && zeroFrom b 38 64
  && decide (2000 ≤ t.p ∧ t.p ≤ 1000000 ∧ t.p % 1000 = 0 ∧ 100 ≤ t.w ∧ t.w ≤ 1000 ∧ t.w % 10 = 0 ∧ t.s ≤ 2000 ∧ t.s % 10 = 0)
  && decide (8 * (t.w + t.s) ≤ t.p)
  && decide (2 ≤ t.hbT ∧ t.hbT ≤ 10 ∧ 3600 ≤ t.swInt ∧ t.swInt ≤ 86400 ∧ 100 ≤ t.swDark ∧ t.swDark ≤ 1000)

/-- An input in mode EQUIV or ANTIV. -/
def kSafety (r : KInRec) : Bool := r.mode == 1 || r.mode == 2

/-- Source s is enabled by the table. -/
def kTpsOn (t : KTable) (s : Nat) : Bool := decide (s < 8) && nbit t.tpsEn s

/-- An input record's ranges, reserved bytes and sources (R407, R438, R439). -/
def kInOk (t : KTable) (b : List Byte) : Bool :=
  let r := kInRec b
  let src (x : Nat) : Bool := decide (x ≤ 7) || x == 0xFF
  zeroFrom b 3 4 && zeroFrom b 8 16 && decide (r.mode ≤ 3) && src r.tpsA && src r.tpsB
  && decide (1 ≤ r.filter ∧ r.filter ≤ 2000 ∧ 10 ≤ r.tdisc ∧ r.tdisc ≤ 3000)
  && (!kSafety r || (kTpsOn t r.tpsA && kTpsOn t r.tpsB && r.tpsA != r.tpsB))

/-- The bits that a mask sets below n all name an index that satisfies p, and none lies above. -/
def maskAll (mask n : Nat) (p : Nat → Bool) : Bool := decide (mask < 2 ^ n) && (List.range n).all (fun i => !nbit mask i || p i)

/-- An output record's ranges, reserved bytes and references (R438, R439). -/
def kOutOk (t : KTable) (b : List Byte) : Bool :=
  let r := kOutRec b
  zeroFrom b 16 32 && decide (leAt b 0 1 ≤ 1) && decide (r.flags < 32 ∧ r.xmask < 16 ∧ r.offDelay ≤ 30000 ∧ r.iMin ≤ 1000)
  && (r.restart == 0xFF || (match t.ins[r.restart]? with
      | some i => i.mode == 3
      | none => false))
    && maskAll r.imask 32 (fun n => match t.ins[n]? with
      | some i => kSafety i
      | none => false)
    && maskAll r.emask 32 (fun n => match t.envs[n]? with
      | some e => e.mode != 0
      | none => false)

/-- A direction lies strictly inside a sector. -/
def insideBam (a : Bam) (p : Bam × Bam) : Bool :=
  let d := (a - p.1).toNat
  decide (0 < d ∧ d < (p.2 - p.1).toNat)

/-- Forbidden sectors with equal edges, or none left allowed (R439). -/
def sectorsBad (l : List (Bam × Bam)) : Bool :=
  l.any (fun p => p.1 == p.2) || (!l.isEmpty && l.all (fun p => l.any (fun q => insideBam p.1 q)))

/-- An envelope record's ranges and reserved bytes (R438, R439). -/
def kEnvOk (b : List Byte) : Bool :=
  let r := kEnvRec b
  zeroFrom b 3 4 && zeroFrom b 56 64 && decide (r.mode ≤ 2 ∧ leAt b 1 1 ≤ 4 ∧ r.margin ≤ 50) && !sectorsBad r.sectors

/-- A cross-trip record (R471). -/
def kXtOk (t : KTable) (b : List Byte) : Bool :=
  let r := kXtRec b
  zeroFrom b 11 16 && decide (leAt b 0 1 ≤ 1 ∧ leAt b 1 1 ≤ 1 ∧ r.flags < 8)
  && (!r.used || (decide (60 ≤ r.filter ∧ r.filter ≤ 2000)
    && maskAll r.imask 32 (fun n => match t.ins[n]? with
      | some i => kSafety i
      | none => false)
    && maskAll r.omask 16 (fun n => match t.outs[n]? with
      | some o => o.used
      | none => false)))

/-- Every check of table load: both check values, then every range (R436, R439). -/
def kilnTableOk (b : List Byte) : Bool :=
  let t := kilnTable b
  kilnCrcOk b && kilnHeaderOk b t && (chunks b 64 16 32).all (kInOk t) && (chunks b 576 32 16).all (kOutOk t)
  && (chunks b 1088 64 32).all kEnvOk && (chunks b 3136 16 4).all (kXtOk t)

/-- SEALID of a Draft's table (R438). -/
def sealIdOf (b : List Byte) : U64 := BitVec.ofNat 64 (leAt b 12 8)

end Sys2Proof.Machine
end

