-- ==== Sys2Proof/Machine/Rio.lean ====
section
/-! DEFINITION. RIO: requests, replies, the latch, alive checks, dropped stations, and its registers (R594 to R610, R620 to
R622, R625). -/

namespace Sys2Proof.Machine

def State.stationRecs (s : State) : List StaRec :=
  match s.draft with
  | some d => d.stations
  | none => []
def State.staRec (s : State) (k : Nat) : Option StaRec := s.stationRecs.find? (fun r => r.sta == k)
/-- T_wd of a station in ms (R594). -/
def wdMsOf (r : StaRec) : Nat := r.wd.getD (r.cycle + 9)
def Sta.mod (x : Sta) (m : Nat) : StaMod := (aget m x.mods).getD {}

/-- n bytes from position a as a number, most significant first. -/
def beAt (l : List Byte) (a n : Nat) : Nat := ofBe ((l.drop a).take n)

/-- A module block as received (R599). -/
structure PrioBlock where
  modIx : Nat
  mtype : Nat
  mflags : Nat
  alive : Nat
  data : List Byte
  /-- The bytes that MCHK covers. -/
  body : List Byte
  chkOk : Bool
  deriving DecidableEq, Repr

/-- The module blocks of a reply, at most n of them (R599, R603). -/
def State.prioBlocks (s : State) (r : StaRec) : Nat → List Byte → List PrioBlock
  | 0, _ => []
  | n + 1, l =>
    if l.length < 6 then []
    else
      let dl := beAt l 4 2
      let m := beAt l 0 1
      let g := match (r.mods.find? (fun x => x.index == m)).bind (fun x => x.glaze) with
        | some i => s.glazeSet i
        | none => none
      let w := match g with
        | some y => glazeBytes y
        | none => 0
      let body := l.take (6 + dl)
      let ok := match g with
        | some y => ofBe ((l.drop (6 + dl)).take w) == glazeCheck y body
        | none => true
      { modIx := m, mtype := beAt l 1 1, mflags := beAt l 2 1, alive := beAt l 3 1, data := body.drop 6, body := body, chkOk := ok }
        :: s.prioBlocks r n (l.drop (6 + dl + w))

/-- The alive check of a block (R603): whether it is accepted, the value held from now on, whether a repeat or skip is
counted, whether the sender restarted. -/
def aliveStep (mode skip : Nat) (last : Option Nat) (v : Nat) : Bool × Option Nat × Bool × Bool :=
  if mode = 0 then (true, none, false, false)
  else if mode = 2 ∧ v = 0 then (true, none, false, true)
  else match last with
    | none => (true, some v, false, false)
    | some l =>
      let k := if mode = 1 then 256 else 255
      let step := (v + k - l) % k
      if v = l then (false, some l, true, false)
      else (true, some v, decide (skip < step), false)

/-- A byte of the input image (R487, R604). -/
def State.putInp (s : State) (a : Nat) (l : List Byte) : State :=
  { s with shuttle := { s.shuttle with com := { s.shuttle.com with inp := memWriteBytes s.shuttle.com.inp a l } } }

/-- The status byte of a module (R604). -/
def StaMod.status (m : StaMod) : Nat := if !m.has || m.bad then 2 else if m.now then 0 else 1

/-- Edge records of a fast digital module, the two bytes of each offset exchanged. -/
def swapEdges : Nat → List Byte → List Byte
  | 0, l => l
  | n + 1, l => if l.length < 4 then l else l.take 2 ++ (swapped 2 ((l.drop 2).take 2)) ++ swapEdges n (l.drop 4)

/-- Module data between wire and image, which keeps every value little-endian (R12, R600). -/
def imageOrder (mtype : Nat) (l : List Byte) : List Byte :=
  match mtype with
  | 3 => swapped 2 l
  | 4 => swapped 2 l
  | 5 => l.take 1 ++ swapEdges 8 (l.drop 1)
  | 6 => swapped 4 l
  | _ => l

/-- The image of a station's module as it stands: data and status byte (R604). -/
def State.mapModule (s : State) (k : Nat) (d : StaModule) : State :=
  let m := (s.sta k).mod d.index
  let s1 := match d.inOfs with
    | some a => if m.has then s.putInp a (imageOrder d.mtype m.data) else s
    | none => s
  match d.stOfs with
  | some a => s1.putInp a [byteOf m.status]
  | none => s1

/-- Edge records of a fast digital module: (channel, new level, DTIME) (R600). -/
def fastEdges (sampled : Nat) : Nat → List Byte → List (Nat × Bool × Nat)
  | 0, _ => []
  | n + 1, l =>
    if l.length < 4 then []
    else (beAt l 0 1, beAt l 1 1 != 0, sampled - beAt l 2 2 * 10000) :: fastEdges sampled n (l.drop 4)

/-- The number by which breakers and period sources name a fast channel of a station (log entry 7). -/
def fastBit (m ch : Nat) : Nat := m * 8 + ch

/-- The key of a fast input of a station in the list of edges, and a rising edge of it: the newest four stand. -/
def edgeKey (sta bit : Nat) : Nat := sta * 65536 + bit
def addEdge (l : List (Nat × List Nat)) (k t : Nat) : List (Nat × List Nat) := aset k ((t :: (aget k l).getD []).take 4) l

/-- A module check is a stream of its own in its unit: 8 and 9 for reception on ports C and D, 10 and 11 for transmission (R615,
R616). -/
def State.glazeModule (s : State) (u : Nat) (r : StaRec) (d : StaModule) (l : List Byte) : State :=
  match d.glaze with
  | some g => s.glazeUnit u (512 + r.sess * 64 + d.index) g l
  | none => s

/-- One block of the latched reply (R602 to R604); whether it reported a restart. -/
def State.takeBlock (s : State) (r : StaRec) (arr sampled : Nat) (b : PrioBlock) : State × Bool :=
  match r.mods.find? (fun x => x.index == b.modIx) with
  | none => (s, false)
  | some d =>
    let port := match s.sessRec r.sess with
      | some x => x.iface % 2
      | none => 0
    let s := s.glazeModule (8 + port) r d b.body
    let x := s.sta r.sta
    let m := x.mod b.modIx
    if !b.chkOk then
      let s1 := s.setSta r.sta { x with mchk := sat16 x.mchk }
      (State.raiseLimited s1.glazeFail (0x0C120004 * 256 + r.sta) 1000000 0x0C120004#32 [byteOf r.sta, byteOf b.modIx], false)
    else
      let (ok, al, count, restart) := aliveStep d.aliveIn r.skip m.alive b.alive
      let x1 : Sta := if count then { x with alive := sat16 x.alive } else x
      let m1 : StaMod := if ok && b.mtype == d.mtype && b.data.length == d.inLen then
          { m with has := true, now := true, data := b.data, bad := !nbit b.mflags 0 || nbit b.mflags 1, alive := al }
        else { m with alive := al }
      let s1 := s.setSta r.sta { x1 with mods := aset b.modIx m1 x1.mods }
      let s2 := if count then
          s1.raiseLimited (0x0C120005 * 256 + r.sta) 1000000 0x0C120005#32 [byteOf r.sta, byteOf b.modIx]
        else s1
      if ok && b.mtype == d.mtype && b.data.length == d.inLen then
        let ups := (if d.mtype = 5 then fastEdges sampled 8 (b.data.drop 1) else []).filter (fun e => e.2.1)
        let s3 : State := { s2 with rio := { s2.rio with
          edges := ups.foldl (fun l e => addEdge l (edgeKey r.sta (fastBit b.modIx e.1)) e.2.2) s2.rio.edges } }
        let s4 : State := { s3 with heddle := { s3.heddle with
          inbox := s3.heddle.inbox ++ [{ sess := r.sess, arrival := arr, time := some sampled, body := .prio b.modIx b.data }] } }
        (s4, restart)
      else (s2, restart)

/-- The levels of the fast modules of a station, none while not good (R240, R600, R604). -/
def State.mapFast (s : State) (r : StaRec) : State :=
  let x := s.sta r.sta
  let vals := (r.mods.filter (fun d => d.mtype == 5)).flatMap (fun d =>
    let m := x.mod d.index
    (List.range 8).map (fun c => ((r.sta, fastBit d.index c),
      if m.status = 0 then some (nbit (beAt m.data 0 1) c) else none)))
  let keep := s.plant.prioFast.filter (fun e => e.1.1 != r.sta)
  { s with plant := { s.plant with prioFast := keep ++ vals } }

/-- A reply is due in this pick at a SHADOW, which sends no request: the station's cycle has passed since the last latch
(R609). -/
def State.dueHere (s : State) (r : StaRec) : Bool :=
  if s.leads then (s.sta r.sta).due else decide ((s.sta r.sta).latchPick + r.cycle ≤ s.warp.pickCount)

/-- No module of the station was accepted at the latch of its due reply. -/
def Sta.unseen (x : Sta) : Sta := { x with mods := x.mods.map (fun (p : Nat × StaMod) => (p.1, { p.2 with now := false })) }

/-- RIO_LATCH for one station at p+0.05 (R602 to R605). -/
def State.latchSta (s : State) (r : StaRec) : State :=
  let cut := s.clk.tick + 40000
  let x := s.sta r.sta
  let later := x.held.filter (fun h => decide (cut ≤ h.1))
  let s1 := match x.held.find? (fun h => decide (h.1 < cut)) with
    | none =>
      if s.dueHere r then
        let y : Sta := { x.unseen with
          due := false, missed := s.leads, missing := if s.leads then sat16 x.missing else x.missing
          latchPick := s.warp.pickCount }
        let t := s.setSta r.sta y
        if s.leads then t.raiseLimited (0x0C110003 * 256 + r.sta) 1000000 0x0C110003#32 [byteOf r.sta] else t
      else s
    | some (arr, b) =>
      let ep := BitVec.ofNat 32 (beAt b 4 4)
      let flags := beAt b 9 1
      let sampled := beAt b 16 8
      let y : Sta := { x.unseen with
        held := later, epoch := ep, sampled := some sampled, wd := beAt b 24 2, latchPick := s.warp.pickCount
        safe := nbit flags 0
        mods := x.unseen.mods.map (fun (p : Nat × StaMod) => (p.1, if ep = x.epoch then p.2 else { p.2 with alive := none })) }
      let blocks := s.prioBlocks r (beAt b 11 1) (b.drop 28)
      let (t, restart) := blocks.foldl (fun (a : State × Bool) k =>
        let (u, z) := a.1.takeBlock r arr sampled k
        (u, a.2 || z)) (s.setSta r.sta y, nbit flags 1)
      let fault := blocks.any (fun k => nbit k.mflags 1)
      let t1 := t.setSta r.sta { t.sta r.sta with mfault := fault }
      let t2 := if fault && !x.mfault then t1.raise 0x0C240008#32 [byteOf r.sta] else t1
      let t3 := if restart then t2.raise 0x0C050007#32 [byteOf r.sta] else t2
      if nbit flags 0 && !x.safe then t3.raise 0x0C250006#32 [byteOf r.sta] else t3
  let z := s1.sta r.sta
  let age := z.sampled.map (fun v => min 0xFFFFFFFF ((s1.now - v) / 1000))
  let s2 := s1.setSta r.sta { z with age := age }
  let s3 := r.mods.foldl (fun (a : State) d => a.mapModule r.sta d) s2
  let s4 := match r.ageOfs with
    | some a => s3.putInp a (le32 (age.getD 0xFFFFFFFF))
    | none => s3
  s4.mapFast r

/-- RIO_LATCH (R602): every station. -/
def State.rioLatch (s : State) : State := s.stationRecs.foldl (fun (a : State) r => a.latchSta r) s

/-- RIO_REPLY_RECEIVE (R602, R609): a reply of station k from its PRIO header to its check value, arrived t ns after the
tick. -/
def execRioReplyReceive (k : Nat) (b : List Byte) (t : Ns) (s : State) : Host.Outcome State Fault Refusal :=
  let s0 := s.at t
  .next (match s0.staRec k with
    | none => s
    | some r =>
      if !s0.net.ready || !s0.sessTakes r.sess then s else
      let s0 := match s0.sessRec r.sess with
        | some x => s0.glazeRx x b
        | none => s0
      let chk := match (s0.sessRec r.sess).bind (fun x => s0.glazeSet x.glaze) with
        | some g => decide (32 ≤ b.length) && glazeTailOk g b
        | none => false
      let shape := decide (32 ≤ b.length) && beAt b 0 1 == 1 && beAt b 1 1 == 0x81 && beAt b 2 2 + 32 == b.length
        && beAt b 10 1 == k
      if !chk then s0.glazeFail.sessReject r.sess s0.now false
      else if !shape then s0.sessReject r.sess s0.now false
      else
        let (s1, ok) := s0.charge r.sess
        if !ok then s1 else
        let x := s1.sta k
        let late := if x.due then decide (40000 ≤ t ∧ t < 50000) else x.missed
        let y : Sta := { x with
          held := (s1.now, b.take (b.length - 4)) :: x.held, due := false, missed := false
          late := if late then sat16 x.late else x.late
          missing := if x.missed && !x.due then x.missing - 1 else x.missing }
        let s2 := (s1.setSta k y).sessValid r.sess s1.now
        if late then s2.raiseLimited (0x0C110003 * 256 + k) 1000000 0x0C110003#32 [byteOf k] else s2)

/-! ### requests (R595, R597 to R600, R607 to R610) -/

/-- The alive value of the next block sent (R603). -/
def aliveNext (mode : Nat) (sent : Option Nat) : Nat :=
  if mode = 0 then 0
  else match sent with
    | none => 0
    | some v => if mode = 1 then (v + 1) % 256 else if v = 255 then 1 else v + 1

/-- Some element of the output image in the bytes a … a+n−1 is forced (R501, R599). -/
def State.outForced (s : State) (a n : Nat) : Bool :=
  s.shuttle.forces.any (fun f => match forceAt s.shuttle.prog f with
    | some (area, b, w) => area == 6 && decide (b < (a + n) * 8 ∧ a * 8 < b + w)
    | none => false)

/-- The output block of a module (R599). -/
def State.outBlock (s : State) (x : Sta) (d : StaModule) : List Byte × StaMod :=
  let m := x.mod d.index
  let v := aliveNext d.aliveOut m.sent
  let a := d.outOfs.getD 0
  let data := imageOrder d.mtype ((List.range d.outLen).map (fun i => memRead s.shuttle.com.out (a + i)))
  let l := [byteOf d.index, byteOf d.mtype, byteOf (b2n (s.outForced a d.outLen)), byteOf v] ++ be16 d.outLen ++ data
  let chk := match d.glaze.bind (fun i => s.glazeSet i) with
    | some g => glazeWire g l
    | none => []
  (l ++ chk, { m with sent := some v })

/-- States in which requests are sent (R609). -/
def State.rioSends (s : State) : Bool :=
  s.leads && (s.sys.st == .ready || s.isActive || s.sys.st == .safe)

/-- The request of one station (R598, R607, R608). -/
def State.request (s : State) (r : StaRec) : State :=
  let x := s.sta r.sta
  let noout := s.rio.dropped.contains r.sta
  let outs := if noout then [] else
    sortBy (fun (a b : StaModule) => decide (a.index ≤ b.index)) (r.mods.filter (fun d => decide (0 < d.outLen)))
  let built := outs.map (fun d => (d, s.outBlock x d))
  let blocks := (built.map (fun e => e.2.1)).flatten
  let y : Sta := { x with mods := built.foldl (fun l e => aset e.1.index e.2.2 l) x.mods }
  let resume := match x.back with
    | some n => !noout && decide (1 ≤ n)
    | none => false
  let back := if noout then x.back else x.back.map (fun n => n + 1)
  let s := built.foldl (fun (a : State) e =>
    let l := e.2.1.take (6 + e.1.outLen)
    (a.glazeModule 10 r e.1 l).glazeModule 11 r e.1 l) s
  let (seq, s1) := s.nextSeq r.sess
  let l := [1#8, 1#8] ++ be16 blocks.length ++ be32 s1.pair.epoch.toNat
    ++ [byteOf (b2n s1.sys.pairSeat), byteOf (b2n noout + 2 * b2n resume), byteOf r.sta, byteOf outs.length]
    ++ be32 seq.toNat ++ be64 s1.clk.tick ++ be16 (wdMsOf r) ++ zeros 2 ++ blocks
  ((s1.glazeTx r.sess l).setSta r.sta { y with back := back, due := true, missed := false }).emit
    (.prio r.sta (l ++ s1.frameCheck r.sess l))

/-- RIO_REQUEST_BUILD (R595): the requests due in this pick at p+0.75, in ascending station index. -/
def execRioRequestBuild (s : State) : Host.Outcome State Fault Refusal :=
  let s0 := s.at 750000
  .next (if s.rioSends && s.warp.picks then
      (sortBy (fun (a b : StaRec) => decide (a.sta ≤ b.sta))
        (s.stationRecs.filter (fun r => s.warp.pickCount % r.cycle == r.phase))).foldl
        (fun (a : State) r => a.request r) s0
    else s)

/-! ### Draft check and wire time (R594, R596, R600) -/

/-- Bytes of a frame with its headers: Ethernet, 802.1Q, HSR tag, EtherType, PRIO header, blocks, CHK, FCS. -/
def prioFrameBytes (blocks : Nat) : Nat := 12 + 4 + 6 + 2 + 28 + blocks + 4 + 4

/-- Bytes of a station's blocks in one direction. -/
def blockBytes (gw : Nat → Nat) (r : StaRec) (out : Bool) : Nat :=
  r.mods.foldl (fun n d =>
    let len := if out then d.outLen else d.inLen
    if len = 0 then n else n + 6 + len + (match d.glaze with
      | some i => gw i
      | none => 0)) 0

/-- Wire time in ns of the frames due in a pick of the given count (R596). -/
def wireNs (gw : Nat → Nat) (l : List StaRec) (out : Bool) (k : Nat) : Nat :=
  (l.filter (fun r => k % r.cycle == r.phase)).foldl (fun n r => n + (prioFrameBytes (blockBytes gw r out) + 20) * 8) 0

/-- Largest wire time over the 100 picks after which every cycle repeats (R596). -/
def wireMax (gw : Nat → Nat) (l : List StaRec) (out : Bool) : Nat :=
  (List.range 100).foldl (fun m k => max m (wireNs gw l out k)) 0

/-- The station records lie in their ranges (R594, R596, R600). -/
def stationsOk (gw : Nat → Nat) (kindOf : Nat → Nat) (group : List Byte) (l : List StaRec) : Bool :=
  decide (l.length ≤ 128) && (l.isEmpty || group.length == 6)
    && l.all (fun r => decide (r.sta < 128) && kindOf r.sess == 9
      && [1, 2, 5, 10, 20, 50, 100].contains r.cycle && decide (r.phase < r.cycle)
      && decide (r.cycle + 5 ≤ wdMsOf r ∧ wdMsOf r ≤ 10000 ∧ 1 ≤ r.skip ∧ r.skip ≤ 16)
      && decide (1 ≤ r.mods.length ∧ r.mods.length ≤ 64 ∧ r.thr.length ≤ 8)
      && r.mods.all (fun d => decide (d.index < 64 ∧ 1 ≤ d.mtype ∧ d.mtype ≤ 7 ∧ d.inLen ≤ 256 ∧ d.outLen ≤ 256
          ∧ d.aliveIn ≤ 2 ∧ d.aliveOut ≤ 2) && (d.mtype != 5 || r.cycle == 1)
          && (match d.glaze with
            | some i => decide (0 < gw i)
            | none => true))
      && r.thr.all (fun t => decide (t < 32))
      && decide (blockBytes gw r true ≤ 1468 ∧ blockBytes gw r false ≤ 1468))
    && (l.map (fun r => r.sta)).eraseDups.length == l.length
    && (l.map (fun r => r.sess)).eraseDups.length == l.length
    && decide (wireMax gw l true ≤ 160000 ∧ wireMax gw l false ≤ 160000)

/-- ⌈w/8⌉ of a set by its index, 0 for none. -/
def State.setWidth (s : State) (i : Nat) : Nat :=
  match s.glazeSet i with
  | some g => glazeBytes g
  | none => 0

/-! ### registers (R621, R622, R625) -/

/-- NET_SESSTAT.STATE of a session; 6 when free (R590). -/
def sessCode : SessState → Nat
  | .provisioned => 0 | .admitted => 1 | .live => 2 | .stale => 3 | .lost => 4 | .barred => 5 | .free => 6

def State.sessCodeOf (s : State) (i : Nat) : Nat :=
  match s.session i with
  | some x => sessCode x.st
  | none => 6

/-- A write to RIO_STASEL takes the snapshot of a station (R621). -/
def State.writeStasel (s : State) (v : Word) : State :=
  let k := v.toNat % 128
  let win : List Word := match s.staRec k with
    | none => [6, 0xFFFFFFFF, 0, 0, 0, 0, 0]
    | some r =>
      let x := s.sta k
      let noout := s.rio.dropped.contains k
      let resume := match x.back with
        | some n => !noout && decide (1 ≤ n)
        | none => false
      let stale (m : Nat) : Bool := r.mods.any (fun d => d.index == m) && (x.mod m).status != 0
      [ word (s.sessCodeOf r.sess + fbit 3 noout + fbit 4 x.safe + fbit 5 noout + fbit 6 resume + fld 8 7 r.cycle
          + fld 16 7 r.mods.length)
      , word (x.age.getD 0xFFFFFFFF)
      , word (x.missing + x.late * 65536)
      , word (x.mchk + x.alive * 65536)
      , word (maskOf stale (List.range 32))
      , word (maskOf (fun m => stale (m + 32)) (List.range 32))
      , word x.wd ]
  { s with rio := { s.rio with sel := word k, win := win } }

/-- RIO_STASEL_WRITE (R621). -/
def execRioStaselWrite (v : Word) (s : State) : Host.Outcome State Fault Refusal := .next (s.writeStasel v)

/-- The value of a RIO register (R621, R622). -/
def State.rioReg (s : State) (off : Nat) : Word :=
  let l := s.stationRecs
  let live (k : Nat) : Bool := match s.staRec k with
    | some r => s.sessLive r.sess
    | none => false
  match off with
  | 0x00 => word (l.length + countP (fun (r : StaRec) => s.sessLive r.sess) l * 256 + s.rio.dropped.length * 65536)
  | 0x04 => word (maskOf live (List.range 32))
  | 0x08 => word (maskOf (fun k => live (k + 32)) (List.range 32))
  | 0x0C => word (maskOf (fun k => live (k + 64)) (List.range 32))
  | 0x10 => word (maskOf (fun k => live (k + 96)) (List.range 32))
  | 0x14 => word ((wireMax s.setWidth l true + 999) / 1000 + (wireMax s.setWidth l false + 999) / 1000 * 65536)
  | 0x20 => s.rio.sel
  | _ => if 0x24 ≤ off ∧ off ≤ 0x3C then s.rio.win.getD ((off - 0x24) / 4) 0 else 0

/-- Draft activation and every restart discard alive expectations and DROPPED marks; activation and reset clear the
counters (R625). -/
def Rio.cleared (_ : Rio) : Rio := {}

end Sys2Proof.Machine
end

