-- ==== Sys2Proof/Machine/Loop.lean ====
section
/-! DEFINITION. LOOP: feedback, controllers, selection, the repetitive stage, supervision, fallback and the slot telegrams
(R264 to R296). -/

namespace Sys2Proof.Machine

def State.slotRec (s : State) (k : Nat) : Option SlotRec :=
  match s.draft with
  | some d => d.loop.find? (fun r => r.slot == k)
  | none => none
/-- The thruster that names a slot (R264). -/
def State.slotThr (s : State) (k : Nat) : Option (Nat × ThrRec) :=
  (s.thrIds.filterMap (fun t => (s.thrRec t).map (fun r => (t, r)))).find? (fun e => e.2.slot == some k)
def State.slot (s : State) (k : Nat) : Slot := (aget k s.loop.slots).getD {}
def State.setSlot (s : State) (k : Nat) (q : Slot) : State :=
  { s with loop := { s.loop with slots := aset k q s.loop.slots } }
/-- Slots that are run: named by a thruster, with a record (R264). -/
def State.slotIds (s : State) : List Nat :=
  (List.range 64).filter (fun k => (s.slotRec k).isSome && (s.slotThr k).isSome)

/-- h = 1 ms (R269). -/
def hPick : F64 := fofRat 1 1000

/-- A value moved towards another by at most a step. -/
def approach (a b step : F64) : F64 :=
  let d := fsub b a
  if flt step d then fadd a step else if flt d (fneg step) then fsub a step else b

/-! ### maps (R268) -/

/-- A 17-point map over lo … hi, linear between its points; outside it a free value (log entry 17). -/
def map17 (which : Nat) (pts : List F64) (lo hi x : F64) : F64 :=
  if !(fle lo x && fle x hi) then Config.mapOutside which x
  else
    let p := fdiv (fmul (fsub x lo) (fofNat 16)) (fsub hi lo)
    let i := min 15 (ffloor p).toNat
    let a := pts.getD i 0
    fadd a (fmul (fsub p (fofNat i)) (fsub (pts.getD (i + 1) 0) a))

/-- Range of the force that the reference map takes (R268). -/
def forceRange (r : ThrRec) : F64 × F64 :=
  if r.azi then (0, f32to64 r.fMax) else (fneg (f32to64 r.fRev), f32to64 r.fFwd)
/-- Largest force magnitude. -/
def forceMax (r : ThrRec) : F64 := if r.azi then f32to64 r.fMax else fmax (f32to64 r.fFwd) (f32to64 r.fRev)

def refMapAt (c : SlotRec) (r : ThrRec) (f : F64) : F64 := map17 0 c.refMap (forceRange r).1 (forceRange r).2 f
def ffAt (c : SlotRec) (x : F64) : F64 := map17 1 c.ffMap c.ffLo c.ffHi x
def capAt (c : SlotRec) (r : ThrRec) (f : F64) : F64 := map17 2 c.capMap 0 (forceMax r) f

/-! ### feedback (R266, R267) -/

/-- A numeric item of a station: module × 256 + channel, by the module's type (R600). -/
def State.prioItem (s : State) (sta item : Nat) : Option F64 :=
  match s.staRec sta with
  | none => none
  | some r =>
    match r.mods.find? (fun d => d.index == item / 256) with
    | none => none
    | some d =>
      let x := s.sta sta
      let m := x.mod d.index
      let c := item % 256
      if m.status ≠ 0 ∨ x.latchPick ≠ s.warp.pickCount then none
      else match d.mtype with
        | 1 => some (fofNat (b2n (nbit (beAt m.data (c / 8) 1) (c % 8))))
        | 3 => some (fofInt (BitVec.ofNat 16 (beAt m.data (2 * c) 2)).toInt)
        | 5 => some (fofNat (b2n (nbit (beAt m.data 0 1) c)))
        | 6 => some (fofNat (beAt m.data (4 * c) 4))
        | _ => none

/-- The fresh valid value of a source in this pick, and the number of the session value taken (R266, R267, R571). -/
def State.fbRead (s : State) (f : FbSource) (serial : Nat) : Option F64 × Nat :=
  let cut := s.clk.tick + 80000
  let drive (t : Nat) (pick : F32 × F32 → F32) : Option F64 × Nat :=
    match (s.thr t).drvLog.find? (fun e => decide (e.1 < cut)) with
    | some e =>
      if (s.thrRec t).any (fun r => s.sessLive r.sess) ∧ e.1 ≠ serial then (some (f32to64 (pick e.2)), e.1) else (none, serial)
    | none => (none, serial)
  let (raw, n) : Option F64 × Nat := match f.kind with
    | .analog ch => ((s.ach ch).latch, serial)
    | .prio sta item => (s.prioItem sta item, serial)
    | .session i dest =>
      let h := s.hed i
      (match (h.recent ++ h.latched).find? (fun r => decide (r.arrival < cut) && r.slots.any (fun p => p.1 == dest)) with
       | some r => if s.sessLive i ∧ r.serial ≠ serial then (aget dest r.slots, r.serial) else (none, serial)
       | none => (none, serial))
    | .driveThrust t => drive t Prod.fst
    | .driveOutput t => drive t Prod.snd
  match raw with
  | some x =>
    let v := fadd (fmul x f.scale) f.offset
    if ffinite v && fle f.lo v && fle v f.hi then (some v, n) else (none, n)
  | none => (none, n)

/-- A controller latches its feedback (R267, R281). -/
def State.ctrlLatch (s : State) (c : CtrlRec) (x : Ctrl) : Ctrl :=
  match s.fbRead c.fb x.serial with
  | (some y, n) =>
    { x with yPrev := if x.has then x.y else y, y := y, has := true, fresh := true, valid := true, stale := 0, serial := n }
  | (none, n) => { x with yPrev := x.y, fresh := false, valid := false, stale := x.stale + 1, serial := n }

/-! ### the controller law (R269 to R272) -/

/-- Output of a controller; `extra` is the feedforward and repetitive part of C0 (R269). -/
def Ctrl.law (x : Ctrl) (c : CtrlRec) (ref extra : F64) : Ctrl :=
  let a := fdiv c.tf (fadd c.tf hPick)
  let e := fsub ref x.y
  let d := fsub (fmul a x.d) (fdiv (fmul (fmul (fsub (fofNat 1) a) c.kd) (fsub x.y x.yPrev)) hPick)
  { x with e := e, d := d, v := fadd (fadd (fadd (fmul c.kp e) x.integ) d) extra }

/-- The lowest of the enabled outputs with its index; on equal outputs the lower index wins (R270). -/
def lowest : List (Nat × F64) → Nat × F64 → Nat × F64
  | [], best => best
  | p :: l, best => lowest l (if flt p.2 best.2 then p else best)

/-- The selected output and the winner (R270). -/
def selectOut (signed : Bool) (v0 : F64) (others : List (Nat × F64)) : F64 × Nat :=
  if signed then
    let (i, m) := lowest others (0, fabs v0)
    let k := fmax 0 m
    ((if flt v0 0 then fneg k else if flt 0 v0 then k else 0), i)
  else
    let (i, m) := lowest others (0, v0)
    (m, i)

/-- A magnitude limit. -/
def clampMag (m x : F64) : F64 := if flt m (fabs x) then (if flt x 0 then fneg m else m) else x

/-- The back-calculation of every controller (R272); `frz` keeps the integral of C0 (R283). -/
def backCalc (c : SlotRec) (q : Slot) (u : F64) (frz : Bool) : Slot :=
  let ctrls := (List.zip (List.range 4) (List.zip c.ctrls q.ctrls)).map (fun p =>
    let r := p.2.1
    let x := p.2.2
    if p.1 = 0 ∧ frz then x
    else
      let w := if c.signed && p.1 != 0 then fabs u else u
      { x with integ := fadd (fadd x.integ (fmul (fmul hPick r.ki) x.e)) (fmul (fdiv hPick r.tt) (fsub w x.v)) })
  { q with ctrls := ctrls ++ q.ctrls.drop ctrls.length }

/-! ### the repetitive stage (R273 to R275) -/

/-- Two edges of a pulse source, newest first, at 10 µs resolution. -/
def State.pulseEdges (s : State) : RepSource → List Nat
  | .pulseDi k => ((aget k s.plant.diEdge).getD []).take 2
  | .pulsePrio st b => ((aget (edgeKey st b) s.rio.edges).getD []).take 2
  | _ => []

/-- The period in seconds now, and whether the source is valid (R274). -/
def State.periodNow (s : State) (r : RepRec) : F64 × Bool :=
  let within (p : F64) : Bool := fle r.tMin p && fle p r.tMax
  match r.source with
  | .fixed p => (p, true)
  | .wave dof =>
    let w := s.obs.omega.getD dof 0
    let p := fdiv f2pi w
    (p, s.obs.valid && s.obs.waveClamped.getD dof 0 == 0 && within p)
  | src =>
    match s.pulseEdges src with
    | [a, b] =>
      let ns := (a / 10000 - b / 10000) * 10000
      let p := fdiv (fofNat ns) (fofNat 1000000000)
      (p, within p && decide (2 * (s.clk.tick - a) ≤ 3 * ns))
    | _ => (0, false)

def isPulse : RepSource → Bool
  | .pulseDi _ => true
  | .pulsePrio _ _ => true
  | _ => false

/-- The fade factor (R275). -/
def Rep.fade (x : Rep) (tFade : F64) (tick : Nat) : F64 :=
  let target := if x.up then fofNat 1 else 0
  let f := fmin (fofNat 1) (fdiv (fdiv (fofNat (tick - x.fadeAt)) (fofNat 1000000000)) tFade)
  fadd x.g0 (fmul (fsub target x.g0) f)

def Rep.fadeTo (x : Rep) (up : Bool) (tick : Nat) : Rep := { x with up := up, g0 := x.g, fadeAt := tick }

/-- The table is cleared and g set to 0 (R275). -/
def Rep.clear (x : Rep) : Rep := { x with table := [], g := 0, g0 := 0, up := false, learning := false }

/-- One pick of the stage: period, phase, table entry, fade factor; whether the source has come back (R274, R275). -/
def State.repPick (s : State) (r : RepRec) (closed : Bool) (x : Rep) : Rep × Bool :=
  let (p, ok) := s.periodNow r
  let newest := (s.pulseEdges r.source).head?
  let edge := isPulse r.source && newest != x.lastEdge && newest.isSome
  let ph0 := fadd x.phase (fdiv hPick p)
  let wraps := !isPulse r.source && fle (fofNat 1) ph0
  let ph := if isPulse r.source then
      (match newest with
       | some a => fdiv (fdiv (fofNat (s.clk.tick - a)) (fofNat 1000000000)) p
       | none => 0)
    else if wraps then fsub ph0 (fofInt (ffloor ph0)) else ph0
  let phase := if ffinite ph && fle 0 ph && flt ph (fofNat 1) then ph else 0
  let run := if !ok then 0 else if edge || wraps then x.run + 1 else x.run
  let back := !x.valid && decide (3 ≤ run)
  let y : Rep := { x with
    phase := phase, k := min (r.len - 1) (ffloor (fmul (fofNat r.len) phase)).toNat, period := p, run := run
    lastEdge := newest, before := if x.valid && ok then p else x.before
    g := x.fade r.tFade s.clk.tick }
  if back then
    let far := flt (fmul (fofRat 1 10) (fabs x.before)) (fabs (fsub p x.before))
    let z : Rep := { y with valid := true, table := if far then [] else y.table }
    (if closed then z.fadeTo true s.clk.tick else z, true)
  else (y, false)

/-- PERIOD_SOURCE_INVALID (R275): the period source of a slot has become invalid. -/
def execPeriodSourceInvalid (k : Nat) (s : State) : Host.Outcome State Fault Refusal :=
  .next (match s.slotRec k with
    | none => s
    | some c =>
      match c.rep with
      | none => s
      | some r =>
        let q := s.slot k
        if q.rep.valid && !(s.periodNow r).2 then
          (s.setSlot k { q with rep := ({ q.rep with valid := false, learning := false, run := 0 } : Rep).fadeTo false s.clk.tick }).raise
            0x07190006#32 [byteOf k]
        else s)

/-! ### states and supervision (R276 to R286) -/

/-- Event of a fallback cause (R292). -/
def fallbackEvent : Nat → Word
  | 1 => 0x07280002#32 | 2 => 0x07280003#32 | 3 => 0x07280004#32 | 4 => 0x07280005#32 | 5 => 0x07280006#32
  | _ => 0x07480007#32

/-- SLOT_FALLBACK (R283): `u0` is the output of the pick before. -/
def State.fallback (s : State) (k : Nat) (c : SlotRec) (q : Slot) (cause : Nat) (u0 : F64) : State :=
  let q1 : Slot := { q with
    st := if c.fbKind = 2 then 5 else 4, cause := cause, reset := false, goodSince := none, feTimer := 0
    u := if c.fbKind = 2 then 0 else u0, held := u0
    fallbacks := sat16 q.fallbacks
    freezes := if cause = 2 ∨ cause = 3 then sat16 q.freezes else q.freezes
    rep := q.rep.clear, ovrAgain := none }
  let s1 := s.setSlot k q1
  State.raise { s1 with loop := { s1.loop with fbCnt := sat32 s1.loop.fbCnt } } (fallbackEvent cause) [byteOf k]

/-- A slot stands in CLOSED (R275, R280). -/
def State.setClosed (s : State) (k : Nat) (q : Slot) : State :=
  s.setSlot k { q with st := 3, feTimer := 0, rep := if q.rep.valid then q.rep.fadeTo true s.clk.tick else q.rep }

/-- SOFT ends in CLOSED (R279). -/
def State.enterClosed (s : State) (k : Nat) (q : Slot) : State := (s.setClosed k q).raise 0x07000001#32 [byteOf k]

/-- SLOT_SOFT_ENTRY (R279): `start` is the tracked output. -/
def State.softEntry (s : State) (k : Nat) (c : SlotRec) (q : Slot) (start : F64) : State :=
  let y := (q.ctrls.getD 0 {}).y
  let c0 : Ctrl := { q.ctrls.getD 0 {} with integ := fsub start (ffAt c y), d := 0, yPrev := y }
  let q1 : Slot := { q with
    st := 2, cause := 0, y0 := y, rEff := y, softAt := s.clk.tick, u := start, ctrls := q.ctrls.set 0 c0
    varBuf := [], reset := false, goodSince := none, feTimer := 0
    rep := q.rep.clear, ovrAgain := none }
  if c.tSs = 0 then s.enterClosed k q1 else s.setSlot k q1

/-- SLOT_SOFT_COMPLETE (R279). -/
def execSlotSoftComplete (k : Nat) (s : State) : Host.Outcome State Fault Refusal :=
  .next (match s.slotRec k with
    | some c =>
      let q := s.slot k
      if q.st = 2 ∧ q.softAt + c.tSs * 1000000 ≤ s.clk.tick then s.enterClosed k q else s
    | none => s)

/-- FOLLOWING_ERROR_TIMEOUT (R281 cause 4, R283). -/
def execFollowingErrorTimeout (k : Nat) (s : State) : Host.Outcome State Fault Refusal :=
  .next (match s.slotRec k with
    | some c =>
      let q := s.slot k
      if q.st = 3 ∧ c.tFe ≤ q.feTimer then s.fallback k c q 4 q.u else s
    | none => s)

/-- SLOT_AUTO_RECOVERY (R286): SOFT at the next run of the loop engine. -/
def execSlotAutoRecovery (k : Nat) (s : State) : Host.Outcome State Fault Refusal :=
  .next (match s.slotRec k with
    | some c =>
      let q := s.slot k
      let long : Bool := match q.goodSince with
        | some t0 => decide (t0 + c.tRec * 1000000 ≤ s.clk.tick)
        | none => false
      if (q.st = 4 ∨ q.st = 5) ∧ c.autoRec ∧ (q.cause = 1 ∨ q.cause = 2 ∨ q.cause = 3 ∨ q.cause = 5) ∧ long then
        s.setSlot k { q with reset := true }
      else s
    | none => s)

/-- The drive's reported actual output, or 0 (R277). -/
def State.tracked (s : State) (c : SlotRec) (q : Slot) : Slot × F64 :=
  match c.actual with
  | none => (q, 0)
  | some f =>
    match s.fbRead f q.actSerial with
    | (some v, n) => ({ q with act := v, actSerial := n }, v)
    | (none, n) => ({ q with actSerial := n }, q.act)

/-- The C0 feedback counts towards the freeze run (R282). -/
def freezeRun (c : SlotRec) (x : Ctrl) (q : Slot) : Nat :=
  if x.fresh && fle (fabs (fsub x.y x.yPrev)) c.qFz then q.frzRun + 1 else 0

/-- The output has moved over the run (R282). -/
def moved (c : SlotRec) (l : List F64) : Bool :=
  match l.take c.nFz with
  | [] => false
  | a :: t => flt c.duFz (fsub (t.foldl fmax a) (t.foldl fmin a))

def frozenNow (c : SlotRec) (q : Slot) : Bool := decide (c.nFz ≤ q.frzRun) && moved c q.uHist

/-- Variance of a full window (R281). -/
def variance (l : List F64) : F64 :=
  let n := fofNat l.length
  let m := fdiv (fsum l) n
  fdiv (fsum (l.map (fun x => fmul (fsub x m) (fsub x m)))) n

/-- A limiting controller whose ON_LOSS is FALLBACK is stale (R281 cause 5). -/
def limitLost (c : SlotRec) (q : Slot) : Bool :=
  (List.zip (List.range 4) (List.zip c.ctrls q.ctrls)).any (fun p =>
    p.1 != 0 && !p.2.1.onLossDrop && decide (c.sStale < p.2.2.stale))

/-- The lowest supervision cause found in this pick; 0 when none (R281). -/
def superCause (c : SlotRec) (q : Slot) (varLow : Bool) : Nat :=
  if c.sStale < (q.ctrls.getD 0 {}).stale then 1
  else if frozenNow c q then 2
  else if varLow then 3
  else if q.st = 3 ∧ c.tFe ≤ q.feTimer then 4
  else if limitLost c q then 5
  else 0

/-- Limiting controllers with ON_LOSS DROP leave the selection while stale (R281). -/
def State.dropCtrls (s : State) (k : Nat) (c : SlotRec) (q : Slot) : State × Slot :=
  let l := (List.zip (List.range 4) (List.zip c.ctrls q.ctrls)).map (fun p =>
    let x := p.2.2
    if p.1 != 0 && p.2.1.onLossDrop then
      (if x.fresh then { x with dropped := false } else if c.sStale < x.stale then { x with dropped := true } else x)
    else x)
  let newly := (List.zip (List.range 4) (List.zip l q.ctrls)).filter (fun p => p.2.1.dropped && !p.2.2.dropped)
  (newly.foldl (fun (a : State) p => a.raise 0x07250008#32 [byteOf k, byteOf p.1]) s,
   { q with ctrls := l ++ q.ctrls.drop l.length })

/-- Every feedback fresh, valid and free of the freeze condition (R286). -/
def allGood (c : SlotRec) (q : Slot) : Bool :=
  (q.ctrls.take c.ctrls.length).all (fun (x : Ctrl) => x.fresh) && !frozenNow c q

/-- The reference of the pick: within the range of a cap in force, from where it then moves on at the reference rate (R268, R271,
R279). -/
def State.slotRef (s : State) (c : SlotRec) (t : Nat) (r : ThrRec) (q : Slot) : Slot :=
  let q1 : Slot := match q.next with
    | some (f, az, ap) => if nearestMs ap ≤ nearestMs s.clk.tick then { q with force := f, az := az, next := none } else q
    | none => q
  let target := refMapAt c r q1.force
  let step := fmul c.refRate hPick
  let within (x : F64) : F64 := match (s.thr t).cap with
    | some cp =>
      let a := refMapAt c r cp.f
      let b := refMapAt c r (if r.azi then 0 else fneg cp.f)
      fclamp x (fmin a b) (fmax a b)
    | none => x
  let rCmd := within (if feq c.refRate 0 then target else approach q1.rCmd target step)
  let eff := if q1.st = 2 then
      let x := fmin (fofNat 1) (fdiv (fofNat (s.clk.tick - q1.softAt)) (fofNat (c.tSs * 1000000)))
      fadd q1.y0 (fmul (fsub rCmd q1.y0) x)
    else rCmd
  { q1 with rCmd := rCmd, rEff := within eff }

/-- The output of R271 in its order: clamp, cap, rate; the first two prevail over the third. -/
def slotOut (c : SlotRec) (capU : Option F64) (prev sel : F64) (q : Slot) : Slot :=
  let one (x : F64) : F64 := fclamp x c.uLo c.uHi
  let two (x : F64) : F64 := match capU with
    | some m => clampMag m x
    | none => x
  let a := one sel
  let b := two a
  let r := approach prev b c.duMax
  let u := two (one r)
  { q with
    u := u, sat := !feq a sel || !feq (one r) r, capClamp := !feq b a || !feq u (one r), rateLim := !feq u b }

/-- A fallback output moves on; the cap clamps what is sent, not what is held (R283). -/
def State.slotFall (s : State) (c : SlotRec) (t : Nat) (r : ThrRec) (q : Slot) : Slot :=
  let step (a b rate : F64) : F64 := approach a b (fmul rate hPick)
  if q.st = 5 then
    let z := refMapAt c r 0
    { q with u := 0, rEff := if feq c.refRate 0 then z else step q.rEff z c.refRate, next := none }
  else
    let u := if c.fbKind = 0 then q.held else step q.held c.uZero c.rampRate
    let v := match (s.thr t).cap with
      | some cp => clampMag (capAt c r cp.f) u
      | none => u
    { q with u := v, held := u, capClamp := !feq v u, next := none }

/-- A slot that stands in FALLBACK or HANDOVER in one pick (R283, R286). -/
def State.runFall (s : State) (k : Nat) (c : SlotRec) (t : Nat) (r : ThrRec) (q : Slot) : State :=
  let q8 := s.slotFall c t r q
  let good := if allGood c q8 then some (q8.goodSince.getD s.clk.tick) else none
  let law := (List.zip (List.range 4) (List.zip c.ctrls q8.ctrls)).map (fun p =>
    p.2.2.law p.2.1 (if p.1 = 0 then q8.rEff else p.2.1.limit) (if p.1 = 0 then ffAt c q8.rEff else 0))
  let q9 : Slot := { q8 with
    ctrls := law ++ q8.ctrls.drop law.length, goodSince := good
    uHist := if q8.frzRun = 0 then [] else (q8.u :: q8.uHist).take c.nFz }
  s.setSlot k (backCalc c q9 q9.u true)

/-- A slot in OPEN, SOFT or CLOSED in one pick, `tr` being its tracked output: law, selection, clamps, integrals, repetitive stage; with
the supervision cause found, 0 when none (R268 to R282). -/
def State.runLaw (s2 : State) (k : Nat) (c : SlotRec) (t : Nat) (r : ThrRec) (tr : F64) : State × Nat :=
  let q7 := s2.slot k
  let prev := q7.u
  let q8 := s2.slotRef c t r q7
  let (rep, resumed) := match c.rep with
    | some rr => s2.repPick rr (q8.st == 3) q8.rep
    | none => (q8.rep, false)
  let sourceOk := c.rep.any (fun rr => (s2.periodNow rr).2)
  let s3 := if resumed then s2.raise 0x07090007#32 [byteOf k] else s2
  let urc := match c.rep with
    | some rr => fmul rep.g (rep.table.getD ((rep.k + rr.nAdv) % rr.len) 0)
    | none => 0
  let law := (List.zip (List.range 4) (List.zip c.ctrls q8.ctrls)).map (fun p =>
    p.2.2.law p.2.1 (if p.1 = 0 then q8.rEff else p.2.1.limit)
      (if p.1 = 0 then fadd (ffAt c q8.rEff) urc else 0))
  let q9 : Slot := { q8 with ctrls := law ++ q8.ctrls.drop law.length, rep := rep }
  let others := ((List.zip (List.range 4) law).filter (fun p => p.1 != 0 && !p.2.dropped && p.2.has)).map
    (fun p => (p.1, p.2.v))
  let (sel, win) := selectOut c.signed (law.getD 0 {}).v others
  let capU := (s2.thr t).cap.map (fun cp => capAt c r cp.f)
  if q9.st = 1 then
    let q10 : Slot := { q9 with
      u := tr, win := win, sat := false, capClamp := false, rateLim := false
      uHist := if q9.frzRun = 0 then [] else (tr :: q9.uHist).take c.nFz }
    (s3.setSlot k (if s2.sys.role = .shadow then q10 else backCalc c q10 tr false), 0)
  else
    let q10 : Slot := { slotOut c capU prev sel q9 with win := win }
    let q11 := backCalc c q10 q10.u false
    let clamp := q11.sat || q11.capClamp || q11.rateLim
    let learn := q11.st == 3 && win == 0 && !clamp && q11.rep.valid && sourceOk
    let rep2 : Rep := match c.rep with
      | some rr =>
        let tb := if q11.rep.table.isEmpty then List.replicate rr.len (0 : F64) else q11.rep.table
        let v := fadd (fmul rr.q (tb.getD rep.k 0)) (fmul rr.krc (law.getD 0 {}).e)
        { q11.rep with
          learning := learn, table := if learn then tb.set rep.k (clampMag rr.urc v) else q11.rep.table }
      | none => q11.rep
    let err := fsub q11.rEff (law.getD 0 {}).y
    let beyond := q11.st == 3 && !q11.capClamp && flt c.eMax (fabs err)
    let buf := if (law.getD 0 {}).has then (law.getD 0 {}).y :: q11.varBuf else q11.varBuf
    let full := decide (c.wVar ≤ buf.length)
    let varLow := full && flt 0 c.varMin && flt (variance buf) c.varMin
    let q12 : Slot := { q11 with
      rep := rep2, feTimer := if beyond then q11.feTimer + 1 else 0, varBuf := if full then [] else buf
      uHist := if q11.frzRun = 0 then [] else (q11.u :: q11.uHist).take c.nFz }
    (s3.setSlot k q12, superCause c q12 varLow)

/-- One slot in one pick: feedback, states, law, supervision (R267 to R286). -/
def State.runSlot (s : State) (k : Nat) : State :=
  match s.slotRec k, s.slotThr k with
  | some c, some (t, r) =>
    let q0 := s.slot k
    let wired := s.drives && !(s.thr t).cut
    -- states left before the run (R277)
    let opens := !s.leads || !s.isActive || ((q0.st == 2 || q0.st == 3) && !wired)
    let q1 : Slot := if opens && q0.st != 1 then q0.opened else q0
    -- feedback
    let latched := (List.zip c.ctrls q1.ctrls).map (fun p => s.ctrlLatch p.1 p.2)
    let q2 : Slot := { q1 with ctrls := latched ++ q1.ctrls.drop latched.length }
    let q3 : Slot := { q2 with frzRun := freezeRun c (q2.ctrls.getD 0 {}) q2 }
    let (s1, q4) := s.dropCtrls k c q3
    let (q5, tr) := s1.tracked c q4
    let back := (q5.st == 4 || q5.st == 5) && q5.reset && superCause c q5 false == 0 && allGood c q5
    let q6 : Slot := { q5 with reset := false }
    if q6.st = 4 ∨ q6.st = 5 then
      -- recovery through SOFT, unless the pick of recovery finds a new cause (R286)
      let (s4, cause) := ((s1.softEntry k c q6 tr).raise 0x07080009#32 [byteOf k]).runLaw k c t r tr
      if back && cause == 0 then s4 else s1.runFall k c t r q6
    else
      let s2 := if q6.st == 1 && wired then s1.softEntry k c q6 tr else s1.setSlot k q6
      let (s4, cause) := s2.runLaw k c t r tr
      if cause = 0 then s4
      else
        let s5 := s4.fallback k c (s4.slot k) cause (s2.slot k).u
        s5.setSlot k (s5.slotFall c t r (s5.slot k))
  | _, _ => s

/-! ### telegrams (R288, R289) -/

/-- MODE of a slot telegram (R288). -/
def slotMode (c : SlotRec) (q : Slot) : Nat := if q.st = 5 then 4 else if q.st = 4 then (if c.fbKind = 0 then 2 else 3) else 1

/-- The payload of a slot telegram (R288). -/
def State.slotPayload (s : State) (k t : Nat) (r : ThrRec) (c : SlotRec) (q : Slot) : List Byte :=
  [byteOf t, byteOf k, byteOf (slotMode c q), byteOf (b2n (q.st == 2) + 2 * b2n q.capClamp)]
    ++ beF32 (if q.st = 5 then 0 else q.u) ++ beF32 q.rEff
    ++ be32 (if r.azi then (radToBam q.az).toNat else 0) ++ be64 s.clk.tick ++ s.capOf t false

/-- The slot telegrams of the pick (R288, R563): `late` of them are not on the wire by p+0.45. -/
def State.slotSend (s : State) (late : Nat) : State :=
  if !s.drives then s else
  let l := s.slotIds.filterMap (fun k => match s.slotRec k, s.slotThr k with
    | some c, some (t, r) =>
      let q := s.slot k
      if 2 ≤ q.st then some (r.sess, 3, s.slotPayload k t r c q) else none
    | _, _ => none)
  let (s1, out) := s.driveFrames l
  let s2 := s1.emitAll out
  let n := min late out.length
  if n = 0 then s2
  else State.raiseLimited { s2 with net := { s2.net with overrun := satAdd 65535 s2.net.overrun n } } 0x0A21000E 1000000 0x0A21000E#32

/-- LOOP_ENGINE_RUN (R67, R269): every slot, then its telegrams. -/
def execLoopEngineRun (late : Nat) (s : State) : Host.Outcome State Fault Refusal :=
  .next (if s.fastLane then
      let s1 := s.slotIds.foldl (fun (a : State) k => a.runSlot k) (s.at 100000)
      let s2 : State := { s1 with adc := { s1.adc with chans := s1.adc.chans.map (fun (x : AdcCh) => { x with latch := none }) } }
      (s2.at 350000).slotSend late
    else s)

/-- A slot in an overrun: one that controls goes to its fallback with cause 6, one in fallback takes its fallback output (R281, R285). -/
def State.slotOverrun (s : State) (k : Nat) : State :=
  match s.slotRec k, s.slotThr k with
  | some c, some (t, r) =>
    let q := s.slot k
    if q.st = 2 ∨ q.st = 3 then
      let b := s.fallback k c q 6 q.u
      b.setSlot k (b.slotFall c t r (b.slot k))
    else if q.st = 4 ∨ q.st = 5 then s.setSlot k { s.slotFall c t r q with ovrAgain := some s.otime }
    else s
  | _, _ => s

/-- CONE_LOOP_OVERRUN (R62, R285): Cone monitor 8. -/
def execConeLoopOverrun (s : State) : Host.Outcome State Fault Refusal :=
  let s0 := s.at 350000
  .next (if s.fastLane then
      let s1 := (State.fire { s0 with loop := { s0.loop with ovr := true } } 8).raise 0x02410009#32
      (s1.slotIds.foldl State.slotOverrun s1).slotSend 0
    else s)

/-! ### parameters and registers (R264, R290, R293 to R296) -/

/-- The slot records lie in their ranges, and slots and thrusters match (R264, R266, R290). -/
def loopParamOk (l : List SlotRec) (thr : List ThrRec) : Bool :=
  let within (x lo hi : F64) : Bool := fle lo x && fle x hi
  let named := thr.filterMap (fun r => r.slot)
  let mono (m : List F64) : Bool := (List.zip m (m.drop 1)).all (fun p => fle p.1 p.2)
  let ms (n : Nat) : F64 := fofRat n 1000
  decide (named.eraseDups.length = named.length)
    && named.all (fun k => decide (k < 64) && l.any (fun c => c.slot == k))
    && l.all (fun c => flt c.uLo c.uHi && flt 0 c.duMax
      && decide (c.refMap.length = 17 ∧ c.ffMap.length = 17 ∧ c.capMap.length = 17) && mono c.capMap
      && fle 0 c.refRate && decide (1 ≤ c.ctrls.length ∧ c.ctrls.length ≤ 4)
      && (c.ctrls.map (fun x => x.fb) ++ c.actual.toList).all (fun f => match f.kind with
          | .analog ch => decide (ch < 32)
          | _ => true)
      && c.ctrls.all (fun x => within x.kp 0 (fofNat 1000000) && within x.ki 0 (fofNat 1000000) && within x.kd 0 (fofNat 1000000)
        && within x.tf (ms 1) (fofNat 10) && within x.tt (ms 1) (fofNat 10))
      && decide (1 ≤ c.sStale ∧ c.sStale ≤ 100 ∧ 10 ≤ c.nFz ∧ c.nFz ≤ 10000) && fle 0 c.qFz && flt 0 c.duFz
      && decide (50 ≤ c.wVar ∧ c.wVar ≤ 5000) && fle 0 c.varMin && flt 0 c.eMax
      && decide (10 ≤ c.tFe ∧ c.tFe ≤ 10000 ∧ c.fbKind ≤ 2) && flt 0 c.rampRate && within c.uZero c.uLo c.uHi
      && decide (1000 ≤ c.tRec ∧ c.tRec ≤ 60000 ∧ c.tSs ≤ 30000)
      && (match c.rep with
          | none => true
          | some r => within r.tMin (ms 50) (fofNat 60) && within r.tMax (ms 50) (fofNat 60) && flt r.tMin r.tMax
            && decide (16 ≤ r.len ∧ r.len ≤ 1024 ∧ r.nAdv < r.len) && fle (fofNat r.len) (fmul r.tMin (fofNat 1000))
            && within r.krc 0 (fofRat 1 2) && within r.q (fofRat 9 10) (fofNat 1) && flt 0 r.urc
            && within r.tFade (fofRat 1 10) (fofNat 10)
            && (match r.source with
                | .fixed p => within p (ms 50) (fofNat 60)
                | _ => true)))

/-- RCSTATE (R295). -/
def rcState (c : SlotRec) (q : Slot) : Nat :=
  if c.rep.isNone then 0
  else if q.rep.up && flt q.rep.g (fofNat 1) then 3
  else if q.rep.learning then 1
  else if q.st = 3 then 2 else 0

/-- A write to LOOP_SLOTSEL takes the snapshot of a slot (R294). -/
def State.writeSlotsel (s : State) (v : Word) : State :=
  let k := v.toNat % 64
  let win : List Word := match s.slotRec k, s.slotThr k with
    | some c, some _ =>
      let q := s.slot k
      let x := q.ctrls.getD 0 {}
      let ms := min 65535 (frintClamp (fmul q.rep.period (fofNat 1000)) 0 65535).toNat
      [ word (q.st + q.cause * 16 + q.win * 256 + fbit 10 q.capClamp + fbit 11 q.sat
          + maskOf (fun (x : Ctrl) => x.dropped) q.ctrls * 4096)
      , f64to32 q.rEff, f64to32 x.y, f64to32 q.u, f64to32 (fsub q.rEff x.y)
      , word (min 65535 q.feTimer + min 65535 q.frzRun * 65536)
      , word (rcState c q + (if q.rep.valid then ms else 0) * 65536)
      , word (q.fallbacks + q.freezes * 65536) ]
    | _, _ => List.replicate 8 0
  { s with loop := { s.loop with sel := word k, win := win } }

/-- LOOP_SLOTSEL_WRITE (R294). -/
def execLoopSlotselWrite (v : Word) (s : State) : Host.Outcome State Fault Refusal := .next (s.writeSlotsel v)

/-- The value of a LOOP register (R293, R295). -/
def State.loopReg (s : State) (off : Nat) : Word :=
  let ids := s.slotIds
  let closed (k : Nat) : Bool := ids.contains k && ((s.slot k).st == 2 || (s.slot k).st == 3)
  let fb (k : Nat) : Bool := ids.contains k && ((s.slot k).st == 4 || (s.slot k).st == 5)
  match off with
  | 0x00 => word (ids.length + fbit 7 s.loop.ovr + countP closed ids * 256 + countP fb ids * 65536)
  | 0x04 => word (maskOf closed (List.range 32))
  | 0x08 => word (maskOf (fun k => closed (k + 32)) (List.range 32))
  | 0x0C => word (maskOf fb (List.range 32))
  | 0x10 => word (maskOf (fun k => fb (k + 32)) (List.range 32))
  | 0x14 => word s.loop.fbCnt
  | 0x18 => s.loop.sel
  | _ => if 0x1C ≤ off ∧ off ≤ 0x38 then s.loop.win.getD ((off - 0x1C) / 4) 0 else 0

/-- Slot states and counters are discarded on Draft activation (R296). -/
def Loop.activated (l : Loop) : Loop := { l with slots := [], fbCnt := 0 }

end Sys2Proof.Machine
end

