-- ==== Sys2Proof/Machine/Gnss.lean ====
section
/-! DEFINITION. GNSS signals and tracking: training, stream supervision, acquisition, channel assignment, loop programs, and
the signal-side registers (R297 to R332). -/

namespace Sys2Proof.Machine

/-! ### streams -/

/-- A group whose enabled streams are all DOWN is retrained 1 s later (R303). -/
def State.armRetrain (s : State) (a : Nat) : State :=
  if (s.groupStreams a).all (fun k => !(s.strm k).up) && !s.gnss.busy.contains a && !s.gnss.queue.contains a
      && (s.gnss.retrain.getD a none).isNone then
    { s with gnss := { s.gnss with retrain := s.gnss.retrain.set a (some (s.otime + 1000000)) } }
  else s

/-- A stream is DOWN: its channels are LOST in the same pick (R303). -/
def State.streamDown (s : State) (k : Nat) : State :=
  let x := s.strm k
  let s1 := State.raise (s.setStrm k { x with up := false, run := 0, downs := sat16 x.downs }) 0x08240003#32 [byteOf k]
  (s1.streamLost k).armRetrain (k / 4)

/-- What the samples of a pick amount to: their number, frame errors, samples with a mark and the place of the last of them,
clipped samples, the sum of I² + Q². -/
structure SampSum where
  n : Nat := 0
  errs : Nat := 0
  marks : Nat := 0
  markAt : Nat := 0
  clipped : Nat := 0
  energy : Nat := 0
  deriving DecidableEq, Repr

/-- A sample of a lane: two's complement, −8 taken as −7 (R300). -/
def laneOf (v : BitVec 4) : Int := if v = 8#4 then -7 else v.toInt
/-- −8 and +7 count as clipped (R300). -/
def laneClips (v : BitVec 4) : Bool := v == 8#4 || v == 7#4

/-- A run of like samples: with a frame error they are replaced by I = Q = 0 and counted (R300). -/
def SampSum.add (a : SampSum) (r : SampRun) : SampSum :=
  let ok := r.f == 8#4 || r.f == 12#4
  { n := a.n + r.n
    errs := if ok then a.errs else a.errs + r.n
    marks := if r.f = 12#4 then a.marks + r.n else a.marks
    markAt := if r.f = 12#4 then a.n else a.markAt
    clipped := if ok && (laneClips r.i || laneClips r.q) then a.clipped + r.n else a.clipped
    energy := if ok then a.energy + r.n * (laneOf r.i * laneOf r.i + laneOf r.q * laneOf r.q).toNat else a.energy }

def sampSum (l : List SampRun) : SampSum := l.foldl SampSum.add {}

/-- RMS of a lane in 2⁻⁸ LSB. -/
def SampSum.rms (a : SampSum) : Nat :=
  if a.n = 0 then 0 else (frintClamp (fsqrt (fofRat ((a.energy * 32768 : Nat) : Int) a.n)) 0 65535).toNat

/-- The RMS lies outside 1.5 to 4.0 LSB, or more than 2 % of the samples are clipped (R305). -/
def SampSum.powerBad (a : SampSum) : Bool :=
  decide (a.n = 0 ∨ 2 * a.energy < 9 * a.n ∨ 32 * a.n < a.energy ∨ a.n < 50 * a.clipped)

/-- STREAM_EVALUATION and STREAM_POWER_CHECK (R300, R303, R305) of one stream on the samples of one pick. -/
def State.streamPick (s : State) (k : Nat) (l : List SampRun) : State :=
  let x := s.strm k
  if !s.gnss.run || !x.up then s
  else
    let v := sampSum l
    let bad := v.powerBad
    let flag := decide (818 < v.errs ∨ v.marks ≠ 1)
    let y : Stream12 := { x with
      rms := v.rms, clip := v.clipped * 10000 / v.n, errs := v.errs, power := bad, run := if flag then x.run + 1 else 0
      flagged := if flag then sat16 x.flagged else x.flagged }
    let s1 := s.setStrm k y
    let s2 := if bad && !x.power then s1.raise 0x08240005#32 [byteOf k] else s1
    if (v.marks = 1 ∧ v.markAt ≠ x.markAt) ∨ 20 ≤ y.run then s2.streamDown k else s2

/-- All streams for one pick. -/
def State.streamsPick (s : State) (l : List (List SampRun)) : State :=
  (List.range 12).foldl (fun (a : State) k =>
    match l[k]? with
    | some v => a.streamPick k v
    | none => a) s

/-- GROUP_TRAINING_START (R302, R304): IFTRNa goes high; the group's channels are LOST. Groups that wait begin in order. -/
def execGroupTrainingStart (a : Nat) (s : State) : Host.Outcome State Fault Refusal :=
  if s.gnss.run && s.gnss.queue.head? == some a then
    let s1 : State := { s with gnss := { s.gnss with
      queue := s.gnss.queue.filter (fun b => b != a), busy := s.gnss.busy.filter (fun b => b != a) ++ [a] } }
    .next ((s.groupStreams a).foldl (fun (t : State) k =>
      (t.setStrm k { t.strm k with up := false, run := 0 }).streamLost k) s1)
  else .next s

/-- The sweep of a lane's input delay: taps error-free in a row up to the present one, the widest window so far and its first tap;
of equal windows the first counts. -/
def sweepTap (v : BitVec 128) (a : Nat × Nat × Nat) (t : Nat) : Nat × Nat × Nat :=
  if v.getLsbD t then (if a.2.1 < a.1 + 1 then (a.1 + 1, a.1 + 1, t - a.1) else (a.1 + 1, a.2)) else (0, a.2)

/-- Length and first tap of the widest error-free window of a lane (R302). -/
def widest (v : BitVec 128) : Nat × Nat := ((List.range 128).foldl (sweepTap v) (0, 0, 0)).2

/-- The centre of the widest window. -/
def centreTap (v : BitVec 128) : Nat := (widest v).2 + (widest v).1 / 2

/-- The one sample on which the mark falls in every pick for 100 picks (R302). -/
def markPlace (l : List (List Nat)) : Option Nat :=
  match l with
  | [p] :: _ => if 100 ≤ l.length ∧ l.all (fun m => m == [p]) then some p else none
  | _ => none

/-- A stream passes: every lane's widest window has 40 taps or more, and the mark is right (R302). -/
def trainOk (v : TrainIn) : Bool :=
  decide (40 ≤ (widest v.i).1 ∧ 40 ≤ (widest v.q).1 ∧ 40 ≤ (widest v.f).1) && (markPlace v.marks).isSome

/-- One stream at the end of training (R302, R303): every lane stands at the centre of its widest window. -/
def State.trainStream (s : State) (k : Nat) (v : TrainIn) : State :=
  let x : Stream12 := { s.strm k with taps := [centreTap v.i, centreTap v.q, centreTap v.f] }
  if trainOk v then
    let s1 := s.setStrm k { x with up := true, wasUp := true, run := 0, markAt := (markPlace v.marks).getD 0 }
    if x.wasUp then s1.raise 0x08040004#32 [byteOf k] else s1
  else State.raise (s.setStrm k { x with up := false }) 0x08340002#32 [byteOf k]

/-- GROUP_TRAINING_COMPLETE (R302): `res` holds what was found on the group's four streams. -/
def execGroupTrainingComplete (a : Nat) (res : List TrainIn) (s : State) : Host.Outcome State Fault Refusal :=
  if s.gnss.busy.contains a then
    let ks := s.groupStreams a
    let s1 : State := { s with gnss := { s.gnss with
      busy := s.gnss.busy.filter (fun b => b != a), trainings := sat16 s.gnss.trainings } }
    let s2 := ks.foldl (fun (t : State) k => t.trainStream k (res.getD (k % 4) {})) s1
    let ok := ks.all (fun k => (s2.strm k).up)
    let s3 : State := { s2 with gnss := { s2.gnss with
      fail := if ok then s2.gnss.fail &&& ~~~(BitVec.ofNat 3 (2 ^ a)) else s2.gnss.fail ||| BitVec.ofNat 3 (2 ^ a)
      retrain := if ok then s2.gnss.retrain.set a none else s2.gnss.retrain } }
    .next (if ok then s3.raise 0x08040001#32 [byteOf a] else s3.armRetrain a)
  else .next s

/-- GROUP_RETRAIN_TIMER (R303): 1 s after every stream went DOWN, then every 10 s while one is still DOWN. -/
def execGroupRetrainTimer (a : Nat) (s : State) : Host.Outcome State Fault Refusal :=
  match s.gnss.retrain.getD a none with
  | some t =>
    if s.gnss.run && decide (t ≤ s.otime) then
      if (s.groupStreams a).all (fun k => (s.strm k).up) then
        .next { s with gnss := { s.gnss with retrain := s.gnss.retrain.set a none } }
      else .next { s with gnss := { s.gnss with
        retrain := s.gnss.retrain.set a (some (s.otime + 10000000))
        queue := if s.gnss.queue.contains a || s.gnss.busy.contains a then s.gnss.queue else s.gnss.queue ++ [a] } }
    else .next s
  | none => .next s

/-- GNSS_RETRAIN accepted: the selected groups wait for training (R304). -/
def State.gnssRetrain (s : State) (mask : Nat) : State :=
  let l := s.gnssGroups.filter (fun a => nbit mask a && !s.gnss.queue.contains a)
  { s with gnss := { s.gnss with queue := s.gnss.queue ++ l } }

/-! ### acquisition (R310 to R314) -/

/-- The search in progress ends. -/
def State.acqDone (s : State) (hit : Bool) : State :=
  State.acqNext { s with gnss := { s.gnss with
      cur := none, searches := sat16 s.gnss.searches, detects := if hit then sat16 s.gnss.detects else s.gnss.detects } }

/-- Half chips of the code that a search runs through; L2C is acquired on CM (R308). -/
def searchCodes (sig : Nat) : Nat := 2 * (sigChips sig / 1000 * sigMs sig)

/-- A cell belongs to the search (R311, R313): the whole code, ±10 or ±2 chips in bins of 0.5 chip; 128, ±8 or ±2 Doppler bins. -/
def inSearch (kind sig : Nat) (c : CellIn) : Bool :=
  match kind with
  | 0 => decide (c.code.natAbs ≤ 4 ∧ c.dop.natAbs ≤ 2)
  | 1 => decide (c.code.natAbs ≤ 20 ∧ c.dop.natAbs ≤ 8)
  | _ => decide (0 ≤ c.code ∧ c.code < searchCodes sig ∧ -64 ≤ c.dop ∧ c.dop < 64)

/-- The number of cells of a search. -/
def searchCells (kind sig : Nat) : Nat :=
  match kind with
  | 0 => 9 * 5
  | 1 => 41 * 17
  | _ => searchCodes sig * 128

/-- The statistic of a cell: the noncoherent sum over the blocks of the coherent power (R311). -/
def cellStat (blocks : Nat) (c : CellIn) : Nat :=
  (c.blocks.take blocks).foldl (fun a b => a + (b.1 * b.1 + b.2 * b.2).toNat) 0

/-- The strongest of the cells; of equal ones the first. -/
def bestCell (blocks : Nat) : List CellIn → Option CellIn
  | [] => none
  | c :: l =>
    match bestCell blocks l with
    | some b => if cellStat blocks c < cellStat blocks b then some b else some c
    | none => some c

/-- The strongest cell of a dwell, and how far in dB its statistic exceeds the mean of all cells of the search (R312). -/
def dwellMargin (kind sig blocks : Nat) (d : DwellIn) : Option (CellIn × F64) :=
  let l := d.cells.filter (inSearch kind sig)
  let total := l.foldl (fun a c => a + cellStat blocks c) d.rest
  (bestCell blocks l).map (fun c =>
    (c, fmul (fofNat 10) (fdiv (Config.fln (fofRat ((cellStat blocks c * searchCells kind sig : Nat) : Int) total)) (Config.fln (fofNat 10)))))

/-- The cell of a dwell that detects: it exceeds the mean by the acquisition threshold (R312). -/
def dwellDetects (kind sig blocks : Nat) (thr : F64) (d : DwellIn) : Option CellIn :=
  (dwellMargin kind sig blocks d).bind (fun m => if flt thr m.2 then some m.1 else none)

/-- Two code bins of a search lie within one bin; the whole code is circular. -/
def binsNear (kind sig : Nat) (a b : Int) : Bool :=
  decide ((a - b).natAbs ≤ 1) || (decide (2 ≤ kind) && decide ((a - b).natAbs + 1 = searchCodes sig))

/-- A channel starts from a confirmed cell (R312, R318, R319): its words at the cell's Doppler, its code phase at 0.5 chip. -/
def State.startChan (s : State) (a : Acq) (coh : Nat) (c : CellIn) : State :=
  let x := s.chan a.ch
  let dop := fadd a.est (fdiv (fmul (fofInt c.dop) (fofNat 500)) (fofNat coh))
  let w := s.words x dop
  let half := (Int.emod (a.code + c.code) (2 * sigSpan x.sig : Nat)).toNat
  s.setChan a.ch { x.to 2 s.otime with
    car := w.1, cod := w.2, codPh := half * 2 ^ 39, epochs := 0, carPh := 0, ncoAt := s.now, pli := none, ratios := [], sync := none }

/-- ACQUISITION_SEARCH_COMPLETE (R311 to R314): a dwell ends. The first detection waits for a second dwell on a fresh snapshot within
one code bin and one Doppler bin; then the channel starts. In the grid pick of four no search runs. -/
def execAcquisitionSearchComplete (d : DwellIn) (s : State) : Host.Outcome State Fault Refusal :=
  match s.gnss.cur, s.gnss.snap with
  | some a, some p =>
    if s.warp.pickCount % 4 = 0 ∨ !s.gnss.run then .next s
    else
      let x := s.chan a.ch
      match dwellDetects a.kind x.sig p.blocks (s.pset x).acq d with
      | none => .next (s.acqDone false)
      | some b =>
        match a.first with
        | none => .next { s with gnss := { s.gnss with cur := some { a with first := some (b.code, b.dop) } } }
        | some (c, f) =>
          if binsNear a.kind x.sig b.code c ∧ (b.dop - f).natAbs ≤ 1 then
            .next ((if (x.st = 1 ∨ x.st = 5) ∧ (s.strm x.strm).up then s.startChan a p.coh b else s).acqDone true)
          else .next (s.acqDone false)
  | _, _ => .next s

/-! ### channel assignment (R315 to R317) -/

/-- A unit as the list asks for it. -/
structure Demand where
  prio : Nat
  sat : SatIn
  sig : Nat
  streams : List Nat
  /-- The streams of the whole unit, for a unit that began on group 0 alone (R317). -/
  full : List Nat
  deriving DecidableEq, Repr

/-- Order of the demand list: signal priority, then elevation, highest first; satellites without an almanac by number. -/
def demandBefore (a b : Demand) : Bool :=
  decide (a.prio < b.prio) || (a.prio == b.prio &&
    (if a.sat.almanac && b.sat.almanac then decide (b.sat.elev ≤ a.sat.elev)
     else if a.sat.almanac then true else if b.sat.almanac then false else decide (a.sat.sv ≤ b.sat.sv)))

/-- The channels that a unit needs: one per group for a three-antenna signal, group 0 alone otherwise and while its
constellation has no almanac (R315, R317). -/
def State.unitStreams (s : State) (r : SignalRec) (almanac : Bool) : List Nat :=
  let groups := if r.three && almanac then [0, 1, 2] else [0]
  groups.filterMap (fun a => s.bandStream a (sigBand r.sig))

/-- The demand list (R316). -/
def State.demands (s : State) (sats : List SatIn) : List Demand :=
  let m := (s.gnssRec.mask : Int)
  let l := s.gnssRec.signals.flatMap (fun r => (sats.filter (fun (x : SatIn) =>
      x.sigs.contains r.sig && x.con == sigCon r.sig && (decide (m ≤ x.elev) || !x.almanac)
        && !s.gnssRec.excluded.contains (x.con, x.sv))).map (fun x =>
    ({ prio := r.prio, sat := x, sig := r.sig, streams := s.unitStreams r x.almanac, full := s.unitStreams r true } : Demand)))
  sortBy demandBefore (l.filter (fun d => !d.streams.isEmpty))

/-- Channels of the same satellite and signal. -/
def Chan.isFor (x : Chan) (con sv sig : Nat) : Bool := x.st != 0 && x.con == con && x.sv == sv && x.sig == sig

def State.freeChans (s : State) : List Nat := (List.range 384).filter (fun c => (s.chan c).st == 0)

/-- A unit's channels are released together (R315); a search for one is dropped. -/
def State.releaseUnit (s : State) (u : Nat) : State :=
  let gone := (List.range 384).filter (fun c => (s.chan c).unit == u && u != 0)
  let s1 := gone.foldl (fun (a : State) c => a.setChan c {}) s
  State.acqNext { s1 with gnss := { s1.gnss with
      acq := s1.gnss.acq.filter (fun a => !gone.contains a.ch)
      cur := match s1.gnss.cur with
        | some a => if gone.contains a.ch then none else some a
        | none => none } }

/-- The predicted code phase in half chips and Doppler of a signal of a satellite. -/
def satPred (v : SatIn) (sig : Nat) : Nat × F64 :=
  match v.pred.find? (fun e => e.1 == sig) with
  | some e => e.2
  | none => (0, 0)

/-- A channel is assigned to a stream: it waits for its acquisition result (R323). -/
def State.assign (s : State) (c u strm kind : Nat) (d : Demand) : State :=
  let p := match s.sigRec d.sig with
    | some r => r.pset
    | none => 0
  let x : Chan := { st := 1, sig := d.sig, con := d.sat.con, sv := d.sat.sv, strm := strm, pset := p, fcn := d.sat.fcn, unit := u
                    elev := d.sat.elev, since := s.otime }
  let e := satPred d.sat d.sig
  (s.setChan c x).request313 kind c e.1 e.2

def State.assignAll (s : State) (u kind : Nat) (d : Demand) : List Nat → List Nat → State
  | k :: ks, c :: cs => State.assignAll (s.assign c u k kind d) u kind d ks cs
  | _, _ => s

/-- Units in the table: number, signal priority, elevation. -/
def State.units (s : State) : List (Nat × Nat × Int) :=
  s.gnss.chans.foldl (fun (l : List (Nat × Nat × Int)) x =>
    if x.unit = 0 ∨ l.any (fun e => e.1 == x.unit) then l
    else l ++ [(x.unit, (match s.sigRec x.sig with
      | some r => r.prio
      | none => 33), x.elev)]) []

/-- The units that a demand of priority p may displace, last-ranked first (R317). -/
def State.lastRanked (s : State) (p : Nat) : List Nat :=
  ((sortBy (fun (a b : Nat × Nat × Int) => decide (b.2.1 < a.2.1) || (a.2.1 == b.2.1 && decide (a.2.2 ≤ b.2.2))) s.units).filter
    (fun e => decide (p < e.2.1))).map (fun e => e.1)

/-- Units displaced, last-ranked first, until n channels are free; none when even all would not do. -/
def State.displace (s : State) (n : Nat) : List Nat → State
  | [] => s
  | u :: l => if n ≤ s.freeChans.length then s else State.displace (s.releaseUnit u) n l

/-- One demanded unit: kept, granted, granted by displacement, or not granted. -/
def State.grant (a : State × Nat × Nat) (d : Demand) : State × Nat × Nat :=
  let (s, units, chans) := a
  let n := d.streams.length
  let held := s.gnss.chans.filter (fun x => x.isFor d.sat.con d.sat.sv d.sig)
  match held with
  | x :: _ =>
    let missing := d.full.filter (fun k => !held.any (fun y => y.strm == k))
    let grown := missing.isEmpty || !(held.any (fun y => y.st == 4)) || decide (s.freeChans.length < missing.length)
    let s1 : State := { s with gnss := { s.gnss with chans := s.gnss.chans.map (fun y =>
      if y.unit = x.unit then { y with elev := d.sat.elev } else y) } }
    if grown then (s1, units, chans) else (s1.assignAll x.unit 1 d missing s1.freeChans, units, chans)
  | [] =>
    let t := if n ≤ s.freeChans.length then s else s.displace n (s.lastRanked d.prio)
    if n ≤ t.freeChans.length then
      let u := t.gnss.unitNo + 1
      let t1 : State := { t with gnss := { t.gnss with unitNo := u } }
      (t1.assignAll u (if d.sat.almanac then 1 else 2) d d.streams t1.freeChans, units, chans)
    else (s, units + 1, chans + n)

/-- Units whose satellite has sunk below the mask less 1° or is excluded are released (R317). -/
def State.releaseLow (s : State) (sats : List SatIn) : State :=
  let m := (s.gnssRec.mask : Int) - 100
  let low (x : Chan) : Bool := s.gnssRec.excluded.contains (x.con, x.sv) ||
    sats.any (fun (v : SatIn) => v.con == x.con && v.sv == x.sv && v.almanac && decide (v.elev < m))
  ((s.gnss.chans.filter (fun x => x.st != 0 && low x)).map (fun x => x.unit)).foldl (fun (a : State) u => a.releaseUnit u) s

/-- A channel that waits or is LOST asks for its search: COLD while its constellation has no almanac (R313, R317). -/
def State.askAgain (s : State) (sats : List SatIn) (c : Nat) : State :=
  let x := s.chan c
  if x.st = 1 then
    match sats.find? (fun (v : SatIn) => v.con == x.con && v.sv == x.sv) with
    | some v => if v.almanac then s.request313 1 c (satPred v x.sig).1 (satPred v x.sig).2 else s.request313 2 c 0 0
    | none => s.request313 2 c 0 0
  else if x.st = 5 then s.requestLost c
  else s

/-- CHANNEL_LOST_TIMEOUT (R317): a unit whose channels have all been LOST for 10 s. -/
def execChannelLostTimeout (c : Nat) (s : State) : Host.Outcome State Fault Refusal :=
  let u := (s.chan c).unit
  let l := s.gnss.chans.filter (fun x => x.unit == u)
  .next (if u ≠ 0 ∧ l.all (fun x => x.st == 5 && decide (x.since + 10000000 ≤ s.otime)) then s.releaseUnit u else s)

/-! ### loop programs (R319 to R326) -/

def power (p : Int × Int) : F64 := fofInt (p.1 * p.1 + p.2 * p.2)

/-- The OTIME since which a condition has held. -/
def since (old : Option Nat) (cond : Bool) (now : Nat) : Option Nat := if cond then some (old.getD now) else none
/-- A condition has held for n µs. -/
def heldFor (x : Option Nat) (n now : Nat) : Bool :=
  match x with
  | some t => decide (t + n ≤ now)
  | none => false

/-- Words and slew written by the loop core, and the step that the side-peak test ordered, take effect (R319, R325). -/
def Chan.applyWords (x : Chan) : Chan :=
  let y := { x with bump := 0 }.slewBy x.bump
  match x.next with
  | some (car, cod, sl) => { y with car := car, cod := cod, next := none }.slewBy sl
  | none => y

/-- An accumulator: 24 bits, signed, saturating (R320). -/
def acc24 (v : Int) : Int := iclamp (-8388608) 8388607 v

/-- The taps of a dump as they are accumulated, and whether one saturated (R320). -/
def dumpTap (v : DumpIn) (k : Nat) : Int × Int := (acc24 (v.taps.getD k (0, 0)).1, acc24 (v.taps.getD k (0, 0)).2)
def dumpSat (v : DumpIn) : Bool := v.taps.any (fun e => acc24 e.1 != e.1 || acc24 e.2 != e.2)

/-- An accumulation boundary may fall k periods after the last one (R321): one period before synchronisation, 1 ms for L2C; then within
the limit of the parameter set and such that it falls on a boundary of a data bit or secondary code. -/
def Chan.boundaryOk (x : Chan) (k tiMax : Nat) : Bool :=
  k == 1 || (match x.sync with
    | some (b, at') => decide (1 ≤ k ∧ k * x.unitMs ≤ tiMax) && (at' + k * x.unitMs) % b == 0
    | none => false)

/-- Time since the last boundary of the data bit or secondary code after k periods more. -/
def Chan.syncAfter (x : Chan) (v : DumpIn) : Option (Nat × Nat) :=
  match x.sync with
  | some (b, at') => some (b, (at' + v.k * x.unitMs) % b)
  | none => v.sync

/-- Lock quantities of a dump (R324): PLI low-passed over 100 ms, C/N0 averaged over 1 s. -/
def Chan.quantities (x : Chan) (v : DumpIn) (now : Nat) : Chan :=
  let ti := v.k * x.unitMs
  let p := dumpTap v 2
  let pn := power (dumpTap v 5)
  let i2 := fofInt (p.1 * p.1)
  let q2 := fofInt (p.2 * p.2)
  let raw := fdiv (fsub i2 q2) (fadd i2 q2)
  let k := fsub (fofNat 1) (Config.fexp (fneg (fdiv (fofNat ti) (fofNat 100))))
  let pli := match x.pli with
    | some y => fadd y (fmul k (fsub raw y))
    | none => raw
  let ratio := fdiv (fsub (power p) pn) (fmul pn (fdiv (fofNat ti) (fofNat 1000)))
  let rs := (now, ratio) :: x.ratios.filter (fun (e : Nat × F64) => decide (now < e.1 + 1000000))
  let avg := fdiv (fsum (rs.map (fun (e : Nat × F64) => e.2))) (fofNat rs.length)
  let db := fmul (fofNat 1000) (fdiv (Config.fln avg) (Config.fln (fofNat 10)))
  { x with
    pli := some pli, ratios := rs, cn0 := frintClamp db 0 65535, sat := dumpSat v, sync := x.syncAfter v
    slip := x.slip || v.slip, slips := if v.slip then x.slips + 1 else x.slips }

/-- The side-peak test of TRK_BOC (R325): the step towards VE makes the replica earlier, its code phase greater. -/
def Chan.sidePeak (x : Chan) (v : DumpIn) : Chan :=
  let p := power (dumpTap v 2)
  let ve := power (dumpTap v 0)
  let vl := power (dumpTap v 4)
  let dir : Int := if flt p ve && fle vl ve then -1 else if flt p vl then 1 else 0
  let run : Int := if dir = 0 then 0 else if dir * x.side ≤ 0 then dir else x.side + dir
  if 20 ≤ run.natAbs then
    { x with side := 0, bumps := satAdd 255 x.bumps 1, pli := none, bump := if run < 0 then 32 else -32 }
  else { x with side := run }

/-- The channel at an accumulation boundary: its NCOs have run to it, the words waiting take effect, the lock quantities are formed
and the side-peak test is made (R318, R319, R324, R325). -/
def Chan.boundary (x : Chan) (r : PsetRec) (v : DumpIn) (now nowNs : Nat) : Chan :=
  let y := { x.advance (x.samplesTo v.k) with ncoAt := nowNs }
  let z := (y.quantities v now).applyWords
  if r.prog = 1 then z.sidePeak v else z

/-- ACCUMULATION_DUMP (R318 to R321, R324, R325) of channel c, t ns after the tick; no boundary falls where R321 allows none. -/
def execAccumulationDump (c : Nat) (v : DumpIn) (t : Ns) (s : State) : Host.Outcome State Fault Refusal :=
  let s0 := s.at t
  let now := s0.otime
  let x0 := s0.chan c
  if x0.st < 2 ∨ 4 < x0.st ∨ !(s0.strm x0.strm).up ∨ !x0.boundaryOk v.k (s0.pset x0).tiMax then .next s
  else
    let r := s0.pset x0
    let x2 := x0.boundary r v now s0.now
    let pli := x2.pli.getD 0
    let x3 : Chan := { x2 with
      ferrOk := since x2.ferrOk (flt (fabs v.ferr) r.bFll) now
      pliHi := since x2.pliHi (x2.pli.isSome && flt r.pli pli) now
      pliLo := since x2.pliLo (x2.pli.isSome && flt pli r.pli) now
      cnLo := since x2.cnLo (decide (x2.cn0 < r.loss)) now }
    let s1 := s0.setChan c x3
    .next (if x3.st = 2 then
        (if heldFor x3.ferrOk 100000 now then s1.setChan c (x3.to 3 now)
         else if x3.since + 500000 ≤ now then s1.chanLost c else s1)
      else if heldFor x3.cnLo (r.tLoss * 1000) now then s1.chanLost c
      else if x3.st = 3 then
        (if r.prog ≠ 3 ∧ heldFor x3.pliHi 200000 now then s1.setChan c { x3.to 4 now with cnLo := x3.cnLo } else s1)
      else if heldFor x3.pliLo 50000 now then s1.setChan c { x3.to 3 now with cnLo := x3.cnLo }
      else s1)

/-- LOOP_UPDATE (R319, R326), t ns after the tick: new words and a slew in 2⁻⁶ chip; more than 100 µs after its dump it is late. -/
def execLoopUpdate (c : Nat) (car cod : BitVec 40) (slew : Int) (t : Ns) (s : State) : Host.Outcome State Fault Refusal :=
  let x := s.chan c
  if x.st < 2 ∨ 4 < x.st then .next s
  else if x.ncoAt + 100000 < (s.at t).now then
    let s0 := s.at t
    let s1 : State := { s0 with gnss := { s0.gnss with late := sat32 s0.gnss.late } }
    let s2 := (s1.setChan c { x with lateRun := x.lateRun + 1 }).raiseLimited 0x08210008 1000000 0x08210008#32
    .next (if 3 ≤ x.lateRun + 1 then s2.chanLost c else s2)
  else .next (s.setChan c { x with next := some (car, cod, iclamp (-2048) 2048 slew), lateRun := 0 })

/-! ### Draft -/

def psetOk (r : PsetRec) : Bool :=
  decide (r.prog ≤ 3 ∧ (r.order = 2 ∨ r.order = 3) ∧ (r.d = 5 ∨ r.d = 10 ∨ r.d = 20 ∨ r.d = 50 ∨ r.d = 100)
    ∧ 50 ≤ r.dv ∧ r.dv ≤ 150 ∧ r.dv % 25 = 0 ∧ 1 ≤ r.tiMax ∧ r.tiMax ≤ (if r.prog = 3 then 100 else 20)
    ∧ 1 ≤ r.tCoh ∧ r.tCoh ≤ 10 ∧ 1 ≤ r.nNc ∧ r.nNc ≤ 100 ∧ 1500 ≤ r.loss ∧ r.loss ≤ 3500 ∧ 100 ≤ r.tLoss ∧ r.tLoss ≤ 5000)
  && fle (fofNat 2) r.bPll && fle r.bPll (fofNat 30) && fle 0x3FE0000000000000#64 r.bFll && fle r.bFll (fofNat 20)
  && fle 0x3F947AE147AE147B#64 r.bDll && fle r.bDll (fofNat 2) && fle (fofNat 6) r.acq && fle r.acq (fofNat 30)
  && fle 0x3FE0000000000000#64 r.pli && fle r.pli 0x3FEE666666666666#64

/-- The program suits the signal (R322). -/
def progOk (prog sig : Nat) : Bool :=
  match prog with
  | 0 => !sigGlonass sig
  | 1 => sigBoc sig
  | 2 => sigGlonass sig
  | _ => true

/-- A signal lies within ±30 MHz of a zero frequency (R307). -/
def offsetOk (sig : Nat) (fz : Nat) : Bool :=
  let ok (k : Int) : Bool := decide ((sigFreq sig k - fz).natAbs ≤ 30000000)
  if sigGlonass sig then ok (-7) && ok 6 else ok 0

/-- Streams, signals and parameter sets of a Draft (R306 to R309, R316, R327). -/
def gnssSignalsOk (d : DraftGnss) : Bool :=
  let at' (k : Nat) : Option StreamRec := (d.streams[k]?).bind (fun x => x)
  let group (a : Nat) : List StreamRec := [4 * a, 4 * a + 1, 4 * a + 2, 4 * a + 3].filterMap at'
  let noTwice (l : List Nat) : Bool := l.all (fun b => countP (fun c => c == b) l == 1)
  decide (d.psets.length ≤ 16) && (d.signals.isEmpty || !d.psets.isEmpty) && d.psets.all psetOk
  && [0, 1, 2].all (fun a => noTwice ((group a).map (fun r => r.band)) && (group a).all (fun r => decide (r.band ≤ 3)))
  && d.signals.all (fun r => decide (1 ≤ r.sig ∧ r.sig ≤ 0x13 ∧ 1 ≤ r.prio ∧ r.prio ≤ 32)
    && (match d.psets[r.pset]? with
        | some p => progOk p.prog r.sig
        | none => false)
    && [0, 1, 2].any (fun a => (group a).any (fun x => x.band == sigBand r.sig))
    && [0, 1, 2].all (fun a => (group a).all (fun x => x.band != sigBand r.sig || offsetOk r.sig x.fz)))
  && noTwice (d.signals.map (fun r => r.prio)) && noTwice (d.signals.map (fun r => r.sig))
  && decide (d.mask ≤ 3000) && d.excluded.all (fun e => decide (1 ≤ e.2 ∧ e.2 ≤ 255))

/-! ### registers (R329 to R331) -/

/-- The stream window. -/
def State.streamWindow (s : State) (k : Nat) : List Word :=
  if 12 ≤ k then [0, 0, 0, 0]
  else
    let x := s.strm k
    let r := (s.streamRec k).getD { band := 0, fz := 0 }
    [word (fld 0 16 x.rms + fld 16 16 x.clip), word (fld 0 16 x.flagged + fld 16 16 x.downs), word r.fz,
     word (fld 0 2 r.band + fbit 2 r.inv + fbit 3 (s.streamRec k).isSome)]

def State.writeStrmsel (s : State) (v : Word) : State :=
  { s with gnss := { s.gnss with strmSel := v &&& 15, strmWin := s.streamWindow (v.toNat % 16) } }
/-- GNSS_STRMSEL_WRITE (R330). -/
def execGnssStrmselWrite (v : Word) (s : State) : Host.Outcome State Fault Refusal := .next (s.writeStrmsel v)

/-- Seconds in PLL (R324, R331). -/
def State.lockTime (s : State) (x : Chan) : Nat := if x.st = 4 then min 65535 ((s.otime - x.pllAt) / 1000000) else 0

/-- PLI in 2⁻¹⁵. -/
def pliWord (x : Chan) : Nat := (BitVec.ofInt 16 (frintClamp (fmul (x.pli.getD 0) (fofNat 32768)) (-32768) 32767)).toNat

/-- The channel window. -/
def State.chanWindow (s : State) (c : Nat) : List Word :=
  if 384 ≤ c then [0, 0, 0, 0, 0, 0, 0]
  else
    let x := s.chan c
    let fcn := if sigGlonass x.sig then (x.fcn + 7).toNat else 0
    [word (fld 0 3 x.st + fld 3 5 x.sig + fld 8 7 x.sv + fld 15 4 x.strm + fld 19 4 x.pset + fld 23 4 fcn),
     word (fld 0 16 x.cn0.toNat + fld 16 16 (s.lockTime x)),
     word (fld 0 16 (pliWord x) + fbit 16 x.sync.isSome + fbit 17 x.sat + fld 24 8 x.bumps),
     x.car.setWidth 32, (BitVec.ofInt 32 (x.car.toInt / 4294967296)), x.cod.setWidth 32, word (x.cod.toNat / 4294967296)]

def State.writeGnssChsel (s : State) (v : Word) : State :=
  { s with gnss := { s.gnss with chSel := v &&& 511, chWin := s.chanWindow (v.toNat % 512) } }
/-- GNSS_CHSEL_WRITE (R330). -/
def execGnssChselWrite (v : Word) (s : State) : Host.Outcome State Fault Refusal := .next (s.writeGnssChsel v)

/-- The value of a signal-side GNSS register (R329, R331). -/
def State.gnssSigReg (s : State) (off : Nat) : Word :=
  let g := s.gnss
  match off with
  | 0x00 => word (fbit 0 g.run + fld 8 10 (countP (fun (x : Chan) => x.st == 3 || x.st == 4) g.chans)
      + fld 18 10 (countP (fun (x : Chan) => x.st != 0) g.chans))
  | 0x04 => word (maskOf (fun (x : Stream12) => x.up) g.streams
      + maskOf (fun k => (s.streamRec k).isSome) (List.range 12) * 65536)
  | 0x08 => word (maskOf (fun (x : Stream12) => x.power) g.streams)
  | 0x0C => word (maskOf (fun a => g.busy.contains a) [0, 1, 2] + g.fail.toNat * 8 + fld 16 16 g.trainings)
  | 0x10 => g.strmSel
  | 0x14 => g.strmWin.getD 0 0
  | 0x18 => g.strmWin.getD 1 0
  | 0x1C => g.strmWin.getD 2 0
  | 0x20 => g.strmWin.getD 3 0
  | 0x40 => g.chSel
  | 0x44 => g.chWin.getD 0 0
  | 0x48 => g.chWin.getD 1 0
  | 0x4C => g.chWin.getD 2 0
  | 0x50 => g.chWin.getD 3 0
  | 0x54 => g.chWin.getD 4 0
  | 0x58 => g.chWin.getD 5 0
  | 0x5C => g.chWin.getD 6 0
  | 0x90 => word (fld 0 9 g.acq.length + fbit 9 g.cur.isSome + fld 16 16 g.refused)
  | 0x94 => word (fld 0 16 g.searches + fld 16 16 g.detects)
  | 0x98 => word (fld 0 8 (g.load.getD 0 0) + fld 8 8 (g.load.getD 1 0) + fld 16 8 (g.load.getD 2 0) + fld 24 8 (g.load.getD 3 0))
  | 0x9C => word (fld 0 8 (g.load.getD 4 0) + fld 8 8 (g.load.getD 5 0) + fld 16 8 (g.load.getD 6 0) + fld 24 8 (g.load.getD 7 0))
  | 0xA0 => word g.late
  | 0xA4 => word (fld 0 8 g.shedUnits + fld 16 10 g.shedChans)
  | _ =>
    if 0x60 ≤ off ∧ off ≤ 0x8C ∧ off % 4 = 0 then
      word (maskOf (fun (x : Chan) => x.st != 0) ((g.chans.drop ((off - 0x60) * 8)).take 32))
    else 0

/-- DEMAND_LIST (R316, R317): once per second. A channel that waits or is LOST without a request gets one. `load` is
the peak load of the eight loop cores over the second, in % (R329). The acquisition and loop-core registers are renewed
(R330). -/
def execDemandList (sats : List SatIn) (load : List Nat) (s : State) : Host.Outcome State Fault Refusal :=
  if !s.gnss.run then .next s
  else
    let s1 := s.releaseLow sats
    let (s2, units, chans) := (s1.demands sats).foldl State.grant (s1, 0, 0)
    let s3 := (List.range 384).foldl (fun (a : State) c => a.askAgain sats c) s2
    let s4 : State := { s3 with gnss := { s3.gnss with shedUnits := units, shedChans := chans, load := load } }
    let s5 := if units = s.gnss.shedUnits ∨ units = 0 then s4 else s4.raise 0x08180007#32 (be16 units)
    .next (s5.shows ((List.range 6).map (fun i => (0x40070090 + 4 * i, s5.gnssSigReg (0x90 + 4 * i)))))

end Sys2Proof.Machine
end

