-- ==== Sys2Proof/Machine/TimeSel.lean ====
section
/-! DEFINITION. The time base's sources: samples, jumps, selection and blending, holdover, the leap-second count, and the
setting of DTIME (R360, R367 to R371, R379 to R390). Offsets are in 2⁻¹⁶ ns. -/

namespace Sys2Proof.Machine

def State.timeRec (s : State) : DraftTime :=
  match s.draft with
  | some d => d.time
  | none => { ranks := [none, none, none] }

def State.src (s : State) (i : Nat) : TimeSource := s.time.srcs.getD i {}
def State.setSrc (s : State) (i : Nat) (x : TimeSource) : State :=
  { s with time := { s.time with srcs := s.time.srcs.set i x } }

/-- ns in units of 2⁻¹⁶ ns. -/
def inSub (n : Int) : Int := n * 65536
/-- An offset in ns as binary64, and rounded down to whole ns. -/
def subToF (x : Int) : F64 := fdiv (fofInt x) (fofNat 65536)
def subToNs (x : Int) : Int := Int.fdiv x 65536
def usToS (us : Nat) : F64 := fdiv (fofNat us) (fofNat 1000000)

/-- Rank of a source in the Draft; none when it is disabled there (R367). -/
def State.rank (s : State) (i : Nat) : Option Nat := s.timeRec.ranks.getD i none

/-- The GOOD sources of the best rank that has any (R379). -/
def State.goodSet (s : State) : List Nat :=
  let good := [0, 1, 2].filter (fun i => (s.src i).st == 3)
  let best := good.foldl (fun m i => min m ((s.rank i).getD 4)) 4
  good.filter (fun i => (s.rank i).getD 4 == best)

def nearSub (lim a b : Int) : Bool := decide (-lim ≤ a - b ∧ a - b ≤ lim)

/-- The middle one of three. -/
def median3 (a b c : Int) : Int := max (min a b) (min (max a b) c)

/-- The sources of the set that become SUSPECT (R379, R380): with three, those beyond T_agree of the median; with two
that differ by more than T_agree, the one whose offset is farther from zero. -/
def State.suspects (s : State) (set : List Nat) : List Nat :=
  let lim := inSub s.timeRec.tAgree
  let th (i : Nat) : Int := (s.src i).theta
  match set with
  | [a, b, c] =>
    let m := median3 (th a) (th b) (th c)
    set.filter (fun i => !nearSub lim (th i) m)
  | [a, b] =>
    if nearSub lim (th a) (th b) then []
    else if (th b).natAbs < (th a).natAbs then [a] else [b]
  | _ => []

/-- Marks sources SUSPECT until the rest nearSub; each is announced. -/
def State.settle : Nat → State → State
  | 0, s => s
  | k + 1, s =>
    match s.suspects s.goodSet with
    | [] => s
    | l => State.settle k (l.foldl (fun (a : State) i =>
        State.raise (a.setSrc i { a.src i with st := 4, agree := none }) 0x09210009#32) s)

/-- The target offset θ_T of a selected set (R379). -/
def State.thetaT (s : State) (set : List Nat) : Int :=
  let x (i : Nat) : TimeSource := s.src i
  match set with
  | [a] => (x a).theta
  | [a, b] =>
    let va := (x a).var
    let vb := (x b).var
    if va + vb = 0 then Int.fdiv ((x a).theta + (x b).theta) 2
    else Int.fdiv ((x a).theta * vb + (x b).theta * va) ((va + vb : Nat) : Int)
  | [a, b, c] => median3 (x a).theta (x b).theta (x c).theta
  | _ => 0

/-- The remaining correction: DTIME's target lies this far ahead (R382); none in holdover. -/
def State.timeOfs (s : State) : Int := s.thetaT s.time.sel

/-- D of the oscillator in use, ns/s² (R386). -/
def State.driftD (s : State) : F64 := if s.time.refUse then s.timeRec.dRef else s.timeRec.dTcxo

/-- The uncertainty u of DTIME in ns (R386). -/
def State.timeUnc (s : State) : F64 :=
  if s.time.hold then
    let t := usToS (s.otime - s.time.holdAt)
    fadd (fadd s.time.u0 (fmul s.time.y0 t)) (fmul (fmul (fmul 0x3FE0000000000000#64 s.driftD) t) t)
  else fadd s.time.unc (fabs (subToF s.timeOfs))

/-- The conditions of TPVALID but for their duration (R390). -/
def State.tpCond (s : State) : Bool :=
  s.clk.est && !s.time.sel.isEmpty && fle s.timeUnc (fofNat s.timeRec.thresh)

/-- TPVALID changes (R390). -/
def State.setTp (s : State) (v : Bool) : State :=
  if s.time.tpvalid = v then s
  else State.raise { s with time := { s.time with tpvalid := v } } 0x09010010#32

/-- Holdover begins: DTIME runs on the last frequency correction (R386, R390). -/
def State.enterHold (s : State) : State :=
  let u := s.timeUnc
  let s1 := State.raise { s with time := { s.time with
    hold := true, sel := [], u0 := u, holdAt := s.otime, holdTold := false, tpSince := none } } 0x09210004#32
  s1.setTp false

/-- Holdover ends. -/
def State.exitHold (s : State) : State := State.raise { s with time := { s.time with hold := false } } 0x09010005#32

/-- Beat edges stay on every N-th pick, from the moment that the first one is fixed; BPHERR shows them off multiples of N DTIME
milliseconds (R50, R52, R79). -/
def State.bphCheck (s : State) : State :=
  { s with warp := { s.warp with bphErr := s.warp.nextEdge.isSome && nearestMs s.nextEdgeTime % s.n != 0 } }

/-- DTIME moves by whole ns; every source's offset against it moves the other way (R360, R363, R383). -/
def State.moveTime (s : State) (d : Int) : State :=
  let s1 := (s.shiftTime d).bphCheck
  { s1 with time := { s1.time with srcs := s1.time.srcs.map (fun (x : TimeSource) => { x with theta := x.theta - inSub d }) } }

/-- DTIME_ESTABLISH (R360): DTIME is set from the selected set. -/
def State.establish (s : State) : State :=
  let s1 := s.moveTime (subToNs s.timeOfs)
  State.raise { s1 with clk := { s1.clk with est := true } } 0x09000001#32

/-- The leap-second count and its source by precedence: a selected PTP source with a valid offset, GNSS navigation data,
MRAM, the Draft (R387). -/
def State.leapNow (s : State) : Int × Nat × Bool × Bool :=
  let ptp := s.time.sel.findSome? (fun i => if i < 2 then (s.src i).utc else none)
  match ptp, s.time.leapGnss, s.time.leapMram with
  | some (v, a, b), _, _ => (v, 3, a, b)
  | none, some (v, a, b), _ => (v, 2, a, b)
  | none, none, some v => (v, 1, s.time.l61, s.time.l59)
  | none, none, none => ((s.timeRec.leap : Int), 0, s.time.l61, s.time.l59)

/-- The count in force follows its sources; a change is announced and saved in MRAM (R387). -/
def State.leapUpdate (s : State) : State :=
  let (v, src, a, b) := s.leapNow
  let s1 : State := { s with time := { s.time with leap := v, leapSrc := src, l61 := a, l59 := b } }
  if v = s.time.leap ∧ s.time.leapIn then s1
  else if !s.time.leapIn then { s1 with time := { s1.time with leapIn := true } }
  else State.raise { s1 with time := { s1.time with leapMram := some v } } 0x0911000C#32

/-- The servo takes a frequency correction, within ±50 ppm, and states its uncertainty (R366, R386). -/
def State.servo (s : State) (v : ServoOut) : State :=
  { s with time := { s.time with freq := iclamp (-50000000) 50000000 v.freq, unc := v.unc, y0 := v.y0 } }

/-- The selected set is formed anew; holdover begins or ends, and DTIME is set when it is not established (R360, R379 to
R381, R386). -/
def State.reselect (s : State) : State :=
  let s1 := State.settle 3 s
  let set := s1.goodSet
  if set.isEmpty then
    State.leapUpdate (if s1.clk.est then (if s1.time.hold then s1 else s1.enterHold)
      else { s1 with time := { s1.time with sel := [] } })
  else
    let s2 : State := { s1 with time := { s1.time with sel := set } }
    let s3 : State := if set = s.time.sel then s2 else s2.servo (s2.src (set.headD 0)).sv
    let s4 : State := if s3.time.hold then s3.exitHold else s3
    State.leapUpdate (if s4.clk.est then s4 else s4.establish)

/-- A source is LOST (R368, R370). -/
def State.srcLost (s : State) (i : Nat) : State :=
  let x := s.src i
  State.raise (s.setSrc i { x with st := 1, losses := sat16 x.losses, agree := none }) 0x09110008#32

/-- A backward jump: FAULTY for 60 s from it; announced once per episode (R370). -/
def State.srcFault (s : State) (i : Nat) : State :=
  let x := s.src i
  let s1 := s.setSrc i { x with st := 5, faults := sat16 x.faults, faultTo := s.otime + 60000000, agree := none }
  if x.st = 5 then s1 else s1.raise 0x09210006#32

/-- Whether a SUSPECT source nearSub with the selected set, and since when (R380). -/
def agreeSince (x : TimeSource) (ok : Bool) (now : Nat) : TimeSource :=
  if x.st = 4 then { x with agree := if ok then some (x.agree.getD now) else none } else x

def State.suspectWatch (s : State) : State :=
  let ok (x : TimeSource) : Bool := !s.time.sel.isEmpty && nearSub (inSub s.timeRec.tAgree) x.theta s.timeOfs
  { s with time := { s.time with srcs := s.time.srcs.map (fun (x : TimeSource) => agreeSince x (ok x) s.otime) } }

/-- A sample of a source: jump tests, the test while it qualifies, and the servo (R369 to R371, R379, R382). -/
def State.timeSample (s : State) (i : Nat) (theta : Int) (v : ServoOut) : State :=
  let x := s.src i
  if x.off || (s.rank i).isNone then s
  else
    let fresh : TimeSource := { x with theta := theta, var := v.var, sv := v, fed := true }
    let back := match v.pred with
      | some p => decide (theta < p - 65536000)
      | none => false
    let ahead := match v.pred with
      | some p => decide (p + 65536000 < theta)
      | none => false
    -- a jump does not count among the offsets of the set it leaves
    let s0 := if back || ahead then s else s.setSrc i fresh
    let s1 :=
      if back then s0.srcFault i
      else if x.st = 5 then s0
      else if ahead then (if x.st = 1 then s0 else s0.srcLost i)
      else if x.st = 1 ∨ x.st = 0 then s0.setSrc i { s0.src i with st := 2, since := s.otime }
      else s0
    let low := (s1.src i).st == 2 && s1.clk.est
      && flt (subToF theta) (fneg (fadd (fofNat 1000) s1.timeUnc))
    let s2 := if low then s1.srcFault i else s1
    let s4 := s2.reselect
    let s3 := if back || ahead then s4.setSrc i { s4.src i with theta := theta, var := v.var, sv := v } else s4
    State.suspectWatch (if s3.time.sel.contains i then s3.servo v else s3)

/-- The slew of one pick: at most 0.1 ns towards θ_T (R382). In holdover nothing is left to correct. -/
def State.timePick (s : State) : State :=
  let d := iclamp (-6553) 6553 s.timeOfs
  let s1 : State := { s with time := { s.time with
    srcs := if s.time.sel.isEmpty then s.time.srcs else s.time.srcs.map (fun (x : TimeSource) => { x with theta := x.theta - d }) } }
  { s1 with time := { s1.time with
    tpSince := if s1.tpCond then some (s1.time.tpSince.getD s1.otime) else none } }

end Sys2Proof.Machine
end

