-- ==== Sys2Proof/Machine/GnssLatch.lean ====
section
/-! DEFINITION. The common latch: exclusions in force, what a latch takes of every channel, raw measurements and the raw record
(R333 to R337, R347). -/

namespace Sys2Proof.Machine

/-! ### exclusions (R347) -/

def Excl.matches (e : Excl) (con sv sig : Nat) : Bool :=
  e.con == con && e.sv == sv && (match e.sig with
    | some g => g == sig
    | none => true)

/-- The exclusions in force for a signal. -/
def State.exclOf (s : State) (con sv sig : Nat) : List Excl :=
  s.gnss.excl.filter (fun e => e.matches con sv sig && decide (s.otime < e.until'))

def State.conExcluded (s : State) (con : Nat) : Bool := s.gnss.exclC.any (fun e => e.1 == con && decide (s.otime < e.2))

/-- A signal enters no solution. -/
def State.signalOut (s : State) (con sv sig : Nat) : Bool := !(s.exclOf con sv sig).isEmpty || s.conExcluded con

/-- An exclusion begins or its hold restarts; the event tells its beginning. -/
def State.exclude (s : State) (con sv : Nat) (sig : Option Nat) (reason us : Nat) (code : Word) : State :=
  let same (e : Excl) : Bool := e.con == con && e.sv == sv && e.sig == sig && e.reason == reason
  let inForce := s.gnss.excl.any (fun e => same e && decide (s.otime < e.until'))
  let e : Excl := { con := con, sv := sv, sig := sig, reason := reason, until' := s.otime + us }
  let s1 : State := { s with gnss := { s.gnss with excl := s.gnss.excl.filter (fun x => !same x) ++ [e] } }
  if inForce then s1 else s1.raise code [byteOf con, byteOf sv, byteOf (sig.getD 0)]

/-! ### the latch (R333, R334) -/

/-- What the latch takes of a channel: its NCOs have run on to the latch's sample. -/
def State.latchOf (s : State) (c : Nat) : ChanLatch :=
  let x := s.chan c
  let y := x.advance (s.samplesNow x)
  { ch := c, epochs := y.epochs, chips := y.codPh / 2 ^ 40, codFrac := BitVec.ofNat 40 y.codPh
    cycles := (y.carPh >>> 40).setWidth 24, carFrac := y.carPh.setWidth 40
    car := x.car, cod := x.cod, st := x.st, cn0 := x.cn0, lockT := s.lockTime x, slips := x.slips, pllPh := y.pllPh, pllN := y.pllN }

/-- The latch itself: its number and instant, and every channel that is not FREE. -/
def State.latchBegin (s : State) : State :=
  { s with gnss := { s.gnss with
      lseq := (s.gnss.lseq + 1) % 4294967296, latchAt := s.now
      latched := ((List.range 384).filter (fun c => (s.chan c).st != 0)).map s.latchOf } }

/-! ### measurements (R335, R336) -/

def lightSpeed : F64 := fofNat 299792458

def Chan.tracks (x : Chan) : Bool := x.st == 3 || x.st == 4

def latchChan (v : LatchIn) (c : Nat) : Option ChanIn := v.chans.find? (fun x => x.ch == c)

/-- The latch instant in the system time of a constellation in ns, within its week or, for GLONASS, its day; and the length of that. -/
def State.systemTime (s : State) (con : Nat) : Int × Int :=
  let tai : Int := s.gnss.latchAt
  if con = 2 then (Int.emod (tai - s.time.leap * 1000000000 + 10800000000000) 86400000000000, 86400000000000)
  else (Int.emod (tai - (if con = 3 then 33000000000 else 19000000000) - 315964800000000000) 604800000000000, 604800000000000)

/-- Pseudorange in m: c·(t_rx − t_tx), t_tx from the code phase and the time of week of the code's epoch 0. -/
def State.pseudorange (s : State) (x : Chan) (l : ChanLatch) (tow : Nat) : F64 :=
  let chip : Int := ((sigChips x.sig * 2 ^ 40 : Nat) : Int)
  let phase : Int := (((l.epochs.toNat * sigSpan x.sig + l.chips) * 2 ^ 40 + l.codFrac.toNat : Nat) : Int)
  let t := s.systemTime x.con
  let d := Int.emod ((t.1 - tow) * chip - phase * 1000000000) (t.2 * chip)
  let d1 := if t.2 * chip < 2 * d then d - t.2 * chip else d
  fofRat (d1 * 299792458) (sigChips x.sig * 2 ^ 40 * 1000000000)

/-- Carrier phase in cycles since the PLL period began: the carrier without its nominal baseband frequency, growing with the range. -/
def State.carrierPhase (s : State) (x : Chan) (l : ChanLatch) : F64 :=
  match s.streamRec x.strm with
  | some r =>
    let ph := if r.inv then -l.pllPh else l.pllPh
    fofRat ((sigFreq x.sig x.fcn - r.fz) * l.pllN * 2 ^ 40 - ph * 81840000) (81840000 * 2 ^ 40)
  | none => 0

/-- A pseudorange is valid: time of week decoded, FLL or PLL (R335). -/
def State.prOf (s : State) (c : Nat) (v : LatchIn) : Option F64 :=
  let x := s.chan c
  if x.tracks then
    (latchChan v c).bind (fun m => m.tow.bind (fun t =>
      (s.gnss.latched.find? (fun l => l.ch == c)).map (fun l => s.pseudorange x l t)))
  else none

/-- A carrier phase is valid: PLL (R335). -/
def State.cpOf (s : State) (c : Nat) : Option F64 :=
  let x := s.chan c
  if x.st = 4 then (s.gnss.latched.find? (fun l => l.ch == c)).map (s.carrierPhase x) else none

/-- A raw entry (R337). A pilot has no half-cycle ambiguity. -/
def State.rawEntry (s : State) (c : Nat) (v : LatchIn) : List Byte :=
  let x := s.chan c
  let pr := s.prOf c v
  let cp := s.cpOf c
  let half := !sigData x.sig || (match latchChan v c with
    | some y => y.half
    | none => false)
  let out := s.signalOut x.con x.sv x.sig
  let flags := fbit 0 pr.isSome + fbit 1 cp.isSome + fbit 2 half + fbit 3 x.slip + fbit 4 out + fbit 5 x.sat
  be16 c ++ [byteOf x.sig, byteOf x.sv, byteOf x.strm, byteOf (if sigGlonass x.sig then (x.fcn + 7).toNat else 0), byteOf x.st, byteOf flags]
    ++ be16 x.cn0.toNat ++ be16 (s.lockTime x) ++ be64 (pr.getD 0).toNat ++ be64 (cp.getD 0).toNat ++ beF32 (s.doppler x)

/-- The raw record (R336). -/
def State.rawRecord (s : State) (v : LatchIn) : List Byte :=
  let l := (List.range 384).filter (fun c => (s.chan c).tracks)
  let b := [byteOf 0x10, byteOf 1] ++ be16 l.length ++ be64 s.now ++ be16 s.clk.frac.toNat ++ zeros 2
    ++ be32 s.gnss.lseq ++ beF32 (s.gnss.clkOfs.getD 0) ++ (l.map (fun c => s.rawEntry c v)).flatten
  b ++ be32 (crc32c b)

end Sys2Proof.Machine
end

