-- ==== Sys2Proof/Machine/GnssFix.lean ====
section
/-! DEFINITION. The position and velocity of a latch by weighted least squares (R338, R349). -/

namespace Sys2Proof.Machine

/-! ### linear equations -/

/-- A row less the multiple of the pivot row that clears its first entry. -/
def elimRow (p r : List F64) : List F64 :=
  let m := fdiv (r.headD 0) (p.headD 0)
  List.zipWith (fun a b => fsub b (fmul m a)) p.tail r.tail

/-- The triangular form of rows that each end in their right side. -/
def triangle : Nat → Mat → Mat
  | n + 1, p :: l => p :: triangle n (l.map (elimRow p))
  | _, _ => []

/-- Back substitution. -/
def backSub : Mat → List F64
  | [] => []
  | p :: l =>
    let x := backSub l
    fdiv (fsub (p.getLastD 0) (fdotl (p.tail.take x.length) x)) (p.headD 0) :: x

/-- The solution of a symmetric positive definite system, without exchanges of rows. -/
def linSolve (a : Mat) (b : List F64) : List F64 := backSub (triangle a.length (List.zipWith (fun r x => r ++ [x]) a b))

/-- Weighted normal equations of rows (coefficients, right side, standard deviation). -/
def normalMat (n : Nat) (l : List (List F64 × F64 × F64)) : Mat :=
  matOf n (fun i j => fsum (l.map (fun m => fdiv (fmul (m.1.getD i 0) (m.1.getD j 0)) (fmul m.2.2 m.2.2))))
def normalVec (n : Nat) (l : List (List F64 × F64 × F64)) : List F64 :=
  (List.range n).map (fun i => fsum (l.map (fun m => fdiv (fmul (m.1.getD i 0) m.2.1) (fmul m.2.2 m.2.2))))
def leastSquares (n : Nat) (l : List (List F64 × F64 × F64)) : List F64 := linSolve (normalMat n l) (normalVec n l)

/-! ### measurements of a satellite -/

/-- What a satellite gives the solution: pseudorange in m with every correction made, range rate in m/s, standard deviations. -/
structure SatMeas where
  nav : NavIn
  pr : F64
  rate : F64
  sig : F64
  sigDop : F64
  deriving DecidableEq, Repr

/-- A signal of a satellite on group 0: carrier, pseudorange, Doppler, judged MULTIPATH or NARROWBAND. -/
structure SigMeas where
  f : F64
  pr : F64
  dop : F64
  doubt : Bool
  deriving DecidableEq, Repr

/-- The signals of a satellite that may enter the solution: group 0, PRVALID, not excluded (R338). -/
def State.sigMeas (s : State) (v : LatchIn) (con sv : Nat) : List SigMeas :=
  (List.range 384).filterMap (fun c =>
    let x := s.chan c
    if x.con = con ∧ x.sv = sv ∧ x.strm < 4 ∧ s.signalOut con sv x.sig = false then
      (s.prOf c v).map (fun r =>
        ({ f := fofInt (sigFreq x.sig x.fcn), pr := r, dop := s.doppler x, doubt := x.cls == 1 || x.cls == 2 } : SigMeas))
    else none)

def topFreq (l : List SigMeas) (m : SigMeas) : SigMeas := l.foldl (fun a b => if flt a.f b.f then b else a) m
def lowFreq (l : List SigMeas) (m : SigMeas) : SigMeas := l.foldl (fun a b => if flt b.f a.f then b else a) m

/-- Two bands: the ionosphere removed by the dual-frequency combination; one: by the broadcast model (R338). -/
def ionoFree (n : NavIn) (a b : SigMeas) : F64 :=
  let fa := fmul a.f a.f
  let fb := fmul b.f b.f
  if feq a.f b.f then
    fsub a.pr (fdiv (fmul n.iono (fmul (fofNat 1575420000) (fofNat 1575420000))) fa)
  else fdiv (fsub (fmul fa a.pr) (fmul fb b.pr)) (fsub fa fb)

/-- The measurement of a satellite: highest and lowest carrier in use; twice the standard deviation when a signal in use is judged
MULTIPATH or NARROWBAND (R338, R353). -/
def State.satMeas (s : State) (v : LatchIn) (n : NavIn) : Option SatMeas :=
  match s.sigMeas v n.con n.sv with
  | [] => none
  | m :: l =>
    let a := topFreq l m
    let b := lowFreq l m
    let sig := if a.doubt || b.doubt then fmul (fofNat 2) n.sig else n.sig
    some { nav := n, pr := fadd (fsub (fadd (ionoFree n a b) n.clk) n.tropo) (n.sbas.getD 0)
           rate := fneg (fmul (fdiv lightSpeed a.f) a.dop), sig := sig, sigDop := n.sigDop }

/-- The satellites of the solution: navigation data at hand, at or above the mask (R316, R338). -/
def State.solutionSats (s : State) (v : LatchIn) : List SatMeas :=
  v.nav.filterMap (fun n => if (s.gnssRec.mask : Int) ≤ n.elev then s.satMeas v n else none)

/-! ### the solution -/

/-- The constellations in use, in the order of their first satellite. -/
def consOf (l : List SatMeas) : List Nat := l.foldl (fun a m => if a.contains m.nav.con then a else a ++ [m.nav.con]) []

/-- Direction and distance of a satellite. -/
def losOf (x p : V3) : V3 × F64 :=
  let d := v3sub p x
  let r := v3norm d
  ((fdiv d.1 r, fdiv d.2.1 r, fdiv d.2.2 r), r)

/-- The unknowns as a list: position, receiver clock and the further constellations' offsets, in m. -/
def posOf (y : List F64) : V3 := (y.getD 0 0, y.getD 1 0, y.getD 2 0)

/-- The part of the further constellations in the row of a satellite. -/
def conRow (cons : List Nat) (c : Nat) : List F64 := cons.tail.map (fun k => if k = c then fofNat 1 else 0)

/-- The row of a satellite at an estimate: coefficients, residual in m, standard deviation. -/
def posRow (cons : List Nat) (y : List F64) (m : SatMeas) : List F64 × F64 × F64 :=
  let g := losOf (posOf y) m.nav.pos
  let h := [fneg g.1.1, fneg g.1.2.1, fneg g.1.2.2, fofNat 1] ++ conRow cons m.nav.con
  (h, fsub m.pr (fadd g.2 (fdotl (h.drop 3) (y.drop 3))), m.sig)

/-- Ten Gauss-Newton steps. -/
def solveSteps (cons : List Nat) (l : List SatMeas) : Nat → List F64 → List F64
  | 0, y => y
  | k + 1, y => solveSteps cons l k (vecAdd y (leastSquares y.length (l.map (posRow cons y))))

/-- WGS 84 position to latitude and longitude in radians and height in m. -/
def geodetic (p : V3) : V3 :=
  let a := fofNat 6378137
  let f := fdiv (fofNat 1) (fofRat 298257223563 1000000000)
  let e2 := fmul f (fsub (fofNat 2) f)
  let r := fsqrt (fadd (fmul p.1 p.1) (fmul p.2.1 p.2.1))
  let n (la : F64) : F64 := fdiv a (fsqrt (fsub (fofNat 1) (fmul e2 (fmul (Config.fsin la) (Config.fsin la)))))
  let step (la : F64) : F64 := Config.fatan2 (fadd p.2.2 (fmul (fmul e2 (n la)) (Config.fsin la))) r
  let la := step (step (step (step (step (Config.fatan2 p.2.2 (fmul r (fsub (fofNat 1) e2)))))))
  (la, Config.fatan2 p.2.1 p.1, fsub (fadd (fmul r (Config.fcos la)) (fmul p.2.2 (Config.fsin la)))
    (fmul a (fsqrt (fsub (fofNat 1) (fmul e2 (fmul (Config.fsin la) (Config.fsin la)))))))

/-- Rows north, east and down of the rotation from WGS 84 at a latitude and longitude. -/
def earthRows (la lo : F64) : M3 :=
  let sa := Config.fsin la; let ca := Config.fcos la
  let so := Config.fsin lo; let co := Config.fcos lo
  ((fneg (fmul sa co), fneg (fmul sa so), ca), (fneg so, co, 0), (fneg (fmul ca co), fneg (fmul ca so), fneg sa))

/-- A position solution (R338, R343, R349): satellites used, position, latitude and longitude in degrees, height, velocity, standard
deviations, |residual| / σ per satellite, a redundant satellite, GNSS time less DTIME and inter-system offsets in ns, satellites with an
SBAS correction. -/
structure PosSol where
  nsv : Nat
  ecef : V3
  lat : F64
  lon : F64
  hgt : F64
  vel : V3
  sigH : F64
  sigV : F64
  res : List ((Nat × Nat) × F64)
  redundant : Bool
  clk : F64
  isb : List (Nat × F64)
  sbas : Nat
  deriving DecidableEq, Repr

/-- The row of a satellite's range rate: the receiver's velocity and clock rate are unknown. -/
def velRow (x : V3) (m : SatMeas) : List F64 × F64 × F64 :=
  let u := (losOf x m.nav.pos).1
  ([fneg u.1, fneg u.2.1, fneg u.2.2, fofNat 1], fadd (fsub m.rate (v3dot u m.nav.vel)) m.nav.clkDot, m.sigDop)

/-- m as ns of light travel. -/
def lightNs (m : F64) : F64 := fdiv (fmul m (fofNat 1000000000)) lightSpeed

/-- The solution of a latch: at least four satellites plus one for each further constellation (R338). -/
def State.positionAt (s : State) (v : LatchIn) : Option PosSol :=
  let l := s.solutionSats v
  let cons := consOf l
  let n := 4 + (cons.length - 1)
  if l.length < n then none
  else
    let y0 := [s.gnss.ecef.1, s.gnss.ecef.2.1, s.gnss.ecef.2.2] ++ List.replicate (n - 3) 0
    let y := solveSteps cons l 10 y0
    let x := posOf y
    let rows := l.map (posRow cons y)
    let g := geodetic x
    let r := earthRows g.1 g.2.1
    let nm := normalMat n rows
    let col (j : Nat) : List F64 := linSolve nm ((List.range n).map (fun i => if i = j then fofNat 1 else 0))
    let var (d : V3) : F64 := v3dot d (v3add (v3add (v3scale d.1 (posOf (col 0))) (v3scale d.2.1 (posOf (col 1)))) (v3scale d.2.2 (posOf (col 2))))
    some {
      nsv := l.length, ecef := x, lat := frad2deg g.1, lon := frad2deg g.2.1, hgt := g.2.2
      vel := m3apply r (posOf (leastSquares 4 (l.map (velRow x))))
      sigH := fsqrt (fdiv (fadd (var r.1) (var r.2.1)) (fofNat 2)), sigV := fsqrt (var r.2.2)
      res := List.zipWith (fun (m : SatMeas) (w : List F64 × F64 × F64) => ((m.nav.con, m.nav.sv), fdiv (fabs w.2.1) w.2.2)) l rows
      redundant := decide (n < l.length), clk := lightNs (fneg (y.getD 3 0))
      isb := List.zip cons.tail ((y.drop 4).map lightNs), sbas := countP (fun (m : SatMeas) => m.nav.sbas.isSome) l }

/-- The largest normalised residual with its satellite. -/
def PosSol.worst (p : PosSol) : (Nat × Nat) × F64 := p.res.foldl (fun a b => if flt a.2 b.2 then b else a) ((0, 0), 0)

end Sys2Proof.Machine
end

