-- ==== Sys2Proof/Machine/GnssMeas.lean ====
section
/-! DEFINITION. GNSS measurements and integrity: the common latch, solutions, records, integrity checks, the classifier, RTCM
corrections and the measurement registers (R333 to R358). -/

namespace Sys2Proof.Machine

/-! ### the checks, in order (R347 to R353) -/

/-- What cross-band consistency compares of one signal: SIGID, carrier, pseudorange, Doppler. -/
structure BandMeas where
  sig : Nat
  f : F64
  pr : F64
  dop : F64
  deriving DecidableEq, Repr

/-- A pair at different frequencies disagrees (R348). -/
def pairBad (d : DraftGnss) (a b : BandMeas) : Bool :=
  let (i, j) := if flt a.f b.f then (b, a) else (a, b)
  let rate (m : BandMeas) : F64 := fmul (fdiv lightSpeed m.f) m.dop
  let ion := fdiv (fmul (fsub j.pr i.pr) (fmul j.f j.f)) (fsub (fmul i.f i.f) (fmul j.f j.f))
  !feq i.f j.f && (flt d.tRr (fabs (fsub (rate i) (rate j))) || flt ion d.iLo || flt d.iHi ion)

/-- What of a satellite is excluded: none, all, or one signal (R348). -/
def bandVerdict (d : DraftGnss) (l : List BandMeas) : Option (Option Nat) :=
  let others (m : BandMeas) : List BandMeas := l.filter (fun x => x.sig != m.sig)
  let agree (k : List BandMeas) : Bool := k.all (fun a => k.all (fun b => a.sig == b.sig || !pairBad d a b))
  if agree l then none
  else if l.length < 3 then some none
  else
    match l.find? (fun m => (others m).all (fun x => pairBad d m x) && agree (others m)) with
    | some m => some (some m.sig)
    | none => some none

/-- Satellites in the channel table. -/
def State.sats (s : State) : List (Nat × Nat) :=
  s.gnss.chans.foldl (fun (l : List (Nat × Nat)) x => if x.st = 0 ∨ l.contains (x.con, x.sv) then l else l ++ [(x.con, x.sv)]) []

/-- Cross-band consistency on group 0 (R348). -/
def State.crossBand (s : State) (v : LatchIn) : State :=
  s.sats.foldl (fun (a : State) p =>
    let l := (List.range 384).filterMap (fun c =>
      let x := a.chan c
      if x.con = p.1 ∧ x.sv = p.2 ∧ x.strm < 4 then
        (a.prOf c v).map (fun r => ({ sig := x.sig, f := fofInt (sigFreq x.sig x.fcn), pr := r, dop := a.doppler x } : BandMeas))
      else none)
    match bandVerdict a.gnssRec l with
    | some g => a.exclude p.1 p.2 g 0 30000000 0x082B0013#32
    | none => a) s

/-- The Draft's vector in m from ANT0 to another antenna. -/
def State.baseVec (s : State) (k : Nat) : Option V3 :=
  match s.gnssRec.ants.getD 0 none, s.gnssRec.ants.getD k none with
  | some a, some b => some (fdiv (fofInt (b.1 - a.1)) (fofNat 1000), fdiv (fofInt (b.2.1 - a.2.1)) (fofNat 1000), fdiv (fofInt (b.2.2 - a.2.2)) (fofNat 1000))
  | _, _ => none

/-- The double difference in cycles that a baseline predicts for a satellite: an antenna nearer to it has the smaller range. -/
def aoaPredict (att : M3) (base : V3) (e : AoaIn) : F64 :=
  let lambda := fdiv lightSpeed (fofInt (sigFreq e.sig e.fcn))
  fneg (fdiv (v3dot (m3apply att base) (v3sub e.dir e.ref)) lambda)

/-- The residual of a double difference exceeds T_aoa. -/
def State.aoaBad (s : State) (att : M3) (k : Nat) (dd : F64) (e : AoaIn) : Bool :=
  match s.baseVec k with
  | some b => flt s.gnssRec.tAoa (fabs (fsub dd (aoaPredict att b e)))
  | none => false

/-- The per-satellite angle-of-arrival test (R350): the reference attitude is the Observer's of the last started beat. -/
def State.aoaTest (s : State) (v : LatchIn) : State :=
  let ok := s.obs.valid && !s.obs.drHdg && s.gnss.ambig
  let att := rotZYX (s.obs.x.getD 2 0) s.obs.pitch s.obs.roll
  let s1 : State := { s with gnss := { s.gnss with noAoa := !ok } }
  if ok then
    v.aoa.foldl (fun (a : State) e =>
      if a.aoaBad att 1 e.dd1 e || a.aoaBad att 2 e.dd2 e then a.exclude e.con e.sv none 3 30000000 0x082B0017#32 else a) s1
  else s1

/-- The position solution with residual exclusion, repeated at most three times (R338, R349). An excluded signal enters no solution
of the latch: a solution that still fails after the last repetition is none. -/
def State.solvePos (v : LatchIn) : Nat → State → State × Option PosSol
  | k, s =>
    match s.positionAt v with
    | none => (s, none)
    | some p =>
      if flt s.gnssRec.tRes p.worst.2 && p.redundant then
        let s1 := s.exclude p.worst.1.1 p.worst.1.2 none 1 30000000 0x082B0014#32
        match k with
        | 0 => (s1, none)
        | n + 1 => State.solvePos v n s1
      else (s, some p)

/-- The constellation test (R349). -/
def State.conTest (s : State) (p : PosSol) : State :=
  if s.gnss.clkSeq + 1 = s.gnss.lseq then
    p.isb.foldl (fun (a : State) e =>
      match aget e.1 s.gnss.isb with
      | some o =>
        if flt a.gnssRec.tClk (fabs (fsub e.2 o)) then
          let told := a.conExcluded e.1
          let a1 : State := { a with gnss := { a.gnss with exclC := aset e.1 (a.otime + 60000000) a.gnss.exclC } }
          if told then a1 else a1.raise 0x082B0016#32 [byteOf e.1]
        else a
      | none => a) s
  else s

/-- The mean drift of the receiver clock over the last 60 s, ns/s. -/
def clkDrift (l : List (Nat × F64)) : F64 :=
  match l.head?, l.getLast? with
  | some a, some b => if a.1 = b.1 then 0 else fdiv (fsub a.2 b.2) (usToS (a.1 - b.1))
  | _, _ => 0

/-- A withdrawal begins, or its run of passing latches begins anew (R349, R351). -/
def State.withdrawClk (s : State) : State :=
  let s1 : State := { s with gnss := { s.gnss with clkBad := some s.otime } }
  if s.gnss.clkBad.isSome then s1 else s1.raise 0x083B0015#32
def State.withdrawCommon (s : State) : State :=
  let s1 : State := { s with gnss := { s.gnss with common := some s.otime } }
  if s.gnss.common.isSome then s1 else s1.raise 0x083B0018#32

/-- The receiver test (R349), from the second solution on (R358). -/
def State.clkTest (s : State) (p : PosSol) (dtNs : Nat) : State :=
  match s.gnss.clkOfs with
  | some o =>
    if s.gnss.clkSeq + 1 = s.gnss.lseq then
      let dt := fdiv (fofNat dtNs) (fofNat 1000000000)
      let d := clkDrift s.gnss.clkLog
      let lim := fadd (fadd (fabs (fmul d dt)) (fmul (fofNat 100) dt)) s.gnssRec.tClk
      if flt lim (fabs (fsub p.clk o)) then s.withdrawClk else s
    else s
  | none => s

/-- Satellites in PLL on all three antennas, GLONASS apart (R342). -/
def State.triple (s : State) : Nat :=
  countP (fun (p : Nat × Nat) => p.1 != 2 && [0, 1, 2].all (fun a =>
    s.gnss.chans.any (fun x => x.con == p.1 && x.sv == p.2 && x.st == 4 && x.strm / 4 == a))) s.sats

/-- Draft length in m of the baseline from ANT0 to an antenna. -/
def State.baseline (s : State) (k : Nat) : Option F64 := (s.baseVec k).map v3norm

/-- The ratio test of an integer search: second-best residual to the best (R341). -/
def State.ratioOk (s : State) (best second : F64) : Bool := fle s.gnssRec.ratio (fdiv second best)

/-- A measured length fits the Draft's (R342). -/
def lengthOk (draft : Option F64) (m : F64) : Bool :=
  match draft with
  | some d => fle (fabs (fsub m d)) (fmax 0x3F847AE147AE147B#64 (fmul 0x3F50624DD2F1A9FC#64 d))
  | none => false

/-- ASTAT of a latch (R342). -/
def State.attStatus (s : State) (a : Option AttIn) : Nat :=
  match a with
  | some x =>
    if s.triple < 5 ∨ (s.baseline 1).isNone ∨ (s.baseline 2).isNone then 0
    else if s.ratioOk x.best x.second && lengthOk (s.baseline 1) x.bl1 && lengthOk (s.baseline 2) x.bl2 then 2 else 1
  | none => 0

/-- A double difference lies within 0.05 cycle of an integer. -/
def nearInteger (x : F64) : Bool := fle (fabs (fsub x (fofInt (frint x)))) 0x3FA999999999999A#64

/-- The common-direction test (R351), on every baseline of 1.0 m or more. -/
def State.commonTest (s : State) (l : List (Nat × F64)) : State :=
  let used := l.filter (fun e => match s.baseline e.1 with
    | some b => decide (1 ≤ e.1) && fle (fofNat 1) b
    | none => false)
  let n := used.length
  let k := countP (fun (e : Nat × F64) => nearInteger e.2) used
  if 6 ≤ n ∧ 9 * n ≤ 10 * k then s.withdrawCommon else s

/-- The classes that stand, with their reactions (R353). -/
def State.classReact (s : State) : State :=
  let s1 := (List.range 384).foldl (fun (a : State) c =>
    let x := a.chan c
    if x.tracks && x.cls == 4 then a.exclude x.con x.sv none 4 60000000 0x082B0019#32 else a) s
  let s2 := (List.range 12).foldl (fun (a : State) k =>
    let l := a.gnss.chans.filter (fun x => x.tracks && x.strm == k)
    let w := countP (fun (x : Chan) => x.cls == 3) l
    if !l.isEmpty && decide (0 < w ∧ l.length ≤ 2 * w) then
      let add := l.map (fun x => ({ con := x.con, sv := x.sv, sig := some x.sig, reason := 4, until' := a.otime + 30000000 } : Excl))
      { a with gnss := { a.gnss with
          excl := a.gnss.excl.filter (fun e => !add.any (fun n => n.con == e.con && n.sv == e.sv && n.sig == e.sig && e.reason == 4)) ++ add } }
    else a) s1
  let bad := s2.sats.filter (fun p => s2.gnss.chans.any (fun x => x.con == p.1 && x.sv == p.2 && x.tracks && x.cls == 4))
  if 3 ≤ bad.length then s2.withdrawCommon else s2

/-- A stream is flagged INTERF (R353). -/
def State.interf (s : State) : Bool := s.gnss.chans.any (fun x => x.tracks && (x.cls == 2 || x.cls == 3))

/-- INTEG (R343). -/
def State.integ (s : State) : Nat :=
  let has (r : Nat) : Bool := s.gnss.excl.any (fun e => e.reason == r && decide (s.otime < e.until'))
  fbit 0 (has 0) + fbit 1 (has 1) + fbit 2 (s.gnss.exclC.any (fun e => decide (s.otime < e.2))) + fbit 3 (has 3) + fbit 4 (has 4)
    + fbit 5 s.interf + fbit 6 s.gnss.noAoa

def State.gnssWithdrawn (s : State) : Bool := s.gnss.clkBad.isSome || s.gnss.common.isSome

/-! ### fix level and records -/

/-- Correction age in 0.1 s at a latch (R341, R356). -/
def State.ageNow (s : State) : Nat :=
  match s.gnss.msmAt with
  | some t => min 65535 ((s.now - t) / 100000000)
  | none => 65535

/-- RTK applies (R341). -/
def State.rtkOk (s : State) : Bool :=
  s.gnss.refPos.isSome && !s.gnss.moved && (match s.gnss.msmAt with
    | some t => decide (s.now ≤ t + s.gnssRec.ageLimit * 1000000000)
    | none => false)

/-- Satellites of the RTK solution that are not excluded (R341). -/
def State.rtkSats (s : State) (r : RtkIn) : List (Nat × Nat) :=
  r.sats.filter (fun p => s.gnss.chans.any (fun x => x.st != 0 && x.con == p.1 && x.sv == p.2 && !s.signalOut x.con x.sv x.sig))

/-- The RTK solution that applies to a latch, and whether it is fixed (R341). -/
def State.rtkNow (s : State) (v : LatchIn) : Option (RtkIn × Bool) :=
  if s.rtkOk then v.rtk.map (fun r => (r, s.ratioOk r.best r.second && decide (5 ≤ (s.rtkSats r).length))) else none

/-- The fix level (R339). -/
def State.fixLevel (s : State) (p : Option PosSol) (v : LatchIn) : Nat :=
  match p, s.rtkNow v with
  | none, _ => 0
  | some _, some (_, fixed) => if fixed then 4 else 3
  | some x, none => if 4 ≤ x.sbas then 2 else 1

/-- Correction age beyond its limit or a moved reference station (R341). -/
def State.rtkEvents (s : State) : State :=
  let beyond : Bool := match s.gnss.msmAt with
    | some t => decide (t + s.gnssRec.ageLimit * 1000000000 < s.now)
    | none => false
  let tell := (beyond && !s.gnss.ageOut) || s.gnss.moved
  let s1 : State := { s with gnss := { s.gnss with ageOut := beyond } }
  if tell then s1.raise 0x082A001C#32 else s1

/-- The position record (R343): the RTK position where RTK applies. -/
def State.posRecord (s : State) (p : PosSol) (fix : Nat) (v : LatchIn) : List Byte :=
  let age := if 3 ≤ fix then s.ageNow else 65535
  let q : F64 × F64 × F64 × F32 × F32 := match s.rtkNow v with
    | some (r, _) => (r.lat, r.lon, r.hgt, r.sigH, r.sigV)
    | none => (p.lat, p.lon, p.hgt, f64to32 p.sigH, f64to32 p.sigV)
  let b := [byteOf 1, byteOf 1, byteOf fix, byteOf p.nsv] ++ be64 s.now ++ be64 q.1.toNat ++ be64 q.2.1.toNat ++ be64 q.2.2.1.toNat
    ++ beF32 p.vel.1 ++ beF32 p.vel.2.1 ++ beF32 p.vel.2.2 ++ be32 q.2.2.2.1.toNat ++ be32 q.2.2.2.2.toNat
    ++ be16 age ++ [byteOf s.integ, 0]
  b ++ be32 (crc32c b)

/-- The attitude record (R344). -/
def State.attRecord (s : State) (a : AttIn) (astat : Nat) : List Byte :=
  let b := [byteOf 2, byteOf 1, byteOf astat, byteOf a.nsv] ++ be64 s.now ++ be32 a.heading.toNat ++ be32 a.pitch.toNat
    ++ be32 a.roll.toNat ++ be32 a.sigHdg.toNat ++ be32 a.sigAtt.toNat ++ beF32 a.bl1 ++ beF32 a.bl2 ++ [byteOf s.integ] ++ zeros 3
  b ++ be32 (crc32c b)

/-- The leap-second count of the navigation data (R387). -/
def State.navLeap (s : State) (l : Option (Int × Bool × Bool)) : State :=
  match l with
  | some x => State.leapUpdate { s with time := { s.time with leapGnss := some x } }
  | none => s

/-- GNSS_TIME_SAMPLE (R368). -/
def State.gnssTime (s : State) (p : Option PosSol) (v : ServoOut) : State :=
  match p with
  | some x =>
    if s.gnssWithdrawn then (if 2 ≤ (s.src 2).st ∧ (s.src 2).st ≤ 4 then (s.srcLost 2).reselect else s)
    else s.timeSample 2 (frint (fmul x.clk (fofNat 65536))) v
  | none => if 2 ≤ (s.src 2).st ∧ (s.src 2).st ≤ 4 then (s.srcLost 2).reselect else s

/-- The results of a latch: records, fix level, clock, the slip marks taken (R336 to R346). -/
def State.latchEnd (s : State) (v : LatchIn) (p : Option PosSol) : State :=
  let g := s.gnss
  let fix := s.fixLevel p v
  let astat := s.attStatus v.att
  let s1 := s.rtkEvents
  let raw : DueRec := { tov := s.now, ot := s.otime, bytes := s.rawRecord v }
  let due (b : List Byte) : DueRec := { tov := s.now, ot := s.otime, bytes := b }
  let clk := p.map (fun x => x.clk)
  let s2 : State := { s1 with gnss := { s1.gnss with
    fix := fix, astat := astat, ambig := astat == 2 || (g.ambig && astat != 0), moved := false, corrAge := s.ageNow
    nsv := match p with
      | some x => min 63 x.nsv
      | none => 0
    rawDue := g.rawDue ++ [raw]
    posDue := if s.gnssWithdrawn then g.posDue else g.posDue ++ (p.map (fun x => due (s.posRecord x fix v))).toList
    attDue := if s.gnssWithdrawn || astat == 0 then g.attDue
      else g.attDue ++ (v.att.map (fun x => due (s.attRecord x astat))).toList
    clkOfs := if clk.isSome then clk else g.clkOfs, clkSeq := if clk.isSome then g.lseq else g.clkSeq
    ecef := match p with
      | some x => x.ecef
      | none => g.ecef
    isb := match p with
      | some x => x.isb
      | none => g.isb
    clkLog := match clk with
      | some c => (s.otime, c) :: g.clkLog.filter (fun (e : Nat × F64) => decide (s.otime ≤ e.1 + 60000000))
      | none => g.clkLog
    chans := s1.gnss.chans.map (fun (x : Chan) => if x.tracks then { x with slip := false } else x) } }
  if fix = g.fix then s2 else s2.raise 0x080A0010#32 [byteOf fix]

/-! ### posting (R345, R346) -/

/-- Results are posted: not after a CLK_GNSS failure (R35). -/
def State.posts (s : State) : Bool := s.gnss.run && !s.sys.clkFail.getLsbD 3

/-- A record later than its limit counts in GNSS_MLATE. -/
def State.lateBy (s : State) (r : DueRec) (ms : Nat) : State :=
  if r.tov + ms * 1000000 < s.now then { s with gnss := { s.gnss with mLate := sat32 s.gnss.mLate } } else s

/-- A record is still within latch + 100 ms. -/
def State.inTime (s : State) (r : DueRec) : Bool := decide (s.now ≤ r.tov + 100000000)

/-- A record goes to an internal session (R345). -/
def State.toInternal (s : State) (i : Option Nat) (kind : Nat) (r : DueRec) : State :=
  match i with
  | some k => { s with heddle := { s.heddle with inbox := s.heddle.inbox ++
      [{ sess := k, arrival := s.now, time := some r.tov, body := .gnss kind r.bytes }] } }
  | none => s

/-- RAW_RECORD_POST (R346), t ns after the tick: staged for the Sherd at the Draft's decimation. -/
def execRawRecordPost (t : Ns) (s : State) : Host.Outcome State Fault Refusal :=
  let s0 := s.at t
  match s.gnss.rawDue with
  | r :: rest =>
    if s0.posts && s0.inTime r then
      let s1 := State.lateBy { s0 with gnss := { s0.gnss with rawDue := rest } } r 10
      let k := match s.draft with
        | some d => d.base.rawDecim
        | none => 0
      let lseq := ofBe ((r.bytes.drop 16).take 4)
      .next (if k ≠ 0 ∧ lseq % k = 0 then s1.stage 0x10 false 8 0 r.bytes (some (r.ot, r.tov)) else s1)
    else .next s
  | [] => .next s

/-- POSITION_RECORD_POST (R345, R346). -/
def execPositionRecordPost (t : Ns) (s : State) : Host.Outcome State Fault Refusal :=
  let s0 := s.at t
  match s.gnss.posDue with
  | r :: rest =>
    if s0.posts && s0.inTime r && !s0.gnssWithdrawn then
      .next ((State.lateBy { s0 with gnss := { s0.gnss with posDue := rest } } r 30).toInternal s.gnssRec.posSess 1 r)
    else .next s
  | [] => .next s

/-- ATTITUDE_RECORD_POST (R345, R346): to the heading and the attitude session. -/
def execAttitudeRecordPost (t : Ns) (s : State) : Host.Outcome State Fault Refusal :=
  let s0 := s.at t
  match s.gnss.attDue with
  | r :: rest =>
    if s0.posts && s0.inTime r && !s0.gnssWithdrawn then
      let s1 := State.lateBy { s0 with gnss := { s0.gnss with attDue := rest } } r 40
      .next ((s1.toInternal s.gnssRec.hdgSess 2 r).toInternal s.gnssRec.attSess 2 r)
    else .next s
  | [] => .next s

/-- GNSS_RECORD_DISCARD (R346): records not posted by latch + 100 ms. -/
def execGnssRecordDiscard (t : Ns) (s : State) : Host.Outcome State Fault Refusal :=
  let s0 := s.at t
  let keep (l : List DueRec) : List DueRec := l.filter (fun x => s0.inTime x)
  let g := s0.gnss
  let s1 : State := { s0 with gnss := { g with rawDue := keep g.rawDue, posDue := keep g.posDue, attDue := keep g.attDue } }
  .next (if s1.gnss = g then s else s1.raiseLimited 0x081A0011 1000000 0x081A0011#32)

/-- EXCLUSION_HOLD_EXPIRY (R347). -/
def execExclusionHoldExpiry (s : State) : Host.Outcome State Fault Refusal :=
  .next { s with gnss := { s.gnss with
    excl := s.gnss.excl.filter (fun e => decide (s.otime < e.until'))
    exclC := s.gnss.exclC.filter (fun e => decide (s.otime < e.2)) } }

/-- WITHDRAWAL_END (R349, R351): the receiver test's, or with `com` the common direction's, after 60 s without a failure. -/
def execWithdrawalEnd (com : Bool) (s : State) : Host.Outcome State Fault Refusal :=
  match (if com then s.gnss.common else s.gnss.clkBad) with
  | some t =>
    if t + 60000000 ≤ s.otime then
      .next (State.raise { s with gnss := (if com then { s.gnss with common := none } else { s.gnss with clkBad := none }) } 0x080B001B#32)
    else .next s
  | none => .next s

/-! ### the classifier (R352, R353) -/

/-- The class in which a channel is judged: its score reaches the threshold in at least 3 of the last 5 grids. -/
def judge (thr : List Nat) (grids : List (List Nat)) : Nat :=
  let hit (k : Nat) : Bool := decide (3 ≤ countP (fun (g : List Nat) => decide (thr.getD (k - 1) 160 ≤ g.getD k 0)) grids)
  if hit 4 then 4 else if hit 3 then 3 else if hit 2 then 2 else if hit 1 then 1 else 0

/-- One channel's grid. -/
def State.gridChan (s : State) (c : Nat) (sc : List Nat) : State :=
  let x := s.chan c
  let g := (sc :: x.grids).take 5
  let k := judge s.gnssRec.thresh g
  let s1 := s.setChan c { x with grids := g, cls := k, scores := sc }
  let flagged := s.gnss.chans.any (fun y => y.tracks && y.strm == x.strm && y.cls == 3)
  if k = 3 ∧ !flagged then s1.raise 0x082B001A#32 [byteOf x.strm] else s1

def State.gridAll (s : State) : List (Nat × List Nat) → State
  | [] => s
  | (c, sc) :: l => State.gridAll (s.gridChan c sc) l

/-- FEATURE_GRID (R314, R352): up to 64 channels in round-robin order, `scores` in that order. -/
def execFeatureGrid (scores : List (List Nat)) (s : State) : Host.Outcome State Fault Refusal :=
  if s.gnss.run && s.warp.pickCount % 4 == 0 then
    let l := (List.range 384).filter (fun c => (s.chan c).tracks)
    let order := (l.filter (fun c => decide (s.gnss.gridPtr ≤ c)) ++ l.filter (fun c => decide (c < s.gnss.gridPtr))).take 64
    let s1 := s.gridAll (order.zip scores)
    let ptr := match order.getLast? with
      | some c => (c + 1) % 384
      | none => 0
    .next { s1 with gnss := { s1.gnss with gridPtr := ptr } }
  else .next s

/-! ### RTCM (R340) -/

/-- CRC-24Q. -/
def crc24q : GlazeSet := { width := 24, refin := false, refout := false, poly := 0x864CFB, init := 0, xorout := 0 }

/-- n bits from bit `o` of a message, most significant first. -/
def bitsAt (b : List Byte) (o n : Nat) : Nat := ofBe b / 2 ^ (b.length * 8 - o - n) % 2 ^ n
/-- The same, two's complement. -/
def sbitsAt (b : List Byte) (o n : Nat) : Int :=
  let x := bitsAt b o n
  if x < 2 ^ (n - 1) then x else (x : Int) - ((2 ^ n : Nat) : Int)

/-- A whole message with a right check value. -/
def rtcmOk (b : List Byte) : Bool :=
  decide (8 ≤ b.length) && (b.getD 0 0) == 0xD3#8 && bitsAt b 14 10 + 6 == b.length
    && glazeCheck crc24q (b.take (b.length - 3)) == ofBe (b.drop (b.length - 3))

def msmTypes : List Nat := [1074, 1075, 1077, 1084, 1085, 1087, 1094, 1095, 1097, 1114, 1115, 1117, 1124, 1125, 1127]
def rtcmTypes : List Nat := [1005, 1006, 1033, 1230] ++ msmTypes

/-- The instant nearest `now` that is r modulo p, in ms. -/
def nearestMod (now r p : Int) : Int :=
  let d := Int.emod (r - now) p
  if d * 2 ≤ p then now + d else now + d - p

/-- DTIME in ns of an MSM message's epoch (R341; log entry 21). -/
def State.msmEpoch (s : State) (ty : Nat) (b : List Byte) : Nat :=
  let now : Int := ((s.now / 1000000 : Nat) : Int)
  let ms : Int :=
    if ty / 10 = 108 then nearestMod now (((bitsAt b 51 27 : Nat) : Int) - 10800000 + s.time.leap * 1000) 86400000
    else if ty / 10 = 112 then nearestMod now (((bitsAt b 48 30 : Nat) : Int) + (315964800 + 33) * 1000) 604800000
    else nearestMod now (((bitsAt b 48 30 : Nat) : Int) + (315964800 + 19) * 1000) 604800000
  (ms * 1000000).toNat

/-- The reference station's position of a 1005 or 1006 message in 0.1 mm (log entry 21). -/
def refOf (b : List Byte) : Int × Int × Int := (sbitsAt b 58 38, sbitsAt b 98 38, sbitsAt b 138 38)

/-- A message is accepted (R340, R341). -/
def State.rtcmTake (s : State) (ty : Nat) (b : List Byte) : State :=
  let s1 : State := { s with gnss := { s.gnss with rtcmOk := sat16 s.gnss.rtcmOk } }
  if msmTypes.contains ty then { s1 with gnss := { s1.gnss with msmAt := some (s.msmEpoch ty b) } }
  else if ty = 1005 ∨ ty = 1006 then
    let p := refOf b
    let far := match s.gnss.refPos with
      | some q =>
        let d := (p.1 - q.1, p.2.1 - q.2.1, p.2.2 - q.2.2)
        decide (1000000 < d.1 * d.1 + d.2.1 * d.2.1 + d.2.2 * d.2.2)
      | none => false
    { s1 with gnss := { s1.gnss with refPos := some p, moved := s1.gnss.moved || far } }
  else s1

/-- A message of another type is counted and told once per type and session (R340). -/
def State.rtcmIgnore (s : State) (i ty : Nat) : State :=
  let s1 : State := { s with gnss := { s.gnss with rtcmIgn := sat16 s.gnss.rtcmIgn } }
  if s.gnss.rtcmTold.contains (i, ty) then s1
  else State.raise { s1 with gnss := { s1.gnss with rtcmTold := s1.gnss.rtcmTold ++ [(i, ty)] } } 0x081A001D#32 (be16 ty ++ be16 i)

/-- An RTCM message of session i arrives now: accepted, ignored, or rejected (R340, R582, R583). -/
def State.rtcmMessage (s : State) (i : Nat) (b : List Byte) : State :=
  if !s.sessTakes i || s.gnssRec.rtcm != some i then s
  else
    -- RTCM messages use set 2 (R613)
    let s := match s.sessRec i with
      | some r => s.glazeUnit (rxUnit r) i 2 (b.take (b.length - 3))
      | none => s
    if !rtcmOk b then s.glazeFail.sessReject i s.now false
    else
    let (s1, ok) := s.charge i
    if !ok then s1
    else
      let s2 := s1.sessValid i s.now
      let ty := bitsAt b 24 12
      if rtcmTypes.contains ty then s2.rtcmTake ty b else s2.rtcmIgnore i ty

/-- RTCM_MESSAGE_RECEIVE (R340). -/
def execRtcmMessageReceive (i : Nat) (b : List Byte) (t : Ns) (s : State) : Host.Outcome State Fault Refusal :=
  .next ((s.at t).rtcmMessage i b)

/-! ### Draft and registers -/

/-- The baselines' lengths and the angle between them (R342). -/
def antsOk (l : List (Option (Int × Int × Int))) : Bool :=
  match l.getD 0 none with
  | none => false
  | some a =>
    let dif (b : Int × Int × Int) : F64 × F64 × F64 :=
      (fdiv (fofInt (b.1 - a.1)) (fofNat 1000), fdiv (fofInt (b.2.1 - a.2.1)) (fofNat 1000), fdiv (fofInt (b.2.2 - a.2.2)) (fofNat 1000))
    let lenOk (v : F64 × F64 × F64) : Bool := fle 0x3FE0000000000000#64 (v3norm v) && fle (v3norm v) (fofNat 100)
    match l.getD 1 none, l.getD 2 none with
    | some b, some c =>
      let u := dif b
      let w := dif c
      let cosA := fdiv (fabs (v3dot u w)) (fmul (v3norm u) (v3norm w))
      lenOk u && lenOk w && fle cosA (Config.fcos (fdeg2rad (fofNat 10)))
    | none, none => true
    | some b, none => lenOk (dif b)
    | none, some c => lenOk (dif c)

/-- The ranges of R354. -/
def gnssMeasOk (d : DraftGnss) : Bool :=
  (d.mLat == 10 || d.mLat == 20 || d.mLat == 50 || d.mLat == 100 || d.mLat == 200) && antsOk d.ants
  && d.delays.all (fun x => decide (x ≤ 1000)) && decide (1 ≤ d.ageLimit ∧ d.ageLimit ≤ 60)
  && fle (fofNat 2) d.ratio && fle d.ratio (fofNat 10) && fle 0x3FA999999999999A#64 d.tRr && fle d.tRr (fofNat 5)
  && fle (fofInt (-50)) d.iLo && fle d.iLo 0 && fle (fofNat 20) d.iHi && fle d.iHi (fofNat 300)
  && fle (fofNat 3) d.tRes && fle d.tRes (fofNat 10) && fle (fofNat 10) d.tClk && fle d.tClk (fofNat 1000)
  && fle 0x3FA999999999999A#64 d.tAoa && fle d.tAoa 0x3FE0000000000000#64
  && d.thresh.all (fun x => decide (1 ≤ x ∧ x ≤ 255)) && d.thresh.length == 4

/-- The integrity window (R357). -/
def State.sigWindow (s : State) (c : Nat) : List Word :=
  if 384 ≤ c then [0, 0, 0]
  else
    let x := s.chan c
    let l := if x.st = 0 then [] else s.exclOf x.con x.sv x.sig
    let con := x.st != 0 && s.conExcluded x.con
    let has (r : Nat) : Bool := l.any (fun e => e.reason == r)
    let ends := l.foldl (fun m e => max m e.until') (if con then (aget x.con s.gnss.exclC).getD 0 else 0)
    let sc (k : Nat) : Nat := x.scores.getD k 0
    [word (fbit 0 (has 0) + fbit 1 (has 1) + fbit 2 con + fbit 3 (has 3) + fbit 4 (has 4) + fld 5 3 x.cls
        + fld 16 16 (min 65535 ((ends - s.otime + 99999) / 100000))),
     word (fld 0 8 (sc 0) + fld 8 8 (sc 1) + fld 16 8 (sc 2) + fld 24 8 (sc 3)), word (fld 0 8 (sc 4))]

def State.writeSigsel (s : State) (v : Word) : State :=
  { s with gnss := { s.gnss with sigSel := v &&& 511, sigWin := s.sigWindow (v.toNat % 512) } }
/-- GNSS_SIGSEL_WRITE (R357). -/
def execGnssSigselWrite (v : Word) (s : State) : Host.Outcome State Fault Refusal := .next (s.writeSigsel v)

/-- The value of a measurement register (R356, R357). -/
def State.gnssMeasReg (s : State) (off : Nat) : Word :=
  let g := s.gnss
  match off with
  | 0x100 => word (fld 0 3 g.fix + fld 4 6 g.nsv + fld 10 2 g.astat + fbit 12 g.clkBad.isSome + fbit 13 g.common.isSome + fbit 14 g.noAoa)
  | 0x104 => word g.lseq
  | 0x108 => sword (frintClamp (g.clkOfs.getD 0) (-2147483648) 2147483647)
  | 0x10C => word g.corrAge
  | 0x110 =>
    let out := g.chans.filter (fun x => x.st != 0 && s.signalOut x.con x.sv x.sig)
    let sats := s.sats.filter (fun p => out.any (fun x => x.con == p.1 && x.sv == p.2))
    word (fld 0 10 out.length + fld 16 8 sats.length + fld 24 5 (maskOf (fun c => s.conExcluded c) [0, 1, 2, 3, 4]))
  | 0x114 => word g.mLate
  | 0x118 => word (fld 0 16 g.rtcmOk + fld 16 16 g.rtcmIgn)
  | 0x11C => 0x00010000#32
  | 0x120 => g.sigSel
  | 0x124 => g.sigWin.getD 0 0
  | 0x128 => g.sigWin.getD 1 0
  | 0x12C => g.sigWin.getD 2 0
  | _ => 0

/-- COMMON_LATCH (R333, R347): at a pick tick whose millisecond count is a multiple of M_lat; the checks run in their
order, then the records are formed and the measurement registers renewed (R356). -/
def execCommonLatch (v : LatchIn) (s : State) : Host.Outcome State Fault Refusal :=
  let m := s.gnssRec.mLat
  if s.gnss.run && m != 0 && nearestMs s.clk.tick % m == 0 then
    let dt := s.clk.tick - s.gnss.latchAt
    let s1 := (((s.at 0).latchBegin).classReact).crossBand v
    let (s2, p) := State.solvePos v 3 (s1.aoaTest v)
    let s3 := match p with
      | some x => (s2.conTest x).clkTest x dt
      | none => s2
    let s4 := s3.commonTest v.common
    let s5 := ((s4.latchEnd v p).navLeap v.leap).gnssTime p v.servo
    .next (s5.shows ((List.range 7).map (fun i => (0x40070100 + 4 * i, s5.gnssMeasReg (0x100 + 4 * i)))))
  else .next s

/-- The value of a GNSS register. -/
def State.gnssReg (s : State) (off : Nat) : Word := if off < 0x100 then s.gnssSigReg off else s.gnssMeasReg off

end Sys2Proof.Machine
end

