-- ==== Sys2Proof/Machine/Time.lean ====
section
/-! DEFINITION. The time base's commands: PTP messages, source timers, oscillators, steps, leap seconds, pulses, and the TIME
registers (R359 to R397). Times of messages and corrections are in 2⁻¹⁶ ns. -/

namespace Sys2Proof.Machine

def State.domain (s : State) (i : Nat) : PtpDomain := s.timeRec.domains.getD i {}

/-- The ring domain's master (R378). -/
def State.ringMaster (s : State) : Bool := s.time.ringOn && s.leads
/-- Master of domain 0 PTPA, 1 PTPB, 2 ring. -/
def State.mastOf (s : State) (i : Nat) : Bool := if i = 2 then s.ringMaster else (s.src i).mast

/-- The clock class announced (R375); a condition that the table does not name has a free value (log entry 19). -/
def State.clockClass (s : State) (ring : Bool) : Nat :=
  if !s.clk.est then 248
  else if s.time.tpvalid then (if s.time.sel.contains 2 || ring then 6 else 248)
  else if s.time.hold then (if fle s.timeUnc (fofNat s.timeRec.thresh) then 7 else 187)
  else Config.clockClassOpen

/-- Limits of the clockAccuracy codes 0x17 on, in fs (R375; log entry 20). -/
def accLimits : List Nat := [1000, 2500, 10000, 25000, 100000, 250000, 1000000, 2500000, 10000000, 25000000, 100000000, 250000000,
  1000000000, 2500000000, 10000000000, 25000000000, 100000000000, 250000000000, 1000000000000, 2500000000000, 10000000000000,
  25000000000000, 100000000000000, 250000000000000, 1000000000000000, 10000000000000000]

def accIndex (fs : F64) : List Nat → Nat → Nat
  | [], k => k
  | l :: r, k => if fle fs (fofNat l) then k else accIndex fs r (k + 1)

/-- The smallest enumerated accuracy at or above u; 0xFE unknown while DTIME is not established (R375; log entry 20). -/
def State.clockAcc (s : State) : Nat :=
  if s.clk.est then accIndex (fmul s.timeUnc (fofNat 1000000)) accLimits 0x17 else 0xFE

/-- Two's complement in 8 bytes. -/
def beInt64 (x : Int) : List Byte := be64 (BitVec.ofInt 64 x).toNat

/-- A PTP message's content as the model keeps it: type, domain, sequence, correction, time in ns (log entry 20). -/
def ptpMsg (mtype dom seq : Nat) (corr : Int) (t : Nat) : List Byte :=
  byteOf mtype :: byteOf dom :: be16 seq ++ beInt64 corr ++ be64 t

/-- The two ports of a domain. -/
def domPorts (i : Nat) : List Nat := if i = 2 then [2, 3] else [0, 1]

/-- A one-step Sync on both ports of a domain (R375, R378). -/
def State.sendSync (s : State) (i : Nat) : State :=
  let n := s.time.txSync.getD i 0
  let s1 : State := { s with time := { s.time with txSync := s.time.txSync.set i ((n + 1) % 65536) } }
  s1.emitAll ((domPorts i).map (fun p => Output.frame p "Sync" (ptpMsg 0 (s.domain i).number n 0 s.now)))

/-- MASTER_SYNC_SEND (R375). -/
def execMasterSyncSend (i : Nat) (s : State) : Host.Outcome State Fault Refusal :=
  .next (if i < 2 ∧ (s.src i).mast then s.sendSync i else s)

/-- RING_SYNC_SEND (R378). -/
def execRingSyncSend (s : State) : Host.Outcome State Fault Refusal :=
  .next (if s.ringMaster then s.sendSync 2 else s)

/-- ANNOUNCE_SEND (R375): class, accuracy, priorities, the leap-second count and its flags. -/
def execAnnounceSend (i : Nat) (s : State) : Host.Outcome State Fault Refusal :=
  if s.mastOf i then
    let d := s.domain i
    let n := s.time.txAnn.getD i 0
    let s1 : State := { s with time := { s.time with txAnn := s.time.txAnn.set i ((n + 1) % 65536) } }
    .next (s1.emitAll ((domPorts i).map (fun p => Output.frame p "Announce"
      (ptpMsg 11 d.number n 0 s.now ++ [byteOf (s.clockClass (i == 2)), byteOf s.clockAcc, byteOf d.prio1, byteOf d.prio2]
        ++ be16 (BitVec.ofInt 16 s.time.leap).toNat ++ [byteOf (fbit 0 s.time.l61 + fbit 1 s.time.l59)]))))
  else .next s

/-- One data set is better than another: the first difference in order decides, the smaller wins (R375). -/
def lexLt : List Nat → List Nat → Bool
  | a :: l, b :: m => decide (a < b) || (a == b && lexLt l m)
  | _, _ => false

/-- The module's own data set is better than the one announced (R375). -/
def State.ownBetter (s : State) (i : Nat) (a : Announce) : Bool :=
  let d := s.domain i
  lexLt [d.prio1, s.clockClass false, s.clockAcc, Config.clockVariance, d.prio2, Config.clockId.toNat]
    [a.prio1, a.cls, a.acc, a.vari, a.prio2, a.gm.toNat]

/-- 2 to the k seconds in microseconds. -/
def logUs (k : Int) : Nat := if 0 ≤ k then 2 ^ k.toNat * 1000000 else 1000000 / 2 ^ (-k).toNat

/-- ANNOUNCE_RECEIVE (R368, R375, R387): a change of grandmaster requalifies the source; a better own data set makes the
module master where the Draft permits. -/
def execAnnounceReceive (i : Nat) (a : Announce) (s : State) : Host.Outcome State Fault Refusal :=
  let x := s.src i
  if (s.domain i).master && s.ownBetter i a then .next (s.setSrc i { x with mast := true })
  else
    let changed := match x.gm with
      | some g => g != a.gm
      | none => false
    let requal := changed && (x.st == 2 || x.st == 3 || x.st == 4)
    let y : TimeSource := { x with
      mast := false, annAt := s.otime, annInt := logUs a.logInt, gm := some a.gm, sender := some a.sender
      utc := if a.utcValid then some (a.utcOfs, a.leap61, a.leap59) else none
      st := if requal then 2 else x.st, since := if requal then s.otime else x.since }
    let s1 := s.setSrc i y
    .next (if requal then s1.reselect else if s.time.sel.contains i then s1.leapUpdate else s1)

def TimeSource.port (x : TimeSource) (p : Nat) : PtpPort := if p = 0 then x.a else x.b
def TimeSource.setPort (x : TimeSource) (p : Nat) (q : PtpPort) : TimeSource := if p = 0 then { x with a := q } else { x with b := q }

/-- Asymmetry of a port (R374). -/
def State.asym (s : State) (p : Nat) : Int := s.timeRec.asym.getD p 0 * 32768

def State.link (s : State) (p : Nat) : PtpPort := s.time.links.getD p {}
def State.setLink (s : State) (p : Nat) (q : PtpPort) : State := { s with time := { s.time with links := s.time.links.set p q } }

/-- The variance of a list times the square of its length. -/
def varScaled (l : List Int) : Int :=
  (l.length : Int) * l.foldl (fun a x => a + x * x) 0 - (l.foldl (fun a x => a + x) 0) * (l.foldl (fun a x => a + x) 0)

/-- The path-delay variance over the last 60 s of one port is smaller than that of another (R373). -/
def quieter (now : Nat) (a b : PtpPort) : Bool :=
  let f (q : PtpPort) : List Int := (q.delays.filter (fun (e : Nat × Int) => decide (now ≤ e.1 + 60000000))).map (fun (e : Nat × Int) => e.2)
  let la := f a
  let lb := f b
  decide (varScaled la * ((lb.length * lb.length : Nat) : Int) ≤ varScaled lb * ((la.length * la.length : Nat) : Int))

/-- The path delay that a port of a source uses: by delay request-response or by peer delay (R372, R373). -/
def State.pathDelay (s : State) (i p : Nat) : Option Int :=
  if (s.domain i).profile = 0 then ((s.src i).port p).delay else (s.link p).delay

/-- A port's offset becomes its sample, and the source's sample follows: the mean of both ports when they agree, otherwise
that of the port with the smaller path-delay variance (R373). -/
def State.portSample (s : State) (i p : Nat) (org rcv : Int) (v : ServoOut) : State :=
  let x := s.src i
  let q : PtpPort := { x.port p with sync := some (org, rcv), wait := none }
  match s.pathDelay i p with
  | none => s.setSrc i (x.setPort p q)
  | some d =>
    let th := org + s.asym p + d - rcv
    let q1 : PtpPort := { q with ofs := some (s.otime, th) }
    let x1 := x.setPort p q1
    let other := x1.port (1 - p)
    let s1 := s.setSrc i x1
    match other.ofs with
    | none => (s1.setSrc i { x1 with ports := p + 1 }).timeSample i th v
    | some (t, o) =>
      if t + 3 * x.syncInt < s.otime then (s1.setSrc i { x1 with ports := p + 1 }).timeSample i th v
      else if nearSub (inSub s.timeRec.tAgree) th o then
        (s1.setSrc i { x1 with ports := 0 }).timeSample i (Int.fdiv (th + o) 2) v
      else if quieter s.otime q1 other then (s1.setSrc i { x1 with ports := p + 1 }).timeSample i th v
      else (s1.setSrc i { x1 with ports := 2 - p }).timeSample i o v

/-- A port of the control network is up and not linked at 10BASE-T (R373). -/
def State.portTimes (s : State) (p : Nat) : Bool :=
  let x := s.net.ports.getD p {}
  x.up && decide (2 ≤ x.speed)

/-- A source whose messages the module takes as a slave. -/
def State.slaveOf (s : State) (i : Nat) : Bool :=
  (s.rank i).isSome && !(s.src i).off && !(s.src i).mast && decide (i < 2)

/-- PTP_SYNC_RECEIVE (R373, R374): origin time, correction and receive time of a Sync of source i on port p. -/
def execPtpSyncReceive (i p : Nat) (twoStep : Bool) (seq : Nat) (t1 corr t2 : Int) (logInt : Int) (v : ServoOut) (s : State) :
    Host.Outcome State Fault Refusal :=
  if s.slaveOf i && s.portTimes p then
    let x := s.src i
    let s1 := s.setSrc i { x with syncAt := s.otime, syncInt := logUs logInt }
    .next (if twoStep then s1.setSrc i ((s1.src i).setPort p { (s1.src i).port p with wait := some (seq, t2, corr) })
      else s1.portSample i p (t1 + corr) t2 v)
  else .next s

/-- A ring message leaves on the other ring port (R376). -/
def State.ringOut (s : State) (ing : Nat) (kind : String) (b : List Byte) (corr : Int) (bad : Bool) : State :=
  s.emit (.frame (5 - ing) kind (b ++ beInt64 corr ++ [byteOf (b2n bad)]))

/-- A ring message goes on uncorrected (R377). -/
def State.ringMissed (s : State) : State :=
  State.raiseLimited { s with time := { s.time with tcMiss := sat32 s.time.tcMiss } } 0x09150011 60000000 0x09150011#32

/-- FOLLOW_UP_RECEIVE (R373, R377): on ports A and B it completes a two-step Sync of source i; on the ring it is forwarded,
with the correction of its Sync when that passed at most 10 ms ago. -/
def execFollowUpReceive (i p seq : Nat) (t1 corr : Int) (v : ServoOut) (b : List Byte) (bad : Bool) (s : State) :
    Host.Outcome State Fault Refusal :=
  if p < 2 then
    if s.slaveOf i && s.portTimes p then
      match ((s.src i).port p).wait with
      | some (n, t2, c) => .next (if n = seq then s.portSample i p (t1 + corr + c) t2 v else s)
      | none => .next s
    else .next s
  else
    match (s.link p).passed.find? (fun (e : Nat × Nat × Int) => e.1 == seq && decide (s.otime ≤ e.2.1 + 10000)) with
    | some e => .next (State.ringOut { s with time := { s.time with tcCnt := sat32 s.time.tcCnt } } p "Follow_Up" b (corr + e.2.2) bad)
    | none => .next ((s.ringOut p "Follow_Up" b corr bad).ringMissed)

/-- RING_PTP_FORWARD (R376, R377): a Sync gets the residence time, the ingress link delay and that port's asymmetry; of a
two-step Sync they are kept for its Follow_Up; a message in UDP transport goes on unchanged. -/
def execRingPtpForward (ing seq : Nat) (sync twoStep udp bad : Bool) (corr residence : Int) (b : List Byte) (s : State) :
    Host.Outcome State Fault Refusal :=
  let add := residence + (s.link ing).delay.getD 0 + s.asym ing
  if udp then .next ((s.ringOut ing "PTP" b corr bad).ringMissed)
  else if !sync then .next (s.ringOut ing "PTP" b corr bad)
  else if twoStep then
    let q := s.link ing
    .next ((s.setLink ing { q with passed := ((seq, s.otime, add) :: q.passed).take 64 }).ringOut ing "Sync" b corr bad)
  else .next (State.ringOut { s with time := { s.time with tcCnt := sat32 s.time.tcCnt } } ing "Sync" b (corr + add) bad)

/-- A delay joins the last 60 s of its port. -/
def PtpPort.addDelay (q : PtpPort) (now : Nat) (d : Int) : PtpPort :=
  { q with
    delay := some d
    delays := (now, d) :: q.delays.filter (fun (e : Nat × Int) => decide (now ≤ e.1 + 60000000)), req := none }

/-- DELAY_REQ_SEND (R373), at t ns after the tick. -/
def execDelayReqSend (i p : Nat) (t : Ns) (s : State) : Host.Outcome State Fault Refusal :=
  let s0 := s.at t
  if s.slaveOf i && s.portTimes p && (s.domain i).profile == 0 then
    let x := s.src i
    let q := x.port p
    let s1 := s0.setSrc i (x.setPort p { q with req := some (q.reqNo, inSub s0.now), reqNo := (q.reqNo + 1) % 65536 })
    .next (s1.emit (.frame p "Delay_Req" (ptpMsg 1 (s.domain i).number q.reqNo 0 s0.now)))
  else .next s

/-- DELAY_RESP_RECEIVE (R373): t4 is the master's receive time, less the correction. The mean path delay is half the round
trip by the last Sync and this exchange. -/
def execDelayRespReceive (i p seq : Nat) (t4 : Int) (s : State) : Host.Outcome State Fault Refusal :=
  if s.slaveOf i && s.portTimes p then
    let x := s.src i
    let q := x.port p
    match q.req, q.sync with
    | some (n, t3), some (t1, t2) =>
      .next (if n = seq then s.setSrc i (x.setPort p (q.addDelay s.otime (Int.fdiv ((t2 - t1) + (t4 - t3)) 2))) else s)
    | _, _ => .next s
  else .next s

/-- DELAY_REQ_RECEIVE (R375): the master answers with the receive time. -/
def execDelayReqReceive (i p seq : Nat) (t : Ns) (s : State) : Host.Outcome State Fault Refusal :=
  let s0 := s.at t
  .next (if i < 2 ∧ (s.src i).mast then s0.emit (.frame p "Delay_Resp" (ptpMsg 9 (s.domain i).number seq 0 s0.now)) else s)

/-- Ports that measure peer delay: the ring's, and those of a domain under a peer-to-peer profile (R372, R376). -/
def State.peerPort (s : State) (p : Nat) : Bool :=
  decide (p = 2 ∨ p = 3) || (decide (p < 2) && (s.slaveOf 0 && (s.domain 0).profile != 0 || s.slaveOf 1 && (s.domain 1).profile != 0))

/-- PDELAY_REQ_SEND (R376). -/
def execPdelayReqSend (p : Nat) (t : Ns) (s : State) : Host.Outcome State Fault Refusal :=
  let s0 := s.at t
  if s.peerPort p then
    let q := s.link p
    .next ((s0.setLink p { q with req := some (q.reqNo, inSub s0.now), reqNo := (q.reqNo + 1) % 65536 }).emit
      (.frame p "Pdelay_Req" (ptpMsg 2 0 q.reqNo 0 s0.now)))
  else .next s

/-- PDELAY_REQ_RECEIVE (R376): the module answers on its ring ports, and on a port that measures peer delay. -/
def execPdelayReqReceive (p seq : Nat) (t : Ns) (s : State) : Host.Outcome State Fault Refusal :=
  let s0 := s.at t
  .next (if s.peerPort p then s0.emit (.frame p "Pdelay_Resp" (ptpMsg 3 0 seq 0 s0.now)) else s)

/-- PDELAY_RESP_RECEIVE (R376): receive time t4 here, and the neighbour's turnaround t3 − t2 with its corrections. -/
def execPdelayRespReceive (p seq : Nat) (t4 turn : Int) (s : State) : Host.Outcome State Fault Refusal :=
  let q := s.link p
  match q.req with
  | some (n, t1) => .next (if n = seq ∧ s.peerPort p then s.setLink p (q.addDelay s.otime (Int.fdiv ((t4 - t1) - turn) 2)) else s)
  | none => .next s

/-- MANAGEMENT_MESSAGE_RECEIVE (R372): counted and dropped. -/
def execManagementMessageReceive (s : State) : Host.Outcome State Fault Refusal :=
  .next { s with time := { s.time with mgmt := sat32 s.time.mgmt } }

/-- announceReceiptTimeout (log entry 20). -/
def annTimeout : Nat := 3

/-- PTP_SOURCE_TIMEOUT (R368, R375). -/
def execPtpSourceTimeout (i : Nat) (s : State) : Host.Outcome State Fault Refusal :=
  let x := s.src i
  let noAnn := decide (x.annAt + annTimeout * x.annInt ≤ s.otime)
  let noSync := decide (x.syncAt + 3 * x.syncInt ≤ s.otime)
  if i < 2 ∧ (noAnn || noSync) then
    let s1 : State := if (s.domain i).master && noAnn then s.setSrc i { x with mast := true, utc := none } else s
    .next (if x.st = 2 ∨ x.st = 3 ∨ x.st = 4 then (s1.srcLost i).reselect else s1)
  else .next s

/-- SOURCE_QUALIFIED (R369). -/
def execSourceQualified (i : Nat) (s : State) : Host.Outcome State Fault Refusal :=
  let x := s.src i
  .next (if x.st = 2 ∧ x.fed ∧ x.since + s.timeRec.tQual * 1000000 ≤ s.otime then
    (State.raise (s.setSrc i { x with st := 3 }) 0x09010007#32).reselect
  else s)

/-- SOURCE_FAULT_EXPIRY (R370). -/
def execSourceFaultExpiry (i : Nat) (s : State) : Host.Outcome State Fault Refusal :=
  let x := s.src i
  .next (if x.st = 5 ∧ x.faultTo ≤ s.otime then s.setSrc i { x with st := 2, fed := false, since := s.otime } else s)

/-- SUSPECT_RETURN (R380). -/
def execSuspectReturn (i : Nat) (s : State) : Host.Outcome State Fault Refusal :=
  let x := s.src i
  match x.agree with
  | some t => .next (if x.st = 4 ∧ t + s.timeRec.tQual * 1000000 ≤ s.otime then (s.setSrc i { x with st := 3, agree := none }).reselect else s)
  | none => .next s

/-- DTIME_STEP (R383, R384): at a pick tick outside ACTIVE and DEGRADED, by whole seconds at a beat edge inside them. -/
def execDtimeStep (s : State) : Host.Outcome State Fault Refusal :=
  let th := s.timeOfs
  if !s.clk.est || s.time.sel.isEmpty || s.clk.sub != 0 then .next s
  else if s.isActive then
    if s.warp.run && s.warp.phase == 0 && decide (inSub 1000000000 < th) then
      let secs := subToNs th / 1000000000
      let s1 := s.moveTime (secs * 1000000000)
      let s2 := State.raise { s1 with time := { s1.time with
        steps := sat16 s1.time.steps, secSteps := sat16 s1.time.secSteps } } 0x09210003#32
      .next (if s2.ringMaster then s2.sendSync 2 else s2)
    else .next s
  else if inSub s.timeRec.tStep < th then
    let s1 := s.moveTime (subToNs th)
    .next (State.raise { s1 with time := { s1.time with steps := sat16 s1.time.steps } } 0x09110002#32)
  else .next s

/-- HOLDOVER_LIMIT (R386). -/
def execHoldoverLimit (s : State) : Host.Outcome State Fault Refusal :=
  .next (if s.time.hold && !s.time.holdTold && flt (fofNat s.timeRec.holdLimit) s.timeUnc then
    State.raise { s with time := { s.time with holdTold := true } } 0x0921000D#32
  else s)

/-- A ratio to CLK_KLN deviates from nominal by more than 20 ppm; in 10⁻⁹ (R364, R365). -/
def oscOff (dev : Int) : Bool := decide (20000 < dev.natAbs)

/-- REFIN_QUALIFY (R364): `devs` holds the deviations from the nominal ratio to CLK_KLN measured in every ms of the last second, in
10⁻⁹; REFIN is taken into use once it has held within ±20 ppm for 1 s. -/
def execRefinQualify (devs : List Int) (s : State) : Host.Outcome State Fault Refusal :=
  .next (if !s.time.refUse && !s.time.refBad && s.timeRec.refUse && decide (1000 ≤ devs.length) && devs.all (fun d => !oscOff d) then
    { s with time := { s.time with refUse := true } }
  else s)

/-- REFIN_FAILURE (R365): no edge for 1 µs, or a deviation over 1 ms, in 10⁻⁹, of more than 20 ppm. The TCXO takes over, with the
ratio measured over the last second as frequency correction; a failing test while REFIN is not in use begins its 60 s anew. -/
def execRefinFailure (edge : Bool) (dev ratio : Int) (s : State) : Host.Outcome State Fault Refusal :=
  let s1 : State := { s with time := { s.time with refBad := true, refFailAt := s.otime } }
  .next (if edge && !oscOff dev then s
  else if s.time.refUse then
    State.raise { s1 with time := { s1.time with refUse := false, freq := iclamp (-50000000) 50000000 ratio } } 0x0934000A#32
  else s1)

/-- REFIN_RESTORE (R365): 60 s of passed tests; the switch back takes the ratio measured over the last second in the same way. -/
def execRefinRestore (ratio : Int) (s : State) : Host.Outcome State Fault Refusal :=
  .next (if s.time.refBad && s.timeRec.refUse && decide (s.time.refFailAt + 60000000 ≤ s.otime) then
    State.raise { s with time := { s.time with refBad := false, refUse := true, freq := iclamp (-50000000) 50000000 ratio } } 0x0904000B#32
  else s)

/-- TCXO_FAILURE (R365), by the tests of REFIN. -/
def execTcxoFailure (edge : Bool) (dev : Int) (s : State) : Host.Outcome State Fault Refusal :=
  .next (if s.time.tcxoBad || (edge && !oscOff dev) then s
    else State.raise { s with time := { s.time with tcxoBad := true } } 0x0924000E#32)

/-- LEAP_SECOND_APPLY (R387): at the end of the UTC day. -/
def execLeapSecondApply (s : State) : Host.Outcome State Fault Refusal :=
  let utc := ((s.now / 1000000000 : Nat) : Int) - s.time.leap
  let set (v : Int) : State := State.raise { s with time := { s.time with
    leap := v, l61 := false, l59 := false, leapMram := some v
    srcs := s.time.srcs.map (fun (x : TimeSource) => { x with utc := x.utc.map (fun _ => (v, false, false)) })
    leapGnss := s.time.leapGnss.map (fun _ => (v, false, false)) } } 0x0911000C#32
  .next (if s.clk.est && s.time.l61 && utc % 86400 == 0 then set (s.time.leap + 1)
    else if s.clk.est && s.time.l59 && utc % 86400 == 86399 then set (s.time.leap - 1)
    else s)

/-- PPS_PULSE (R388, R389): output n pulses at t ns after the tick, a whole second of DTIME less the output's advance, unless
its last pulse has not ended. -/
def execPpsPulse (n : Nat) (t : Ns) (s : State) : Host.Outcome State Fault Refusal :=
  let s0 := s.at t
  match s.timeRec.pps[n]? with
  | none => .next s
  | some r =>
    let on := (r.mode == 1 && s.clk.est) || (r.mode == 2 && decide (3 ≤ stateCode s.sys.st))
    let sec := (s0.now + r.advance) / 1000000000
    if on && s.draft.isSome && decide ((s0.now + r.advance) % 1000000000 = 0) && decide (s.time.ppsEnd.getD n 0 ≤ s0.otime) then
      .next (State.emit { s0 with time := { s0.time with ppsEnd := s0.time.ppsEnd.set n (s0.otime + r.width * 1000) } } (.pulse n sec))
    else .next s

/-- TPVALID_CHANGE (R390). -/
def execTpvalidChange (s : State) : Host.Outcome State Fault Refusal :=
  if s.time.tpvalid then .next (if s.tpCond then s else s.setTp false)
  else
    match s.time.tpSince with
    | some t => .next (if s.tpCond && decide (t + 2000000 ≤ s.otime) then s.setTp true else s)
    | none => .next s

/-- OTIME_SAVE (R361): OTIME and DTIME go to MRAM. -/
def State.saveTime (s : State) : State :=
  { s with time := { s.time with savedOtime := s.otime, savedDtime := s.now } }
def execOtimeSave (s : State) : Host.Outcome State Fault Refusal := .next s.saveTime

/-! ### Draft, start, registers -/

/-- A source is enabled or disabled by the Draft and the command (R367, R369). -/
def State.srcStart (s : State) (i : Nat) : TimeSource :=
  let x := s.src i
  if (s.rank i).isSome && !x.off then
    { x with st := if x.st = 0 then 2 else x.st, fed := x.fed && x.st != 0, since := s.otime, annAt := s.otime, syncAt := s.otime }
  else { x with st := 0, agree := none }

/-- Draft activation: every source enters QUALIFYING or DISABLED, the counters clear, commands are forgotten (R391, R392,
R397). -/
def State.timeActivated (s : State) : State :=
  let s1 : State := { s with time := { s.time with
    srcs := s.time.srcs.map (fun (x : TimeSource) => { x with
      st := 0, off := false, losses := 0, faults := 0, agree := none, a := {}, b := {}, ports := 3, mast := false
      gm := none, sender := none, utc := none })
    steps := 0, secSteps := 0, tcCnt := 0, tcMiss := 0
    -- a Draft that does not enable REFIN takes it out of use (R364)
    refUse := s.time.refUse && s.timeRec.refUse } }
  State.reselect { s1 with time := { s1.time with srcs := [s1.srcStart 0, s1.srcStart 1, s1.srcStart 2] } }

/-- What a reset leaves of the time base: the values in MRAM (R360, R361, R387). -/
def TimeBase.restarted (x : TimeBase) : TimeBase :=
  { leapMram := x.leapMram, savedOtime := x.savedOtime, savedDtime := x.savedDtime }

def inRange (lo hi x : Nat) : Bool := decide (lo ≤ x ∧ x ≤ hi)

/-- The ranges of R392. -/
def timeParamOk (d : DraftTime) : Bool :=
  d.ranks.all (fun r => match r with
    | some k => inRange 1 3 k
    | none => true)
  && d.domains.all (fun x => decide (x.number ≤ 127 ∧ x.profile ≤ 2 ∧ x.transport ≤ 1 ∧ x.prio1 ≤ 255 ∧ x.prio2 ≤ 255))
  && (d.domains.getD 0 {}).number != (d.domains.getD 1 {}).number
  && decide (-3 ≤ d.ringLog ∧ d.ringLog ≤ 0) && d.asym.all (fun a => decide (-2000 ≤ a ∧ a ≤ 2000))
  && fle 0x3F847AE147AE147B#64 d.bPtp && fle d.bPtp (fofNat 1)
  && fle 0x3F50624DD2F1A9FC#64 d.bGnss && fle d.bGnss 0x3FB999999999999A#64
  && inRange 2 60 d.tQual && inRange 20 100000 d.tAgree && inRange 1000 1000000000 d.tStep
  && inRange 10 100000 d.thresh && inRange 100 1000000000 d.holdLimit
  && fle 0x3E45798EE2308C3A#64 d.dRef && fle d.dRef (fofNat 1) && fle 0x3E45798EE2308C3A#64 d.dTcxo && fle d.dTcxo (fofNat 1)
  && d.pps.all (fun p => decide (p.mode ≤ 2 ∧ 1 ≤ p.width ∧ p.width ≤ 500 ∧ p.advance ≤ 10000)) && decide (d.leap ≤ 255)

/-- TIME_DT_H_READ (R395): the low word and the fraction are latched. -/
def State.latchDt (s : State) : State :=
  { s with time := { s.time with dtL := lo32 s.now, dtFrac := word s.clk.frac.toNat } }
def execTimeDtHRead (s : State) : Host.Outcome State Fault Refusal :=
  .next ((s.latchDt).emit (.regValue 0x40080008 (hi32 s.now)))

/-- A signed value saturated to 32 bits. -/
def satS32 (x : Int) : Word := sword (iclamp (-2147483648) 2147483647 x)
def satU32 (n : Nat) : Word := word (min n 0xFFFFFFFF)

/-- The mean path delay of a source in ns (R394). -/
def State.srcDelay (s : State) (i : Nat) : Nat :=
  let d (p : Nat) : Int := (s.pathDelay i p).getD 0
  let v : Int := match (s.src i).ports with
    | 0 => Int.fdiv (d 0 + d 1) 2
    | 1 => d 0
    | 2 => d 1
    | _ => 0
  if i = 2 then 0 else (subToNs v).toNat

/-- The source window (R394, R396). -/
def State.srcWindow (s : State) (i : Nat) : List Word :=
  if 2 < i then [0, 0, 0, 0]
  else
    let x := s.src i
    let hold := if x.st = 5 then (x.faultTo - s.otime + 999999) / 1000000 else 0
    [word (fld 0 3 x.st + fbit 3 (s.time.sel.contains i) + fld 4 2 ((s.rank i).getD 0) + fld 6 2 (if i = 2 then 0 else x.ports) + fld 16 16 hold),
     satS32 (subToNs x.theta), word (s.srcDelay i), word (fld 0 16 x.losses + fld 16 16 x.faults)]

/-- TIME_SRCSEL_WRITE (R395). -/
def State.writeSrcsel (s : State) (v : Word) : State :=
  { s with time := { s.time with srcSel := v &&& 3, win := s.srcWindow (v.toNat % 4) } }
def execTimeSrcselWrite (v : Word) (s : State) : Host.Outcome State Fault Refusal := .next (s.writeSrcsel v)

/-- TIME_STAT (R396). -/
def State.timeStat (s : State) : Word :=
  let m := s.time
  let ofs := s.timeOfs
  word (fbit 0 s.clk.est + fbit 1 m.hold + fbit 2 m.tpvalid + fbit 3 (decide (ofs < -65536 ∨ 65536 < ofs))
    + fbit 4 (!m.refUse) + fbit 5 m.refBad + fbit 6 m.tcxoBad
    + fbit 8 (m.sel.contains 0) + fbit 9 (m.sel.contains 1) + fbit 10 (m.sel.contains 2)
    + fbit 16 s.ringMaster + fbit 17 (s.src 0).mast + fbit 18 (s.src 1).mast)

def State.timeUncReg (s : State) : Word :=
  if s.clk.est then satU32 (frintClamp s.timeUnc 0 4294967295).toNat else 0xFFFFFFFF#32

/-- The value of a TIME register (R394, R396). -/
def State.timeReg (s : State) (off : Nat) : Word :=
  let m := s.time
  match off with
  | 0x00 => s.timeStat
  | 0x04 => m.dtL
  | 0x08 => hi32 s.now
  | 0x0C => m.dtFrac
  | 0x10 => s.timeUncReg
  | 0x14 => satS32 (subToNs s.timeOfs)
  | 0x18 => sword m.freq
  | 0x1C => word (fld 0 8 m.leap.toNat + fbit 8 m.l61 + fbit 9 m.l59 + fld 10 2 m.leapSrc)
  | 0x20 => if m.hold then satU32 ((s.otime - m.holdAt) / 1000000) else 0
  | 0x24 => word (fld 0 16 m.steps + fld 16 16 m.secSteps)
  | 0x30 => m.srcSel
  | 0x34 => m.win.getD 0 0
  | 0x38 => m.win.getD 1 0
  | 0x3C => m.win.getD 2 0
  | 0x40 => m.win.getD 3 0
  | 0x50 => word m.tcCnt
  | 0x54 => word m.tcMiss
  | _ => 0

end Sys2Proof.Machine
end

