-- ==== Sys2Proof/Machine/Net.lean ====
section
/-! DEFINITION. The Ethernet ports, redundancy, address and echo answers, datagrams, GOOSE and drive status frames, output
sessions and the NET registers (R554 to R593). -/

namespace Sys2Proof.Machine

def State.netRec (s : State) : DraftNet :=
  match s.draft with
  | some d => d.net
  | none => {}

def State.port (s : State) (p : Nat) : Port := s.net.ports.getD p {}
def State.setPort (s : State) (p : Nat) (x : Port) : State := { s with net := { s.net with ports := s.net.ports.set p x } }

/-! ### links and redundancy -/

/-- The other port of a pair. -/
def mate (p : Nat) : Nat := if p % 2 = 0 then p + 1 else p - 1

/-- A LAN is declared broken, or restored (R561). -/
def State.lanBreak (s : State) (p : Nat) : State :=
  if s.net.lanBad.getD p false then s
  else State.raise { s with net := { s.net with lanBad := s.net.lanBad.set p true } } 0x0A250004#32 [byteOf p]
def State.lanRestore (s : State) (p : Nat) : State :=
  if s.net.lanBad.getD p false then
    State.raise { s with net := { s.net with lanBad := s.net.lanBad.set p false } } 0x0A050006#32 [byteOf p]
  else s

/-- The ring is declared broken, or restored (R561). -/
def State.ringBreak (s : State) : State :=
  if s.net.ringBad then s else State.raise { s with net := { s.net with ringBad := true } } 0x0A350005#32
def State.ringRestore (s : State) : State :=
  if s.net.ringBad then State.raise { s with net := { s.net with ringBad := false } } 0x0A050006#32 [2] else s

/-- Both ring ports are linked and used. -/
def State.ringLinked (s : State) : Bool := (s.port 2).up && (s.port 2).used && (s.port 3).up && (s.port 3).used

/-- A gratuitous ARP on a control-network port (R558); the module has an address from NET_READY on (R584). -/
def State.gratuitous (s : State) (p : Nat) : State := if s.net.ready then s.emit (.frame p "ARP" (be32 s.net.ip.toNat)) else s

/-- A link of this speed can come up: the Draft may force port A or B to one speed (R555). -/
def State.speedAllowed (s : State) (p speed : Nat) : Bool :=
  match (if p = 0 then s.netRec.speedA else if p = 1 then s.netRec.speedB else none) with
  | some v => v == speed
  | none => true

/-- PORT_LINK_UP (R555, R556, R558, R560): speed code 1 to 3. A ring port below 1000BASE-T is not used. A port that the Draft forces to
another speed does not link. -/
def execPortLinkUp (p speed : Nat) (mdix : Bool) (s : State) : Host.Outcome State Fault Refusal :=
  if (s.port p).up || !s.speedAllowed p speed then .next s
  else
    let used := decide (p < 2 ∨ speed = 3)
    let s1 := (s.setPort p { s.port p with up := true, speed := speed, used := used, mdix := mdix, last := some s.otime }).raise
      0x0A040001#32 [byteOf p, byteOf speed]
    if p < 2 then
      let s2 : State := { s1 with net := { s1.net with linkAt := some (s1.net.linkAt.getD s1.otime) } }
      .next ((s2.lanRestore p).gratuitous p)
    else
      let s2 := if used then s1 else (s1.raise 0x0A240003#32 [byteOf p]).ringBreak
      .next (if s2.ringLinked then { s2 with net := { s2.net with forwarding := true } } else s2)

/-- PORT_LINK_DOWN (R561). -/
def execPortLinkDown (p : Nat) (s : State) : Host.Outcome State Fault Refusal :=
  let x := s.port p
  if x.up then
    let s1 := (s.setPort p { x with up := false, speed := 0, used := false, mdix := false, downs := sat16 x.downs, buf := 0 }).raise
      0x0A240002#32 [byteOf p]
    .next (if p < 2 then s1.lanBreak p else s1.ringBreak)
  else .next s

/-- PRP_SUPERVISION_SEND (R559): on both ports. -/
def execPrpSupervisionSend (s : State) : Host.Outcome State Fault Refusal :=
  let n := s.net.prpSeq
  .next (State.emitAll { s with net := { s.net with prpSeq := (n + 1) % 65536 } }
    ([0, 1].map (fun p => Output.frame p "PRP supervision" (be16 n))))

/-- LAN_SILENCE (R561): no frame on a linked port for 2.0 s while the other receives. -/
def execLanSilence (p : Nat) (s : State) : Host.Outcome State Fault Refusal :=
  let x := s.port p
  let quiet := match x.last with
    | some t => decide (t + 2000000 ≤ s.otime)
    | none => true
  let other := match (s.port (mate p)).last with
    | some t => decide (s.otime ≤ t + 2000000)
    | none => false
  .next (if p < 2 && x.up && quiet && other then s.lanBreak p else s)

/-- RING_SUPERVISION_SEND (R561): every 1.0 s on both ports; a frame that has not returned on the other port by the next
shows the ring broken. -/
def execRingSupervisionSend (s : State) : Host.Outcome State Fault Refusal :=
  let back := (s.port 2).back && (s.port 3).back
  let s1 :=
    if !s.ringLinked then s
    else if s.net.ringSup && !back then s.ringBreak
    else if s.net.ringSup then s.ringRestore
    else s
  let n := s1.net.hsrSeq
  let s2 := (s1.setPort 2 { s1.port 2 with back := false })
  let s3 := s2.setPort 3 { s2.port 3 with back := false }
  let s4 : State := { s3 with net := { s3.net with ringSup := s.ringLinked, hsrSeq := (n + 1) % 65536 } }
  .next (s4.emitAll ([2, 3].map (fun p => Output.frame p "HSR supervision" (be16 n))))

/-! ### receiving frames (R555, R559, R584, R587) -/

/-- The counters of the current pick start with it (R586, R587). -/
def State.netPick (s : State) : State :=
  if s.net.pick = s.warp.pickCount then s
  else { s with net := { s.net with
    pick := s.warp.pickCount, retryNow := 0, createdNow := 0, ports := s.net.ports.map (fun (x : Port) => { x with now := 0 }) } }

/-- The longest frame that is accepted, all tags included (R555). -/
def maxFrame : Nat := 1528

/-- What a frame is, as far as admission cares: 0 link-local group, 1 supervision, 2 PTP, 3 IPv6, 4 any other. -/
abbrev FrameKind := Nat

/-- The first copy of a frame is kept; a second within 400 ms is a duplicate (R559). -/
def State.keepFirst (s : State) (src : List Byte) (seq : Option Nat) (p : Nat) : State × Bool :=
  match seq with
  | none => (s, true)
  | some n =>
    let live := s.net.seen.filter (fun (e : PrpSeen) => decide (s.otime ≤ e.at' + 400000))
    if live.any (fun e => e.src == src && e.seq == n && e.port / 2 == p / 2) then
      ({ s with net := { s.net with seen := live } }.setPort p { s.port p with dup := sat32 (s.port p).dup }, false)
    else ({ s with net := { s.net with seen := { src := src, seq := n, port := p, at' := s.otime } :: live } }, true)

/-- The receive budget of a port: 256 frames per pick (R587). -/
def State.budget587 (s : State) (p : Nat) : State × Bool :=
  let x := s.port p
  if x.now < 256 then (s.setPort p { x with now := x.now + 1 }, true)
  else ((s.setPort p { x with budget := sat16 x.budget }).raiseLimited 0x0A11000C 1000000 0x0A11000C#32, false)

/-- Whether a frame on a port is handed on to session processing (R555, R557, R559, R584, R587). -/
def State.frameIn (s : State) (p : Nat) (src : List Byte) (seq : Option Nat) (bad : Bool) (kind : FrameKind) : State × Bool :=
  let s0 := s.netPick
  let x := s0.port p
  let s1 := s0.setPort p { x with rx := sat32 x.rx, last := some s.otime }
  let s2 := if p < 2 then s1.lanRestore p else s1
  if bad then (s2.setPort p { s2.port p with fcs := sat16 (s2.port p).fcs }, false)
  else if !s.net.ready && 3 ≤ kind then ({ s2 with net := { s2.net with prenr := sat32 s2.net.prenr } }, false)
  else
    let (s3, first) := s2.keepFirst src seq p
    if !first then (s3, false)
    else if kind = 2 then (s3, false)
    else if kind = 3 then (s3.setPort p { s3.port p with unprov := sat16 (s3.port p).unprov }, false)
    else if kind ≤ 1 then (s3, false)
    else s3.budget587 p

/-- A telegram that matches no entry (R585). -/
def State.unprov (s : State) (p : Nat) : State := s.setPort p { s.port p with unprov := sat16 (s.port p).unprov }

/-- RING_FRAME_FORWARD (R560, R561): own frames are removed, others go on in cut-through or are dropped for want of buffer;
`mine` is 0 for frames not addressed to the module, 1 for its own unicast address, 2 for a group it takes; `queued` bytes
wait at the egress port. -/
def execRingFrameForward (ing : Nat) (src : List Byte) (seq : Nat) (own sup bad : Bool) (mine queued : Nat) (b : List Byte)
    (s : State) : Host.Outcome State Fault Refusal :=
  let out := 5 - ing
  let tooLong := decide (maxFrame < b.length)
  let bad := bad || tooLong
  let s1 := if own || mine == 0 then
      let s0 := s.netPick
      let x := s0.port ing
      s0.setPort ing { x with rx := sat32 x.rx, fcs := if bad then sat16 x.fcs else x.fcs, last := some s.otime }
    else (s.frameIn ing src (some seq) bad (if sup then 1 else 4)).1
  if own then .next (if sup && !bad then s1.setPort out { s1.port out with back := true } else s1)
  else if mine = 1 ∨ tooLong ∨ !s1.net.forwarding ∨ !(s1.port out).up then .next s1
  else
    let y := s1.port out
    if 65536 < queued + b.length then .next (s1.setPort out { y with fwd := sat16 y.fwd, buf := queued })
    else .next ((s1.setPort out { y with buf := queued + b.length }).emit (.frame out "HSR" b))

/-! ### answers (R558) -/

/-- The answer counters start anew in each second of OTIME. -/
def State.ansSecond (s : State) : State :=
  let k := s.otime / 1000000
  if s.net.ansSec = k then s else { s with net := { s.net with ansSec := k, arpNow := 0, icmpNow := 0 } }

/-- An ARP packet that claims the module's own link-local address while no configuration is known: the next address
(R557). -/
def State.arpConflict (s : State) : State :=
  let ip := s.net.ip
  let y := (ip.toNat + 1) % 256
  { s with net := { s.net with ip := word (ip.toNat / 256 * 256 + y) } }

/-- An ARP packet: `mine` asks for the module's address; `conflict` claims it (R557, R558). -/
def State.arp (s : State) (p : Nat) (mine conflict : Bool) : State :=
  if !s.net.ready then { s with net := { s.net with prenr := sat32 s.net.prenr } }
  else
    let s0 := s.ansSecond
    let linkLocal := s0.net.ip.toNat / 65536 == 169 * 256 + 254 && s.draft.isNone && s.net.saved.isNone
    if conflict then (if linkLocal then s0.arpConflict else s0)
    else if !mine then s0
    else if s0.net.arpNow < 64 then
      State.emit { s0 with net := { s0.net with arpNow := s0.net.arpNow + 1 } } (.frame p "ARP" (be32 s0.net.ip.toNat))
    else { s0 with net := { s0.net with arpDrop := sat16 s0.net.arpDrop } }

/-- ARP_REQUEST (R557, R558). -/
def execArpRequest (p : Nat) (mine conflict : Bool) (s : State) : Host.Outcome State Fault Refusal := .next (s.arp p mine conflict)

/-- An ICMP echo request (R558). -/
def State.icmp (s : State) (p : Nat) (b : List Byte) : State :=
  if !s.net.ready then { s with net := { s.net with prenr := sat32 s.net.prenr } }
  else
    let s0 := s.ansSecond
    if s0.net.icmpNow < 16 then
      State.emit { s0 with net := { s0.net with icmpNow := s0.net.icmpNow + 1 } } (.frame p "ICMP echo reply" b)
    else { s0 with net := { s0.net with icmpDrop := sat16 s0.net.icmpDrop } }

/-- ICMP_ECHO_REQUEST (R558). -/
def execIcmpEchoRequest (p : Nat) (b : List Byte) (s : State) : Host.Outcome State Fault Refusal := .next (s.icmp p b)

/-- Membership reports for the groups, on both ports (R558). -/
def State.igmp (s : State) (v3 : Bool) : State :=
  let b := (s.netRec.groups.map (fun (g : Word × Nat) => be32 g.1.toNat)).flatten
  if !s.net.ready then { s with net := { s.net with prenr := sat32 s.net.prenr } }
  else if s.netRec.groups.isEmpty then s
  else s.emitAll ([0, 1].map (fun p => Output.frame p (if v3 then "IGMPv3 report" else "IGMPv2 report") b))

/-- IGMP_QUERY (R558). -/
def execIgmpQuery (v3 : Bool) (s : State) : Host.Outcome State Fault Refusal := .next (s.igmp v3)

/-! ### readiness and admission (R557, R584, R585) -/

/-- The IPv4 configuration to use: the active Draft's, else the one last saved (R557). -/
def State.ipSaved (s : State) : Option IpConf :=
  match s.draft with
  | some d => some { ip := d.net.ip, plen := d.net.plen, gateway := d.net.gateway }
  | none => s.net.saved

/-- The IPv4 address in use: the Draft's, the one last saved, or the link-local one of the serial number (R557). -/
def State.ipNow (s : State) (serial : U64) : Word :=
  match s.ipSaved with
  | some a => a.ip
  | none => word (169 * 16777216 + 254 * 65536 + (1 + serial.toNat / 256 % 256 % 254) * 256 + serial.toNat % 256)

/-- The configuration of the active Draft is applied and saved in MRAM (R557). -/
def State.applyIp (s : State) (serial : U64) : State :=
  { s with net := { s.net with ip := s.ipNow serial, saved := s.ipSaved } }

/-- NET_READY (R584): once after each reset, at the first arrival at STANDBY. -/
def State.netReady (s : State) (serial : U64) : State :=
  if s.net.ready then s
  else
    let s1 := s.applyIp serial
    let s2 := State.raise { s1 with net := { s1.net with ready := true, readyAt := some s1.otime } } 0x0A050007#32
    let s3 := [0, 1].foldl (fun (a : State) p => if (a.port p).up then a.gratuitous p else a) s2
    (s3.igmp false).igmp true

/-- ADMISSION_OPEN (R585). -/
def execAdmissionOpen (s : State) : Host.Outcome State Fault Refusal :=
  match s.net.readyAt, s.net.linkAt with
  | some a, some b => .next (if max a b + 1000000 ≤ s.otime then { s with net := { s.net with admitOpen := true } } else s)
  | _, _ => .next s

/-! ### IEC 61162-450 and UDP (R576, R578) -/

/-- A provisioned session by kind and the first bytes of its ADDRESS (R580). -/
def State.findSess (s : State) (p : SessRec → Bool) : Option SessRec :=
  match s.draft with
  | some d => d.sessions.find? p
  | none => none

/-- The lines of a datagram, without CR LF. -/
def splitLines : List Byte → List Byte → List (List Byte)
  | cur, [] => if cur.isEmpty then [] else [cur]
  | cur, b :: l =>
    if b = 13#8 then splitLines cur l
    else if b = 10#8 then cur :: splitLines [] l
    else splitLines (cur ++ [b]) l

/-- The exclusive or of a tag block's characters. -/
def xorSum (l : List Byte) : Byte := l.foldl (fun a b => a ^^^ b) 0

/-- A line's tag block, between backslashes, and what follows it. -/
def tagOf (l : List Byte) : Option (List Byte) × List Byte :=
  match l with
  | b :: rest =>
    if b = 0x5C#8 then
      let t := rest.takeWhile (fun c => c != 0x5C#8)
      (some t, rest.drop (t.length + 1))
    else (none, l)
  | [] => (none, [])

/-- A tag block's checksum is right. -/
def tagOk (t : List Byte) : Bool :=
  let body := t.takeWhile (fun c => c != 0x2A#8)
  match t.drop body.length with
  | [_, h, l] => (match hexVal h, hexVal l with
    | some a, some b => a * 16 + b == (xorSum body).toNat
    | _, _ => false)
  | _ => false

/-- The "s:" parameter of a tag block. -/
def tagSource (t : List Byte) : Option (List Byte) :=
  let body := t.takeWhile (fun c => c != 0x2A#8)
  let parts := (body.foldr (fun c (a : List (List Byte)) => if c = 0x2C#8 then [] :: a else match a with
    | x :: r => (c :: x) :: r
    | [] => [[c]]) [[]])
  (parts.find? (fun p => p.take 2 == ascii "s:")).map (fun p => p.drop 2)

/-- A datagram's sentences with the source identity of its first tag block; none where a tag block is missing or wrong. -/
def parse450 (b : List Byte) : Option (List Byte) × Bool × List (List Byte) :=
  let lines := splitLines [] b
  let tags := lines.map tagOf
  let src := (tags.findSome? (fun (t : Option (List Byte) × List Byte) => t.1)).bind tagSource
  let ok := src.isSome && tags.all (fun (t : Option (List Byte) × List Byte) => match t.1 with
    | some x => tagOk x
    | none => true)
  (src, ok, (tags.map (fun (t : Option (List Byte) × List Byte) => t.2)).filter (fun x => !x.isEmpty))

/-- A telegram is handed on to the Heddle (R579). -/
def State.handOn (s : State) (i : Nat) (b : Body) : State :=
  { s with heddle := { s.heddle with inbox := s.heddle.inbox ++ [{ sess := i, arrival := s.now, body := b }] } }

/-- The key of a datagram session: IPv4 address and UDP port (R580). -/
def ipKey (ip : Word) (port : Nat) : List Byte := le32 ip.toNat ++ le16 port

/-- IEC_61162_450_DATAGRAM (R576) on port p to a group, its UDP payload b, its last bit at t ns after the tick. -/
def State.datagram450 (s : State) (p : Nat) (group : Word) (dport : Nat) (b : List Byte) : State :=
  if !s.net.ready then { s with net := { s.net with prenr := sat32 s.net.prenr } }
  else if b.take 6 != ascii "UdPbC" ++ [0] then s.unprov p
  else
    let (src, ok, l) := parse450 (b.drop 6)
    let key := ipKey group dport
    match s.findSess (fun r => r.kind == 1 && r.rx && r.address.take 6 == key && (r.address.drop 6).take 6 == fitBytes 6 (src.getD [])
        && src.isSome) with
    | none => s.unprov p
    | some r =>
      if !s.sessTakes r.index then s
      else if ok then l.foldl (fun (a : State) x => a.handOn r.index (.sentence x)) s
      else match s.session r.index with
        | some x => s.setSession r.index { x with check := sat16 x.check }
        | none => s
def execIec61162450Datagram (p : Nat) (group : Word) (dport : Nat) (b : List Byte) (t : Ns) (s : State) :
    Host.Outcome State Fault Refusal :=
  .next ((s.at t).datagram450 p group dport b)

/-- The whole RTCM messages of a datagram (R578). -/
def rtcmSplit : Nat → List Byte → List (List Byte)
  | 0, _ => []
  | k + 1, b =>
    if b.length < 6 then (if b.isEmpty then [] else [b])
    else
      let n := bitsAt (b.take 3) 14 10 + 6
      b.take n :: rtcmSplit k (b.drop n)

/-- UDP_BINARY_DATAGRAM (R578) from an address and port. -/
def State.datagramUdp (s : State) (p : Nat) (src : Word) (sport : Nat) (b : List Byte) : State :=
  if !s.net.ready then { s with net := { s.net with prenr := sat32 s.net.prenr } }
  else
    match s.findSess (fun r => r.kind == 2 && r.rx && r.address.take 6 == ipKey src sport) with
    | none => s.unprov p
    | some r =>
      if !s.sessTakes r.index then s
      else if r.rtcm then (rtcmSplit b.length b).foldl (fun (a : State) m => a.rtcmMessage r.index m) s
      else s.handOn r.index (.binary b)
def execUdpBinaryDatagram (p : Nat) (src : Word) (sport : Nat) (b : List Byte) (t : Ns) (s : State) :
    Host.Outcome State Fault Refusal :=
  .next ((s.at t).datagramUdp p src sport b)

/-! ### GOOSE (R241, R577) -/

/-- sqNum or stNum newer in modulo arithmetic, or a new state. -/
def gooseNew (g : GooseSub) (st sq : Word) : Bool := g.rx == 0 || st != g.st || seqNewer sq g.sq

/-- A GOOSE frame is accepted: it waits for the trip check, which ends a staleness with it, and its session advances (R241, R242). -/
def State.gooseTake (s : State) (i : Nat) (st sq : Word) (ttl : Nat) (m : List GooseMember) : State :=
  let g := s.plant.sub i
  let (s1, ok) := s.charge i
  if !ok then s1
  else
    let s2 : State := { s1 with plant := { s1.plant with
      goose := aset i { g with st := st, sq := sq, ttlMs := ttl, rx := s1.now } s1.plant.goose
      goosePend := s1.plant.goosePend ++ [(i, s1.now, m.take 64)] } }
    match s2.session i with
    | some x => (s2.setSession i { x with ttlUs := some (ttl * 1000) }).sessValid i s2.now
    | none => s2

/-- A GOOSE frame by its key (R577). -/
def State.gooseFrame (s : State) (p appid : Nat) (src gocb : List Byte) (st sq : Word) (ttl : Nat) (sim : Bool) (m : List GooseMember) : State :=
  if !s.net.ready then { s with net := { s.net with prenr := sat32 s.net.prenr } }
  else
    match s.netRec.goose.find? (fun (g : GooseRec) => g.appid == appid && g.src == src && g.gocb == gocb) with
    | none => s.unprov p
    | some g =>
      if !s.sessTakes g.sess then s
      else if sim then { s with plant := { s.plant with gooseSim := sat32 s.plant.gooseSim } }
      else if gooseNew (s.plant.sub g.sess) st sq then s.gooseTake g.sess st sq ttl m
      else s

/-- GOOSE_FRAME_RECEIVE (R577), t ns after the tick. -/
def execGooseFrameReceive (p appid : Nat) (src gocb : List Byte) (st sq : Word) (ttl : Nat) (sim : Bool) (m : List GooseMember)
    (t : Ns) (s : State) : Host.Outcome State Fault Refusal :=
  .next ((s.at t).gooseFrame p appid src gocb st sq ttl sim m)

/-! ### drive status (R565, R566, R569 to R571) -/

/-- Bytes a … a+n−1 of a frame as a number. -/
def fieldAt (b : List Byte) (a n : Nat) : Nat := ofBe ((b.drop a).take n)

/-- The fields of a status frame are taken by its thruster. -/
def State.driveTake (s : State) (i : Nat) (b : List Byte) : State :=
  let t := fieldAt b 24 1
  match s.thrRec t with
  | some r =>
    if r.sess = i then
      let x := s.thr t
      s.setThr t { x with
        drvStatus := fieldAt b 25 1, drvCap := fieldAt b 26 2, drvMeas := fieldAt b 28 8
        drvAz := some (word (fieldAt b 36 4)), drvLog := ((s.now, word (fieldAt b 40 4), word (fieldAt b 44 4)) :: x.drvLog).take 16
        drvReady := nbit (fieldAt b 25 1) 0 && !nbit (fieldAt b 25 1) 1
        drvTok := (word (fieldAt b 4 4), fieldAt b 8 1) }
    else s
  | none => s

/-- DRIVE_STATUS_RECEIVE (R566, R570, R571): frame b of drive session i from its header to its check value. -/
def execDriveStatusReceive (i : Nat) (b : List Byte) (t : Ns) (s : State) : Host.Outcome State Fault Refusal :=
  let s0 := s.at t
  match s0.sessRec i, s0.session i with
  | some r, some x =>
    if r.kind ≠ 8 ∨ !s0.net.ready ∨ !s0.sessTakes i then .next s
    else
      let s0 := s0.glazeRx r b
      let n := b.length
      let chk := decide (28 ≤ n) && (match s0.glazeSet r.glaze with
        | some g => decide (glazeCheck g (b.take (n - 4)) % 4294967296 = ofBe (b.drop (n - 4)))
        | none => false)
      let shape := fieldAt b 0 1 == 1 && fieldAt b 1 1 == 0x81 && fieldAt b 2 2 == 32 && n == 60
      let seq := word (fieldAt b 12 4)
      let newer := match x.rxSeq with
        | some q => seqNewer seq q
        | none => true
      if !chk then .next (s0.glazeFail.sessReject i s0.now false)
      else if !shape then .next (s0.sessReject i s0.now false)
      else if !newer then .next (s0.sessReject i s0.now true)
      else
        let (s1, ok) := s0.charge i
        if ok then
          let s2 := match s1.session i with
            | some y => s1.setSession i { y with rxSeq := some seq }
            | none => s1
          .next ((s2.driveTake i b).sessValid i s2.now)
        else .next s1
  | _, _ => .next s

/-! ### frames on ports A and B -/

def frameKind : EthBody → FrameKind
  | .linkLocal => 0
  | .supervision => 1
  | .ptp => 2
  | .ipv6 => 3
  | _ => 4

/-- A kept frame is handed on by what it carries (R559). -/
def State.handBody (s : State) (p : Nat) (b : EthBody) : State :=
  match b with
  | .arp m c => s.arp p m c
  | .icmp x => s.icmp p x
  | .igmp v => s.igmp v
  | .datagram450 g d x => s.datagram450 p g d x
  | .udp src d x => s.datagramUdp p src d x
  | .goose a m g st sq ttl sim l => s.gooseFrame p a m g st sq ttl sim l
  | .unknown => s.unprov p
  | _ => s

/-- PRP_FRAME_RECEIVE (R555, R559, R584, R587): a frame of n bytes, tags included, on port A or B, its last bit at t ns after the
tick. -/
def execPrpFrameReceive (p n : Nat) (src : List Byte) (seq : Option Nat) (bad : Bool) (b : EthBody) (t : Ns) (s : State) :
    Host.Outcome State Fault Refusal :=
  let (s1, on) := (s.at t).frameIn p src seq (bad || decide (maxFrame < n)) (frameKind b)
  .next (if on then s1.handBody p b else s1)

/-! ### output sessions (R489, R576, R578) -/

/-- The fields that an output session's areas hold as committed, big-endian on the wire (R12, R489). -/
def State.outputBytes (s : State) (i : Nat) : List Byte :=
  ((s.shuttle.prog.outAreas.filter (fun (o : TwOutArea) => o.sess == some i)).map (fun (o : TwOutArea) =>
    swapped o.unit ((List.range o.len).map (fun k => memRead s.shuttle.com.out (o.ofs + k))))).flatten

/-- Two hexadecimal digits of a byte. -/
def hexByte (b : Byte) : List Byte := hexOf 2 b.toNat

/-- A "UdPbC" datagram with the module's own identity (R576). -/
def State.udpbc (s : State) (b : List Byte) : List Byte :=
  let tag := ascii "s:" ++ s.netRec.ident
  ascii "UdPbC" ++ [0, 0x5C#8] ++ tag ++ [0x2A#8] ++ hexByte (xorSum tag) ++ [0x5C#8] ++ b

/-- The session transmits: it is LIVE from its first transmission (R582). -/
def State.sessSent (s : State) (i : Nat) : State :=
  match s.session i with
  | some x => if x.st = .live then s else s.sessTo i x .live
  | none => s

/-- OUTPUT_SESSION_SEND (R578): at a pick that is a multiple of the session's period. -/
def execOutputSessionSend (i : Nat) (s : State) : Host.Outcome State Fault Refusal :=
  match s.sessRec i with
  | some r =>
    let on := (s.sys.st == .ready || s.isActive || s.sys.st == .safe) && s.leads
    if on && (r.kind == 0x0B || r.kind == 0x0C) && decide (0 < r.period ∧ s.warp.pickCount % r.period = 0) then
      let b := s.outputBytes i
      if r.kind = 0x0C then .next ((s.sessSent i).emit (.uart r.iface b))
      else
        let named := ((r.address.drop 6).take 6).any (fun x => x != 0)
        .next ((s.sessSent i).emit (.session i (if named then s.udpbc b else b)))
    else .next s
  | none => .next s

/-! ### registers (R589, R590) -/

def sessCount (s : State) (st : SessState) : Nat := countP (fun (p : Nat × Session) => p.2.st == st) s.sess

def State.portWindow (s : State) (p : Nat) : List Word :=
  let x := s.port p
  [word (fbit 0 x.up + fld 1 2 x.speed + fbit 3 x.used + fbit 4 x.mdix + fld 16 16 x.downs), word x.rx, word x.tx,
   word (fld 0 16 x.budget + fld 16 16 x.unprov), word (fld 0 16 x.fcs + fld 16 16 x.fwd), word x.dup]

/-- NET_PORTSEL_WRITE (R590). -/
def State.writePortsel (s : State) (v : Word) : State :=
  { s with net := { s.net with portSel := v &&& 3, portWin := s.portWindow (v.toNat % 4) } }
def execNetPortselWrite (v : Word) (s : State) : Host.Outcome State Fault Refusal := .next (s.writePortsel v)

def State.sessWindow (s : State) (i : Nat) : List Word :=
  match s.session i with
  | none => [6, 0, 0, 0xFFFFFFFF, 0]
  | some x =>
    let age := match x.lastValid with
      | some t => satU32 ((s.now - t) / 1000)
      | none => 0xFFFFFFFF#32
    [word (fld 0 3 (sessCode x.st) + fld 8 8 x.kind + fld 16 4 x.iface), word x.rx, word (fld 0 16 x.check + fld 16 16 x.seqRej), age,
     word (fld 0 16 x.rateDrop + fld 16 16 x.changes)]

/-- NET_SESSEL_WRITE (R590). -/
def State.writeNetSessel (s : State) (v : Word) : State :=
  { s with net := { s.net with sesSel := v &&& 511, sesWin := s.sessWindow (v.toNat % 512) } }
def execNetSesselWrite (v : Word) (s : State) : Host.Outcome State Fault Refusal := .next (s.writeNetSessel v)

/-- The value of a NET register. -/
def State.netReg (s : State) (off : Nat) : Word :=
  let n := s.net
  match off with
  | 0x00 => word (fbit 0 n.ready + fbit 1 n.admitOpen + fld 2 4 (maskOf (fun (x : Port) => x.up) n.ports)
      + fbit 6 ((s.port 0).up && !n.lanBad.getD 0 false) + fbit 7 ((s.port 1).up && !n.lanBad.getD 1 false)
      + fbit 8 (s.ringLinked && !n.ringBad) + fld 16 10 (sessCount s .live))
  | 0x04 => word (fld 0 10 (sessCount s .stale) + fld 10 10 (sessCount s .lost) + fld 20 10 (sessCount s .barred))
  | 0x08 => word n.prenr
  | 0x0C => word (fld 0 16 n.admitted + fld 16 16 n.deferred)
  | 0x10 => word (fld 0 16 n.arpDrop + fld 16 16 n.icmpDrop)
  | 0x14 => word (fld 0 16 n.overrun)
  | 0x20 => n.portSel
  | 0x24 => n.portWin.getD 0 0
  | 0x28 => n.portWin.getD 1 0
  | 0x2C => n.portWin.getD 2 0
  | 0x30 => n.portWin.getD 3 0
  | 0x34 => n.portWin.getD 4 0
  | 0x38 => n.portWin.getD 5 0
  | 0x40 => n.sesSel
  | 0x44 => n.sesWin.getD 0 0
  | 0x48 => n.sesWin.getD 1 0
  | 0x4C => n.sesWin.getD 2 0
  | 0x50 => n.sesWin.getD 3 0
  | 0x54 => n.sesWin.getD 4 0
  | _ => 0

/-! ### Draft, restart (R580, R593) -/

/-- The session records of a Draft (R580). -/
def sessRecOk (r : SessRec) : Bool :=
  decide (r.index < 512 ∧ 1 ≤ r.kind ∧ r.kind ≤ 0x0C ∧ r.kind ≠ 0x0A ∧ r.iface ≤ (if r.kind = 3 ∨ r.kind = 0x0C then 7 else 3) ∧ 1000 ≤ r.tStaleUs ∧ r.tStaleUs ≤ 60000000
    ∧ r.tStaleUs ≤ r.tLostUs ∧ r.tLostUs ≤ 600000000 ∧ 1 ≤ r.admitN ∧ r.admitN ≤ 16 ∧ (r.glaze ≤ 63 ∨ r.glaze = 255)
    ∧ 1 ≤ r.rate ∧ r.rate ≤ 65535 ∧ 1 ≤ r.errLim ∧ r.errLim ≤ 65535 ∧ r.tables.length ≤ 4
    ∧ (if r.kind = 0x0B ∨ r.kind = 0x0C then 1 ≤ r.period ∧ r.period ≤ 60000 else r.period = 0))

/-- Two entries have the same key. -/
def sameKey (a b : SessRec) : Bool := a.index != b.index && a.kind == b.kind && a.iface == b.iface && a.address == b.address
  && a.rx == b.rx && a.tx == b.tx

def sessionsOk (l : List SessRec) : Bool :=
  decide (l.length ≤ 496) && l.all sessRecOk && l.all (fun a => countP (fun b => b.index == a.index) l == 1)
  && l.all (fun a => !l.any (fun b => sameKey a b))

/-- GOOSE members of a type that is not decoded, or more than 64 of them (R577); groups, ports (R576). -/
def netParamOk (d : DraftNet) : Bool :=
  d.goose.all (fun (g : GooseRec) => decide (g.types.length ≤ 64) && g.types.all (fun t => decide (t ≤ 4)))
  && decide (d.goose.length ≤ 64 ∧ d.groups.length ≤ 16 ∧ d.plen ≤ 32)
  && [d.speedA, d.speedB].all (fun v => match v with
    | some k => decide (1 ≤ k ∧ k ≤ 3)
    | none => true)

/-- Session states return to PROVISIONED; command sessions are freed where a restart ends them (R582, R593). -/
def State.sessionsReset (s : State) (keepCommand : Bool) : State :=
  let fresh : List (Nat × Session) := match s.draft with
    | some d => d.sessions.map (fun (r : SessRec) => (r.index, ({ kind := r.kind, iface := r.iface } : Session)))
    | none => []
  let seqs (e : Nat × Session) : Nat × Session := match s.session e.1 with
    | some x => (e.1, { e.2 with txSeq := x.txSeq })
    | none => e
  { s with sess := (fresh.map seqs) ++ (if keepCommand then s.sess.filter (fun (p : Nat × Session) => p.2.kind == 0x0A) else []) }

/-- Draft activation clears the counters but NET_PRENR and DOWNS (R593). -/
def Net.activated (n : Net) : Net :=
  { n with
    admitted := 0, deferred := 0, arpDrop := 0, icmpDrop := 0, overrun := 0
    ports := n.ports.map (fun (x : Port) => { x with rx := 0, tx := 0, budget := 0, unprov := 0, fcs := 0, fwd := 0, dup := 0 }) }

/-- A reset clears the rest; links, forwarding and the saved configuration stay (R560, R593). -/
def Net.restarted (n : Net) : Net :=
  { ports := n.ports.map (fun (x : Port) => { up := x.up, speed := x.speed, used := x.used, mdix := x.mdix, last := x.last })
    lanBad := n.lanBad, ringBad := n.ringBad, forwarding := n.forwarding, saved := n.saved
    linkAt := n.linkAt, prpSeq := n.prpSeq, hsrSeq := n.hsrSeq }

end Sys2Proof.Machine
end

