-- ==== Sys2Proof/Machine/Field.lean ====
section
/-! DEFINITION. The UARTs, the CAN controllers and the FIELD registers (R572 to R575, R591 to R593). -/

namespace Sys2Proof.Machine

def State.uartRec (s : State) (u : Nat) : UartRec := s.netRec.uarts.getD u {}
def State.canRec (s : State) (c : Nat) : Option CanRec := s.netRec.cans.getD c none
def State.uart (s : State) (u : Nat) : Uart := s.field.uarts.getD u {}
def State.setUart (s : State) (u : Nat) (x : Uart) : State := { s with field := { s.field with uarts := s.field.uarts.set u x } }
def State.can (s : State) (c : Nat) : Can := s.field.cans.getD c {}
def State.setCan (s : State) (c : Nat) (x : Can) : State := { s with field := { s.field with cans := s.field.cans.set c x } }

/-! ### UARTs (R573) -/

/-- A character with a framing error (1) or a receiver overrun (2): the sentence in assembly is discarded. -/
def State.uartError (s : State) (u err : Nat) : State :=
  let x := s.uart u
  let y : Uart := { x with
    asm := [], tag := false, framing := if err = 1 then sat16 x.framing else x.framing
    overrun := if err = 1 then x.overrun else sat16 x.overrun }
  (s.setUart u y).raiseLimited (0x0B120001 * 256 + u) 1000000 0x0B120001#32 [byteOf u]

/-- RTCM framing: on the preamble and the length (R573). -/
def State.uartRtcm (s : State) (u sess : Nat) (c : Byte) : State :=
  let x := s.uart u
  let a := x.asm ++ [c]
  if x.asm.isEmpty && c != 0xD3#8 then s
  else
  -- the characters pass unit 12 as they are received (R615, R616)
  let s := s.glazeUnit 12 sess 2 a
  if 3 ≤ a.length ∧ a.length = bitsAt (a.take 3) 14 10 + 6 then
    (s.setUart u { x with asm := [], accepted := sat16 x.accepted, last := some s.otime }).rtcmMessage sess a
  else s.setUart u { x with asm := a }

/-- A sentence grows, completes, or is discarded (R573). -/
def State.uartSentence (s : State) (u sess : Nat) (c : Byte) : State :=
  let x := s.uart u
  if x.tag then s.setUart u { x with tag := c != 0x5C#8 }
  else if c = 0x5C#8 ∧ x.asm.isEmpty then s.setUart u { x with tag := true }
  else if c = 0x24#8 ∨ c = 0x21#8 then
    s.setUart u { x with asm := [c], discarded := if x.asm.isEmpty then x.discarded else sat16 x.discarded }
  else if x.asm.isEmpty then s
  else
    let a := x.asm ++ [c]
    if 82 < a.length then s.setUart u { x with asm := [], discarded := sat16 x.discarded }
    else if c = 10#8 ∧ x.asm.getLast? = some 13#8 then
      (s.setUart u { x with asm := [], accepted := sat16 x.accepted, last := some s.otime }).handOn sess
        (.sentence (x.asm.take (x.asm.length - 1)))
    else s.setUart u { x with asm := a }

/-- UART_CHARACTER_RECEIVE (R573, R579, R584): character c with error 0 none, 1 framing, 2 overrun; the middle of its stop bit
lies t ns after the tick. -/
def execUartCharacterReceive (u : Nat) (c : Byte) (err : Nat) (t : Ns) (s : State) : Host.Outcome State Fault Refusal :=
  let s0 := s.at t
  if !s.net.ready then .next s
  else
    match (s.uartRec u).rx with
    | none => .next s
    | some i =>
      if err ≠ 0 then .next (s0.uartError u err)
      else match s0.sessRec i with
        | some r => .next (if !s0.sessTakes i then s0 else if r.rtcm then s0.uartRtcm u i c else s0.uartSentence u i c)
        | none => .next s

/-! ### CAN (R574, R575) -/

/-- A frame passes one of the acceptance filters (R574). -/
def canPasses (r : CanRec) (id : Nat) : Bool :=
  (r.filters.take 64).any (fun (f : Nat × Nat) => (BitVec.ofNat 32 id &&& BitVec.ofNat 32 f.2) == (BitVec.ofNat 32 f.1 &&& BitVec.ofNat 32 f.2))

/-- The PGN and the source address of a 29-bit identifier (log entry 22). -/
def pgnOf (id : Nat) : Nat × Nat :=
  let pf := id / 65536 % 256
  let dp := id / 16777216 % 4
  (if pf < 240 then dp * 65536 + pf * 256 else dp * 65536 + pf * 256 + id / 256 % 256, id % 256)

/-- The session of a PGN from a NAME (R575, R580). -/
def State.n2kSess (s : State) (c pgn src : Nat) : Option SessRec :=
  let name := (s.can c).names.find? (fun (e : Nat × U64) => e.1 == src)
  match name with
  | some e => s.findSess (fun r => r.kind == 5 && r.iface == c
      && r.address.take 3 == [byteOf pgn, byteOf (pgn / 256), byteOf (pgn / 65536)] && (r.address.drop 3).take 8 == le64 e.2.toNat)
  | none => none

/-- A whole message of a PGN is handed on. -/
def State.n2kTake (s : State) (c pgn src : Nat) (b : List Byte) : State :=
  match s.n2kSess c pgn src with
  | some r => if s.sessTakes r.index then s.handOn r.index (.can pgn b) else s
  | none => s

def N2kSeq.isFor (q : N2kSeq) (src pgn : Nat) (bam : Bool) : Bool := q.src == src && (bam == q.sid.isNone) && (bam || q.pgn == pgn)

/-- A fast-packet frame (R575): the first of a sequence gives its length; a missing frame drops the sequence. -/
def State.fastPacket (s : State) (c pgn src : Nat) (b : List Byte) : State :=
  let x := s.can c
  let h := (b.getD 0 0).toNat
  let sid := h / 32
  let k := h % 32
  let rest := x.seqs.filter (fun q => !q.isFor src pgn false)
  if k = 0 then
    let total := (b.getD 1 0).toNat
    let data := b.drop 2
    if total ≤ data.length then (s.setCan c { x with seqs := rest }).n2kTake c pgn src (data.take total)
    else if 223 < total then s.setCan c { x with seqs := rest }
    else s.setCan c { x with seqs := rest ++ [{ src := src, pgn := pgn, sid := some sid, total := total, next := 1, bytes := data }] }
  else
    match x.seqs.find? (fun q => q.isFor src pgn false) with
    | some q =>
      if q.sid = some sid ∧ q.next = k then
        let data := q.bytes ++ b.drop 1
        if q.total ≤ data.length then (s.setCan c { x with seqs := rest }).n2kTake c pgn src (data.take q.total)
        else s.setCan c { x with seqs := rest ++ [{ q with next := k + 1, bytes := data }] }
      else s.setCan c { x with seqs := rest }
    | none => s

/-- A broadcast announce message of ISO 11783-3: length, packets and PGN follow (R575; log entry 22). -/
def State.bamStart (s : State) (c src : Nat) (b : List Byte) : State :=
  let x := s.can c
  let rest := x.seqs.filter (fun q => !q.isFor src 0 true)
  let total := ofLe ((b.drop 1).take 2)
  if b.getD 0 0 = 32#8 ∧ total ≤ 1785 then
    s.setCan c { x with seqs := rest ++ [{ src := src, pgn := ofLe ((b.drop 5).take 3), sid := none, total := total, next := 1, bytes := [] }] }
  else s

/-- A data transfer packet. -/
def State.bamData (s : State) (c src : Nat) (b : List Byte) : State :=
  let x := s.can c
  let rest := x.seqs.filter (fun q => !q.isFor src 0 true)
  match x.seqs.find? (fun q => q.isFor src 0 true) with
  | some q =>
    if (b.getD 0 0).toNat = q.next then
      let data := q.bytes ++ b.drop 1
      if q.total ≤ data.length then (s.setCan c { x with seqs := rest }).n2kTake c q.pgn src (data.take q.total)
      else s.setCan c { x with seqs := rest ++ [{ q with next := q.next + 1, bytes := data }] }
    else s.setCan c { x with seqs := rest }
  | none => s

/-- A frame on a controller that carries NMEA 2000; `fast` tells a fast-packet PGN. -/
def State.n2kFrame (s : State) (c id : Nat) (fast : Bool) (b : List Byte) : State :=
  let (pgn, src) := pgnOf id
  if pgn = 60928 then
    let x := s.can c
    let nm : U64 := BitVec.ofNat 64 (ofLe (b.take 8))
    s.setCan c { x with names := (x.names.filter (fun (e : Nat × U64) => e.1 != src && e.2 != nm)) ++ [(src, nm)] }
  else if pgn = 60416 then s.bamStart c src b
  else if pgn = 60160 then s.bamData c src b
  else if fast then s.fastPacket c pgn src b
  else s.n2kTake c pgn src b

/-- The session of a plain CAN identifier (R580): identifier and mask. -/
def State.canSess (s : State) (c id : Nat) : Option SessRec :=
  s.findSess (fun r => r.kind == 4 && r.iface == c
    && (BitVec.ofNat 32 id &&& BitVec.ofNat 32 (ofLe ((r.address.drop 4).take 4)))
       == (BitVec.ofNat 32 (ofLe (r.address.take 4)) &&& BitVec.ofNat 32 (ofLe ((r.address.drop 4).take 4))))

/-- The receive error counter after a frame received whole, and the bus state that the counters mean; a controller that is unused or
bus-off keeps its state (R574). -/
def State.canReceived (s : State) (c rec' : Nat) : State :=
  let x := s.can c
  if x.bus ≤ 1 then s.setCan c { x with rec' := rec', bus := b2n (decide (127 < x.tec ∨ 127 < rec')) } else s

/-- CAN_FRAME_RECEIVE (R574, R575, R579): `full` tells a full receive buffer, rec' the receive error counter after the frame; the end of
frame lies t ns after the tick. A controller whose counters are both at most 127 is error active again. -/
def execCanFrameReceive (c id rec' : Nat) (fast full : Bool) (b : List Byte) (t : Ns) (s : State) : Host.Outcome State Fault Refusal :=
  let s0 := (s.at t).canReceived c rec'
  match s.canRec c with
  | none => .next s
  | some r =>
    let x := s0.can c
    if !s.net.ready ∨ x.bus = 2 ∨ !canPasses r id then .next s0
    else if full then .next (State.raise (s0.setCan c { x with overflow := sat16 x.overflow }) 0x0B110005#32 [byteOf c])
    else
      let s1 := s0.setCan c { x with frames := sat16 x.frames }
      .next (if r.n2k then s1.n2kFrame c id fast b
        else match s1.canSess c id with
          | some q => if s1.sessTakes q.index then s1.handOn q.index (.can id b) else s1
          | none => s1)

/-- CAN_BUS_ERROR (R574): the error counters after the error frame. -/
def execCanBusError (c tec rec' : Nat) (s : State) : Host.Outcome State Fault Refusal :=
  let x := s.can c
  if (s.canRec c).isNone ∨ x.bus = 2 then .next s
  else
    let passive := decide (127 < tec ∨ 127 < rec')
    let s1 := s.setCan c { x with tec := tec, rec' := rec', errFrames := sat16 x.errFrames, bus := b2n passive }
    .next (if passive && x.bus != 1 then s1.raise 0x0B240002#32 [byteOf c] else s1)

/-- CAN_BUS_OFF (R574). -/
def execCanBusOff (c : Nat) (s : State) : Host.Outcome State Fault Refusal :=
  let x := s.can c
  .next (if (s.canRec c).isSome ∧ x.bus ≠ 2 then
    State.raise (s.setCan c { x with bus := 2, busOffs := sat16 x.busOffs, seqs := [] }) 0x0B340003#32 [byteOf c]
  else s)

/-- CAN_BUS_OFF_RECOVERY (R574): after 128 occurrences of 11 recessive bits. -/
def execCanBusOffRecovery (c : Nat) (s : State) : Host.Outcome State Fault Refusal :=
  let x := s.can c
  .next (if x.bus = 2 then State.raise (s.setCan c { x with bus := 0, tec := 0, rec' := 0 }) 0x0B040004#32 [byteOf c] else s)

/-! ### Draft and registers -/

def baudOk (n : Nat) : Bool := decide (n = 0 ∨ (1200 ≤ n ∧ n ≤ 921600))

def fieldParamOk (d : DraftNet) : Bool :=
  d.uarts.all (fun (u : UartRec) => baudOk u.baud)
  && d.cans.all (fun c => match c with
    | some (r : CanRec) => decide ((r.nominal = 125000 ∨ r.nominal = 250000 ∨ r.nominal = 500000 ∨ r.nominal = 1000000)
        ∧ r.fdRate ≤ 5000000 ∧ r.filters.length ≤ 64) && (!r.n2k || (decide (r.nominal = 250000) && !r.fd))
    | none => true)

/-- A Draft is in force: the controllers that it uses run, the counters are 0; bus states, claimed addresses and the time of the
last sentence stay (R591 to R593). -/
def State.fieldStart (s : State) : State :=
  { s with field := { s.field with
    uarts := (List.range 8).map (fun u => ({ last := (s.uart u).last } : Uart))
    cans := [0, 1, 2, 3].map (fun c =>
      let x := s.can c
      if (s.canRec c).isNone then ({ bus := 3 } : Can)
      else ({ bus := if x.bus = 3 then 0 else x.bus, tec := x.tec, rec' := x.rec', names := x.names } : Can)) } }

def State.uartWindow (s : State) (u : Nat) : List Word :=
  let x := s.uart u
  [word (s.uartRec u).baud, word (fld 0 16 x.accepted + fld 16 16 x.discarded), word (fld 0 16 x.framing + fld 16 16 x.overrun)]

/-- FIELD_UARTSEL_WRITE (R591). -/
def State.writeUartsel (s : State) (v : Word) : State :=
  { s with field := { s.field with uartSel := v &&& 7, uartWin := s.uartWindow (v.toNat % 8) } }
def execFieldUartselWrite (v : Word) (s : State) : Host.Outcome State Fault Refusal := .next (s.writeUartsel v)

def State.canWindow (s : State) (c : Nat) : List Word :=
  let x := s.can c
  let (fd, listen) := match s.canRec c with
    | some r => (r.fd, r.listen)
    | none => (false, false)
  [word (fld 0 2 x.bus + fbit 2 fd + fbit 3 listen + fld 8 8 x.tec + fld 16 8 x.rec'), word (fld 0 16 x.frames + fld 16 16 x.overflow),
   word (fld 0 16 x.errFrames + fld 16 16 x.busOffs)]

/-- FIELD_CANSEL_WRITE (R591). -/
def State.writeCansel (s : State) (v : Word) : State :=
  { s with field := { s.field with canSel := v &&& 3, canWin := s.canWindow (v.toNat % 4) } }
def execFieldCanselWrite (v : Word) (s : State) : Host.Outcome State Fault Refusal := .next (s.writeCansel v)

/-- The value of a FIELD register. -/
def State.fieldReg (s : State) (off : Nat) : Word :=
  let f := s.field
  let act (x : Uart) : Bool := match x.last with
    | some t => decide (s.otime ≤ t + 1000000)
    | none => false
  match off with
  | 0x00 => word (maskOf act f.uarts + maskOf (fun (x : Can) => x.bus == 0) f.cans * 256
      + maskOf (fun (x : Can) => x.bus == 1) f.cans * 4096 + maskOf (fun (x : Can) => x.bus == 2) f.cans * 65536)
  | 0x10 => f.uartSel
  | 0x14 => f.uartWin.getD 0 0
  | 0x18 => f.uartWin.getD 1 0
  | 0x1C => f.uartWin.getD 2 0
  | 0x20 => f.canSel
  | 0x24 => f.canWin.getD 0 0
  | 0x28 => f.canWin.getD 1 0
  | 0x2C => f.canWin.getD 2 0
  | _ => 0

end Sys2Proof.Machine
end

