-- ==== Sys2Proof/Machine/GlazeUnits.lean ====
section
/-! DEFINITION. The Glaze's units and registers: tests, software units, the set window (R611, R613, R618, R619, R623 to
R625). -/

namespace Sys2Proof.Machine

/-- Sets 4 to 63 are well formed (R611). -/
def glazeSetOk (g : GlazeSet) : Bool :=
  decide (8 ≤ g.width ∧ g.width ≤ 32 ∧ g.poly < 2 ^ g.width ∧ g.init < 2 ^ g.width ∧ g.xorout < 2 ^ g.width)
    && g.poly % 2 == 1
def glazeParamOk (l : List (Nat × GlazeSet)) : Bool :=
  l.all (fun p => decide (4 ≤ p.1 ∧ p.1 < 64) && glazeSetOk p.2) && decide ((l.map Prod.fst).eraseDups.length = l.length)

/-- GLAZE_BACKGROUND_TEST (R618): units 0 to 13 compute the check of set 0; `bad` has a bit for every unit whose result is
wrong. A failure is a Loom fault with the reaction of Cone monitor 0. -/
def execGlazeBackgroundTest (bad : BitVec 16) (s : State) : Host.Outcome State Fault Refusal :=
  let b := bad &&& 0x3FFF#16
  .next (if b = 0 then s
    else (State.raise { s with glaze := { s.glaze with fail := s.glaze.fail ||| b } } 0x0E440001#32 (be16 b.toNat)).loomFault)

/-- Units fail their test in SELFTEST (R618). -/
def State.glazeSelftest (s : State) (bad : BitVec 16) : State :=
  if bad = 0 then s
  else State.raise { s with glaze := { s.glaze with fail := s.glaze.fail ||| bad } } 0x0E440001#32 (be16 bad.toNat)

/-- The set of a software unit, set 0 before one is selected; an undefined set cannot be selected (R619, R624). -/
def Glaze.unit (g : Glaze) : SwUnit := if g.swSel.getLsbD 0 then g.sw1 else g.sw0
def Glaze.setUnit (g : Glaze) (u : SwUnit) : Glaze := if g.swSel.getLsbD 0 then { g with sw1 := u } else { g with sw0 := u }
def State.unitSet (s : State) : GlazeSet :=
  (s.glazeSet (s.glaze.unit.set.getD 0)).getD { width := 32, refin := true, refout := true, poly := 0x1EDC6F41, init := 0xFFFFFFFF, xorout := 0xFFFFFFFF }

/-- A write to GLAZE_SWSEL selects the unit and its set and loads INIT (R619). -/
def State.writeSwsel (s : State) (v : Word) : State :=
  let g : Glaze := { s.glaze with swSel := v &&& 0x3F01#32 }
  let k := nbits v.toNat 13 8
  match s.glazeSet k with
  | some y => { s with glaze := g.setUnit { set := some k, run := y.init } }
  | none => { s with glaze := g }

/-- GLAZE_SWSEL_WRITE (R619). -/
def execGlazeSwselWrite (v : Word) (s : State) : Host.Outcome State Fault Refusal := .next (s.writeSwsel v)

/-- A write to GLAZE_SWRUN: bits at and above w are ignored (R619, R624). -/
def State.writeSwrun (s : State) (v : Word) : State :=
  { s with glaze := s.glaze.setUnit { set := some (s.glaze.unit.set.getD 0), run := v.toNat % 2 ^ s.unitSet.width } }
/-- GLAZE_SWRUN_WRITE (R619). -/
def execGlazeSwrunWrite (v : Word) (s : State) : Host.Outcome State Fault Refusal := .next (s.writeSwrun v)

/-- GLAZE_SWRUN_READ (R619): the running value. -/
def execGlazeSwrunRead (s : State) : Host.Outcome State Fault Refusal :=
  .next (s.emit (.regValue 0x400D0034 (word s.glaze.unit.run)))

/-- A write to GLAZE_SWDATA feeds NBYTES bytes, most significant first (R619). -/
def State.writeSwdata (s : State) (v : Word) : State :=
  let u := s.glaze.unit
  let l := (be32 v.toNat).take (s.glaze.swCtl.toNat % 4 + 1)
  { s with glaze := s.glaze.setUnit { set := some (u.set.getD 0), run := glazeRun s.unitSet u.run l } }
/-- GLAZE_SWDATA_WRITE (R619). -/
def execGlazeSwdataWrite (v : Word) (s : State) : Host.Outcome State Fault Refusal := .next (s.writeSwdata v)

/-- The check value of the running value; 0 until the unit is first written (R612, R619, R623). -/
def State.swChk (s : State) : Word := if s.glaze.unit.set.isNone then 0 else word (glazeFinish s.unitSet s.glaze.unit.run)
/-- GLAZE_SWCHK_READ (R619). -/
def execGlazeSwchkRead (s : State) : Host.Outcome State Fault Refusal := .next (s.emit (.regValue 0x400D0040 s.swChk))

/-- A write to GLAZE_PSSEL takes the snapshot of a set (R623). -/
def State.writePssel (s : State) (v : Word) : State :=
  let k := v.toNat % 64
  let g : Glaze := { s.glaze with psSel := word k, psFmt := 0, psPoly := 0, psInit := 0, psXor := 0 }
  match s.glazeSet k with
  | some y => { s with glaze := { g with
      psFmt := word (y.width + fbit 6 y.refin + fbit 7 y.refout + fbit 8 (decide (k < 4)))
      psPoly := word y.poly, psInit := word y.init, psXor := word y.xorout } }
  | none => { s with glaze := g }
/-- GLAZE_PSSEL_WRITE (R623). -/
def execGlazePsselWrite (v : Word) (s : State) : Host.Outcome State Fault Refusal := .next (s.writePssel v)

/-- The value of a GLAZE register (R623, R624). -/
def State.glazeReg (s : State) (off : Nat) : Word :=
  let g := s.glaze
  match off with
  | 0x00 => word g.fail.toNat
  | 0x04 => word g.ctxsw
  | 0x08 => word g.failCnt
  | 0x10 => g.psSel
  | 0x14 => g.psFmt
  | 0x18 => g.psPoly
  | 0x1C => g.psInit
  | 0x20 => g.psXor
  | 0x30 => g.swSel
  | 0x34 => word g.unit.run
  | 0x38 => g.swCtl
  | 0x40 => s.swChk
  | _ => 0

/-- Counters clear and contexts are discarded on Draft activation; a restart discards the contexts (R625). -/
def Glaze.activated (g : Glaze) : Glaze := { g with ctxsw := 0, failCnt := 0, loaded := [], ctx := [] }

end Sys2Proof.Machine
end

