-- ==== Sys2Proof/Machine/Digest.lean ====
section
/-! DEFINITION. The standard digests that the spec names: SHA-256, HMAC and PBKDF2 (R525, R536, R544 to R547; log entry 23). -/

namespace Sys2Proof.Machine

/-- The primes below 312, from which SHA-256 takes its constants. -/
def shaPrimes : List Nat :=
  [2, 3, 5, 7, 11, 13, 17, 19] ++ [23, 29, 31, 37, 41, 43, 47, 53] ++ [59, 61, 67, 71, 73, 79, 83, 89]
  ++ [97, 101, 103, 107, 109, 113, 127, 131] ++ [137, 139, 149, 151, 157, 163, 167, 173]
  ++ [179, 181, 191, 193, 197, 199, 211, 223] ++ [227, 229, 233, 239, 241, 251, 257, 263]
  ++ [269, 271, 277, 281, 283, 293, 307, 311]

/-- The largest r whose k-th power is at most n, found bit by bit from bit b − 1 down. -/
def rootFrom (k n : Nat) : Nat → Nat → Nat
  | 0, r => r
  | b + 1, r => rootFrom k n b (if (r + 2 ^ b) ^ k ≤ n then r + 2 ^ b else r)

/-- The first 32 bits of the fraction of the k-th root of a prime. -/
def rootFraction (k p : Nat) : Word := word (rootFrom k (p * 2 ^ (32 * k)) 36 0)

/-- The two histories of working words that the rounds extend, newest first: the words a, b, c, d of FIPS 180-4 are the last
four of one, e, f, g, h the last four of the other. -/
structure ShaRun where
  up : List Word
  dn : List Word

/-- The exclusive or of several rotations to the right. -/
def spin (turns : List Nat) (x : Word) : Word := turns.foldl (fun y n => y ^^^ x.rotateRight n) 0

/-- The schedule's next word from the words so far, newest first. -/
def shaNext (w : List Word) : Word :=
  let back (n : Nat) : Word := w.getD (n - 1) 0
  back 16 + (spin [7, 18] (back 15) ^^^ (back 15 >>> 3)) + back 7 + (spin [17, 19] (back 2) ^^^ (back 2 >>> 10))

/-- `k` more words of the schedule. -/
def shaSchedule : Nat → List Word → List Word
  | 0, w => w
  | k + 1, w => shaSchedule k (shaNext w :: w)

/-- One round: each history gains a word. `kw` is the round's constant plus its schedule word. -/
def ShaRun.round (r : ShaRun) (kw : Word) : ShaRun :=
  let u (n : Nat) : Word := r.up.getD n 0
  let d (n : Nat) : Word := r.dn.getD n 0
  let fresh := d 3 + spin [6, 11, 25] (d 0) + (d 2 ^^^ (d 0 &&& (d 1 ^^^ d 2))) + kw
  { up := (fresh + spin [2, 13, 22] (u 0) + ((u 0 &&& u 1) ||| (u 2 &&& (u 0 ||| u 1)))) :: r.up
    dn := (u 3 + fresh) :: r.dn }

/-- A block of 64 bytes. -/
def shaBlock (hash : List Word) (b : List Byte) : List Word :=
  let first := (List.range 16).map (fun i => word (ofBe ((b.drop (4 * i)).take 4)))
  let kws := List.zipWith (· + ·) (shaPrimes.map (rootFraction 3)) (shaSchedule 48 first.reverse).reverse
  let r := kws.foldl ShaRun.round { up := hash.take 4, dn := hash.drop 4 }
  List.zipWith (· + ·) hash (r.up.take 4 ++ r.dn.take 4)

/-- Blocks of a padded message. -/
def shaBlocks : Nat → List Word → List Byte → List Word
  | 0, h, _ => h
  | k + 1, h, b => shaBlocks k (shaBlock h (b.take 64)) (b.drop 64)

/-- SHA-256 of a message, 32 bytes. -/
def sha256 (m : List Byte) : List Byte :=
  let n := m.length
  let p := m ++ [0x80#8] ++ zeros ((119 - n % 64) % 64) ++ be64 (8 * n)
  ((shaBlocks (p.length / 64) ((shaPrimes.take 8).map (rootFraction 2)) p).map (fun w => be32 w.toNat)).flatten

/-- HMAC-SHA256. -/
def hmac256 (key m : List Byte) : List Byte :=
  let k := fitBytes 64 (if 64 < key.length then sha256 key else key)
  sha256 (k.map (fun b => b ^^^ 0x5c#8) ++ sha256 (k.map (fun b => b ^^^ 0x36#8) ++ m))

/-- The sum of the iterations of PBKDF2. -/
def pbkdfLoop (pw : List Byte) : Nat → List Byte → List Byte → List Byte
  | 0, _, acc => acc
  | k + 1, u, acc =>
    let u1 := hmac256 pw u
    pbkdfLoop pw k u1 (List.zipWith (· ^^^ ·) acc u1)

/-- PBKDF2-HMAC-SHA256 with 32 bytes of output, a single block. -/
def pbkdf2 (iter : Nat) (pw salt : List Byte) : List Byte :=
  let u := hmac256 pw (salt ++ be32 1)
  pbkdfLoop pw (iter - 1) u u

end Sys2Proof.Machine
end

