-- ==== Sys2Proof/Machine/KilnCore.lean ====
section
/-! DEFINITION. The Kiln's inputs, off conditions and outputs (R399 to R430), as functions of the Kiln's own state. Nothing
here reads the Loom. -/

namespace Sys2Proof.Machine

/-- Kiln time in µs at the last sample cycle, and at the next. -/
def Kiln.us (k : Kiln) : Nat := k.samp * 10
def Kiln.due (k : Kiln) (t : Nat) : Bool := decide (t ≤ k.us + 10)
/-- CLK_KLN cycles, `c` of them after the last sample cycle (50 MHz). -/
def Kiln.cycles (k : Kiln) (c : Nat) : Nat := k.samp * 500 + c

def Kiln.inRec (k : Kiln) (n : Nat) : KInRec := match k.tbl with
  | some t => t.ins.getD n { mode := 0, tpsA := 0xFF, tpsB := 0xFF, filter := 1, tdisc := 10 }
  | none => { mode := 0, tpsA := 0xFF, tpsB := 0xFF, filter := 1, tdisc := 10 }
def Kiln.outRec (k : Kiln) (o : Nat) : Option KOutRec := match k.tbl with
  | some t => (t.outs[o]?).bind (fun (r : KOutRec) => if r.used then some r else none)
  | none => none
def Kiln.inp (k : Kiln) (n : Nat) : KInput := k.ins.getD n {}
def Kiln.outp (k : Kiln) (o : Nat) : KOutput := k.outs.getD o {}
def Kiln.source (k : Kiln) (s : Nat) : KSource := k.srcs.getD s {}
def Kiln.setIn (k : Kiln) (n : Nat) (x : KInput) : Kiln := { k with ins := k.ins.set n x }
def Kiln.setOut (k : Kiln) (o : Nat) (x : KOutput) : Kiln := { k with outs := k.outs.set o x }
def Kiln.setSrc (k : Kiln) (s : Nat) (x : KSource) : Kiln := { k with srcs := k.srcs.set s x }
/-- The supply that feeds output o, and source s, is at fault (R407, R414, R417). -/
def Kiln.supplyBad (k : Kiln) (i : Nat) : Bool := (k.fs.getD i {}).bad
def outSupply (o : Nat) : Nat := o / 8
def srcSupply (s : Nat) : Nat := s / 4

/-- An event of the Kiln, stamped with its sample count; while HB_LOST is set at most 64 are queued, the oldest kept
(R431). -/
def Kiln.event (k : Kiln) (code : Word) (detail : List Byte := []) : Kiln :=
  if k.hbLost && decide (64 ≤ k.evq.length) then { k with evDrop := satAdd 255 k.evDrop 1 }
  else { k with evq := k.evq ++ [(code, detail, k.samp)] }

/-! ### inputs (R404 to R413) -/

/-- An input demands (R406). -/
def Kiln.demands (k : Kiln) (n : Nat) : Bool :=
  let x := k.inp n
  kSafety (k.inRec n) && (!x.fa || !x.fb || x.fault != 0)

/-- A fault latches on an input; the first one stands (R409, R411, R412). -/
def Kiln.latchIn (k : Kiln) (n kind : Nat) : Kiln :=
  let x := k.inp n
  if x.fault ≠ 0 then k else k.setIn n { x with fault := kind, both0 := !x.fa && !x.fb }

/-- A channel's source: it has one, enabled by the table. -/
def Kiln.chanSrc (k : Kiln) (n : Nat) (b : Bool) : Option Nat :=
  let r := k.inRec n
  let s := if b then r.tpsB else r.tpsA
  match k.tbl with
  | some t => if kTpsOn t s then some s else none
  | none => none

/-- A source is off by its own fault or by its supply's (R409, R417). -/
def Kiln.srcOff (k : Kiln) (s : Nat) : Bool := (k.source s).fault || k.supplyBad (srcSupply s)

/-- A sample of a channel is masked: from the start of its source's pulse until W + S after it (R410). -/
def Kiln.masked (k : Kiln) (n : Nat) (b : Bool) : Bool :=
  match k.tbl, k.chanSrc n b with
  | some t, some s => !k.srcOff s && (match (k.source s).start with
    | some u => decide (u ≤ k.us ∧ k.us < u + t.w + t.s)
    | none => false)
  | _, _ => false

/-- The raw logical value of a channel that reads a level (R404); a channel whose source is off is taken as demanding (R409). -/
def Kiln.logic (k : Kiln) (n : Nat) (b lvl : Bool) : Bool :=
  let off := match k.chanSrc n b with
    | some s => k.srcOff s
    | none => false
  let m := (k.inRec n).mode
  if m = 3 then lvl
  else if off then false
  else if m = 2 ∧ b then !lvl else lvl

/-- The raw logical value of a channel as KA reads it. -/
def Kiln.rawOf (k : Kiln) (n : Nat) (b : Bool) : Bool := k.logic n b (if b then k.rawB.getLsbD n else k.rawA.getLsbD n)

/-- The filter of one channel: filtered value and run of unmasked samples that show the other value (R405). -/
def filterStep (f : Nat) (masked raw val : Bool) (run : Nat) : Bool × Nat :=
  if masked then (val, run)
  else if raw == val then (val, 0)
  else if f ≤ run + 1 then (raw, 0) else (val, run + 1)

/-- One input in one sample cycle (R404, R405, R412, R413, R426). -/
def Kiln.inputStep (k : Kiln) (n : Nat) : Kiln :=
  let r := k.inRec n
  let x := k.inp n
  if r.mode = 0 then k
  else
    let (fa, ra) := filterStep r.filter (k.masked n false) (k.rawOf n false) x.fa x.runA
    if r.mode = 3 then
      let x1 : KInput := { x with fa := fa, runA := ra }
      if fa && !x.fa then k.setIn n { x1 with press := some k.samp, rel := none }
      else if x.fa && !fa then
        k.setIn n { x1 with press := none, rel := x.press.map (fun p => (p, k.samp)) }
      else k.setIn n x1
    else
      let (fb, rb) := filterStep r.filter (k.masked n true) (k.rawOf n true) x.fb x.runB
      let mis := if fa == fb then none else some (x.mis.getD k.samp)
      k.setIn n { x with fa := fa, runA := ra, fb := fb, runB := rb, mis := mis, both0 := x.both0 || (x.fault != 0 && !fa && !fb) }

/-- KB's filters of one input in one sample cycle (R398, R405): the same masks, its own readings. -/
def Kiln.filterKb (k : Kiln) (a b : Word) (n : Nat) : KFilter :=
  let r := k.inRec n
  let x := k.kb.getD n {}
  if r.mode = 0 then x
  else
    let p := filterStep r.filter (k.masked n false) (k.logic n false (a.getLsbD n)) x.fa x.runA
    let q := if r.mode = 3 then (x.fb, x.runB) else filterStep r.filter (k.masked n true) (k.logic n true (b.getLsbD n)) x.fb x.runB
    { fa := p.1, fb := q.1, runA := p.2, runB := q.2 }

/-- KA and KB disagree on the state of an input (R398). -/
def Kiln.inputsDiffer (k : Kiln) : Bool := (List.zip k.ins k.kb).any (fun p => p.1.fa != p.2.fa || p.1.fb != p.2.fb)

/-- One pulse check of a channel: a run of failures at pulses of one source; the second in a row latches (R411). -/
def failRun (fail : Bool) (n : Nat) : Nat := if fail then n + 1 else 0

/-- A test-pulse fault latches on an input: channel and source (R411). -/
def Kiln.pulseFault (k : Kiln) (n ch s : Nat) : Kiln :=
  if (k.inp n).fault ≠ 0 then k
  else (k.latchIn n 2).event 0x10260008#32 [byteOf n, byteOf ch, byteOf s]

/-- The own-pulse check of an input at the end of a pulse of source s (R411). -/
def Kiln.ownCheck (k : Kiln) (s n : Nat) : Kiln :=
  if !kSafety (k.inRec n) then k
  else
    let x : KInput := { k.inp n with lastA := k.rawA.getLsbD n, lastB := k.rawB.getLsbD n }
    let ia := k.chanSrc n false == some s && x.preA
    let ib := k.chanSrc n true == some s && x.preB
    let a := if ia then failRun x.lastA x.ownA else x.ownA
    let b := if ib then failRun x.lastB x.ownB else x.ownB
    let k1 := k.setIn n { x with ownA := if a = 2 then 0 else a, ownB := if b = 2 then 0 else b }
    let k2 := if a = 2 then k1.pulseFault n 0 s else k1
    if b = 2 then k2.pulseFault n 1 s else k2

/-- The foreign-pulse check of an input in the first sample after the mask of a pulse of source s (R411). -/
def Kiln.foreignCheck (k : Kiln) (s n : Nat) : Kiln :=
  if !kSafety (k.inRec n) then k
  else
    let x := k.inp n
    let other (b : Bool) : Bool := match k.chanSrc n b with
      | some c => c != s
      | none => false
    let a := if other false && x.preA then failRun (!x.lastA && k.rawA.getLsbD n) (x.forA.getD s 0) else x.forA.getD s 0
    let b := if other true && x.preB then failRun (!x.lastB && k.rawB.getLsbD n) (x.forB.getD s 0) else x.forB.getD s 0
    let k1 := k.setIn n { x with forA := x.forA.set s (if a = 2 then 0 else a), forB := x.forB.set s (if b = 2 then 0 else b) }
    let k2 := if a = 2 then k1.pulseFault n 0 s else k1
    if b = 2 then k2.pulseFault n 1 s else k2

/-- The indices of the inputs, outputs and sources. -/
def kIns : List Nat := List.range 32
def kOuts : List Nat := List.range 16
def kSrcs : List Nat := List.range 8

/-- A source goes off: its inputs demand with a latched fault (R409). -/
def Kiln.sourceInputs (k : Kiln) (s : Nat) : Kiln :=
  kIns.foldl (fun (a : Kiln) n =>
    if kSafety (a.inRec n) && (a.chanSrc n false == some s || a.chanSrc n true == some s) then a.latchIn n 3 else a) k

def Kiln.sourceFault (k : Kiln) (s : Nat) : Kiln :=
  ((k.setSrc s { k.source s with fault := true, pulse := false, start := none, lim := 0 }).event 0x10240009#32 [byteOf s]).sourceInputs s

/-- One source in one sample cycle: voltage and current limit (R409). -/
def Kiln.sourceStep (k : Kiln) (z : KSample) (s : Nat) : Kiln :=
  match k.tbl with
  | none => k
  | some t =>
    if !kTpsOn t s || k.srcOff s || k.st == 2 then k
    else
      let x := k.source s
      let (v, lim) := z.src.getD s (24000, false)
      let n := if lim then x.lim + 1 else 0
      let fs := if srcSupply s = 0 then z.fs1 else z.fs2
      let k1 := k.setSrc s { x with lim := n }
      if x.pulse then
        let last := match x.start with
          | some u => k.due (u + t.w)
          | none => false
        if (last && decide (5000 < v)) || decide (100 < n) then k1.sourceFault s else k1
      else if decide (v + 2000 < fs) || decide (100 < n) then k1.sourceFault s else k1

/-- A supply's runs of samples out of range and in range (R417). -/
def KSupply.step (x : KSupply) (mv : Nat) : KSupply :=
  if 19200 ≤ mv ∧ mv ≤ 30000 then { x with mv := mv, outRun := 0, inRun := x.inRun + 1 }
  else { x with mv := mv, outRun := x.outRun + 1, inRun := 0 }

/-! ### cross-trip (R470, R471) -/

def Kiln.xtRec (k : Kiln) (x : Nat) : Option KXtRec := match k.tbl with
  | some t => (t.xts[x]?).bind (fun (r : KXtRec) => if r.used then some r else none)
  | none => none

/-- The partner's line x counts as asserted (R470, R471). -/
def Kiln.xtIn (k : Kiln) (x : Nat) : Bool :=
  match k.xtRec x with
  | some r => k.xtHigh.getLsbD x || (k.xtLost.getLsbD x && !r.lossEvent)
  | none => false

/-- An output that is on, or that its dark test interrupts. -/
def KOutput.isOn (o : KOutput) : Bool := o.st == 1 || (match o.test with
  | some t => !t.bright
  | none => false)

/-- The state code of R415: TEST while a switch test runs. -/
def KOutput.code (o : KOutput) : Nat := if o.test.isSome then 2 else o.st

/-- The Loom reports SAFE in its heartbeat (R422). -/
def Kiln.lsafe (k : Kiln) : Bool := k.mstate == 7

/-- The own line x is asserted; in FAULT it is static low (R470, R471). -/
def Kiln.xtOut (k : Kiln) (x : Nat) : Bool :=
  match k.xtRec x with
  | some r => k.st != 2 && (kIns.any (fun n => nbit r.imask n && k.demands n)
      || kOuts.any (fun o => nbit r.omask o && !(k.outp o).isOn)
      || (nbit r.flags 0 && k.trip) || (nbit r.flags 1 && k.hbLost) || (nbit r.flags 2 && k.lsafe))
  | none => false

/-! ### off conditions and outputs (R415, R416, R420, R422 to R427) -/

/-- The least of the causes that hold. -/
def minCause : List (Bool × Nat) → Option Nat
  | [] => none
  | (b, c) :: l => match minCause l with
    | some d => if b then some (min c d) else some d
    | none => if b then some c else none

/-- The terms that act at once (R422). -/
def Kiln.promptCause (k : Kiln) (o : Nat) (r : KOutRec) : Option Nat :=
  minCause [(k.env.toNat &&& r.emask != 0, 4), (nbit r.flags 0 && k.trip, 5), (nbit r.flags 0 && k.hbLost, 6),
    (nbit r.flags 2 && k.withhold.getLsbD o, 7), (nbit r.flags 3 && k.lsafe, 8)]

/-- The terms that STOP1 delays (R422). -/
def Kiln.delayedCause (k : Kiln) (r : KOutRec) : Option Nat :=
  minCause [(kIns.any (fun n => nbit r.imask n && k.demands n && (k.inp n).fault == 0), 1),
    (kIns.any (fun n => nbit r.imask n && k.demands n && (k.inp n).fault != 0), 2),
    ([0, 1, 2, 3].any (fun x => nbit r.xmask x && k.xtIn x), 3)]

/-- The states that hold an output off whatever its table says (R423). -/
def Kiln.hardCause (k : Kiln) (o : Nat) : Option Nat :=
  if k.supplyBad (outSupply o) then some 10 else if k.st ≠ 1 then some 11 else none

/-- An output goes off for a cause (R422, R427). -/
def Kiln.turnOff (k : Kiln) (o cause : Nat) (r : KOutRec) : Kiln :=
  let x := k.outp o
  let k1 := k.setOut o { x with
    st := 0, cause := cause, test := none, offAt := none, go := false, low := 0, openLoad := false, rb := 0 }
  let k2 := if cause ≤ 8 then k1.event 0x10560005#32 [byteOf o, byteOf cause] else k1
  if nbit r.flags 1 && cause != 7 && cause != 8 then { k2 with safemod := true } else k2

/-- An output goes on (R426). -/
def Kiln.turnOn (k : Kiln) (o : Nat) : Kiln :=
  (k.setOut o { k.outp o with st := 1, cause := 0, go := false, offAt := none, low := 0, rb := 0 }).event 0x10060006#32 [byteOf o]

/-- A switch test is aborted or abandoned: it is repeated 1 s later (R420). -/
def Kiln.abortTest (k : Kiln) (o : Nat) : Kiln :=
  let x := k.outp o
  (k.setOut o { x with st := if x.isOn then 1 else 0, test := none, again := some (k.us + 1000000) }).event 0x10160013#32 [byteOf o]

/-- A latched output fault (R414, R418, R419). -/
def Kiln.outFault (k : Kiln) (o kind : Nat) : Kiln :=
  let x := k.outp o
  let was := x.isOn
  let k1 := (k.setOut o { x with
    st := 3, fkind := kind, cause := 9, test := none, offAt := none, go := false, rb := 0, oc := 0, low := 0, openLoad := false }).event
      0x1054000A#32 [byteOf o, byteOf kind]
  match k.outRec o with
  | some r => if was && nbit r.flags 1 then { k1 with safemod := true } else k1
  | none => k1

/-- One output is evaluated against its off condition (R416, R420, R422 to R426). -/
def Kiln.evalOut (k : Kiln) (o : Nat) : Kiln :=
  match k.outRec o with
  | none => k
  | some r =>
    let x := k.outp o
    let hard := k.hardCause o
    let prompt := k.promptCause o r
    let del := k.delayedCause r
    let cond := hard.isSome || prompt.isSome || del.isSome
    let k0 := k.setOut o { x with cond := cond, rose := if cond && !x.cond then k.samp else x.rose }
    if x.st = 3 then k0
    else
      let cause := match hard with
        | some c => some c
        | none => match prompt, del with
          | some a, some b => some (min a b)
          | some a, none => some a
          | none, some b => if nbit r.flags 4 && decide (0 < r.offDelay) && x.isOn then none else some b
          | none, none => none
      let wait := hard.isNone && prompt.isNone && del.isSome && cause.isNone
      if wait then
        let y := k0.outp o
        k0.setOut o { y with offAt := some (y.offAt.getD (k.us + r.offDelay * 1000)) }
      else match cause with
        | some c =>
          match x.test with
          | some t =>
            if t.bright then
              -- the bright tests of LOAD run with the condition true (R436)
              if x.cond ∧ c ≠ 10 then k0
              else
                let k1 := k0.abortTest o
                k1.setOut o { k1.outp o with cause := c, go := false }
            else (k0.abortTest o).turnOff o c r
          | none =>
            if x.st = 1 then k0.turnOff o c r
            else
              let y := k0.outp o
              k0.setOut o { y with st := 0, offAt := none, go := false, cause := if x.cond && x.cause != 0 && x.cause != 12 then x.cause else c }
        | none =>
          let y := k0.outp o
          let k1 := k0.setOut o { y with offAt := none }
          let on := r.restart == 0xFF || y.go
          match x.test with
          | some t => if t.bright && on then k1.abortTest o else k1
          | none =>
            if x.st = 1 then k1
            else if on then k1.turnOn o
            else k1.setOut o { k1.outp o with st := 0, cause := 12 }

/-- Every output is evaluated. -/
def Kiln.evalOuts (k : Kiln) : Kiln := kOuts.foldl (fun (a : Kiln) o => a.evalOut o) k

/-! ### FAULT (R399 to R402) -/

/-- The lead claim is given up (R459). -/
def Kiln.dropClaim (k : Kiln) : Kiln := { k with claim := false, wrong := 0 }

/-- A Kiln internal fault (R402): FAULT, every switch open, test pulses stop. -/
def Kiln.internalFault (k : Kiln) (cause : Nat) : Kiln :=
  if k.st = 2 then k
  else
    let k1 : Kiln := { k with
      st := 2, fcause := cause, boot := false, testQ := [], fore := none
      srcs := k.srcs.map (fun (s : KSource) => { s with pulse := false, start := none }) }
    ((k1.event 0x1054000E#32 [byteOf cause]).dropClaim).evalOuts

/-! ### readback (R414, R418) -/

/-- The readback of an output agrees with its state (R418); TEST and UNUSED have none. -/
def readbackOk (st fs vh vl cur : Nat) : Bool :=
  if st = 1 then decide (fs ≤ vh + 2000 ∧ vl ≤ 2000)
  else if st = 0 ∨ st = 3 then decide (vh ≤ 5000 ∧ cur ≤ 10)
  else true

/-- One output's readback in one sample cycle: disagreement twice, overcurrent, I_min, gate (R402, R414, R418). -/
def Kiln.measureOut (k : Kiln) (z : KSample) (o : Nat) : Kiln :=
  match k.outRec o with
  | none => k
  | some r =>
    let x := k.outp o
    let m := z.out.getD o {}
    let fs := if outSupply o = 0 then z.fs1 else z.fs2
    let ok := readbackOk x.code fs m.vh m.vl m.cur
    let rb := if ok then 0 else x.rb + 1
    let oc := if decide (2600 < m.cur) then x.oc + 1 else 0
    let gate := if m.gate && ok then x.gate + 1 else 0
    let low := if x.code == 1 && decide (m.cur < r.iMin) then x.low + 1 else 0
    let k1 := k.setOut o { x with
      vh := m.vh, vl := m.vl, cur := m.cur, rb := rb, oc := oc, gate := gate, low := low, openLoad := x.openLoad && decide (0 < low) }
    if m.beyond || decide (10 ≤ oc) then (if x.st = 3 then k1 else k1.outFault o 5)
    else if decide (2 ≤ rb) && x.st != 3 then k1.outFault o 6
    else if decide (2 ≤ gate) then k1.internalFault 4
    else k1

/-! ### the lead claim (R449, R456 to R459) -/

/-- The Kiln takes the claim when it is armed, in RUN and the line is free; in SOLO whatever the line shows (R449, R459). -/
def Kiln.takeClaim (k : Kiln) (solo : Bool) : Kiln :=
  if k.powered && k.st == 1 && k.arm && !k.trip && !k.hbLost && !k.claim && (solo || (k.lineFree && k.lclm == 0)) then
    { k with claim := true, wrong := 0 }
  else k

/-- A claim ends at an unarmed heartbeat, on TRIP, HB_LOST and FAULT (R459). -/
def Kiln.claimStep (k : Kiln) (solo : Bool) : Kiln :=
  if k.trip || k.hbLost || k.st == 2 || !k.arm then k.dropClaim else k.takeClaim solo

end Sys2Proof.Machine
end

