-- ==== Sys2Proof/Machine/Kiln.lean ====
section
/-! DEFINITION. The Kiln's own steps: sample cycles, test pulses, supplies, switch tests, restarts, the trip path, command
copies, table load, cross-trip and claim lines (R398 to R437, R456, R457, R470). -/

namespace Sys2Proof.Machine

/-- A step of the Kiln, which acts only while it is powered. -/
def State.kilnStep (s : State) (f : Kiln → Kiln) : State := if s.kiln.powered then { s with kiln := f s.kiln } else s

/-! ### the sample cycle (R398) -/

/-- The foreign check of a pulse in the first sample after its mask (R411). -/
def Kiln.foreStep (k : Kiln) : Kiln :=
  match k.fore with
  | some (s, u) => if u ≤ k.us then kIns.foldl (fun (a : Kiln) n => a.foreignCheck s n) { k with fore := none } else k
  | none => k

/-- The claim line in one sample cycle: frames of the partner, a line held dominant (R457). -/
def Kiln.lineStep (k : Kiln) (z : KSample) : Kiln :=
  { k with
    silence := if z.claim then 0 else k.silence + 1
    lineFree := k.lineFree && !z.claim
    domRun := if z.dom then k.domRun + 1 else 0
    lclm := if z.dom then k.lclm else k.lclm &&& 6 }

/-- One sample cycle of both channels (R398): inputs, sources, supplies, readback, comparison, outputs. -/
def Kiln.sample (k : Kiln) (z : KSample) : Kiln :=
  let k1 : Kiln := { k with samp := k.samp + 1, rawA := z.a, rawB := z.b }
  let k2 := (k1.foreStep).lineStep z
  let kb := kIns.map (k2.filterKb (z.aKb.getD z.a) (z.bKb.getD z.b))
  let k3 : Kiln := { kIns.foldl (fun (a : Kiln) n => a.inputStep n) k2 with kb := kb }
  let k4 : Kiln := { k3 with fs := (List.zip k3.fs [z.fs1, z.fs2]).map (fun p => p.1.step p.2) }
  let k5 := kSrcs.foldl (fun (a : Kiln) s => a.sourceStep z s) k4
  let k6 := kOuts.foldl (fun (a : Kiln) o => a.measureOut z o) k5
  let k7 := if z.differ || k3.inputsDiffer then k6.internalFault 1 else if z.ecc then k6.internalFault 2 else k6
  k7.evalOuts

/-- KILN_SAMPLE_CYCLE (R398 to R426). -/
def execKilnSampleCycle (z : KSample) (s : State) : Host.Outcome State Fault Refusal := .next (s.kilnStep (fun k => k.sample z))

/-- DISCREPANCY_FAULT (R412): the channels of input n still differ at sample s₀ + D. -/
def Kiln.discrepancy (k : Kiln) (n : Nat) : Kiln :=
  match (k.inp n).mis with
  | some s0 =>
    if kSafety (k.inRec n) && decide (s0 + (k.inRec n).tdisc * 100 ≤ k.samp) && (k.inp n).fault == 0 then
      ((k.latchIn n 1).event 0x10260007#32 [byteOf n]).evalOuts
    else k
  | none => k
def execDiscrepancyFault (n : Nat) (s : State) : Host.Outcome State Fault Refusal := .next (s.kilnStep (fun k => k.discrepancy n))

/-! ### test pulses (R408 to R411) -/

/-- Source s begins its pulse (R408). -/
def Kiln.pulseStart (k : Kiln) (s : Nat) : Kiln :=
  match k.tbl with
  | none => k
  | some t =>
    let x := k.source s
    if k.st == 2 || !kTpsOn t s || k.srcOff s || x.pulse || !k.due x.next then k
    else
      let k1 := k.setSrc s { x with pulse := true, start := some x.next, next := x.next + t.p }
      { k1 with ins := (List.zip kIns k1.ins).map (fun p => { p.2 with preA := k.rawA.getLsbD p.1, preB := k.rawB.getLsbD p.1 }) }
def execTestPulseStart (n : Nat) (s : State) : Host.Outcome State Fault Refusal := .next (s.kilnStep (fun k => k.pulseStart n))

/-- The pulse of source s ends: own-pulse checks, and the foreign check is due after the mask (R411). -/
def Kiln.pulseEnd (k : Kiln) (s : Nat) : Kiln :=
  match k.tbl with
  | none => k
  | some t =>
    let x := k.source s
    match x.start with
    | some u =>
      if x.pulse && k.due (u + t.w) then
        let k1 := k.setSrc s { x with pulse := false }
        let k2 := kIns.foldl (fun (a : Kiln) n => a.ownCheck s n) k1
        ({ k2 with fore := some (s, u + t.w + t.s) }).evalOuts
      else k
    | none => k
def execTestPulseEnd (n : Nat) (s : State) : Host.Outcome State Fault Refusal := .next (s.kilnStep (fun k => k.pulseEnd n))

/-! ### supplies and the open-load warning (R417, R418) -/

/-- OPEN_LOAD_WARNING (R418): the current of output o has stayed below I_min for 1 s. -/
def Kiln.openLoadStep (k : Kiln) (o : Nat) : Kiln :=
  let x := k.outp o
  match k.outRec o with
  | some r =>
    if decide (0 < r.iMin ∧ 100000 ≤ x.low) && x.st == 1 && !x.openLoad then
      (k.setOut o { x with openLoad := true }).event 0x1024000D#32 [byteOf o]
    else k
  | none => k
def execOpenLoadWarning (o : Nat) (s : State) : Host.Outcome State Fault Refusal := .next (s.kilnStep (fun k => k.openLoadStep o))

/-- Source s of a lost supply f goes off and latches its inputs (R417). -/
def Kiln.unsupplied (f : Nat) (k : Kiln) (s : Nat) : Kiln :=
  if srcSupply s = f ∧ !(k.source s).fault then
    match k.tbl with
    | some t => if kTpsOn t s then (k.setSrc s { k.source s with pulse := false, start := none, lim := 0 }).sourceInputs s else k
    | none => k
  else k

/-- FIELD_SUPPLY_FAULT (R417): supply f out of range for 1 ms; its sources go off and latch their inputs. -/
def Kiln.supplyFault (k : Kiln) (f : Nat) : Kiln :=
  match k.fs[f]? with
  | some x =>
    if decide (100 ≤ x.outRun) && !x.bad then
      let k1 := ({ k with fs := k.fs.set f { x with bad := true } }).event 0x1034000B#32 [byteOf (f + 1)]
      (kSrcs.foldl (Kiln.unsupplied f) k1).evalOuts
    else k
  | none => k
def execFieldSupplyFault (f : Nat) (s : State) : Host.Outcome State Fault Refusal := .next (s.kilnStep (fun k => k.supplyFault f))

/-- A source's next pulse keeps its place in the period (R408). -/
def Kiln.resync (k : Kiln) (s : Nat) : Kiln :=
  match k.tbl with
  | some t =>
    let x := k.source s
    if x.next ≤ k.us then k.setSrc s { x with next := x.next + ((k.us - x.next) / t.p + 1) * t.p } else k
  | none => k

/-- FIELD_SUPPLY_RESTORE (R417): supply f in range for 100 ms. -/
def Kiln.supplyBack (k : Kiln) (f : Nat) : Kiln :=
  match k.fs[f]? with
  | some x =>
    if decide (10000 ≤ x.inRun) && x.bad then
      let k1 : Kiln := { k with fs := k.fs.set f { x with bad := false } }
      (kSrcs.foldl (fun (a : Kiln) s => if srcSupply s = f then a.resync s else a) k1).evalOuts
    else k
  | none => k
def execFieldSupplyRestore (f : Nat) (s : State) : Host.Outcome State Fault Refusal := .next (s.kilnStep (fun k => k.supplyBack f))

/-! ### switch tests (R419 to R421) -/

/-- The Kiln enters RUN when its table has passed, every bright test is over and a valid heartbeat has reported STANDBY or
later (R436). -/
def Kiln.tryRun (k : Kiln) : Kiln :=
  if k.st = 0 ∧ k.boot ∧ k.testQ.isEmpty ∧ !k.outs.any (fun (o : KOutput) => o.test.isSome) ∧ 3 ≤ k.mstate then
    (({ k with st := 1, boot := false, runAt := k.us }).event 0x10030010#32).evalOuts
  else k

/-- The µs at which the next automatic test of output o is due (R421). -/
def Kiln.autoDue (k : Kiln) (t : KTable) (o : Nat) : Nat :=
  k.runAt + (k.outp o).autoN * t.swInt * 1000000 + o * t.swInt * 62500

/-- A switch test of output o begins: named first in the queue, due again after an abort, or due by its interval (R419 to R421,
R436). One test runs at a time. -/
def Kiln.testStart (k : Kiln) (o : Nat) : Kiln :=
  match k.tbl, k.outRec o with
  | some t, some _ =>
    let x := k.outp o
    let queued := k.testQ.head? == some o
    let again := match x.again with
      | some u => decide (u ≤ k.us)
      | none => false
    let auto := k.st == 1 && decide (k.autoDue t o ≤ k.us)
    let busy := k.outs.any (fun (y : KOutput) => y.test.isSome)
    if busy || k.st == 2 || (k.st == 0 && !k.boot) || !(queued || again || auto) then k
    else
      let q := if queued then k.testQ.drop 1 else k.testQ
      let n := if !queued && !again then x.autoN + 1 else x.autoN
      let k1 : Kiln := { k with testQ := q }
      if x.st = 0 ∨ x.st = 1 then
        k1.setOut o { x with test := some { bright := x.st == 0, since := k.us }, again := none, autoN := n, rb := 0, low := 0 }
      else (k1.setOut o { x with again := none, autoN := n }).tryRun
  | _, _ => if k.testQ.head? == some o then ({ k with testQ := k.testQ.drop 1 }).tryRun else k
def execSwitchTestStart (o : Nat) (s : State) : Host.Outcome State Fault Refusal := .next (s.kilnStep (fun k => k.testStart o))

/-- How long a phase lasts in µs: dark high, wait, low; bright high, off, wait, low (R419). -/
def phaseUs (dark : Nat) (t : KTest) : Nat :=
  if t.bright then
    (match t.phase with
     | 0 => 50 | 1 => 200 | 2 => 1000 | _ => 50)
  else
    (match t.phase with
     | 1 => 1000 | _ => dark)

/-- The phase's expectation: 0, or the FKIND of the switch and direction that failed (R419, R447). -/
def phaseCheck (t : KTest) (fs : Nat) (x : KOutput) : Nat :=
  if t.bright then
    (match t.phase with
     | 0 => if decide (x.vh + 2000 < fs) then 3 else if decide (10 < x.cur) then 2 else 0
     | 1 => if decide (5000 < x.vh) then 1 else 0
     | 2 => 0
     | _ => if decide (2000 < x.vl) then 4 else if decide (10 < x.cur) then 1 else 0)
  else
    (match t.phase with
     | 0 => if decide (5000 < x.vh) then 1 else 0
     | 1 => 0
     | _ => if decide (x.vl + 5000 < fs) then 2 else 0)

/-- The test of output o is complete (R419, R421). -/
def Kiln.testDone (k : Kiln) (o : Nat) : Kiln :=
  (((k.setOut o { k.outp o with test := none, tested := some k.us, overdue := false, again := none, rb := 0 }).evalOuts)).tryRun

/-- SWITCH_TEST_PHASE_END (R419): a phase of output o's test ends and its expectation is checked with the last sample's
readback and supply voltage. -/
def Kiln.phaseEnd (k : Kiln) (o : Nat) : Kiln :=
  let x := k.outp o
  let fs := (k.fs.getD (outSupply o) {}).mv
  match x.test, k.tbl with
  | some t, some tb =>
    let beyond := decide (t.since + phaseUs tb.swDark t ≤ k.us) || (t.bright && t.phase == 1 && decide (x.vh ≤ 5000 ∧ t.since < k.us))
    if !beyond then k
    else
      let c := phaseCheck t fs x
      if c ≠ 0 then ((k.outFault o c).evalOuts).tryRun
      else if t.phase = (if t.bright then 3 else 2) then k.testDone o
      else k.setOut o { x with test := some { t with phase := t.phase + 1, since := k.us } }
  | _, _ => k
def execSwitchTestPhaseEnd (o : Nat) (s : State) : Host.Outcome State Fault Refusal := .next (s.kilnStep (fun k => k.phaseEnd o))

/-- SWITCH_TEST_OVERDUE (R421): no completed test of output o for 24 h. -/
def Kiln.testOverdue (k : Kiln) (o : Nat) : Kiln :=
  match k.outRec o with
  | some _ =>
    let x := k.outp o
    if decide ((x.tested.getD k.runAt) + 86400000000 ≤ k.us) && !x.overdue && k.st == 1 then
      (k.setOut o { x with overdue := true }).event 0x1036000C#32 [byteOf o]
    else k
  | none => k
def execSwitchTestOverdue (o : Nat) (s : State) : Host.Outcome State Fault Refusal := .next (s.kilnStep (fun k => k.testOverdue o))

/-! ### off-delay and restart (R424, R426) -/

/-- OFF_DELAY_EXPIRY (R424): the off-delay of output o has elapsed. -/
def Kiln.delayExpiry (k : Kiln) (o : Nat) : Kiln :=
  match k.outRec o, (k.outp o).offAt with
  | some r, some u =>
    if u ≤ k.us then
      match k.delayedCause r with
      | some c => (if (k.outp o).test.isSome then k.abortTest o else k).turnOff o c r
      | none => k
    else k
  | _, _ => k
def execOffDelayExpiry (o : Nat) (s : State) : Host.Outcome State Fault Refusal := .next (s.kilnStep (fun k => k.delayExpiry o))

/-- Output o restarts when it waits for reset input n, pressed at sample p, with its condition false since (R426). -/
def Kiln.restarted (n p : Nat) (k : Kiln) (o : Nat) : Kiln :=
  match k.outRec o with
  | some r =>
    let y := k.outp o
    if r.restart == n && (y.st == 0) && !y.cond && decide (y.rose ≤ p) then k.setOut o { y with go := true } else k
  | none => k

/-- RESET_INPUT_RELEASE (R426): reset input n was released after a press from sample p to sample e; outputs that wait for it, with
their condition false and not risen during the press, are restarted. -/
def Kiln.resetRelease (k : Kiln) (n : Nat) : Kiln :=
  let x := k.inp n
  match x.rel with
  | some (p, e) =>
    let k1 := k.setIn n { x with rel := none }
    if decide (5000 ≤ e - p ∧ e - p ≤ 500000) then
      (kOuts.foldl (Kiln.restarted n p) k1).evalOuts
    else k1
  | none => k
def execResetInputRelease (n : Nat) (s : State) : Host.Outcome State Fault Refusal := .next (s.kilnStep (fun k => k.resetRelease n))

/-! ### the trip path (R428) and HB_LOST (R429) -/

/-- A trip line asserts: LOOMDEP outputs go off, TRIP latches, the claim drops (R425, R428, R459). -/
def Kiln.tripAssert (k : Kiln) : Kiln :=
  let k1 : Kiln := { k with trip := true, tripAt := k.samp }
  ((if k.trip then k1 else k1.event 0x10560001#32).dropClaim).evalOuts

/-- TRIP_LINE_ASSERT (R428, R454): the Loom's comparators disagree: a Loom fault; the pair link falls silent. -/
def execTripLineAssert (s : State) : Host.Outcome State Fault Refusal :=
  let s1 := s.kilnStep Kiln.tripAssert
  .next (State.loomFault { s1 with pair := { s1.pair with silent := true } })

/-- TRIP_CLEAR (R428): every line has shown no-trip for `quiet` samples, which must be 1 ms, and HB_LOST has cleared. -/
def Kiln.tripClear (k : Kiln) (quiet : Nat) : Kiln :=
  if k.trip && !k.hbLost && decide (100 ≤ quiet ∧ k.tripAt + quiet ≤ k.samp) then ({ k with trip := false }).evalOuts else k
def execTripClear (quiet : Nat) (s : State) : Host.Outcome State Fault Refusal := .next (s.kilnStep (fun k => k.tripClear quiet))

/-- T_hb in ms: the table's, or the default (R429). -/
def Kiln.hbT (k : Kiln) : Nat := match k.tbl with
  | some t => t.hbT
  | none => 3

/-- HEARTBEAT_TIMEOUT (R429, R448, R459), c cycles of CLK_KLN after the last sample: no valid heartbeat for T_hb + 0.05 ms. -/
def Kiln.hbTimeout (k : Kiln) (c : Nat) : Kiln :=
  match k.hbValid with
  | some v =>
    if !k.hbLost && decide (v + k.hbT * 50000 + 2500 ≤ k.cycles c) then
      (((k.event 0x10560002#32).dropClaim |> fun (a : Kiln) =>
        { a with hbLost := true, hbRun := 0, lostCnt := satAdd 255 a.lostCnt 1, withhold := 0 })).evalOuts
    else k
  | none => k
def execHeartbeatTimeout (c : Nat) (s : State) : Host.Outcome State Fault Refusal :=
  let s1 := s.kilnStep (fun k => k.hbTimeout c)
  .next (if s1.kiln.hbLost && !s.kiln.hbLost then { s1 with kport := { s1.kport with withhold := 0 } } else s1)

/-! ### the envelope checker (R432 to R435) -/

def Kiln.envRec (k : Kiln) (t : Nat) : Option KEnvRec := match k.tbl with
  | some b => (b.envs[t]?).bind (fun (e : KEnvRec) => if e.mode = 0 then none else some e)
  | none => none

/-- ENV_t latches (R433, R434). -/
def Kiln.latchEnv (k : Kiln) (t : Nat) : Kiln :=
  { k with env := k.env ||| BitVec.ofNat 32 (2 ^ t), envOk := k.envOk &&& ~~~(BitVec.ofNat 32 (2 ^ t)) }

/-- The checks of R432 of one copy against its record and the previous accepted copy. -/
def envViolated (e : KEnvRec) (c : KilnCopy) (prev : Option (F32 × F32 × Nat)) : Bool :=
  let fx := f32to64 c.fx
  let fy := f32to64 c.fy
  let m1 := fadd (fofNat 1) (fofRat e.margin 100)
  let lim := f32to64 e.fLim
  let fmin := fmul (fofRat 5 100) lim
  let mag2 := fadd (fmul fx fx) (fmul fy fy)
  let mag := fsqrt mag2
  let am := bamToRad e.aMargin
  let az (x y : F64) : F64 := Config.fatan2 y x
  let magBad := if e.mode = 1 then
      !feq fx 0 || flt fy (fneg (fmul (f32to64 e.fRev) m1)) || flt (fmul lim m1) fy
    else flt (fmul (fmul lim m1) (fmul lim m1)) mag2
  let sectorBad := flt fmin mag && e.sectors.any (fun p =>
    let off := bamToRad (radToBam (az fx fy) - p.1)
    flt am off && flt off (fsub (bamToRad (p.2 - p.1)) am))
  let capBad := match c.cap with
    | some (f, _) => flt (fmul (f32to64 f) m1) mag
    | none => false
  let rateBad := match prev with
    | none => false
    | some (px, py, ap) =>
      let qx := f32to64 px
      let qy := f32to64 py
      let pm := fsqrt (fadd (fmul qx qx) (fmul qy qy))
      let dt := fofRat (min (c.apply - ap) 1000000000 : Nat) 1000000000
      let up := flt (fadd (fmul (fmul (f32to64 e.fDot) dt) m1) fmin) (fsub mag pm)
      let d := radToBam (az fx fy) - radToBam (az qx qy)
      let turn := bamToRad (if d.toNat ≤ 2147483648 then d else (0 : Bam) - d)
      up || (e.mode == 2 && flt fmin mag && flt fmin pm && flt (fadd (fmul (bamToRad e.omega) dt) am) turn)
  !f32Finite c.fx || !f32Finite c.fy || magBad || sectorBad || capBad || rateBad

/-- One thruster's part of a copy on arrival (R432, R433, R435). `ap` is its application pick. -/
def Kiln.checkCopy (k : Kiln) (c : KilnCopy) (ap : Nat) : Kiln :=
  if !c.disp then k
  else match k.envRec c.thr with
    | none => k
    | some e =>
      let bad := envViolated e c (aget c.thr k.prev)
      let k1 : Kiln := { k with prev := aset c.thr (c.fx, c.fy, c.apply) k.prev }
      if bad then { k1 with envPend := k1.envPend ++ [(c.thr, ap)] }
      else { k1 with envOk := k1.envOk ||| BitVec.ofNat 32 (2 ^ c.thr) }

/-- The pick whose tick is the nearest to a DTIME (R433). -/
def State.pickAt (s : State) (t : Nat) : Nat := s.warp.pickCount + (nearestMs t - nearestMs s.clk.tick)

/-- A copy whose check value or sequence number is wrong (R434). -/
def Kiln.rejectCopy (k : Kiln) : Kiln :=
  let n := k.copyRej + 1
  if n < 3 then { k with copyRej := n }
  else
    let k1 := ({ k with copyRej := 0 }).event 0x10550004#32
    ((List.range 32).foldl (fun (a : Kiln) t => if (a.envRec t).isSome then a.latchEnv t else a) k1).evalOuts

/-- The check value of a transfer of copies is right, and its sequence number follows that of the last such transfer (R25, R434). -/
def CopyMsg.sound (m : CopyMsg) : Bool := m.chk == copyCheck m.seq m.copies
def Kiln.copyRight (k : Kiln) (m : CopyMsg) : Bool := m.sound && k.copySeq.all (fun q => m.seq == q + 1)

/-- The Kiln takes one transfer of copies; `pick` tells the application pick of an application time. -/
def Kiln.takeCopies (k : Kiln) (m : CopyMsg) (pick : Nat → Nat) : Kiln :=
  let k1 : Kiln := if m.sound then { k with copySeq := some m.seq } else k
  if k.copyRight m then m.copies.foldl (fun (a : Kiln) c => a.checkCopy c (pick c.apply)) { k1 with copyRej := 0 }
  else k1.rejectCopy

/-- COMMAND_COPY_CHECK (R432, R434): the oldest transfer of copies that has arrived; `err` is the pattern of bit errors that its check
value has suffered on the link, 0 without any. -/
def execCommandCopyCheck (err : Word) (s : State) : Host.Outcome State Fault Refusal :=
  .next (s.kilnStep (fun k => match k.copyIn with
    | [] => k
    | m :: rest => ({ k with copyIn := rest } : Kiln).takeCopies { m with chk := m.chk ^^^ err } s.pickAt))

/-! ### table load (R436, R437) -/

/-- The Kiln takes a table: every output off, LOAD, both checks; on success the bright tests begin. Latched faults and ENV
latches stay. -/
def Kiln.load (k : Kiln) (b : List Byte) : Kiln :=
  let k0 := ((({ k with st := 0, boot := false, testQ := [] }).dropClaim).evalOuts)
  if !kilnTableOk b then
    (({ k0 with tbl := none, srcs := k0.srcs.map (fun (s : KSource) => { s with pulse := false, start := none }) }).event 0x10430011#32)
  else
    let t := kilnTable b
    let us := k0.us
    let outs := (List.zip t.outs k0.outs).map (fun (p : KOutRec × KOutput) =>
      if !p.1.used then { p.2 with st := 4, cause := 0, test := none, offAt := none, go := false }
      else if p.2.st = 3 then p.2
      else { p.2 with st := 0, cause := 11, cond := true, test := none, offAt := none, go := false, rb := 0, oc := 0, gate := 0, low := 0 })
    let ins := (List.zip t.ins k0.ins).map (fun (p : KInRec × KInput) =>
      if kSafety p.1 then ({ fault := p.2.fault, both0 := p.2.both0 } : KInput) else {})
    let srcs := (List.zip kSrcs k0.srcs).map (fun (p : Nat × KSource) =>
      ({ fault := p.2.fault, next := us + 10 + p.1 * t.p / 8 } : KSource))
    let q := kOuts.filter (fun o => match t.outs[o]?, outs[o]? with
      | some r, some x => r.used && x.st == 0
      | _, _ => false)
    { k0 with tbl := some t, outs := outs, ins := ins, kb := List.replicate 32 {}, srcs := srcs, fore := none, testQ := q, boot := true, xtHigh := 0, xtLost := 0 }

/-- KILN_TABLE_LOAD (R436, R437): the table of the active Draft arrives from the Loom, in LOAD, or in RUN while the heartbeat
reports STANDBY and marks a table change. -/
def execKilnTableLoad (s : State) : Host.Outcome State Fault Refusal :=
  .next (match s.draft with
    | some d =>
      let k := s.kiln
      let ok := k.st == 0 || (k.st == 1 && k.mstate == 3 && s.kport.change)
      if k.powered && ok && !s.sys.loomFault && (s.sys.st == .selftest || s.sys.st == .standby) then
        { s with kiln := (k.load d.kiln).tryRun, kport := { s.kport with change := false } }
      else s
    | none => s)

/-! ### cross-trip and claim lines (R456, R457, R470) -/

/-- CROSS_TRIP_LINE_LEVEL (R470, R471): line x has been static at a level for `held` samples; 0: it shows transitions. -/
def Kiln.xtLevel (k : Kiln) (x : Nat) (high : Bool) (held : Nat) : Kiln :=
  match k.xtRec x with
  | some r =>
    let bit : BitVec 4 := BitVec.ofNat 4 (2 ^ x)
    if held = 0 then ({ k with xtHigh := k.xtHigh &&& ~~~bit, xtLost := k.xtLost &&& ~~~bit }).evalOuts
    else if held < r.filter then k
    else if high then ({ k with xtHigh := k.xtHigh ||| bit, xtLost := k.xtLost &&& ~~~bit }).evalOuts
    else
      let k1 : Kiln := { k with xtHigh := k.xtHigh &&& ~~~bit, xtLost := k.xtLost ||| bit }
      (if r.lossEvent && !k.xtLost.getLsbD x then k1.event 0x10250014#32 [byteOf x] else k1).evalOuts
  | none => k
def execCrossTripLineLevel (x : Nat) (high : Bool) (held : Nat) (s : State) : Host.Outcome State Fault Refusal :=
  .next (s.kilnStep (fun k => k.xtLevel x high held))

/-- The claim frame as sent: start, seat, 16 identity bits, stop; true is recessive (R456, R539). -/
def claimFrame (seat : Bool) : List Bool :=
  [false, seat] ++ (List.range 16).map (fun i => Config.serial.getLsbD (15 - i)) ++ [true]

/-- A frame read back: a recessive bit read dominant loses; another difference misreads (R456, R457). -/
def claimRead : List Bool → List Bool → Nat
  | a :: l, b :: m => if a && !b then 1 else if a != b then 2 else claimRead l m
  | [], _ => 0
  | _ :: _, [] => 2

/-- CLAIM_FRAME_SEND (R456, R457): the holder's frame and the line as read back. -/
def Kiln.claimSend (k : Kiln) (seat : Bool) (line : List Bool) : Kiln :=
  if !k.claim then k
  else match claimRead (claimFrame seat) line with
    | 0 => { k with wrong := 0, lclm := k.lclm &&& 5 }
    | 1 => { k.dropClaim with lineFree := false, silence := 0 }
    | _ => { k with wrong := k.wrong + 1 }
def execClaimFrameSend (line : List Bool) (s : State) : Host.Outcome State Fault Refusal :=
  .next (if s.pairMode then
      let s1 := s.kilnStep (fun k => k.claimSend s.sys.pairSeat line)
      if s.kiln.powered && s.kiln.claim then
        s1.emit (.pair "claim" ((claimFrame s.sys.pairSeat).map (fun b => byteOf (b2n b)))) else s1
    else s)

/-- CLAIM_LINE_FREE (R449, R457, R459): 300 µs without a claim frame of the partner; an armed Kiln takes the claim. -/
def Kiln.claimFree (k : Kiln) : Kiln :=
  if 30 ≤ k.silence then
    let k1 : Kiln := if k.lineFree then k else { k with lineFree := true, freeAt := k.samp }
    k1.takeClaim false
  else k
def execClaimLineFree (s : State) : Host.Outcome State Fault Refusal :=
  .next (s.kilnStep (fun k => if s.pairMode then k.claimFree else k.takeClaim true))

/-- LCLM_FAULT (R457): case 0 the line is dominant for more than 30 µs, 1 three own frames misread, 2 the Loom reports the
partner's CLAIM while the line reads free. -/
def Kiln.lclmFault (k : Kiln) (c : Nat) : Kiln :=
  let holds := match c with
    | 0 => decide (3 < k.domRun)
    | 1 => k.claim && decide (3 ≤ k.wrong)
    | _ => k.contra
  let bit : BitVec 3 := BitVec.ofNat 3 (2 ^ min c 2)
  if holds && k.lclm &&& bit == 0 then
    let k1 : Kiln := { k with lclm := k.lclm ||| bit }
    if k.lclm == 0 then k1.event 0x13340006#32 [byteOf c] else k1
  else k
def execLclmFault (c : Nat) (s : State) : Host.Outcome State Fault Refusal :=
  .next (if s.pairMode then s.kilnStep (fun k => k.lclmFault c) else s)

end Sys2Proof.Machine
end

