-- ==== Sys2Proof/Machine/CmdCore.lean ====
section
/-! DEFINITION. How every command is judged and answered: the opcode table, the order of checks, sequence numbers, replies,
command records, waiting commands and their mirrors, and the Draft ledger (R20 to R22, R468, R525 to R535, R545 to R547). -/

namespace Sys2Proof.Machine

/-- A line of the opcode table (R533): level 0 VIEW, 1 OPERATE, 2 ENGINEER, 3 SAFETY; bit n of `states` for each legal
SYS_STATE.STATE code n; bit r of `roles` for each legal role code r. -/
structure CmdSpec where
  op : Nat
  level : Nat
  states : Nat
  roles : Nat
  deriving DecidableEq, Repr

/-- Masks of R533: every state from STANDBY; READY, ACTIVE and DEGRADED; these and SAFE; roles A L and A L B. -/
def stAny : Nat := 504
def stRun : Nat := 112
def stRunSafe : Nat := 240
def roAny : Nat := 15
def roAL : Nat := 3
def roALB : Nat := 11

/-- The opcode table (R533). -/
def cmdTableA : List CmdSpec := [
  ⟨0x0100, 0, stAny, roAny⟩, ⟨0x0101, 0, stAny, roAny⟩, ⟨0x0102, 0, stAny, roAny⟩, ⟨0x0103, 0, stAny, roAny⟩,
  ⟨0x0104, 0, stAny, roAny⟩, ⟨0x0201, 1, 8, roAny⟩, ⟨0x0202, 1, 16, roAL⟩, ⟨0x0203, 1, 96, roAL⟩,
  ⟨0x0204, 1, 128, roAny⟩, ⟨0x0205, 2, 400, roAny⟩, ⟨0x0206, 2, 24, 13⟩, ⟨0x0207, 2, 408, roAny⟩,
  ⟨0x0210, 1, stRun, roAL⟩, ⟨0x0230, 2, 16, roALB⟩, ⟨0x0231, 2, stRunSafe, roALB⟩, ⟨0x0301, 1, stRun, roAL⟩,
  ⟨0x0302, 1, stRun, roAL⟩, ⟨0x0303, 1, stRun, roAL⟩, ⟨0x0304, 1, stRun, roAL⟩, ⟨0x0305, 1, stRun, roAL⟩,
  ⟨0x0306, 1, stRun, roAL⟩, ⟨0x0310, 1, stRun, roAL⟩, ⟨0x0311, 1, 96, roAL⟩, ⟨0x0320, 1, stRunSafe, roAL⟩,
  ⟨0x0321, 1, stRunSafe, roAL⟩]
def cmdTableB : List CmdSpec := [
  ⟨0x0410, 2, 8, roAny⟩, ⟨0x0411, 2, stAny, roAny⟩, ⟨0x0412, 2, 8, roAny⟩, ⟨0x0420, 0, stAny, roAny⟩,
  ⟨0x0421, 0, stAny, roAny⟩, ⟨0x0430, 2, stRun, roAL⟩, ⟨0x0431, 2, stRun, roALB⟩, ⟨0x0440, 2, 8, roAny⟩,
  ⟨0x0450, 2, 8, roAny⟩, ⟨0x0451, 2, 8, roAny⟩, ⟨0x0452, 0, stAny, roAny⟩, ⟨0x0460, 2, stAny, roAny⟩,
  ⟨0x0461, 0, stAny, roAny⟩, ⟨0x0462, 2, 8, roAny⟩, ⟨0x0463, 2, 256, roAny⟩, ⟨0x0501, 2, stRunSafe, roALB⟩,
  ⟨0x0502, 2, stRunSafe, roALB⟩, ⟨0x0503, 2, stRunSafe, roALB⟩, ⟨0x0504, 0, 496, roAny⟩]
def cmdTableC : List CmdSpec := [
  ⟨0x0601, 0, stAny, roAny⟩, ⟨0x0602, 0, stAny, roAny⟩, ⟨0x0603, 2, stAny, roAny⟩, ⟨0x0604, 2, stAny, roAny⟩,
  ⟨0x0605, 2, 248, roAny⟩, ⟨0x0701, 0, stAny, roAny⟩, ⟨0x0710, 2, stAny, roAny⟩, ⟨0x0711, 2, 264, roAny⟩,
  ⟨0x0801, 0, stAny, roAny⟩, ⟨0x0810, 1, stRun, 2⟩, ⟨0x0811, 2, 16, 6⟩, ⟨0x0812, 2, 152, 8⟩, ⟨0x0901, 2, stAny, roAny⟩,
  ⟨0x0902, 2, 256, roAny⟩, ⟨0x0910, 2, 496, roAny⟩, ⟨0x0920, 3, stAny, roAny⟩, ⟨0x0921, 2, stAny, roAny⟩,
  ⟨0x0922, 1, stAny, roAny⟩, ⟨0x0A01, 2, stAny, roAny⟩, ⟨0x0A02, 2, stAny, roAny⟩, ⟨0x0A03, 2, stAny, roAny⟩,
  ⟨0x0A04, 2, stAny, roAny⟩]
def cmdTable : List CmdSpec := cmdTableA ++ cmdTableB ++ cmdTableC

/-- The table's line of an opcode. -/
def cmdSpec (op : Nat) : CmdSpec := (cmdTable.find? (fun (c : CmdSpec) => c.op == op)).getD ⟨op, 0, stAny, roAny⟩

/-! ### sessions -/

def State.cmdSess (s : State) (i : Nat) : Option CmdSession := s.cmd.sessions.find? (fun (x : CmdSession) => x.idx == i)
def State.setCmdSess (s : State) (x : CmdSession) : State :=
  { s with cmd := { s.cmd with sessions := s.cmd.sessions.map (fun (y : CmdSession) => if y.idx == x.idx then x else y) } }

/-- The session holds SAFETY; while DTIME is not established every session is capped at ENGINEER (R526, R536). -/
def State.holdsSafety (s : State) (x : CmdSession) : Bool :=
  s.clk.est && (match x.safetyUntil with
    | some t => decide (s.otime < t)
    | none => false)
/-- The level at which a session's command is judged. -/
def State.levelOf (s : State) (x : CmdSession) : Nat := if s.holdsSafety x then 3 else x.level

/-- What the unprovisioned session may use (R527). -/
def unprovOps : List Nat := [0x0100, 0x0101, 0x0102, 0x0103, 0x0104, 0x0450, 0x0452]

/-! ### replies (R528 to R532) -/

/-- CONTEXT: the pair role and, while beats run, the DP mode (R529). -/
def State.context (s : State) : Nat := roleCode s.sys.role + 4 * (if s.warp.run then s.guide.mode % 8 else 0)

/-- A reply packet (R529). -/
def State.replyBytes (s : State) (op : Nat) (cseq : Word) (status : Nat) (result : List Byte) : List Byte :=
  [1#8, 0#8] ++ be16 op ++ be32 cseq.toNat ++ be16 status ++ [byteOf (stateCode s.sys.st), byteOf s.context]
    ++ be16 result.length ++ [0#8, 0#8] ++ result

/-- A refusal counts and is kept as the last one (R549, R550). -/
def Cmd.counted (c : Cmd) (op status : Nat) : Cmd :=
  if status = 0 then { c with accCnt := sat32 c.accCnt }
  else { c with refCnt := sat32 c.refCnt, lastRefStatus := BitVec.ofNat 16 status, lastRefOpcode := BitVec.ofNat 16 op }

/-- A reply that ends no evaluation: the sequence number and the stored reply stay (R530, R531). -/
def State.turnAway (s : State) (x : CmdSession) (op : Nat) (cseq : Word) (status : Nat) (detail : Nat := 0) : State :=
  State.emit { s with cmd := s.cmd.counted op status } (.reply x.idx (s.replyBytes op cseq status (be32 detail)))

/-- The end of a command: reply kept and sent, counters, command record (R529, R530, R549, R647). -/
def State.finish (s : State) (sess op : Nat) (cseq : Word) (status : Nat) (result : List Byte) : State :=
  let s1 : State := { s with cmd := s.cmd.counted op status }
  match s1.cmdSess sess with
  | none => s1
  | some x =>
    let b := s1.replyBytes op cseq status result
    let s2 := (s1.setCmdSess { x with last := some (cseq, b), waiting := none }).emit (.reply sess b)
    s2.stage 4 true 0x14 0 (be16 op ++ be32 cseq.toNat ++ be16 status
      ++ [byteOf (stateCode s2.sys.st), byteOf (s2.levelOf x)] ++ be64 x.actor.toNat ++ be16 0)

/-- A waiting command ends (R531); the session may have closed meanwhile. -/
def State.finishWaiting (s : State) (sess op : Nat) (cseq : Word) (status : Nat) (result : List Byte) : State :=
  match s.cmdSess sess with
  | some x => if x.waiting == some (cseq, op) then s.finish sess op cseq status result else s
  | none => { s with cmd := s.cmd.counted op status }

/-- What judging a command yields: a refusal with its DETAIL, a refusal that leaves an event or a count behind (R21), an effect with
its result, an effect whose reply waits, or a reply after which an effect follows (R531). -/
inductive Judged where
  | refuse (status : Nat) (detail : Nat)
  | refuseWith (s : State) (status : Nat) (detail : Nat)
  | done (s : State) (result : List Byte)
  | wait (s : State)
  | thenDo (s : State) (after : State → State)

/-- The role with which a command is judged: ALONE in SOLO (R533). -/
def State.roleJudged (s : State) : Role := if s.pairMode then s.sys.role else .alone

/-- DETAIL of WRONG_STATE (R532). -/
def CmdSpec.detail (c : CmdSpec) : Nat := c.states + c.roles * 65536

/-- State and role are legal (R532, R533). -/
def CmdSpec.legal (c : CmdSpec) (s : State) : Bool := nbit c.states (stateCode s.sys.st) && nbit c.roles (roleCode s.roleJudged)

/-- The checks in the order of R22: `bad` is the first check of the 0x1xxx range that fails, `perm` the first further
permission check; `act` makes the state checks after state and role, then resource and device, and has the effect. -/
def State.judge (s : State) (x : CmdSession) (c : CmdSpec) (bad : Option Nat) (perm : CmdSession → Option Nat)
    (act : State → CmdSession → Judged) : Judged :=
  match bad with
  | some e => .refuse e 0
  | none =>
    if decide (s.levelOf x < c.level) || (x.unprov && !unprovOps.contains c.op) then .refuse 0x3001 0
    else match perm x with
      | some e => .refuse e 0
      | none => if c.legal s then act s x else .refuse 0x2001 c.detail

/-- No command is served before STANDBY (R533). -/
def State.serves (s : State) : Bool := !(s.sys.st == .off || s.sys.st == .boot || s.sys.st == .selftest)

/-- A command of session `h.sess`, evaluated at p+0.75 (R530, R531). The stored reply is sent again for an equal CSEQ; an older
one is turned away; a session that waits for a reply gets BUSY where no earlier check refuses, and keeps the waiting command. -/
def State.command (s : State) (h : Hdr) (c : CmdSpec) (bad : Option Nat) (perm : CmdSession → Option Nat)
    (act : State → CmdSession → Judged) : State :=
  match s.cmdSess h.sess with
  | none => s
  | some x0 =>
    if !s.serves then s
    else
      let sA := s.at 750000
      let x : CmdSession := { x0 with lastRecord := sA.otime }
      let s1 := (sA.setCmdSess x).sessPacket h.sess
      let fresh : State :=
        let busy := x.waiting.isSome
        match s1.judge x c bad perm act with
        | .refuse e d =>
          if busy then (if 4 ≤ e / 4096 then s1.turnAway x c.op h.cseq 0x4001 else s1.turnAway x c.op h.cseq e d)
          else s1.finish h.sess c.op h.cseq e (be32 d)
        | .refuseWith s2 e d =>
          if busy then (if 4 ≤ e / 4096 then s1.turnAway x c.op h.cseq 0x4001 else s2.turnAway x c.op h.cseq e d)
          else s2.finish h.sess c.op h.cseq e (be32 d)
        | .thenDo s2 f => if busy then s1.turnAway x c.op h.cseq 0x4001 else f (s2.finish h.sess c.op h.cseq 0 [])
        | .done s2 r => if busy then s1.turnAway x c.op h.cseq 0x4001 else s2.finish h.sess c.op h.cseq 0 r
        | .wait s2 =>
          if busy then s1.turnAway x c.op h.cseq 0x4001
          else match s2.cmdSess h.sess with
            | some y => s2.setCmdSess { y with waiting := some (h.cseq, c.op), last := some (h.cseq, []) }
            | none => s2
      match x.last with
      | some (q, r) =>
        if q = h.cseq then (if r.isEmpty then s1 else s1.emit (.reply x.idx r))
        else if seqNewer q h.cseq then s1.turnAway x c.op h.cseq 0x1006
        else fresh
      | none => fresh

/-- The command would be evaluated: its session is open, the module serves commands, and its CSEQ is newer than the last (R530). -/
def State.evaluates (s : State) (h : Hdr) : Bool :=
  s.serves && (match s.cmdSess h.sess with
    | some x => (match x.last with
      | some (q, _) => q != h.cseq && !seqNewer q h.cseq
      | none => true)
    | none => false)

/-- A command without checks beside those of the opcode table. -/
def State.simple (s : State) (h : Hdr) (op : Nat) (act : State → CmdSession → Judged) : State :=
  s.command h (cmdSpec op) none (fun _ => none) act

/-! ### mirrored commands (R468) -/


/-- Commands are accepted only when the SHADOW has acknowledged their mirror: this module leads, the link is up and the partner is
SHADOW (a BARRED partner acknowledges nothing). -/
def State.mirrors (s : State) : Bool := s.pairMode && s.sys.role == .lead && s.pair.linkUp && s.pair.pRole == 2

/-- A command that is mirrored waits for its acknowledgement; otherwise it takes effect at once. -/
def State.mirrored (s : State) (h : Hdr) (op : Nat) (a : MirAct) (apply : State → State) : Judged :=
  if s.mirrors then
    .wait { s with pair := { s.pair with
      mirNext := s.pair.mirNext + 1
      mirror := s.pair.mirror ++ [{ id := s.pair.mirNext, sess := h.sess, cseq := h.cseq, op := op, act := a }] } }
  else .done (apply s) []

/-! ### the Draft ledger (R545 to R547) -/

def ledgerMax : Nat := 4096

/-- The 96 bytes that the signature covers. -/
def State.ledgerBody (s : State) (level : Nat) (actor : U64) (kind : Nat) (object detail : List Byte) : List Byte :=
  let prev := match s.sec.ledger.getLast? with
    | some e => sha256 e
    | none => zeros 32
  be32 s.sec.ledgerNext.toNat ++ be32 s.sys.pcc.toNat ++ be32 (s.otime / 3600000000) ++ be32 (s.otime % 3600000000)
    ++ be64 s.stamp ++ be16 kind ++ [byteOf level, 0#8] ++ be64 actor.toNat ++ fitBytes 8 object ++ fitBytes 16 detail ++ zeros 4
    ++ prev

/-- An entry is made: signed, kept (the oldest goes when the ledger is full) and written to the Sherd (R545, R547). -/
def State.ledger (s : State) (level : Nat) (actor : U64) (kind : Nat) (object detail : List Byte) : State :=
  let body := s.ledgerBody level actor kind object detail
  let e := body ++ (Config.ledgerSig body).toList
  let l := s.sec.ledger ++ [e]
  State.stage { s with sec := { s.sec with
    ledger := if ledgerMax < l.length then l.drop 1 else l
    ledgerNext := s.sec.ledgerNext + 1 } } 3 true 0x11 0 e

/-- An entry made for a session's command. -/
def State.ledgerBy (s : State) (x : CmdSession) (kind : Nat) (object detail : List Byte) : State :=
  s.ledger (s.levelOf x) x.actor kind object detail

/-- SEC_LEDGER: SEQ of the newest entry (R551). -/
def Sec.newestSeq (c : Sec) : Word := c.ledgerNext - 1

end Sys2Proof.Machine
end

