-- ==== Sys2Proof/Machine/GuideCmd.lean ====
section
/-! DEFINITION. The commands of guidance, thruster use, loop slots and reference selection (R107, R200 to R202, R209, R214, R217,
R221, R222, R231, R287, R534). -/

namespace Sys2Proof.Machine

/-! ### legality (R200, R202) -/

/-- The modes in which a setpoint is valid: the one in force and the one accepted for the next edge (R202). -/
def Guide.modes (g : Guide) : List Nat := g.mode :: g.pend.toList

/-- The heading rule that a heading setpoint meets in a mode: TRACK takes it on fixed-heading legs, FOLLOW with a fixed heading
(R221). -/
def Guide.headingFits (g : Guide) (m : Nat) : Bool :=
  match m with
  | 2 => true
  | 3 => true
  | 4 =>
    let leg := if g.mode = 4 then g.leg else 1
    (match g.track[leg - 1]? with
     | some w => w.rule == 1
     | none => false)
  | 5 =>
    ((g.latched ++ g.waiting).foldl (fun (r : Nat) c => match c with
      | .follow _ _ rule => rule
      | _ => r) g.followRule) == 0
  | _ => false

/-- The setpoint belongs to mode m (R221). -/
def Guide.fits (g : Guide) (c : GuideCmd) (m : Nat) : Bool :=
  match c with
  | .mode _ _ => true
  | .position _ _ => m == 3 || m == 6
  | .offset _ _ => m == 5
  | .heading _ _ => g.headingFits m
  | .limits _ _ _ _ => decide (2 ≤ m)
  | .track _ => m == 3 || m == 4
  | .follow _ _ _ => m == 5
  | .wind _ _ => true
  | .thruster _ _ => true

/-- The joystick session named in the Draft is LIVE. -/
def State.joyReady (s : State) : Bool := match s.guideRec.bind (fun d => d.joy) with
  | some i => s.sessLive i
  | none => false

/-- The condition of a mode entry (R200). -/
def State.modeOk (s : State) (code trk : Nat) : Bool :=
  let o := s.obs
  match code with
  | 0 => true
  | 1 => s.joyReady
  | 2 => s.joyReady && o.valid && !o.drHdg
  | 3 => o.conv
  | 4 => o.conv && !s.guide.track.isEmpty
  | 5 => o.conv && (match s.followTarget trk with
    | some t => (match s.intake t.sess with
        | some p => p.moving
        | none => false)
    | none => false)
  | _ => o.conv

/-! ### ranges (R221, R222) -/

/-- A binary32 value compared with a parameter as binary32. -/
def atMost32 (v : F32) (b : F64) : Bool := fle (f32to64 v) (f32to64 (f64to32 b))
def atLeast32 (v : F32) (b : F64) : Bool := fle (f32to64 (f64to32 b)) (f32to64 v)

/-- The two tests of a position (R222): no farther than the maximum step from the published reference position, and inside the
operating circle. -/
def State.positionOk (s : State) (d : DraftGuide) (n e : Int) : Bool :=
  let p : V2 := (mmToM n, mmToM e)
  let r : V2 := (mmToM (milli s.guide.refP.1).toInt, mmToM (milli s.guide.refP.2).toInt)
  fle (v2norm (v2sub p r)) d.maxStep && fle (v2norm (v2sub p d.centre)) d.radius

def waypointOk (d : DraftGuide) (w : Waypoint) : Bool :=
  f32Finite w.speed && fle 0 (f32to64 w.speed) && atMost32 w.speed d.vMax

/-- The ranges that no Draft sets (R11, R221, R222, R231). -/
def guideFixed (c : GuideCmd) : Bool :=
  match c with
  | .mode code trk => decide (code ≤ 6) && (code != 5 || decide (trk < 64))
  | .heading _ dir => decide (dir ≤ 2)
  | .limits v a r y =>
    [v, a, r, y].all f32Finite && atLeast32 v (fofRat 5 100) && atLeast32 a (fofRat 5 1000)
      && atLeast32 r (fofRat 5 100) && atLeast32 y (fofRat 1 1000)
  | .track pts =>
    decide (2 ≤ pts.length ∧ pts.length ≤ 64) && pts.all (fun w => f32Finite w.speed && fle 0 (f32to64 w.speed))
      && (pts.dropLast).all (fun w => decide (w.rule ≤ 2))
  | .follow _ _ rule => decide (rule ≤ 1)
  | .wind _ k => f32Finite k && fle 0 (f32to64 k) && fle (f32to64 k) (fofNat 1)
  | _ => true

/-- The ranges that the active Draft sets (R222). -/
def State.guideLimits (s : State) (d : DraftGuide) (c : GuideCmd) : Bool :=
  match c with
  | .position n e => s.positionOk d n e
  | .limits v a r y =>
    atMost32 v d.vMax && atMost32 a d.aMax && atMost32 r (frad2deg d.rMax) && atMost32 y (frad2deg d.yawAcc)
  | .track pts => pts.all (fun w => s.positionOk d w.north w.east && waypointOk d w)
  | _ => true

/-- The parameters lie in their ranges (R221, R222, R231); without an active Draft there is no thruster, and nothing limits the
others further. -/
def State.guideRange (s : State) (c : GuideCmd) : Bool :=
  guideFixed c
    && (match c with
      | .thruster t _ => decide (t < s.thrRecs.length)
      | _ => true)
    && (match s.guideRec with
      | none => true
      | some d => s.guideLimits d c)

/-- The state checks of a guidance command after module state and role: a failed mode condition is WRONG_STATE, a setpoint of
another mode WRONG_MODE (R200, R202, R532). -/
def State.guideRefusal (s : State) (op : Nat) (c : GuideCmd) : Option (Nat × Nat) :=
  match c with
  | .mode code trk => if s.modeOk code trk then none else some (0x2001, (cmdSpec op).detail)
  | c => if s.guide.modes.any (fun m => s.guide.fits c m) then none else some (0x2002, 0)

/-- Acceptance: the command waits for the next started edge (R201). -/
def State.acceptGuide (s : State) (c : GuideCmd) : State := { s with guide := { s.guide with waiting := s.guide.waiting ++ [c] } }

/-- A guidance command; `flag` says that every byte field of its parameters has a listed value. -/
def State.guideCommand (s : State) (h : Hdr) (op : Nat) (flag : Bool) (c : GuideCmd) : State :=
  s.command h (cmdSpec op) (if flag && s.guideRange c then none else some 0x1004) (fun _ => none) (fun t _ =>
    match t.guideRefusal op c with
    | some r => .refuse r.1 r.2
    | none => t.mirrored h op (.guide c) (fun u => u.acceptGuide c))

/-- SET_DP_MODE (R200, R221). -/
def execSetDpMode (h : Hdr) (code trk : Nat) (s : State) : Host.Outcome State Fault Refusal :=
  .next (s.guideCommand h 0x0210 true (.mode code trk))

/-- The newest position setpoint, or offset in FOLLOW, in mm: one that waits for the next edge, else the one in force (R221). -/
def mmOf (x : F64) : Int := (milli x).toInt
def Guide.newestPos (g : Guide) : Int × Int :=
  (g.latched ++ g.waiting).foldl (fun (p : Int × Int) c => match c with
    | .position n e => (n, e)
    | _ => p) (mmOf g.sp.1, mmOf g.sp.2)
def Guide.newestOff (g : Guide) : Int × Int :=
  (g.latched ++ g.waiting).foldl (fun (p : Int × Int) c => match c with
    | .offset n e => (n, e)
    | .follow n e _ => (n, e)
    | _ => p) (mmOf g.off.1, mmOf g.off.2)

/-- The position command as accepted: an offset when the mode it belongs to is FOLLOW, a position otherwise; a mode change that waits
comes first (R202, R221). -/
def Guide.positionCmd (g : Guide) (rel : Bool) (n e : Int) : GuideCmd :=
  let m := match g.pend with
    | some m => if m == 3 || m == 5 || m == 6 then m else g.mode
    | none => g.mode
  if m = 5 then
    let b := if rel then g.newestOff else (0, 0)
    .offset (b.1 + n) (b.2 + e)
  else
    let b := if rel then g.newestPos else (0, 0)
    .position (b.1 + n) (b.2 + e)

/-- SET_POSITION (R221, R222). -/
def execSetPosition (h : Hdr) (flag : Nat) (north east : Word) (s : State) : Host.Outcome State Fault Refusal :=
  .next (s.guideCommand h 0x0301 (decide (flag ≤ 1)) (s.guide.positionCmd (flag == 1) north.toInt east.toInt))
/-- SET_HEADING (R209, R221). -/
def execSetHeading (h : Hdr) (hdg : Bam) (dir : Nat) (s : State) : Host.Outcome State Fault Refusal :=
  .next (s.guideCommand h 0x0302 true (.heading hdg dir))
/-- SET_MOTION_LIMITS (R222). -/
def execSetMotionLimits (h : Hdr) (v a r y : F32) (s : State) : Host.Outcome State Fault Refusal :=
  .next (s.guideCommand h 0x0303 true (.limits v a r y))
/-- LOAD_TRACK (R214, R221, R222). -/
def execLoadTrack (h : Hdr) (pts : List Waypoint) (s : State) : Host.Outcome State Fault Refusal :=
  .next (s.guideCommand h 0x0304 true (.track pts))
/-- SET_FOLLOW (R217, R221). -/
def execSetFollow (h : Hdr) (north east : Word) (rule : Nat) (s : State) : Host.Outcome State Fault Refusal :=
  .next (s.guideCommand h 0x0305 true (.follow north.toInt east.toInt rule))
/-- SET_WIND_FF (R221). -/
def execSetWindFf (h : Hdr) (enable : Nat) (kw : F32) (s : State) : Host.Outcome State Fault Refusal :=
  .next (s.guideCommand h 0x0306 (decide (enable ≤ 1)) (.wind (enable == 1) kw))
/-- SET_THRUSTER_USE (R231). -/
def execSetThrusterUse (h : Hdr) (t use' : Nat) (s : State) : Host.Outcome State Fault Refusal :=
  .next (s.guideCommand h 0x0310 (decide (use' ≤ 1)) (.thruster t (use' == 1)))

/-! ### loop slots (R287) -/

/-- The state checks of RESET_LOOP_SLOT. -/
def State.slotResettable (s : State) (k : Nat) : Bool :=
  match s.slotRec k with
  | some c =>
    let q := s.slot k
    let again : Bool := match q.ovrAgain with
      | some t => decide (s.otime < t + 1000000)
      | none => false
    (q.st == 4 || q.st == 5) && (q.ctrls.take c.ctrls.length).all (fun (x : Ctrl) => x.fresh && x.valid) && !(q.cause == 6 && again)
  | none => false

/-- RESET_LOOP_SLOT (R287): SOFT at the next pick. -/
def execResetLoopSlot (h : Hdr) (k : Nat) (s : State) : Host.Outcome State Fault Refusal :=
  .next (s.command h (cmdSpec 0x0311) (if k < 64 ∧ (s.slotThr k).isSome then none else some 0x1004) (fun _ => none) (fun t _ =>
    if t.slotResettable k then .done (t.setSlot k { t.slot k with reset := true }) []
    else .refuse 0x2001 (cmdSpec 0x0311).detail))

/-! ### reference selection (R107, R534) -/

/-- The session stands in the group. -/
def State.inGroup (s : State) (g i : Nat) : Bool := (s.groupSessions g).any (fun (p : Intake) => p.sess == i)

/-- A selection from the next started beat on, or the end of the one in force (R107). -/
def State.applySelect (s : State) (g : Nat) (sess : Option Nat) : State :=
  let x := s.heddle.groups.getD g {}
  match sess with
  | some i => { s with heddle := { s.heddle with groups := s.heddle.groups.set g { x with opNew := some i } } }
  | none =>
    let s1 : State := { s with heddle := { s.heddle with groups := s.heddle.groups.set g { x with opSel := none } } }
    s1.raise 0x0302000E#32 [byteOf g]

/-- The state checks of the two commands (R107, R534). -/
def State.selectRefusal (s : State) (g : Nat) (sess : Option Nat) : Option (Nat × Nat) :=
  let x := s.heddle.groups.getD g {}
  match sess with
  | some i => if x.cands.contains i then none else some (0x2003, 0)
  | none => if x.opSel.isSome then none else some (0x2001, (cmdSpec 0x0321).detail)

/-- SELECT_REFERENCE (R534). -/
def execSelectReference (h : Hdr) (g sess : Nat) (s : State) : Host.Outcome State Fault Refusal :=
  .next (s.command h (cmdSpec 0x0320) (if g ≤ 4 ∧ s.inGroup g sess then none else some 0x1004) (fun _ => none) (fun t _ =>
    match t.selectRefusal g (some sess) with
    | some r => .refuse r.1 r.2
    | none => t.mirrored h 0x0320 (.select g (some sess)) (fun u => u.applySelect g (some sess))))
/-- RELEASE_REFERENCE (R107, R534). -/
def execReleaseReference (h : Hdr) (g : Nat) (s : State) : Host.Outcome State Fault Refusal :=
  .next (s.command h (cmdSpec 0x0321) (if g ≤ 4 then none else some 0x1004) (fun _ => none) (fun t _ =>
    match t.selectRefusal g none with
    | some r => .refuse r.1 r.2
    | none => t.mirrored h 0x0321 (.select g none) (fun u => u.applySelect g none)))

end Sys2Proof.Machine
end

