-- ==== Sys2Proof/Machine/KilnLink.lean ====
section
/-! DEFINITION. The safety link between Loom and Kiln: heartbeats with status, events, command copies and mailbox traffic; the
KILN registers of the Loom and the Kiln commands (R427 to R435, R442 to R448, R459, R463). -/

namespace Sys2Proof.Machine

/-! ### the mirror (R444, R447) -/

/-- KILN_STAT. -/
def Kiln.statWord (k : Kiln) : Word :=
  word (fld 0 2 k.st + fbit 2 k.trip + fbit 3 k.hbLost + fbit 4 k.lsafe + fbit 5 (k.outs.any (fun (o : KOutput) => o.overdue))
    + 256 * maskOf (fun x => k.xtIn x) [0, 1, 2, 3] + 4096 * maskOf (fun x => k.xtOut x) [0, 1, 2, 3] + fld 16 3 k.fcause)

/-- KILN_ISTAT of input n. -/
def Kiln.istatWord (k : Kiln) (n : Nat) : Word :=
  let x := k.inp n
  let ms := match x.mis with
    | some p => min 65535 ((k.samp - p) / 100)
    | none => 0
  word (fld 0 2 (k.inRec n).mode + fbit 2 x.fa + fbit 3 x.fb + fbit 4 (k.demands n) + fbit 5 x.mis.isSome + fld 6 2 x.fault + 65536 * ms)

/-- KILN_OSTAT, KILN_OMEAS and KILN_OTEST of output o. -/
def Kiln.ostatWord (k : Kiln) (o : Nat) : Word :=
  let x := k.outp o
  word (fld 0 3 x.code + fld 8 8 x.cause + fld 16 4 x.fkind + fbit 20 x.openLoad)
def Kiln.omeasWord (k : Kiln) (o : Nat) : Word :=
  let x := k.outp o
  word (min 65535 x.cur + 65536 * min 255 (x.vh / 200) + 16777216 * min 255 (x.vl / 200))
def Kiln.otestWord (k : Kiln) (o : Nat) : Word :=
  match (k.outp o).tested with
  | some u => word (min 0xFFFFFFFF ((k.us - u) / 1000000))
  | none => Config.noTest o

/-- The mirror by offset: the status registers, 0x1000 + 4n the input words, 0x2000 + 16o the output words. -/
def Kiln.mirrorRegs (k : Kiln) : List (Nat × Word) :=
  let sealId := match k.tbl with
    | some t => t.sealId.toNat
    | none => 0
  [(0x00, k.statWord), (0x04, word (maskOf (fun n => k.demands n) kIns)), (0x08, word (maskOf (fun n => (k.inp n).fault != 0) kIns)),
   (0x0C, word (maskOf (fun o => (k.outp o).code == 1) kOuts + 65536 * maskOf (fun o => (k.outp o).st == 3) kOuts)), (0x10, k.env),
   (0x14, word (maskOf (fun (x : KSource) => x.fault) k.srcs + fbit 8 (k.supplyBad 0) + fbit 9 (k.supplyBad 1))),
   (0x1C, word (min 65535 k.invalid + 65536 * min 255 k.lostCnt + 16777216 * min 255 k.evDrop)),
   (0x20, lo32 sealId), (0x24, hi32 sealId)]
  ++ kIns.map (fun n => (0x1000 + 4 * n, k.istatWord n))
  ++ (kOuts.map (fun o => [(0x2000 + 16 * o, k.ostatWord o), (0x2004 + 16 * o, k.omeasWord o), (0x2008 + 16 * o, k.otestWord o)])).flatten

/-- A mirrored word; before the first heartbeat the reset values of R444 and R447. -/
def State.mirrorWord (s : State) (off : Nat) : Word := (aget off s.mirror).getD (if 0x2000 ≤ off ∧ off % 16 = 0 then 4 else 0)

/-- The Kiln is in RUN, as last reported. -/
def State.kilnRun (s : State) : Bool := (s.mirrorWord 0).toNat % 4 == 1

/-! ### mailbox operations in the Kiln (R413, R435, R442, R446) -/

/-- Kind and index lie in the ranges of R442. -/
def clearRange (kind index : Nat) : Bool :=
  match kind with
  | 0 => decide (index ≤ 31)
  | 1 => decide (index ≤ 15)
  | 2 => decide (index ≤ 31)
  | 3 => decide (index ≤ 7)
  | _ => false

/-- A clear: whether its cause has gone, and the Kiln with the latch cleared. -/
def Kiln.clear (k : Kiln) (kind index : Nat) : Option Kiln :=
  match kind with
  | 0 =>
    let x := k.inp index
    let srcOk (b : Bool) : Bool := match k.chanSrc index b with
      | some s => !k.srcOff s
      | none => true
    let ok := match x.fault with
      | 0 => true
      | 3 => srcOk false && srcOk true
      | _ => x.both0 && x.fa && x.fb
    if ok then some (k.setIn index { x with fault := 0, both0 := false }) else none
  | 1 =>
    let x := k.outp index
    if x.st ≠ 3 then some k
    else if readbackOk 3 0 x.vh x.vl x.cur then
      some (k.setOut index { x with st := 0, cause := 0, fkind := 0, rb := 0, oc := 0, gate := 0, go := false })
    else none
  | 2 =>
    if !k.env.getLsbD index then some k
    else if k.envOk.getLsbD index then some { k with env := k.env &&& ~~~(BitVec.ofNat 32 (2 ^ index)) } else none
  | _ =>
    let x := k.source index
    if x.fault then some ((k.setSrc index { x with fault := false, lim := 0 }).resync index) else some k

/-- One mailbox operation: RESULT and DATA (R446); the withhold command is carried as operation 4. -/
def Kiln.mailbox (k : Kiln) (r : KReq) : Kiln × Nat × Nat :=
  let a := r.arg.toNat
  match r.op with
  | 1 =>
    if k.st ≠ 1 then (k, 3, 0)
    else if !clearRange (a / 256 % 4) (a % 256) then (k, (Config.mbResult r.arg).toNat, 0)
    else match k.clear (a / 256 % 4) (a % 256) with
      | some k1 => ((k1.event 0x10060012#32 [byteOf (a / 256 % 4), byteOf a]).evalOuts, 0, 0)
      | none => (k, 1, 0)
  | 2 =>
    if k.st ≠ 1 then (k, 3, 0)
    else ({ k with testQ := k.testQ ++ kOuts.filter (fun o => nbit a o && (k.outRec o).isSome && !k.testQ.contains o) }, 0, 0)
  | 3 =>
    (match k.st, k.tbl with
     | 1, some t =>
       if a % 2 = 0 ∧ a < kilnTableLen then (k, 0, leAt t.raw a 2) else (k, 0, (Config.mbData r.arg).toNat)
     | _, _ => (k, 3, 0))
  | 4 =>
    if k.st ≠ 1 then (k, 3, 0)
    else
      let m : BitVec 16 := BitVec.ofNat 16 (a / 65536)
      let v : BitVec 16 := BitVec.ofNat 16 a
      (({ k with withhold := (k.withhold &&& ~~~m) ||| (v &&& m) }).evalOuts, 0, 0)
  | _ => (k, 2, 0)

/-! ### the heartbeat (R427, R429, R431, R446) -/

/-- A Kiln event reaches the Loom: its sample count is converted to OTIME and DTIME, and it is recorded; one of severity 5 sets an
incident freeze (R431, R656). -/
def State.kilnEvent (s : State) (e : Word × List Byte × Nat) : State :=
  let us := (s.kiln.samp - e.2.2) * 10
  let s1 := s.raiseRec {
    code := e.1, detail := e.2.1, otimeUs := s.otime - us, dtime := if s.clk.est then s.now - us * 1000 else 0, kiln := true }
  if evSev e.1 = 5 then s1.incidentFreeze else s1

/-- A response of the mailbox reaches its owner: the registers, or the command that waits (R442, R446). -/
def State.mailboxAnswer (s : State) (a : KReq × Nat × Nat) : State :=
  let (r, result, data) := a
  let s1 : State := if r.op = 4 ∧ result = 0 then
      let m : BitVec 16 := BitVec.ofNat 16 (r.arg.toNat / 65536)
      let v : BitVec 16 := BitVec.ofNat 16 r.arg.toNat
      { s with kport := { s.kport with withhold := (s.kport.withhold &&& ~~~m) ||| (v &&& m) } }
    else s
  match r.owner with
  | none => { s1 with kport := { s1.kport with busy := false, done := true, result := result, data := data } }
  | some (sess, cseq, op) =>
    match result with
    | 0 => s1.finishWaiting sess op cseq 0 []
    | 1 => s1.finishWaiting sess op cseq 0x2003 (be32 0)
    | _ => s1.finishWaiting sess op cseq 0x2001 (be32 (cmdSpec op).detail)

/-- The partner's FAST frame of the present pick shows CLAIM; it shows CLAIM with LCLMFLT (R453, R459). -/
def Pair.showsClaim (p : Pair) : Bool := p.fastNow && nbit p.pFlags 1
def Pair.showsBoth (p : Pair) : Bool := p.fastNow && nbit p.pFlags 1 && nbit p.pFlags 4

/-- ARM (R449, R459, R460, R463). -/
def State.armNow (s : State) : Bool :=
  let p := s.pair
  if !s.pairMode then true
  else if p.barredBy ≠ 0 || p.yield then false
  else
    let ready := !s.sys.pairSeat || p.armReady
    match s.sys.role with
    | .lead => !p.release
    | .alone => ready && !p.release
    | .shadow => ready && !p.lclm && !p.showsBoth
    | .barred => false

/-- The Kiln's heartbeat arrives: status, mailbox response, events, and a change of claim (R427, R429, R431, R459, R463). -/
def State.hbUp (s : State) : State :=
  let k := s.kiln
  let deliver := !k.hbLost
  let s1 := (if deliver then k.evq else []).foldl State.kilnEvent s
  let s2 : State := { s1 with
    mirror := k.mirrorRegs
    kiln := { s1.kiln with evq := if deliver then [] else k.evq, ans := none, safemod := false } }
  let s3 := match k.ans with
    | some a => s2.mailboxAnswer a
    | none => s2
  let p := s3.pair
  let taken := k.claim && !p.claim
  let contra := s3.pairMode && taken && s3.sys.role == .shadow && p.showsClaim
  let s4 : State := { s3 with pair := { p with
    claim := k.claim, lclm := k.lclm != 0, freeAt := s3.otime - (k.samp - k.freeAt) * 10
    yield := p.yield || contra
    takeDue := k.claim && !contra && (p.takeDue || taken) } }
  let s5 := if k.st = 2 then s4.enterSafe 4 else s4
  if k.safemod then s5.enterSafe 5 else s5

/-- Every violation whose application pick has come latches ENV_t (R433). -/
def Kiln.latchDue (k : Kiln) (pick : Nat) : Kiln :=
  let k1 : Kiln := { k with envPend := k.envPend.filter (fun p => decide (pick < p.2)) }
  (k.envPend.filter (fun p => decide (p.2 ≤ pick))).foldl (fun (a : Kiln) p =>
    if a.env.getLsbD p.1 then a.latchEnv p.1 else (a.latchEnv p.1).event 0x10560003#32 [byteOf p.1]) k1

/-- The challenge response: CRC-32C of the challenge followed by the sequence number (R429). -/
def hbResponse (chal : Word) (seq : U16) : Nat := crc32c (be32 chal.toNat ++ be16 seq.toNat)

/-- The Loom's heartbeat is right (R429): transfer check value, sequence number, challenge response; and it lies 0.95 to 1.05 ms after
the one before. -/
def Kiln.hbRight (k : Kiln) (bad : Bool) (seq : U16) (resp : Nat) : Bool :=
  !bad && (seq == k.hbSeq + 1 || k.hbSeen.isNone) && resp == hbResponse k.chal seq
def Kiln.hbTimed (k : Kiln) (c : Nat) : Bool := match k.hbSeen with
  | some u => decide (u + 47500 ≤ k.cycles c ∧ k.cycles c ≤ u + 52500)
  | none => true

/-- What a valid heartbeat carries (R429, R432, R433, R436, R446, R459). -/
def State.hbDown (s : State) (k : Kiln) (c : Nat) : State :=
  let p := s.pair
  let run := satAdd 255 k.hbRun 1
  let back := decide (100 ≤ run)
  let k1 : Kiln := { k with
    hbValid := some (k.cycles c), hbRun := run, hbLost := k.hbLost && !back
    mstate := stateCode s.sys.st, mrole := roleCode s.sys.role, arm := s.armNow, withhold := s.kport.withhold
    contra := s.pairMode && p.showsClaim && k.lineFree
    copyIn := k.copyIn ++ s.copies.take 1 }
  let k2 := k1.latchDue s.warp.pickCount
  let (k3, ans) := match s.kport.reqs with
    | r :: _ => let (a, res, d) := k2.mailbox r; (a, some (r, res, d))
    | [] => (k2, none)
  let k4 : Kiln := { k3 with ans := ans }
  { s with
    kiln := ((k4.evalOuts).tryRun).claimStep (!s.pairMode)
    kport := { s.kport with reqs := s.kport.reqs.drop 1 }
    copies := s.copies.drop 1
    pair := { p with arm := s.armNow } }

/-- HEARTBEAT_EXCHANGE (R429): the Kiln's new challenge; a transfer error on the way to the Kiln and to the Loom; CLK_KLN cycles since
the last sample cycle. After a Loom fault the Loom sends none. -/
def execHeartbeatExchange (chal : Word) (bad badUp : Bool) (cyc : Nat) (s : State) : Host.Outcome State Fault Refusal :=
  .next (if !s.warp.picks || !s.kiln.powered || s.sys.loomFault then s
    else
      let s0 := s.at 500000
      let seq := s0.kport.seq + 1
      let resp := hbResponse s0.kport.chal seq
      let s1 := if badUp then s0 else s0.hbUp
      let k := s1.kiln
      let right := k.hbRight bad seq resp
      let valid := right && k.hbTimed cyc
      let k1 : Kiln := { k with
        chal := chal, hbSeq := if bad then k.hbSeq else seq, hbSeen := if right then some (k.cycles cyc) else k.hbSeen }
      let s2 : State := { s1 with kport := { s1.kport with seq := seq, chal := if badUp then s1.kport.chal else chal } }
      if valid then s2.hbDown k1 cyc
      else { s2 with
        kiln := { k1 with invalid := sat16 k1.invalid, hbRun := 0 }
        copies := s2.copies.drop 1, pair := { s2.pair with arm := s2.armNow } })

/-- Commands whose mailbox operation has had no response within 3 picks (R531). -/
def State.kilnTimeouts (s : State) : State :=
  let late (x : CmdSession) : Option (Word × Nat) := match x.waiting with
    | some (q, op) => if op = 0x0920 ∨ op = 0x0921 ∨ op = 0x0922 then some (q, op) else none
    | none => none
  s.cmd.sessions.foldl (fun (a : State) (x : CmdSession) => match late x, x.kilnPick with
    | some (q, op), some p =>
      if p + 3 < a.warp.pickCount then
        State.finishWaiting { a with kport := { a.kport with
          reqs := a.kport.reqs.filter (fun (r : KReq) => r.owner != some (x.idx, q, op)) } } x.idx op q 0x5003 (be32 0)
      else a
    | _, _ => a) s

/-! ### the registers (R430, R444 to R448) -/

/-- WITHHOLD_MASK_WRITE (R430). -/
def State.writeWithhold (s : State) (v : Word) : State := { s with kport := { s.kport with withhold := v.setWidth 16 } }
def execWithholdMaskWrite (v : Word) (s : State) : Host.Outcome State Fault Refusal := .next (s.writeWithhold v)

def State.writeMbarg (s : State) (v : Word) : State := { s with kport := { s.kport with mbArg := v } }

/-- A write to KILN_MBCMD; while BUSY it has no effect and sets OVR (R446). -/
def State.writeMbcmd (s : State) (v : Word) : State :=
  let p := s.kport
  if p.busy then { s with kport := { p with ovr := true } }
  else { s with kport := { p with
    busy := true, done := false, ovr := false
    reqs := p.reqs ++ [{ op := if v.toNat % 256 = 4 then 0x100 else v.toNat % 256, arg := p.mbArg, pick := s.warp.pickCount }] } }

/-- MAILBOX_CLEAR, MAILBOX_SWITCH_TEST, MAILBOX_READ_TABLE (R446): the argument is written, then the operation. -/
def execMailboxClear (arg : Word) (s : State) : Host.Outcome State Fault Refusal := .next ((s.writeMbarg arg).writeMbcmd 1)
def execMailboxSwitchTest (arg : Word) (s : State) : Host.Outcome State Fault Refusal := .next ((s.writeMbarg arg).writeMbcmd 2)
def execMailboxReadTable (arg : Word) (s : State) : Host.Outcome State Fault Refusal := .next ((s.writeMbarg arg).writeMbcmd 3)

/-- KILN_SEAL_H_READ (R445). -/
def State.latchSeal (s : State) : State := { s with kport := { s.kport with sealL := s.mirrorWord 0x20 } }
def execKilnSealHRead (s : State) : Host.Outcome State Fault Refusal :=
  .next ((s.latchSeal).emit (.regValue 0x400F0024 (s.mirrorWord 0x24)))

/-- KILN_INSEL_WRITE and KILN_OUTSEL_WRITE (R445): a snapshot of the mirror into the window. -/
def State.writeKilnInsel (s : State) (v : Word) : State :=
  let n := v.toNat % 32
  { s with kport := { s.kport with insel := word n, istat := s.mirrorWord (0x1000 + 4 * n) } }
def State.writeKilnOutsel (s : State) (v : Word) : State :=
  let o := v.toNat % 16
  { s with kport := { s.kport with
      outsel := word o
      owin := [s.mirrorWord (0x2000 + 16 * o), (aget (0x2004 + 16 * o) s.mirror).getD 0, (aget (0x2008 + 16 * o) s.mirror).getD 0] } }
def execKilnInselWrite (v : Word) (s : State) : Host.Outcome State Fault Refusal := .next (s.writeKilnInsel v)
def execKilnOutselWrite (v : Word) (s : State) : Host.Outcome State Fault Refusal := .next (s.writeKilnOutsel v)

/-- The value of a KILN register (R444, R447). -/
def State.kilnReg (s : State) (off : Nat) : Word :=
  let p := s.kport
  match off with
  | 0x18 => p.withhold.setWidth 32
  | 0x20 => p.sealL
  | 0x28 => 0
  | 0x2C => p.mbArg
  | 0x30 => word (fbit 0 p.busy + fbit 1 p.done + fbit 2 p.ovr + 256 * (p.result % 256) + 65536 * (p.data % 65536))
  | 0x34 => p.insel
  | 0x38 => p.istat
  | 0x3C => p.outsel
  | 0x40 => p.owin.getD 0 4
  | 0x44 => p.owin.getD 1 0
  | 0x48 => p.owin.getD 2 0
  | _ => if off ≤ 0x24 then s.mirrorWord off else 0

/-! ### the Kiln commands (R442) -/

/-- A Kiln command goes to the mailbox and waits for the Kiln's response. -/
def State.kilnAsk (s : State) (h : Hdr) (op kop : Nat) (arg : Word) : Judged :=
  let s1 : State := { s with kport := { s.kport with
    reqs := s.kport.reqs ++ [{ op := kop, arg := arg, owner := some (h.sess, h.cseq, op), pick := s.warp.pickCount }] } }
  match s1.cmdSess h.sess with
  | some x => .wait (s1.setCmdSess { x with kilnPick := some s.warp.pickCount })
  | none => .wait s1

/-- KILN_CLEAR (R442). -/
def execKilnClear (h : Hdr) (kind index : Nat) (s : State) : Host.Outcome State Fault Refusal :=
  .next (s.command h (cmdSpec 0x0920) (if clearRange kind index then none else some 0x1004) (fun _ => none)
    (fun t _ => t.kilnAsk h 0x0920 1 (word (256 * kind + index))))
/-- KILN_SWITCH_TEST (R442). -/
def execKilnSwitchTest (h : Hdr) (mask : U16) (s : State) : Host.Outcome State Fault Refusal :=
  .next (s.command h (cmdSpec 0x0921) (if mask = 0 then some 0x1004 else none) (fun _ => none)
    (fun t _ => t.kilnAsk h 0x0921 2 (mask.setWidth 32)))
/-- KILN_WITHHOLD (R442): the mask selects the withhold bits that the values field sets or clears. -/
def execKilnWithhold (h : Hdr) (mask values : U16) (s : State) : Host.Outcome State Fault Refusal :=
  .next (s.command h (cmdSpec 0x0922) (if mask = 0 then some 0x1004 else none) (fun _ => none)
    (fun t _ => t.kilnAsk h 0x0922 4 (word (65536 * mask.toNat + values.toNat))))

end Sys2Proof.Machine
end

