-- ==== Sys2Proof/Machine/Twill.lean ====
section
/-! DEFINITION. The Twill interpreter: instruction fetch, operands, types, faults, and every instruction of the opcode table
(R483, R485, R488, R492 to R501, R503). -/

namespace Sys2Proof.Machine

/-! ### types (R493, R494) -/

def tySigned (ty : Nat) : Bool := ty == 1 || ty == 2 || ty == 3 || ty == 4 || ty == 15
def tyFloat (ty : Nat) : Bool := ty == 13 || ty == 14
/-- SINT to ULINT. -/
def tyInt (ty : Nat) : Bool := decide (1 ≤ ty ∧ ty ≤ 8)
/-- BYTE to LWORD. -/
def tyBits' (ty : Nat) : Bool := decide (9 ≤ ty ∧ ty ≤ 12)
/-- Numeric types and TIME. -/
def tyNum (ty : Nat) : Bool := tyInt ty || decide (13 ≤ ty ∧ ty ≤ 15)

/-- The number that a value of a type stands for. -/
def twInt (ty : Nat) (v : U64) : Int :=
  let n := v.toNat % 2 ^ tyBits ty
  if tySigned ty && decide (2 ^ (tyBits ty - 1) ≤ n) then (n : Int) - (2 ^ tyBits ty : Nat) else (n : Int)
/-- A number wrapped into a type (R494). -/
def twWrap (ty : Nat) (n : Int) : U64 := BitVec.ofNat 64 (n % (2 ^ tyBits ty : Nat)).toNat
/-- The limits of a type. -/
def twMin (ty : Nat) : Int := if tySigned ty then -(2 ^ (tyBits ty - 1) : Nat) else 0
def twMax (ty : Nat) : Int := if tySigned ty then (2 ^ (tyBits ty - 1) : Nat) - 1 else (2 ^ tyBits ty : Nat) - 1
/-- A value as binary64, and back to REAL or LREAL. -/
def twF (ty : Nat) (v : U64) : F64 := if ty = 13 then f32to64 (v.setWidth 32) else v
def twOfF (ty : Nat) (x : F64) : U64 := if ty = 13 then (f64to32 x).setWidth 64 else x
def twBool (b : Bool) : U64 := if b then 1 else 0

/-! ### fetch (R495) -/

/-- A Twill instruction with its extension words. -/
structure TwIns where
  op : Nat
  ty : Nat
  mode : Nat
  imm : Nat
  ext1 : Nat := 0
  ext2 : Nat := 0
  next : Nat
  deriving DecidableEq, Repr

/-- Extension words of an instruction (R495). -/
def extWords (op ty mode : Nat) : Nat :=
  if mode = 2 then (if op = 0x43 then 2 else if 0x40 ≤ op ∧ op ≤ 0x42 then 1 else if tyBits ty = 64 then 2 else 1)
  else if (3 ≤ mode ∧ mode ≤ 6) ∨ mode = 8 then (if op = 6 ∨ op = 7 then 2 else 1)
  else 0

def fetchTw (code : List Word) (pc : Nat) : Option TwIns :=
  match code[pc]? with
  | none => none
  | some w =>
    let n := w.toNat
    let op := n / 2 ^ 24
    let ty := nbits n 23 20
    let mode := nbits n 19 16
    let k := extWords op ty mode
    if pc + 1 + k ≤ code.length then
      some { op := op, ty := ty, mode := mode, imm := n % 65536, next := pc + 1 + k
             ext1 := if 1 ≤ k then (code.getD (pc + 1) 0).toNat else 0
             ext2 := if 2 ≤ k then (code.getD (pc + 2) 0).toNat else 0 }
    else none

/-- IMM, sign-extended. -/
def immInt (imm : Nat) : Int := if 32768 ≤ imm then (imm : Int) - 65536 else (imm : Int)

/-- Area modes, and those that can hold an instance (R495). -/
def areaMode (m : Nat) : Bool := decide (3 ≤ m ∧ m ≤ 6) || m == 8
def instMode (m : Nat) : Bool := m == 3 || m == 4 || m == 8

/-- Opcode, type and mode go together (R495). -/
def twAllowed (i : TwIns) : Bool :=
  let none' := i.mode == 0
  match i.op with
  | 0x00 => none'
  | 0x01 => decide (1 ≤ i.mode ∧ i.mode ≤ 8) && (i.mode != 7 || decide (i.imm ≤ 11))
  | 0x02 => areaMode i.mode
  | 0x03 => none' | 0x04 => none' | 0x05 => none'
  | 0x06 => areaMode i.mode | 0x07 => areaMode i.mode
  | 0x10 => none' && tyNum i.ty | 0x11 => none' && tyNum i.ty | 0x12 => none' && tyNum i.ty | 0x13 => none' && tyNum i.ty
  | 0x14 => none' && tyInt i.ty
  | 0x15 => none' && tyNum i.ty | 0x16 => none' && tyNum i.ty | 0x17 => none' && tyNum i.ty | 0x18 => none' && tyNum i.ty
  | 0x19 => none' && tyNum i.ty
  | 0x1A => none' && tyFloat i.ty | 0x1B => none' && tyFloat i.ty | 0x1C => none' && tyFloat i.ty
  | 0x1D => none' && tyFloat i.ty | 0x1E => none' && tyFloat i.ty | 0x1F => none' && tyFloat i.ty
  | 0x20 => none' && (i.ty == 0 || tyBits' i.ty) | 0x21 => none' && (i.ty == 0 || tyBits' i.ty)
  | 0x22 => none' && (i.ty == 0 || tyBits' i.ty) | 0x23 => none' && (i.ty == 0 || tyBits' i.ty)
  | 0x24 => none' && tyBits' i.ty | 0x25 => none' && tyBits' i.ty | 0x26 => none' && tyBits' i.ty | 0x27 => none' && tyBits' i.ty
  | 0x30 => none' | 0x31 => none' | 0x32 => none' | 0x33 => none' | 0x34 => none' | 0x35 => none' | 0x36 => none' | 0x38 => none'
  | 0x40 => i.mode == 1 || i.mode == 2 | 0x41 => i.mode == 1 || i.mode == 2 | 0x42 => i.mode == 1 || i.mode == 2
  | 0x43 => i.mode == 2 && instMode (i.imm % 16)
  | 0x44 => none' | 0x45 => none'
  | 0x50 => instMode i.mode | 0x51 => instMode i.mode | 0x52 => instMode i.mode
  | 0x53 => instMode i.mode && (decide (2 ≤ i.ty ∧ i.ty ≤ 4) || decide (6 ≤ i.ty ∧ i.ty ≤ 8))
  | 0x54 => instMode i.mode && (decide (2 ≤ i.ty ∧ i.ty ≤ 4) || decide (6 ≤ i.ty ∧ i.ty ≤ 8))
  | 0x55 => instMode i.mode && (decide (2 ≤ i.ty ∧ i.ty ≤ 4) || decide (6 ≤ i.ty ∧ i.ty ≤ 8))
  | 0x56 => instMode i.mode | 0x57 => instMode i.mode | 0x58 => instMode i.mode | 0x59 => instMode i.mode
  | 0x60 => none' && decide (i.ty ≤ 3)
  | _ => false

/-! ### execution -/

/-- What an instruction gives: the task after it, or a fault cause of R516; a flag raised; writes discarded by a force. -/
structure TwOut where
  task : Task
  fault : Nat := 0
  flag : Bool := false
  blocked : Nat := 0
  deriving DecidableEq, Repr

/-- Pops n values, the top last; none on underflow (R496). -/
def twPop (k : Task) (n : Nat) : Option (List U64 × Task) :=
  if k.stack.length < n then none else some ((k.stack.take n).reverse, { k with stack := k.stack.drop n })

/-- The values of a result pushed, the last on top; overflow of the 64 slots is a fault (R495, R496). -/
def twPush (k : Task) (vs : List U64) : TwOut :=
  let st := vs.reverse ++ k.stack
  if 64 < st.length then { task := k, fault := 3 } else { task := { k with stack := st } }

/-- An instruction that takes n values and pushes what f gives. -/
def twPure (n : Nat) (f : TwIns → List U64 → List U64) (i : TwIns) (k : Task) : TwOut :=
  match twPop k n with
  | none => { task := k, fault := 3 }
  | some (vs, k1) => twPush k1 (f i vs)

/-- The area and bit address of an operand, for mode 0x8 from the current instance (R495). -/
def twAddr (k : Task) (mode bit : Nat) : Option (Nat × Nat) :=
  if mode = 8 then k.inst.map (fun p => (p.1, p.2 + bit)) else some (mode, bit)

/-- An address inside its area and aligned to the size w in bits (R495, R496). -/
def twAligned (a bit w : Nat) : Bool :=
  (w == 1 || (bit % 8 == 0 && bit / 8 % (w / 8) == 0)) && decide (bit + w ≤ areaSize a * 8)

/-- System input n (R497). -/
def twSystem (s : State) (k : Task) (t n : Nat) : U64 :=
  match n with
  | 3 => BitVec.ofNat 64 k.pick
  | 4 => BitVec.ofNat 64 k.beatNo
  | 5 => BitVec.ofNat 64 k.tick
  | 6 => BitVec.ofNat 64 k.tclk
  | 7 => twBool k.first
  | 8 => s.shuttle.starts.setWidth 64
  | 11 => BitVec.ofNat 64 t
  | 9 => BitVec.ofNat 64 (k.sys.getD 3 0)
  | 10 => BitVec.ofNat 64 (k.sys.getD 4 0)
  | _ => BitVec.ofNat 64 (k.sys.getD n 0)

/-- The operand of LD (R495): its value, or none for an address fault. -/
def twOperand (s : State) (t : Nat) (i : TwIns) (k : Task) : Option U64 :=
  match i.mode with
  | 1 => some (if tyFloat i.ty then twOfF i.ty (fofInt (immInt i.imm))
      else if i.ty = 0 then twBool (i.imm != 0) else twWrap i.ty (immInt i.imm))
  | 2 => some (BitVec.ofNat 64 ((i.ext1 + i.ext2 * 4294967296) % 2 ^ tyBits i.ty))
  | 7 => some (BitVec.ofNat 64 ((twSystem s k t i.imm).toNat % 2 ^ tyBits i.ty))
  | m => match twAddr k m i.ext1 with
    | some (a, b) => if twAligned a b (tyBits i.ty) then some (k.view.read a b (tyBits i.ty)) else none
    | none => none

/-- The ranges of two items overlap. -/
def overlaps (a b w a' b' w' : Nat) : Bool := a == a' && decide (b < b' + w' ∧ b' < b + w)

/-- A store of a value to an area (R494, R501): forced items are left and counted; NaN and infinity give 0 in the output
image. -/
def twStore (p : TwProg) (i : TwIns) (k : Task) (a b : Nat) (v : U64) : TwOut :=
  let w := tyBits i.ty
  if !twAligned a b w then { task := k, fault := 6 }
  else if k.forces.any (fun f => match forceAt p f with
      | some (a', b', w') => overlaps a b w a' b' w'
      | none => false) then { task := k, blocked := 1 }
  else
    let bad := a == 6 && tyFloat i.ty && !ffinite (twF i.ty v)
    let k1 : Task := { k with view := k.view.write a b w (if bad then 0 else v), dirty := k.dirty ++ [(a, b, w)] }
    { task := if bad then { k1 with fpout := true } else k1, flag := bad }

/-- A write of an instance's own bytes (R498 to R500). -/
def twField (k : Task) (a byte n : Nat) (v : Nat) : Task :=
  { k with view := k.view.write a (byte * 8) (n * 8) (BitVec.ofNat 64 v), dirty := k.dirty ++ [(a, byte * 8, n * 8)] }
def twGet (k : Task) (a byte n : Nat) : Nat := (k.view.read a (byte * 8) (n * 8)).toNat

/-- An abort of a task (R485): cause as SHUTTLE_FAULT codes it. -/
def State.twAbort (s : State) (t cause addr : Nat) : State :=
  let h := s.shuttle
  let k := h.tasks.getD t {}
  let r := h.prog.tasks.getD t { entry := 0 }
  let recent := k.aborts.filter (fun x => decide (s.otime < x + 60000000))
  let halt := !r.restart || decide (2 ≤ recent.length)
  let com := if halt && r.subst then
      ((h.prog.outAreas.filter (fun o => o.writer == t)).foldl (fun (m : Areas) o => m.substOut h.prog o) h.com).forced h.prog h.forces
    else h.com
  let s1 : State := { s with
    shuttle := { h with
      com := com, fault := word (t + cause * 16 + addr * 256)
      tasks := h.tasks.set t { k with st := if halt then 2 else 0, aborts := (s.otime :: recent).take 3, dirty := [], stack := [], calls := [] } } }
  (if r.beat then s1.releaseGuide .beatTask else s1).raise (if cause ≤ 2 then 0x12410004#32 else 0x12420005#32) [byteOf t, byteOf cause]

/-- The running task: the ready task of highest rank; PICK tasks by priority number, the BEAT task last (R483). -/
def State.twRunning (s : State) : Option (Nat × Task) :=
  let l := (List.zip (List.range 8) (List.zip s.shuttle.tasks s.shuttle.prog.tasks)).filter (fun e => e.2.1.st == 1)
  let rank (e : Nat × Task × TwTask) : Nat := if e.2.2.beat then 8 else e.2.2.prio
  ((sortBy (fun a b => decide (rank a ≤ rank b)) l).head?).map (fun e => (e.1, e.2.1))

/-- The opcodes of the opcode table (R495). -/
def twListed (op : Nat) : Bool :=
  decide (op ≤ 0x07 ∨ (0x10 ≤ op ∧ op ≤ 0x27) ∨ (0x30 ≤ op ∧ op ≤ 0x36) ∨ op = 0x38 ∨ (0x40 ≤ op ∧ op ≤ 0x45) ∨ (0x50 ≤ op ∧ op ≤ 0x60))
    && !(decide (0x5A ≤ op ∧ op ≤ 0x5F))

/-- The next word of a task is no instruction: it lies outside the code, or its extension words do (R496). -/
def State.twStray (s : State) (t : Nat) (k : Task) : State :=
  s.twAbort t (if s.shuttle.prog.code.length ≤ k.pc then 6 else 7) k.pc
/-- The next instruction is another one than the command's: nothing, or the abort of a reserved opcode (R496). -/
def State.twOther (s : State) (t : Nat) (k : Task) (i : TwIns) : State := if twListed i.op then s else s.twAbort t 7 k.pc

/-- The running task executes its next instruction, when that is the one of opcode `op` (R483, R485, R494 to R496). -/
def State.twRun (s : State) (op : Nat) (f : State → Nat → TwIns → Task → TwOut) : State :=
  if !s.shuttle.run then s else
  match s.twRunning with
  | none => s
  | some (t, k) =>
    match fetchTw s.shuttle.prog.code k.pc with
    | none => s.twStray t k
    | some i =>
      if i.op ≠ op then s.twOther t k i
      else
        let o := if twAllowed i then f s t i { k with pc := i.next } else { task := k, fault := 7 }
        if o.fault ≠ 0 then s.twAbort t o.fault k.pc
        else
          let s1 : State := { s with shuttle := { s.shuttle with
            tasks := s.shuttle.tasks.set t o.task, blocked := satAdd 65535 s.shuttle.blocked o.blocked } }
          if o.flag then s1.raiseLimited (0x12120006 * 16 + t) 60000000 0x12120006#32 [byteOf t] else s1

/-- An instruction without effect beyond its task. -/
def twLocal (g : TwIns → Task → TwOut) : State → Nat → TwIns → Task → TwOut := fun _ _ i k => g i k
def twExec (op : Nat) (g : State → Nat → TwIns → Task → TwOut) (s : State) : Host.Outcome State Fault Refusal := .next (s.twRun op g)

def v0 (l : List U64) : U64 := l.getD 0 0
def v1 (l : List U64) : U64 := l.getD 1 0
def v2 (l : List U64) : U64 := l.getD 2 0

/-! ### stack and moves -/

/-- NOP (R495). -/
def execTwNop (s : State) : Host.Outcome State Fault Refusal := twExec 0x00 (twLocal (fun _ k => { task := k })) s
/-- LD (R495). -/
def execTwLd (s : State) : Host.Outcome State Fault Refusal :=
  twExec 0x01 (fun s t i k => match twOperand s t i k with
    | some v => twPush k [v]
    | none => { task := k, fault := 6 }) s
/-- ST (R501). -/
def execTwSt (s : State) : Host.Outcome State Fault Refusal :=
  twExec 0x02 (fun s _ i k => match twPop k 1 with
    | none => { task := k, fault := 3 }
    | some (vs, k1) => match twAddr k1 i.mode i.ext1 with
      | some (a, b) => twStore s.shuttle.prog i k1 a b (v0 vs)
      | none => { task := k, fault := 6 }) s
/-- DUP (R495). -/
def execTwDup (s : State) : Host.Outcome State Fault Refusal := twExec 0x03 (twLocal (twPure 1 (fun _ l => [v0 l, v0 l]))) s
/-- DROP (R495). -/
def execTwDrop (s : State) : Host.Outcome State Fault Refusal := twExec 0x04 (twLocal (twPure 1 (fun _ _ => []))) s
/-- SWAP (R495). -/
def execTwSwap (s : State) : Host.Outcome State Fault Refusal := twExec 0x05 (twLocal (twPure 2 (fun _ l => [v1 l, v0 l]))) s

/-- Element of LDX and STX: its address, or the fault (R495, R496). -/
def twElem (i : TwIns) (k : Task) (ix : U64) : Option (Nat × Nat) × Nat :=
  let n := twInt 3 ix
  if n < 0 ∨ (i.ext2 : Int) ≤ n then (none, 5)
  else match twAddr k i.mode (i.ext1 + n.toNat * tyBits i.ty) with
    | some p => if twAligned p.1 p.2 (tyBits i.ty) then (some p, 0) else (none, 6)
    | none => (none, 6)

/-- LDX (R495). -/
def execTwLdx (s : State) : Host.Outcome State Fault Refusal :=
  twExec 0x06 (twLocal (fun i k => match twPop k 1 with
    | none => { task := k, fault := 3 }
    | some (vs, k1) => match twElem i k1 (v0 vs) with
      | (some (a, b), _) => twPush k1 [k1.view.read a b (tyBits i.ty)]
      | (none, c) => { task := k, fault := c })) s
/-- STX (R495, R501). -/
def execTwStx (s : State) : Host.Outcome State Fault Refusal :=
  twExec 0x07 (fun s _ i k => match twPop k 2 with
    | none => { task := k, fault := 3 }
    | some (vs, k1) => match twElem i k1 (v1 vs) with
      | (some (a, b), _) => twStore s.shuttle.prog i k1 a b (v0 vs)
      | (none, c) => { task := k, fault := c }) s

/-! ### arithmetic (R494) -/

/-- A binary operation: on floats in their own format, else on integers with wrapping. -/
def twArith (f32 : F32 → F32 → F32) (f64 : F64 → F64 → F64) (int : Int → Int → Int) (i : TwIns) (l : List U64) : List U64 :=
  [if i.ty = 13 then (f32 ((v0 l).setWidth 32) ((v1 l).setWidth 32)).setWidth 64
   else if i.ty = 14 then f64 (v0 l) (v1 l)
   else twWrap i.ty (int (twInt i.ty (v0 l)) (twInt i.ty (v1 l)))]

/-- ADD (R494). -/
def execTwAdd (s : State) : Host.Outcome State Fault Refusal := twExec 0x10 (twLocal (twPure 2 (twArith f32Add fadd (· + ·)))) s
/-- SUB (R494). -/
def execTwSub (s : State) : Host.Outcome State Fault Refusal := twExec 0x11 (twLocal (twPure 2 (twArith f32Sub fsub (· - ·)))) s
/-- MUL (R494). -/
def execTwMul (s : State) : Host.Outcome State Fault Refusal := twExec 0x12 (twLocal (twPure 2 (twArith f32Mul fmul (· * ·)))) s

/-- DIV and MOD by zero of integers give 0 and raise DIVZ; division truncates, MOD takes the sign of the dividend (R494). -/
def twDivide (int : Int → Int → Int) (i : TwIns) (k : Task) : TwOut :=
  match twPop k 2 with
  | none => { task := k, fault := 3 }
  | some (l, k1) =>
    if tyFloat i.ty then twPush k1 (twArith f32Div fdiv int i l)
    else if twInt i.ty (v1 l) = 0 then
      let o := twPush k1 [0]
      { o with task := { o.task with divz := true }, flag := true }
    else twPush k1 (twArith f32Div fdiv int i l)
/-- DIV (R494). -/
def execTwDiv (s : State) : Host.Outcome State Fault Refusal := twExec 0x13 (twLocal (twDivide Int.tdiv)) s
/-- MOD (R494). -/
def execTwMod (s : State) : Host.Outcome State Fault Refusal := twExec 0x14 (twLocal (twDivide Int.tmod)) s

/-- NEG (R494). -/
def execTwNeg (s : State) : Host.Outcome State Fault Refusal :=
  twExec 0x15 (twLocal (twPure 1 (fun i l =>
    [if i.ty = 13 then (f32Neg ((v0 l).setWidth 32)).setWidth 64 else if i.ty = 14 then fneg (v0 l)
     else twWrap i.ty (-(twInt i.ty (v0 l)))]))) s
/-- ABS (R495); of the least value of a signed type a free value (log entry 18). -/
def execTwAbs (s : State) : Host.Outcome State Fault Refusal :=
  twExec 0x16 (twLocal (twPure 1 (fun i l =>
    [if i.ty = 13 then (f32Abs ((v0 l).setWidth 32)).setWidth 64 else if i.ty = 14 then fabs (v0 l)
     else if tySigned i.ty && decide (twInt i.ty (v0 l) = twMin i.ty) then Config.twAbsMin i.ty
     else twWrap i.ty (((twInt i.ty (v0 l)).natAbs : Nat) : Int)]))) s

/-- a is smaller than b. -/
def twLess (ty : Nat) (a b : U64) : Bool := if tyFloat ty then flt (twF ty a) (twF ty b) else decide (twInt ty a < twInt ty b)
/-- The smaller or the larger of two values; with a NaN a free value (log entry 18). -/
def twMinMax (larger : Bool) (ty : Nat) (a b : U64) : U64 :=
  if tyFloat ty && (fisNan (twF ty a) || fisNan (twF ty b)) then Config.twMinMaxNan (b2n larger) a b
  else if larger then (if twLess ty a b then b else a) else (if twLess ty b a then b else a)
/-- MIN (R495). -/
def execTwMin (s : State) : Host.Outcome State Fault Refusal :=
  twExec 0x17 (twLocal (twPure 2 (fun i l => [twMinMax false i.ty (v0 l) (v1 l)]))) s
/-- MAX (R495). -/
def execTwMax (s : State) : Host.Outcome State Fault Refusal :=
  twExec 0x18 (twLocal (twPure 2 (fun i l => [twMinMax true i.ty (v0 l) (v1 l)]))) s
/-- LIMIT (R495): min(max(in, mn), mx). -/
def execTwLimit (s : State) : Host.Outcome State Fault Refusal :=
  twExec 0x19 (twLocal (twPure 3 (fun i l => [twMinMax false i.ty (twMinMax true i.ty (v1 l) (v0 l)) (v2 l)]))) s

/-- A function of one real. -/
def twReal (f : F64 → F64) (i : TwIns) (l : List U64) : List U64 := [twOfF i.ty (f (twF i.ty (v0 l)))]
/-- SQRT (R495). -/
def execTwSqrt (s : State) : Host.Outcome State Fault Refusal :=
  twExec 0x1A (twLocal (twPure 1 (fun i l =>
    [if i.ty = 13 then (f32Sqrt ((v0 l).setWidth 32)).setWidth 64 else fsqrt (v0 l)]))) s
/-- SIN (R495). -/
def execTwSin (s : State) : Host.Outcome State Fault Refusal := twExec 0x1B (twLocal (twPure 1 (twReal Config.fsin))) s
/-- COS (R495). -/
def execTwCos (s : State) : Host.Outcome State Fault Refusal := twExec 0x1C (twLocal (twPure 1 (twReal Config.fcos))) s
/-- ATAN2 (R495). -/
def execTwAtan2 (s : State) : Host.Outcome State Fault Refusal :=
  twExec 0x1D (twLocal (twPure 2 (fun i l => [twOfF i.ty (Config.fatan2 (twF i.ty (v0 l)) (twF i.ty (v1 l)))]))) s
/-- EXP (R495). -/
def execTwExp (s : State) : Host.Outcome State Fault Refusal := twExec 0x1E (twLocal (twPure 1 (twReal Config.fexp))) s
/-- LN (R495). -/
def execTwLn (s : State) : Host.Outcome State Fault Refusal := twExec 0x1F (twLocal (twPure 1 (twReal Config.fln))) s

/-! ### logic, shifts, comparisons, selection, conversion -/

/-- AND (R495). -/
def execTwAnd (s : State) : Host.Outcome State Fault Refusal := twExec 0x20 (twLocal (twPure 2 (fun _ l => [v0 l &&& v1 l]))) s
/-- OR (R495). -/
def execTwOr (s : State) : Host.Outcome State Fault Refusal := twExec 0x21 (twLocal (twPure 2 (fun _ l => [v0 l ||| v1 l]))) s
/-- XOR (R495). -/
def execTwXor (s : State) : Host.Outcome State Fault Refusal := twExec 0x22 (twLocal (twPure 2 (fun _ l => [v0 l ^^^ v1 l]))) s
/-- NOT (R495). -/
def execTwNot (s : State) : Host.Outcome State Fault Refusal :=
  twExec 0x23 (twLocal (twPure 1 (fun i l => [twWrap i.ty ((~~~ (v0 l)).toNat : Int)]))) s

/-- A shift or rotate; the count is taken modulo the width (R494). -/
def twShift (f : Nat → Nat → Nat → Nat) (i : TwIns) (l : List U64) : List U64 :=
  let w := tyBits i.ty
  [BitVec.ofNat 64 (f w ((v0 l).toNat % 2 ^ w) ((v1 l).toNat % 65536 % w) % 2 ^ w)]
/-- SHL (R494). -/
def execTwShl (s : State) : Host.Outcome State Fault Refusal :=
  twExec 0x24 (twLocal (twPure 2 (twShift (fun _ v n => v * 2 ^ n)))) s
/-- SHR (R494). -/
def execTwShr (s : State) : Host.Outcome State Fault Refusal :=
  twExec 0x25 (twLocal (twPure 2 (twShift (fun _ v n => v / 2 ^ n)))) s
/-- ROL (R494). -/
def execTwRol (s : State) : Host.Outcome State Fault Refusal :=
  twExec 0x26 (twLocal (twPure 2 (twShift (fun w v n => v * 2 ^ n + v / 2 ^ (w - n))))) s
/-- ROR (R494). -/
def execTwRor (s : State) : Host.Outcome State Fault Refusal :=
  twExec 0x27 (twLocal (twPure 2 (twShift (fun w v n => v / 2 ^ n + v % 2 ^ n * 2 ^ (w - n))))) s

def twEqual (ty : Nat) (a b : U64) : Bool := if tyFloat ty then feq (twF ty a) (twF ty b) else twInt ty a == twInt ty b
/-- A comparison; one with a NaN operand is FALSE, NE is TRUE (R494). -/
def twCompare (f : Nat → U64 → U64 → Bool) : TwIns → Task → TwOut := twPure 2 (fun i l => [twBool (f i.ty (v0 l) (v1 l))])
/-- EQ (R494). -/
def execTwEq (s : State) : Host.Outcome State Fault Refusal := twExec 0x30 (twLocal (twCompare twEqual)) s
/-- NE (R494). -/
def execTwNe (s : State) : Host.Outcome State Fault Refusal := twExec 0x31 (twLocal (twCompare (fun ty a b => !twEqual ty a b))) s
/-- LT (R494). -/
def execTwLt (s : State) : Host.Outcome State Fault Refusal := twExec 0x32 (twLocal (twCompare twLess)) s
/-- LE (R494). -/
def execTwLe (s : State) : Host.Outcome State Fault Refusal :=
  twExec 0x33 (twLocal (twCompare (fun ty a b => twLess ty a b || twEqual ty a b))) s
/-- GT (R494). -/
def execTwGt (s : State) : Host.Outcome State Fault Refusal := twExec 0x34 (twLocal (twCompare (fun ty a b => twLess ty b a))) s
/-- GE (R494). -/
def execTwGe (s : State) : Host.Outcome State Fault Refusal :=
  twExec 0x35 (twLocal (twCompare (fun ty a b => twLess ty b a || twEqual ty a b))) s
/-- SEL (R495): b when g, otherwise a. -/
def execTwSel (s : State) : Host.Outcome State Fault Refusal :=
  twExec 0x36 (twLocal (twPure 3 (fun _ l => [if (v0 l).getLsbD 0 then v2 l else v1 l]))) s

/-- A conversion of R494: the value, and whether it saturated or met a NaN. -/
def twCvt (src dst : Nat) (v : U64) : U64 × Bool :=
  if tyFloat src then
    if tyFloat dst then (twOfF dst (twF src v), false)
    else
      let x := twF src v
      if fisNan x then (0, true)
      else
        let n := frintClamp x (twMin dst) (twMax dst)
        let inf := !ffinite x
        (twWrap dst n, inf || !decide (twMin dst ≤ frint x ∧ frint x ≤ twMax dst))
  else if tyFloat dst then
    ((if dst = 13 then (f32OfInt (twInt src v)).setWidth 64 else fofInt (twInt src v)), false)
  else
    let n := twInt src v
    (twWrap dst (iclamp (twMin dst) (twMax dst) n), decide (n < twMin dst ∨ twMax dst < n))

/-- CVT (R494). -/
def execTwCvt (s : State) : Host.Outcome State Fault Refusal :=
  twExec 0x38 (twLocal (fun i k => match twPop k 1 with
    | none => { task := k, fault := 3 }
    | some (l, k1) =>
      let (v, sat) := twCvt (i.imm % 16) i.ty (v0 l)
      let o := twPush k1 [v]
      if sat then { o with task := { o.task with range := true }, flag := true } else o)) s

/-! ### jumps, calls, end -/

/-- The target of a jump: offsets count words from the instruction that follows (R495). -/
def twTarget (i : TwIns) : Nat :=
  let off := if i.mode = 1 then immInt i.imm else twInt 3 (BitVec.ofNat 64 i.ext1)
  ((i.next : Int) + off).toNat

/-- JMP (R495). -/
def execTwJmp (s : State) : Host.Outcome State Fault Refusal :=
  twExec 0x40 (twLocal (fun i k => { task := { k with pc := twTarget i } })) s
/-- A jump on a condition. -/
def twJumpIf (want : Bool) (i : TwIns) (k : Task) : TwOut :=
  match twPop k 1 with
  | none => { task := k, fault := 3 }
  | some (l, k1) => { task := if (v0 l).getLsbD 0 = want then { k1 with pc := twTarget i } else k1 }
/-- JMPC (R495). -/
def execTwJmpc (s : State) : Host.Outcome State Fault Refusal := twExec 0x41 (twLocal (twJumpIf true)) s
/-- JMPCN (R495). -/
def execTwJmpcn (s : State) : Host.Outcome State Fault Refusal := twExec 0x42 (twLocal (twJumpIf false)) s
/-- CALL (R495, R496): the instance becomes current. -/
def execTwCall (s : State) : Host.Outcome State Fault Refusal :=
  twExec 0x43 (twLocal (fun i k =>
    if 16 ≤ k.calls.length then { task := k, fault := 4 }
    else match twAddr k (i.imm % 16) i.ext2 with
      | none => { task := k, fault := 6 }
      | some p => { task := { k with pc := i.ext1, calls := (i.next, k.inst) :: k.calls, inst := some p } })) s
/-- RET (R495). -/
def execTwRet (s : State) : Host.Outcome State Fault Refusal :=
  twExec 0x44 (twLocal (fun _ k => match k.calls with
    | [] => { task := k, fault := 4 }
    | (pc, inst) :: rest => { task := { k with pc := pc, inst := inst, calls := rest } })) s

/-- The commit of a completed task (R488, R492): its writes, and the journal of its retentive variables. -/
def State.twCommit (s : State) (t : Nat) (k : Task) : State :=
  let h := s.shuttle
  let com := h.com.commit k.view k.dirty
  let ret := k.dirty.any (fun d => d.1 == 4)
  let us := min 65535 ((s.now - k.at') / 1000)
  { s with shuttle := { h with
      com := com, journal := if ret then com.ret else h.journal
      tasks := h.tasks.set t { k with st := 0, dirty := [], stack := [], calls := [], lastUs := us, maxUs := max k.maxUs us } } }

/-- END (R488): the task completes and commits; the BEAT task releases its Reed bank (R59). -/
def execTwEnd (t : Ns) (s : State) : Host.Outcome State Fault Refusal :=
  let s0 := s.at t
  .next (if !s0.shuttle.run then s else
    match s0.twRunning with
    | none => s
    | some (n, k) =>
      match fetchTw s0.shuttle.prog.code k.pc with
      | none => s0.twStray n k
      | some i =>
        if i.op ≠ 0x45 then s0.twOther n k i
        else if !twAllowed i || !k.calls.isEmpty then s0.twAbort n 7 k.pc
        else
          let s1 := s0.twCommit n { k with pc := i.next }
          if (s1.shuttle.prog.tasks.getD n { entry := 0 }).beat then s1.releaseGuide .beatTask else s1)

/-! ### built-in blocks (R498 to R500) -/

/-- What a built-in block reads of its instance: area and byte, PREV, STATEFL, and whether START16 is that of another
start. -/
structure TwBlock where
  area : Nat
  at' : Nat
  prev : Nat
  flag : Bool
  fresh : Bool
  deriving DecidableEq, Repr

/-- A built-in block: n inputs, `body` gives the values pushed, the new STATEFL bit and further fields (offset, bytes,
value). Inputs are stored in PREV and START16 at every execution (R500). -/
def twBuiltin (n size : Nat) (s : State) (i : TwIns) (k : Task)
    (body : TwBlock → List U64 → List U64 × Bool × List (Nat × Nat × Nat) × Nat) : TwOut :=
  match twPop k n, twAddr k i.mode i.ext1 with
  | none, _ => { task := k, fault := 3 }
  | _, none => { task := k, fault := 6 }
  | some (l, k1), some (a, bit) =>
    if bit % 64 ≠ 0 ∨ areaSize a * 8 < bit + size * 8 then { task := k, fault := 6 }
    else
      let y := bit / 8
      let start := s.shuttle.starts.toNat % 65536
      let b : TwBlock := { area := a, at' := y, prev := twGet k1 a (y + 2) 1, flag := nbit (twGet k1 a (y + 3) 1) 0
                           fresh := twGet k1 a y 2 != start }
      let (out, fl, fields, prev) := body b l
      let k2 := fields.foldl (fun (c : Task) e => twField c a (y + e.1) e.2.1 e.2.2) k1
      let k3 := twField (twField (twField k2 a y 2 start) a (y + 2) 1 prev) a (y + 3) 1 (b2n fl)
      twPush k3 out

/-- ET of a timer: min((t − start) × 1,000 ns, PT); a negative PT counts as 0 (R498). -/
def twEt (t start : Nat) (pt : Int) : Int := min (((t : Int) - (start : Int)) * 1000) pt
def twPt (v : U64) : Int := max 0 (twInt 15 v)
def natOf64 (n : Int) : Nat := (twWrap 15 n).toNat

/-- TON (R498). -/
def execTwTon (s : State) : Host.Outcome State Fault Refusal :=
  twExec 0x50 (fun s _ i k => twBuiltin 2 24 s i k (fun b l =>
    let inp := (v0 l).getLsbD 0
    let pt := twPt (v1 l)
    let start := if inp && !nbit b.prev 0 then k.tclk else twGet k b.area (b.at' + 8) 8
    let et := if inp then twEt k.tclk start pt else 0
    let q := inp && decide (pt ≤ et)
    ([twWrap 15 et, twBool q], q, [(8, 8, start), (16, 8, natOf64 et)], b2n inp))) s
/-- TOF (R498). -/
def execTwTof (s : State) : Host.Outcome State Fault Refusal :=
  twExec 0x51 (fun s _ i k => twBuiltin 2 24 s i k (fun b l =>
    let inp := (v0 l).getLsbD 0
    let pt := twPt (v1 l)
    let start := if !inp && nbit b.prev 0 then k.tclk else twGet k b.area (b.at' + 8) 8
    let old := twInt 15 (BitVec.ofNat 64 (twGet k b.area (b.at' + 16) 8))
    let et := if inp then 0 else if b.flag then twEt k.tclk start pt else old
    let q := inp || (b.flag && decide (et < pt))
    ([twWrap 15 et, twBool q], q, [(8, 8, start), (16, 8, natOf64 et)], b2n inp))) s
/-- TP (R498). -/
def execTwTp (s : State) : Host.Outcome State Fault Refusal :=
  twExec 0x52 (fun s _ i k => twBuiltin 2 24 s i k (fun b l =>
    let inp := (v0 l).getLsbD 0
    let pt := twPt (v1 l)
    let rise := inp && !nbit b.prev 0 && !b.flag
    let start := if rise then k.tclk else twGet k b.area (b.at' + 8) 8
    let running := b.flag || rise
    let old := twInt 15 (BitVec.ofNat 64 (twGet k b.area (b.at' + 16) 8))
    let et := if running then twEt k.tclk start pt else if inp then old else 0
    let q := running && decide (et < pt)
    ([twWrap 15 et, twBool q], q, [(8, 8, start), (16, 8, natOf64 et)], b2n inp))) s

/-- A counter's CV in its type, at byte 8 of the instance. -/
def twCv (ty : Nat) (k : Task) (b : TwBlock) : Int := twInt ty (BitVec.ofNat 64 (twGet k b.area (b.at' + 8) (tyBits ty / 8)))

/-- CTU (R499). -/
def execTwCtu (s : State) : Host.Outcome State Fault Refusal :=
  twExec 0x53 (fun s _ i k => twBuiltin 3 16 s i k (fun b l =>
    let cu := (v0 l).getLsbD 0
    let cv := twCv i.ty k b
    let n := if (v1 l).getLsbD 0 then 0 else if cu && !nbit b.prev 0 && decide (cv < twMax i.ty) then cv + 1 else cv
    let q := decide (twInt i.ty (v2 l) ≤ n)
    ([twWrap i.ty n, twBool q], q, [(8, tyBits i.ty / 8, (twWrap i.ty n).toNat)], b2n cu + 2 * b2n ((v1 l).getLsbD 0)))) s
/-- CTD (R499). -/
def execTwCtd (s : State) : Host.Outcome State Fault Refusal :=
  twExec 0x54 (fun s _ i k => twBuiltin 3 16 s i k (fun b l =>
    let cd := (v0 l).getLsbD 0
    let cv := twCv i.ty k b
    let n := if (v1 l).getLsbD 0 then twInt i.ty (v2 l)
      else if cd && !nbit b.prev 0 && decide (twMin i.ty < cv) then cv - 1 else cv
    let q := decide (n ≤ 0)
    ([twWrap i.ty n, twBool q], q, [(8, tyBits i.ty / 8, (twWrap i.ty n).toNat)], b2n cd + 2 * b2n ((v1 l).getLsbD 0)))) s
/-- CTUD (R499). -/
def execTwCtud (s : State) : Host.Outcome State Fault Refusal :=
  twExec 0x55 (fun s _ i k => twBuiltin 5 16 s i k (fun b l =>
    let cu := (v0 l).getLsbD 0
    let cd := (v1 l).getLsbD 0
    let up := cu && !nbit b.prev 0
    let down := cd && !nbit b.prev 1
    let pv := twInt i.ty (l.getD 4 0)
    let cv := twCv i.ty k b
    let n := if (v2 l).getLsbD 0 then 0
      else if (l.getD 3 0).getLsbD 0 then pv
      else if up && !down && decide (cv < twMax i.ty) then cv + 1
      else if down && !up && decide (twMin i.ty < cv) then cv - 1
      else cv
    ([twWrap i.ty n, twBool (decide (pv ≤ n)), twBool (decide (n ≤ 0))], decide (pv ≤ n),
      [(8, tyBits i.ty / 8, (twWrap i.ty n).toNat)], b2n cu + 2 * b2n cd + 4 * b2n ((v2 l).getLsbD 0) + 8 * b2n ((l.getD 3 0).getLsbD 0)))) s

/-- An edge block; the first execution since a start with NOEDGE1 gives FALSE (R500). -/
def twEdge (f : Bool → Bool → Bool) (s : State) (i : TwIns) (k : Task) : TwOut :=
  twBuiltin 1 8 s i k (fun b l =>
    let clk := (v0 l).getLsbD 0
    let q := if b.fresh && nbit i.imm 0 then false else f clk (nbit b.prev 0)
    ([twBool q], b.flag, [], b2n clk))
/-- R_TRIG (R500). -/
def execTwRTrig (s : State) : Host.Outcome State Fault Refusal := twExec 0x56 (fun s _ i k => twEdge (fun c p => c && !p) s i k) s
/-- F_TRIG (R500). -/
def execTwFTrig (s : State) : Host.Outcome State Fault Refusal := twExec 0x57 (fun s _ i k => twEdge (fun c p => !c && p) s i k) s

/-- A bistable. -/
def twBistable (f : Bool → Bool → Bool → Bool) (s : State) (i : TwIns) (k : Task) : TwOut :=
  twBuiltin 2 8 s i k (fun b l =>
    let x := (v0 l).getLsbD 0
    let y := (v1 l).getLsbD 0
    let q := f x y b.flag
    ([twBool q], q, [], b2n x + 2 * b2n y))
/-- SR (R495): set dominant. -/
def execTwSr (s : State) : Host.Outcome State Fault Refusal :=
  twExec 0x58 (fun s _ i k => twBistable (fun s1 r q => s1 || (q && !r)) s i k) s
/-- RS (R495): reset dominant. -/
def execTwRs (s : State) : Host.Outcome State Fault Refusal :=
  twExec 0x59 (fun s _ i k => twBistable (fun x r1 q => !r1 && (x || q)) s i k) s

/-- EVT (R503): the program event when the condition is TRUE, each number at most once per 100 ms. -/
def execTwEvt (s : State) : Host.Outcome State Fault Refusal :=
  .next (if !s.shuttle.run then s else
    match s.twRunning with
    | none => s
    | some (t, k) =>
      match fetchTw s.shuttle.prog.code k.pc with
      | none => s.twStray t k
      | some i =>
        if i.op ≠ 0x60 then s.twOther t k i
        else if !twAllowed i then s.twAbort t 7 k.pc
        else match twPop k 1 with
          | none => s.twAbort t 3 k.pc
          | some (l, k1) =>
            let k2 : Task := { k1 with pc := i.next }
            let put (x : Task) : State := { s with shuttle := { s.shuttle with tasks := s.shuttle.tasks.set t x } }
            if !(v0 l).getLsbD 0 then put k2
            else
              let n := i.imm % 4096
              let key := 0x1208000000 + n
              let held := match aget key s.limits with
                | some t0 => decide (s.otime < t0 + 100000)
                | none => false
              if held then put { k2 with evsup := sat16 k2.evsup }
              else (put k2).raiseLimited key 100000 (word (0x12080000 + i.ty * 1048576 + n)))

end Sys2Proof.Machine
end

