-- ==== Sys2Proof/Machine/TwVerify.lean ====
section
/-! DEFINITION. The verification of a Twill image at Draft activation and for an online change (R481, R488, R495). -/

namespace Sys2Proof.Machine

/-- The instructions of a routine with their addresses, while they fit it exactly. -/
def routineIns (code : List Word) (stop : Nat) : Nat → Nat → Option (List (Nat × TwIns))
  | 0, _ => none
  | n + 1, pc =>
    if pc = stop then some []
    else match fetchTw code pc with
      | some i => if i.next ≤ stop then (routineIns code stop n i.next).map (fun l => (pc, i) :: l) else none
      | none => none

/-- Values taken from the stack and put on it. -/
def stackUse (i : TwIns) : Nat × Nat :=
  match i.op with
  | 0x01 => (0, 1) | 0x02 => (1, 0) | 0x03 => (1, 2) | 0x04 => (1, 0) | 0x05 => (2, 2) | 0x06 => (1, 1) | 0x07 => (2, 0)
  | 0x15 => (1, 1) | 0x16 => (1, 1) | 0x19 => (3, 1) | 0x1A => (1, 1) | 0x1B => (1, 1) | 0x1C => (1, 1) | 0x1D => (2, 1)
  | 0x1E => (1, 1) | 0x1F => (1, 1) | 0x23 => (1, 1) | 0x36 => (3, 1) | 0x38 => (1, 1) | 0x41 => (1, 0) | 0x42 => (1, 0)
  | 0x50 => (2, 2) | 0x51 => (2, 2) | 0x52 => (2, 2) | 0x53 => (3, 2) | 0x54 => (3, 2) | 0x55 => (5, 3) | 0x56 => (1, 1)
  | 0x57 => (1, 1) | 0x58 => (2, 1) | 0x59 => (2, 1) | 0x60 => (1, 0)
  | op => if (0x10 ≤ op ∧ op ≤ 0x35) then (2, 1) else (0, 0)

/-- Bytes of a built-in instance by opcode. -/
def instBytes (op : Nat) : Nat := if op ≤ 0x52 then 24 else if op ≤ 0x55 then 16 else 8

/-- The address of an instruction lies in its area and is aligned (R495); relative to an instance only its alignment shows. -/
def insAddrOk (i : TwIns) : Bool :=
  if i.op = 1 ∨ i.op = 2 then
    (if 3 ≤ i.mode ∧ i.mode ≤ 6 then twAligned i.mode i.ext1 (tyBits i.ty) else true)
  else if i.op = 6 ∨ i.op = 7 then
    (if 3 ≤ i.mode ∧ i.mode ≤ 6 then twAligned i.mode i.ext1 (tyBits i.ty)
      && decide (i.ext1 + i.ext2 * tyBits i.ty ≤ areaSize i.mode * 8) else true)
  else if 0x50 ≤ i.op ∧ i.op ≤ 0x59 then
    i.ext1 % 64 == 0 && (i.mode == 8 || decide (i.ext1 + instBytes i.op * 8 ≤ areaSize i.mode * 8))
  else if i.op = 0x43 then
    i.imm % 16 == 8 || (i.ext2 % 64 == 0 && decide (i.ext2 ≤ areaSize (i.imm % 16) * 8))
  else true

/-- Successors of an instruction inside its routine. -/
def insNext (i : TwIns) : List Nat :=
  match i.op with
  | 0x40 => [twTarget i]
  | 0x41 => [i.next, twTarget i]
  | 0x42 => [i.next, twTarget i]
  | 0x44 => []
  | 0x45 => []
  | _ => [i.next]

/-- Opcodes, types, modes, addresses, jump and call targets of a routine (R495). -/
def routineOk (p : TwProg) (r : TwRoutine) : Bool :=
  match routineIns p.code (r.start + r.len) (r.len + 1) r.start with
  | none => false
  | some l =>
    l.all (fun e => twAllowed e.2 && insAddrOk e.2
      && (e.2.op != 0x43 || p.routines.any (fun q => q.start == e.2.ext1))
      && (insNext e.2).all (fun t => l.any (fun x => x.1 == t))
      && (e.2.op != 0x45 || p.tasks.any (fun t => t.entry == r.start)))

/-- One pass over a routine: the greatest stack depth before each instruction. -/
def depthPass (l : List (Nat × TwIns)) (d : List (Nat × Nat)) : List (Nat × Nat) :=
  l.foldl (fun (m : List (Nat × Nat)) e =>
    match aget e.1 m with
    | none => m
    | some k =>
      let (a, b) := stackUse e.2
      (insNext e.2).foldl (fun (m : List (Nat × Nat)) t =>
        match aget t m with
        | some o => if o < k - a + b then aset t (min 65 (k - a + b)) m else m
        | none => aset t (min 65 (k - a + b)) m) m) d

def depthRun (l : List (Nat × TwIns)) : Nat → List (Nat × Nat) → List (Nat × Nat)
  | 0, d => d
  | n + 1, d => depthRun l n (depthPass l d)

/-- Greatest static stack depth of a routine with what it calls, nested at most `fuel` deep; none when calls nest deeper
(R495). -/
def depthOf (p : TwProg) : Nat → Nat → Option Nat
  | 0, _ => none
  | fuel + 1, start =>
    match p.routines.find? (fun r => r.start == start) with
    | none => none
    | some r =>
      match routineIns p.code (r.start + r.len) (r.len + 1) r.start with
      | none => none
      | some l =>
        let d := depthRun l (l.length + 66) [(start, 0)]
        l.foldl (fun (acc : Option Nat) e =>
          match acc, aget e.1 d with
          | some m, some k =>
            let (a, b) := stackUse e.2
            if e.2.op = 0x43 then (depthOf p fuel e.2.ext1).map (fun n => max m (k + n))
            else some (max m (max k (k - a + b)))
          | some m, none => some m
          | none, _ => none) (some 0)

/-- What a task writes: area, bit address, width, over its entry routine and what it calls; `inst` is the current instance, which CALL
names (R488, R495). -/
def writesOf (p : TwProg) : Nat → Nat → Option (Nat × Nat) → List (Nat × Nat × Nat)
  | 0, _, _ => []
  | fuel + 1, start, inst =>
    match p.routines.find? (fun r => r.start == start) with
    | none => []
    | some r =>
      ((routineIns p.code (r.start + r.len) (r.len + 1) r.start).getD []).flatMap (fun e =>
        let i := e.2
        let place (mode bit : Nat) : Option (Nat × Nat) :=
          if mode = 8 then inst.map (fun q => (q.1, q.2 + bit)) else if 3 ≤ mode ∧ mode ≤ 6 then some (mode, bit) else none
        let width : Option Nat :=
          if i.op = 2 then some (tyBits i.ty) else if i.op = 7 then some (i.ext2 * tyBits i.ty)
          else if 0x50 ≤ i.op ∧ i.op ≤ 0x59 then some (instBytes i.op * 8) else none
        if i.op = 0x43 then writesOf p fuel i.ext1 (place (i.imm % 16) i.ext2)
        else match place i.mode i.ext1, width with
          | some (a, b), some w => [(a, b, w)]
          | _, _ => [])

/-- No two tasks write the same bits, and output areas do not overlap (R488). -/
def writersOk (p : TwProg) : Bool :=
  let l := (List.zip (List.range 8) p.tasks).map (fun e => (e.1, writesOf p 17 e.2.entry none))
  l.all (fun a => l.all (fun b => a.1 == b.1 || a.2.all (fun x => b.2.all (fun y =>
      !overlaps x.1 x.2.1 x.2.2 y.1 y.2.1 y.2.2))))
    && l.all (fun a => a.2.all (fun x => x.1 != 6 || p.outAreas.all (fun o =>
      o.writer == a.1 || !overlaps 6 x.2.1 x.2.2 6 (o.ofs * 8) (o.len * 8))))

/-- The task table: one to eight tasks (R481). -/
def tasksOk (p : TwProg) : Bool :=
  let picks := p.tasks.filter (fun t => !t.beat)
  decide (1 ≤ p.tasks.length ∧ p.tasks.length ≤ 8 ∧ (p.tasks.filter (fun t => t.beat)).length ≤ 1)
    && picks.all (fun t => decide (1 ≤ t.m ∧ t.m ≤ 1000 ∧ t.phase < t.m ∧ t.prio ≤ 7 ∧ 1 ≤ t.wMs ∧ t.wMs ≤ 100))
    && (picks.map (fun t => t.prio)).eraseDups.length == picks.length
    && p.tasks.all (fun t => p.routines.any (fun r => r.start == t.entry))

/-- Bytes of the SYNC sets (R481). -/
def syncBytes (p : TwProg) : Nat :=
  (p.tasks.flatMap (fun t => t.sync)).foldl (fun n id => match p.syms.find? (fun y => y.id == id) with
    | some y => n + (match y.inst with
      | some (len, _) => len
      | none => (tyBits y.ty * y.count + 7) / 8)
    | none => n) 0

/-- Bytes that a source takes in the input image (R147, R183, R487, R493). -/
def twSourceLen : TwSource → Nat
  | .di _ => 1
  | .session _ _ ty => (tyBits ty + 7) / 8
  | .kiln _ => 4
  | .obsRecord => 128
  | .wheelRecord => 436

/-- The Twill image passes verification (R481, R487, R489, R495). -/
def twProgOk (p : TwProg) : Bool :=
  tasksOk p && decide (p.code.length ≤ 524288) && p.routines.all (routineOk p) && writersOk p
    && p.tasks.all (fun t => match depthOf p 17 t.entry with
      | some n => decide (n ≤ 64)
      | none => false)
    && p.syms.all (fun y => (y.inst.isSome || twAligned y.area y.bit (tyBits y.ty))
      && decide (3 ≤ y.area ∧ y.area ≤ 6))
    && decide (syncBytes p ≤ 32768)
    && p.outAreas.all (fun o => decide (o.ofs + o.len ≤ 131072)) && p.inMaps.all (fun m => decide (m.ofs + twSourceLen m.src ≤ 262144) && m.st.all (fun a => decide (a < 262144)))

end Sys2Proof.Machine
end

