-- ==== Sys2Proof/Machine/ShuttleRun.lean ====
section
/-! DEFINITION. Releases of the Shuttle's tasks, their input image, aborts by time, the SYNC image, and the Shuttle's
registers (R480 to R491, R497, R511, R514 to R517). -/

namespace Sys2Proof.Machine

/-! ### the input image at a release (R487) -/

/-- Bytes of a session value in a type, by the rules of CVT. -/
def twBytes (ty : Nat) (v : F64) : List Byte := (le64 (twCvt 14 ty v).1.toNat).take ((tyBits ty + 7) / 8)

/-- Bytes and status of a source at a release (R487). -/
def State.twSourceBytes (s : State) : TwSource → List Byte × Nat
  | .di k => ([byteOf (b2n (s.plant.di.getLsbD k))], 0)
  | .session i dest ty =>
    let h := s.hed i
    match (h.recent ++ h.latched).find? (fun r => decide (r.arrival < s.clk.tick + 80000) && r.slots.any (fun p => p.1 == dest)) with
    | some r => (twBytes ty ((aget dest r.slots).getD 0), if s.sessLive i then 0 else 1)
    | none => ([], 2)
  | .kiln off => (le32 ((aget off s.mirror).getD 0).toNat, 0)
  | .obsRecord => (s.obs.record, if s.obs.record.isEmpty then 2 else 0)
  | .wheelRecord => (s.wheel.record, if s.wheel.record.isEmpty then 2 else 0)

def State.twInputs (s : State) : State :=
  s.shuttle.prog.inMaps.foldl (fun (a : State) m =>
    let (l, st) := a.twSourceBytes m.src
    let inp := memWriteBytes a.shuttle.com.inp m.ofs l
    let inp2 := match m.st with
      | some o => memWriteBytes inp o [byteOf st]
      | none => inp
    { a with shuttle := { a.shuttle with com := { a.shuttle.com with inp := inp2 } } }) s

/-- TPVALID, as TIME holds it (R390). -/
def State.tpValid (s : State) : Bool := s.time.tpvalid

/-- A task is released: it sees the inputs and every area as they stand, with the forces of this instant (R487, R488,
R497, R501). -/
def State.twRelease (s : State) (t : Nat) : State :=
  let s1 := s.twInputs
  let h := s1.shuttle
  let com := h.com.forced h.prog h.forces
  let k := h.tasks.getD t {}
  let r := h.prog.tasks.getD t { entry := 0 }
  let k1 : Task := { k with
    st := 1, pick := s.warp.pickCount, tick := s.clk.tick, tclk := s.clk.otimeUs
    beatNo := (s.warp.last.map (fun b => b.count)).getD 0, first := !k.ran, ran := true, at' := s.now
    sys := [stateCode s.sys.st, roleCode s.sys.role, s.guide.mode, b2n s.clk.est, b2n s.tpValid]
    pc := r.entry, stack := [], calls := [], inst := none
    view := com.forcedInputs h.prog h.forces, dirty := [], forces := h.forces }
  { s1 with shuttle := { h with com := com, tasks := h.tasks.set t k1 } }

/-- PICK_TASK_RELEASE (R482, R484): at p+0.40 the PICK tasks whose period and phase are due; a task that owes a release
loses it. -/
def execPickTaskRelease (s : State) : Host.Outcome State Fault Refusal :=
  let s0 := s.at 400000
  .next (if s.shuttle.run && s.warp.picks && decide (s.shuttle.startPick < s.warp.pickCount) then
      (List.range s.shuttle.prog.tasks.length).foldl (fun (a : State) t =>
        let r := a.shuttle.prog.tasks.getD t { entry := 0 }
        let k := a.shuttle.tasks.getD t {}
        if r.beat ∨ a.warp.pickCount % r.m ≠ r.phase ∨ k.st = 2 then a
        else if 0 < k.owed then
          { a with shuttle := { a.shuttle with tasks := a.shuttle.tasks.set t { k with owed := k.owed - 1, lost := sat16 k.lost } } }
        else if k.st = 1 then a
        else a.twRelease t) s0
    else s)

/-- BEAT_TASK_RELEASE (R482): at b+1.50 of a started beat; without a BEAT task that can run, the bank is released at once. -/
def execBeatTaskRelease (s : State) : Host.Outcome State Fault Refusal :=
  let h := s.shuttle
  .next (match s.warp.last with
    | none => s
    | some b =>
      if !b.holders.contains .beatTask || !s.warp.run then s else
      let s0 := s.at 500000
      match (List.range h.prog.tasks.length).find? (fun t => (h.prog.tasks.getD t { entry := 0 }).beat) with
      | some t =>
        if h.run && (h.tasks.getD t {}).st == 0 && decide (h.startPick < s.warp.pickCount) then s0.twRelease t
        else s0.releaseGuide .beatTask
      | none => s0.releaseGuide .beatTask)

/-- A PICK task is running. -/
def pickRuns (e : Task × TwTask) : Bool := e.1.st == 1 && !e.2.beat

/-- CONE_SHUTTLE_OVERRUN: at p+0.70 the monitor fires while a PICK task is running (R62); with `tick`, at the pick tick that follows,
every PICK task of an earlier pick that still runs loses its next release (R484). -/
def execConeShuttleOverrun (tick : Bool) (s : State) : Host.Outcome State Fault Refusal :=
  let h := s.shuttle
  let l := List.zip h.tasks h.prog.tasks
  let late (e : Task × TwTask) : Bool := pickRuns e && decide (e.1.pick < s.warp.pickCount)
  .next (if !(h.run && l.any pickRuns) then s
    else if tick then
      { s with shuttle := { h with tasks := l.map (fun e => if late e then { e.1 with owed := e.1.owed + 1 } else e.1) } }
    else State.raise ((s.at 700000).fire 9) 0x0221000A#32)

/-- TASK_WATCHDOG (R485): a PICK task has run for W since its release. -/
def execTaskWatchdog (i : Nat) (t : Ns) (s : State) : Host.Outcome State Fault Refusal :=
  let s0 := s.at t
  .next (match s0.shuttle.tasks[i]?, s0.shuttle.prog.tasks[i]? with
    | some k, some r => if k.st = 1 ∧ !r.beat ∧ k.at' + r.wMs * 1000000 ≤ s0.now then s0.twAbort i 1 k.pc else s
    | _, _ => s)

/-- BEAT_TASK_LIMIT (R485): the BEAT task still runs at b+(N − 0.2). -/
def execBeatTaskLimit (t : Ns) (s : State) : Host.Outcome State Fault Refusal :=
  let s0 := s.at t
  let h := s0.shuttle
  .next (match (List.range h.prog.tasks.length).find? (fun j => (h.prog.tasks.getD j { entry := 0 }).beat), s0.warp.last with
    | some j, some b =>
      let k := h.tasks.getD j {}
      if k.st = 1 ∧ b.edge + s.n * 1000000 ≤ s0.now + 200000 then s0.twAbort j 2 k.pc else s
    | _, _ => s)

/-! ### SYNC (R511) -/

/-- The variables of the SYNC set: symbol and element, a built-in instance as a whole. -/
def syncElems (p : TwProg) : List (TwSym × Nat) :=
  (p.tasks.flatMap (fun t => t.sync)).flatMap (fun id => match p.syms.find? (fun y => y.id == id) with
    | some y => if y.inst.isSome then [(y, 0)] else (List.range y.count).map (fun i => (y, i))
    | none => [])

/-- Bit address and width of the values of a variable: of an instance PREV with STATEFL, then its 8-byte fields; START16 tells of the
module's own starts and is none of them (R498, R499, R511; log entry 145). -/
def syncParts (e : TwSym × Nat) : List (Nat × Nat) :=
  match e.1.inst with
  | some (len, _) => (e.1.bit + 16, 16) :: ((if 16 ≤ len then [(e.1.bit + 64, 64)] else []) ++ (if 24 ≤ len then [(e.1.bit + 128, 64)] else []))
  | none => [(e.1.bit + e.2 * tyBits e.1.ty, tyBits e.1.ty)]

/-- The values of a variable, and those values put in their places. -/
def syncRead (m : Areas) (e : TwSym × Nat) : List U64 := (syncParts e).map (fun p => m.read e.1.area p.1 p.2)
def syncPut (m : Areas) (e : TwSym × Nat) (l : List U64) : Areas :=
  (List.zip (syncParts e) l).foldl (fun (a : Areas) p => a.write e.1.area p.1.1 p.1.2 p.2) m

/-- At every beat edge the committed values of the SYNC set are captured with TCLK (R511). -/
def State.syncCapture (s : State) : State :=
  let h := s.shuttle
  if !h.run || (syncElems h.prog).isEmpty then s
  else
    let c : SyncCap := { edge := s.clk.tick, tclk := s.clk.otimeUs
                         vals := (syncElems h.prog).map (fun e => ((e.1.id, e.2), syncRead h.com e)) }
    { s with shuttle := { h with caps := (c :: h.caps).take 32, syncAge := satAdd 255 h.syncAge 1 } }

/-- The values of a variable in a capture. -/
def syncValue (c : SyncCap) (e : TwSym × Nat) : Option (List U64) :=
  (c.vals.find? (fun x => x.1 == (e.1.id, e.2))).map (fun x => x.2)
/-- The LEAD's values in the module's own time: the start time of a built-in timer is shifted by d microseconds (R511). -/
def shiftStart (e : TwSym × Nat) (d : Int) (l : List U64) : List U64 :=
  match e.1.inst, l with
  | some (_, true), a :: start :: rest => a :: twWrap 8 (twInt 8 start + d) :: rest
  | _, l => l

/-- SYNC_IMAGE_APPLY (R511): at the first beat edge after the LEAD's image is complete. -/
def execSyncImageApply (s : State) : Host.Outcome State Fault Refusal :=
  let h := s.shuttle
  .next (match h.leadSync with
    | none => s
    | some l =>
      if s.sys.role ≠ .shadow ∨ !h.run then s else
      match h.caps.find? (fun c => nearestMs c.edge == nearestMs l.edge) with
      | none => { s with shuttle := { h with leadSync := none } }
      | some c =>
        let lead (e : TwSym × Nat) : Option (List U64) := (syncValue l e).map (shiftStart e ((c.tclk : Int) - (l.tclk : Int)))
        let diff := (syncElems h.prog).filter (fun e => match syncValue c e, lead e with
          | some a, some b => a != b
          | _, _ => false)
        let com := diff.foldl (fun (m : Areas) e => syncPut m e ((lead e).getD [])) h.com
        { s with shuttle := { h with com := com, leadSync := none, corr := satAdd 65535 h.corr diff.length } })

/-! ### registers (R514 to R517) -/

/-- Free code space in bytes: the Code area less the code in use (R491, R505). -/
def State.codeFree (s : State) : Nat :=
  2097152 - 4 * (s.shuttle.prog.routines.foldl (fun n r => n + r.len) 0)

/-- SHUTTLE_TASKSTAT of a task (R516). -/
def taskStat (k : Task) (r : TwTask) : Word :=
  word (k.st + fbit 2 r.beat + fld 4 3 r.prio + fbit 8 k.divz + fbit 9 k.range + fbit 10 k.fpout
    + fld 16 10 (if r.beat then 0 else r.m))

/-- A write to SHUTTLE_TASKSEL takes the snapshot of a task (R515). -/
def State.writeTasksel (s : State) (v : Word) : State :=
  let t := v.toNat % 8
  let h := s.shuttle
  match h.prog.tasks[t]? with
  | some r =>
    let k := h.tasks.getD t {}
    { s with shuttle := { h with
        sel := word t, winStat := taskStat k r, winTime := word (k.lastUs + k.maxUs * 65536), winRel := word (k.lost + k.evsup * 65536) } }
  | none => { s with shuttle := { h with sel := word t, winStat := 0, winTime := 0, winRel := 0 } }

/-- SHUTTLE_TASKSEL_WRITE (R515). -/
def execShuttleTaskselWrite (v : Word) (s : State) : Host.Outcome State Fault Refusal := .next (s.writeTasksel v)

/-- A read of SHUTTLE_TASKSTAT clears the sticky flags that it returned, in the window and in the task itself: one set since the
window was loaded stays (R15, R515). -/
def State.clearTaskstat (s : State) : State :=
  let h := s.shuttle
  let t := h.sel.toNat
  let k := h.tasks.getD t {}
  { s with shuttle := { h with
      winStat := h.winStat &&& 0xFFFFF8FF#32
      tasks := h.tasks.set t { k with
        divz := k.divz && !h.winStat.getLsbD 8, range := k.range && !h.winStat.getLsbD 9
        fpout := k.fpout && !h.winStat.getLsbD 10 } } }
/-- SHUTTLE_TASKSTAT_READ (R515). -/
def execShuttleTaskstatRead (s : State) : Host.Outcome State Fault Refusal :=
  .next ((s.clearTaskstat).emit (.regValue 0x40110034 s.shuttle.winStat))

def State.latchProg (s : State) : State := { s with shuttle := { s.shuttle with progIdL := lo32 s.shuttle.prog.progId.toNat } }
def State.latchRet (s : State) : State := { s with shuttle := { s.shuttle with retIdL := lo32 s.shuttle.prog.retId.toNat } }
/-- SHUTTLE_PROGID_H_READ (R515). -/
def execShuttleProgidHRead (s : State) : Host.Outcome State Fault Refusal :=
  .next ((s.latchProg).emit (.regValue 0x4011000C (hi32 s.shuttle.prog.progId.toNat)))
/-- SHUTTLE_RETID_H_READ (R515). -/
def execShuttleRetidHRead (s : State) : Host.Outcome State Fault Refusal :=
  .next ((s.latchRet).emit (.regValue 0x40110014 (hi32 s.shuttle.prog.retId.toNat)))

/-- The value of a SHUTTLE register (R514, R516). -/
def State.shuttleReg (s : State) (off : Nat) : Word :=
  let h := s.shuttle
  let due := match h.agreed with
    | some (p, _, _) => decide (p ≤ s.warp.pickCount)
    | none => false
  match off with
  | 0x00 => word ((if !h.run then 0 else if due then 3 else if s.warp.pickCount ≤ h.startPick then 2 else 1)
      + fbit 2 (!h.forces.isEmpty) + fbit 3 h.change.isSome + h.kind * 16 + h.prog.tasks.length * 256
      + maskOf (fun (k : Task) => k.st == 2) h.tasks * 65536)
  | 0x04 => h.starts
  | 0x08 => h.progIdL
  | 0x0C => hi32 h.prog.progId.toNat
  | 0x10 => h.retIdL
  | 0x14 => hi32 h.prog.retId.toNat
  | 0x18 => word (h.forces.length + h.blocked * 65536)
  | 0x1C => if s.warp.picks then word s.codeFree else 0
  | 0x20 => h.fault
  | 0x24 => word (h.corr + h.syncAge * 65536)
  | 0x30 => h.sel
  | 0x34 => h.winStat
  | 0x38 => h.winTime
  | 0x3C => h.winRel
  | _ => 0

end Sys2Proof.Machine
end

