-- ==== Sys2Proof/Machine/ShuttleCmd.lean ====
section
/-! DEFINITION. The Shuttle's commands: run and stop, task restart, forces, online change (R501, R502, R504 to R508, R512). -/

namespace Sys2Proof.Machine

/-- Whose act the ledger names: a session, or the module itself (R545). -/
def State.ledgerFor (s : State) (who : Option CmdSession) (kind : Nat) (object detail : List Byte) : State :=
  match who with
  | some x => s.ledgerBy x kind object detail
  | none => s.ledger 0xFF 0 kind object detail

/-! ### forces (R501, R502, R512) -/

def forceObject (sym elem : Word) : List Byte := be32 sym.toNat ++ be32 elem.toNat
def forceDetail (f : Force) : List Byte := byteOf f.ty :: be64 f.value.toNat

/-- The force of an item. -/
def State.forceOf (s : State) (sym elem : Word) : Option Force := s.shuttle.forces.find? (fun f => f.sym == sym && f.elem == elem)

/-- The table's first entry and the removal of its last are reported (R502). -/
def State.forceEvents (s : State) (had : Bool) : State :=
  let has := !s.shuttle.forces.isEmpty
  if has && !had then s.raise 0x12200007#32 else if had && !has then s.raise 0x12000008#32 else s

/-- A force command takes effect on the table; each change has its ledger entry (R501, R502, R546). -/
def State.applyForce (s : State) (who : Option CmdSession) (o : ForceOp) : State :=
  let h := s.shuttle
  let had := !h.forces.isEmpty
  match o with
  | .put f =>
    let old := (s.forceOf f.sym f.elem).isSome
    let l := if old then h.forces.map (fun g => if g.sym == f.sym && g.elem == f.elem then f else g) else h.forces ++ [f]
    (State.ledgerFor { s with shuttle := { h with forces := l } } who (if old then 0x0011 else 0x0010) (forceObject f.sym f.elem)
      (forceDetail f)).forceEvents had
  | .clear sym elem =>
    (State.ledgerFor { s with shuttle := { h with forces := h.forces.filter (fun g => !(g.sym == sym && g.elem == elem)) } } who 0x0012
      (forceObject sym elem) []).forceEvents had
  | .clearAll =>
    (h.forces.foldl (fun (a : State) g => a.ledgerFor who 0x0012 (forceObject g.sym g.elem) [])
      { s with shuttle := { h with forces := [] } }).forceEvents had

/-- The item's symbol, and whether the element lies in it: 0xFFFF_FFFF for a scalar (R501). -/
def State.forceSym (s : State) (sym : Word) : Option TwSym := s.shuttle.prog.syms.find? (fun y => y.id == sym)
def elemIn (y : TwSym) (elem : Word) : Bool := if y.count = 1 then elem == 0xFFFFFFFF#32 else decide (elem.toNat < y.count)

/-- The 0x1xxx checks of a force command (R512). -/
def State.forceBad (s : State) (o : ForceOp) : Option Nat :=
  match o with
  | .put f =>
    (match s.forceSym f.sym with
     | none => some 0x1010
     | some y => if !elemIn y f.elem then some 0x1004 else if y.inst.isSome || y.ty != f.ty then some 0x1011 else none)
  | .clear sym elem =>
    (match s.forceSym sym with
     | none => some 0x1010
     | some y => if elemIn y elem then none else some 0x1004)
  | .clearAll => none

/-- Its state and resource checks (R512). -/
def State.forceRefusal (s : State) (op : Nat) (o : ForceOp) : Option (Nat × Nat) :=
  match o with
  | .put f => if (s.forceOf f.sym f.elem).isNone && decide (256 ≤ s.shuttle.forces.length) then some (0x4011, 0) else none
  | .clear sym elem => if (s.forceOf sym elem).isSome then none else some (0x2001, (cmdSpec op).detail)
  | .clearAll => none

/-- A force command; `mram` tells whether the ledger's commit succeeds (R547). -/
def State.forceCommand (s : State) (h : Hdr) (op : Nat) (o : ForceOp) (mram : Bool) : State :=
  s.command h (cmdSpec op) (s.forceBad o) (fun _ => none) (fun t x =>
    match t.forceRefusal op o with
    | some r => .refuse r.1 r.2
    | none => if mram then t.mirrored h op (.force o) (fun u => u.applyForce (some x) o) else .refuse 0x5002 0)

/-- FORCE_SET (R501, R512). -/
def execForceSet (h : Hdr) (sym elem : Word) (ty : Nat) (value : U64) (mram : Bool) (s : State) : Host.Outcome State Fault Refusal :=
  .next (s.forceCommand h 0x0501 (.put { sym := sym, elem := elem, ty := ty, value := value }) mram)
/-- FORCE_CLEAR (R501, R512). -/
def execForceClear (h : Hdr) (sym elem : Word) (mram : Bool) (s : State) : Host.Outcome State Fault Refusal :=
  .next (s.forceCommand h 0x0502 (.clear sym elem) mram)
/-- FORCE_CLEAR_ALL (R512): one ledger entry for each force it removes. -/
def execForceClearAll (h : Hdr) (mram : Bool) (s : State) : Host.Outcome State Fault Refusal := .next (s.forceCommand h 0x0503 .clearAll mram)

/-- An entry of FORCE_LIST: symbol, element, type, forced value, latched value (R501, R512). -/
def State.forceEntry (s : State) (f : Force) : List Byte :=
  let latched := match forceAt s.shuttle.prog f with
    | some (a, b, w) => s.shuttle.com.read a b w
    | none => 0
  be32 f.sym.toNat ++ be32 f.elem.toNat ++ [byteOf f.ty] ++ be64 f.value.toNat ++ be64 latched.toNat
/-- FORCE_LIST (R512): up to 32 entries from the first one named. -/
def execForceList (h : Hdr) (first : Nat) (s : State) : Host.Outcome State Fault Refusal :=
  .next (s.simple h 0x0504 (fun t _ =>
    .done t ((((t.shuttle.forces.drop first).take 32).map (fun f => t.forceEntry f)).flatten)))

/-! ### run, task restart (R485, R510, R512) -/

/-- SHUTTLE_RUN: 0 stop, 1 WARM, 2 COLD. A start of a running Shuttle stops it first. -/
def execShuttleRun (h : Hdr) (action : Nat) (s : State) : Host.Outcome State Fault Refusal :=
  .next (s.command h (cmdSpec 0x0230) (if action ≤ 2 then none else some 0x1004) (fun _ => none) (fun t _ =>
    let u := t.shuttleStop
    .done (if action = 0 then u else if action = 1 then u.shuttleWarm else u.shuttleStart false) []))

/-- A HALTED task is released again from its next release on. -/
def State.applyTaskRestart (s : State) (i : Nat) : State :=
  let k := s.shuttle.tasks.getD i {}
  { s with shuttle := { s.shuttle with tasks := s.shuttle.tasks.set i { k with st := 0, aborts := [], owed := 0 } } }
def State.taskRefusal (s : State) (i : Nat) : Option (Nat × Nat) :=
  if (s.shuttle.tasks.getD i {}).st = 2 then none else some (0x2001, (cmdSpec 0x0231).detail)
/-- SHUTTLE_TASK_RESTART (R512). -/
def execShuttleTaskRestart (h : Hdr) (i : Nat) (s : State) : Host.Outcome State Fault Refusal :=
  .next (s.command h (cmdSpec 0x0231) (if i < s.shuttle.prog.tasks.length then none else some 0x1004) (fun _ => none) (fun t _ =>
    match t.taskRefusal i with
    | some r => .refuse r.1 r.2
    | none => t.mirrored h 0x0231 (.taskRestart i) (fun u => u.applyTaskRestart i)))

/-! ### online change (R504 to R508) -/

/-- The signature verifies against a DRAFT anchor (R525). -/
def Sec.anchored (c : Sec) (kind : Nat) (key : Option U64) : Bool :=
  match key with
  | some k => c.anchors.any (fun a => a.kind == kind && a.keyId == k)
  | none => false

/-- A kept symbol has the same type, element count and area (R505). -/
def sameSym (a b : TwSym) : Bool :=
  a.id == b.id && a.ty == b.ty && a.count == b.count && a.area == b.area && a.inst == b.inst
def keptIn (p : TwProg) (y : TwSym) : Option TwSym := p.syms.find? (fun z => sameSym y z)
/-- A forced symbol that a program deletes or retypes. -/
def forceLost (old new : TwProg) (f : Force) : Bool :=
  match old.syms.find? (fun y => y.id == f.sym) with
  | some y => (keptIn new y).isNone
  | none => true

/-- The task table is unchanged; an entry routine may have moved (R504). -/
def sameTasks (a b : TwProg) : Bool := a.tasks.map (fun t => { t with entry := 0 }) == b.tasks.map (fun t => { t with entry := 0 })

def routineWords (p : TwProg) (r : TwRoutine) : List Word := (p.code.drop r.start).take r.len
/-- Bytes of new and changed routines (R505). -/
def newCode (old new : TwProg) : Nat :=
  4 * (new.routines.filter (fun r => !old.routines.any (fun q => routineWords old q == routineWords new r))).foldl (fun n r => n + r.len) 0

def symBytes (y : TwSym) : Nat := match y.inst with
  | some (len, _) => len
  | none => (tyBits y.ty * y.count + 7) / 8
/-- Bytes to be moved or initialised (R505, R506). -/
def migration (old new : TwProg) : Nat :=
  (new.syms.filter (fun y => match keptIn old y with
    | some z => z.bit != y.bit
    | none => true)).foldl (fun n y => n + symBytes y) 0

/-- The checks of R505 after level, state and role. -/
def State.changeRefusal (s : State) (drop : Bool) (id : U64) : Option (Nat × Nat) :=
  match s.shuttle.change with
  | none => some (0x1010, 0)
  | some c =>
    let h := s.shuttle
    firstSome [
      if c.base == h.prog.progId && sameTasks h.prog c.prog then none else some (0x2010, 0),
      if !drop && h.forces.any (fun f => forceLost h.prog c.prog f) then some (0x2011, 0) else none,
      if s.mirrors && s.pair.pStaged != some id then some (0x2012, 0) else none,
      if newCode h.prog c.prog ≤ s.codeFree then none else some (0x4010, 0),
      if migration h.prog c.prog ≤ 262144 then none else some (0x4012, 0),
      if h.agreed.isSome then some (0x4001, 0) else none]

/-- The check of the image, which comes first (R505). -/
def State.changeBad (s : State) (id : U64) : Option Nat :=
  match s.shuttle.change with
  | some c => if c.prog.progId == id && s.sec.anchored 1 c.sigKey && twProgOk c.prog then none else some 0x1010
  | none => some 0x1010

/-- The change is accepted: the switch is sought from the agreed pick on (R507, R508). -/
def State.acceptChange (s : State) (pick : Nat) (drop : Bool) (owner : Option (Nat × Word)) : State :=
  { s with shuttle := { s.shuttle with agreed := some (pick, drop, owner) } }

/-- ONLINE_CHANGE (R505): the reply waits for the switch point or the abandonment. The other flag bits are reserved (R535). -/
def execOnlineChange (h : Hdr) (flags : Nat) (id : U64) (s : State) : Host.Outcome State Fault Refusal :=
  .next (s.command h (cmdSpec 0x0430) (if flags ≤ 1 then s.changeBad id else some 0x1001) (fun _ => none) (fun t _ =>
    let drop := flags == 1
    match t.changeRefusal drop id with
    | some r => .refuse r.1 r.2
    | none =>
      if t.mirrors then t.mirrored h 0x0430 (.change drop id) (fun u => u)
      else .wait (t.acceptChange (t.warp.pickCount + 1) drop (some (h.sess, h.cseq)))))

/-- ONLINE_CHANGE_DISCARD (R512): online-change staging is emptied. -/
def execOnlineChangeDiscard (h : Hdr) (s : State) : Host.Outcome State Fault Refusal :=
  .next (s.simple h 0x0431 (fun t _ => .done { t with shuttle := { t.shuttle with change := none } } []))

/-- Bytes of a kept symbol at its new place (R506). -/
def moveSym (old : Areas) (m : Areas) (y z : TwSym) : Areas :=
  let w := tyBits z.ty
  match z.inst with
  | some (len, _) => m.put z.area (memWriteBytes (m.get z.area) (z.bit / 8) ((List.range len).map (fun i => memRead (old.get y.area) (y.bit / 8 + i))))
  | none => (List.range z.count).foldl (fun (a : Areas) i => a.write z.area (z.bit + i * w) w (old.read y.area (y.bit + i * w) w)) m

/-- The data after the switch: kept symbols keep their values, everything else has its initial value; the input image stands as latched. -/
def migrated (old new : TwProg) (com : Areas) : Areas :=
  new.syms.foldl (fun (m : Areas) z => match keptIn old z with
    | some y => moveSym com m y z
    | none => m) { progInitial new with inp := com.inp }

/-- The switch (R506, R507). -/
def State.switchProgram (s : State) (c : TwChange) (drop : Bool) (who : Option CmdSession) : State :=
  let h := s.shuttle
  let gone := if drop then h.forces.filter (fun f => forceLost h.prog c.prog f) else []
  let com := migrated h.prog c.prog h.com
  let s1 : State := { s with
    shuttle := { h with
      prog := c.prog, com := com, journal := com.ret, journalId := c.prog.retId, journalOk := true, change := none, agreed := none
      forces := h.forces.filter (fun f => !gone.contains f), caps := [], leadSync := none }
    draft := s.draft.map (fun (d : Draft) => { d with shuttle := c.prog, pair := { d.pair with print := c.print } }) }
  let s2 := gone.foldl (fun (a : State) f => a.ledgerFor who 0x0013 (forceObject f.sym f.elem) []) s1
  let s3 := if gone.isEmpty then s2 else (s2.raise 0x1223000A#32).forceEvents (!h.forces.isEmpty)
  (s3.ledgerFor who 0x0020 (be64 c.prog.progId.toNat) (be64 c.base.toNat ++ be64 c.prog.retId.toNat)).raise 0x12030009#32

/-- ONLINE_CHANGE_SWITCH (R507): the first pick tick at or after the agreed pick at which no task is running. -/
def execOnlineChangeSwitch (s : State) : Host.Outcome State Fault Refusal :=
  .next (match s.shuttle.agreed, s.shuttle.change with
    | some (p, drop, owner), some c =>
      if decide (p ≤ s.warp.pickCount) && decide (s.warp.pickCount ≤ p + 100) && s.shuttle.tasks.all (fun (k : Task) => k.st != 1) then
        let who := owner.bind (fun o => s.cmdSess o.1)
        let s1 := (s.at 0).switchProgram c drop who
        match owner with
        | some (i, q) => s1.finishWaiting i 0x0430 q 0 []
        | none => s1
      else s
    | _, _ => s)

/-- ONLINE_CHANGE_ABANDON (R507): no switch point within 100 picks of the agreed pick. -/
def execOnlineChangeAbandon (s : State) : Host.Outcome State Fault Refusal :=
  .next (match s.shuttle.agreed with
    | some (p, _, owner) =>
      if p + 100 < s.warp.pickCount then
        let s1 := State.raise { s with shuttle := { s.shuttle with agreed := none } } 0x1213000D#32
        match owner with
        | some (i, q) => s1.finishWaiting i 0x0430 q 0x2013 (be32 0)
        | none => s1
      else s
    | none => s)

end Sys2Proof.Machine
end

