-- ==== Sys2Proof/Machine/Wheel.lean ====
section
/-! DEFINITION. The Wheel: schedules, the start of a solve, its iterations and their tests, outcomes, plans, the fast
projector, DISPATCH, consequence cycles, and the WHEEL registers (R154 to R198, R252 to R256). -/

namespace Sys2Proof.Machine

/-! ### schedules (R158 to R162) -/

/-- The CRC-64 of R161: ECMA-182, reflected. -/
def crc64 (l : List Byte) : Nat :=
  glazeCheck { width := 64, refin := true, refout := true, poly := 0x42F0E1EBA9EA3693, init := 0xFFFFFFFFFFFFFFFF, xorout := 0xFFFFFFFFFFFFFFFF } l

/-- The structure fingerprint (R161). -/
def schedPrint (w : WheelSched) : Nat :=
  crc64 (([w.n, w.m, w.hSteps, w.hMs] ++ w.colP ++ w.rowP ++ w.colA ++ w.rowA).map le32).flatten

/-- Bytes 0 to 59 of a schedule's header (R159). -/
def schedHeader (w : WheelSched) : List Byte :=
  ascii "WHSC" ++ le16 w.version ++ [byteOf w.role, 0#8] ++ le32 w.n ++ le32 w.m ++ le32 w.nnzP ++ le32 w.nnzA ++ le32 w.nnzL
    ++ le16 w.nSuper ++ le16 w.hSteps ++ le32 w.hMs ++ le32 w.tSetup ++ le32 w.tIter ++ le32 w.mem ++ le64 w.fprint.toNat
    ++ le16 w.nThr ++ zeros 2

/-- The conditions of R162 and R193 on the Wheel's part of a Draft at a beat length of n ms. -/
def wheelParamOk (d : DraftWheel) (n : Nat) : Bool :=
  let within (x lo hi : F64) : Bool := fle lo x && fle x hi
  let eps (x : F64) : Bool := within x (fdiv (fofNat 1) (fofNat 1000000000)) (fdiv (fofNat 1) (fofNat 10000))
  let role (k : Nat) : Nat := countP (fun (w : WheelSched) => w.role == k) d.scheds
  let one (w : WheelSched) : Bool :=
    decide (w.version = 1 ∧ w.n ≤ 4096 ∧ w.m ≤ 8192 ∧ w.nnzP + w.nnzA ≤ 65536 ∧ w.nnzL ≤ 1048576)
      && decide (1 ≤ w.role ∧ w.role ≤ 3) && decide (1 ≤ w.nThr ∧ w.nThr ≤ 32)
      && decide (schedPrint w = w.fprint.toNat) && decide (crc32c (schedHeader w) = w.chk.toNat)
      && (if w.role = 2 then
            decide (1 ≤ w.hSteps ∧ w.hSteps ≤ 100 ∧ 0 < w.hMs ∧ w.hMs % n = 0 ∧ w.hSteps * w.hMs ≤ 600000)
          else decide (w.hSteps = 0 ∧ w.hMs = 0))
      && (w.role == 3 || decide (w.tSetup + d.cap * w.tIter ≤ (n - 4) * 1000000))
  decide (role 1 = 1 ∧ role 2 ≤ 1 ∧ role 3 ≤ 1) && d.scheds.all one
    && decide ((d.scheds.map WheelSched.mem).foldl (· + ·) 0 ≤ 12058624)
    && eps d.epsP && eps d.epsD && eps d.epsG && decide (5 ≤ d.cap ∧ d.cap ≤ 40)

/-! ### the start of a solve (R163 to R165, R173 to R177) -/

/-- The LEAD's warm-start record, for a SHADOW with its link up: usable when its ANCHOR is the SHADOW's application time of the previous
started beat and its fingerprint matches (R455). -/
def State.leadRecord (s : State) (fp : U64) : Option WarmRec :=
  match s.pair.leadWarm, s.warp.prev with
  | some r, some b =>
    if s.sys.role == .shadow && s.pair.linkUp && decide (nearestMs r.anchor = nearestMs b.edge + s.n) && r.fprint == fp then some r else none
  | _, _ => none
/-- The newer MRAM slot with a correct CRC (R176). -/
def Wheel.newestSlot (w : Wheel) : Option WarmRec :=
  let good (o : Option (Nat × WarmRec)) : Option (Nat × WarmRec) := o.filter (fun p => warmGood p.2)
  match good w.slot0, good w.slot1 with
  | some a, some b => some (if a.1 < b.1 then b.2 else a.2)
  | some a, none => some a.2
  | none, some b => some b.2
  | none, none => none

/-- For the first main solve after a restart the newer slot becomes the schedule's record (R176). -/
def Wheel.takeSlot (w : Wheel) (role : Nat) : Wheel :=
  if w.useSlots then
    { w with
      useSlots := false
      recs := match w.newestSlot with
        | some r => aset role r w.recs
        | none => w.recs }
  else w

/-- The record that a solve starts from: the schedule's own with a correct CRC; a SHADOW's is the LEAD's when usable (R173, R175,
R455). -/
def State.startRecord (s : State) (role : Nat) (fp : U64) : Option WarmRec :=
  match s.leadRecord fp with
  | some r => some r
  | none => (aget role s.wheel.recs).filter warmGood

/-- The rows' counterpart of the shift map: the row that stands for the same at the next node, itself where there is none (R173). -/
def nextRow (sc : WheelSched) (i : Nat) : Nat :=
  match sc.rows[i]? with
  | none => i
  | some r =>
    let next : RowRole := match r with
      | .avail t j y => .avail t (j + 1) y
      | .region t j k => .region t (j + 1) k
      | .wedge t j b => .wedge t (j + 1) b
      | .rate t j k => .rate t (j + 1) k
      | .power t j k => .power t (j + 1) k
      | .bus b j => .bus b (j + 1)
      | .slackPos b j => .slackPos b (j + 1)
      | .demand k => .demand k
      | .dynamics j k => .dynamics (j + 1) k
      | .initial k => .initial k
    let k := sc.rows.idxOf next
    if k < sc.rows.length then k else i

/-- A list of a record's values shifted by the fraction f along a map (R173). -/
def shiftVals (f : F64) (next : Nat → Nat) (k : Nat) (l : List F64) : List F64 :=
  (List.range k).map (fun i => fadd (fmul (fsub (fofNat 1) f) (l.getD i 0)) (fmul f (l.getD (next i) 0)))

/-- The starting point that a record gives after Δt (R173). -/
def warmPoint (q : Qp) (sc : WheelSched) (r : WarmRec) (dt : Nat) : IpPoint :=
  let f := if sc.role = 2 then fdiv (fofNat dt) (fofNat (sc.hMs * 1000000)) else 0
  q.warm (shiftVals f (fun i => sc.shift.getD i i) sc.n r.x) (shiftVals f (nextRow sc) sc.m r.lamL)
    (shiftVals f (nextRow sc) sc.m r.lamU) r.mu

/-- The application time of the beat in progress (R72). -/
def State.applyTime (s : State) : Nat := s.nextEdgeOr

/-- Δt of R173: the application time less ANCHOR, in ns. Ticks count by whole beats (R58): both times are those of beat edges, taken to
the nearest millisecond. -/
def warmDelta (apply anchor : Nat) : Int := (((nearestMs apply : Nat) : Int) - ((nearestMs anchor : Nat) : Int)) * 1000000

/-- The starting point of a solve: warm, cold without a record, or cold for another structure (R173 to R177). -/
def State.solveBegin (s : State) (sc : WheelSched) (v : QpVals) : State :=
  let w := s.wheel.takeSlot sc.role
  let q := (qpOf sc v).scaled
  let base : Solve := { role := sc.role, start := s.now, vals := v, pt := q.cold }
  let adopt := (s.leadRecord sc.fprint).isSome
  let s1 : State := { s with
    wheel := w
    pair := { s.pair with wsAdopt := if adopt then sat16 s.pair.wsAdopt else s.pair.wsAdopt } }
  match s1.startRecord sc.role sc.fprint with
  | none => { s1 with wheel := { w with aged := sat16 w.aged, solve := some base } }
  | some r =>
    if r.fprint ≠ sc.fprint then
      State.raise { s1 with wheel := { w with
        mismatch := sat16 w.mismatch, recs := adel sc.role w.recs, solve := some { base with coldMis := true } } } 0x05130002#32
    else
      let dt := warmDelta s.applyTime r.anchor
      let lim := if sc.role = 2 then sc.hMs * 1000000 else 1000000000
      if dt < 0 ∨ (lim : Int) < dt then { s1 with wheel := { w with aged := sat16 w.aged, solve := some base } }
      else { s1 with wheel := { w with solve := some { base with warm := true, pt := warmPoint q sc r dt.toNat } } }

/-! ### outcomes (R178 to R187) -/

/-- The thresholds of R179. -/
def acceptable (st : WheelStep) : Bool := fle st.rp (fofRat 1 1000) && fle st.gap (fofRat 1 100)

/-- The plan that a solution gives through the thruster map (R160, R181). -/
def planOf (sc : WheelSched) (apply : Nat) (x : List F64) : WheelPlan :=
  let at' (i : Nat) : F64 := if i = 0xFFFF then 0 else x.getD i 0
  { apply := apply, hMs := sc.hMs, nodes := sc.thrMap.map (fun l => l.map (fun p => (at' p.1, at' p.2))) }

/-- The plan of a FALLBACK outcome: the previous plan at the new node times, or the commands in force, held (R181). -/
def State.fallbackPlan (s : State) (apply : Nat) : WheelPlan :=
  let mirrored := s.sys.role == .shadow && s.pair.linkUp && s.pair.leadPlan.isSome
  let prev := if mirrored then s.pair.leadPlan else s.wheel.plan
  match prev with
  | some p =>
    { apply := apply, hMs := p.hMs
      nodes := (List.zip (List.range p.nodes.length) p.nodes).map (fun e =>
        (List.range e.2.length).map (fun j => planAt p e.1 (apply + j * p.hMs * 1000000))) }
  | none => { apply := apply, hMs := 0, nodes := s.thrIds.map (fun t => [(s.thr t).cmd]) }

/-- The image of the beat in progress, if GUIDE wrote one. -/
def State.beatImage (s : State) : Option Image :=
  match s.alloc.image with
  | some m => if m.edge = s.beatEdge then some m else none
  | none => none

/-- The power that the projector holds an island to (R182, R237). -/
def State.projLimit (s : State) (lead : Nat) : F64 :=
  match s.beatImage with
  | some m =>
    if m.dead.getLsbD lead then 0
    else (match (m.bus.getD 0 []).getD lead none with
      | some v => v
      | none => s.pAlloc lead s.applyTime)
  | none => if s.plant.dead.getLsbD lead then 0 else s.pAlloc lead s.applyTime

/-- The fast projector on the first-step allocation (R182): forces and PFLAGS by thruster, and whether a step moved it far. Step 5
moved a thruster far when its power fell by more than 0.1 % of its island's. -/
def State.project32 (s : State) (f : List V2) : List (V2 × Nat × Bool) :=
  let isl := match s.beatImage with
    | some m => m.island
    | none => s.plant.island
  let l := (List.zip s.thrIds s.thrRecs).map (fun e =>
    let x := s.thr e.1
    (e.2, projectThr e.2 (x.cause == 0) s.n x.cmd x.az0 (f.getD e.1 (0, 0))))
  let leads := (l.map (fun p => isl.getD p.1.sect p.1.sect)).eraseDups
  let factor (lead : Nat) : F64 :=
    scaleFactor ((l.filter (fun p => isl.getD p.1.sect p.1.sect == lead)).map (fun p => (p.1, p.2.1))) (s.projLimit lead)
  let ks := leads.map (fun i => (i, factor i))
  l.map (fun p =>
    let lead := isl.getD p.1.sect p.1.sect
    let k := ((ks.find? (fun e => e.1 == lead)).map Prod.snd).getD (fofNat 1)
    let g := v2scale k p.2.1
    if feq k (fofNat 1) then p.2
    else (g, p.2.2.1 + fbit 4 (!v2eq g p.2.1),
      p.2.2.2 || farBy (fsub (powerOf p.1 p.2.1) (powerOf p.1 g)) (s.projLimit lead)))

/-- The outcome record (R183). -/
def outcomeBytes (beat apply status role iter wflags startUs endUs : Nat) (rp rd gap : F32) (fp : U64)
    (l : List (V2 × Nat)) : List Byte :=
  let body := le64 beat ++ le64 apply ++ [byteOf status, byteOf role, byteOf iter, byteOf wflags] ++ le16 startUs ++ le16 endUs
    ++ le32 rp.toNat ++ le32 rd.toNat ++ le32 gap.toNat ++ le64 fp.toNat ++ [byteOf l.length] ++ zeros 3
    ++ (l.map (fun p => leF32 p.1.1 ++ leF32 p.1.2 ++ le16 p.2 ++ zeros 2)).flatten
  body ++ le32 (crc32c body)

/-- An outcome is decided (R179 to R187): plan, projector, counters, events, warm-start record and outcome record. -/
def State.outcome (s : State) (status : Nat) : State :=
  let w := s.wheel
  let apply := s.applyTime
  let sv := w.solve
  let role := match sv with
    | some v => v.role
    | none => s.solveRole
  let sc := s.sched role
  let last := match sv with
    | some v => v.last
    | none => none
  let fall := decide (8 ≤ status)
  let plan := match last, sc with
    | some st, some c => if fall then s.fallbackPlan apply else planOf c apply st.x
    | _, _ => s.fallbackPlan apply
  let node0 := plan.nodes.map (fun l => l.headD (0, 0))
  let proj := s.project32 node0
  let moved := proj.filter (fun e => e.2.2)
  let f32 (g : WheelStep → F64) : F32 := match last with
    | some st => f64to32 (g st)
    | none => 0
  let fp := (sc.map WheelSched.fprint).getD 0
  let startUs := match sv with
    | some v => ((v.start - s.beatEdge) / 1000) % 65536
    | none => 0xFFFF
  let endUs := ((s.now - s.beatEdge) / 1000) % 65536
  let iter := (sv.map Solve.iter).getD 0
  let warm := (sv.map Solve.warm).getD false
  let wflags := fbit 0 warm + fbit 1 w.wdeg + fbit 2 ((sv.map Solve.coldMis).getD false) + fbit 3 ((sv.map Solve.pivot).getD false)
  let beat := match s.warp.last with
    | some b => b.count
    | none => 0
  let newRec : Option WarmRec := match last, sc with
    | some st, some c => if fall then none else some (warmSeal {
        role := role, fprint := c.fprint, beat := beat, anchor := apply, n := c.n, m := c.m, status := status, iter := iter
        mu := st.mu, x := st.x, lamL := st.lamL, lamU := st.lamU })
    | _, _ => none
  let acc := decide (2 ≤ status ∧ status ≤ 4)
  let s1 : State := { s with
    wheel := { w with
      status := status, sched := role, iter := iter, warm := warm, startUs := startUs, endUs := endUs
      rp := f32 WheelStep.rp, rd := f32 WheelStep.rd, gap := f32 WheelStep.gap
      fp := fp, dimN := (sc.map WheelSched.n).getD 0, dimM := (sc.map WheelSched.m).getD 0
      fnz := (sc.map WheelSched.nnzL).getD 0
      missRun := if fall then satAdd 255 w.missRun 1 else 0
      missSafe := fall && w.missSafe
      cleanRun := if fall then 0 else if w.wdeg then w.cleanRun + 1 else 0
      missCnt := if fall then sat32 w.missCnt else w.missCnt
      accCnt := if acc then sat32 w.accCnt else w.accCnt
      projCnt := satAdd 0xFFFFFFFF w.projCnt moved.length
      recs := match newRec with
        | some r => aset role r w.recs
        | none => w.recs
      solves := w.solves + 1
      copyDue := w.copyDue || (decide (0 < w.solves) && w.solves % 100 == 0)
      plan := some { plan with nodes := List.zipWith (fun (l : List V2) (p : V2 × Nat × Bool) => p.1 :: l.drop 1) plan.nodes proj }
      solve := none
      residue := 0, residueReg := w.residueReg ||| w.residue, faultReg := w.fault, conseqReg := s.alloc.cqActive
      node0 := proj.map Prod.fst, pflags := proj.map (fun p => p.2.1)
      record := outcomeBytes beat apply status role iter wflags startUs endUs (f32 WheelStep.rp) (f32 WheelStep.rd)
        (f32 WheelStep.gap) fp (proj.map (fun p => (p.1, p.2.1))) }
    warp := { s.warp with stage := .solved, last := s.warp.last.map (fun b => b.release .solve) } }
  if acc then s1.raise 0x05110008#32 else if fall then s1.raise 0x05210003#32 else s1

/-- A solve that ends at the deadline, the cap or a numeric stop tests its last completed iterate (R179). -/
def State.outcomeBy (s : State) (accCode : Nat) : State :=
  let ok := match s.wheel.solve with
    | some v => (match v.last with
      | some st => acceptable st
      | none => false)
    | none => false
  s.outcome (if ok then accCode else accCode + 6)

/-- The event of a schedule other than that of the last started beat (R164). -/
def State.schedChange (s : State) : State :=
  if s.wheel.sched ≠ 0 ∧ s.wheel.sched ≠ s.solveRole then s.raise 0x05000001#32 else s

/-- SOLVE starts: the data image is read and judged, then the starting point is formed (R56, R163 to R165, R173 to R177). -/
def State.solveStart (s : State) : State :=
  let s1 := s.schedChange
  match s1.sched s.solveRole with
  | none => s1.outcome 0xC
  | some sc =>
    let v := (s1.beatImage.map Image.vals).getD {}
    let s2 : State := { s1 with warp := { s1.warp with stage := .solving } }
    if s1.beatImage.isSome && valsOk v then s2.solveBegin sc v
    else
      (State.raise { s2 with wheel := { s2.wheel with solve := some { role := sc.role, start := s.now } } } 0x05220009#32).outcome 0xC

/-- An engine fault through an uncorrectable ECC error (R191): outcome FB_ENGINE, Loom fault. -/
def State.eccFault (s : State) (e : Fin 8) : State :=
  (State.raise { s with wheel := { s.wheel with fault := s.wheel.fault ||| BitVec.ofNat 8 (2 ^ e.val) } } 0x0544000B#32
    [byteOf e.val])

/-- The end of a main solve through an engine fault (R191). -/
def State.engineEnd (s : State) : State := (s.outcome 0xE).loomFault

/-- SOLVE_START (R165), t ns after the tick: GUIDE and the beat task are complete and b+2.00 has come. A consequence solve in progress
is pre-empted (R71): it goes on from its last completed iterate when the Wheel is idle again, which leaves its result as it is. `ecc`:
the engine that met an uncorrectable ECC error in the setup phase. -/
def execSolveStart (ecc : Option (Fin 8)) (t : Ns) (s : State) : Host.Outcome State Fault Refusal :=
  let s0 := s.at t
  let w := s0.warp
  let free := match w.last with
    | some b => !b.guiding
        && decide (b.edge + 2000000 ≤ s0.now) && decide (w.pickCount < b.pick + (s.n - 2))
    | none => false
  .next (if w.run && w.stage == .guided && free then
      let s1 := s0.solveStart
      match ecc with
      | some e => if s1.warp.stage == .solving then (s1.eccFault e).engineEnd else (s1.eccFault e).loomFault
      | none => s1
    else s)

/-! ### iterations (R166 to R169, R188 to R191) -/

/-- A residue mismatch in engine e (R191): its event, or an engine fault. -/
def State.residueHit (s : State) (e : Nat) : State × Bool :=
  let w := s.wheel
  let second := (w.solve.map Solve.residue).getD false
  let soon := match aget e w.lastResidue with
    | some t => decide (s.now < t + 1000000000)
    | none => false
  let bit : BitVec 8 := BitVec.ofNat 8 (2 ^ e)
  let w1 : Wheel := { w with
    residue := w.residue ||| bit, lastResidue := aset e s.now w.lastResidue
    solve := w.solve.map (fun v => { v with residue := true }) }
  if second || soon then
    (State.raise { s with wheel := { w1 with fault := w1.fault ||| bit } } 0x0544000B#32 [byteOf e], true)
  else (State.raise { s with wheel := w1 } 0x0514000C#32 [byteOf e], false)

/-- The mismatches of an iteration in order, until one is an engine fault; then an uncorrectable ECC error, if one was met. -/
def State.residueHits (s : State) : List (Fin 8) → Option (Fin 8) → State × Bool
  | [], none => (s, false)
  | [], some e => (s.eccFault e, true)
  | e :: l, ecc =>
    let (s1, bad) := s.residueHit e.val
    if bad then (s1, true) else s1.residueHits l ecc

/-- The infeasibility certificate of R169. -/
def certified (st : WheelStep) : Bool :=
  let tol := fdiv st.certY (fofNat 10000000)
  fle st.certA tol && flt st.certSum (fneg tol)

/-- A completed iteration is taken and tested in the order of R169. -/
def State.iterate (s : State) (d : DraftWheel) (v : Solve) (pt : IpPoint) (st : WheelStep) : State :=
  let small := if flt st.alpha (fofRat 1 1000000) then v.smallRun + 1 else 0
  let v1 : Solve := { v with iter := v.iter + 1, pt := pt, last := some st, smallRun := small }
  let s1 : State := { s with wheel := { s.wheel with solve := some v1 } }
  if fle st.rp d.epsP && fle st.rd d.epsD && fle st.gap d.epsG then s1.outcome 1
  else if certified st then (s1.raise 0x0522000A#32).outcome 0xB
  else if d.cap ≤ v1.iter then s1.outcomeBy 3
  else if decide (3 ≤ small) || flt (fofNat 1000000000000) st.normX then s1.outcomeBy 4
  else s1

/-- What a factorization adds to the counters, and the event of a beat's first replacement (R188, R189). -/
def State.countPivots (s : State) (o : IpOut) (first : Bool) : State :=
  let w := s.wheel
  let s1 : State := { s with wheel := { w with
    pivCnt := satAdd 0xFFFF w.pivCnt o.pivots, refac := satAdd 0xFFFF w.refac o.refac } }
  if first && decide (0 < o.pivots) then s1.raise 0x05120007#32 else s1

/-- An iteration of the main solve (R166 to R169) with what its factorization met (R188 to R191). -/
def State.wheelStep (s : State) (d : DraftWheel) (sc : WheelSched) (v : Solve) (residues : List (Fin 8)) (ecc : Option (Fin 8)) :
    State :=
  let q := qpOf sc v.vals
  let o := q.scaled.iteration sc.perm v.raised v.pt
  let v0 : Solve := { v with pivot := v.pivot || decide (0 < o.pivots), raised := o.raised }
  let s1 := State.countPivots { s with wheel := { s.wheel with solve := some v0 } } o (!v.pivot)
  let (s2, bad) := s1.residueHits residues ecc
  if bad then s2.engineEnd
  else
    let v1 := s2.wheel.solve.getD v0
    match o.next with
    | none => s2.outcomeBy 4
    | some (pt, al, dir) => s2.iterate d v1 pt (measure q q.scaled pt al dir)

/-- WHEEL_ITERATION (R169): the iteration whose update is written at t ns after the tick, not later than the deadline (R178), and
the engines that met residue mismatches and an uncorrectable ECC error in it. -/
def execWheelIteration (residues : List (Fin 8)) (ecc : Option (Fin 8)) (t : Ns) (s : State) : Host.Outcome State Fault Refusal :=
  let s0 := s.at t
  let w := s0.warp
  let inTime := match w.last with
    | some b => decide (w.pickCount < b.pick + (s.n - 2)) || (w.pickCount == b.pick + (s.n - 2) && t == 0)
    | none => false
  .next (match s0.wheel.solve, s0.draft, s0.sched s0.solveRole with
    | some v, some d, some sc =>
      if w.run && w.stage == .solving && inTime then s0.wheelStep d.wheel sc v residues ecc else s
    | _, _, _ => s)

/-! ### DISPATCH (R68, R250, R252, R432, R567) -/

/-- What DISPATCH makes of one thruster: its command, and whether it lifts the cap. -/
def State.dispatchForce (s : State) (t : Nat) (fall : Bool) (start : Option Nat) : V2 × Bool :=
  let x := s.thr t
  let f := s.wheel.node0.getD t (0, 0)
  match x.cap with
  | none => (f, false)
  | some c =>
    let lifts := !fall && (match start with
      | some t0 => decide (c.raised + 50000 < t0)
      | none => false)
    if lifts then (f, true)
    else
      let m := v2norm f
      (if flt c.f m then v2scale (fdiv c.f m) f else f, false)

/-- The azimuth of a command: of a zero force the last commanded one; 0 for a tunnel thruster (R265, R567). -/
def State.azimuthOf (s : State) (t : Nat) (r : ThrRec) (f : V2) : F64 :=
  if r.azi then (if v2zero f then (s.thr t).lastAz else Config.fatan2 f.2 f.1) else 0

/-- The beat command payload of a thruster (R567). -/
def State.beatPayload (s : State) (t : Nat) (r : ThrRec) (f : V2) (lifts fall : Bool) (apply beat : Nat) : List Byte :=
  let x := s.thr t
  let az := s.azimuthOf t r f
  let cap := if lifts then capRecord t false x.capSeq none else capRecord t false x.capSeq x.cap
  byteOf t :: byteOf (b2n fall + b2n (s.wheel.pflags.getD t 0 != 0) * 2 + b2n r.sync * 4) :: zeros 2 ++ be64 apply ++ be64 beat
    ++ beF32 f.1 ++ beF32 f.2 ++ be32 (if r.azi then (radToBam az).toNat else 0)
    ++ beF32 (if r.azi then v2norm f else f.2) ++ cap

/-- DISPATCH of the beat whose outcome stands (R252): commands, slot setpoints, beat telegrams and Kiln copies. -/
def State.dispatch (s : State) (start : Option Nat) : State :=
  let fall := decide (8 ≤ s.wheel.status)
  let apply := s.applyTime
  let beat := match s.warp.last with
    | some b => b.count
    | none => 0
  -- a new LEAD dispatches no beat whose application time the partner has already dispatched (R467)
  let stale := decide (s.pair.partnerLast ≠ 0 ∧ nearestMs apply ≤ nearestMs s.pair.partnerLast)
  -- the first beat dispatched is the one that starts with the entry or after a takeover (R53, R464)
  let live := match s.warp.last with
    | some b => b.live
    | none => false
  let send := s.drives && live && !stale
  let l := (List.zip s.thrIds s.thrRecs).map (fun e => (e.1, e.2, s.dispatchForce e.1 fall start))
  let hold := send || s.sys.role == .shadow
  let s1 := l.foldl (fun (a : State) e =>
    let x := a.thr e.1
    let b := if hold then a.setThr e.1 { x with
        next := some (e.2.2.1, apply, e.2.2.2), lift := if e.2.2.2 then some x.capSeq else none } else a
    match e.2.1.slot with
    | some k =>
      let q := (aget k b.loop.slots).getD {}
      let f := if e.2.1.azi then v2norm e.2.2.1 else e.2.2.1.2
      let az := s.azimuthOf e.1 e.2.1 e.2.2.1
      if hold then { b with loop := { b.loop with slots := aset k { q with next := some (f, az, apply) } b.loop.slots } } else b
    | none => b) s
  let frames := l.filterMap (fun e => match e.2.1.slot with
    | some _ => none
    | none => some (e.2.1.sess, 1, s.beatPayload e.1 e.2.1 e.2.2.1 e.2.2.2 fall apply beat))
  let copies : List KilnCopy := l.map (fun e =>
    let x := s.thr e.1
    { thr := e.1, fx := f64to32 e.2.2.1.1, fy := f64to32 e.2.2.1.2, apply := apply, beat := beat
      cap := if e.2.2.2 then none else x.cap.map (fun c => (f64to32 c.f, x.capSeq)), disp := send })
  let (s2, out) := if send then s1.driveFrames frames else (s1, [])
  { s2 with
    warp := { s2.warp with
      txBeat := s2.warp.txBeat ++ out, stage := .dispatched
      last := s2.warp.last.map (fun b => b.release .dispatch) }
    copies := s2.copies ++ [copyMsg (s2.copySeq + 1) copies], copySeq := s2.copySeq + 1
    pair := { s2.pair with lastApply := if send then apply else s2.pair.lastApply } }

/-- The deadline cuts a solve off: the mismatches and the ECC error of the iteration in progress count; without an engine fault the last
completed iterate is tested (R178, R179, R191). -/
def State.cutSolve (s : State) (residues : List (Fin 8)) (ecc : Option (Fin 8)) : State :=
  let (s1, bad) := s.residueHits residues ecc
  if bad then s1.engineEnd else s1.outcomeBy 2

/-- CONE_SOLVE_DEADLINE (R178) at b+(N − 2.0): the engines stop, the outcome is decided, DISPATCH runs; `residues` and `ecc` are what the
abandoned iteration met, `sent` of the telegrams are on the wire before Cone monitor 4 looks. -/
def execConeSolveDeadline (residues : List (Fin 8)) (ecc : Option (Fin 8)) (sent : Nat) (s : State) : Host.Outcome State Fault Refusal :=
  let s0 := s.at 0
  let w := s0.warp
  let due := match w.last with
    | some b => w.run && b.pick + (s.n - 2) == w.pickCount && decide (w.stage.num < 8)
    | none => false
  .next (if due then
      let start := w.last.bind (fun b => match s0.wheel.solve with
        | some v => some v.start
        | none => if w.stage == .solved then some (b.edge + s0.wheel.startUs * 1000) else none)
      let s1 := if w.stage == .solved then s0
        else
          let f := s0.fire 3
          if w.stage == .solving then f.cutSolve residues ecc else f.schedChange.outcome 0xD
      (s1.dispatch start).sendBeat sent
    else s)

/-! ### the degraded mode (R185 to R187) and the MRAM copy (R176) -/

/-- WHEEL_DEGRADED_ENTRY (R185). -/
def execWheelDegradedEntry (s : State) : Host.Outcome State Fault Refusal :=
  .next (if s.warp.run && decide (3 ≤ s.wheel.missRun) && !s.wheel.wdeg then
      (State.raise { s with wheel := { s.wheel with wdeg := true, cleanRun := 0 } } 0x05310004#32).setDeg 1
    else s)

/-- WHEEL_DEGRADED_END (R186). -/
def execWheelDegradedEnd (s : State) : Host.Outcome State Fault Refusal :=
  .next (if s.warp.run && s.wheel.wdeg && decide (100 ≤ s.wheel.cleanRun) then
      (State.raise { s with wheel := { s.wheel with wdeg := false, cleanRun := 0 } } 0x05010005#32).clearDeg 1
    else s)

/-- WHEEL_MISS_SAFE (R187): once per run of FALLBACK outcomes. -/
def execWheelMissSafe (s : State) : Host.Outcome State Fault Refusal :=
  .next (if s.warp.run && decide (20 ≤ s.wheel.missRun) && !s.wheel.missSafe then
      (State.raise { s with wheel := { s.wheel with missSafe := true } } 0x05410006#32).enterSafe 3
    else s)

/-- The record of the schedule of the last main solve goes to the next MRAM slot (R176). -/
def State.copyRecord (s : State) : State :=
  let w := s.wheel
  match aget w.sched w.recs with
  | some r =>
    { s with wheel := { w with
        copyDue := false, slotSeq := w.slotSeq + 1
        slot0 := if w.slotSeq % 2 = 0 then some (w.slotSeq, r) else w.slot0
        slot1 := if w.slotSeq % 2 = 0 then w.slot1 else some (w.slotSeq, r) } }
  | none => { s with wheel := { w with copyDue := false } }

/-- WHEEL_RECORD_COPY (R176). -/
def execWheelRecordCopy (s : State) : Host.Outcome State Fault Refusal :=
  .next (if s.warp.run && s.wheel.copyDue then s.copyRecord else s)

/-! ### consequence analysis (R192, R253 to R256) -/

/-- The scenarios of a Draft: those listed, or one per bus section (R253). -/
def State.scenarios (s : State) : List Scenario :=
  match s.draft with
  | none => []
  | some d =>
    if d.alloc.scenarios.isEmpty then (List.range (min 8 d.plant.sects.length)).map (fun i => { sects := [i] })
    else d.alloc.scenarios

/-- The schedule of consequence solves: the consequence schedule, or the allocation-only one (R158, R192). -/
def State.conseqSched (s : State) : Option WheelSched :=
  match s.sched 3 with
  | some w => some w
  | none => s.sched 1

/-- The data image of one scenario: that of the beat with the changes of R254. -/
def State.scenImage (s : State) (d : Draft) (im : Image) (c : Scenario) : Image :=
  let r := d.plant
  let failed (t : Nat) : Bool := c.thr.contains t || (match s.thrRec t with
    | some x => c.sects.contains x.sect
    | none => false)
  let ties := (s.plant.closedTies r).filter (fun p => !c.sects.contains p.1 && !c.sects.contains p.2)
  let isl := islandsOf r.sects.length ties
  let on (g : Nat) : Bool := s.plant.online.getLsbD g && !c.gens.contains g && (match r.gens[g]? with
    | some x => !c.sects.contains x.sect
    | none => false)
  let bus := (List.range r.sects.length).map (fun i =>
    if isl.getD i i == i && !c.sects.contains i then
      some (s.plant.limits r on (fun x => isl.getD x x == i && !c.sects.contains x)).1
    else none)
  let half := fmul fpi (fofRat 1 2)
  let one (e : Nat × ThrRec × ThrImg) : ThrImg :=
    let a := (s.thr e.1).az0
    let free := freeTurn e.2.1 a
    let x := e.2.2
    { x with
      lo := if failed e.1 then (0, 0) else x.lo, hi := if failed e.1 then (0, 0) else x.hi
      wedge := if e.2.1.azi then [wedgeNormals a (fneg (fmin half free.2), fmin half free.1)] else [] }
  let new : Image := { im with
    role := 3, thr := (List.zip s.thrIds (List.zip s.thrRecs im.thr)).map one, bus := [bus], island := isl
    demand := v3scale (fneg d.alloc.mc) (s.disturb s.estHdg), rateFree := true, vals := {} }
  match s.conseqSched with
  | some w => { new with vals := fillVals d w new }
  | none => new

/-- The results of a finished cycle are published with their events (R255, R256, R259). -/
def State.cycleEnd (s : State) (res : List CqRes) : State :=
  let a := s.alloc
  let old := a.cqRes
  let new := (List.range 8).map (fun i => res.getD i {})
  let fresh := (List.zip old new).filter (fun p => p.1.result != 2 && p.2.result == 2)
  let had := old.any (fun r => r.result == 2)
  let has := new.any (fun r => r.result == 2)
  let inc := new.any (fun r => r.result == 3)
  let s1 : State := { s with
    alloc := { a with
      cqRes := new, cqCycles := (a.cqCycles + 1) % 65536, cqN := res.length, cqActive := false, cqImgs := [], cqDone := [] }
    warp := { s.warp with bgConseq := s.warp.bgConseq || inc } }
  let s2 := fresh.foldl (fun (t : State) _ => t.raise 0x06290005#32) s1
  let s3 := if had && !has then s2.raise 0x06090006#32 else s2
  if inc then s3.raise 0x06190007#32 else s3

/-- CONSEQUENCE_CYCLE_START (R253): at a started beat whose count is a multiple of 60; scenarios of the cycle before that
have not finished are NOT_EVAL. -/
def execConsequenceCycleStart (s : State) : Host.Outcome State Fault Refusal :=
  let due := match s.warp.last with
    | some b => s.warp.run && b.count % 60 == 0 && s.beatImage.isSome
    | none => false
  .next (match s.draft with
    | none => s
    | some d =>
      if due then
        let a := s.alloc
        let s1 := if a.cqActive then
            s.cycleEnd (a.cqDone ++ List.replicate (a.cqImgs.length) { result := 3 })
          else s
        let imgs := (s1.scenarios).map (fun c => s1.scenImage d (s1.beatImage.getD { role := 1, edge := 0, thr := [], bus := [] }) c)
        { s1 with alloc := { s1.alloc with cqActive := !imgs.isEmpty, cqImgs := imgs, cqDone := [] } }
      else s)

/-- A percentage in 0.1 %, saturating (R260). -/
def tenths (x : F64) : Nat := (frintClamp (fmul x (fofNat 1000)) 0 4095).toNat

/-- What a consequence solve comes to: its status code of R180, its last completed iterate, and the replacements and repetitions of its
factorizations (R188, R189, R192). -/
structure ConseqOut where
  status : Nat
  last : Option WheelStep
  pivots : Nat
  refac : Nat

/-- A consequence solve from a point, with iterations left to the cap: to OPTIMAL, to the cap or to a numeric stop (R192). -/
def conseqRun (d : DraftWheel) (sc : WheelSched) (q : Qp) : Nat → Nat → Nat → IpPoint → ConseqOut → ConseqOut
  | 0, _, _, _, o => { o with status := 3 }
  | k + 1, raised, small, pt, o =>
    let it := q.scaled.iteration sc.perm raised pt
    let o1 : ConseqOut := { o with pivots := o.pivots + it.pivots, refac := o.refac + it.refac }
    match it.next with
    | none => { o1 with status := 4 }
    | some (p, al, dir) =>
      let st := measure q q.scaled p al dir
      let o2 : ConseqOut := { o1 with last := some st }
      let sm := if flt st.alpha (fofRat 1 1000000) then small + 1 else 0
      if fle st.rp d.epsP && fle st.rd d.epsD && fle st.gap d.epsG then { o2 with status := 1 }
      else if certified st then { o2 with status := 0xB }
      else if k = 0 then { o2 with status := 3 }
      else if decide (3 ≤ sm) || flt (fofNat 1000000000000) st.normX then { o2 with status := 4 }
      else conseqRun d sc q k it.raised sm p o2

/-- The consequence solve of a scenario: from the record of the beat's main solve when its fingerprint matches, else cold; an iterate
that is not optimal is tested under R179 (R192). -/
def State.conseqSolve (s : State) (d : DraftWheel) (sc : WheelSched) (im : Image) : ConseqOut :=
  let q := qpOf sc im.vals
  let z := q.scaled
  let none' : ConseqOut := { status := 0xC, last := none, pivots := 0, refac := 0 }
  if valsOk im.vals then
    let pt := match (aget s.wheel.sched s.wheel.recs).filter (fun r => warmGood r && r.fprint == sc.fprint) with
      | some r => warmPoint z sc r 0
      | none => z.cold
    let o := conseqRun d sc q d.cap 0 0 pt none'
    if o.status = 3 ∨ o.status = 4 then
      if (o.last.map acceptable).getD false then o else { o with status := o.status + 6 }
    else o
  else none'

/-- The value of x at the variables that a test picks out, by what they stand for. -/
def varsAt (sc : WheelSched) (x : List F64) (p : VarRole → Bool) : List F64 :=
  ((List.zip sc.vars x).filter (fun e => p e.1)).map Prod.snd

/-- The result of a scenario (R255). DESIGN CHOICE (log entry 132): a slack of an axis without demand is no deficit. -/
def scenResult (tolc : F64) (c : ImgCtx) (sc : WheelSched) (o : ConseqOut) : CqRes :=
  let x := (o.last.map WheelStep.x).getD []
  let slack (k : Nat) : F64 := fabs (fsum (varsAt sc x (fun v => v == .demandSlack k)))
  let tau (k : Nat) : F64 := fabs (v3at c.im.demand k)
  let okS := [0, 1, 2].all (fun k => fle (slack k) (fmax (fmul tolc (tau k)) (fofNat (if k = 2 then 1000000 else 1000))))
  let part (k : Nat) : F64 := if feq (tau k) 0 then 0 else fdiv (slack k) (tau k)
  let bus := (varsAt sc x (fun v => match v with
    | .busSlack _ _ => true
    | _ => false)).all (fun v => fle v (fofNat 1))
  let power (b : Nat) : F64 := fsum (varsAt sc x (fun v => match v with
    | .power t _ => c.member b t
    | _ => false))
  let lims := c.im.bus.headD []
  let util := ((List.zip (List.range lims.length) lims).map (fun e => match e.2 with
    | some p => if flt 0 p then fdiv (power e.1) p else 0
    | none => 0)).foldl fmax 0
  { result := if 8 ≤ o.status ∨ o.status = 0 then 3 else if okS && bus then 1 else 2
    deficit := tenths (fmax (part 0) (fmax (part 1) (part 2))), util := tenths util }

/-- The Wheel is idle: no main solve runs (R71). -/
def State.wheelIdle (s : State) : Bool := s.warp.stage != .solving

/-- CONSEQUENCE_SCENARIO_END (R255): the first scenario not yet finished ends, in the Wheel's idle time; with the last one the cycle
completes. `residues` and `ecc` are what the engines met; an engine fault leaves the scenario without a result (R191, R192). -/
def execConsequenceScenarioEnd (residues : List (Fin 8)) (ecc : Option (Fin 8)) (s : State) : Host.Outcome State Fault Refusal :=
  .next (match s.alloc.cqImgs, s.draft, s.conseqSched with
    | im :: rest, some d, some sc =>
      if s.alloc.cqActive && s.wheelIdle then
        let o := s.conseqSolve d.wheel sc im
        let w := s.wheel
        let s1 : State := { s with wheel := { w with
          pivCnt := satAdd 0xFFFF w.pivCnt o.pivots, refac := satAdd 0xFFFF w.refac o.refac } }
        let (s2, bad) := s1.residueHits residues ecc
        let c : ImgCtx := { d := d, im := im, h := 0, dt := 0 }
        let done := s2.alloc.cqDone ++ [if bad then { result := 3 } else scenResult d.alloc.tolc c sc o]
        let s3 : State := if rest.isEmpty then s2.cycleEnd done
          else { s2 with alloc := { s2.alloc with cqImgs := rest, cqDone := done } }
        if bad then s3.loomFault else s3
      else s
    | _, _, _ => s)

/-! ### registers (R195 to R197) -/

/-- WHEEL_FP_H_READ (R196). -/
def State.latchFp (s : State) : State := { s with wheel := { s.wheel with fpL := lo32 s.wheel.fp.toNat } }
def execWheelFpHRead (s : State) : Host.Outcome State Fault Refusal :=
  .next ((s.latchFp).emit (.regValue 0x40040034 (hi32 s.wheel.fp.toNat)))

def State.wheelEng (s : State) : Word := word (s.wheel.residueReg.toNat + s.wheel.faultReg.toNat * 256)
/-- A read of WHEEL_ENG clears the residue bits (R197). -/
def State.clearEng (s : State) : State := { s with wheel := { s.wheel with residueReg := 0 } }

/-- WHEEL_ENG_READ (R197). -/
def execWheelEngRead (s : State) : Host.Outcome State Fault Refusal :=
  .next ((s.clearEng).emit (.regValue 0x4004002C s.wheelEng))

/-- The value of a WHEEL register (R195, R197). -/
def State.wheelReg (s : State) (off : Nat) : Word :=
  let w := s.wheel
  match off with
  | 0x00 => word (w.status + w.sched * 16 + fbit 6 w.wdeg + fbit 7 w.warm + fbit 8 w.conseqReg + w.iter * 65536)
  | 0x04 => word (w.startUs + w.endUs * 65536)
  | 0x08 => w.rp
  | 0x0C => w.rd
  | 0x10 => w.gap
  | 0x14 => word (w.missRun + (if w.wdeg then w.cleanRun % 65536 else 0) * 65536)
  | 0x18 => word w.missCnt
  | 0x1C => word w.accCnt
  | 0x20 => word (w.mismatch + w.aged * 65536)
  | 0x24 => word (w.pivCnt + w.refac * 65536)
  | 0x28 => word w.projCnt
  | 0x2C => s.wheelEng
  | 0x30 => w.fpL
  | 0x34 => hi32 w.fp.toNat
  | 0x38 => word (w.dimN + w.dimM * 65536)
  | 0x3C => word w.fnz
  | _ => 0

end Sys2Proof.Machine
end

