-- ==== Sys2Proof/Machine/Pair.lean ====
section
/-! DEFINITION. PAIR: the Doryo link, FAST and STATE frames, roles, lead-token epochs, takeover, mirroring and the pair commands
(R449 to R479). -/

namespace Sys2Proof.Machine

def State.pairRec (s : State) : DraftPair := match s.draft with
  | some d => d.pair
  | none => {}

/-! ### qualification (R458) -/

/-- Fingerprints are equal and seats differ, by the partner's last valid FAST frame (R450, R451). -/
def State.pairAgrees (s : State) : Bool := s.pair.pPrint == s.pairRec.print && s.pair.pSeat != b2n s.sys.pairSeat

/-- QUAL (R458). -/
def State.qualNow (s : State) : Bool :=
  s.sys.role == .shadow && s.sys.st == .ready && s.warp.run && s.obs.conv && s.pairAgrees && s.clk.est
    && decide (-10000 ≤ s.pair.dtofs ∧ s.pair.dtofs ≤ 10000) && !s.warp.bphErr

/-- NOMIRROR: a SHADOW with its link lost (R455). -/
def State.noMirror (s : State) : Bool := s.sys.role == .shadow && !s.pair.linkUp

/-! ### frames (R453) -/

/-- The frame header: TYPE 1 FAST, 2 STATE. -/
def State.pairHeader (s : State) (type : Nat) : List Byte :=
  let p := s.pair
  [byteOf type, byteOf (b2n s.sys.pairSeat), byteOf (roleCode s.sys.role), byteOf (stateCode s.sys.st),
   byteOf (fbit 0 p.arm + fbit 1 p.claim + fbit 2 s.qualNow + fbit 3 p.release + fbit 4 p.lclm + fbit 5 s.noMirror)]
    ++ zeros 3 ++ be32 p.epoch.toNat ++ be64 s.warp.pickCount ++ be64 s.clk.tick ++ be64 s.pairRec.print.toNat ++ be64 p.lastApply ++ zeros 4

/-- The cap entry of a thruster; flags bit 0: a cap is in force. -/
def capEntry (x : Thr) : List Byte :=
  be16 x.capSeq.toNat ++ (match x.cap with
    | some c => be16 1 ++ beF32 c.f ++ beF32 c.p
    | none => zeros 10)
def slotEntry (q : Slot) : List Byte := beF32 q.u ++ byteOf q.st :: zeros 3

/-- The FAST frame with its CRC-32C. -/
def State.fastFrame (s : State) : List Byte :=
  let b := s.pairHeader 1 ++ ((List.range 32).map (fun t => capEntry (s.thr t))).flatten
    ++ ((List.range 64).map (fun k => slotEntry (s.slot k))).flatten
  b ++ be32 (crc32c b)

/-- The PAIR block transmits (R453, R454). -/
def State.pairSends (s : State) : Bool := s.pairMode && s.warp.picks && !s.pair.silent

/-- FAST_FRAME_SEND at p+0.36. -/
def execFastFrameSend (s : State) : Host.Outcome State Fault Refusal :=
  .next (if s.pairSends then let s0 := s.at 360000; s0.emit (.pair "FAST" s0.fastFrame) else s)

/-- The warm-start record written last. -/
def Wheel.newestRec (w : Wheel) : Option WarmRec :=
  w.recs.foldl (fun (b : Option WarmRec) (p : Nat × WarmRec) => match b with
    | some r => if r.anchor < p.2.anchor then some p.2 else b
    | none => some p.2) none

/-- The mode and the setpoints in force, as a LEAD hands them to its SHADOW (R200). -/
def State.guideSnap (s : State) : GuideSnap :=
  let g := s.guide
  { mode := g.mode, followTrk := g.followTrk, sp := g.sp, spH := g.spH, dir := g.dir, off := g.off, followRule := g.followRule
    refP := g.refP, refV := g.refV, refA := g.refA, refH := g.refH, refR := g.refR, refY := g.refY, limits := g.limits
    track := g.track, leg := g.leg, q := g.q, windCmd := g.windCmd, soft := g.soft, beta := g.beta }

/-- A SHADOW whose mode is not its LEAD's takes it, with the setpoints, once its own GUIDE of the beat is complete: it joined later, or
only one of the two has made a forced change (R200; DESIGN CHOICE, log entry 134). -/
def State.followGuide (s : State) (x : GuideSnap) : State :=
  let g := s.guide
  let idle := g.latched.isEmpty && g.waiting.isEmpty && s.pair.mirHeld.isEmpty
  if s.warp.run && idle && decide (5 ≤ s.warp.stage.num) && g.mode != x.mode then
    { s with guide := { g with
      mode := x.mode, followTrk := x.followTrk, sp := x.sp, spH := x.spH, dir := x.dir, off := x.off, followRule := x.followRule
      refP := x.refP, refV := x.refV, refA := x.refA, refH := x.refH, refR := x.refR, refY := x.refY, limits := x.limits
      track := x.track, leg := x.leg, q := x.q, windCmd := x.windCmd, soft := x.soft, beta := x.beta, softDone := false
      fFilt := none, remain := if x.soft.isSome then g.remain else 0 } }
  else s

/-! ### beat records in chunks (R453) -/

/-- Beat records a STATE frame carries at most, in bytes. -/
def chunkBudget : Nat := 20480

/-- Bytes of a plan and of a SYNC image on the link; DESIGN CHOICE (log entry 144): the spec lays out neither. -/
def planBytes (p : WheelPlan) : Nat := 12 + 16 * (p.nodes.map List.length).sum
def syncImageBytes (c : SyncCap) : Nat := 16 + 8 * (c.vals.map (fun e => e.2.length)).sum

/-- A record on its way: kind and length. -/
def outRec (r : BeatRec) : OutRec :=
  match r with
  | .obs b => { kind := 0, total := b.length, sent := 0, rec' := r }
  | .wheel b p => { kind := 1, total := b.length + (match p with
      | some x => planBytes x
      | none => 0), sent := 0, rec' := r }
  | .sync c => { kind := 2, total := syncImageBytes c, sent := 0, rec' := r }
  | .warm w => { kind := 3, total := 60 + 8 * w.n + 16 * w.m, sent := 0, rec' := r }

/-- The chunks that fit, taken in the order of priority, and the records still on their way. -/
def fillChunks (budget : Nat) : List OutRec → List BeatChunk × List OutRec
  | [] => ([], [])
  | r :: l =>
    let n := min budget (r.total - r.sent)
    let rest := fillChunks (budget - n) l
    let c : BeatChunk := { kind := r.kind, total := r.total, ofs := r.sent, len := n
                           whole := if r.sent + n = r.total then some r.rec' else none }
    (if n = 0 then rest.1 else c :: rest.1, if r.sent + n = r.total then rest.2 else { r with sent := r.sent + n } :: rest.2)

/-- The records of a LEAD that its frames have not begun yet, newest of their kind. -/
def State.newRecs (s : State) : List BeatRec :=
  let p := s.pair
  if s.sys.role != .lead then []
  else
    (if s.obs.record.isEmpty || s.obs.record == p.sentObs then [] else [.obs s.obs.record])
      ++ (if s.wheel.record.isEmpty || s.wheel.record == p.sentWheel then [] else [.wheel s.wheel.record s.wheel.plan])
      ++ (match s.shuttle.caps.head? with
        | some c => if c.edge = p.sentSync then [] else [.sync c]
        | none => [])
      ++ (match s.wheel.newestRec with
        | some r => if r.anchor = p.sentWarm then [] else [.warm r]
        | none => [])

/-- The records on their way with the new ones among them: a newer record takes the place of one of its kind that is not complete
(DESIGN CHOICE, log entry 144). -/
def State.recsDue (s : State) : List OutRec :=
  if s.sys.role != .lead then []
  else
    let new := s.newRecs.map outRec
    (List.range 4).filterMap (fun k => match new.find? (fun r => r.kind == k) with
      | some r => some r
      | none => s.pair.outRecs.find? (fun r => r.kind == k))

/-- A record has been handed to the frames. -/
def Pair.begun (p : Pair) (r : BeatRec) : Pair :=
  match r with
  | .obs b => { p with sentObs := b }
  | .wheel b _ => { p with sentWheel := b }
  | .sync c => { p with sentSync := c.edge }
  | .warm w => { p with sentWarm := w.anchor }

/-- What the STATE frame of this pick carries (R200, R453, R467, R468, R508, R511). -/
def State.stateBody (s : State) : StateBody :=
  let p := s.pair
  let lead := s.sys.role == .lead
  let seqs := s.sess.filterMap (fun (e : Nat × Session) =>
    if e.2.txSeq == (aget e.1 p.sentSeqs).getD 0 then none else some (e.1, e.2.txSeq))
  { seqs := if lead then seqs else []
    cmds := if lead then p.mirror.map (fun (m : Mirror) => (m.id, m.act)) else []
    outcomes := if lead then p.mirOut.map (fun x => (x.1, x.2.1)) else []
    guide := if lead && s.warp.run then some s.guideSnap else none
    acks := p.acks
    staged := s.shuttle.change.map (fun (c : TwChange) => c.prog.progId)
    agreed := if lead then p.agreeDue else none
    chunks := (fillChunks chunkBudget s.recsDue).1 }

/-- STATE_FRAME_SEND at p+0.80. -/
def execStateFrameSend (s : State) : Host.Outcome State Fault Refusal :=
  .next (if s.pairSends then
      let s0 := s.at 800000
      let b := s0.stateBody
      let p := s0.newRecs.foldl Pair.begun s0.pair
      State.emit { s0 with pair := { p with
        acks := [], agreeDue := none
        mirHeld := p.mirHeld.map (fun x => (x.1, x.2.1, true))
        mirOut := p.mirOut.filterMap (fun x => if x.2.2 ≤ 1 then none else some (x.1, x.2.1, x.2.2 - 1))
        sentSeqs := if s0.sys.role == .lead then s0.sess.map (fun (e : Nat × Session) => (e.1, e.2.txSeq)) else p.sentSeqs
        outRecs := (fillChunks chunkBudget s0.recsDue).2 } } (.state (s0.pairHeader 2) b)
    else s)

/-! ### lanes (R452) -/

/-- A valid frame on a lane, and an invalid one. -/
def Lane.valid (l : Lane) : Lane := { l with seen := true, good := l.good + 1, up := l.up || decide (10 ≤ l.good + 1) }
def Lane.invalid (l : Lane) : Lane := { l with good := 0, err := sat16 l.err }
def State.onLane (s : State) (lane : Bool) (f : Lane → Lane) : State :=
  { s with pair := if lane then { s.pair with lane1 := f s.pair.lane1 } else { s.pair with lane0 := f s.pair.lane0 } }
def State.laneValid (s : State) (lane : Bool) : State :=
  let s1 := s.onLane lane Lane.valid
  if s1.pair.linkUp && !s.pair.linkUp then s1.raise 0x1305000A#32 else s1

/-- One pick of a lane. -/
def Lane.pick (l : Lane) : Lane := { l with seen := false, silent := if l.seen then 0 else satAdd 255 l.silent 1 }

/-! ### mirrored commands (R468) -/

/-- The ranges of an act, which come before its state (R22). -/
def State.mirRange (s : State) (a : MirAct) : Bool :=
  match a with
  | .guide c => s.guideRange c
  | _ => true

/-- What an act still may be refused for when it is accepted, in the order of R22. -/
def State.mirRefusal (s : State) (op : Nat) (a : MirAct) : Option (Nat × Nat) :=
  if !s.mirRange a then some (0x1004, 0)
  else if !(cmdSpec op).legal s then some (0x2001, (cmdSpec op).detail)
  else match a with
    | .guide c => s.guideRefusal op c
    | .select g sess => s.selectRefusal g sess
    | .force o => s.forceRefusal op o
    | .taskRestart i => s.taskRefusal i
    | .change drop id => s.changeRefusal drop id

/-- The act takes effect; `who` is the session that gave it. -/
def State.mirAct (s : State) (who : Option CmdSession) (a : MirAct) : State :=
  match a with
  | .guide c => s.acceptGuide c
  | .select g sess => s.applySelect g sess
  | .force o => s.applyForce who o
  | .taskRestart i => s.applyTaskRestart i
  | .change _ _ => s

/-- The outcome of a mirrored command is told in the next two STATE frames. -/
def State.mirTell (s : State) (m : Mirror) (at' : Option Nat) : State :=
  { s with pair := { s.pair with mirOut := s.pair.mirOut ++ [(m.id, at', 2)] } }

/-- A waiting command is accepted now (R201, R468, R508): with the link up the agreed pick of an online change is 10 picks on and is
mirrored; without it the change is applied alone. -/
def State.mirAccept (s0 : State) (m : Mirror) : State :=
  let refusal := s0.mirRefusal m.op m.act
  let s := s0.mirTell m (if refusal.isSome then none else some s0.now)
  match refusal with
  | some r => s.finishWaiting m.sess m.op m.cseq r.1 (be32 r.2)
  | none =>
    match m.act with
    | .change drop _ =>
      if s.mirrors then
        let s1 := s.acceptChange (s.warp.pickCount + 10) drop (some (m.sess, m.cseq))
        { s1 with pair := { s1.pair with agreeDue := some (tickAfter 10 s1.clk.tick, drop) } }
      else s.acceptChange (s.warp.pickCount + 1) drop (some (m.sess, m.cseq))
    | a => (s.mirAct (s.cmdSess m.sess) a).finishWaiting m.sess m.op m.cseq 0 []

/-- Acknowledged commands are accepted in order. -/
def State.mirAcked (s : State) (acks : List Nat) : State :=
  let l := s.pair.mirror.filter (fun (m : Mirror) => acks.contains m.id)
  l.foldl State.mirAccept { s with pair := { s.pair with mirror := s.pair.mirror.filter (fun (m : Mirror) => !acks.contains m.id) } }

/-- With the link lost, or without a SHADOW, every waiting command is accepted at once. -/
def State.mirFlush (s : State) : State := if s.mirrors then s else s.mirAcked (s.pair.mirror.map (fun (m : Mirror) => m.id))

/-- A SHADOW takes a mirrored command once, holds it until it knows its outcome, and acknowledges it (R468). -/
def State.mirTake (s : State) (c : Nat × MirAct) : State :=
  let p := s.pair
  let seen := p.mirSeen.contains c.1
  { s with pair := { p with
      mirSeen := if seen then p.mirSeen else c.1 :: p.mirSeen
      mirHeld := if seen then p.mirHeld else p.mirHeld ++ [(c.1, c.2, false)]
      acks := if p.acks.contains c.1 then p.acks else p.acks ++ [c.1] } }

/-- A mirrored command accepted by the LEAD at a DTIME takes effect in the SHADOW with the same started beat: one that the LEAD latched
at the last edge is latched here, while GUIDE of this beat has not run (R200, R201; log entry 134). -/
def State.mirApply (s : State) (t : Nat) (a : MirAct) : State :=
  match a with
  | .guide c =>
    if s.warp.run && decide (t < s.beatEdge) && decide (s.warp.stage.num < 5) then
      let s1 : State := { s with guide := { s.guide with latched := s.guide.latched ++ [c] } }
      match c with
      | .thruster k on => s1.setThr k { s1.thr k with on := on }
      | _ => s1
    else s.acceptGuide c
  | a => s.mirAct none a

/-- The outcome of a held command: it takes effect when the LEAD accepted it, and is dropped when not. -/
def State.mirOutcome (s : State) (x : Nat × Option Nat) : State :=
  match s.pair.mirHeld.find? (fun (h : Nat × MirAct × Bool) => h.1 == x.1), x.2 with
  | some h, some t =>
    State.mirApply { s with pair := { s.pair with mirHeld := s.pair.mirHeld.filter (fun (h : Nat × MirAct × Bool) => h.1 != x.1) } } t h.2.1
  | some _, none => { s with pair := { s.pair with mirHeld := s.pair.mirHeld.filter (fun (h : Nat × MirAct × Bool) => h.1 != x.1) } }
  | none, _ => s

/-- The LEAD falls silent or the lead is taken: a command already acknowledged survives, one not acknowledged does not (R468). -/
def State.mirSettle (s : State) : State :=
  let l := s.pair.mirHeld.filter (fun (h : Nat × MirAct × Bool) => h.2.2)
  l.foldl (fun (a : State) h => a.mirAct none h.2.1) { s with pair := { s.pair with mirHeld := [] } }

/-- DORYO_LANE_TIMEOUT (R452): a lane that is UP has had no valid frame for 2 picks. -/
def execDoryoLaneTimeout (lane : Bool) (s : State) : Host.Outcome State Fault Refusal :=
  let l := if lane then s.pair.lane1 else s.pair.lane0
  .next (if s.pairMode && l.up && decide (2 ≤ l.silent) then
      let s1 := (s.onLane lane (fun x => { x with up := false, good := 0 })).raise 0x13250004#32 [byteOf (b2n lane)]
      if s1.pair.linkUp then s1
      else
        let s2 := s1.mirSettle
        State.mirFlush (State.raise { s2 with pair := { s2.pair with mirSeen := [], acks := [] } } 0x13350005#32)
    else s)

/-! ### FAST_FRAME_RECEIVE (R450, R453, R455, R458) -/

def atBe (b : List Byte) (a n : Nat) : Nat := ofBe ((b.drop a).take n)

/-- The frame is a FAST frame of the right length and its CRC-32C is right. -/
def fastOk (b : List Byte) : Bool := b.length == 948 && atBe b 0 1 == 1 && atBe b 944 4 == crc32c (b.take 944)

/-- The larger of two cap sequence numbers in the modulo order of R251. -/
def newerSeq (a b : U16) : U16 := let d := (b - a).toNat; if 1 ≤ d ∧ d ≤ 32767 then b else a

/-- A SHADOW follows the LEAD's slot outputs and cap numbers (R455 items 1 and 2, R277). -/
def State.followFast (s : State) (b : List Byte) : State :=
  let s1 := s.slotIds.foldl (fun (a : State) k =>
    let q := a.slot k
    match a.slotRec k with
    | some c =>
      if q.st = 1 then
        let u := f32to64 (BitVec.ofNat 32 (atBe b (432 + 8 * k) 4))
        a.setSlot k (backCalc c { q with u := u } u false)
      else a
    | none => a) s
  s1.thrIds.foldl (fun (a : State) t =>
    let x := a.thr t
    a.setThr t { x with capSeq := newerSeq x.capSeq (BitVec.ofNat 16 (atBe b (48 + 12 * t) 2)) }) s1

/-- A LEAD's entry into ACTIVE from READY, other than by takeover, begins the soft start in its SHADOW too, at the same edge (R205). -/
def State.followActive (s : State) (was : Pair) (role st : Nat) : State :=
  if s.warp.run && decide (was.pRole < 2 ∧ role < 2) && was.pState == 4 && decide (st = 5 ∨ st = 6) then
    { s with guide := { s.guide with enteredActive := true } }
  else s

/-- PAIR_DTOFS, partner DTIME less own, from a frame received now (R453): the partner's FAST frame left at its TICK + 0.36 ms and took
half the round trip `rtt`, in ns (DEDUCED, log entry 144). -/
def State.dtofsOf (s : State) (b : List Byte) (rtt : Nat) : Int :=
  iclamp (-2147483648) 2147483647 ((atBe b 20 8 + 360000 + rtt / 2 : Nat) - (s.now : Int))

/-- The first valid copy of the partner's FAST frame in a pick, on a lane whose round trip takes `rtt` ns. -/
def State.fastTake (s : State) (b : List Byte) (rtt : Nat) : State :=
  let p := s.pair
  let ofs := s.dtofsOf b rtt
  let beyond := decide (ofs < -10000 ∨ 10000 < ofs)
  let flags := atBe b 4 1
  let role := atBe b 2 1 % 4
  let st := atBe b 3 1
  let barMe := p.fresh && nbit flags 1 && s.pairRec.rejoin == 0
  let p1 : Pair := { p with
    pEpoch := BitVec.ofNat 32 (atBe b 8 4), pRole := role, pState := st, pFlags := flags, pSeat := atBe b 1 1
    pPrint := BitVec.ofNat 64 (atBe b 28 8), partnerLast := atBe b 36 8, fastNow := true
    shadowAge := if role = 2 then 0 else p.shadowAge, qualAge := if nbit flags 2 then 0 else p.qualAge
    dtofs := ofs, ofsOver := beyond, fresh := false, barredBy := if barMe then 3 else p.barredBy
    pLead := if (role = 0 ∨ role = 1) ∧ 4 ≤ st ∧ st ≤ 6 then st else p.pLead }
  let s1 : State := { s with pair := p1 }
  let mis := !s1.pairAgrees
  let s2 : State := { s1 with pair := { s1.pair with fpMis := mis } }
  let s3 := if mis && !p.fpMis then s2.raise 0x13230007#32 else s2
  let s4 := if beyond && !p.ofsOver then s3.raise 0x13210008#32 else s3
  if s4.sys.role == .shadow then (s4.followActive p role st).followFast b else s4

/-- FAST_FRAME_RECEIVE by p+0.40: lane, frame, instant of reception in ns after the own tick, and the lane's measured round trip in
ns. -/
def execFastFrameReceive (lane : Bool) (b : List Byte) (t : Ns) (rtt : Nat) (s : State) : Host.Outcome State Fault Refusal :=
  .next (if !s.pairMode || !s.warp.picks then s
    else
      let s0 := s.at t
      if !fastOk b then s0.onLane lane Lane.invalid
      else
        let s1 := s0.laneValid lane
        if s1.pair.fastNow then s1 else s1.fastTake b rtt)

/-! ### STATE_FRAME_RECEIVE (R453, R455, R467, R468, R475, R508, R511) -/

/-- The two Observer outputs differ beyond the warning radius or the heading warning (R475). -/
def diverges (d : DraftObs) (a b : List Byte) : Bool :=
  let mm (l : List Byte) (o : Nat) : Int := (BitVec.ofNat 32 (ofLe ((l.drop o).take 4))).toInt
  let dn := fdiv (fofInt (mm a 24 - mm b 24)) (fofNat 1000)
  let de := fdiv (fofInt (mm a 28 - mm b 28)) (fofNat 1000)
  let dh := (BitVec.ofNat 32 (ofLe ((a.drop 32).take 4)) - BitVec.ofNat 32 (ofLe ((b.drop 32).take 4)) : BitVec 32).toInt
  let h := fabs (fdiv (fmul (fofInt dh) f2pi) (fofNat 4294967296))
  flt d.posWarn (v2norm (dn, de)) || flt d.hdgWarn h

/-- The divergence test on a LEAD's Observer output; an output for another edge than the SHADOW's newest is not compared (R475). -/
def State.divergenceTest (s : State) (rec' : List Byte) : State :=
  let own := s.obs.record
  let edge (l : List Byte) : Nat := nearestMs (ofLe (l.take 8))
  match s.draft with
  | none => s
  | some d =>
    if d.pair.diverge != 1 || rec'.length != 128 || own.length != 128 || edge rec' != edge own then s
    else
      let p := s.pair
      let run := if diverges d.obs rec' own then satAdd 255 p.divRun 1 else 0
      let now := decide (10 ≤ run)
      let s1 : State := { s with pair := { p with divRun := run, diverge := now } }
      if now && !p.diverge then s1.raise 0x13220009#32 else s1

/-- The pick of this module with the tick of a DTIME. -/
def State.pickOf (s : State) (t : Nat) : Nat := s.warp.pickCount + (nearestMs t - nearestMs s.clk.tick)

/-- A beat record of the LEAD has arrived whole (R455, R475, R511). -/
def State.recArrived (s : State) (r : BeatRec) : State :=
  match r with
  | .obs b => s.divergenceTest b
  | .wheel _ plan => { s with pair := { s.pair with leadPlan := if plan.isSome then plan else s.pair.leadPlan } }
  | .sync c => { s with shuttle := { s.shuttle with leadSync := some c, syncAge := 0 } }
  | .warm w => { s with pair := { s.pair with leadWarm := some w } }

/-- A chunk: a record is whole when every chunk of it has arrived, in order (R453). -/
def State.takeChunk (s : State) (c : BeatChunk) : State :=
  let p := s.pair
  let follows := c.ofs == 0 || aget c.kind p.inRecs == some (c.total, c.ofs)
  if !follows then { s with pair := { p with inRecs := adel c.kind p.inRecs } }
  else
    let s1 : State := { s with pair := { p with inRecs := aset c.kind (c.total, c.ofs + c.len) p.inRecs } }
    match c.whole with
    | some r => if c.ofs + c.len = c.total then s1.recArrived r else s1
    | none => s1

/-- What a SHADOW takes from a STATE frame. -/
def State.shadowTake (s : State) (b : StateBody) : State :=
  let s0 := b.outcomes.foldl State.mirOutcome (b.cmds.foldl State.mirTake s)
  let s1 := match b.guide with
    | some x => s0.followGuide x
    | none => s0
  let s2 := match b.agreed with
    | some (t, drop) => if s1.shuttle.change.isSome then s1.acceptChange (s1.pickOf t) drop none else s1
    | none => s1
  b.chunks.foldl State.takeChunk s2

/-- STATE_FRAME_RECEIVE at p+0.90: lane, whether the CRC-32C is right, content. The second copy of a pick is not used. -/
def execStateFrameReceive (lane ok : Bool) (b : StateBody) (s : State) : Host.Outcome State Fault Refusal :=
  .next (if !s.pairMode || !s.warp.picks then s
    else
      let s0 := s.at 900000
      if !ok then s0.onLane lane Lane.invalid
      else
        let s1 := s0.laneValid lane
        if s1.pair.mirAge = 0 then s1
        else
          let s2 : State := { s1 with pair := { s1.pair with
            mirAge := 0, pStaged := b.staged
            seqs := b.seqs.foldl (fun (l : List (Nat × Word)) e => aset e.1 e.2 l) s1.pair.seqs } }
          let s3 := if s2.sys.role == .shadow then s2.shadowTake b else s2
          s3.mirAcked b.acks)

/-! ### roles (R449, R460, R461, R463, R474) -/

/-- A role change at a pick tick. Only LEAD and ALONE permit ACTIVE and DEGRADED: with any other role the module is in READY from there
(R37). -/
def State.setRole (s : State) (r : Role) : State :=
  if s.sys.role == r then s
  else
    let s1 := State.raise { s with sys := { s.sys with role := r } } 0x13000001#32 [byteOf (roleCode s.sys.role), byteOf (roleCode r)]
    if (r == .shadow || r == .barred) && s1.isActive then s1.setSt .ready else s1

/-- The epoch of a module that takes the lead (R461). -/
def State.bumpEpoch (s : State) : State :=
  let p := s.pair
  let m := if p.epoch.toNat < p.pEpoch.toNat then p.pEpoch else p.epoch
  { s with pair := { p with epoch := m + 1, led := true } }

/-- The lead is given up: nothing that waits is sent any more. -/
def State.leadGone (s : State) : State :=
  let s1 := s.unsendBeat
  { s1 with
    pair := { s.pair with led := false }
    warp := { s1.warp with txPhase := [] } }

/-- The role that claim, link and bar give at a tick; `shown` says that the partner's last FAST frame showed CLAIM (R460). -/
def State.roleTick (s : State) (shown : Bool) : State :=
  let p := s.pair
  if p.barredBy ≠ 0 then s.leadGone.setRole .barred
  else match s.sys.role with
    | .barred => s.setRole .shadow
    | .shadow => s
    | _ =>
      if p.release then
        (State.leadGone { s with pair := { p with yield := true, takeDue := false } }).setRole .shadow
      else if p.claim then s.setRole (if p.linkUp then .lead else .alone)
      else if shown then
        let s1 := s.leadGone.setRole .shadow
        { s1 with pair := { s1.pair with silent := s1.sys.loomFault } }
      else s

/-- A LEAD or ALONE module that holds the claim takes the lead; one that has lost it leads no more and falls silent (R454, R461). -/
def State.leadTick (s : State) : State :=
  let p := s.pair
  if s.sys.role == .lead || s.sys.role == .alone then
    if p.claim then (if p.led then s else s.bumpEpoch)
    else if p.led then State.leadGone { s with pair := { p with silent := s.pairMode } }
    else s
  else s

/-- The pair's part of a pick tick. -/
def State.pairTick (s : State) : State :=
  if !s.pairMode then s.leadTick
  else
    let p := s.pair
    let shown := p.showsClaim
    let p1 : Pair := { p with
      lane0 := p.lane0.pick, lane1 := p.lane1.pick
      shadowAge := satAdd 255 p.shadowAge 1, qualAge := satAdd 255 p.qualAge 1, mirAge := satAdd 255 p.mirAge 1
      fastPrev := p.fastNow, fastNow := false
      takeDue := p.takeDue && s.sys.role == .shadow }
    let s1 := (State.roleTick { s with pair := p1 } shown).leadTick
    let q := s1.pair
    let done := !q.claim && (shown || !q.linkUp)
    State.mirFlush { s1 with pair := { q with yield := q.yield && !done, release := q.release && !done } }

/-- ARM_DELAY_EXPIRY (R460). -/
def execArmDelayExpiry (s : State) : Host.Outcome State Fault Refusal :=
  .next (match s.pair.armFrom with
    | some k => if k ≤ s.warp.pickCount then { s with pair := { s.pair with armReady := true, armFrom := none } } else s
    | none => s)

/-! ### TAKEOVER (R463, R464, R466, R467) -/

/-- Each session continues at the last mirrored sequence number plus 256 (R467). -/
def State.takeSeqs (s : State) : State :=
  { s with sess := s.sess.map (fun (e : Nat × Session) => match aget e.1 s.pair.seqs with
      | some v => (e.1, { e.2 with txSeq := v + 255 })
      | none => e) }

/-- Every cap in force is sent again as a phase-back telegram with CAPSEQ advanced by one (R464). -/
def State.resendCaps (s : State) : State :=
  let ids := s.thrIds.filter (fun t => (s.thr t).cap.isSome)
  let s1 := ids.foldl (fun (a : State) t => a.setThr t { a.thr t with capSeq := (a.thr t).capSeq + 1 }) s
  let (s2, out) := s1.driveFrames (ids.filterMap (fun t => (s1.thrRec t).map (fun r => (r.sess, 2, s1.capOf t true))))
  { s2 with warp := { s2.warp with txPhase := s2.warp.txPhase ++ out } }

/-- The slots enter CLOSED directly from OPEN, but for those whose thruster's cause opens them (R277, R280). -/
def State.closeSlots (s : State) : State :=
  s.slotIds.foldl (fun (a : State) k =>
    let q := a.slot k
    match a.slotThr k with
    | some (t, _) => if q.st = 1 ∧ (a.thr t).cut = false then a.setClosed k q else a
    | none => a) s

/-- A SHADOW whose Kiln holds the claim becomes LEAD: epoch, sequence numbers, state, caps and slots when it is qualified, SAFE when it
is not. -/
def State.takeOver (s : State) : State :=
  let qual := s.qualNow
  let s1 := ((s.mirSettle).bumpEpoch.takeSeqs).setRole (if s.pair.linkUp then .lead else .alone)
  let s2 := (State.raise { s1 with pair := { s1.pair with
    takeDue := false, taken := sat16 s1.pair.taken, unqual := if qual then s1.pair.unqual else sat16 s1.pair.unqual
    toRole := min 0xFFFF (s1.otime - s1.pair.freeAt), txDue := true } } 0x13200002#32 (be32 s1.pair.epoch.toNat)).incidentFreeze
  if qual then
    let s3 := if s2.pair.pLead = 6 then s2.setSt .degraded
      else if s2.pair.pLead = 5 then s2.setSt (if s2.cmd.deg = 0 then .active else .degraded)
      else s2
    if s3.isActive then (s3.closeSlots).resendCaps else s3
  else (s2.raise 0x13400003#32).enterSafe 6

/-- TAKEOVER (R464), at the pick tick after the claim was reported taken. -/
def execTakeover (s : State) : Host.Outcome State Fault Refusal :=
  .next (if s.pairMode && s.warp.picks && s.sys.role == .shadow && s.pair.takeDue && s.pair.claim && s.pair.barredBy == 0 then
      (s.at 0).takeOver
    else s)

/-! ### registers (R477, R478) -/

def State.pairStat (s : State) : Word :=
  let p := s.pair
  let up := p.linkUp
  word (roleCode s.sys.role + fbit 2 s.sys.pairSeat + fbit 3 p.claim + fbit 4 p.arm + fbit 5 s.qualNow + fbit 6 p.lane0.up
    + fbit 7 p.lane1.up + fbit 8 p.lclm + fbit 9 s.noMirror + fld 10 4 (if up then p.pState else 0) + fld 14 2 p.pRole
    + fbit 16 p.diverge + fbit 17 p.fpMis)

/-- The value of a PAIR register. -/
def State.pairReg (s : State) (off : Nat) : Word :=
  let p := s.pair
  match off with
  | 0x00 => s.pairStat
  | 0x04 => p.epoch
  | 0x08 => p.pEpoch
  | 0x0C => sword p.dtofs
  | 0x10 => word (p.lane0.err + 65536 * p.lane1.err)
  | 0x14 => word (p.taken + 65536 * p.unqual)
  | 0x18 => word (p.toRole + 65536 * p.toTx)
  | 0x1C => word (p.mirAge + 65536 * p.wsAdopt)
  | _ => 0

/-- What a Draft activation clears (R479). -/
def Pair.activated (p : Pair) : Pair :=
  { p with
    lane0 := { p.lane0 with err := 0 }, lane1 := { p.lane1 with err := 0 }, taken := 0, unqual := 0, wsAdopt := 0 }

/-! ### commands (R474) -/

/-- PAIR_TRANSFER: RELEASE from the next FAST frame on, ARM clear; SHADOW at the next tick. -/
def execPairTransfer (h : Hdr) (s : State) : Host.Outcome State Fault Refusal :=
  .next (s.simple h 0x0810 (fun t _ =>
    if t.inLastTwo t.pair.qualAge then .done { t with pair := { t.pair with release := true } } []
    else .refuse 0x2001 (cmdSpec 0x0810).detail))

/-- PAIR_BAR: a LEAD also releases the lead. -/
def execPairBar (h : Hdr) (s : State) : Host.Outcome State Fault Refusal :=
  .next (s.simple h 0x0811 (fun t _ =>
    .done { t with pair := { t.pair with barredBy := 1, release := t.pair.release || t.sys.role == .lead } } []))

/-- PAIR_UNBAR: the module becomes SHADOW at the next tick. -/
def execPairUnbar (h : Hdr) (s : State) : Host.Outcome State Fault Refusal :=
  .next (s.simple h 0x0812 (fun t _ =>
    if t.pair.linkUp && t.pair.pPrint == t.pairRec.print then
      .done { t with pair := { t.pair with barredBy := 0, silent := t.sys.loomFault, release := false } } []
    else .refuse 0x2001 (cmdSpec 0x0812).detail))

end Sys2Proof.Machine
end

