-- ==== Sys2Proof/Machine/Sherd.lean ====
section
/-! DEFINITION. SHERD: records as bytes, pages and blocks of the NAND, the power-fail flush, recovery at a start, freezes, telemetry,
the SHERD registers (R645 to R660, R665 to R668, R670). -/

namespace Sys2Proof.Machine

/-- A record in wire form (R645). -/
def Rec.bytes (r : Rec) : List Byte :=
  let b := be16 r.length ++ [byteOf r.rtype, byteOf (fbit 0 r.kiln + fbit 1 r.high + fbit 2 r.recovered)] ++ be32 r.rseq.toNat
    ++ be32 r.pcc.toNat ++ be32 (r.otimeUs / 3600000000) ++ be32 (r.otimeUs % 3600000000) ++ be64 r.dtime
    ++ [byteOf r.srcblk, byteOf r.srcinst, 0#8, 0#8] ++ r.payload
  b ++ be32 (crc32c b)

/-! ### the circles (R651 to R653) -/

/-- Record bytes of a page, and of a block of 64 pages. -/
def pageBytes : Nat := 4032
def blockPages : Nat := 64

def Sherd.blocks (h : Sherd) (arch : Bool) : List Block := if arch then h.archive else h.ring
def Sherd.size (h : Sherd) (arch : Bool) : Nat := if arch then h.archiveSize else h.ringSize
/-- Key of a block's erase count. -/
def eraseKey (arch : Bool) (no : Nat) : Nat := (if arch then 65536 else 0) + no
/-- The block in writing. -/
def lastBlock (l : List Block) : Block := l.getLast?.getD {}

/-- The block holds a record inside a freeze. -/
def Sherd.frozen (h : Sherd) (b : Block) : Bool := h.freezes.any (fun (f : Nat × Freeze) => b.inside f.2.lo f.2.hi)

/-- The next place of the circle after `no` that is not frozen (R652). -/
def nextPlace (h : Sherd) (l : List Block) (size : Nat) : Nat → Nat → Nat
  | 0, no => (no + 1) % max 1 size
  | fuel + 1, no =>
    let q := (no + 1) % max 1 size
    match l.find? (fun b => b.no == q) with
    | some b => if h.frozen b then nextPlace h l size fuel q else q
    | none => q
def Sherd.next (h : Sherd) (arch : Bool) : Nat :=
  let l := h.blocks arch
  nextPlace h l (h.size arch) l.length (lastBlock l).no

/-- The block in writing has no room for another page. -/
def Sherd.full (h : Sherd) (arch : Bool) : Bool :=
  if arch then decide (blockPages * pageBytes ≤ h.archFill) else decide (blockPages ≤ (lastBlock h.ring).pages)
def Sherd.erasedNext (h : Sherd) (arch : Bool) : Bool := if arch then h.archiveErased else h.ringErased

/-- The writer moves on to the next block of an area: what it held is gone (R652). -/
def Sherd.advance (h : Sherd) (arch : Bool) : Sherd :=
  let q := h.next arch
  if arch then { h with archive := h.archive.filter (fun b => b.no != q) ++ [{ no := q }], archFill := 0, archiveErased := false }
  else { h with ring := h.ring.filter (fun b => b.no != q) ++ [{ no := q }], ringErased := false }

/-- A record is complete in an area's block in writing. -/
def addRec (r : Rec) (l : List Block) : List Block :=
  let b := lastBlock l
  l.dropLast ++ [{ b with recs := b.recs ++ [r] }]

/-- A record is complete in the ring: it is flushed, and a HIGH one is written to the archive too (R650). -/
def Sherd.landed (h : Sherd) (r : Rec) : Sherd :=
  let h1 : Sherd := { h with ring := addRec r h.ring, flushed := r.rseq }
  if r.high then
    let h2 := if h1.full true then h1.advance true else h1
    { h2 with archive := addRec r h2.archive, archFill := h2.archFill + r.length }
  else h1

/-- `n` bytes of the unflushed stream are programmed: the records that they complete, what remains, and how much of its first. -/
def takeRecs : List Rec → Nat → Nat → List Rec × List Rec × Nat
  | [], _, _ => ([], [], 0)
  | r :: l, done, n =>
    if r.length - done ≤ n then
      let (a, b, c) := takeRecs l 0 (n - (r.length - done))
      (r :: a, b, c)
    else ([], r :: l, done + n)

/-- A page is programmed in the ring. -/
def Sherd.program (h : Sherd) : Sherd :=
  let h0 := if h.full false then h.advance false else h
  let (a, b, c) := takeRecs h0.staging h0.headDone pageBytes
  let blk := lastBlock h0.ring
  let h1 : Sherd := { h0 with
    ring := h0.ring.dropLast ++ [{ blk with pages := blk.pages + 1 }]
    staging := b, headDone := c, pagesNow := h0.pagesNow + 1 }
  a.foldl Sherd.landed h1

/-- Bytes of the unflushed stream. -/
def Sherd.unflushed (h : Sherd) : Nat := h.allBytes - h.headDone

/-- A page is due: full, or its first record was staged 1 s ago (R650). -/
def Sherd.pageDue (h : Sherd) (now : Nat) : Bool :=
  match h.staging with
  | [] => false
  | r :: _ => decide (pageBytes ≤ h.unflushed) || decide (r.staged + 1000000 ≤ now)

/-- The Sherd stops flushing (R653). -/
def State.sherdStop (s : State) : State :=
  if s.sherd.stopped then s else State.raise { s with sherd := { s.sherd with stopped := true } } 0x0F440005#32

/-- A block is retired: a spare takes its place, or its area shrinks; its records go to the block that takes its place or to the next
block written (R653). -/
def Sherd.retire (h : Sherd) (arch : Bool) (no : Nat) : Sherd :=
  let key := eraseKey arch no
  let h1 : Sherd := { h with retired := h.retired + 1 }
  if 0 < h.spare then { h1 with spare := h.spare - 1, erase := adel key h.erase }
  else
    let down (n : Nat) : Nat := if no < n then n - 1 else n
    let move (l : List Block) : List Block :=
      let lost := ((l.filter (fun b => b.no == no)).map (fun b => b.recs)).flatten
      let rest := (l.filter (fun b => b.no != no)).map (fun b => { b with no := down b.no })
      let blk := lastBlock rest
      rest.dropLast ++ [{ blk with recs := sortBy (fun (x y : Rec) => decide (x.rseq.toNat ≤ y.rseq.toNat)) (blk.recs ++ lost) }]
    let keys := (adel key h.erase).map (fun (e : Nat × Nat) =>
      if decide (key < e.1) && decide (e.1 / 65536 = key / 65536) then (e.1 - 1, e.2) else e)
    if arch then { h1 with archiveSize := h.archiveSize - 1, archive := move h.archive, erase := keys }
    else { h1 with ringSize := h.ringSize - 1, ring := move h.ring, erase := keys }

/-- BLOCK_RETIRE (R653): the event, the warning of a low spare pool, and the stop when an area is below half its size. -/
def State.retire (s : State) (arch : Bool) (no : Nat) : State :=
  let s1 := State.raise { s with sherd := s.sherd.retire arch no } 0x0F140003#32 (byteOf (b2n arch) :: be16 no)
  let h := s1.sherd
  let s2 := if decide (h.spare < 284) && !h.spareWarned then
      State.raise { s1 with sherd := { h with spareWarned := true } } 0x0F240004#32
    else s1
  if decide (s2.sherd.ringSize < 14336) || decide (s2.sherd.archiveSize < 1024) then s2.sherdStop else s2

/-- PAGE_PROGRAM (R650, R653). `outcome`: 0 programmed, 1 the program failed and the block is retired, any other NAND accepts no programs.
At most 8 pages a pick; the blocks that it needs have been erased. -/
def execPageProgram (outcome : Nat) (s : State) : Host.Outcome State Fault Refusal :=
  let h := s.sherd
  .next (if h.stopped || h.pfFlush || decide (8 ≤ h.pagesNow) || !h.pageDue s.otime || (h.full false && !h.ringErased)
      || (h.full true && !h.archiveErased) then s
    else match outcome with
      | 0 => { s with sherd := h.program }
      | 1 => s.retire false (lastBlock h.ring).no
      | _ => s.sherdStop)

/-- BLOCK_ERASE (R652, R653): the next block of the ring or of the archive, in a pick that leaves time for background work and has
begun no erase yet (R70). `fail`: the erase failed and the block is retired. -/
def execBlockErase (arch fail : Bool) (s : State) : Host.Outcome State Fault Refusal :=
  let h := s.sherd
  .next (if h.stopped || h.erasedNext arch || !s.warp.spare || h.eraseNow then s
    else
      let q := h.next arch
      let key := eraseKey arch q
      let n := (aget key h.erase).getD 0 + 1
      let drop (l : List Block) : List Block := l.filter (fun b => b.no != q)
      let h0 : Sherd := { h with eraseNow := true, erase := aset key n h.erase }
      let h1 : Sherd := if arch then { h0 with archive := drop h.archive } else { h0 with ring := drop h.ring }
      if fail then State.retire { s with sherd := h1 } arch q
      else
        let h2 : Sherd := if arch then { h1 with archiveErased := true } else { h1 with ringErased := true }
        let warn := decide (48000 ≤ n) && !h2.wearWarned
        if warn then State.raise { s with sherd := { h2 with wearWarned := true } } 0x0F240004#32 else { s with sherd := h2 })

/-- A read of a record's page needed `fixes` bit corrections per 512 bytes: more than 6 retire its block (R653). -/
def State.wornRead (s : State) (arch : Bool) (rseq : Word) (fixes : Nat) : State :=
  if fixes ≤ 6 then s
  else match (s.sherd.blocks arch).find? (fun (b : Block) => b.recs.any (fun (r : Rec) => !seqNewer rseq r.rseq)) with
    | some b => s.retire arch b.no
    | none => s

/-! ### power fail and recovery (R654, R655) -/

/-- The payload of a power record (R647). -/
def powerPayload (cause recovered lost : Nat) : List Byte := byteOf cause :: be32 recovered ++ be32 lost ++ zeros 3

/-- The oldest LOW records go until at most 1 MiB of them remain; how many went. -/
def shedLow : List Rec → Nat → List Rec × Nat
  | [], _ => ([], 0)
  | r :: l, low =>
    if r.high || decide (low ≤ 1048576) then let (a, n) := shedLow l low; (r :: a, n)
    else let (a, n) := shedLow l (low - r.length); (a, n + 1)

/-- POWER_FAIL_FLUSH (R654 items 1 to 3). A flush in progress goes on. -/
def State.powerFailFlush (s : State) : State :=
  if s.sherd.pfFlush then s
  else
    let s1 := s.stage 6 true 0x0F 0 (powerPayload 4 0 0)
    let h := s1.sherd
    let (l, n) := shedLow h.staging h.lowBytes
    { s1 with sherd := { h with
        staging := l, headDone := if l.head?.map (fun (r : Rec) => r.rseq) == h.staging.head?.map (fun (r : Rec) => r.rseq) then h.headDone else 0
        pfFlush := true, lowShut := true, pfStart := s1.otime, flushLost := min 65535 n, flushOpen := true } }

/-- Every staged record goes to NAND, page by page. -/
def Sherd.flushAll : Nat → Sherd → Sherd
  | 0, h => h
  | fuel + 1, h => if h.staging.isEmpty then h else Sherd.flushAll fuel h.program
def Sherd.flush (h : Sherd) : Sherd := Sherd.flushAll (h.allBytes / pageBytes + 1) h

/-- The end of a power-fail flush (R654 items 4 and 5, R677). While the Sherd has stopped, nothing is programmed. -/
def State.flushEnd (s : State) : State :=
  let s1 : State := if s.sherd.stopped then s else { s with sherd := s.sherd.flush }
  let s2 := s1.stage 6 true 0x0F 0 (powerPayload 5 0 0)
  let h := if s2.sherd.stopped then s2.sherd else s2.sherd.flush
  { s2 with sherd := { h with
      pfFlush := false, lowShut := s.pmic.pfw, flushTime := min 65535 ((s.otime - h.pfStart) / 100)
      flushOpen := h.stopped && h.flushOpen } }

/-- STAGING_RECOVERY (R655): the power record of the start; then every record staged before the start whose CRC is right is flushed,
marked RECOVERED. `loss`: the start follows a power loss, which staging does not survive; `damaged`: records whose CRC is wrong. -/
def State.stagingRecovery (s : State) (cause : Nat) (loss : Bool) (damaged : List Word) : State :=
  let h := s.sherd
  let before (r : Rec) : Bool := !seqNewer h.startSeq r.rseq
  let good := if loss then [] else h.staging.filter (fun (r : Rec) => before r && !damaged.contains r.rseq)
  let open' := loss && h.flushOpen
  let lost := if open' then (h.startSeq - h.flushed).toNat else 0
  let old : List Rec := good.map (fun r => { r with recovered := true })
  let s1 : State := { s with sherd := { h with
    staging := h.staging.filter (fun (r : Rec) => !before r), headDone := 0, flushOpen := false, pfFlush := false, lowShut := false } }
  let s2 := s1.stage 6 true 0x0F 0 (powerPayload cause old.length lost)
  let h2 := s2.sherd
  let h3 : Sherd := if h2.stopped then { h2 with staging := old ++ h2.staging }
    else let f := Sherd.flush { h2 with staging := old }; { f with staging := h2.staging, headDone := 0 }
  let s3 : State := { s2 with sherd := h3 }
  let s4 := if open' then s3.raise 0x0F240008#32 else s3
  if old.isEmpty then s4 else s4.raise 0x0F020009#32 (be32 old.length)

/-- What every reset clears (R670). -/
def Sherd.restarted (h : Sherd) : Sherd :=
  { h with
    dropLow := 0, dropHigh := 0, dropTelem := 0, flushTime := 0, flushLost := 0, pfFlush := false, pagesNow := 0, fresh := []
    startSeq := h.rseq }

/-! ### telemetry (R70, R659, R660) -/

/-- The bit of a record type in a stream's mask (R659). -/
def maskBit (rtype : Nat) : Option Nat := if 1 ≤ rtype ∧ rtype ≤ 7 then some (rtype - 1) else if rtype = 16 then some 7 else none

/-- The records that a stream takes; every `decim`-th beat summary (R659). -/
def takeStream (x : Stream) : List Rec → List (List Byte) × Nat
  | [] => ([], x.beats)
  | r :: l =>
    let sel := match maskBit r.rtype with
      | some b => nbit x.mask b
      | none => false
    if !sel then takeStream x l
    else if r.rtype = 2 then
      (if x.decim ≤ x.beats + 1 then let (a, n) := takeStream { x with beats := 0 } l; (r.bytes :: a, n)
       else takeStream { x with beats := x.beats + 1 } l)
    else let (a, n) := takeStream x l; (r.bytes :: a, n)

/-- Record bytes for one datagram: taken, number of records or fragments, what remains, how much of its first has gone. -/
def fillOne : List (List Byte) → Nat → Nat → List Byte × Nat × List (List Byte) × Nat
  | [], _, _ => ([], 0, [], 0)
  | r :: l, ofs, room =>
    let left := r.drop ofs
    if left.length ≤ room then
      let (b, n, rest, o) := fillOne l 0 (room - left.length)
      (left ++ b, n + 1, rest, o)
    else if room = 0 then ([], 0, r :: l, ofs)
    else (left.take room, 1, r :: l, ofs + room)

/-- A stream in sending: index, what remains, how much of its first record has gone, DSEQ. -/
structure TeleJob where
  idx : Nat
  ip : Word
  port : U16
  rest : List (List Byte)
  ofs : Nat := 0
  dseq : Word

/-- Bytes on the wire around a UDP payload: Ethernet, IPv4 and UDP headers, PRP trailer, frame check. -/
def teleOverhead : Nat := 52

/-- One datagram of a stream, when the budget holds it (R660). -/
def teleOne (pcc : Word) (budget : Nat) (j : TeleJob) : TeleJob × Nat × List Output :=
  if j.rest.isEmpty then (j, budget, [])
  else
    let (b, n, rest, o) := fillOne j.rest j.ofs 1456
    let p := [0#8, 1#8, byteOf j.idx, byteOf n] ++ be32 j.dseq.toNat ++ be32 pcc.toNat ++ be16 j.ofs ++ zeros 2 ++ b
    if budget < p.length + teleOverhead then (j, budget, [])
    else ({ j with rest := rest, ofs := o, dseq := j.dseq + 1 }, budget - (p.length + teleOverhead), [.telemetry j.idx j.ip j.port p])

/-- A round over the streams. -/
def teleRound (pcc : Word) : List TeleJob → Nat → List TeleJob × Nat × List Output
  | [], b => ([], b, [])
  | j :: l, b =>
    let (j1, b1, o) := teleOne pcc b j
    let (l1, b2, os) := teleRound pcc l b1
    (j1 :: l1, b2, o ++ os)
/-- Rounds until the budget or the records are spent. -/
def teleRounds (pcc : Word) : Nat → List TeleJob → Nat → List TeleJob × List Output
  | 0, l, _ => (l, [])
  | fuel + 1, l, b =>
    let (l1, b1, o) := teleRound pcc l b
    if o.isEmpty then (l1, [])
    else
      let (l2, os) := teleRounds pcc fuel l1 b1
      (l2, o ++ os)

/-- TELEMETRY_SEND (R70, R660): the records staged since the last pick tick; `spare`: the pick leaves time for background work. -/
def State.telemetrySend (s : State) (spare : Bool) : State :=
  let h := s.sherd
  let on := s.warp.picks && !(s.sys.st == .off || s.sys.st == .boot || s.sys.st == .selftest || s.sys.st == .service)
  let s0 : State := { s with sherd := { h with fresh := [] } }
  if !on then s0
  else
    let taken := (List.zip (List.range 4) h.streams).map (fun (p : Nat × Stream) =>
      if p.2.enable then let (l, n) := takeStream p.2 h.fresh; (p.1, { p.2 with beats := n }, l) else (p.1, p.2, []))
    let jobs : List TeleJob := taken.map (fun (p : Nat × Stream × List (List Byte)) => { idx := p.1, ip := p.2.1.ip, port := p.2.1.port, rest := p.2.2, dseq := p.2.1.dseq })
    let (left, out) := teleRounds s.sys.pcc 64 jobs (if spare then 4096 else 0)
    let lost := left.foldl (fun (n : Nat) (j : TeleJob) => n + j.rest.length) 0
    let streams := (List.zip taken left).map (fun (p : (Nat × Stream × List (List Byte)) × TeleJob) => { p.1.2.1 with dseq := p.2.dseq })
    let s1 : State := State.emitAll { s0 with sherd := { s0.sherd with streams := streams, dropTelem := satAdd 4095 h.dropTelem lost } } out
    if lost = 0 then s1
    else State.raiseLimited { s1 with warp := { s1.warp with bgTelem := true } } 0x0F15000A 60000000 0x0F15000A#32

/-! ### freezes (R656, R657) -/

/-- A manual freeze: its id, and the state with it; none when four exist or the limit would be passed. -/
def State.manualFreeze (s : State) (lo hi : Nat) : Option (Nat × State) :=
  let h := s.sherd
  match freeId h.freezes [0, 1, 2, 3] with
  | none => none
  | some i =>
    let fz := aset i ({ lo := lo, hi := hi } : Freeze) h.freezes
    if h.freezeFits fz then some (i, State.raise { s with sherd := { h with freezes := fz } } 0x0F000006#32 [byteOf i]) else none

def State.releaseFreeze (s : State) (i : Nat) : State :=
  State.raise { s with sherd := { s.sherd with freezes := adel i s.sherd.freezes } } 0x0F000007#32 [byteOf i]

/-! ### readout (R658) -/

/-- The records of an area in RSEQ order. -/
def Sherd.records (h : Sherd) (arch : Bool) : List Rec := ((h.blocks arch).map (fun b => b.recs)).flatten

/-- RSEQ of the oldest record retained in an area; 0 when it holds none. -/
def Sherd.oldest (h : Sherd) (arch : Bool) : Word := match (h.records arch).head? with
  | some r => r.rseq
  | none => 0

/-- REC_READ's result: header and data (R658). -/
def Sherd.read (h : Sherd) (arch : Bool) (rseq : Word) (ofs : Nat) : List Byte :=
  let l := (h.records arch).filter (fun (r : Rec) => !seqNewer rseq r.rseq)
  let first : Option Word := l.head?.map (fun (r : Rec) => r.rseq)
  let hit := first == some rseq
  let start := if hit then ofs else 0
  let (b, n, rest, o) := fillOne (l.map Rec.bytes) start 1376
  let next : Word := match (l.drop (l.length - rest.length)).head? with
    | some r => r.rseq
    | none => h.flushed + 1
  let old := match (h.records arch).head? with
    | some r => seqNewer r.rseq rseq
    | none => false
  let gap := !hit && first.isSome && (!arch || old)
  be32 next.toNat ++ be16 o ++ [byteOf n, byteOf (fbit 0 rest.isEmpty + fbit 1 gap)] ++ b

/-! ### registers (R667, R668) -/

def Sherd.lowLimit (h : Sherd) : Bool := decide (stagingLow < h.lowBytes + 36)

/-- The value of a SHERD register. -/
def State.sherdReg (s : State) (off : Nat) : Word :=
  let h := s.sherd
  match off with
  | 0x00 => word (fbit 0 (s.warp.picks && !h.stopped) + fbit 1 h.stopped + fbit 2 h.pfFlush + fbit 3 h.lowLimit)
  | 0x04 => h.rseq
  | 0x08 => h.flushed
  | 0x0C => h.oldest false
  | 0x10 => h.oldest true
  | 0x14 => word (fld 0 13 (h.lowBytes / 1024) + fld 16 13 ((h.allBytes - h.lowBytes) / 1024))
  | 0x18 => word (h.dropLow + 4096 * h.dropHigh + 1048576 * h.dropTelem)
  | 0x1C => if s.warp.picks then word (min 65535 (h.erase.foldl (fun (m : Nat) (e : Nat × Nat) => max m e.2) 0) + 65536 * h.spare) else 0
  | 0x20 => word (h.flushTime + 65536 * h.flushLost)
  | 0x24 =>
    word (maskOf (fun i => (aget i h.freezes).isSome) (List.range 8) + 256 * (h.frozenBlocks h.freezes * 100 / max 1 h.ringSize))
  | _ => 0

/-- Recorder parameters (R665). -/
def recParamOk (d : DraftBase) : Bool := decide (d.rawDecim ≤ 100 ∧ 1 ≤ d.incidentMin ∧ d.incidentMin ≤ 60)

end Sys2Proof.Machine
end

