-- ==== Sys2Proof/Machine/Registers.lean ====
section
/-! DEFINITION. The register map as a whole and the memory regions: reads with what they latch or clear, writes by access code, what may
be read and written from outside (R14, R16, R27 to R29, R534, R549 to R552, R663, R669, R693, R694). -/

namespace Sys2Proof.Machine

/-! ### CMD, SEC, MON and the PMIC side of PWR -/

/-- The module has no CLIENT anchor (R527). -/
def Sec.unprov (c : Sec) : Bool := !c.anchors.any (fun (a : Anchor) => a.kind == 0)
/-- SAFETY_UNLOCK is locked (R537). -/
def State.lockedOut (s : State) : Bool := match s.sec.lockUntil with
  | some t => decide (s.otime < t)
  | none => false

/-- CMD registers (R549, R550). -/
def State.cmdReg (s : State) (off : Nat) : Word :=
  let c := s.cmd
  match off with
  | 0x00 => word (c.sessions.length % 32 + fbit 5 (c.sessions.any (fun (x : CmdSession) => s.holdsSafety x)) + fbit 6 s.lockedOut
      + fbit 7 (s.warp.picks && s.sec.unprov) + fbit 8 s.sec.bulk.isSome)
  | 0x04 => s.cause
  | 0x08 => word c.accCnt
  | 0x0C => word c.refCnt
  | 0x10 => word (c.lastRefStatus.toNat + 65536 * c.lastRefOpcode.toNat)
  | 0x14 => word (c.authHandshake + 65536 * c.authPassword)
  | _ => 0

/-- The slot of the running image, and the other one. -/
def Sec.running (c : Sec) : FwSlot := if c.bootedSlot then c.slot1 else c.slot0
def Sec.other (c : Sec) : FwSlot := if c.bootedSlot then c.slot0 else c.slot1

/-- SEC registers (R551, R552). -/
def State.secReg (s : State) (off : Nat) : Word :=
  let c := s.sec
  match off with
  | 0x00 => word (fbit 0 c.bootedSlot + fbit 1 (c.trial && c.bootedSlot == c.activeSlot) + fbit 2 c.password.isSome + fbit 3 c.draftOk
      + 16 * c.anchors.length + 256 * c.deny.length + 65536 * c.floor)
  | 0x04 => c.serialL
  | 0x08 => hi32 Config.serial.toNat
  | 0x0C => c.running.version
  | 0x10 => word (c.running.epoch % 256 + 256 * (if c.other.present then c.other.epoch % 256 else 0))
  | 0x14 => c.newestSeq
  | _ => 0
def State.latchSerial (s : State) : State := { s with sec := { s.sec with serialL := lo32 Config.serial.toNat } }
/-- SEC_SERIAL_H_READ (R551). -/
def execSecSerialHRead (s : State) : Host.Outcome State Fault Refusal :=
  .next ((s.latchSerial).emit (.regValue 0x40100008 (hi32 Config.serial.toNat)))

/-- MON registers (R669). -/
def State.monReg (s : State) (off : Nat) : Word :=
  let m := s.mon
  match off with
  | 0x00 => word (fbit 0 s.sys.svcEn + fbit 1 (s.sys.svcEn && s.sys.st == .service) + fbit 2 m.log + fbit 3 m.ovf)
  | 0x04 => word (m.exec + 4096 * m.refused + 16777216 * m.writes)
  | _ => 0

/-- A signed 16-bit field in tenths of a degree. -/
def temp16 (x : Int) : Nat := (BitVec.ofInt 16 x).toNat

/-- PMIC registers of PWR (R693, R694). -/
def State.pmicReg (s : State) (off : Nat) : Word :=
  let p := s.pmic
  match off with
  | 0x00 => word (fbit 0 p.pfw + fbit 1 p.holdOk + fbit 2 p.holdLow + fbit 3 p.vinOut + fbit 4 p.vbatLow + fbit 5 p.hot95
      + fbit 6 p.hot100 + fbit 7 p.rtcLost)
  | 0x04 => word p.vin
  | 0x08 => word p.hold
  | 0x0C => word p.vbat
  | 0x10 => word p.holdCap
  | 0x14 => word (min 0xFFFFFFFF p.holdEst)
  | 0x18 => word (p.railGood.toNat + 256 * p.railFault.toNat)
  | 0x1C => word p.rstCause
  | 0x20 => word (p.pfWarn + 65536 * p.pfWithdrawn)
  | 0x24 => word (temp16 p.tBase + 65536 * temp16 p.tLoom)
  | 0x28 => word (temp16 p.tKiln + 65536 * temp16 p.tPmic)
  | 0x2C => word p.inPwr
  | 0x30 => word p.peak
  | _ => 0

/-! ### the map (R27) -/

def regBase : Nat := 0x40000000
def regEnd : Nat := 0x40160000

/-- The value of a register by its block (ID − 1) and offset; an offset that no map lists reads as zero (R16). -/
def State.blockReg (s : State) (blk off : Nat) : Word :=
  match blk with
  | 0 => s.sysReg off
  | 1 => s.warpReg off
  | 2 => s.heddleReg off
  | 3 => s.obsReg off
  | 4 => s.wheelReg off
  | 5 => if 0xC00 ≤ off then s.guideReg (off - 0xC00) else s.allocReg off
  | 6 => s.loopReg off
  | 7 => s.gnssReg off
  | 8 => s.timeReg off
  | 9 => s.netReg off
  | 10 => s.fieldReg off
  | 11 => s.rioReg off
  | 12 => s.adcReg off
  | 13 => s.glazeReg off
  | 14 => s.sherdReg off
  | 15 => s.kilnReg off
  | 16 => s.secReg off
  | 17 => s.shuttleReg off
  | 18 => s.pairReg off
  | 19 => s.cmdReg off
  | 20 => s.monReg off
  | 21 => if off < 0x800 then s.pmicReg off else s.plantReg (off - 0x800)
  | _ => 0
/-- The present value behind a register. -/
def State.regNow (s : State) (a : Nat) : Word := s.blockReg ((a - regBase) / 65536) ((a - regBase) % 65536)

/-- n registers from an address. -/
def regRun (a n : Nat) : List Nat := (List.range n).map (fun i => a + 4 * i)

/-- The registers renewed at every pick (R259, R293, R330, R394, R477, R514, R549, R589, R591, R621, R642, R667, R669, R693); the
windows, and high words whose read latches a low word, are not among them. -/
def pickRegs : List Nat :=
  [0x4005000C] ++ regRun 0x40060000 6 ++ regRun 0x40070000 3 ++ [0x40080000] ++ regRun 0x40080010 6 ++ regRun 0x40080050 2
    ++ regRun 0x40090000 6 ++ [0x400A0000] ++ regRun 0x400B0000 6 ++ regRun 0x400C0000 7 ++ regRun 0x400E0000 10
    ++ [0x40110000, 0x40110004, 0x40110018, 0x4011001C, 0x40110020, 0x40110024] ++ regRun 0x40120000 8 ++ regRun 0x40130000 6
    ++ regRun 0x40140000 2 ++ regRun 0x40150000 13

/-- The acquisition and loop-core registers, renewed once per second (R330). -/
def secondRegs : List Nat := regRun 0x40070090 6
/-- The measurement registers, renewed at each latch (R356). -/
def latchRegs : List Nat := regRun 0x40070100 7

/-- The registers that show what they were last renewed with. -/
def shownRegs : List Nat := pickRegs ++ secondRegs ++ latchRegs

/-- A register as it is read. -/
def State.regAt (s : State) (a : Nat) : Word :=
  if shownRegs.contains a then (aget a s.shown).getD (s.regNow a) else s.regNow a

/-- n registers from an address, big-endian, as a reply carries them. -/
def State.regBytes (s : State) (a n : Nat) : List Byte := ((regRun a n).map (fun a => be32 (s.regAt a).toNat)).flatten

/-- Registers are renewed. -/
def State.renew (s : State) (l : List Nat) : State := s.shows (l.map (fun a => (a, s.regNow a)))

/-- High words whose read latches a low word (R77), and RC registers (R14): what their read does. -/
def readEffects : List (Nat × (State → State)) := [
  (0x40000014, State.latchOtime), (0x4001000C, State.latchPick), (0x40010014, State.latchBeat), (0x4001002C, State.latchEdge),
  (0x40040034, State.latchFp), (0x4004002C, State.clearEng), (0x40080008, State.latchDt), (0x400F0024, State.latchSeal),
  (0x4011000C, State.latchProg), (0x40110014, State.latchRet), (0x40110034, State.clearTaskstat), (0x40100008, State.latchSerial)]

/-- A read of a register: the value, and what the read does. -/
def State.readReg (s : State) (a : Nat) : State × Word :=
  match aget a readEffects with
  | some f => (f s, s.regAt a)
  | none => (s, s.regAt a)

def State.writeSwctl (s : State) (v : Word) : State := { s with glaze := { s.glaze with swCtl := v &&& 3 } }

/-- Registers of access code RW, and what their write does. -/
def rwWritesA : List (Nat × (State → Word → State)) := [
  (0x40020008, State.writeSesSel), (0x40020040, State.writeTrkSel), (0x40030028, State.writeObsSel), (0x40050010, State.writeThrsel),
  (0x40150810, State.writeSecsel), (0x40060018, State.writeSlotsel), (0x40070010, State.writeStrmsel), (0x40070040, State.writeGnssChsel),
  (0x40070120, State.writeSigsel), (0x40080030, State.writeSrcsel), (0x400F0018, State.writeWithhold), (0x400F002C, State.writeMbarg),
  (0x400F0034, State.writeKilnInsel)]
def rwWritesB : List (Nat × (State → Word → State)) := [
  (0x400F003C, State.writeKilnOutsel), (0x40110030, State.writeTasksel), (0x40090020, State.writePortsel), (0x40090040, State.writeNetSessel),
  (0x400A0010, State.writeUartsel), (0x400A0020, State.writeCansel), (0x400B0020, State.writeStasel), (0x400D0010, State.writePssel),
  (0x400D0030, State.writeSwsel), (0x400D0034, State.writeSwrun), (0x400D0038, State.writeSwctl), (0x400C0020, State.writeChsel)]
def rwWrites : List (Nat × (State → Word → State)) := rwWritesA ++ rwWritesB

/-- Registers of the other access codes that a write acts on: RWL, W1C, WO. -/
def otherWrites : List (Nat × (State → Word → State)) := [
  (0x40010000, State.writeWarpCfg), (0x40010020, State.writeWarpCone), (0x40010034, State.writeWarpBg), (0x400F0028, State.writeMbcmd),
  (0x400D003C, State.writeSwdata)]

/-- A write to a register acts by its access code; on any other offset it does nothing (R14, R16). -/
def State.writeReg (s : State) (a : Nat) (v : Word) : State :=
  match aget a (rwWrites ++ otherWrites) with
  | some f => f s v
  | none => s

/-- REGISTER_WRITE (R14). -/
def execRegisterWrite (a : Nat) (v : Word) (s : State) : Host.Outcome State Fault Refusal := .next (s.writeReg a v)

/-! ### memory from outside (R28, R29, R534) -/

/-- The regions of R28, as first address and length. -/
def regions : List (Nat × Nat) := [(0, 0x40000), (0x10000000, 0x6000000), (0x20000000, 0x4000000), (regBase, 0x160000)]
/-- A span of n bytes lies in one of some regions. -/
def spanIn (l : List (Nat × Nat)) (a n : Nat) : Bool := l.any (fun (r : Nat × Nat) => decide (r.1 ≤ a ∧ a + n ≤ r.1 + r.2))
/-- The General partition of the SRAM (R29). -/
def general : Nat × Nat := (0x10000000, 0x4000000)

/-- A byte as read from outside; outside the General partition the contents are free (log entry 5). -/
def State.byteAt (s : State) (k a : Nat) : Byte := if spanIn [general] a 1 then memRead s.mem a else Config.memByte k a

/-- n words from an address, as bytes at rising addresses; registers are little-endian (R12). -/
def State.readWords : Nat → Nat → State → State × List Byte
  | 0, _, s => (s, [])
  | n + 1, a, s =>
    let (s1, w) := if regBase ≤ a then let (t, v) := s.readReg a; (t, le32 v.toNat)
      else let (k, t) := s.draw; (t, (List.range 4).map (fun i => t.byteAt k (a + i)))
    let (s2, l) := State.readWords n (a + 4) s1
    (s2, w ++ l)

/-- The span may be written from outside: the General partition, or RW registers. -/
def writable (a n : Nat) : Bool :=
  spanIn [general] a n
    || (decide (0 < n) && n % 4 == 0 && (List.range (n / 4)).all (fun i => (aget (a + 4 * i) rwWrites).isSome))

/-- The span lies in the SRAM and touches a partition that another than the control cores owns (R29). -/
def ownedSpan (a n : Nat) : Bool := decide (0 < n ∧ 0x10000000 ≤ a ∧ a + n ≤ 0x16000000 ∧ 0x14000000 < a + n)

/-- A write from outside into a partition of another owner is blocked and discarded: SYS raises its integrity event of severity 4, class
0x2, whose NUM no table lists (R29, log entry 27). -/
def State.blockedWrite (s : State) : State := s.raise (BitVec.ofNat 32 (0x01420000 + Config.integrityEvent.toNat))

/-- The data is written. -/
def State.writeBytes (s : State) (a : Nat) (b : List Byte) : State :=
  if spanIn [general] a b.length then { s with mem := memWriteBytes s.mem a b }
  else (List.range (b.length / 4)).foldl (fun (t : State) i => t.writeReg (a + 4 * i) (BitVec.ofNat 32 (ofLe ((b.drop (4 * i)).take 4)))) s

/-- A write from outside with its ledger entry: address; length and the start of the data's SHA-256 (R546). -/
def State.writeOutside (s : State) (level : Nat) (actor : U64) (a : Nat) (b : List Byte) : State :=
  (s.writeBytes a b).ledger level actor 0x0060 (be64 a) (be32 b.length ++ (sha256 b).take 12)

end Sys2Proof.Machine
end

