-- ==== Sys2Proof/Machine/DraftCheck.lean ====
section
/-! DEFINITION. The Draft rules of every block (R543 item 5), with the event of the block that refuses. -/

namespace Sys2Proof.Machine

/-! ### HEDDLE (R82 to R88, R96, R97, R101, R117) -/

/-- A decoder table (R83 to R86). -/
def decTableOk (t : DecTable) : Bool :=
  -- formats 0x02, 0x03, 0x04 and 0x16 ignore SCALE, OFFSET and UNIT (R85); the match formats have no value to scale
  let scaled (f : Nat) : Bool := f == 1 || decide (0x10 ≤ f ∧ f ≤ 0x15)
  let ascii' (f : Nat) : Bool := decide (1 ≤ f ∧ f ≤ 6)
  let bin (f : Nat) : Bool := decide (0x10 ≤ f ∧ f ≤ 0x17)
  let wide (d : FieldDesc) : Bool := match d.fmt with
    | 0x12 => d.width == 32
    | 0x13 => d.width == 64
    | 0x14 => d.width == 32
    | 0x15 => d.width == 32
    | 0x16 => d.width == 80
    | _ => decide (1 ≤ d.width ∧ d.width ≤ 64)
  decide (t.id < 256) && decide (1 ≤ t.framing ∧ t.framing ≤ 5) && decide (1 ≤ t.desc.length ∧ t.desc.length ≤ 32)
    && decide (1 ≤ t.reckind ∧ t.reckind ≤ 9)
    && (mandatory t.reckind).all (fun m => t.desc.any (fun (d : FieldDesc) => d.dest == m))
    && t.desc.all (fun (d : FieldDesc) => (!scaled d.fmt || (decide (d.unit ≤ 4) && ffinite d.scale && ffinite d.offset))
      && (if t.framing = 1 then ascii' d.fmt && decide (if d.fmt = 1 ∧ d.dest = 0x30 then d.width ≤ 18 else d.width = 0)
          else bin d.fmt && wide d))

/-- The record kinds that a group admits (R117); kind 0x08 aside. -/
def groupAdmits (group : Nat) (moving : Bool) (kind : Nat) : Bool :=
  kind == 8 ||
  (match group with
   | 1 => kind == 1 || kind == 2 || (kind == 6 && !moving)
   | 2 => kind == 3
   | 3 => kind == 4
   | 4 => kind == 5
   | 5 => kind == 7
   | _ => true)

/-- HEDDLE's part. -/
def heddleParamOk (d : Draft) : Bool :=
  let h := d.heddle
  let within (x lo hi : F64) : Bool := fle lo x && fle x hi
  let tablesOf (p : Intake) : List DecTable := Machine.tablesOf d p.sess
  let timed (t : DecTable) : Bool := fills 0x20 t || fills 0x21 t || t.framing == 5
  let mountOk (p : Intake) : Bool :=
    !(p.group != 0 || (tablesOf p).any (fun (t : DecTable) => t.reckind == 6)) || (aget p.mount h.mounts).isSome
  let sig (x : F64) : Bool := flt 0 x && fle x (fofNat 1000)
  -- the standard deviations of the heading and the attitude group are held in radians, their unit is the degree
  let sigOf (p : Intake) : F64 := if p.group = 2 ∨ p.group = 3 then frad2deg p.sigma else p.sigma
  let one (p : Intake) : Bool :=
    decide (p.timing ≤ 2 ∧ p.latencyUs ≤ 1000000 ∧ 10 ≤ p.maxAgeMs ∧ p.maxAgeMs ≤ 1000 ∧ p.mount < 64 ∧ p.group ≤ 5)
      && within p.arrFactor (fofNat 1) (fofNat 100) && mountOk p
      && (p.timing != 0 || (tablesOf p).all timed)
      && (p.timing != 2 || (tablesOf p).all (fun (t : DecTable) => t.framing == 4))
      && (tablesOf p).all (fun (t : DecTable) => groupAdmits p.group p.moving t.reckind)
      && (p.group == 0 || sig (sigOf p))
      && (!feedsHeave d p || sig p.heaveSigma)
      && decide (p.classMap.length = 10) && p.classMap.all (fun c => decide (c ≤ 7))
      && decide (p.mult.length = 7) && p.mult.all (fun m => within m (fofRat 1 10) (fofNat 100))
      && within p.sigRho (fofRat 1 1000) (fofNat 10) && within p.sigBeta (fdeg2rad (fofRat 1 100)) (fdeg2rad (fofNat 10))
  let unit (i : Nat) (x : F64) : F64 := if i = 1 ∨ i = 2 then fdeg2rad x else x
  decide (h.tables.length ≤ 256 ∧ h.mounts.length ≤ 64 ∧ h.reflectors.length ≤ 64 ∧ h.groups.length = 5)
    && h.tableImages.all tableBytesOk && h.tables.all decTableOk
    && decide ((h.tables.map (fun (t : DecTable) => t.id)).eraseDups.length = h.tables.length)
    && (intakesOf d).all one
    && d.sessions.all (fun (r : SessRec) => r.tables.all (fun t => h.tables.any (fun (x : DecTable) => x.id == t)))
    && (List.zip (List.range 5) h.groups).all (fun (p : Nat × GroupParam) =>
      within p.2.gmin (unit p.1 (fofRat 1 100)) (unit p.1 (fofNat 10)) && within p.2.k (fofNat 2) (fofNat 10)
        && decide (1 ≤ p.2.minSel ∧ p.2.minSel ≤ 4))

/-! ### NET (R580, R614), ALLOC (R228), RIO -/

/-- The check-value sets that sessions name (R614). -/
def sessGlazeOk (d : Draft) : Bool :=
  let set (i : Nat) : Option Nat :=
    if i = 0 ∨ i = 1 then some 32 else if i = 2 then some 24 else if i = 3 then some 16
    else (aget i d.glaze).map (fun (g : GlazeSet) => g.width)
  d.sessions.all (fun (r : SessRec) =>
    (r.glaze == 255 || (set r.glaze).isSome) && (!(r.kind == 8 || r.kind == 9) || set r.glaze == some 32))

def draftKind (d : Draft) (i : Nat) : Nat := match d.sessions.find? (fun (r : SessRec) => r.index == i) with
  | some r => r.kind
  | none => 0
/-- ⌈w/8⌉ of a set in a Draft, 0 for none. -/
def draftSetBytes (d : Draft) (i : Nat) : Nat :=
  if i = 0 ∨ i = 1 then 4 else if i = 2 then 3 else if i = 3 then 2
  else match aget i d.glaze with
    | some g => glazeBytes g
    | none => 0

/-- Steps of the horizon schedule; 0 without one. -/
def draftHorizon (d : Draft) : Nat := (d.wheel.scheds.filter (fun (w : WheelSched) => w.role == 2)).foldl (fun m w => max m w.hSteps) 0

/-- PAIR's parameters (R475). -/
def pairParamOk (p : DraftPair) : Bool := decide (p.mode ≤ 1 ∧ p.rejoin ≤ 1 ∧ p.diverge ≤ 1)

/-! ### all blocks, in the order of their IDs (R27, R543) -/

/-- The rules with the event of the block that states them. -/
def draftRules (d : Draft) : List (Word × Bool) :=
  let n := beatLen d.base.nsel
  [(0x0213000E#32, decide (d.base.nsel.toNat ≤ 4) && !(n == 5 && decide (0 < draftHorizon d))),
   (0x0313000F#32, heddleParamOk d),
   (0x0413000F#32, obsParamOk d.obs),
   (0x0513000D#32, wheelParamOk d.wheel n),
   (0x06130001#32, allocParamOk d.alloc (draftHorizon d) (fun i => draftKind d i == 8)),
   (0x0613010F#32, guideParamOk d.guide),
   (0x0713000F#32, loopParamOk d.loop d.alloc.thr),
   (0x0813000F#32, gnssSignalsOk d.gnss && gnssMeasOk d.gnss),
   (0x0913000F#32, timeParamOk d.time),
   (0x0A13000F#32, d.sessionImages.all sessBytesOk && sessionsOk d.sessions && netParamOk d.net && sessGlazeOk d),
   (0x0B13000F#32, fieldParamOk d.net),
   (0x0C13000F#32, stationsOk (draftSetBytes d) (draftKind d) d.net.replyGroup d.stations),
   (0x0D13000F#32, adcParamOk d.adc),
   (0x0E13000F#32, d.glazeImages.all (fun e => glazeBytesOk e.2) && glazeParamOk d.glaze),
   (0x0F13000F#32, recParamOk d.base),
   (0x1213000F#32, twProgOk d.shuttle),
   (0x1313000F#32, pairParamOk d.pair),
   (0x1613010F#32, plantParamOk d.plant)]

/-- The event of the first block that refuses a Draft; none where every block accepts its part. -/
def draftRefusal (d : Draft) : Option Word := ((draftRules d).find? (fun (p : Word × Bool) => !p.2)).map Prod.fst

end Sys2Proof.Machine
end

