-- ==== Sys2Proof/Machine/Restart.lean ====
section
/-! DEFINITION. Resets and starts: what each reset leaves standing, the closing of command sessions, the start of the firmware, and
entries into STANDBY (R47, R125, R332, R360, R448, R524, R544, R593, R625, R632, R670, R682, R686). -/

namespace Sys2Proof.Machine

/-! ### command sessions (R524) -/

/-- A command session, or an entry in handshake, ends: its entry is free, its transfer is aborted, SAFETY goes with it (R524, R536,
R544). -/
def State.closeSession (s : State) (i : Nat) : State :=
  let open' := (s.cmdSess i).isSome
  let s1 : State := { s with
    cmd := { s.cmd with sessions := s.cmd.sessions.filter (fun (x : CmdSession) => x.idx != i) }
    sess := s.sess.filter (fun (p : Nat × Session) => !(p.1 == i && p.2.kind == 0x0A))
    sec := { s.sec with bulk := match s.sec.bulk with
      | some b => if b.sess = i then none else some b
      | none => none } }
  if open' then s1.raise 0x14050002#32 else s1

/-- Every command session ends (R524). -/
def State.closeSessions (s : State) : State := s.cmd.sessions.foldl (fun (a : State) (x : CmdSession) => a.closeSession x.idx) s

/-! ### starts (R47, R682, R684, R686) -/

/-- The firmware runs: SELFTEST, picks from zero, and the events of the start (R47, R674, R682). -/
def State.firmwareRuns (s : State) : State :=
  let s1 := State.setSt { s with warp := { s.warp with picks := true, pickCount := 0 } } .selftest
  let s2 := s1.raise 0x16040009#32 [byteOf s.pmic.rstCause]
  if s.pmic.rtcLost && (s.pmic.rstCause == 1 || s.pmic.rstCause == 7) then s2.raise 0x16240005#32 else s2

/-- What a reset of the Loom leaves: MRAM and NAND, staging, the Kiln, the Selvedge's saved values, links; every register and the
working state of every block return to their reset values (R682). -/
def State.loomCleared (s : State) (code : Nat) : State :=
  let sys := s.sys
  { s with
    sys := { st := sys.st, pcc := sys.pcc, svcEn := sys.svcEn, pairSeat := sys.pairSeat }
    clk := { s.clk with est := false, sub := 0 }
    warp := {}
    heddle := {}
    obs := { warm0 := s.obs.warm0, warm1 := s.obs.warm1, warmSeq := s.obs.warmSeq }
    wheel := { slot0 := s.wheel.slot0, slot1 := s.wheel.slot1, slotSeq := s.wheel.slotSeq }
    guide := {}
    alloc := { thr := s.alloc.thr.map (fun (x : Thr) => { capSeq := x.capSeq }) }
    plant := { di := s.plant.di }
    loop := {}
    rio := {}
    adc := { cic := s.adc.cic, chans := s.adc.chans.map (fun (x : AdcCh) => { saved := x.saved, shunt := x.shunt }) }
    shuttle := {
      starts := s.shuttle.starts, journal := s.shuttle.journal, journalId := s.shuttle.journalId, journalOk := s.shuttle.journalOk
      forces := s.shuttle.forces, change := s.shuttle.change, prog := s.shuttle.prog }
    mirror := []
    kport := { chal := s.kport.chal, seq := s.kport.seq }
    pair := { epoch := s.pair.epoch, fresh := true }
    copies := []
    shown := []
    time := s.time.restarted
    gnss := {}
    sess := []
    net := s.net.restarted
    field := {}
    glaze := {}
    cmd := {}
    sec := { s.sec with bulk := none, draftOk := false, serialL := lo32 Config.serial.toNat }
    sherd := s.sherd.restarted
    mon := {}
    pmic := { s.pmic with rstCause := code, peak := 0, pwrLog := [], heldReset := none }
    limits := [] }

/-- Sessions and interfaces of the Draft in force stand provisioned (R582, R591). -/
def State.provisioned (s : State) : State := (s.sessionsReset false).fieldStart

/-- A reset of the Loom with the code of R682: 2 is the warm restart, which goes to SELFTEST with picks from zero; every other begins
at BOOT. An ordered restart closes the command sessions and ends the Heddle's contradictions and selections with their events (R125);
the other resets cut the firmware off. -/
def State.loomReset (s : State) (code : Nat) : State :=
  let s0 := if code = 2 ∨ code = 3 then s.closeSessions.heddleStop else s
  let s1 := ((if code = 2 then s0.shuttleStop else s0).setSt (if code = 2 then .selftest else .boot)).loomCleared code
  if code = 2 then
    State.raise (State.provisioned { s1 with warp := { s1.warp with picks := true } }) 0x16040009#32 [2#8]
  else s1

/-- A reset that falls between a power-fail warning and the end of the flush is held until the flush is complete; without firmware no
flush runs, and it is held until the warning ends (R678). -/
def State.resetOrHold (s : State) (code : Nat) : State :=
  if s.sherd.pfFlush || (s.pmic.pfw && s.sys.st == .boot) then { s with pmic := { s.pmic with heldReset := some code } }
  else s.loomReset code

/-- A held reset acts. -/
def State.heldActs (s : State) : State := match s.pmic.heldReset with
  | some c => s.resetOrHold c
  | none => s

/-! ### entries into STANDBY (R50, R297, R480, R518, R520, R632) -/

/-- The analog chains start with an active Draft (R632). -/
def State.adcStandby (s : State) : State := if s.draft.isSome then s.adcStart else s.adcStop

/-- STANDBY from READY, SAFE or SERVICE: the SAFE causes end, beats, Shuttle and baseband stop, the analog chains start anew. -/
def State.goStandby (s : State) : State :=
  let s1 : State := { s with cmd := { s.cmd with safe := 0, serviceBy := none } }
  (s1.goIdle .standby).adcStandby

end Sys2Proof.Machine
end

