-- ==== Sys2Proof/Machine/DraftAct.lean ====
section
/-! DEFINITION. Draft staging, activation and reversion, and bulk transfers (R81, R125, R153, R176, R198, R227, R263, R296, R332,
R358, R392, R397, R437, R479, R502, R517, R543, R544, R593, R625, R632, R644). -/

namespace Sys2Proof.Machine

/-- The seal identity of the Kiln's table as mirrored (KILN_SEAL_L, KILN_SEAL_H). -/
def State.sealNow (s : State) : U64 := BitVec.ofNat 64 ((s.mirrorWord 0x20).toNat + 4294967296 * (s.mirrorWord 0x24).toNat)

/-- What an activation clears in the reference and control blocks (R125, R153, R176, R198, R227, R263, R296). DESIGN CHOICE (log
entry 130): telegrams not yet decoded and what the last started beat handed on go with the old Draft; the registers of the last
started beat stand. -/
def State.activateControl (s : State) : State :=
  let h := s.heddle
  let w := s.wheel
  { s with
    heddle := {
      sesSel := h.sesSel, winTime := h.winTime, winOfs := h.winOfs, winDrift := h.winDrift, winCnt := h.winCnt, winErr := h.winErr
      trkSel := h.trkSel, trkStat := h.trkStat, trkRng := h.trkRng, trkBrg := h.trkBrg
      statReg := h.statReg, grpRegs := h.grpRegs, oldest := h.oldest }
    obs := s.obs.activated
    wheel := { w.stopped with missCnt := 0, accCnt := 0, mismatch := 0, aged := 0, pivCnt := 0, refac := 0, projCnt := 0, recs := [], useSlots := true }
    guide := {}
    alloc := {
      thr := s.alloc.thr.map (fun (x : Thr) => { capSeq := x.capSeq }), sel := s.alloc.sel, selStat := s.alloc.selStat
      selFx := s.alloc.selFx, selFy := s.alloc.selFy, selPwr := s.alloc.selPwr, selCapF := s.alloc.selCapF, selCapP := s.alloc.selCapP
      selAz := s.alloc.selAz }
    plant := {
      diPend := s.plant.diPend, di := s.plant.di, diEdge := s.plant.diEdge, gooseSim := s.plant.gooseSim, sel := s.plant.sel
      selCont := s.plant.selCont, selSt := s.plant.selSt, selAlloc := s.plant.selAlloc, selEst := s.plant.selEst, selLoad := s.plant.selLoad }
    loop := s.loop.activated }

/-- What it clears in the receiver, the interfaces and the Shuttle (R332, R358, R479, R517, R593, R625, R644). -/
def State.activateRest (s : State) (d : Draft) : State :=
  { s with
    warp := { s.warp with nsel := d.base.nsel }
    gnss := s.gnss.activated
    shown := []
    net := s.net.activated
    rio := { s.rio.cleared with sel := s.rio.sel, win := s.rio.win }
    glaze := s.glaze.activated
    adc := s.adc.activated
    pair := s.pair.activated
    shuttle := { s.shuttle with
      prog := d.shuttle, forces := [], blocked := 0, fault := 0, corr := 0, syncAge := 0, tasks := [], caps := [], leadSync := none
      agreed := none }
    sec := { s.sec with draftOk := true } }

/-- The new Draft is active: the previous one is kept, the force table is emptied with its ledger entry, every block starts from the
new part, and the Kiln gets its table when the seal identity changed (R437, R502, R543, R546). -/
def State.activateDraft (s : State) (x : CmdSession) (d : Draft) (revert : Bool) : State :=
  let forces := s.shuttle.forces
  let s1 : State := { s with
    prevDraft := s.draft, draft := some d, staged := if revert then s.staged else none
    kport := { s.kport with change := sealIdOf d.kiln != s.sealNow } }
  let s2 := (s1.activateControl).activateRest d
  let s3 := s2.ledgerBy x (if revert then 2 else 1) (be64 d.base.ident.toNat) (be64 d.pair.print.toNat ++ be64 (sealIdOf d.kiln).toNat)
  let s4 := if forces.isEmpty then s3 else (s3.ledgerBy x 3 (be64 forces.length) []).raise 0x12000008#32
  let s5 := ((s4.sessionsReset true).fieldStart).timeActivated
  (if s5.net.ready then ((s5.applyIp Config.serial).igmp false).igmp true else s5).adcStart

/-- Items 1 to 3 of R543 as far as they give a 0x1xxx status. -/
def State.draftBad (s : State) (img : Option Draft) (id : U64) : Option Nat :=
  match img with
  | none => some 0x1010
  | some d =>
    if d.base.ident != id then some 0x1010
    else if !s.sec.anchored 1 d.base.sigKey then some 0x1020
    else if sealIdOf d.kiln != s.sealNow && !s.sec.anchored 2 d.base.coKey then some 0x1020
    else none
/-- A changed Kiln table needs SAFETY (R543 item 3). -/
def State.draftPerm (s : State) (img : Option Draft) (x : CmdSession) : Option Nat :=
  match img with
  | some d => if sealIdOf d.kiln != s.sealNow && !s.holdsSafety x then some 0x3001 else none
  | none => none

/-- DRAFT_ACTIVATE and DRAFT_REVERT; `mram` tells whether the commit succeeds. -/
def State.draftCommand (s : State) (h : Hdr) (op : Nat) (img : Option Draft) (id : U64) (revert mram : Bool) : State :=
  s.command h (cmdSpec op) (s.draftBad img id) ((s.at 750000).draftPerm img) (fun t x =>
    match img with
    | none => .refuse 0x1010 0
    | some d =>
      match draftRefusal d with
      | some e => .refuseWith (t.raise e) 0x2014 e.toNat
      | none => if mram then .done (t.activateDraft x d revert) [] else .refuse 0x5002 0)

/-- DRAFT_ACTIVATE (R543). -/
def execDraftActivate (h : Hdr) (id : U64) (mram : Bool) (s : State) : Host.Outcome State Fault Refusal :=
  .next (s.draftCommand h 0x0410 s.staged id false mram)
/-- DRAFT_REVERT (R543). -/
def execDraftRevert (h : Hdr) (id : U64) (mram : Bool) (s : State) : Host.Outcome State Fault Refusal :=
  .next (s.draftCommand h 0x0412 s.prevDraft id true mram)
/-- DRAFT_DISCARD (R543). -/
def execDraftDiscard (h : Hdr) (s : State) : Host.Outcome State Fault Refusal :=
  .next (s.simple h 0x0411 (fun t _ => .done { t with staged := none } []))

/-! ### bulk transfers (R544) -/

/-- Sizes of the staging targets: Draft, online change, firmware slot. -/
def targetSize (t : Nat) : Nat :=
  match t with
  | 1 => 33554432
  | 2 => 4194304
  | _ => 50331648

/-- BULK_OPEN. -/
def execBulkOpen (h : Hdr) (target len : Nat) (digest : List Byte) (s : State) : Host.Outcome State Fault Refusal :=
  .next (s.command h (cmdSpec 0x0A01) (if 1 ≤ target ∧ target ≤ 3 then none else some 0x1004) (fun _ => none) (fun t _ =>
    if t.sec.bulk.isSome then .refuse 0x4001 0
    else if targetSize target < len then .refuse 0x4003 0
    else .done { t with sec := { t.sec with
      bulk := some { sess := h.sess, target := target, length := len, digest := digest, lastWrite := t.otime } } } []))

/-- The open transfer of a session. -/
def State.bulkOf (s : State) (i : Nat) : Option Bulk := match s.sec.bulk with
  | some b => if b.sess = i then some b else none
  | none => none

/-- BULK_WRITE: the offset is the number of bytes received so far. -/
def execBulkWrite (h : Hdr) (ofs : Nat) (data : List Byte) (s : State) : Host.Outcome State Fault Refusal :=
  let bad := match s.bulkOf h.sess with
    | some b => if ofs = b.received.length then none else some 0x1004
    | none => none
  .next (s.command h (cmdSpec 0x0A02) bad (fun _ => none) (fun t _ => match t.bulkOf h.sess with
    | none => .refuse 0x2006 0
    | some b => .done { t with sec := { t.sec with
        bulk := some { b with received := b.received ++ data, lastWrite := t.otime } } } []))

/-- The image signature verifies: a Draft and an online change against the DRAFT anchors, firmware by its operand (R525, R544). -/
def State.imageOk (s : State) (target : Nat) (img : BulkImage) : Bool :=
  match img with
  | .draft d => target == 1 && s.sec.anchored 1 d.base.sigKey
  | .change c => target == 2 && s.sec.anchored 1 c.sigKey
  | .firmware _ _ ok => target == 3 && ok

/-- The inactive firmware slot. -/
def Sec.setInactive (c : Sec) (f : FwSlot) : Sec := if c.activeSlot then { c with slot0 := f } else { c with slot1 := f }
def Sec.inactive (c : Sec) : FwSlot := if c.activeSlot then c.slot0 else c.slot1

/-- The image is staged. -/
def State.stageImage (s : State) (img : BulkImage) : State :=
  let s1 : State := { s with sec := { s.sec with bulk := none } }
  match img with
  | .draft d => { s1 with staged := some d }
  | .change c => { s1 with shuttle := { s1.shuttle with change := some c } }
  | .firmware v e _ => { s1 with sec := s1.sec.setInactive { present := true, version := v, epoch := e } }

/-- BULK_CLOSE: length and digest, then the signature; `img` is what the received bytes spell, `nand` whether the staging write
succeeds. -/
def execBulkClose (h : Hdr) (img : BulkImage) (nand : Bool) (s : State) : Host.Outcome State Fault Refusal :=
  let bad := match s.bulkOf h.sess with
    | some b =>
      if !(b.received.length == b.length && sha256 b.received == b.digest) then some 0x1021
      else if !s.imageOk b.target img then some 0x1020 else none
    | none => none
  .next (s.command h (cmdSpec 0x0A03) bad (fun _ => none) (fun t _ => match t.bulkOf h.sess with
    | none => .refuse 0x2006 0
    | some _ => if nand then .done (t.stageImage img) [] else .refuse 0x5002 0))

/-- BULK_ABORT. -/
def execBulkAbort (h : Hdr) (s : State) : Host.Outcome State Fault Refusal :=
  .next (s.simple h 0x0A04 (fun t _ => match t.bulkOf h.sess with
    | none => .refuse 0x2006 0
    | some _ => .done { t with sec := { t.sec with bulk := none } } []))

/-- BULK_TIMEOUT: 60 s without a BULK_WRITE. -/
def execBulkTimeout (s : State) : Host.Outcome State Fault Refusal :=
  .next (match s.sec.bulk with
    | some b => if b.lastWrite + 60000000 ≤ s.otime then { s with sec := { s.sec with bulk := none } } else s
    | none => s)

end Sys2Proof.Machine
end

