-- ==== Sys2Proof/Machine/AdminCmd.lean ====
section
/-! DEFINITION. Information commands, the commands of the module state, firmware and anchors, ledger and recorder readout, telemetry,
memory, GNSS and time commands (R304, R391, R518 to R521, R533, R534, R541, R542, R547, R657 to R659). -/

namespace Sys2Proof.Machine

/-! ### information (R533, R534) -/

/-- PING: an empty success. -/
def execPing (h : Hdr) (s : State) : Host.Outcome State Fault Refusal := .next (s.simple h 0x0100 (fun t _ => .done t []))

/-- GET_IDENTITY: SYS_ID, serial number, firmware version and epoch, key identifier of the device certificate. -/
def State.identity (s : State) : List Byte :=
  be32 (s.sysReg 0).toNat ++ be64 Config.serial.toNat ++ be32 s.sec.running.version.toNat ++ [byteOf s.sec.running.epoch]
    ++ be64 Config.deviceKey.toNat
def execGetIdentity (h : Hdr) (s : State) : Host.Outcome State Fault Refusal :=
  .next (s.simple h 0x0101 (fun t _ => .done t t.identity))

/-- GET_STATE: CMD_CAUSE, SYS_STATE, DP mode, OBS_STAT, WARP_STAT. -/
def State.stateReport (s : State) : List Byte :=
  be32 s.cause.toNat ++ be32 (s.sysReg 4).toNat ++ [byteOf (if s.warp.run then s.guide.mode else 0)] ++ be32 (s.obsReg 0).toNat
    ++ be32 (s.warpReg 4).toNat
def execGetState (h : Hdr) (s : State) : Host.Outcome State Fault Refusal :=
  .next (s.simple h 0x0102 (fun t _ => .done t t.stateReport))

/-- GET_CERTIFICATE: up to 1,024 bytes from an offset, and the total length. -/
def execGetCertificate (h : Hdr) (start : Nat) (s : State) : Host.Outcome State Fault Refusal :=
  .next (s.simple h 0x0103 (fun t _ =>
    .done t ((Config.certChain.drop start).take 1024 ++ be32 Config.certChain.length)))

/-- GET_DRAFT_INFO: identity, pair fingerprint, PROGID, RETID, SEALID, and the identities of the staged Draft and online change;
zero where there is none. -/
def State.draftInfo (s : State) : List Byte :=
  let print : U64 := match s.draft with
    | some d => d.pair.print
    | none => 0
  let ident (d : Option Draft) : U64 := match d with
    | some x => x.base.ident
    | none => 0
  let change : U64 := match s.shuttle.change with
    | some c => c.prog.progId
    | none => 0
  ([ident s.draft, print, s.shuttle.prog.progId, s.shuttle.prog.retId, s.sealNow, ident s.staged, change].map
    (fun (w : U64) => be64 w.toNat)).flatten
def execGetDraftInfo (h : Hdr) (s : State) : Host.Outcome State Fault Refusal :=
  .next (s.simple h 0x0104 (fun t _ => .done t t.draftInfo))

/-! ### module state (R518 to R521, R534, R682) -/

/-- GO_READY. -/
def execGoReady (h : Hdr) (s : State) : Host.Outcome State Fault Refusal :=
  .next (s.simple h 0x0201 (fun t _ => if t.draft.isSome then .done t.goReady [] else .refuse 0x2004 0))

/-- The Kiln is in RUN and every SAFEMOD output of its table is ON (R427, R534). -/
def State.safemodsOn (s : State) : Bool :=
  let outs : List KOutRec := match s.draft with
    | some d => (kilnTable d.kiln).outs
    | none => []
  (List.range outs.length).all (fun o => match outs[o]? with
    | some r => !(r.used && nbit r.flags 1) || nbit (s.mirrorWord 0x0C).toNat o
    | none => true)

/-- GO_ACTIVE: the entry waits for the next beat edge (R53). -/
def execGoActive (h : Hdr) (s : State) : Host.Outcome State Fault Refusal :=
  .next (s.simple h 0x0202 (fun t _ =>
    if t.kilnRun && t.safemodsOn then .done { t with sys := { t.sys with pending := some .active } } [] else .refuse 0x2003 0))

/-- GO_SAFE: at once. -/
def execGoSafe (h : Hdr) (s : State) : Host.Outcome State Fault Refusal :=
  .next (s.simple h 0x0203 (fun t _ => .done (t.enterSafe 0) []))

/-- LEAVE_SAFE: refused while LOOMFAULT, KILNFAULT or SELFTEST is set or the Kiln is not in RUN; to READY with a Draft, else to
STANDBY. -/
def execLeaveSafe (h : Hdr) (s : State) : Host.Outcome State Fault Refusal :=
  .next (s.simple h 0x0204 (fun t _ =>
    if t.cmd.safe &&& 0x92#8 != 0 || !t.kilnRun then .refuse 0x2003 0
    else if t.draft.isSome then .done (State.goReady { t with cmd := { t.cmd with safe := 0 } }) []
    else .done t.goStandby []))

/-- GO_STANDBY. -/
def execGoStandby (h : Hdr) (s : State) : Host.Outcome State Fault Refusal :=
  .next (s.simple h 0x0205 (fun t _ => .done t.goStandby []))

/-- ENTER_SERVICE: only with SVC_EN high; the session's level and actor stand for the monitor's writes (R664). -/
def execEnterService (h : Hdr) (s : State) : Host.Outcome State Fault Refusal :=
  .next (s.command h (cmdSpec 0x0206) none (fun _ => if s.sys.svcEn then none else some 0x3004) (fun t x =>
    .done (State.goIdle { t with cmd := { t.cmd with serviceBy := some (t.levelOf x, x.actor) } } .service) []))

/-- RESTART: the reply leaves, then the restart begins (R531). -/
def execRestart (h : Hdr) (kind : Nat) (s : State) : Host.Outcome State Fault Refusal :=
  .next (s.command h (cmdSpec 0x0207) (if kind ≤ 1 then none else some 0x1004) (fun _ => none) (fun t _ =>
    .thenDo t (fun u => u.resetOrHold (if kind = 0 then 2 else 3))))

/-! ### firmware and anchors (R541, R542) -/

/-- FIRMWARE_ACTIVATE: the inactive slot is active on trial; then a cold restart. -/
def execFirmwareActivate (h : Hdr) (flags : Nat) (mram : Bool) (s : State) : Host.Outcome State Fault Refusal :=
  let bad := if 1 < flags then some 0x1001 else if s.sec.inactive.present then none else some 0x1010
  .next (s.command h (cmdSpec 0x0440) bad (fun _ => none) (fun t x =>
    if mram then
      let f := t.sec.inactive
      let c := t.sec
      let t1 : State := { t with sec := { c with
        activeSlot := !c.activeSlot, trial := true, trialBoots := 0, trialFloor := nbit flags 0 } }
      .thenDo (t1.ledgerBy x 0x0030 (be64 (b2n t1.sec.activeSlot)) (be32 f.version.toNat ++ be32 f.epoch))
        (fun u => u.resetOrHold 3)
    else .refuse 0x5002 0))

/-- Adding or removing this entry requires SAFETY. -/
def safetyAnchor (kind level : Nat) : Bool := kind == 2 || (kind == 0 && level == 3)

/-- ANCHOR_ADD; the operands give the key identifier of the certificate carried and whether it is one of R525. -/
def execAnchorAdd (h : Hdr) (kind level : Nat) (keyId : U64) (certOk mram : Bool) (s : State) : Host.Outcome State Fault Refusal :=
  let bad := if kind ≤ 3 ∧ (if kind = 0 then level ≤ 3 else level = 0) ∧ (kind = 3 ∨ certOk) then none else some 0x1004
  .next (s.command h (cmdSpec 0x0450) bad
    (fun x => if safetyAnchor kind level && !(s.at 750000).holdsSafety x then some 0x3001 else none)
    (fun t x =>
      let c := t.sec
      if (kind = 3 ∧ 64 ≤ c.deny.length) ∨ (kind ≠ 3 ∧ 8 ≤ c.anchors.length) then .refuse 0x4001 0
      else if !mram then .refuse 0x5002 0
      else
        let c1 : Sec := if kind = 3 then { c with deny := c.deny ++ [keyId] }
          else { c with anchors := c.anchors ++ [{ kind := kind, level := level, keyId := keyId }] }
        .done ((State.ledgerBy { t with sec := c1 } x 0x0040 (be64 keyId.toNat) [byteOf kind, byteOf level]).raise 0x11070003#32) []))

/-- The entries that an ANCHOR_REMOVE names. -/
def Sec.named (c : Sec) (kind : Nat) (keyId : U64) : List Anchor := c.anchors.filter (fun (a : Anchor) => a.kind == kind && a.keyId == keyId)
def Sec.hasEntry (c : Sec) (kind : Nat) (keyId : U64) : Bool := if kind = 3 then c.deny.contains keyId else !(c.named kind keyId).isEmpty
def Sec.without (c : Sec) (kind : Nat) (keyId : U64) : Sec :=
  if kind = 3 then { c with deny := c.deny.filter (fun k => k != keyId) }
  else { c with anchors := c.anchors.filter (fun (a : Anchor) => !(a.kind == kind && a.keyId == keyId)) }

/-- ANCHOR_REMOVE. -/
def execAnchorRemove (h : Hdr) (kind : Nat) (keyId : U64) (mram : Bool) (s : State) : Host.Outcome State Fault Refusal :=
  .next (s.command h (cmdSpec 0x0451) (if s.sec.hasEntry kind keyId then none else some 0x1004)
    (fun x => if (kind == 3 || (s.sec.named kind keyId).any (fun (a : Anchor) => safetyAnchor a.kind a.level)) && !(s.at 750000).holdsSafety x then
      some 0x3001 else none)
    (fun t x =>
      let c1 := t.sec.without kind keyId
      if !c1.anchors.any (fun (a : Anchor) => a.kind == 0 && decide (2 ≤ a.level)) then .refuse 0x2005 0
      else if !mram then .refuse 0x5002 0
      else .done ((State.ledgerBy { t with sec := c1 } x 0x0041 (be64 keyId.toNat) [byteOf kind]).raise 0x11070003#32) []))

/-- ANCHOR_LIST: their number, then kind, level and key identifier of each anchor and deny entry. -/
def State.anchorList (s : State) : List Byte :=
  byteOf (s.sec.anchors.length + s.sec.deny.length)
    :: ((s.sec.anchors.map (fun (a : Anchor) => [byteOf a.kind, byteOf a.level] ++ be64 a.keyId.toNat)).flatten
      ++ (s.sec.deny.map (fun (k : U64) => [3#8, 0#8] ++ be64 k.toNat)).flatten)
def execAnchorList (h : Hdr) (s : State) : Host.Outcome State Fault Refusal :=
  .next (s.simple h 0x0452 (fun t _ => .done t t.anchorList))

/-! ### the ledger (R547) -/

def entrySeq (e : List Byte) : Word := BitVec.ofNat 32 (ofBe (e.take 4))

/-- LEDGER_INFO: oldest and newest SEQ, SHA-256 of the newest entry. -/
def State.ledgerInfo (s : State) : List Byte :=
  match s.sec.ledger.head?, s.sec.ledger.getLast? with
  | some a, some b => be32 (entrySeq a).toNat ++ be32 (entrySeq b).toNat ++ sha256 b
  | _, _ => zeros 40
def execLedgerInfo (h : Hdr) (s : State) : Host.Outcome State Fault Refusal :=
  .next (s.simple h 0x0420 (fun t _ => .done t t.ledgerInfo))

/-- LEDGER_READ: the retained entries among `count` from a first SEQ. -/
def execLedgerRead (h : Hdr) (first : Word) (count : Nat) (s : State) : Host.Outcome State Fault Refusal :=
  .next (s.command h (cmdSpec 0x0421) (if 1 ≤ count ∧ count ≤ 8 then none else some 0x1004) (fun _ => none) (fun t _ =>
    .done t ((t.sec.ledger.filter (fun (e : List Byte) => decide ((entrySeq e - first).toNat < count))).flatten)))

/-! ### recorder and telemetry (R657 to R659) -/

/-- An OTIME on the wire: hours, microseconds within the hour. -/
def otimeBytes (t : Nat) : List Byte := be32 (t / 3600000000) ++ be32 (t % 3600000000)

/-- A freeze in REC_STATUS: id, span in OTIME, RSEQ of the first and the last record inside. -/
def Sherd.freezeEntry (h : Sherd) (f : Nat × Freeze) : List Byte :=
  let l := (h.records false).filter (fun (r : Rec) => decide (f.2.lo ≤ r.otimeUs ∧ r.otimeUs ≤ f.2.hi))
  let q (r : Option Rec) : Nat := match r with
    | some x => x.rseq.toNat
    | none => 0
  byteOf f.1 :: (otimeBytes f.2.lo ++ otimeBytes f.2.hi ++ be32 (q l.head?) ++ be32 (q l.getLast?))

/-- REC_STATUS: SHERD_STAT to SHERD_FRZ, and each freeze. -/
def State.recStatus (s : State) : List Byte :=
  s.regBytes 0x400E0000 10
    ++ ((s.sherd.freezes.map (fun (f : Nat × Freeze) => s.sherd.freezeEntry f)).flatten)
def execRecStatus (h : Hdr) (s : State) : Host.Outcome State Fault Refusal :=
  .next (s.simple h 0x0601 (fun t _ => .done t t.recStatus))

/-- REC_READ; `fixes` is the largest number of bit corrections per 512 bytes that the pages read needed. -/
def execRecRead (h : Hdr) (area : Nat) (rseq : Word) (ofs fixes : Nat) (s : State) : Host.Outcome State Fault Refusal :=
  .next (s.command h (cmdSpec 0x0602) (if area ≤ 1 ∧ !seqNewer s.sherd.flushed rseq then none else some 0x1004) (fun _ => none)
    (fun t _ => .done (t.wornRead (area == 1) rseq fixes) (t.sherd.read (area == 1) rseq ofs)))

/-- REC_FREEZE: the span in OTIME, hours and microseconds within the hour. -/
def execRecFreeze (h : Hdr) (fromH fromUs toH toUs : Word) (s : State) : Host.Outcome State Fault Refusal :=
  let lo := fromH.toNat * 3600000000 + fromUs.toNat
  let hi := toH.toNat * 3600000000 + toUs.toNat
  let ok := decide (fromUs.toNat < 3600000000 ∧ toUs.toNat < 3600000000 ∧ lo ≤ hi ∧ hi ≤ (s.at 750000).otime + 3600000000)
  .next (s.command h (cmdSpec 0x0603) (if ok then none else some 0x1004) (fun _ => none) (fun t _ =>
    match t.manualFreeze lo hi with
    | some r => .done r.2 [byteOf r.1]
    | none => .refuse 0x2003 0))

/-- REC_RELEASE. -/
def execRecRelease (h : Hdr) (i : Nat) (s : State) : Host.Outcome State Fault Refusal :=
  .next (s.command h (cmdSpec 0x0604) (if i ≤ 7 ∧ (aget i s.sherd.freezes).isSome then none else some 0x1004) (fun _ => none)
    (fun t _ => .done (t.releaseFreeze i) []))

/-- TELEM_CONFIG; `mram` tells whether the configuration is saved. -/
def execTelemConfig (h : Hdr) (i enable : Nat) (ip : Word) (port : U16) (mask decim : Nat) (mram : Bool) (s : State) :
    Host.Outcome State Fault Refusal :=
  .next (s.command h (cmdSpec 0x0605)
    (if i ≤ 3 ∧ enable ≤ 1 ∧ mask < 256 ∧ 1 ≤ decim ∧ decim ≤ 100 then none else some 0x1004) (fun _ => none) (fun t _ =>
    if mram then
      .done { t with sherd := { t.sherd with streams := modifyAt t.sherd.streams i (fun (x : Stream) => { x with
        enable := enable == 1, ip := ip, port := port, mask := mask, decim := decim }) } } []
    else .refuse 0x5002 0))

/-! ### memory (R28, R534) -/

/-- A span that may be read: in a region of R28, registers by whole words. -/
def readable (a n : Nat) : Bool := spanIn regions a n && (decide (a < regBase) || a % 4 == 0)

/-- MEM_READ. -/
def execMemRead (h : Hdr) (a n : Nat) (s : State) : Host.Outcome State Fault Refusal :=
  let bad := if !(decide (4 ≤ n ∧ n ≤ 1024) && n % 4 == 0) then some 0x1004 else if readable a n then none else some 0x1005
  .next (s.command h (cmdSpec 0x0901) bad (fun _ => none) (fun t _ =>
    let r := t.readWords (n / 4) a
    .done r.1 r.2))

/-- MEM_WRITE: each write makes a ledger entry; one into a partition of another owner leaves the event of R29. -/
def execMemWrite (h : Hdr) (a : Nat) (b : List Byte) (mram : Bool) (s : State) : Host.Outcome State Fault Refusal :=
  let t := s.command h (cmdSpec 0x0902) (if writable a b.length then none else some 0x1005) (fun _ => none) (fun t x =>
    if mram then .done (t.writeOutside (t.levelOf x) x.actor a b) [] else .refuse 0x5002 0)
  .next (if ownedSpan a b.length && s.evaluates h then t.blockedWrite else t)

/-! ### the pair (R474) -/

/-- PAIR_STATUS: the registers PAIR_STAT to PAIR_MIRAGE. -/
def execPairStatus (h : Hdr) (s : State) : Host.Outcome State Fault Refusal :=
  .next (s.simple h 0x0801 (fun t _ => .done t (t.regBytes 0x40120000 8)))

/-! ### GNSS and time (R304, R385, R391) -/

/-- GNSS_RETRAIN. -/
def execGnssRetrain (h : Hdr) (mask : Nat) (s : State) : Host.Outcome State Fault Refusal :=
  .next (s.command h (cmdSpec 0x0910) (if 1 ≤ mask ∧ mask ≤ 7 then none else some 0x1004) (fun _ => none) (fun t _ =>
    if !t.gnss.run || t.gnssGroups.any (fun a => nbit mask a && (t.gnss.busy.contains a || t.gnss.queue.contains a)) then
      .refuse 0x2001 (cmdSpec 0x0910).detail
    else .done (t.gnssRetrain mask) []))

/-- TIME_STATUS: TIME_STAT to TIME_STEPCNT and the three source windows. -/
def execTimeStatus (h : Hdr) (s : State) : Host.Outcome State Fault Refusal :=
  .next (s.simple h 0x0701 (fun t _ => .done t
    (t.regBytes 0x40080000 10
      ++ ((t.srcWindow 0 ++ t.srcWindow 1 ++ t.srcWindow 2).map (fun (w : Word) => be32 w.toNat)).flatten)))

/-- A source is switched: off it is DISABLED and leaves the set, on it begins anew. -/
def State.useSource (s : State) (i : Nat) (on : Bool) : State :=
  let s1 := s.setSrc i { s.src i with off := !on }
  State.reselect (s1.setSrc i (s1.srcStart i))

/-- TIME_SOURCE_USE. -/
def execTimeSourceUse (h : Hdr) (i use' : Nat) (s : State) : Host.Outcome State Fault Refusal :=
  .next (s.command h (cmdSpec 0x0710) (if i ≤ 2 ∧ use' ≤ 1 then none else some 0x1004) (fun _ => none) (fun t _ =>
    if use' = 1 ∧ (t.rank i).isNone then .refuse 0x2001 (cmdSpec 0x0710).detail else .done (t.useSource i (use' == 1)) []))

/-- TIME_REESTABLISH: EST is cleared; the next qualified source sets DTIME in either direction. -/
def State.unestablish (s : State) : State :=
  let s1 := if s.time.hold then s.exitHold else s
  State.setTp { s1 with clk := { s1.clk with est := false }, time := { s1.time with tpSince := none } } false
def execTimeReestablish (h : Hdr) (s : State) : Host.Outcome State Fault Refusal :=
  .next (s.simple h 0x0711 (fun t _ => .done t.unestablish []))

end Sys2Proof.Machine
end

