-- ==== Sys2Proof/Machine/Pmic.lean ====
section
/-! DEFINITION. The PMIC: what it reads in a pick, power-up and power-down, the power-fail warning and the hold-up, HOLD, rail faults,
temperature, and the resets it gives (R671 to R695). -/

namespace Sys2Proof.Machine

/-! ### HOLD and power (R679) -/

/-- t_hold in 0.1 ms from C in µF and P in mW: 0.92 × ½ × C × (48² − 16²) / P (R679). -/
def holdTime (c p : Nat) : Nat := if p = 0 then 0xFFFFFFFF else min 0xFFFFFFFF (94208 * c / (10 * p))

/-- The estimate follows C and P; HOLDLOW and its event once per crossing below 60 ms. -/
def State.holdEstimate (s : State) : State :=
  let p := s.pmic
  if p.holdCap = 0 then s
  else
    let e := holdTime p.holdCap p.peak
    let low := decide (e < 600)
    let s1 : State := { s with pmic := { p with holdEst := e, holdLow := low } }
    if low && !p.holdLow then s1.raise 0x16240004#32 else s1

/-- The largest one-second mean of the last 60 s. -/
def Pmic.logPower (p : Pmic) (now w : Nat) : Pmic :=
  let l := (now, w) :: (p.pwrLog.filter (fun (e : Nat × Nat) => decide (now < e.1 + 60000000 ∧ w < e.2)))
  { p with inPwr := w, pwrLog := l, peak := l.foldl (fun (m : Nat) (e : Nat × Nat) => max m e.2) 0 }

/-- A condition that holds since an OTIME. -/
def heldSince (cond : Bool) (old : Option Nat) (now : Nat) : Option Nat := if cond then some (old.getD now) else none

/-- VIN lies in a warning band (R673). -/
def vinBand (v : Nat) : Bool := decide ((16500 ≤ v ∧ v < 18000) ∨ (36000 < v ∧ v ≤ 40000))
/-- A temperature lies beyond its shutdown limit (R690). -/
def tooHot (v : PowerIn) : Bool := decide (1100 < v.tBase ∨ 1250 < v.tLoom ∨ 1250 < v.tKiln)

/-- What the PMIC reads in a pick (R673, R679, R690, R693). -/
def State.powerPick (s : State) (v : PowerIn) : State :=
  let now := s.otime
  let p := s.pmic.logPower now v.inPwr
  let band := vinBand v.vin
  let ok := decide (45000 ≤ v.hold)
  let s1 : State := { s with pmic := { p with
    vin := v.vin, hold := v.hold, vbat := v.vbat, railGood := v.rails, vbatLow := decide (v.vbat < 2500)
    tBase := v.tBase, tLoom := v.tLoom, tKiln := v.tKiln, tPmic := v.tPmic
    hot95 := decide (950 < v.tBase), hot100 := decide (1000 < v.tBase)
    holdOk := ok, waitHold := p.waitHold && !ok, vinOut := p.vinOut && band
    bandSince := heldSince band p.bandSince now, hotSince := heldSince (tooHot v) p.hotSince now } }
  let s2 := if s1.pmic.hot95 && !p.hot95 then s1.raise 0x16240006#32 else s1
  let s3 := if s2.pmic.hot100 && !p.hot100 then s2.raise 0x16340007#32 else s2
  s3.holdEstimate

/-- VIN_OUT_OF_BAND (R673): in a warning band for 1 s. -/
def execVinOutOfBand (s : State) : Host.Outcome State Fault Refusal :=
  .next (match s.pmic.bandSince with
    | some t => if t + 1000000 ≤ s.otime ∧ !s.pmic.vinOut then
        State.raise { s with pmic := { s.pmic with vinOut := true } } 0x16240003#32 else s
    | none => s)

/-- A measured capacitance in µF. -/
def State.holdMeasured (s : State) (c : Nat) : State :=
  State.holdEstimate { s with pmic := { s.pmic with holdCap := c, capAt := s.otime } }

/-- µF from the microseconds that a discharge of 2 V into 50 mA took, and from the microcoulombs that a charge delivered between 20 and
40 V (R679). -/
def capOfDischarge (us : Nat) : Nat := us * 50 / 2000
def capOfCharge (uc : Nat) : Nat := uc / 20

/-- HOLD_CAPACITANCE_MEASURE (R679): every hour, by a 2 V discharge into 50 mA that took `us` microseconds. -/
def execHoldCapacitanceMeasure (us : Nat) (s : State) : Host.Outcome State Fault Refusal :=
  .next (if s.sys.st != .off && decide (s.pmic.capAt + 3600000000 ≤ s.otime) then s.holdMeasured (capOfDischarge us) else s)

/-- HOLD_CHARGE_COMPLETE (R679, R681): HOLD reaches 45 V; `uc` microcoulombs went in while it rose from 20 to 40 V. -/
def execHoldChargeComplete (uc : Nat) (s : State) : Host.Outcome State Fault Refusal :=
  .next (if s.sys.st = .off then s
    else State.holdMeasured { s with pmic := { s.pmic with holdOk := true, waitHold := false } } (capOfCharge uc))

/-- HOLD_CHARGE_TIMEOUT (R681): 1.0 s after charging began; the start goes on. -/
def execHoldChargeTimeout (s : State) : Host.Outcome State Fault Refusal :=
  .next (if s.sys.st != .off && s.pmic.waitHold && !s.pmic.holdOk && decide (s.pmic.chargeAt + 1000000 ≤ s.otime) then
      State.raise { s with pmic := { s.pmic with waitHold := false, holdLow := true } } 0x1624000B#32
    else s)

/-! ### power-fail warning (R676 to R678) -/

/-- The firmware runs: every state from SELFTEST on. -/
def State.firmware (s : State) : Bool := !(s.sys.st == .off || s.sys.st == .boot)

/-- The warning, and the blocks that act on it: Sherd, Observer, Wheel, time base; the Shuttle's journal is written at each commit
(R145, R176, R361, R492, R654). -/
def State.powerFail (s : State) (thermal : Bool) : State :=
  if s.pmic.pfw then { s with pmic := { s.pmic with pfwThermal := s.pmic.pfwThermal || thermal } }
  else
    let s1 := State.raise { s with pmic := { s.pmic with pfw := true, pfwThermal := thermal, pfWarn := sat16 s.pmic.pfWarn } }
      0x16240001#32
    if s1.firmware then
      let s2 := s1.powerFailFlush
      let s3 := if s2.warp.run then (s2.writeWarm).copyRecord else s2
      s3.saveTime
    else s1

/-- POWER_FAIL_WARNING (R676). -/
def execPowerFailWarning (s : State) : Host.Outcome State Fault Refusal :=
  .next (if s.sys.st = .off then s else s.powerFail false)

/-- WARNING_WITHDRAWN (R677): never after a thermal shutdown; a flush in progress runs to its end. -/
def execWarningWithdrawn (s : State) : Host.Outcome State Fault Refusal :=
  .next (if s.pmic.pfw && !s.pmic.pfwThermal then
      let s1 := State.raise { s with
        pmic := { s.pmic with pfw := false, pfWithdrawn := sat16 s.pmic.pfWithdrawn }
        sherd := { s.sherd with lowShut := s.sherd.pfFlush } } 0x16040002#32
      s1.heldActs
    else s)

/-- FLUSH_COMPLETE (R654, R678). -/
def execFlushComplete (s : State) : Host.Outcome State Fault Refusal :=
  .next (if s.sherd.pfFlush then s.flushEnd.heldActs else s)

/-! ### power-down and power-up (R675, R682) -/

/-- The PMIC powers down: what MRAM, NAND and the always-on domain hold stays. A start that ends here before its firmware was verified
counts as a boot on trial (R678). -/
def State.powerOff (s : State) : State :=
  let t := s.loomCleared s.pmic.rstCause
  let p := s.pmic
  let n := t.net
  let boots := if s.sys.st == .boot && s.sec.trial then s.sec.trialBoots + 1 else s.sec.trialBoots
  { t with
    sys := { t.sys with st := .off, loomFault := false }
    warp := { t.warp with picks := false }
    kiln := {}, kport := {}, mem := []
    net := { saved := n.saved, prpSeq := 0, hsrSeq := 0 }
    sec := { t.sec with trialBoots := boots }
    sherd := { t.sherd with staging := [], headDone := 0 }
    pmic := {
      rstCause := p.rstCause, pfWarn := p.pfWarn, pfWithdrawn := p.pfWithdrawn, thermalOff := p.pfwThermal
      rtcDead := s.sys.clkFail.getLsbD 8 } }

/-- HOLD_UP_END (R676): HOLD has fallen to 16.0 V. -/
def execHoldUpEnd (s : State) : Host.Outcome State Fault Refusal := .next (if s.pmic.pfw then s.powerOff else s)

/-- Power-up from OFF with its code: PCC and time from MRAM and the always-on clock, the Kiln in LOAD, BOOT (R360 to R362, R675, R682,
R684). `shown`: what the real-time clock shows, none when it was lost; with CLK_AON failed it has kept no time (R35). -/
def State.powerUp (s : State) (code : Nat) (shown : Option Nat) : State :=
  let t := s.loomCleared code
  let p := s.pmic
  let rtc := if p.rtcDead then none else shown
  { t with
    sys := { t.sys with st := .boot, pcc := if s.sys.pcc = 0xFFFFFFFF#32 then s.sys.pcc else s.sys.pcc + 1 }
    clk := { est := false, sub := 0, tick := rtc.getD s.time.savedDtime, otimeUs := s.time.savedOtime + 1000000 }
    kiln := { powered := true }
    pmic := {
      rstCause := code, rtcLost := rtc.isNone, waitHold := true, chargeAt := s.time.savedOtime + 1000000
      capAt := s.time.savedOtime + 1000000
      pfWarn := if rtc.isSome then p.pfWarn else 0, pfWithdrawn := if rtc.isSome then p.pfWithdrawn else 0 } }

/-- POWER_UP (R675): VIN reaches 17.0 V with the module OFF. -/
def execPowerUp (rtc : Option Nat) (s : State) : Host.Outcome State Fault Refusal :=
  .next (if s.sys.st = .off ∧ !s.pmic.thermalOff then s.powerUp 1 rtc else s)

/-! ### resets (R682, R683) -/

/-- The Loom is held in reset until the next power-up from OFF (R683). -/
def Pmic.loomHeld (p : Pmic) : Bool := p.held.getLsbD 1

/-- A reset source acts while the Loom has power and is not held. -/
def State.resetBy (s : State) (code : Nat) : State := if s.sys.st = .off ∨ s.pmic.loomHeld then s else s.resetOrHold code

/-- RST_N_LOW (R682): low for 10 µs or more. -/
def execRstNLow (s : State) : Host.Outcome State Fault Refusal := .next (s.resetBy 4)
/-- PMIC_WATCHDOG_EXPIRY (R682): 100 ms without service from control-core pair 0. -/
def execPmicWatchdogExpiry (s : State) : Host.Outcome State Fault Refusal := .next (s.resetBy 5)

/-- The Selvedge is in reset: every used output reads back wrong (R418, R683). -/
def Kiln.readbackLost (k : Kiln) : Kiln :=
  match k.tbl with
  | some t => kOuts.foldl (fun (a : Kiln) o => match t.outs[o]? with
    | some r => if r.used && (a.outs.getD o {}).st != 3 then a.outFault o 6 else a
    | none => a) k
  | none => k

/-- RAIL_FAULT (R683): group 0 Kiln, 1 Loom, 2 Selvedge, 3 MRAM, 4 NAND. -/
def execRailFault (rail : Nat) (s : State) : Host.Outcome State Fault Refusal :=
  .next (if s.sys.st = .off ∨ 5 ≤ rail then s
    else
      let bit : BitVec 5 := BitVec.ofNat 5 (2 ^ rail)
      let s1 := State.raise { s with pmic := { s.pmic with
        railFault := s.pmic.railFault ||| bit, railGood := s.pmic.railGood &&& ~~~bit } } 0x1644000A#32
      match rail with
      | 0 => State.enterSafe { s1 with kiln := {}, pmic := { s1.pmic with held := s1.pmic.held ||| 1#3 } } 4
      | 2 => { s1 with kiln := s1.kiln.readbackLost, pmic := { s1.pmic with held := s1.pmic.held ||| 4#3 } }
      | _ =>
        let again := match s1.pmic.railAt with
          | some t => decide (s1.otime ≤ t + 10000000)
          | none => false
        let s2 := s1.loomReset 6
        { s2 with pmic := { s2.pmic with
          railAt := some s1.otime, held := if again then s2.pmic.held ||| 2#3 else s2.pmic.held } })

/-! ### temperature (R690) -/

/-- THERMAL_SHUTDOWN: a temperature beyond its limit for 10 ms. -/
def execThermalShutdown (s : State) : Host.Outcome State Fault Refusal :=
  .next (match s.pmic.hotSince with
    | some t => if t + 10000 ≤ s.otime ∧ !s.pmic.pfwThermal ∧ s.sys.st ≠ .off then (s.raise 0x16440008#32).powerFail true else s
    | none => s)

/-- THERMAL_RECOVERY: after the shutdown, baseplate below 90 °C and every junction below 110 °C. -/
def execThermalRecovery (tBase tLoom tKiln tPmic : Int) (rtc : Option Nat) (s : State) : Host.Outcome State Fault Refusal :=
  .next (if s.sys.st = .off ∧ s.pmic.thermalOff ∧ tBase < 900 ∧ tLoom < 1100 ∧ tKiln < 1100 ∧ tPmic < 1100 then s.powerUp 7 rtc
    else s)

end Sys2Proof.Machine
end

