-- ==== Sys2Proof/Machine/Boot.lean ====
section
/-! DEFINITION. The start after a reset: the boot ROM's verification of the firmware, the self-tests, what follows the first arrival at
STANDBY (R437, R518, R521, R540, R541, R543, R547, R584, R618, R655, R681, R684 to R686). -/

namespace Sys2Proof.Machine

/-! ### BOOT (R540, R541) -/

/-- An image on trial that has not reached STANDBY within three boots is abandoned; otherwise this boot counts. -/
def Sec.bootBegins (c : Sec) : Sec :=
  if !c.trial then c
  else if 3 ≤ c.trialBoots then { c with trial := false, trialBoots := 0, activeSlot := !c.activeSlot }
  else { c with trialBoots := c.trialBoots + 1 }

/-- A slot whose hash and signature are right and whose epoch is not below the floor. -/
def FwSlot.valid (f : FwSlot) (ok : Bool) (floor : Nat) : Bool := f.present && ok && decide (floor ≤ f.epoch)

/-- The slot that the ROM boots: the active one, else the other. -/
def Sec.bootSlot (c : Sec) (ok0 ok1 : Bool) : Option Bool :=
  let v (b : Bool) : Bool := if b then c.slot1.valid ok1 c.floor else c.slot0.valid ok0 c.floor
  if v c.activeSlot then some c.activeSlot else if v (!c.activeSlot) then some (!c.activeSlot) else none

/-- BOOT_VERIFY_COMPLETE: the strap PAIR_SEAT, whether hash and signature of slots 0 and 1 are right, the microseconds BOOT took. -/
def execBootVerifyComplete (seat ok0 ok1 : Bool) (us : Nat) (s : State) : Host.Outcome State Fault Refusal :=
  .next (if s.sys.st ≠ .boot ∨ s.sys.bootFailed ∨ s.pmic.loomHeld then s
    else
      let c := s.sec.bootBegins
      let s1 : State := { s with
        sys := { s.sys with pairSeat := seat }
        clk := { s.clk with sub := 0, tick := s.clk.tick + us * 1000, otimeUs := s.clk.otimeUs + us } }
      match c.bootSlot ok0 ok1 with
      | none => { s1 with sec := c, sys := { s1.sys with bootFailed := true } }
      | some b =>
        let other := b != c.activeSlot
        let s2 := State.firmwareRuns { s1 with sec := { c with bootedSlot := b, slotFailed := other } }
        let s3 := s2.raise 0x11040001#32 (byteOf (b2n b) :: be32 s2.sec.running.version.toNat)
        let s4 := if other then State.raise { s3 with sec := { s3.sec with slotFailed := false } } 0x11340002#32 else s3
        s4.provisioned)

/-! ### SELFTEST (R518, R655, R684 to R686) -/

/-- Cause of the start's power record (R682). -/
def startCause (code : Nat) : Nat := if code = 1 ∨ code = 7 then 1 else if code = 2 then 2 else 3

/-- The active Draft verifies: its stored image is whole, and its signature verifies against a DRAFT anchor; its beat length is in
force from then on (R48, R540, R543). -/
def State.verifyDraft (s : State) (whole : Bool) : State :=
  match s.draft with
  | none => { s with sec := { s.sec with draftOk := false } }
  | some d =>
    if whole && s.sec.anchored 1 d.base.sigKey then
      { s with warp := { s.warp with nsel := d.base.nsel }, sec := { s.sec with draftOk := true } }
    else (State.provisioned { s with draft := none, sec := { s.sec with draftOk := false } }).raise 0x11430005#32

/-- FIRMWARE_CONFIRM (R541). -/
def State.confirm (s : State) : State :=
  let c := s.sec
  if !(c.trial && c.bootedSlot == c.activeSlot) then s
  else
    let f := c.running
    let slot := be64 (b2n c.bootedSlot)
    let s1 := State.raise { s with sec := { c with trial := false, trialBoots := 0, trialFloor := false } } 0x11030006#32
    let s2 := s1.ledger 0xFF 0 0x0031 slot (be32 f.version.toNat ++ be32 f.epoch)
    if c.trialFloor then
      (State.raise { s2 with sec := { s2.sec with floor := max c.floor f.epoch } } 0x11070007#32).ledger 0xFF 0 0x0032
        (be64 (max c.floor f.epoch)) []
    else s2

/-- The first arrival at STANDBY after a start: chains, network, Kiln seal comparison, confirmation, AUTOREADY (R437, R521, R541, R584,
R632, R686). -/
def State.standbyReached (s : State) : State :=
  let s1 := (((s.setSt .standby).adcStandby).netReady Config.serial).confirm
  match s1.draft with
  | some d =>
    let s2 : State := { s1 with kport := { s1.kport with change := s1.kilnRun && sealIdOf d.kiln != s1.sealNow } }
    if d.base.autoReady then s2.goReady else s2
  | none => s1

/-- The ledger as MRAM gives it back: (entry, byte, value) for each byte that is no longer the one written. -/
def ledgerHit (l : List (List Byte)) (hits : List (Nat × Nat × Byte)) : List (List Byte) :=
  hits.foldl (fun (m : List (List Byte)) h => modifyAt m h.1 (fun e => e.set h.2.1 h.2.2)) l

/-- Signature of an entry, and its place in the chain after `prev` (R545). -/
def entryOk (prev : Option (List Byte)) (e : List Byte) : Bool :=
  e.drop 96 == (Config.ledgerSig (e.take 96)).toList && (match prev with
    | some p => (e.drop 64).take 32 == sha256 p
    | none => true)
def chainOk : Option (List Byte) → List (List Byte) → Bool
  | _, [] => true
  | p, e :: l => entryOk p e && chainOk (some e) l
/-- Signatures and chain of the newest 16 entries (R547). -/
def ledgerOk (l : List (List Byte)) : Bool :=
  let older := l.take (l.length - 16)
  chainOk older.getLast? (l.drop (l.length - 16))

/-- The trip-line test (R685): after the mismatch injected into each comparator in turn the Kiln reported TRIP in the next heartbeat, and
then released it. -/
def tripTest (l : List (Bool × Bool)) : Bool := l.all (fun e => e.1 && e.2)

/-- SELFTEST_COMPLETE: the self-tests' verdict, what the trip-line test saw of each line (reported, released), the Glaze units that
failed, whether the Draft's image in MRAM is whole, what MRAM has lost of the ledger, the staged records whose CRC is wrong. -/
def execSelftestComplete (ok : Bool) (trips : List (Bool × Bool)) (glazeBad : BitVec 16) (draftWhole : Bool) (hits : List (Nat × Nat × Byte))
    (damaged : List Word) (s : State) : Host.Outcome State Fault Refusal :=
  .next (if s.sys.st ≠ .selftest ∨ s.pmic.waitHold then s
    else
      let code := s.pmic.rstCause
      let s0 : State := { s with sec := { s.sec with ledger := ledgerHit s.sec.ledger hits } }
      let s1 := s0.stagingRecovery (startCause code) (startCause code == 1) damaged
      let s2 := if ledgerOk s0.sec.ledger then s1 else s1.raise 0x11220004#32
      let s3 := (s2.glazeSelftest glazeBad).verifyDraft draftWhole
      let pass := ok && (tripTest trips || code == 2) && glazeBad == 0
      if pass then s3.standbyReached else (s3.raise 0x01440004#32).enterSafe 7)

end Sys2Proof.Machine
end

