-- ==== Sys2Proof/Machine/CmdSess.lean ====
section
/-! DEFINITION. Command sessions, the safety password and packets that are refused before they are judged (R22, R524 to R528, R535 to
R538, R586). -/

namespace Sys2Proof.Machine

/-! ### admission and handshake (R524 to R527, R586) -/

/-- Command entries ADMITTED or LIVE. -/
def State.cmdEntries (s : State) : Nat := countP (fun (p : Nat × Session) => p.2.kind == 0x0A && (p.2.st == .admitted || p.2.st == .live)) s.sess
/-- The lowest free entry of the session table. -/
def State.freeEntry (s : State) : Option Nat := (List.range 512).find? (fun i => (s.session i).isNone)

def Net.deferOne (n : Net) : Net := { n with deferred := sat16 n.deferred }

/-- A ClientHello with a valid cookie (R586). -/
def State.helloAdmit (s : State) : State :=
  if !s.net.admitOpen || decide (32 ≤ s.net.createdNow) then { s with net := s.net.deferOne }
  else if 16 ≤ s.cmdEntries then (s.emit (.frame 0 "DTLS alert" [])).raise 0x14150003#32
  else match s.freeEntry with
    | none => { s with net := s.net.deferOne }
    | some i =>
      let s1 := s.setSession i { st := .admitted, kind := 0x0A, lastValid := some s.now, changes := 1 }
      { s1 with net := { s1.net with createdNow := s1.net.createdNow + 1, admitted := sat16 s1.net.admitted } }

/-- CLIENT_HELLO on a port; `cookie` tells a valid cookie of the last 10 s. -/
def execClientHello (p : Nat) (cookie : Bool) (t : Ns) (s : State) : Host.Outcome State Fault Refusal :=
  let s0 := (s.at t).netPick
  .next (
    if !s0.net.ready then { s0 with net := { s0.net with prenr := sat32 s0.net.prenr } }
    else if 2 ≤ p then s0.unprov p
    else if cookie then s0.helloAdmit
    else if 32 ≤ s0.net.retryNow then s0
    else State.emit { s0 with net := { s0.net with retryNow := s0.net.retryNow + 1 } } (.frame p "HelloRetryRequest" []))

/-- An entry in handshake is freed. -/
def State.dropEntry (s : State) (i : Nat) : State :=
  { s with sess := s.sess.filter (fun (p : Nat × Session) => !(p.1 == i && p.2.kind == 0x0A)) }

/-- A handshake that fails. -/
def State.handshakeFails (s : State) (i : Nat) : State :=
  (State.dropEntry { s with cmd := { s.cmd with authHandshake := sat16 s.cmd.authHandshake } } i).raise 0x14270004#32

/-- The session opens. -/
def State.sessionOpens (s : State) (i : Nat) (x : CmdSession) : State :=
  let s1 : State := match s.session i with
    | some e => s.setSession i { e with st := .live, lastValid := some s.now, changes := sat16 e.changes }
    | none => s
  let s2 : State := { s1 with cmd := { s1.cmd with sessions := s1.cmd.sessions ++ [x] } }
  let s3 := s2.raise 0x14050001#32
  if x.unprov then s3.raise 0x14270008#32 else s3

/-- The CLIENT anchor with a key identifier. -/
def Sec.clientAnchor (c : Sec) (key : U64) : Option Anchor := c.anchors.find? (fun (a : Anchor) => a.kind == 0 && a.keyId == key)

/-- The level that a chain gives (R525, R526): the anchor's, none where it fails. `chain` holds the intermediates. -/
def State.chainLevel (s : State) (leaf : U64) (chain : List U64) (anchor : U64) (certOk periodOk : Bool) : Option Nat :=
  if certOk && (!s.clk.est || periodOk) && decide (chain.length ≤ 3) && !(anchor :: leaf :: chain).any (fun k => s.sec.deny.contains k) then
    (s.sec.clientAnchor anchor).map (fun (a : Anchor) => a.level)
  else none

/-- The handshake is one that the module supports (R523): DTLS 1.3, one of its two cipher suites (TLS_AES_128_GCM_SHA256,
TLS_AES_256_GCM_SHA384), groups (secp256r1, x25519) and three signature schemes, mutual, and nothing it does not support. -/
def handshakeOk (h : Handshake) : Bool :=
  h.done && h.version == 0xFEFC && (h.suite == 0x1301 || h.suite == 0x1302) && (h.group == 0x0017 || h.group == 0x001D)
    && (h.scheme == 0x0403 || h.scheme == 0x0503 || h.scheme == 0x0807) && h.cert && !h.psk && !h.earlyData && !h.connId

/-- DTLS_HANDSHAKE_COMPLETE of entry i: what the handshake settled on, then what its certificates say: key identifiers of
the leaf, the intermediates and the anchor, form and signatures right, validity periods right. -/
def execDtlsHandshakeComplete (i : Nat) (hs : Handshake) (leaf : U64) (chain : List U64) (anchor : U64) (certOk periodOk : Bool) (t : Ns)
    (s : State) : Host.Outcome State Fault Refusal :=
  let s0 := s.at t
  match s0.session i with
  | none => .next s
  | some e =>
    if e.kind ≠ 0x0A ∨ e.st ≠ .admitted then .next s
    else
      let x : CmdSession := { idx := i, level := 2, actor := leaf, lastRecord := s0.otime }
      if !handshakeOk hs then .next (s0.handshakeFails i)
      else if s0.sec.unprov then
        .next (if s0.sys.st == .standby && s0.sys.svcEn && s0.cmd.sessions.isEmpty then s0.sessionOpens i { x with unprov := true }
          else s0.handshakeFails i)
      else match s0.chainLevel leaf chain anchor certOk periodOk with
        | some l => .next (s0.sessionOpens i { x with level := min l 2, grantsSafety := decide (l = 3) })
        | none => .next (s0.handshakeFails i)

/-- CLOSE_NOTIFY (R524). -/
def execCloseNotify (i : Nat) (s : State) : Host.Outcome State Fault Refusal := .next (s.closeSession i)

/-- COMMAND_SESSION_TIMEOUT (R524): 60 s without a record; an entry whose handshake never ended goes too. -/
def execCommandSessionTimeout (i : Nat) (s : State) : Host.Outcome State Fault Refusal :=
  match s.cmdSess i, s.session i with
  | some x, _ => .next (if x.lastRecord + 60000000 ≤ s.otime then s.closeSession i else s)
  | none, some e =>
    .next (if e.kind = 0x0A ∧ e.lastValid.getD 0 + 60000000000 ≤ s.now then s.closeSession i else s)
  | none, none => .next s

/-! ### the safety password (R536 to R538) -/

/-- Well-formed UTF-8 (RFC 3629): the continuation bytes still due, with the range of the next one. -/
def utf8From : Nat → Nat → Nat → List Byte → Bool
  | 0, _, _, [] => true
  | _ + 1, _, _, [] => false
  | 0, _, _, b :: l =>
    let n := b.toNat
    if n < 0x80 then utf8From 0 0x80 0xBF l
    else if n < 0xC2 then false
    else if n < 0xE0 then utf8From 1 0x80 0xBF l
    else if n = 0xE0 then utf8From 2 0xA0 0xBF l
    else if n = 0xED then utf8From 2 0x80 0x9F l
    else if n < 0xF0 then utf8From 2 0x80 0xBF l
    else if n = 0xF0 then utf8From 3 0x90 0xBF l
    else if n < 0xF4 then utf8From 3 0x80 0xBF l
    else if n = 0xF4 then utf8From 3 0x80 0x8F l
    else false
  | k + 1, lo, hi, b :: l => if lo ≤ b.toNat ∧ b.toNat ≤ hi then utf8From k 0x80 0xBF l else false
def passwordOk (pw : List Byte) : Bool := decide (12 ≤ pw.length ∧ pw.length ≤ 64) && utf8From 0 0x80 0xBF pw

/-- The stored result of a password (R536). -/
def passwordHash (pw : List Byte) (salt : BitVec 128) : BitVec 256 :=
  BitVec.ofNat 256 (ofBe (pbkdf2 200000 pw (be64 (salt.toNat / 2 ^ 64) ++ be64 salt.toNat)))

/-- The password matches; none set matches nothing. -/
def Sec.matches' (c : Sec) (pw : List Byte) : Bool := match c.password with
  | some (salt, v) => passwordHash pw salt == v
  | none => false

/-- A failed unlock (R536, R537). -/
def State.unlockFails (s : State) : State :=
  let l := (s.sec.failedUnlocks.filter (fun t => decide (s.otime < t + 600000000))) ++ [s.otime]
  let s1 := State.raise { s with cmd := { s.cmd with authPassword := sat16 s.cmd.authPassword } } 0x14170006#32
  if 5 ≤ l.length then
    State.raise { s1 with sec := { s1.sec with failedUnlocks := [], lockUntil := some (s.otime + 900000000) } } 0x14270007#32
  else { s1 with sec := { s1.sec with failedUnlocks := l } }

/-- The session gets SAFETY for 15 min. -/
def State.grantSafety (s : State) (x : CmdSession) : State :=
  (s.setCmdSess { x with safetyUntil := some (s.otime + 900000000) }).raise 0x14070005#32

/-- SAFETY_UNLOCK: whether the session's anchor grants SAFETY, the lockout, the password, then whether another session holds SAFETY
(R22, R526, R536, R537). -/
def execSafetyUnlock (h : Hdr) (pw : List Byte) (s : State) : Host.Outcome State Fault Refusal :=
  .next (s.command h (cmdSpec 0x0460) (if passwordOk pw then none else some 0x1004)
    (fun x => if !(s.clk.est && x.grantsSafety) then some 0x3001 else if (s.at 750000).lockedOut then some 0x3003 else none)
    (fun t x =>
      if !t.sec.matches' pw then .refuseWith t.unlockFails 0x3002 0
      else if t.cmd.sessions.any (fun (y : CmdSession) => y.idx != x.idx && t.holdsSafety y) then .refuse 0x4001 0
      else .done (t.grantSafety x) []))

/-- SAFETY_LOCK. -/
def execSafetyLock (h : Hdr) (s : State) : Host.Outcome State Fault Refusal :=
  .next (s.simple h 0x0461 (fun t x => .done (t.setCmdSess { x with safetyUntil := none }) []))

/-- SAFETY_PASSWORD_SET: with SAFETY, or while none is set from a session whose anchor grants it; `salt` is the new salt drawn. -/
def execSafetyPasswordSet (h : Hdr) (pw : List Byte) (salt : BitVec 128) (mram : Bool) (s : State) : Host.Outcome State Fault Refusal :=
  .next (s.command h (cmdSpec 0x0462) (if passwordOk pw then none else some 0x1004)
    (fun x => if (s.at 750000).holdsSafety x || (s.sec.password.isNone && x.grantsSafety) then none else some 0x3001)
    (fun t x =>
      if mram then
        .done (State.ledgerBy { t with sec := { t.sec with password := some (salt, passwordHash pw salt) } } x 0x0050 [] []) []
      else .refuse 0x5002 0))

/-- SAFETY_PASSWORD_RESET: in SERVICE. -/
def execSafetyPasswordReset (h : Hdr) (mram : Bool) (s : State) : Host.Outcome State Fault Refusal :=
  .next (s.simple h 0x0463 (fun t x =>
    if mram then .done (State.ledgerBy { t with sec := { t.sec with password := none } } x 0x0051 [] []) [] else .refuse 0x5002 0))

/-- SAFETY_EXPIRY: 15 min after the unlock. -/
def execSafetyExpiry (i : Nat) (s : State) : Host.Outcome State Fault Refusal :=
  match s.cmdSess i with
  | some x => .next (match x.safetyUntil with
    | some u => if u ≤ s.otime then s.setCmdSess { x with safetyUntil := none } else s
    | none => s)
  | none => .next s

/-- LOCKOUT_EXPIRY (R537). -/
def execLockoutExpiry (s : State) : Host.Outcome State Fault Refusal :=
  .next (match s.sec.lockUntil with
    | some u => if u ≤ s.otime then { s with sec := { s.sec with lockUntil := none } } else s
    | none => s)

/-- SVC_EN_LOW: SVC_EN has been low for one pick; SERVICE ends, and so does the monitor's LOG (R518, R662). -/
def execSvcEnLow (s : State) : Host.Outcome State Fault Refusal :=
  let s1 : State := { s with sys := { s.sys with svcEn := false }, mon := { s.mon with log := false } }
  .next (if s.sys.st = .service then s1.goStandby else s1)

/-! ### packets refused before they are judged (R22, R528, R533, R535) -/

/-- The opcodes with one parameter length (R533 and the rules it names). -/
def plenTable : List (Nat × Nat) := [
  (0x0103, 2), (0x0207, 1), (0x0230, 1), (0x0231, 1), (0x0301, 9), (0x0302, 5), (0x0303, 16), (0x0305, 9), (0x0306, 5), (0x0310, 2),
  (0x0311, 1), (0x0320, 3), (0x0321, 1), (0x0410, 8), (0x0412, 8), (0x0421, 5), (0x0430, 9), (0x0440, 1), (0x0451, 9), (0x0501, 17),
  (0x0502, 8), (0x0504, 2), (0x0602, 7), (0x0603, 16), (0x0604, 1), (0x0605, 11), (0x0710, 2), (0x0901, 6), (0x0910, 1), (0x0920, 2),
  (0x0921, 2), (0x0922, 4), (0x0A01, 37)]

/-- The parameter length is as the opcode requires. -/
def plenOk (op : Nat) (p : List Byte) : Bool :=
  let n := p.length
  match op with
  | 0x0210 => n == if ofBe (p.take 1) = 5 then 2 else 1
  | 0x0304 => decide (1 ≤ n) && n == 1 + 17 * ofBe (p.take 1)
  | 0x0450 =>
    if ofBe (p.take 1) = 3 then n == 10
    else decide (4 ≤ n) && n == 4 + ofBe ((p.drop 2).take 2) && decide (n ≤ 1204)
  | 0x0460 => decide (1 ≤ n) && n == 1 + ofBe (p.take 1)
  | 0x0462 => decide (1 ≤ n) && n == 1 + ofBe (p.take 1)
  | 0x0902 => decide (8 ≤ n ∧ n ≤ 1028)
  | 0x0A02 => decide (5 ≤ n ∧ n ≤ 1028)
  | _ => n == (aget op plenTable).getD 0

/-- The 0x1xxx status of a packet before its opcode's own checks; none for one that its command judges. -/
def packetBad (b : List Byte) : Option Nat :=
  let at' (o n : Nat) : Nat := ofBe ((b.drop o).take n)
  if 1400 < b.length ∨ at' 0 1 ≠ 1 ∨ at' 1 1 ≠ 0 ∨ at' 10 2 ≠ 0 ∨ at' 8 2 ≠ b.length - 12 then some 0x1001
  else if !cmdTable.any (fun (c : CmdSpec) => c.op == at' 2 2) then some 0x1002
  else if plenOk (at' 2 2) (b.drop 12) then none else some 0x1003

/-- UNKNOWN_OPCODE: packet b of a session. One that its opcode's own command judges is left alone; where the header could not be read
the reply carries opcode and CSEQ zero and the session keeps what it has stored. -/
def execUnknownOpcode (sess : Nat) (b : List Byte) (s : State) : Host.Outcome State Fault Refusal :=
  if b.length < 12 then
    .next (match s.cmdSess sess with
      | some x => if s.serves then
          (((s.at 750000).setCmdSess { x with lastRecord := (s.at 750000).otime }).sessPacket sess).turnAway x 0 0 0x1001 else s
      | none => s)
  else match packetBad b with
    | none => .next s
    | some e =>
      .next (s.command { sess := sess, cseq := BitVec.ofNat 32 (ofBe ((b.drop 4).take 4)) }
        { cmdSpec (ofBe ((b.drop 2).take 2)) with level := 0 } (some e) (fun _ => none) (fun t _ => .done t []))

end Sys2Proof.Machine
end

