-- ==== Sys2Proof/Machine/FastLane.lean ====
section
/-! DEFINITION. The trip check of the fast lane (R67, R242 to R251, R602). -/

namespace Sys2Proof.Machine

/-- TRIP_CHECK (R247) at p+0.05: station replies and fast inputs are latched, breakers and islands formed, and an
overloaded island's thrusters are phased back. `sent` of the phase-back telegrams got on the wire at once, the last of
them `react` ns after the latch (R62, R248, R249). -/
def execTripCheck (sent react : Nat) (s : State) : Host.Outcome State Fault Refusal :=
  .next (if s.fastLane then
      let (s1, pb) := (((s.at 50000).rioLatch).plantUpdate).phaseBack
      pb.foldl State.phaseRecord (s1.plantLatch.sendPhase sent react)
    else s)

end Sys2Proof.Machine
end

