-- ==== Sys2Proof/Machine/Mon.lean ====
section
/-! DEFINITION. The Narti monitor: its lines, its commands and their answers (R661 to R664). -/

namespace Sys2Proof.Machine

/-! ### lines (R661) -/

/-- The monitor runs: every state from STANDBY on. -/
def State.monRuns (s : State) : Bool := match s.sys.st with
  | .off | .boot | .selftest => false
  | _ => true

/-- CR or LF. -/
def isEol (c : Byte) : Bool := c == 13#8 || c == 10#8

/-- A character joins the line in assembly. CR or LF ends a line that is not empty; an 81st character discards the line, and the rest of
it up to its end is skipped. -/
def Mon.assemble (m : Mon) (c : Byte) : Mon :=
  if isEol c then
    if m.skip then { m with skip := false }
    else if m.line.isEmpty then m
    else { m with line := [], cur := some m.line }
  else if m.skip then m
  else if m.line.length < 80 then { m with line := m.line ++ [c] }
  else { m with line := [], skip := true, ovf := true }

/-- A list without what follows its last CR or LF. -/
def wholeLines (l : List Byte) : List Byte := (l.reverse.dropWhile (fun c => !isEol c)).reverse

/-- A character that arrives while a line is being executed: 256 are buffered; on overflow the line being assembled is discarded. -/
def Mon.buffered (m : Mon) (c : Byte) : Mon :=
  if m.skip then (if isEol c then { m with skip := false } else m)
  else if m.buffer.length < 256 then { m with buffer := m.buffer ++ [c] }
  else { m with buffer := wholeLines m.buffer, skip := !isEol c, ovf := true }

/-- A character on MON_RX. -/
def Mon.receive (m : Mon) (c : Byte) : Mon := if m.cur.isSome then m.buffered c else m.assemble c

/-- The buffered characters join the line in assembly until one ends a line. -/
def Mon.replay : List Byte → Mon → Mon
  | [], m => m
  | c :: l, m =>
    let m1 := m.assemble c
    if m1.cur.isSome then { m1 with buffer := l } else Mon.replay l m1

/-- The line in execution is answered; the buffered characters follow it. -/
def Mon.answered (m : Mon) : Mon :=
  let r := Mon.replay m.buffer { m with cur := none, buffer := [], skip := false }
  { r with skip := r.skip || m.skip }

/-- MON_CHARACTER_RECEIVE. -/
def execMonCharacterReceive (c : Byte) (s : State) : Host.Outcome State Fault Refusal :=
  .next (if s.monRuns then { s with mon := s.mon.receive c } else s)

/-- The words of a line, split at spaces; `w` is the word under way. -/
def wordsFrom (w : List Byte) : List Byte → List (List Byte)
  | [] => if w.isEmpty then [] else [w]
  | c :: l => if c == 32#8 then (if w.isEmpty then wordsFrom [] l else w :: wordsFrom [] l) else wordsFrom (w ++ [c]) l
def lineWords (l : List Byte) : List (List Byte) := wordsFrom [] l

/-- The value of a hexadecimal digit in ASCII. -/
def hexValue (c : Byte) : Option Nat :=
  let n := c.toNat
  if 48 ≤ n ∧ n ≤ 57 then some (n - 48)
  else if 65 ≤ n ∧ n ≤ 70 then some (n - 55)
  else if 97 ≤ n ∧ n ≤ 102 then some (n - 87)
  else none
def hexDigits : Nat → List Byte → Option Nat
  | a, [] => some a
  | a, c :: l => match hexValue c with
    | some v => hexDigits (16 * a + v) l
    | none => none
/-- A number in hexadecimal, with or without the prefix 0x; underscores are ignored; at most 32 bits. -/
def readNumber (w : List Byte) : Option Nat :=
  let l := w.filter (fun c => c != 95#8)
  let d := if l.take 2 == [48#8, 120#8] then l.drop 2 else l
  if d.isEmpty then none
  else match hexDigits 0 d with
    | some v => if v < 4294967296 then some v else none
    | none => none

/-! ### the commands (R662) -/

def kwHelp : List Byte := [72#8, 69#8, 76#8, 80#8]
def kwId : List Byte := [73#8, 68#8]
def kwSt : List Byte := [83#8, 84#8]
def kwTime : List Byte := [84#8, 73#8, 77#8, 69#8]
def kwEv : List Byte := [69#8, 86#8]
def kwRec : List Byte := [82#8, 69#8, 67#8]
def kwRd : List Byte := [82#8, 68#8]
def kwWr : List Byte := [87#8, 82#8]
def kwLog : List Byte := [76#8, 79#8, 71#8]
def kwOn : List Byte := [111#8, 110#8]
def kwOff : List Byte := [111#8, 102#8, 102#8]
def monKeywords : List (List Byte) := [kwHelp, kwId, kwSt, kwTime, kwEv, kwRec, kwRd, kwWr, kwLog]

/-- A 64-bit number in the notation of R13. -/
def hexLong (n : Nat) : List Byte := hexWord (hi32 n) ++ ascii "_" ++ (hexWord (lo32 n)).drop 2
/-- One line of an answer: a name and numbers in the notation of R13. -/
def monLine (name : String) (l : List (List Byte)) : List Byte := ascii name ++ ((l.map (fun w => ascii " " ++ w)).flatten) ++ crlf

/-- The line is executed or refused: counters, the limited event, the monitor record, and the answer with its last line. -/
def State.monAnswer (s : State) (line : List Byte) (status : Nat) (text : List Byte) : State :=
  let m := s.mon
  let s1 : State := if status = 0 then { s with mon := { m with exec := satAdd 4095 m.exec 1 } }
    else State.raiseLimited { s with mon := { m with refused := satAdd 4095 m.refused 1 } } 0x15170002 1000000 0x15170002#32
  let s2 := s1.stage 7 true 0x15 0 (be16 status ++ byteOf line.length :: line)
  let last := if status = 0 then ascii "OK" ++ crlf else ascii "ERR 0x" ++ hexOf 4 status ++ crlf
  let s3 := s2.emit (.monitor (text ++ last))
  { s3 with mon := s3.mon.answered }

/-- What a monitor command answers: its state and text, or a status with nothing done. -/
inductive MonResult where
  | ok (s : State) (text : List Byte)
  | err (status : Nat)
/-- The text, or the status, closes the line. -/
def State.monClose (s : State) (line : List Byte) : MonResult → State
  | .ok t text => t.monAnswer line 0 text
  | .err e => s.monAnswer line e []

/-- The waiting line, when its first word is this command's: the command judges its arguments. -/
def State.monitor (s : State) (kw : List Byte) (act : State → List (List Byte) → MonResult) : State :=
  match s.mon.cur with
  | some line => match lineWords line with
    | w :: args => if w = kw then s.monClose line (act s args) else s
    | [] => s
  | none => s

/-- A command without arguments; `strap` when it needs SVC_EN high. -/
def monPlain (strap : Bool) (text : State → List Byte) (s : State) (args : List (List Byte)) : MonResult :=
  if !args.isEmpty then .err 0x1004 else if strap && !s.sys.svcEn then .err 0x3004 else .ok s (text s)

/-- MON_HELP. -/
def execMonHelp (s : State) : Host.Outcome State Fault Refusal :=
  .next (s.monitor kwHelp (monPlain false (fun _ => (monKeywords.map (fun k => k ++ crlf)).flatten)))

/-- MON_ID: SYS_ID, serial number, firmware version and epoch. -/
def State.monIdText (s : State) : List Byte :=
  monLine "SYS_ID" [hexWord (s.sysReg 0)] ++ monLine "SERIAL" [hexLong Config.serial.toNat]
    ++ monLine "VERSION" [hexWord s.sec.running.version] ++ monLine "EPOCH" [hexWord (word s.sec.running.epoch)]
def execMonId (s : State) : Host.Outcome State Fault Refusal := .next (s.monitor kwId (monPlain false State.monIdText))

/-- MON_ST: state, role, DP mode, CMD_CAUSE. -/
def State.monStText (s : State) : List Byte :=
  monLine "STATE" [hexWord (word (stateCode s.sys.st))] ++ monLine "ROLE" [hexWord (word (roleCode s.sys.role))]
    ++ monLine "MODE" [hexWord (word (if s.warp.run then s.guide.mode else 0))] ++ monLine "CAUSE" [hexWord s.cause]
def execMonSt (s : State) : Host.Outcome State Fault Refusal := .next (s.monitor kwSt (monPlain false State.monStText))

/-- MON_TIME: DTIME, OTIME, PCC, TPVALID, TIME_UNC. -/
def State.monTimeText (s : State) : List Byte :=
  monLine "DTIME" [hexLong s.stamp]
    ++ monLine "OTIME" [hexWord (word (s.otime / 3600000000)), hexWord (word (s.otime % 3600000000))]
    ++ monLine "PCC" [hexWord s.sys.pcc] ++ monLine "TPVALID" [hexWord (word (b2n s.tpValid))]
    ++ monLine "TIME_UNC" [hexWord (s.regAt 0x40080010)]
def execMonTime (s : State) : Host.Outcome State Fault Refusal := .next (s.monitor kwTime (monPlain false State.monTimeText))

/-- An optional count from 1 to its limit. -/
def monCount (limit default : Nat) : List (List Byte) → Option Nat
  | [] => some default
  | [w] => match readNumber w with
    | some n => if 1 ≤ n ∧ n ≤ limit then some n else none
    | none => none
  | _ => none

/-- MON_EV: the newest n events, oldest first: code, DTIME, detail. -/
def evText (e : EventRec) : List Byte :=
  hexWord e.code ++ monLine "" (hexLong e.dtime :: e.detail.map (fun b => ascii "0x" ++ hexOf 2 b.toNat))
def execMonEv (s : State) : Host.Outcome State Fault Refusal :=
  .next (s.monitor kwEv (fun t args => match monCount 32 8 args with
    | none => .err 0x1004
    | some n => if t.sys.svcEn then .ok t (((t.events.drop (t.events.length - n)).map evText).flatten) else .err 0x3004))

/-- MON_REC: the result of REC_STATUS, as text: the ten registers, then each freeze. -/
def State.monRecText (s : State) : List Byte :=
  monLine "SHERD" ((regRun 0x400E0000 10).map (fun a => hexWord (s.regAt a)))
    ++ (s.sherd.freezes.map (fun (f : Nat × Freeze) =>
        monLine "FREEZE" ((s.sherd.freezeEntry f).map (fun b => ascii "0x" ++ hexOf 2 b.toNat)))).flatten
def execMonRec (s : State) : Host.Outcome State Fault Refusal := .next (s.monitor kwRec (monPlain true State.monRecText))

/-- The regions that RD reads (R663): the SRAM and the block registers. -/
def monRegions : List (Nat × Nat) := [(0x10000000, 0x6000000), (regBase, 0x160000)]
/-- RD may read the span: outside SERVICE none that covers an RC register or a latching high word. -/
def State.monReadable (s : State) (a n : Nat) : Bool :=
  spanIn monRegions a (4 * n) && (decide (a < regBase) || a % 4 == 0)
    && (s.sys.st == .service || !(List.range n).any (fun i => (aget (a + 4 * i) readEffects).isSome))

/-- The words of a byte string, least significant byte first, one to a line. -/
def wordLines : Nat → List Byte → List Byte
  | 0, _ => []
  | n + 1, l => hexWord (word (ofLe (l.take 4))) ++ crlf ++ wordLines n (l.drop 4)

/-- MON_RD (R663). -/
def State.monRd (s : State) (args : List (List Byte)) : MonResult :=
  match args with
  | [] => .err 0x1004
  | w :: rest => match readNumber w, monCount 64 1 rest with
    | some a, some n =>
      if !s.monReadable a n then .err 0x1005
      else if !s.sys.svcEn then .err 0x3004
      else let r := s.readWords n a; .ok r.1 (wordLines n r.2)
    | _, _ => .err 0x1004
def execMonRd (s : State) : Host.Outcome State Fault Refusal := .next (s.monitor kwRd State.monRd)

/-- An accepted WR (R664): the write, its ledger entry, its event and its count. -/
def State.monWrites (s : State) (a v : Nat) : State :=
  let by' := s.cmd.serviceBy.getD (0, 0)
  let s1 := s.writeOutside by'.1 by'.2 a (le32 v)
  State.raise { s1 with mon := { s1.mon with writes := satAdd 255 s1.mon.writes 1 } } 0x15070001#32

/-- MON_WR (R663, R664); `mram` whether the ledger entry is committed. -/
def monWr (mram : Bool) (s : State) (args : List (List Byte)) : MonResult :=
  match args with
  | [w, x] => match readNumber w, readNumber x with
    | some a, some v =>
      if !writable a 4 then .err 0x1005
      else if !s.sys.svcEn then .err 0x3004
      else if s.sys.st != .service then .err 0x2001
      else if !mram then .err 0x5002
      else .ok (s.monWrites a v) []
    | _, _ => .err 0x1004
  | _ => .err 0x1004
/-- The waiting line is a WR to a partition of another owner (R29). -/
def State.monForeign (s : State) : Bool :=
  match s.mon.cur with
  | some line => (match lineWords line with
    | [w, x, v] => w == kwWr && (readNumber v).isSome && (match readNumber x with
      | some a => ownedSpan a 4
      | none => false)
    | _ => false)
  | none => false
/-- MON_WR: as MEM_WRITE, and the integrity event where another owner's partition is written (R29, R662). -/
def execMonWr (mram : Bool) (s : State) : Host.Outcome State Fault Refusal :=
  let t := s.monitor kwWr (monWr mram)
  .next (if s.monForeign then t.blockedWrite else t)

/-- MON_LOG: on or off. -/
def State.monLog (s : State) (args : List (List Byte)) : MonResult :=
  if args = [kwOn] ∨ args = [kwOff] then
    if s.sys.svcEn then .ok { s with mon := { s.mon with log := decide (args = [kwOn]) } } [] else .err 0x3004
  else .err 0x1004
def execMonLog (s : State) : Host.Outcome State Fault Refusal := .next (s.monitor kwLog State.monLog)

/-- MON_UNKNOWN_COMMAND: a line whose first word names no command. -/
def execMonUnknownCommand (s : State) : Host.Outcome State Fault Refusal :=
  .next (match s.mon.cur with
    | some line => match lineWords line with
      | w :: _ => if monKeywords.contains w then s else s.monAnswer line 0x1002 []
      | [] => s.monAnswer line 0x1002 []
    | none => s)

end Sys2Proof.Machine
end

