-- ==== Sys2Proof/Machine/Pick.lean ====
section
/-! DEFINITION. The pick tick, the beat edge, RECORD, and the supervision of the clocks (R33 to R35, R53, R59 to R61, R67, R70, R230,
R401, R563, R568, R648, R660). -/

namespace Sys2Proof.Machine

/-! ### PICK_TICK (R67) -/

/-- No command of the module is in force at any drive any more: SAFE frames bring the thrust to zero or hand it over (R128, R568). -/
def State.zeroCommands (s : State) : State :=
  State.logTau { s with alloc := { s.alloc with
    thr := s.alloc.thr.map (fun (x : Thr) => { x with cmd := (0, 0), next := none }) } }

/-- SAFE telegrams (R53, R568): in SAFE, to every drive session in each pick. -/
def State.safeSend (s : State) : State :=
  if s.sys.st == .safe && s.leads && !s.pair.silent then
    let (s1, out) := s.safeFrames
    (s1.emitAll out).zeroCommands
  else s

/-- PICK_TICK: microseconds of CLK_NET since the last tick; whether the pick leaves time for background work; what the pick measured: IF
streams, the RMS volts read back at the excitation outputs, the level of SVC_EN, supplies and temperatures. The registers are renewed. -/
def execPickTick (netUs : Nat) (spare : Bool) (streams : List (List SampRun)) (exc : List F64) (svcEn : Bool) (pw : PowerIn) (s : State) :
    Host.Outcome State Fault Refusal :=
  .next (if !s.warp.picks then s
    else
      let s1 := ((s.warpTick netUs).netPick).scrub spare
      let s2 : State := { s1 with
        sys := { s1.sys with svcEn := svcEn }
        mon := { s1.mon with ovf := false, log := s1.mon.log && svcEn }
        sherd := { s1.sherd with pagesNow := 0, eraseNow := false } }
      let s3 := ((s2.pairTick).kilnTimeouts).timePick
      let s4 := ((s3.streamsPick streams).excCheck exc).powerPick pw
      ((s4.telemetrySend spare).safeSend).renew pickRegs)

/-! ### BEAT_EDGE (R60) -/

/-- The commands accepted since the last started edge are latched; thruster use takes effect at the edge (R201, R231). -/
def State.latchCommands (s : State) : State :=
  let w := s.guide.waiting
  let s1 : State := { s with guide := { s.guide with latched := s.guide.latched ++ w, waiting := [] } }
  w.foldl (fun (a : State) c => match c with
    | .thruster t on => a.setThr t { a.thr t with on := on }
    | _ => a) s1

/-- PENDING_STATE_CHANGE: an entry into ACTIVE from READY begins a soft start (R53, R205). -/
def State.enterAtEdge (s : State) : State :=
  let s1 := s.pendingAtEdge
  if s.sys.st == .ready && s1.isActive then { s1 with guide := { s1.guide with enteredActive := true } } else s1

/-- BEAT_SYNC_FRAME (R563, R565, R568): on both ports, while some drive applies in SYNC mode. -/
def State.beatSync (s : State) : State :=
  if s.drives && s.thrRecs.any (fun (r : ThrRec) => r.sync) then
    let t := s.clk.tick
    let l := byteOf 1 :: byteOf 4 :: be16 16 ++ be32 s.pair.epoch.toNat ++ [byteOf (b2n s.sys.pairSeat)] ++ zeros 3
      ++ be32 (nearestMs t) ++ be64 t ++ be64 t ++ zeros 8
    let f := l ++ be32 (Config.syncCheck l).toNat
    (s.emit (.frame 2 "beat-sync" f)).emit (.frame 3 "beat-sync" f)
  else s

/-- The beat that started at this edge carries whether the module drives (R53, R464). -/
def State.markLive (s : State) : State :=
  { s with warp := { s.warp with last := s.warp.last.map (fun (b : Beat) => { b with live := s.drives }) } }

/-- BEAT_EDGE. The commands that apply at this edge come into force whether the beat starts or is dropped (R61); the Observer's thrust
input follows them and the availability determined here (R128). -/
def execBeatEdge (s : State) : Host.Outcome State Fault Refusal :=
  .next (if !s.edgeDue then s
    else
      let s1 := (((s.at 0).applyCommands).warpEdge)
      let started := s1.warp.window.head? == some false
      let s2 := if started then s1.latchCommands.latchRole else s1
      let s3 := s2.enterAtEdge
      let s4 := if started then s3.availability.markLive else s3
      s4.logTau.beatSync.syncCapture)

/-! ### RECORD (R59, R648) -/

/-- A beat's RECORD may begin: at b+(N − 1.0), every other holder released. -/
def Beat.recordDue (b : Beat) (n now : Nat) : Bool := b.recording == 0 && b.onlyRecord && b.recordHolds && decide (b.edge + (n - 1) * 1000000 ≤ now)

/-- The summary of a beat is staged, and its RECORD runs. -/
def State.recordBeat (s : State) (b : Beat) (data : List Byte) : State :=
  s.stage 2 false 0x02 0 (be32 b.wstat.toNat ++ be32 (s.warpReg 0x30).toNat ++ data)

/-- RECORD at t ns after the tick: the oldest beat that waits; one beat at a time. -/
def execRecord (t : Ns) (s : State) : Host.Outcome State Fault Refusal :=
  let s0 := s.at t
  let w := s0.warp
  let runs (b : Option Beat) : Bool := match b with
    | some x => x.recording == 1
    | none => false
  .next (if !w.run || !w.old.isEmpty || runs w.prev || runs w.last then s
    else
      let old := w.prev.bind (fun (b : Beat) => if b.recordDue s0.n s0.now then some b else none)
      let new := w.last.bind (fun (b : Beat) => if b.recordDue s0.n s0.now && w.stage == .dispatched then some b else none)
      match old, new with
      | some b, _ =>
        let s1 := s0.recordBeat b b.data
        { s1 with warp := { s1.warp with prev := some { b with recording := 1 } } }
      | none, some b =>
        let s1 := s0.recordBeat b (s0.summaryData b)
        { s1 with warp := { s1.warp with last := some { b with recording := 1 }, stage := .recorded } }
      | none, none => s)

/-! ### CLOCK_COMPARISON (R33 to R35, R401) -/

/-- The domains of each comparison (R33). -/
def cmpPairs : List (Nat × Nat) := [
  (1, 3), (1, 8), (2, 3), (2, 8), (3, 5), (3, 8), (4, 5), (4, 8), (5, 8), (6, 5), (6, 8), (7, 3), (7, 8), (9, 5), (9, 8)]

/-- How many failed comparisons a domain takes part in. -/
def domainFails (failed : BitVec 15) (n : Nat) : Nat :=
  countP (fun (p : Nat × (Nat × Nat)) => failed.getLsbD p.1 && (p.2.1 == n || p.2.2 == n)) (List.zip (List.range 15) cmpPairs)

/-- An event of clock supervision: class 0x4; its NUM is open (log entry 27). -/
def clockCode (sev k : Nat) : Word := BitVec.ofNat 32 (0x01040000 + sev * 1048576 + (Config.clockEvent k).toNat)

/-- The Kiln sees its own clock fail (R401), or a Loom domain in its own comparisons (R459). -/
def Kiln.clockFailed (k : Kiln) (n : Nat) : Kiln :=
  if !k.powered then k
  else if n = 8 then k.internalFault 3
  else if n = 1 ∨ n = 2 ∨ n = 3 ∨ n = 5 ∨ n = 6 then k.dropClaim
  else k

/-- The reaction to a declared failure of domain n (R35). -/
def State.domainFailed (s : State) (n : Nat) : State :=
  let s1 : State := { s with sys := { s.sys with clkFail := s.sys.clkFail ||| BitVec.ofNat 9 (2 ^ (n - 1)) } }
  let s2 := s1.raise (clockCode (if n = 8 then 5 else if n = 9 then 2 else 4) n) [byteOf n]
  let s3 : State := { s2 with kiln := s2.kiln.clockFailed n }
  match n with
  | 4 => s3.setDeg 4
  | 7 => s3.adcInvalid.setDeg 5
  | 8 => s3.enterSafe 4
  | 9 => s3
  | _ => s3.loomFault

/-- Nominal frequencies of domains 1 to 9 in Hz (R32). -/
def clockHz : List Nat := [1600000000, 1200000000, 800000000, 327360000, 125000000, 80000000, 24576000, 50000000, 32768]

/-- A measured frequency ratio a : b of the domains p deviates from the nominal one by more than 0.5 %; a reference that did not
count at all fails (R33). -/
def ratioFails (p : Nat × Nat) (m : Nat × Nat) : Bool :=
  let want := m.2 * clockHz.getD (p.1 - 1) 0
  let have' := m.1 * clockHz.getD (p.2 - 1) 0
  m.2 == 0 || decide (want < 200 * (max want have' - min want have'))

/-- A half-period of CLK_AON, counted in cycles of the domain n, deviates from the nominal one by more than 5 % (R33). -/
def halfFails (n m : Nat) : Bool :=
  let want := clockHz.getD (n - 1) 0
  let have' := m * 65536
  decide (want < 20 * (max want have' - min want have'))

/-- The comparisons that fail in one evaluation: of 0 to 12 by the counts of both domains, of 13 and 14 by the cycles of CLK_NET
and CLK_KLN in a half-period of CLK_AON (R33). -/
def cmpFails (counts : List (Nat × Nat)) (half : Nat × Nat) : BitVec 15 :=
  let l := (List.zip cmpPairs counts).map (fun e => ratioFails e.1 e.2) ++ [halfFails 5 half.1, halfFails 8 half.2]
  BitVec.ofNat 15 ((List.zip (List.range 15) l).foldl (fun n e => n + fbit e.1 e.2) 0)

/-- CLOCK_COMPARISON: one evaluation, with what it counted. -/
def execClockComparison (counts : List (Nat × Nat)) (half : Nat × Nat) (s : State) : Host.Outcome State Fault Refusal :=
  .next (if s.sys.st = .off then s
    else
      let y := s.sys
      let fails := cmpFails counts half
      let failed := fails &&& y.cmpLast
      let new := [1, 2, 3, 4, 5, 6, 7, 8, 9].filter (fun n => decide (2 ≤ domainFails failed n) && !y.clkFail.getLsbD (n - 1))
      let s1 := new.foldl (fun (a : State) n => a.domainFailed n)
        { s with sys := { y with cmpLast := fails, clkCmp := failed } }
      let lone := (List.zip (List.range 15) cmpPairs).filter (fun (p : Nat × (Nat × Nat)) =>
        failed.getLsbD p.1 && !s1.sys.clkFail.getLsbD (p.2.1 - 1) && !s1.sys.clkFail.getLsbD (p.2.2 - 1))
      let mask : BitVec 15 := lone.foldl (fun (m : BitVec 15) (p : Nat × (Nat × Nat)) => m ||| BitVec.ofNat 15 (2 ^ p.1)) 0
      let told := s1.sys.checker
      lone.foldl (fun (a : State) (p : Nat × (Nat × Nat)) =>
          if told.getLsbD p.1 then a else a.raise (clockCode 3 0) [byteOf p.1])
        { s1 with sys := { s1.sys with checker := mask } })

end Sys2Proof.Machine
end

