-- ==== Sys2Proof/Machine/Dispatch.lean ====
section
/-! DEFINITION. One arm per command: the one place where a command meets its meaning. -/

namespace Sys2Proof.Machine

def exec (i : Instr) (s : State) : Host.Outcome State Fault Refusal :=
  match i with
  | .powerUp rtc => Sys2Proof.Machine.execPowerUp rtc s
  | .powerFailWarning => Sys2Proof.Machine.execPowerFailWarning s
  | .warningWithdrawn => Sys2Proof.Machine.execWarningWithdrawn s
  | .holdUpEnd => Sys2Proof.Machine.execHoldUpEnd s
  | .rstNLow => Sys2Proof.Machine.execRstNLow s
  | .pmicWatchdogExpiry => Sys2Proof.Machine.execPmicWatchdogExpiry s
  | .railFault rail => Sys2Proof.Machine.execRailFault rail s
  | .thermalShutdown => Sys2Proof.Machine.execThermalShutdown s
  | .thermalRecovery tBase tLoom tKiln tPmic rtc => Sys2Proof.Machine.execThermalRecovery tBase tLoom tKiln tPmic rtc s
  | .vinOutOfBand => Sys2Proof.Machine.execVinOutOfBand s
  | .holdCapacitanceMeasure us => Sys2Proof.Machine.execHoldCapacitanceMeasure us s
  | .holdChargeTimeout => Sys2Proof.Machine.execHoldChargeTimeout s
  | .bootVerifyComplete seat ok0 ok1 us => Sys2Proof.Machine.execBootVerifyComplete seat ok0 ok1 us s
  | .selftestComplete ok trips glazeBad draftWhole hits damaged => Sys2Proof.Machine.execSelftestComplete ok trips glazeBad draftWhole hits damaged s
  | .clockComparison counts half => Sys2Proof.Machine.execClockComparison counts half s
  | .otimeSave => Sys2Proof.Machine.execOtimeSave s
  | .pickTick netUs spare streams exc svcEn pw => Sys2Proof.Machine.execPickTick netUs spare streams exc svcEn pw s
  | .beatEdge => Sys2Proof.Machine.execBeatEdge s
  | .dropWindowDegrade => Sys2Proof.Machine.execDropWindowDegrade s
  | .dropWindowClear => Sys2Proof.Machine.execDropWindowClear s
  | .dropRunSafe => Sys2Proof.Machine.execDropRunSafe s
  | .intake => Sys2Proof.Machine.execIntake s
  | .projectAndVote => Sys2Proof.Machine.execProjectAndVote s
  | .observe => Sys2Proof.Machine.execObserve s
  | .maxDeadReckoningTime t => Sys2Proof.Machine.execMaxDeadReckoningTime t s
  | .waveFrequencyUpdate => Sys2Proof.Machine.execWaveFrequencyUpdate s
  | .obsWarmRecordWrite => Sys2Proof.Machine.execObsWarmRecordWrite s
  | .beatTaskRelease => Sys2Proof.Machine.execBeatTaskRelease s
  | .guide t => Sys2Proof.Machine.execGuide t s
  | .softStartComplete => Sys2Proof.Machine.execSoftStartComplete s
  | .solveStart ecc t => Sys2Proof.Machine.execSolveStart ecc t s
  | .wheelIteration residues ecc t => Sys2Proof.Machine.execWheelIteration residues ecc t s
  | .coneSolveDeadline residues ecc sent => Sys2Proof.Machine.execConeSolveDeadline residues ecc sent s
  | .wheelDegradedEntry => Sys2Proof.Machine.execWheelDegradedEntry s
  | .wheelDegradedEnd => Sys2Proof.Machine.execWheelDegradedEnd s
  | .wheelMissSafe => Sys2Proof.Machine.execWheelMissSafe s
  | .wheelRecordCopy => Sys2Proof.Machine.execWheelRecordCopy s
  | .consequenceCycleStart => Sys2Proof.Machine.execConsequenceCycleStart s
  | .consequenceScenarioEnd residues ecc => Sys2Proof.Machine.execConsequenceScenarioEnd residues ecc s
  | .record t => Sys2Proof.Machine.execRecord t s
  | .recordComplete t => Sys2Proof.Machine.execRecordComplete t s
  | .coneStageOverrun observe => Sys2Proof.Machine.execConeStageOverrun observe s
  | .coneGuideLate => Sys2Proof.Machine.execConeGuideLate s
  | .coneTelegramsLate sent => Sys2Proof.Machine.execConeTelegramsLate sent s
  | .coneWithholdLimit sent => Sys2Proof.Machine.execConeWithholdLimit sent s
  | .coneRecordLate t => Sys2Proof.Machine.execConeRecordLate t s
  | .conePhaseBackLate => Sys2Proof.Machine.execConePhaseBackLate s
  | .coneLoopOverrun => Sys2Proof.Machine.execConeLoopOverrun s
  | .coneShuttleOverrun tick => Sys2Proof.Machine.execConeShuttleOverrun tick s
  | .scrubLate mram => Sys2Proof.Machine.execScrubLate mram s
  | .telegramDecode => Sys2Proof.Machine.execTelegramDecode s
  | .trackTimeout k t => Sys2Proof.Machine.execTrackTimeout k t s
  | .sessionStale ix t => Sys2Proof.Machine.execSessionStale ix t s
  | .sessionLost ix t => Sys2Proof.Machine.execSessionLost ix t s
  | .sessionUnbar ix t => Sys2Proof.Machine.execSessionUnbar ix t s
  | .fastInputChange k level t => Sys2Proof.Machine.execFastInputChange k level t s
  | .gooseFrameReceive p appid src gocb st sq ttl sim m t => Sys2Proof.Machine.execGooseFrameReceive p appid src gocb st sq ttl sim m t s
  | .gooseStale ix t => Sys2Proof.Machine.execGooseStale ix t s
  | .breakerIntermediateTimeout tie ix src t => Sys2Proof.Machine.execBreakerIntermediateTimeout tie ix src t s
  | .breakerDisagreement tie ix t => Sys2Proof.Machine.execBreakerDisagreement tie ix t s
  | .generatorOnline g t => Sys2Proof.Machine.execGeneratorOnline g t s
  | .tripCheck sent react => Sys2Proof.Machine.execTripCheck sent react s
  | .driveStatusReceive ix b t => Sys2Proof.Machine.execDriveStatusReceive ix b t s
  | .loopEngineRun late => Sys2Proof.Machine.execLoopEngineRun late s
  | .slotSoftComplete k => Sys2Proof.Machine.execSlotSoftComplete k s
  | .followingErrorTimeout k => Sys2Proof.Machine.execFollowingErrorTimeout k s
  | .slotAutoRecovery k => Sys2Proof.Machine.execSlotAutoRecovery k s
  | .periodSourceInvalid k => Sys2Proof.Machine.execPeriodSourceInvalid k s
  | .resetLoopSlot h k => Sys2Proof.Machine.execResetLoopSlot h k s
  | .groupTrainingStart a => Sys2Proof.Machine.execGroupTrainingStart a s
  | .groupTrainingComplete a res => Sys2Proof.Machine.execGroupTrainingComplete a res s
  | .groupRetrainTimer a => Sys2Proof.Machine.execGroupRetrainTimer a s
  | .gnssRetrain h mask => Sys2Proof.Machine.execGnssRetrain h mask s
  | .acquisitionSearchComplete d => Sys2Proof.Machine.execAcquisitionSearchComplete d s
  | .demandList sats load => Sys2Proof.Machine.execDemandList sats load s
  | .channelLostTimeout c => Sys2Proof.Machine.execChannelLostTimeout c s
  | .accumulationDump c v t => Sys2Proof.Machine.execAccumulationDump c v t s
  | .loopUpdate c car cod slew t => Sys2Proof.Machine.execLoopUpdate c car cod slew t s
  | .featureGrid scores => Sys2Proof.Machine.execFeatureGrid scores s
  | .commonLatch v => Sys2Proof.Machine.execCommonLatch v s
  | .rawRecordPost t => Sys2Proof.Machine.execRawRecordPost t s
  | .positionRecordPost t => Sys2Proof.Machine.execPositionRecordPost t s
  | .attitudeRecordPost t => Sys2Proof.Machine.execAttitudeRecordPost t s
  | .gnssRecordDiscard t => Sys2Proof.Machine.execGnssRecordDiscard t s
  | .exclusionHoldExpiry => Sys2Proof.Machine.execExclusionHoldExpiry s
  | .withdrawalEnd com => Sys2Proof.Machine.execWithdrawalEnd com s
  | .rtcmMessageReceive ix b t => Sys2Proof.Machine.execRtcmMessageReceive ix b t s
  | .ptpSyncReceive ix p twoStep seq t1 corr t2 logInt v => Sys2Proof.Machine.execPtpSyncReceive ix p twoStep seq t1 corr t2 logInt v s
  | .followUpReceive ix p seq t1 corr v b bad => Sys2Proof.Machine.execFollowUpReceive ix p seq t1 corr v b bad s
  | .announceReceive ix a => Sys2Proof.Machine.execAnnounceReceive ix a s
  | .delayRespReceive ix p seq t4 => Sys2Proof.Machine.execDelayRespReceive ix p seq t4 s
  | .delayReqReceive ix p seq t => Sys2Proof.Machine.execDelayReqReceive ix p seq t s
  | .pdelayReqReceive p seq t => Sys2Proof.Machine.execPdelayReqReceive p seq t s
  | .pdelayRespReceive p seq t4 turn => Sys2Proof.Machine.execPdelayRespReceive p seq t4 turn s
  | .managementMessageReceive => Sys2Proof.Machine.execManagementMessageReceive s
  | .ringPtpForward ing seq sync twoStep udp bad corr residence b => Sys2Proof.Machine.execRingPtpForward ing seq sync twoStep udp bad corr residence b s
  | .masterSyncSend ix => Sys2Proof.Machine.execMasterSyncSend ix s
  | .ringSyncSend => Sys2Proof.Machine.execRingSyncSend s
  | .ptpSourceTimeout ix => Sys2Proof.Machine.execPtpSourceTimeout ix s
  | .sourceQualified ix => Sys2Proof.Machine.execSourceQualified ix s
  | .sourceFaultExpiry ix => Sys2Proof.Machine.execSourceFaultExpiry ix s
  | .suspectReturn ix => Sys2Proof.Machine.execSuspectReturn ix s
  | .dtimeStep => Sys2Proof.Machine.execDtimeStep s
  | .holdoverLimit => Sys2Proof.Machine.execHoldoverLimit s
  | .refinQualify devs => Sys2Proof.Machine.execRefinQualify devs s
  | .refinFailure edge dev ratio => Sys2Proof.Machine.execRefinFailure edge dev ratio s
  | .refinRestore ratio => Sys2Proof.Machine.execRefinRestore ratio s
  | .tcxoFailure edge dev => Sys2Proof.Machine.execTcxoFailure edge dev s
  | .leapSecondApply => Sys2Proof.Machine.execLeapSecondApply s
  | .ppsPulse n t => Sys2Proof.Machine.execPpsPulse n t s
  | .tpvalidChange => Sys2Proof.Machine.execTpvalidChange s
  | .timeStatus h => Sys2Proof.Machine.execTimeStatus h s
  | .timeSourceUse h ix use' => Sys2Proof.Machine.execTimeSourceUse h ix use' s
  | .timeReestablish h => Sys2Proof.Machine.execTimeReestablish h s
  | .kilnSampleCycle z => Sys2Proof.Machine.execKilnSampleCycle z s
  | .discrepancyFault n => Sys2Proof.Machine.execDiscrepancyFault n s
  | .testPulseStart n => Sys2Proof.Machine.execTestPulseStart n s
  | .testPulseEnd n => Sys2Proof.Machine.execTestPulseEnd n s
  | .openLoadWarning o => Sys2Proof.Machine.execOpenLoadWarning o s
  | .fieldSupplyFault f => Sys2Proof.Machine.execFieldSupplyFault f s
  | .fieldSupplyRestore f => Sys2Proof.Machine.execFieldSupplyRestore f s
  | .switchTestStart o => Sys2Proof.Machine.execSwitchTestStart o s
  | .switchTestPhaseEnd o => Sys2Proof.Machine.execSwitchTestPhaseEnd o s
  | .switchTestOverdue o => Sys2Proof.Machine.execSwitchTestOverdue o s
  | .offDelayExpiry o => Sys2Proof.Machine.execOffDelayExpiry o s
  | .resetInputRelease n => Sys2Proof.Machine.execResetInputRelease n s
  | .tripLineAssert => Sys2Proof.Machine.execTripLineAssert s
  | .tripClear quiet => Sys2Proof.Machine.execTripClear quiet s
  | .heartbeatExchange chal bad badUp cyc => Sys2Proof.Machine.execHeartbeatExchange chal bad badUp cyc s
  | .heartbeatTimeout c => Sys2Proof.Machine.execHeartbeatTimeout c s
  | .commandCopyCheck err => Sys2Proof.Machine.execCommandCopyCheck err s
  | .kilnTableLoad => Sys2Proof.Machine.execKilnTableLoad s
  | .kilnClear h kind index => Sys2Proof.Machine.execKilnClear h kind index s
  | .kilnSwitchTest h mask => Sys2Proof.Machine.execKilnSwitchTest h mask s
  | .kilnWithhold h mask values => Sys2Proof.Machine.execKilnWithhold h mask values s
  | .mailboxClear arg => Sys2Proof.Machine.execMailboxClear arg s
  | .mailboxSwitchTest arg => Sys2Proof.Machine.execMailboxSwitchTest arg s
  | .mailboxReadTable arg => Sys2Proof.Machine.execMailboxReadTable arg s
  | .withholdMaskWrite v => Sys2Proof.Machine.execWithholdMaskWrite v s
  | .crossTripLineLevel x high held => Sys2Proof.Machine.execCrossTripLineLevel x high held s
  | .claimFrameSend line => Sys2Proof.Machine.execClaimFrameSend line s
  | .claimLineFree => Sys2Proof.Machine.execClaimLineFree s
  | .lclmFault c => Sys2Proof.Machine.execLclmFault c s
  | .fastFrameSend => Sys2Proof.Machine.execFastFrameSend s
  | .stateFrameSend => Sys2Proof.Machine.execStateFrameSend s
  | .fastFrameReceive lane b t rtt => Sys2Proof.Machine.execFastFrameReceive lane b t rtt s
  | .stateFrameReceive lane ok b => Sys2Proof.Machine.execStateFrameReceive lane ok b s
  | .doryoLaneTimeout lane => Sys2Proof.Machine.execDoryoLaneTimeout lane s
  | .takeover => Sys2Proof.Machine.execTakeover s
  | .armDelayExpiry => Sys2Proof.Machine.execArmDelayExpiry s
  | .pairStatus h => Sys2Proof.Machine.execPairStatus h s
  | .pairTransfer h => Sys2Proof.Machine.execPairTransfer h s
  | .pairBar h => Sys2Proof.Machine.execPairBar h s
  | .pairUnbar h => Sys2Proof.Machine.execPairUnbar h s
  | .pickTaskRelease => Sys2Proof.Machine.execPickTaskRelease s
  | .taskWatchdog ix t => Sys2Proof.Machine.execTaskWatchdog ix t s
  | .beatTaskLimit t => Sys2Proof.Machine.execBeatTaskLimit t s
  | .syncImageApply => Sys2Proof.Machine.execSyncImageApply s
  | .onlineChangeSwitch => Sys2Proof.Machine.execOnlineChangeSwitch s
  | .onlineChangeAbandon => Sys2Proof.Machine.execOnlineChangeAbandon s
  | .twNop => Sys2Proof.Machine.execTwNop s
  | .twLd => Sys2Proof.Machine.execTwLd s
  | .twSt => Sys2Proof.Machine.execTwSt s
  | .twDup => Sys2Proof.Machine.execTwDup s
  | .twDrop => Sys2Proof.Machine.execTwDrop s
  | .twSwap => Sys2Proof.Machine.execTwSwap s
  | .twLdx => Sys2Proof.Machine.execTwLdx s
  | .twStx => Sys2Proof.Machine.execTwStx s
  | .twAdd => Sys2Proof.Machine.execTwAdd s
  | .twSub => Sys2Proof.Machine.execTwSub s
  | .twMul => Sys2Proof.Machine.execTwMul s
  | .twDiv => Sys2Proof.Machine.execTwDiv s
  | .twMod => Sys2Proof.Machine.execTwMod s
  | .twNeg => Sys2Proof.Machine.execTwNeg s
  | .twAbs => Sys2Proof.Machine.execTwAbs s
  | .twMin => Sys2Proof.Machine.execTwMin s
  | .twMax => Sys2Proof.Machine.execTwMax s
  | .twLimit => Sys2Proof.Machine.execTwLimit s
  | .twSqrt => Sys2Proof.Machine.execTwSqrt s
  | .twSin => Sys2Proof.Machine.execTwSin s
  | .twCos => Sys2Proof.Machine.execTwCos s
  | .twAtan2 => Sys2Proof.Machine.execTwAtan2 s
  | .twExp => Sys2Proof.Machine.execTwExp s
  | .twLn => Sys2Proof.Machine.execTwLn s
  | .twAnd => Sys2Proof.Machine.execTwAnd s
  | .twOr => Sys2Proof.Machine.execTwOr s
  | .twXor => Sys2Proof.Machine.execTwXor s
  | .twNot => Sys2Proof.Machine.execTwNot s
  | .twShl => Sys2Proof.Machine.execTwShl s
  | .twShr => Sys2Proof.Machine.execTwShr s
  | .twRol => Sys2Proof.Machine.execTwRol s
  | .twRor => Sys2Proof.Machine.execTwRor s
  | .twEq => Sys2Proof.Machine.execTwEq s
  | .twNe => Sys2Proof.Machine.execTwNe s
  | .twLt => Sys2Proof.Machine.execTwLt s
  | .twLe => Sys2Proof.Machine.execTwLe s
  | .twGt => Sys2Proof.Machine.execTwGt s
  | .twGe => Sys2Proof.Machine.execTwGe s
  | .twSel => Sys2Proof.Machine.execTwSel s
  | .twCvt => Sys2Proof.Machine.execTwCvt s
  | .twJmp => Sys2Proof.Machine.execTwJmp s
  | .twJmpc => Sys2Proof.Machine.execTwJmpc s
  | .twJmpcn => Sys2Proof.Machine.execTwJmpcn s
  | .twCall => Sys2Proof.Machine.execTwCall s
  | .twRet => Sys2Proof.Machine.execTwRet s
  | .twEnd t => Sys2Proof.Machine.execTwEnd t s
  | .twTon => Sys2Proof.Machine.execTwTon s
  | .twTof => Sys2Proof.Machine.execTwTof s
  | .twTp => Sys2Proof.Machine.execTwTp s
  | .twCtu => Sys2Proof.Machine.execTwCtu s
  | .twCtd => Sys2Proof.Machine.execTwCtd s
  | .twCtud => Sys2Proof.Machine.execTwCtud s
  | .twRTrig => Sys2Proof.Machine.execTwRTrig s
  | .twFTrig => Sys2Proof.Machine.execTwFTrig s
  | .twSr => Sys2Proof.Machine.execTwSr s
  | .twRs => Sys2Proof.Machine.execTwRs s
  | .twEvt => Sys2Proof.Machine.execTwEvt s
  | .shuttleRun h action => Sys2Proof.Machine.execShuttleRun h action s
  | .shuttleTaskRestart h ix => Sys2Proof.Machine.execShuttleTaskRestart h ix s
  | .onlineChange h flags id => Sys2Proof.Machine.execOnlineChange h flags id s
  | .onlineChangeDiscard h => Sys2Proof.Machine.execOnlineChangeDiscard h s
  | .forceSet h sym elem ty value mram => Sys2Proof.Machine.execForceSet h sym elem ty value mram s
  | .forceClear h sym elem mram => Sys2Proof.Machine.execForceClear h sym elem mram s
  | .forceClearAll h mram => Sys2Proof.Machine.execForceClearAll h mram s
  | .forceList h first => Sys2Proof.Machine.execForceList h first s
  | .ping h => Sys2Proof.Machine.execPing h s
  | .getIdentity h => Sys2Proof.Machine.execGetIdentity h s
  | .getState h => Sys2Proof.Machine.execGetState h s
  | .getCertificate h start => Sys2Proof.Machine.execGetCertificate h start s
  | .getDraftInfo h => Sys2Proof.Machine.execGetDraftInfo h s
  | .goReady h => Sys2Proof.Machine.execGoReady h s
  | .goActive h => Sys2Proof.Machine.execGoActive h s
  | .goSafe h => Sys2Proof.Machine.execGoSafe h s
  | .leaveSafe h => Sys2Proof.Machine.execLeaveSafe h s
  | .goStandby h => Sys2Proof.Machine.execGoStandby h s
  | .enterService h => Sys2Proof.Machine.execEnterService h s
  | .restart h kind => Sys2Proof.Machine.execRestart h kind s
  | .setDpMode h code trk => Sys2Proof.Machine.execSetDpMode h code trk s
  | .setPosition h flag north east => Sys2Proof.Machine.execSetPosition h flag north east s
  | .setHeading h hdg dir => Sys2Proof.Machine.execSetHeading h hdg dir s
  | .setMotionLimits h v a r y => Sys2Proof.Machine.execSetMotionLimits h v a r y s
  | .loadTrack h pts => Sys2Proof.Machine.execLoadTrack h pts s
  | .setFollow h north east rule => Sys2Proof.Machine.execSetFollow h north east rule s
  | .setWindFf h enable kw => Sys2Proof.Machine.execSetWindFf h enable kw s
  | .setThrusterUse h t use' => Sys2Proof.Machine.execSetThrusterUse h t use' s
  | .selectReference h g sess => Sys2Proof.Machine.execSelectReference h g sess s
  | .releaseReference h g => Sys2Proof.Machine.execReleaseReference h g s
  | .draftActivate h id mram => Sys2Proof.Machine.execDraftActivate h id mram s
  | .draftDiscard h => Sys2Proof.Machine.execDraftDiscard h s
  | .draftRevert h id mram => Sys2Proof.Machine.execDraftRevert h id mram s
  | .ledgerInfo h => Sys2Proof.Machine.execLedgerInfo h s
  | .ledgerRead h first count => Sys2Proof.Machine.execLedgerRead h first count s
  | .firmwareActivate h flags mram => Sys2Proof.Machine.execFirmwareActivate h flags mram s
  | .anchorAdd h kind level keyId certOk mram => Sys2Proof.Machine.execAnchorAdd h kind level keyId certOk mram s
  | .anchorRemove h kind keyId mram => Sys2Proof.Machine.execAnchorRemove h kind keyId mram s
  | .anchorList h => Sys2Proof.Machine.execAnchorList h s
  | .safetyUnlock h pw => Sys2Proof.Machine.execSafetyUnlock h pw s
  | .safetyLock h => Sys2Proof.Machine.execSafetyLock h s
  | .safetyPasswordSet h pw salt mram => Sys2Proof.Machine.execSafetyPasswordSet h pw salt mram s
  | .safetyPasswordReset h mram => Sys2Proof.Machine.execSafetyPasswordReset h mram s
  | .recStatus h => Sys2Proof.Machine.execRecStatus h s
  | .recRead h area rseq ofs fixes => Sys2Proof.Machine.execRecRead h area rseq ofs fixes s
  | .recFreeze h fromH fromUs toH toUs => Sys2Proof.Machine.execRecFreeze h fromH fromUs toH toUs s
  | .recRelease h ix => Sys2Proof.Machine.execRecRelease h ix s
  | .telemConfig h ix enable ip port mask decim mram => Sys2Proof.Machine.execTelemConfig h ix enable ip port mask decim mram s
  | .memRead h a n => Sys2Proof.Machine.execMemRead h a n s
  | .memWrite h a b mram => Sys2Proof.Machine.execMemWrite h a b mram s
  | .bulkOpen h target len digest => Sys2Proof.Machine.execBulkOpen h target len digest s
  | .bulkWrite h ofs data => Sys2Proof.Machine.execBulkWrite h ofs data s
  | .bulkClose h img nand => Sys2Proof.Machine.execBulkClose h img nand s
  | .bulkAbort h => Sys2Proof.Machine.execBulkAbort h s
  | .bulkTimeout => Sys2Proof.Machine.execBulkTimeout s
  | .clientHello p cookie t => Sys2Proof.Machine.execClientHello p cookie t s
  | .closeNotify ix => Sys2Proof.Machine.execCloseNotify ix s
  | .commandSessionTimeout ix => Sys2Proof.Machine.execCommandSessionTimeout ix s
  | .safetyExpiry ix => Sys2Proof.Machine.execSafetyExpiry ix s
  | .lockoutExpiry => Sys2Proof.Machine.execLockoutExpiry s
  | .svcEnLow => Sys2Proof.Machine.execSvcEnLow s
  | .portLinkUp p speed mdix => Sys2Proof.Machine.execPortLinkUp p speed mdix s
  | .portLinkDown p => Sys2Proof.Machine.execPortLinkDown p s
  | .prpSupervisionSend => Sys2Proof.Machine.execPrpSupervisionSend s
  | .lanSilence p => Sys2Proof.Machine.execLanSilence p s
  | .ringSupervisionSend => Sys2Proof.Machine.execRingSupervisionSend s
  | .prpFrameReceive p n src seq bad b t => Sys2Proof.Machine.execPrpFrameReceive p n src seq bad b t s
  | .ringFrameForward ing src seq own sup bad mine queued b => Sys2Proof.Machine.execRingFrameForward ing src seq own sup bad mine queued b s
  | .arpRequest p mine conflict => Sys2Proof.Machine.execArpRequest p mine conflict s
  | .icmpEchoRequest p b => Sys2Proof.Machine.execIcmpEchoRequest p b s
  | .igmpQuery v3 => Sys2Proof.Machine.execIgmpQuery v3 s
  | .admissionOpen => Sys2Proof.Machine.execAdmissionOpen s
  | .uartCharacterReceive u c err t => Sys2Proof.Machine.execUartCharacterReceive u c err t s
  | .canFrameReceive c id rec' fast full b t => Sys2Proof.Machine.execCanFrameReceive c id rec' fast full b t s
  | .canBusOff c => Sys2Proof.Machine.execCanBusOff c s
  | .canBusOffRecovery c => Sys2Proof.Machine.execCanBusOffRecovery c s
  | .iec61162450Datagram p group dport b t => Sys2Proof.Machine.execIec61162450Datagram p group dport b t s
  | .udpBinaryDatagram p src sport b t => Sys2Proof.Machine.execUdpBinaryDatagram p src sport b t s
  | .outputSessionSend ix => Sys2Proof.Machine.execOutputSessionSend ix s
  | .rioRequestBuild => Sys2Proof.Machine.execRioRequestBuild s
  | .rioReplyReceive k b t => Sys2Proof.Machine.execRioReplyReceive k b t s
  | .glazeBackgroundTest bad => Sys2Proof.Machine.execGlazeBackgroundTest bad s
  | .adcOutputSample c j pa pb t => Sys2Proof.Machine.execAdcOutputSample c j pa pb t s
  | .sampleLinkFrame ok bits t => Sys2Proof.Machine.execSampleLinkFrame ok bits t s
  | .shuntDisconnect c => Sys2Proof.Machine.execShuntDisconnect c s
  | .shuntReconnect c below => Sys2Proof.Machine.execShuntReconnect c below s
  | .calibrationSlotStart => Sys2Proof.Machine.execCalibrationSlotStart s
  | .calibrationPhaseEnd formed => Sys2Proof.Machine.execCalibrationPhaseEnd formed s
  | .pageProgram outcome => Sys2Proof.Machine.execPageProgram outcome s
  | .blockErase arch fail => Sys2Proof.Machine.execBlockErase arch fail s
  | .flushComplete => Sys2Proof.Machine.execFlushComplete s
  | .monHelp => Sys2Proof.Machine.execMonHelp s
  | .monId => Sys2Proof.Machine.execMonId s
  | .monSt => Sys2Proof.Machine.execMonSt s
  | .monTime => Sys2Proof.Machine.execMonTime s
  | .monEv => Sys2Proof.Machine.execMonEv s
  | .monRec => Sys2Proof.Machine.execMonRec s
  | .monRd => Sys2Proof.Machine.execMonRd s
  | .monWr mram => Sys2Proof.Machine.execMonWr mram s
  | .monLog => Sys2Proof.Machine.execMonLog s
  | .sysOtimeHRead => Sys2Proof.Machine.execSysOtimeHRead s
  | .warpCfgWrite v => Sys2Proof.Machine.execWarpCfgWrite v s
  | .warpConeWrite v => Sys2Proof.Machine.execWarpConeWrite v s
  | .warpBgWrite v => Sys2Proof.Machine.execWarpBgWrite v s
  | .warpPickHRead => Sys2Proof.Machine.execWarpPickHRead s
  | .warpBeatHRead => Sys2Proof.Machine.execWarpBeatHRead s
  | .warpNextedgeHRead => Sys2Proof.Machine.execWarpNextedgeHRead s
  | .heddleSesselWrite v => Sys2Proof.Machine.execHeddleSesselWrite v s
  | .heddleTrkselWrite v => Sys2Proof.Machine.execHeddleTrkselWrite v s
  | .obsSelWrite v => Sys2Proof.Machine.execObsSelWrite v s
  | .wheelFpHRead => Sys2Proof.Machine.execWheelFpHRead s
  | .wheelEngRead => Sys2Proof.Machine.execWheelEngRead s
  | .allocThrselWrite v => Sys2Proof.Machine.execAllocThrselWrite v s
  | .pwrSecselWrite v => Sys2Proof.Machine.execPwrSecselWrite v s
  | .loopSlotselWrite v => Sys2Proof.Machine.execLoopSlotselWrite v s
  | .gnssStrmselWrite v => Sys2Proof.Machine.execGnssStrmselWrite v s
  | .gnssChselWrite v => Sys2Proof.Machine.execGnssChselWrite v s
  | .gnssSigselWrite v => Sys2Proof.Machine.execGnssSigselWrite v s
  | .timeDtHRead => Sys2Proof.Machine.execTimeDtHRead s
  | .timeSrcselWrite v => Sys2Proof.Machine.execTimeSrcselWrite v s
  | .kilnSealHRead => Sys2Proof.Machine.execKilnSealHRead s
  | .kilnInselWrite v => Sys2Proof.Machine.execKilnInselWrite v s
  | .kilnOutselWrite v => Sys2Proof.Machine.execKilnOutselWrite v s
  | .shuttleProgidHRead => Sys2Proof.Machine.execShuttleProgidHRead s
  | .shuttleRetidHRead => Sys2Proof.Machine.execShuttleRetidHRead s
  | .shuttleTaskselWrite v => Sys2Proof.Machine.execShuttleTaskselWrite v s
  | .shuttleTaskstatRead => Sys2Proof.Machine.execShuttleTaskstatRead s
  | .secSerialHRead => Sys2Proof.Machine.execSecSerialHRead s
  | .netPortselWrite v => Sys2Proof.Machine.execNetPortselWrite v s
  | .netSesselWrite v => Sys2Proof.Machine.execNetSesselWrite v s
  | .fieldUartselWrite v => Sys2Proof.Machine.execFieldUartselWrite v s
  | .fieldCanselWrite v => Sys2Proof.Machine.execFieldCanselWrite v s
  | .rioStaselWrite v => Sys2Proof.Machine.execRioStaselWrite v s
  | .glazePsselWrite v => Sys2Proof.Machine.execGlazePsselWrite v s
  | .glazeSwselWrite v => Sys2Proof.Machine.execGlazeSwselWrite v s
  | .glazeSwrunWrite v => Sys2Proof.Machine.execGlazeSwrunWrite v s
  | .glazeSwrunRead => Sys2Proof.Machine.execGlazeSwrunRead s
  | .glazeSwdataWrite v => Sys2Proof.Machine.execGlazeSwdataWrite v s
  | .glazeSwchkRead => Sys2Proof.Machine.execGlazeSwchkRead s
  | .adcChselWrite v => Sys2Proof.Machine.execAdcChselWrite v s
  | .registerWrite a v => Sys2Proof.Machine.execRegisterWrite a v s
  | .unknownOpcode sess b => Sys2Proof.Machine.execUnknownOpcode sess b s
  | .dtlsHandshakeComplete ix hs leaf chain anchor certOk periodOk t => Sys2Proof.Machine.execDtlsHandshakeComplete ix hs leaf chain anchor certOk periodOk t s
  | .monCharacterReceive c => Sys2Proof.Machine.execMonCharacterReceive c s
  | .monUnknownCommand => Sys2Proof.Machine.execMonUnknownCommand s
  | .canBusError c tec rec' => Sys2Proof.Machine.execCanBusError c tec rec' s
  | .delayReqSend ix p t => Sys2Proof.Machine.execDelayReqSend ix p t s
  | .pdelayReqSend p t => Sys2Proof.Machine.execPdelayReqSend p t s
  | .announceSend ix => Sys2Proof.Machine.execAnnounceSend ix s
  | .holdChargeComplete uc => Sys2Proof.Machine.execHoldChargeComplete uc s

end Sys2Proof.Machine
end

