-- ==== Sys2Proof/Machine/Pins.lean ====
section
/-! DEFINITION. The levels that the module drives on its indicator lands: STATE0 to STATE2, FORCE_LED, TPVALID (R390, R502, R540,
R687, R689). They follow from the state and have no state of their own. -/

namespace Sys2Proof.Machine

/-- What STATE2, STATE1 and STATE0 show: steady levels, 1 meaning that the driver sinks, or all three on and off together at a rate in
Hz. -/
inductive Leds where
  | steady (s2 s1 s0 : Bool)
  | blink (hz : Nat)
  deriving DecidableEq, Repr

/-- The state's pattern (R689). -/
def ledsOf : ModState → Leds
  | .off => .steady false false false
  | .boot => .steady false false true
  | .selftest => .steady false true false
  | .standby => .steady false true true
  | .ready => .steady true false false
  | .active => .steady true false true
  | .degraded => .steady true true false
  | .safe => .steady true true true
  | .service => .blink 1

/-- STATE0 to STATE2; a module whose firmware slots both failed shows the boot-failure pattern (R540, R689). -/
def State.leds (s : State) : Leds := if s.sys.st == .boot && s.sys.bootFailed then .blink 4 else ledsOf s.sys.st

/-- The FORCE_LED driver is on while the force table holds any entry (R502). -/
def State.forceLed (s : State) : Bool := !s.shuttle.forces.isEmpty

/-- The level of TPVALID (R390). -/
def State.tpvalidPin (s : State) : Bool := s.time.tpvalid

end Sys2Proof.Machine
end

