-- ==== Sys2Proof/Safety.lean ====
section
/-! DEFINITION. What a run keeps: the terms in which claims speak of outcomes and of good states. -/

namespace Sys2Proof.Machine

/-- Where the outcome is a next state, that state has the property. -/
def After (o : Host.Outcome State Fault Refusal) (P : State → Prop) : Prop :=
  match o with
  | .next t => P t
  | .fault _ => True
  | .refused _ => True

/-- The command completes: its outcome is a next state, and that state has the property. -/
def Completes (o : Host.Outcome State Fault Refusal) (P : State → Prop) : Prop := ∃ t, o = .next t ∧ P t

/-- The General SRAM is in its canonical form: rising addresses, no listed cell equal to what an unlisted one reads as. -/
def Inv (s : State) : Prop := memWf s.mem = true

/-- Task t is the running one, k is its state, and i, its next instruction, has opcode op and goes with its type and mode. -/
abbrev State.runs (s : State) (op t : Nat) (k : Task) (i : TwIns) : Prop :=
  s.shuttle.run = true ∧ s.twRunning = some (t, k) ∧ fetchTw s.shuttle.prog.code k.pc = some i ∧ i.op = op ∧ twAllowed i = true

/-- The state after an instruction of task t: the task as given, and n more writes kept from forced items (saturating). -/
def State.stepped (s : State) (t : Nat) (k : Task) (n : Nat := 0) : State :=
  { s with shuttle := { s.shuttle with tasks := s.shuttle.tasks.set t k, blocked := satAdd 65535 s.shuttle.blocked n } }

/-- The opcode of a Twill instruction and how many values it takes from the stack (R495); END, which has an instant, apart. -/
def twOpcode : Sys2Proof.Instr → Option (Nat × Nat)
  | .twNop => some (0x00, 0)
  | .twLd => some (0x01, 0)
  | .twSt => some (0x02, 1)
  | .twDup => some (0x03, 1)
  | .twDrop => some (0x04, 1)
  | .twSwap => some (0x05, 2)
  | .twLdx => some (0x06, 1)
  | .twStx => some (0x07, 2)
  | .twAdd => some (0x10, 2)
  | .twSub => some (0x11, 2)
  | .twMul => some (0x12, 2)
  | .twDiv => some (0x13, 2)
  | .twMod => some (0x14, 2)
  | .twNeg => some (0x15, 1)
  | .twAbs => some (0x16, 1)
  | .twMin => some (0x17, 2)
  | .twMax => some (0x18, 2)
  | .twLimit => some (0x19, 3)
  | .twSqrt => some (0x1A, 1)
  | .twSin => some (0x1B, 1)
  | .twCos => some (0x1C, 1)
  | .twAtan2 => some (0x1D, 2)
  | .twExp => some (0x1E, 1)
  | .twLn => some (0x1F, 1)
  | .twAnd => some (0x20, 2)
  | .twOr => some (0x21, 2)
  | .twXor => some (0x22, 2)
  | .twNot => some (0x23, 1)
  | .twShl => some (0x24, 2)
  | .twShr => some (0x25, 2)
  | .twRol => some (0x26, 2)
  | .twRor => some (0x27, 2)
  | .twEq => some (0x30, 2)
  | .twNe => some (0x31, 2)
  | .twLt => some (0x32, 2)
  | .twLe => some (0x33, 2)
  | .twGt => some (0x34, 2)
  | .twGe => some (0x35, 2)
  | .twSel => some (0x36, 3)
  | .twCvt => some (0x38, 1)
  | .twJmp => some (0x40, 0)
  | .twJmpc => some (0x41, 1)
  | .twJmpcn => some (0x42, 1)
  | .twCall => some (0x43, 0)
  | .twRet => some (0x44, 0)
  | .twTon => some (0x50, 2)
  | .twTof => some (0x51, 2)
  | .twTp => some (0x52, 2)
  | .twCtu => some (0x53, 3)
  | .twCtd => some (0x54, 3)
  | .twCtud => some (0x55, 5)
  | .twRTrig => some (0x56, 1)
  | .twFTrig => some (0x57, 1)
  | .twSr => some (0x58, 2)
  | .twRs => some (0x59, 2)
  | .twEvt => some (0x60, 1)
  | _ => none

/-- The guidance commands: header, opcode, whether every byte field has a listed value, and the command as it is accepted while
GUIDE is g (R221, R231). -/
def asGuide (g : Guide) : Sys2Proof.Instr → Option (Hdr × Nat × Bool × GuideCmd)
  | .setDpMode h code trk => some (h, 0x0210, true, .mode code trk)
  | .setPosition h flag n e => some (h, 0x0301, decide (flag ≤ 1), g.positionCmd (flag == 1) n.toInt e.toInt)
  | .setHeading h hdg dir => some (h, 0x0302, true, .heading hdg dir)
  | .setMotionLimits h v a r y => some (h, 0x0303, true, .limits v a r y)
  | .loadTrack h pts => some (h, 0x0304, true, .track pts)
  | .setFollow h n e rule => some (h, 0x0305, true, .follow n.toInt e.toInt rule)
  | .setWindFf h enable kw => some (h, 0x0306, decide (enable ≤ 1), .wind (enable == 1) kw)
  | .setThrusterUse h t use => some (h, 0x0310, decide (use ≤ 1), .thruster t (use == 1))
  | _ => none

/-- The opcode under which a session sends a command, with its header (R533); none for what is no command of a session. -/
def asCommand : Sys2Proof.Instr → Option (Hdr × Nat)
  | .resetLoopSlot h _ => some (h, 0x0311)
  | .gnssRetrain h _ => some (h, 0x0910)
  | .timeStatus h => some (h, 0x0701)
  | .timeSourceUse h _ _ => some (h, 0x0710)
  | .timeReestablish h => some (h, 0x0711)
  | .kilnClear h _ _ => some (h, 0x0920)
  | .kilnSwitchTest h _ => some (h, 0x0921)
  | .kilnWithhold h _ _ => some (h, 0x0922)
  | .pairStatus h => some (h, 0x0801)
  | .pairTransfer h => some (h, 0x0810)
  | .pairBar h => some (h, 0x0811)
  | .pairUnbar h => some (h, 0x0812)
  | .shuttleRun h _ => some (h, 0x0230)
  | .shuttleTaskRestart h _ => some (h, 0x0231)
  | .onlineChange h _ _ => some (h, 0x0430)
  | .onlineChangeDiscard h => some (h, 0x0431)
  | .forceSet h _ _ _ _ _ => some (h, 0x0501)
  | .forceClear h _ _ _ => some (h, 0x0502)
  | .forceClearAll h _ => some (h, 0x0503)
  | .forceList h _ => some (h, 0x0504)
  | .ping h => some (h, 0x0100)
  | .getIdentity h => some (h, 0x0101)
  | .getState h => some (h, 0x0102)
  | .getCertificate h _ => some (h, 0x0103)
  | .getDraftInfo h => some (h, 0x0104)
  | .goReady h => some (h, 0x0201)
  | .goActive h => some (h, 0x0202)
  | .goSafe h => some (h, 0x0203)
  | .leaveSafe h => some (h, 0x0204)
  | .goStandby h => some (h, 0x0205)
  | .enterService h => some (h, 0x0206)
  | .restart h _ => some (h, 0x0207)
  | .setDpMode h _ _ => some (h, 0x0210)
  | .setPosition h _ _ _ => some (h, 0x0301)
  | .setHeading h _ _ => some (h, 0x0302)
  | .setMotionLimits h _ _ _ _ => some (h, 0x0303)
  | .loadTrack h _ => some (h, 0x0304)
  | .setFollow h _ _ _ => some (h, 0x0305)
  | .setWindFf h _ _ => some (h, 0x0306)
  | .setThrusterUse h _ _ => some (h, 0x0310)
  | .selectReference h _ _ => some (h, 0x0320)
  | .releaseReference h _ => some (h, 0x0321)
  | .draftActivate h _ _ => some (h, 0x0410)
  | .draftDiscard h => some (h, 0x0411)
  | .draftRevert h _ _ => some (h, 0x0412)
  | .ledgerInfo h => some (h, 0x0420)
  | .ledgerRead h _ _ => some (h, 0x0421)
  | .firmwareActivate h _ _ => some (h, 0x0440)
  | .anchorAdd h _ _ _ _ _ => some (h, 0x0450)
  | .anchorRemove h _ _ _ => some (h, 0x0451)
  | .anchorList h => some (h, 0x0452)
  | .safetyUnlock h _ => some (h, 0x0460)
  | .safetyLock h => some (h, 0x0461)
  | .safetyPasswordSet h _ _ _ => some (h, 0x0462)
  | .safetyPasswordReset h _ => some (h, 0x0463)
  | .recStatus h => some (h, 0x0601)
  | .recRead h _ _ _ _ => some (h, 0x0602)
  | .recFreeze h _ _ _ _ => some (h, 0x0603)
  | .recRelease h _ => some (h, 0x0604)
  | .telemConfig h _ _ _ _ _ _ _ => some (h, 0x0605)
  | .memRead h _ _ => some (h, 0x0901)
  | .memWrite h _ _ _ => some (h, 0x0902)
  | .bulkOpen h _ _ _ => some (h, 0x0A01)
  | .bulkWrite h _ _ => some (h, 0x0A02)
  | .bulkClose h _ _ => some (h, 0x0A03)
  | .bulkAbort h => some (h, 0x0A04)
  | _ => none

/-- The state in which a packet of session i, x in the session table, is judged at p+0.75 (R530): its arrival is noted. -/
def State.heard (s : State) (i : Nat) (x : CmdSession) : State :=
  ((s.at 750000).setCmdSess { x with lastRecord := (s.at 750000).otime }).sessPacket i

/-- The checks that every command shares (R22, R530 to R533): session x sends it, is served, waits for no reply, counts on,
has the level and may use the opcode; the module's state and role are legal. -/
def State.accepts (s : State) (h : Hdr) (op : Nat) (x : CmdSession) : Bool :=
  s.cmdSess h.sess == some x && s.serves && x.waiting.isNone && (match x.last with
    | some (q, _) => q != h.cseq && !seqNewer q h.cseq
    | none => true) && decide ((cmdSpec op).level ≤ (s.heard h.sess x).levelOf x) && (!x.unprov || unprovOps.contains op)
    && (cmdSpec op).legal (s.heard h.sess x)

/-- A command whose reply waits (R531). -/
def State.waits (s : State) (h : Hdr) (op : Nat) : State :=
  match s.cmdSess h.sess with
  | some y => s.setCmdSess { y with waiting := some (h.cseq, op), last := some (h.cseq, []) }
  | none => s

/-- What follows a judgement when the session waits for no other reply (R531). -/
def State.answered (s : State) (h : Hdr) (op : Nat) : Judged → State
  | .refuse e d => s.finish h.sess op h.cseq e (be32 d)
  | .refuseWith t e d => t.finish h.sess op h.cseq e (be32 d)
  | .thenDo t f => f (t.finish h.sess op h.cseq 0 [])
  | .done t r => t.finish h.sess op h.cseq 0 r
  | .wait t => t.waits h op

end Sys2Proof.Machine
end

