-- ==== Sys2Proof/Certificates/Slice0/Obligations.lean ====
section
/-! DEFINITION. The statements for the provers. -/

open Sys2Proof Sys2Proof.Machine

/-- With a command at the front of its queue a state steps as that command does on the state with the rest of the queue. The
queue is the model's own (log entry 1). -/
def Obligations.StepRunsTheFrontCommand : Prop :=
  ∀ (c : Sys2Proof.Instr) (s : State) (rest : List Sys2Proof.Instr), step { s with pending := c :: rest } = exec c
    { s with pending := rest }

/-- Where no command waits a step changes nothing. The spec speaks of no queue; this is the choice of log entry 1. -/
def Obligations.EmptyQueueIdles : Prop :=
  ∀ (s : State), s.pending = [] → step s = .next s

/-- In every state every command of the table answers a next state, never a fault and never a refusal, and leaves the queue
of waiting commands as it was: no command of a module queues another. -/
def Obligations.EveryCommandAnswersAndLeavesTheQueue : Prop :=
  ∀ (i : Sys2Proof.Instr) (s : State), Completes (exec i s) (fun t => t.pending = s.pending)

/-- After reset the memory is in its canonical form and lists nothing, no command waits, the module is in BOOT as ALONE, and
the registers whose reset value is not zero read as the register tables give them: SYS_ID, SYS_STATE, WARP_CFG,
HEDDLE_OLDEST, OBS_R95, OBS_H95, GNSS_CORRAGE, GNSS_CLSVER and TIME_UNC, while WARP_STAT, CMD_STAT, SHUTTLE_CODEFREE and
SHERD_WEAR read zero. -/
def Obligations.ResetState : Prop :=
  (Inv State.reset) ∧
  (State.reset.mem = [] ∧ State.reset.pending = [] ∧ State.reset.sys.st = .boot ∧ State.reset.sys.role = .alone) ∧
  (State.reset.regAt 0x40000000 = 0x8640B100#32 ∧ State.reset.regAt 0x40000004 = 1#32 ∧ State.reset.regAt 0x40010000 = 1#32) ∧
  (State.reset.regAt 0x40020004 = 0xFFFFFFFF#32 ∧ State.reset.regAt 0x40030008 = 0xFFFFFFFF#32 ∧ State.reset.regAt 0x4003000C
    = 0xFFFFFFFF#32) ∧
  (State.reset.regAt 0x4007010C = 0x0000FFFF#32 ∧ State.reset.regAt 0x4007011C = 0x00010000#32 ∧ State.reset.regAt 0x40080010
    = 0xFFFFFFFF#32) ∧
  (State.reset.regAt 0x40010004 = 0#32 ∧ State.reset.regAt 0x40130000 = 0#32 ∧ State.reset.regAt 0x4011001C = 0#32)

/-- From every state whose memory is in its canonical form, one cell per listed address at rising addresses and none that
holds what an unlisted one reads as, a step leads to such a state. That a byte that nothing has written reads zero is
the choice of log entry 5. -/
def Obligations.StepKeepsInv : Prop :=
  ∀ (s t : State), Inv s → step s = .next t → Inv t

/-- Of all commands only MEM_WRITE and the monitor's WR can change a byte of the General SRAM, and the end of the hold-up
time, which loses it: registers and memory are written from outside only through these (R28, R534, R662). -/
def Obligations.OnlyWritersChangeMemory : Prop :=
  ∀ (i : Sys2Proof.Instr) (s t : State), exec i s = .next t → t.mem ≠ s.mem → (∃ h a b m, i = .memWrite h a b m) ∨ (∃ m, i =
    .monWr m) ∨ i = .holdUpEnd

/-- An accepted MEM_WRITE to the General partition stores its bytes at rising addresses from the one given, and every other
byte of the memory reads as before; a MEM_WRITE to an address that may not be written ends with 0x1005 and writes
nothing, and where another block owns the place the integrity event is raised besides. -/
def Obligations.WrittenMemoryReadsBack : Prop :=
  (∀ (s : State) (h : Hdr) (x : CmdSession) (a : Nat) (b : List Byte), Inv s → s.accepts h 0x0902 x = true → spanIn [general]
    a b.length = true → Completes (exec (.memWrite h a b true) s) (fun t => ∀ n, memRead t.mem n = if a ≤ n ∧ n < a +
    b.length then b.getD (n - a) 0 else memRead s.mem n)) ∧
  (∀ (s : State) (h : Hdr) (x : CmdSession) (a : Nat) (b : List Byte) (m : Bool), s.accepts h 0x0902 x = true → writable a
    b.length = false → exec (.memWrite h a b m) s = .next (if ownedSpan a b.length = true then ((s.heard h.sess x).finish
    h.sess 0x0902 h.cseq 0x1005 (be32 0)).blockedWrite else (s.heard h.sess x).finish h.sess 0x0902 h.cseq 0x1005 (be32
    0)))

/-- Whatever command of the opcode table a session sends as a new one while it waits for no reply: where the session's level
is below the opcode's, or an unprovisioned session may not use it, or the module's state or pair role is not legal for
it, the command is refused with a status other than zero and the refusal is all that follows (R21, R22, R527, R532,
R533). -/
def Obligations.LevelStateAndRoleAreChecked : Prop :=
  ∀ (i : Sys2Proof.Instr) (h : Hdr) (op : Nat) (s : State) (x : CmdSession), asCommand i = some (h, op) → s.cmdSess h.sess =
    some x → s.serves = true → x.waiting = none → (∀ q r, x.last = some (q, r) → q ≠ h.cseq ∧ seqNewer q h.cseq = false) →
    ((s.heard h.sess x).levelOf x < (cmdSpec op).level ∨ (x.unprov = true ∧ unprovOps.contains op = false) ∨ (cmdSpec
    op).legal (s.heard h.sess x) = false) → ∃ e d, e ≠ 0 ∧ exec i s = .next ((s.heard h.sess x).finish h.sess op h.cseq e
    (be32 d))

/-- A refused command leaves module state, configuration, every block, the memory and the Draft ledger as they were; it
counts in CMD_REFCNT and CMD_LASTREF and leaves its record (R21, R549, R647). -/
def Obligations.RefusalsHaveNoEffect : Prop :=
  (∀ (s t : State) (i op e : Nat) (q : Word) (r : List Byte), e ≠ 0 → t = s.finish i op q e r → t.cmd.refCnt = sat32
    s.cmd.refCnt ∧ t.cmd.accCnt = s.cmd.accCnt ∧ t.cmd.lastRefStatus = BitVec.ofNat 16 e ∧ t.cmd.lastRefOpcode =
    BitVec.ofNat 16 op) ∧
  (∀ (s t : State) (i op e : Nat) (q : Word) (r : List Byte), t = s.finish i op q e r → t.sys = s.sys ∧ t.draft = s.draft ∧
    t.staged = s.staged ∧ t.prevDraft = s.prevDraft ∧ t.clk = s.clk ∧ t.warp = s.warp ∧ t.heddle = s.heddle ∧ t.obs =
    s.obs ∧ t.wheel = s.wheel ∧ t.guide = s.guide ∧ t.alloc = s.alloc ∧ t.plant = s.plant ∧ t.loop = s.loop ∧ t.rio =
    s.rio ∧ t.adc = s.adc ∧ t.shuttle = s.shuttle ∧ t.mirror = s.mirror ∧ t.kiln = s.kiln ∧ t.kport = s.kport ∧ t.time =
    s.time ∧ t.gnss = s.gnss ∧ t.sess = s.sess ∧ t.sec = s.sec ∧ t.mem = s.mem ∧ t.copies = s.copies ∧ t.copySeq =
    s.copySeq ∧ t.shown = s.shown ∧ t.field = s.field ∧ t.glaze = s.glaze ∧ t.mon = s.mon ∧ t.pmic = s.pmic ∧ t.free =
    s.free)

/-- Whatever command of the opcode table a session sends: with the CSEQ of the last one evaluated it is not evaluated again
and the stored reply is sent again, with an older CSEQ it is answered by 0x1006 and the stored reply stays (R530). -/
def Obligations.RepeatedAndOldSequenceNumbers : Prop :=
  (∀ (i : Sys2Proof.Instr) (h : Hdr) (op : Nat) (s : State) (x : CmdSession) (r : List Byte), asCommand i = some (h, op) →
    s.cmdSess h.sess = some x → s.serves = true → x.last = some (h.cseq, r) → r ≠ [] → exec i s = .next ((s.heard h.sess
    x).emit (.reply x.idx r))) ∧
  (∀ (i : Sys2Proof.Instr) (h : Hdr) (op : Nat) (s : State) (x : CmdSession) (q : Word) (r : List Byte), asCommand i = some
    (h, op) → s.cmdSess h.sess = some x → s.serves = true → x.last = some (q, r) → 1 ≤ (q - h.cseq).toNat → (q -
    h.cseq).toNat ≤ 2147483647 → exec i s = .next ((s.heard h.sess x).turnAway x op h.cseq 0x1006))

/-- Sets 0 to 3 have the parameters of R613 in every state, whatever sets a Draft defines, and give the check values of R613
over the nine ASCII bytes 123456789. -/
def Obligations.FixedGlazeSets : Prop :=
  (∀ (s : State), s.glazeSet 0 = some
    { width := 32, refin := true, refout := true, poly := 0x1EDC6F41, init := 0xFFFFFFFF, xorout := 0xFFFFFFFF } ∧
    s.glazeSet 1 = some
    { width := 32, refin := true, refout := true, poly := 0x04C11DB7, init := 0xFFFFFFFF, xorout := 0xFFFFFFFF } ∧
    s.glazeSet 2 = some { width := 24, refin := false, refout := false, poly := 0x864CFB, init := 0, xorout := 0 } ∧
    s.glazeSet 3 = some { width := 16, refin := false, refout := false, poly := 0x1021, init := 0xFFFF, xorout := 0 }) ∧
  (∀ (s : State) (g : GlazeSet) (i : Nat), i < 4 → s.glazeSet i = some g → glazeCheck g
    [0x31, 0x32, 0x33, 0x34, 0x35, 0x36, 0x37, 0x38, 0x39] = [0xE3069283, 0xCBF43926, 0xCDE703, 0x29B1].getD i 0)

/-- The three lands show the code of R689 for each module state, blink together at 1 Hz in SERVICE and at 4 Hz when both
firmware slots failed. -/
def Obligations.StateLamps : Prop :=
  (∀ (s : State), (s.sys.st = .off → s.leds = .steady false false false) ∧ (s.sys.st = .boot → s.sys.bootFailed = false →
    s.leds = .steady false false true) ∧ (s.sys.st = .selftest → s.leds = .steady false true false) ∧ (s.sys.st = .standby
    → s.leds = .steady false true true) ∧ (s.sys.st = .ready → s.leds = .steady true false false) ∧ (s.sys.st = .active →
    s.leds = .steady true false true) ∧ (s.sys.st = .degraded → s.leds = .steady true true false) ∧ (s.sys.st = .safe →
    s.leds = .steady true true true) ∧ (s.sys.st = .service → s.leds = .blink 1)) ∧
  (∀ (s : State), s.sys.bootFailed = true → s.sys.st = .boot → s.leds = .blink 4)

/-- At a beat edge that is due the beat count becomes zero when beats have not run before it, and is one higher otherwise,
whether the beat starts or is dropped; WARP_BEAT_H holds its high word, and reading that register latches its low word
into WARP_BEAT_L. -/
def Obligations.BeatCount : Prop :=
  (∀ (s : State), s.edgeDue = true → s.warp.run = false → Completes (exec .beatEdge s) (fun t => t.warp.beatCount = 0 ∧
    t.warpReg 0x14 = 0#32)) ∧
  (∀ (s : State), s.edgeDue = true → s.warp.run = true → Completes (exec .beatEdge s) (fun t => t.warp.beatCount =
    s.warp.beatCount + 1 ∧ t.warpReg 0x14 = BitVec.ofNat 32 ((s.warp.beatCount + 1) / 4294967296))) ∧
  (∀ (s : State), Completes (exec .warpBeatHRead s) (fun t => t.warpReg 0x10 = BitVec.ofNat 32 s.warp.beatCount))

/-- Whatever SAFE cause arises in ACTIVE or DEGRADED, the module is in SAFE at once with that cause recorded, a waiting
entry into ACTIVE is discarded, no telegram of a beat is left to send, the DP mode is IDLE and every loop slot that ran
is OPEN (R53, R199, R278, R519, R520). -/
def Obligations.SafeAtOnce : Prop :=
  ∀ (s t : State) (c : Nat), c < 8 → s.sys.st = .active ∨ s.sys.st = .degraded → t = s.enterSafe c → t.sys.st = .safe ∧
    t.sys.pending = none ∧ t.warp.txBeat = [] ∧ t.guide.mode = 0 ∧ t.cmd.safe.getLsbD c = true ∧ t.loop.slots.all (fun p
    => decide (p.2.st ≤ 1)) = true

/-- Wrapped into an integer type, a number stays congruent to itself modulo two to the type's width and lies within the
type's limits, and a number within the limits stays what it is (R494). -/
def Obligations.IntegersWrap : Prop :=
  (∀ (ty : Nat) (n : Int), tyInt ty = true → (twInt ty (twWrap ty n) - n) % ((2 ^ tyBits ty : Nat) : Int) = 0 ∧ twMin ty ≤
    twInt ty (twWrap ty n) ∧ twInt ty (twWrap ty n) ≤ twMax ty) ∧
  (∀ (ty : Nat) (n : Int), tyInt ty = true → twMin ty ≤ n → n ≤ twMax ty → twInt ty (twWrap ty n) = n)

/-- A write to HEDDLE_SESSEL, HEDDLE_TRKSEL, OBS_SEL, ALLOC_THRSEL, PWR_SECSEL, LOOP_SLOTSEL, TIME_SRCSEL, KILN_INSEL or
KILN_OUTSEL completes in every state: the register then reads the index written, reduced to its field, and nothing
outside the block that holds the register and its window changes. -/
def Obligations.SelectorWritesA : Prop :=
  (∀ (s : State) (v : Word), Completes (exec (.heddleSesselWrite v) s) (fun t => t.regAt 0x40020008 = word (v.toNat % 512) ∧
    { t with heddle := s.heddle } = s)) ∧
  (∀ (s : State) (v : Word), Completes (exec (.heddleTrkselWrite v) s) (fun t => t.regAt 0x40020040 = word (v.toNat % 64) ∧
    { t with heddle := s.heddle } = s)) ∧
  (∀ (s : State) (v : Word), Completes (exec (.obsSelWrite v) s) (fun t => t.regAt 0x40030028 = word (v.toNat % 32) ∧
    { t with obs := s.obs } = s)) ∧
  (∀ (s : State) (v : Word), Completes (exec (.allocThrselWrite v) s) (fun t => t.regAt 0x40050010 = word (v.toNat % 32) ∧
    { t with alloc := s.alloc } = s)) ∧
  (∀ (s : State) (v : Word), Completes (exec (.pwrSecselWrite v) s) (fun t => t.regAt 0x40150810 = word (v.toNat % 8) ∧
    { t with plant := s.plant } = s)) ∧
  (∀ (s : State) (v : Word), Completes (exec (.loopSlotselWrite v) s) (fun t => t.regAt 0x40060018 = word (v.toNat % 64) ∧
    { t with loop := s.loop } = s)) ∧
  (∀ (s : State) (v : Word), Completes (exec (.timeSrcselWrite v) s) (fun t => t.regAt 0x40080030 = v &&& 3 ∧
    { t with time := s.time } = s)) ∧
  (∀ (s : State) (v : Word), Completes (exec (.kilnInselWrite v) s) (fun t => t.regAt 0x400F0034 = word (v.toNat % 32) ∧
    t.regAt 0x400F0038 = s.mirrorWord (0x1000 + 4 * (v.toNat % 32)) ∧ { t with kport := s.kport } = s)) ∧
  (∀ (s : State) (v : Word), Completes (exec (.kilnOutselWrite v) s) (fun t => t.regAt 0x400F003C = word (v.toNat % 16) ∧
    t.regAt 0x400F0040 = s.mirrorWord (0x2000 + 16 * (v.toNat % 16)) ∧ { t with kport := s.kport } = s))

/-- A write to GNSS_STRMSEL, GNSS_CHSEL, GNSS_SIGSEL, SHUTTLE_TASKSEL, NET_PORTSEL, NET_SESSEL, FIELD_UARTSEL, FIELD_CANSEL,
RIO_STASEL, GLAZE_PSSEL or ADC_CHSEL completes in every state: the register then reads the index written, reduced to its
field, and nothing outside the block that holds the register and its window changes. -/
def Obligations.SelectorWritesB : Prop :=
  (∀ (s : State) (v : Word), Completes (exec (.gnssStrmselWrite v) s) (fun t => t.regAt 0x40070010 = v &&& 15 ∧
    { t with gnss := s.gnss } = s)) ∧
  (∀ (s : State) (v : Word), Completes (exec (.gnssChselWrite v) s) (fun t => t.regAt 0x40070040 = v &&& 511 ∧
    { t with gnss := s.gnss } = s)) ∧
  (∀ (s : State) (v : Word), Completes (exec (.gnssSigselWrite v) s) (fun t => t.regAt 0x40070120 = v &&& 511 ∧
    { t with gnss := s.gnss } = s)) ∧
  (∀ (s : State) (v : Word), Completes (exec (.shuttleTaskselWrite v) s) (fun t => t.regAt 0x40110030 = word (v.toNat % 8) ∧
    { t with shuttle := s.shuttle } = s)) ∧
  (∀ (s : State) (v : Word), Completes (exec (.netPortselWrite v) s) (fun t => t.regAt 0x40090020 = v &&& 3 ∧
    { t with net := s.net } = s)) ∧
  (∀ (s : State) (v : Word), Completes (exec (.netSesselWrite v) s) (fun t => t.regAt 0x40090040 = v &&& 511 ∧
    { t with net := s.net } = s)) ∧
  (∀ (s : State) (v : Word), Completes (exec (.fieldUartselWrite v) s) (fun t => t.regAt 0x400A0010 = v &&& 7 ∧
    { t with field := s.field } = s)) ∧
  (∀ (s : State) (v : Word), Completes (exec (.fieldCanselWrite v) s) (fun t => t.regAt 0x400A0020 = v &&& 3 ∧
    { t with field := s.field } = s)) ∧
  (∀ (s : State) (v : Word), Completes (exec (.rioStaselWrite v) s) (fun t => t.regAt 0x400B0020 = word (v.toNat % 128) ∧
    { t with rio := s.rio } = s)) ∧
  (∀ (s : State) (v : Word), Completes (exec (.glazePsselWrite v) s) (fun t => t.regAt 0x400D0010 = word (v.toNat % 64) ∧
    { t with glaze := s.glaze } = s)) ∧
  (∀ (s : State) (v : Word), Completes (exec (.adcChselWrite v) s) (fun t => t.regAt 0x400C0020 = word (v.toNat % 32) ∧
    { t with adc := s.adc } = s))

/-- A read of a high word (SYS_OTIME_H, WARP_PICK_H, WARP_BEAT_H, WARP_NEXTEDGE_H, WHEEL_FP_H, TIME_DT_H, KILN_SEAL_H,
SHUTTLE_PROGID_H, SHUTTLE_RETID_H, SEC_SERIAL_H) gives the high word and latches the low word that the low register then
reads (WARP_NEXTEDGE_L while an edge is arranged); a read of WHEEL_ENG gives the engine word and clears its residue
bits; a read of SHUTTLE_TASKSTAT gives the window's status and clears the sticky flags it returned, in the window and in
the selected task. Nothing outside the block and what leaves the module changes. -/
def Obligations.ReadsWithEffects : Prop :=
  (∀ (s : State), Completes (exec .sysOtimeHRead s) (fun t => t.out = s.out ++ [.regValue 0x40000014 s.otimeHours] ∧ t.regAt
    0x40000018 = word (s.otime % 3600000000) ∧ { t with sys := s.sys, out := s.out, net := s.net, pair := s.pair } = s)) ∧
  (∀ (s : State), Completes (exec .warpPickHRead s) (fun t => t.out = s.out ++ [.regValue 0x4001000C (hi32 s.warp.pickCount)]
    ∧ t.regAt 0x40010008 = lo32 s.warp.pickCount ∧ { t with warp := s.warp, out := s.out, net := s.net, pair := s.pair } =
    s)) ∧
  (∀ (s : State), Completes (exec .warpBeatHRead s) (fun t => t.out = s.out ++ [.regValue 0x40010014 (hi32 s.warp.beatCount)]
    ∧ t.regAt 0x40010010 = lo32 s.warp.beatCount ∧ { t with warp := s.warp, out := s.out, net := s.net, pair := s.pair } =
    s)) ∧
  (∀ (s : State), Completes (exec .warpNextedgeHRead s) (fun t => t.out = s.out ++
    [.regValue 0x4001002C (hi32 s.nextEdgeTime)] ∧ (s.warp.nextEdge.isSome = true → t.regAt 0x40010028 = lo32
    s.nextEdgeTime) ∧ { t with warp := s.warp, out := s.out, net := s.net, pair := s.pair } = s)) ∧
  (∀ (s : State), Completes (exec .wheelFpHRead s) (fun t => t.out = s.out ++ [.regValue 0x40040034 (hi32 s.wheel.fp.toNat)]
    ∧ t.regAt 0x40040030 = lo32 s.wheel.fp.toNat ∧ { t with wheel := s.wheel, out := s.out, net := s.net, pair := s.pair }
    = s)) ∧
  (∀ (s : State), Completes (exec .wheelEngRead s) (fun t => t.out = s.out ++ [.regValue 0x4004002C s.wheelEng] ∧
    { t.wheel with residueReg := s.wheel.residueReg } = s.wheel ∧ t.regAt 0x4004002C = word (s.wheel.faultReg.toNat * 256)
    ∧ { t with wheel := s.wheel, out := s.out, net := s.net, pair := s.pair } = s)) ∧
  (∀ (s : State), Completes (exec .timeDtHRead s) (fun t => t.out = s.out ++ [.regValue 0x40080008 (hi32 s.now)] ∧ t.regAt
    0x40080004 = lo32 s.now ∧ { t with time := s.time, out := s.out, net := s.net, pair := s.pair } = s)) ∧
  (∀ (s : State), Completes (exec .kilnSealHRead s) (fun t => t.out = s.out ++ [.regValue 0x400F0024 (s.mirrorWord 0x24)] ∧
    t.regAt 0x400F0020 = s.mirrorWord 0x20 ∧ { t with kport := s.kport, out := s.out, net := s.net, pair := s.pair } = s)) ∧
  (∀ (s : State), Completes (exec .shuttleProgidHRead s) (fun t => t.out = s.out ++
    [.regValue 0x4011000C (hi32 s.shuttle.prog.progId.toNat)] ∧ t.regAt 0x40110008 = lo32 s.shuttle.prog.progId.toNat ∧
    { t with shuttle := s.shuttle, out := s.out, net := s.net, pair := s.pair } = s)) ∧
  (∀ (s : State), Completes (exec .shuttleRetidHRead s) (fun t => t.out = s.out ++
    [.regValue 0x40110014 (hi32 s.shuttle.prog.retId.toNat)] ∧ t.regAt 0x40110010 = lo32 s.shuttle.prog.retId.toNat ∧
    { t with shuttle := s.shuttle, out := s.out, net := s.net, pair := s.pair } = s)) ∧
  (∀ (s : State), Completes (exec .shuttleTaskstatRead s) (fun t => t.out = s.out ++ [.regValue 0x40110034 s.shuttle.winStat]
    ∧ t.shuttle.winStat = s.shuttle.winStat &&& 0xFFFFF8FF#32 ∧ (∀ k, s.shuttle.tasks[s.shuttle.sel.toNat]? = some k →
    t.shuttle.tasks[s.shuttle.sel.toNat]? = some
    { k with divz := k.divz && !s.shuttle.winStat.getLsbD 8, range := k.range && !s.shuttle.winStat.getLsbD 9, fpout := k.fpout && !s.shuttle.winStat.getLsbD 10 })
    ∧ { t with shuttle := s.shuttle, out := s.out, net := s.net, pair := s.pair } = s)) ∧
  (∀ (s : State), Completes (exec .secSerialHRead s) (fun t => t.out = s.out ++
    [.regValue 0x40100008 (hi32 Config.serial.toNat)] ∧ t.regAt 0x40100004 = lo32 Config.serial.toNat ∧
    { t with sec := s.sec, out := s.out, net := s.net, pair := s.pair } = s))

/-- WARP_CFG takes a value of 0 to 4 in STANDBY only and is otherwise left as it is; each 1 written to WARP_CONE or WARP_BG
clears its bit; the withhold mask takes 16 bits; GLAZE_SWSEL takes its defined bits and, where the set it names exists,
gives the unit that set with INIT as running value; GLAZE_SWRUN sets and gives the running value; GLAZE_SWDATA feeds
NBYTES bytes, most significant first; GLAZE_SWCHK gives the check value. Nothing outside the block changes but what
leaves the module. -/
def Obligations.WarpAndGlazeWrites : Prop :=
  (∀ (s : State) (v : Word), (s.sys.st = .standby) → (v.toNat % 8 ≤ 4) → Completes (exec (.warpCfgWrite v) s) (fun t =>
    t.warp.nsel = BitVec.ofNat 3 v.toNat ∧ { t with warp := { t.warp with nsel := s.warp.nsel } } = s)) ∧
  (∀ (s : State) (v : Word), (s.sys.st ≠ .standby ∨ 4 < v.toNat % 8) → exec (.warpCfgWrite v) s = .next (s)) ∧
  (∀ (s : State) (v : Word), Completes (exec (.warpConeWrite v) s) (fun t => (∀ n, n < 10 → t.warp.cone.getLsbD n =
    (s.warp.cone.getLsbD n && !v.getLsbD n)) ∧ { t with warp := { t.warp with cone := s.warp.cone } } = s)) ∧
  (∀ (s : State) (v : Word), Completes (exec (.warpBgWrite v) s) (fun t => (t.warp.bgSram, t.warp.bgMram, t.warp.bgConseq,
    t.warp.bgTelem) = (s.warp.bgSram && !v.getLsbD 0, s.warp.bgMram && !v.getLsbD 1, s.warp.bgConseq && !v.getLsbD 2,
    s.warp.bgTelem && !v.getLsbD 3) ∧ { t with warp := s.warp } = s)) ∧
  (∀ (s : State) (v : Word), Completes (exec (.withholdMaskWrite v) s) (fun t => t.regAt 0x400F0018 = (v.setWidth
    16).setWidth 32 ∧ { t with kport := { t.kport with withhold := s.kport.withhold } } = s)) ∧
  (∀ (s : State) (v : Word) (y : GlazeSet), (s.glazeSet (nbits v.toNat 13 8) = some y) → Completes (exec (.glazeSwselWrite v)
    s) (fun t => t.regAt 0x400D0030 = v &&& 0x3F01#32 ∧ t.glaze.unit = { set := some (nbits v.toNat 13 8), run := y.init }
    ∧ { t with glaze := s.glaze } = s)) ∧
  (∀ (s : State) (v : Word), (s.glazeSet (nbits v.toNat 13 8) = none) → Completes (exec (.glazeSwselWrite v) s) (fun t =>
    t.regAt 0x400D0030 = v &&& 0x3F01#32 ∧ { t with glaze := { t.glaze with swSel := s.glaze.swSel } } = s)) ∧
  (∀ (s : State) (v : Word), Completes (exec (.glazeSwrunWrite v) s) (fun t => t.glaze.unit.run = v.toNat % 2 ^
    s.unitSet.width ∧ { t with glaze := s.glaze } = s)) ∧
  (∀ (s : State), exec .glazeSwrunRead s = .next (s.emit (.regValue 0x400D0034 (word s.glaze.unit.run)))) ∧
  (∀ (s : State) (v : Word), Completes (exec (.glazeSwdataWrite v) s) (fun t => t.glaze.unit.run = glazeRun s.unitSet
    s.glaze.unit.run ((be32 v.toNat).take (s.glaze.swCtl.toNat % 4 + 1)) ∧ { t with glaze := s.glaze } = s)) ∧
  (∀ (s : State), exec .glazeSwchkRead s = .next (s.emit (.regValue 0x400D0040 s.swChk)))

/-- A REGISTER_WRITE to the address of a register with a row of its own has exactly that row's effect, and a REGISTER_WRITE
to an address at which no writable register lies leaves the state as it is. -/
def Obligations.RegisterWriteActsAsItsRow : Prop :=
  (∀ (s : State) (a : Nat) (v : Word), (aget a rwWrites = none) → (aget a otherWrites = none) → exec (.registerWrite a v) s =
    .next (s)) ∧
  (∀ (s : State) (v : Word), exec (.registerWrite 0x40020008 v) s = exec (.heddleSesselWrite v) s ∧ exec (.registerWrite
    0x40020040 v) s = exec (.heddleTrkselWrite v) s ∧ exec (.registerWrite 0x40030028 v) s = exec (.obsSelWrite v) s ∧
   
    exec (.registerWrite 0x40050010 v) s = exec (.allocThrselWrite v) s ∧ exec (.registerWrite 0x40150810 v) s = exec
    (.pwrSecselWrite v) s ∧ exec (.registerWrite 0x40060018 v) s = exec (.loopSlotselWrite v) s ∧
    exec (.registerWrite
    0x40070010 v) s = exec (.gnssStrmselWrite v) s ∧ exec (.registerWrite 0x40070040 v) s = exec (.gnssChselWrite v) s ∧
    exec (.registerWrite 0x40070120 v) s = exec (.gnssSigselWrite v) s ∧
    exec (.registerWrite 0x40080030 v) s = exec
    (.timeSrcselWrite v) s ∧ exec (.registerWrite 0x400F0018 v) s = exec (.withholdMaskWrite v) s ∧ exec (.registerWrite
    0x400F0034 v) s = exec (.kilnInselWrite v) s ∧
    exec (.registerWrite 0x400F003C v) s = exec (.kilnOutselWrite v) s
    ∧ exec (.registerWrite 0x40110030 v) s = exec (.shuttleTaskselWrite v) s ∧ exec (.registerWrite 0x40090020 v) s = exec
    (.netPortselWrite v) s ∧
    exec (.registerWrite 0x40090040 v) s = exec (.netSesselWrite v) s ∧ exec (.registerWrite
    0x400A0010 v) s = exec (.fieldUartselWrite v) s ∧ exec (.registerWrite 0x400A0020 v) s = exec (.fieldCanselWrite v) s
    ∧
    exec (.registerWrite 0x400B0020 v) s = exec (.rioStaselWrite v) s ∧ exec (.registerWrite 0x400D0010 v) s = exec
    (.glazePsselWrite v) s ∧ exec (.registerWrite 0x400D0030 v) s = exec (.glazeSwselWrite v) s ∧
    exec (.registerWrite
    0x400D0034 v) s = exec (.glazeSwrunWrite v) s ∧ exec (.registerWrite 0x400D003C v) s = exec (.glazeSwdataWrite v) s ∧
    exec (.registerWrite 0x400C0020 v) s = exec (.adcChselWrite v) s ∧
    exec (.registerWrite 0x40010000 v) s = exec
    (.warpCfgWrite v) s ∧ exec (.registerWrite 0x40010020 v) s = exec (.warpConeWrite v) s ∧ exec (.registerWrite
    0x40010034 v) s = exec (.warpBgWrite v) s)

/-- POWER_UP in OFF, outside a thermal shutdown, starts the module at BOOT with cause 1, the Kiln powered and HOLD charging;
BOOT_VERIFY_COMPLETE takes the slot that verifies (the active one, else the other), runs its firmware in SELFTEST with
event 0x11040001 (and 0x11340002 where it is the other slot), or stays in BOOT with bootFailed when neither verifies;
SELFTEST_COMPLETE recovers the staged records, takes the ledger as MRAM gives it back (0x11220004 when it does not
verify), judges the Draft and leads on to STANDBY when every self-test passes, and to SAFE with cause 7 otherwise. -/
def Obligations.StartSteps : Prop :=
  (∀ (s : State) (rtc : Option Nat), (s.sys.st = .off) → (s.pmic.thermalOff = false) → Completes (exec (.powerUp rtc) s) (fun
    t => t = s.powerUp 1 rtc ∧ t.sys.st = .boot ∧ t.pmic.rstCause = 1 ∧ t.pmic.waitHold = true ∧ t.kiln =
    { powered := true })) ∧
  (∀ (s : State) (seat ok0 ok1 : Bool) (us : Nat), (s.sys.st = .boot) → (s.sys.bootFailed = false) → (s.pmic.loomHeld =
    false) → (s.sec.bootBegins.bootSlot ok0 ok1 = none) → exec (.bootVerifyComplete seat ok0 ok1 us) s = .next
    ({ s with sys := { s.sys with pairSeat := seat, bootFailed := true }, clk := { s.clk with sub := 0, tick := s.clk.tick + us * 1000, otimeUs := s.clk.otimeUs + us }, sec := s.sec.bootBegins })) ∧
  (∀ (s : State) (seat ok0 ok1 : Bool) (us : Nat), (s.sys.st = .boot) → (s.sys.bootFailed = false) → (s.pmic.loomHeld =
    false) → (s.sec.bootBegins.bootSlot ok0 ok1 = some s.sec.bootBegins.activeSlot) → Completes (exec (.bootVerifyComplete
    seat ok0 ok1 us) s) (fun t => ∃ r, r = State.firmwareRuns
    { s with sys := { s.sys with pairSeat := seat }, clk := { s.clk with sub := 0, tick := s.clk.tick + us * 1000, otimeUs := s.clk.otimeUs + us }, sec := { s.sec.bootBegins with bootedSlot := s.sec.bootBegins.activeSlot, slotFailed := false } }
    ∧ t = (r.raise 0x11040001#32 (byteOf (b2n s.sec.bootBegins.activeSlot) :: be32
    r.sec.running.version.toNat)).provisioned)) ∧
  (∀ (s : State) (seat ok0 ok1 : Bool) (us : Nat), (s.sys.st = .boot) → (s.sys.bootFailed = false) → (s.pmic.loomHeld =
    false) → (s.sec.bootBegins.bootSlot ok0 ok1 = some (!s.sec.bootBegins.activeSlot)) → Completes (exec
    (.bootVerifyComplete seat ok0 ok1 us) s) (fun t => ∃ r, r = State.firmwareRuns
    { s with sys := { s.sys with pairSeat := seat }, clk := { s.clk with sub := 0, tick := s.clk.tick + us * 1000, otimeUs := s.clk.otimeUs + us }, sec := { s.sec.bootBegins with bootedSlot := !s.sec.bootBegins.activeSlot, slotFailed := true } }
    ∧ ∃ q, q = r.raise 0x11040001#32 (byteOf (b2n (!s.sec.bootBegins.activeSlot)) :: be32 r.sec.running.version.toNat) ∧ t
    = (State.raise { q with sec := { q.sec with slotFailed := false } } 0x11340002#32).provisioned)) ∧
  (∀ (s : State) (ok : Bool) (trips : List (Bool × Bool)) (glazeBad : BitVec 16) (whole : Bool) (hits : List (Nat × Nat ×
    Byte)) (damaged : List Word), (s.sys.st = .selftest) → (s.pmic.waitHold = false) → (ok = true) → (trips.all (fun e =>
    e.1 && e.2) = true ∨ s.pmic.rstCause = 2) → (glazeBad = 0) → Completes (exec (.selftestComplete ok trips glazeBad
    whole hits damaged) s) (fun t => ∃ q r, q = { s with sec := { s.sec with ledger := ledgerHit s.sec.ledger hits } } ∧ r
    = q.stagingRecovery (startCause s.pmic.rstCause) (startCause s.pmic.rstCause == 1) damaged ∧ t = (((if ledgerOk
    q.sec.ledger then r else r.raise 0x11220004#32).glazeSelftest 0).verifyDraft whole).standbyReached)) ∧
  (∀ (s : State) (ok : Bool) (trips : List (Bool × Bool)) (glazeBad : BitVec 16) (whole : Bool) (hits : List (Nat × Nat ×
    Byte)) (damaged : List Word), (s.sys.st = .selftest) → (s.pmic.waitHold = false) → (ok = false ∨ glazeBad ≠ 0 ∨
    (trips.all (fun e => e.1 && e.2) = false ∧ s.pmic.rstCause ≠ 2)) → Completes (exec (.selftestComplete ok trips
    glazeBad whole hits damaged) s) (fun t => ∃ q r, q =
    { s with sec := { s.sec with ledger := ledgerHit s.sec.ledger hits } } ∧ r = q.stagingRecovery (startCause
    s.pmic.rstCause) (startCause s.pmic.rstCause == 1) damaged ∧ t = ((((if ledgerOk q.sec.ledger then r else r.raise
    0x11220004#32).glazeSelftest glazeBad).verifyDraft whole).raise 0x01440004#32).enterSafe 7))

/-- A supply in a warning band for 1 s raises 0x16240003 once; a power-fail warning acts in every state but OFF; its
withdrawal, never after a thermal shutdown, counts and lets held resets act; the end of the hold-up after a warning
powers the module down, which loses the SRAM, the Kiln's state and the staged records; an hour after the last
measurement HOLD's capacitance is measured anew from the time that a discharge of 2 V into 50 mA took; HOLD at 45 V ends
the wait of the start and gives the capacitance from the charge between 20 and 40 V; 1.0 s of charging without it raises
0x1624000B and the start goes on; the end of a flush lets held resets act; a temperature beyond its limit for 10 ms
raises 0x16440008 and the warning; after it the module starts with cause 7 once the baseplate is below 90 °C and every
junction below 110 °C. -/
def Obligations.PowerSupply : Prop :=
  (∀ (s : State) (since : Nat), (s.pmic.bandSince = some since) → (since + 1000000 ≤ s.otime) → (s.pmic.vinOut = false) →
    exec .vinOutOfBand s = .next (State.raise { s with pmic := { s.pmic with vinOut := true } } 0x16240003#32)) ∧
  (∀ (s : State), (s.sys.st ≠ .off) → exec .powerFailWarning s = .next (s.powerFail false)) ∧
  (∀ (s : State), (s.pmic.pfw = true) → (s.pmic.pfwThermal = false) → exec .warningWithdrawn s = .next ((State.raise
    { s with pmic := { s.pmic with pfw := false, pfWithdrawn := sat16 s.pmic.pfWithdrawn }, sherd := { s.sherd with lowShut := s.sherd.pfFlush } }
    0x16040002#32).heldActs)) ∧
  (∀ (s : State), (s.sherd.pfFlush = true) → exec .flushComplete s = .next (s.flushEnd.heldActs)) ∧
  (∀ (s : State), (s.pmic.pfw = true) → Completes (exec .holdUpEnd s) (fun t => t = s.powerOff ∧ t.sys.st = .off ∧ t.mem = []
    ∧ t.kiln = {} ∧ t.sherd.staging = [])) ∧
  (∀ (s : State) (us : Nat), (s.sys.st ≠ .off) → (s.pmic.capAt + 3600000000 ≤ s.otime) → Completes (exec
    (.holdCapacitanceMeasure us) s) (fun t => t = s.holdMeasured (us * 50 / 2000) ∧ t.pmic.holdCap = us * 50 / 2000 ∧
    t.pmic.capAt = s.otime)) ∧
  (∀ (s : State) (uc : Nat), (s.sys.st ≠ .off) → Completes (exec (.holdChargeComplete uc) s) (fun t => t = State.holdMeasured
    { s with pmic := { s.pmic with holdOk := true, waitHold := false } } (uc / 20) ∧ t.pmic.holdCap = uc / 20 ∧
    t.pmic.holdOk = true ∧ t.pmic.waitHold = false)) ∧
  (∀ (s : State), (s.sys.st ≠ .off) → (s.pmic.waitHold = true) → (s.pmic.holdOk = false) → (s.pmic.chargeAt + 1000000 ≤
    s.otime) → exec .holdChargeTimeout s = .next (State.raise
    { s with pmic := { s.pmic with waitHold := false, holdLow := true } } 0x1624000B#32)) ∧
  (∀ (s : State) (since : Nat), (s.pmic.hotSince = some since) → (since + 10000 ≤ s.otime) → (s.pmic.pfwThermal = false) →
    (s.sys.st ≠ .off) → exec .thermalShutdown s = .next ((s.raise 0x16440008#32).powerFail true)) ∧
  (∀ (s : State) (tb tl tk tp : Int) (rtc : Option Nat), (s.sys.st = .off) → (s.pmic.thermalOff = true) → (tb < 900) → (tl <
    1100) → (tk < 1100) → (tp < 1100) → Completes (exec (.thermalRecovery tb tl tk tp rtc) s) (fun t => t = s.powerUp 7
    rtc ∧ t.sys.st = .boot ∧ t.pmic.rstCause = 7))

/-- With power and outside a lock of the Loom, RST_N low resets the Loom with code 4 and the PMIC watchdog with code 5, held
while a flush runs; without power they do nothing. A fault of the Kiln rails resets the Kiln, holds it and enters SAFE;
of the Selvedge rails takes its readback and holds it; of a Loom rail resets the Loom with code 6, and a second one
within 10 s holds it. -/
def Obligations.ResetSources : Prop :=
  (∀ (s : State), (s.sys.st ≠ .off) → (s.pmic.loomHeld = false) → exec .rstNLow s = .next (s.resetOrHold 4)) ∧
  (∀ (s : State), (s.sys.st = .off ∨ s.pmic.loomHeld = true) → exec .rstNLow s = .next (s)) ∧
  (∀ (s : State), (s.sys.st ≠ .off) → (s.pmic.loomHeld = false) → exec .pmicWatchdogExpiry s = .next (s.resetOrHold 5)) ∧
  (∀ (s : State), (s.sys.st = .off ∨ s.pmic.loomHeld = true) → exec .pmicWatchdogExpiry s = .next (s)) ∧
  (∀ (s : State), (s.sys.st ≠ .off) → Completes (exec (.railFault 0) s) (fun t => ∃ r, r = State.raise
    { s with pmic := { s.pmic with railFault := s.pmic.railFault ||| 1#5, railGood := s.pmic.railGood &&& ~~~1#5 } }
    0x1644000A#32 ∧ t = State.enterSafe { r with kiln := {}, pmic := { r.pmic with held := r.pmic.held ||| 1#3 } } 4)) ∧
  (∀ (s : State), (s.sys.st ≠ .off) → Completes (exec (.railFault 2) s) (fun t => ∃ r, r = State.raise
    { s with pmic := { s.pmic with railFault := s.pmic.railFault ||| 4#5, railGood := s.pmic.railGood &&& ~~~4#5 } }
    0x1644000A#32 ∧ t = { r with kiln := r.kiln.readbackLost, pmic := { r.pmic with held := r.pmic.held ||| 4#3 } })) ∧
  (∀ (s : State) (rail : Nat), (s.sys.st ≠ .off) → (rail = 1 ∨ rail = 3 ∨ rail = 4) → (s.pmic.railAt = none) → Completes
    (exec (.railFault rail) s) (fun t => ∃ r, r = State.raise
    { s with pmic := { s.pmic with railFault := s.pmic.railFault ||| BitVec.ofNat 5 (2 ^ rail), railGood := s.pmic.railGood &&& ~~~(BitVec.ofNat 5 (2 ^ rail)) } }
    0x1644000A#32 ∧ t = { r.loomReset 6 with pmic := { (r.loomReset 6).pmic with railAt := some r.otime } })) ∧
  (∀ (s : State) (rail at0 : Nat), (s.sys.st ≠ .off) → (rail = 1 ∨ rail = 3 ∨ rail = 4) → (s.pmic.railAt = some at0) →
    (s.otime ≤ at0 + 10000000) → Completes (exec (.railFault rail) s) (fun t => ∃ r, r = State.raise
    { s with pmic := { s.pmic with railFault := s.pmic.railFault ||| BitVec.ofNat 5 (2 ^ rail), railGood := s.pmic.railGood &&& ~~~(BitVec.ofNat 5 (2 ^ rail)) } }
    0x1644000A#32 ∧ t =
    { r.loomReset 6 with pmic := { (r.loomReset 6).pmic with railAt := some r.otime, held := (r.loomReset 6).pmic.held ||| 2#3 } }))

/-- A pick tick while picks run advances the Warp, the network's counters, scrubbing, the pair, the Kiln timeouts, the time
base, the streams, the supplies and telemetry, in this order, sends the SAFE telegrams and renews the registers of the
pick; without picks it does nothing. A beat edge that is due applies the commands of the edge; where the beat starts,
the waiting commands and the schedule's role are latched, a pending state change takes effect, the availability is
determined and the beat marked; where it is dropped, only the pending state change takes effect; the thrust in force is
then noted and the synchronisation frames leave. An edge that is not due changes nothing. RECORD takes the beat before
the last when its RECORD is due, else the last one once dispatched, one at a time; its end releases the bank and is
noted in microseconds from the beat's edge. A clock comparison does nothing with the power off; else it keeps its
result, and what failed now and before is shown; with nothing failing twice it does no more. The time save writes OTIME
and DTIME. -/
def Obligations.ClocksAndPicks : Prop :=
  (∀ (s : State) (netUs : Nat) (spare : Bool) (streams : List (List SampRun)) (exc : List F64) (svcEn : Bool) (pw : PowerIn),
    (s.warp.picks = true) → Completes (exec (.pickTick netUs spare streams exc svcEn pw) s) (fun t => ∃ r q, r =
    ((s.warpTick netUs).netPick).scrub spare ∧ q =
    (({ r with sys := { r.sys with svcEn := svcEn }, mon := { r.mon with ovf := false, log := r.mon.log && svcEn }, sherd := { r.sherd with pagesNow := 0, eraseNow := false } }
    : State).pairTick).kilnTimeouts.timePick ∧ t = (((((q.streamsPick streams).excCheck exc).powerPick pw).telemetrySend
    spare).safeSend).renew pickRegs)) ∧
  (∀ (s : State) (netUs : Nat) (spare : Bool) (streams : List (List SampRun)) (exc : List F64) (svcEn : Bool) (pw : PowerIn),
    (s.warp.picks = false) → exec (.pickTick netUs spare streams exc svcEn pw) s = .next (s)) ∧
  (∀ (s : State), (s.edgeDue = true) → (((s.at 0).applyCommands.warpEdge).warp.window.head? = some false) → exec .beatEdge s
    = .next ((((s.at
    0).applyCommands.warpEdge).latchCommands.latchRole.enterAtEdge.availability.markLive).logTau.beatSync.syncCapture)) ∧
  (∀ (s : State), (s.edgeDue = true) → (((s.at 0).applyCommands.warpEdge).warp.window.head? ≠ some false) → exec .beatEdge s
    = .next (((s.at 0).applyCommands.warpEdge).enterAtEdge.logTau.beatSync.syncCapture)) ∧
  (∀ (s : State), (s.edgeDue = false) → exec .beatEdge s = .next (s)) ∧
  (∀ (s : State) (u : Ns) (b : Beat), (s.warp.run = true) → (s.warp.old = []) → (s.warp.prev.all (fun p => p.recording != 1
    && !p.recordDue (s.at u).n (s.at u).now) = true) → (s.warp.last = some b) → (s.warp.stage = .dispatched) →
    (b.recordDue (s.at u).n (s.at u).now = true) → Completes (exec (.record u) s) (fun t => ∃ r, r = (s.at u).recordBeat b
    ((s.at u).summaryData b) ∧ t =
    { r with warp := { r.warp with last := some { b with recording := 1 }, stage := .recorded } })) ∧
  (∀ (s : State) (u : Ns) (b : Beat), (s.warp.run = true) → (s.warp.old = []) → (s.warp.prev = some b) → (s.warp.last.all
    (fun l => l.recording != 1) = true) → (b.recordDue (s.at u).n (s.at u).now = true) → Completes (exec (.record u) s)
    (fun t => ∃ r, r = (s.at u).recordBeat b b.data ∧ t =
    { r with warp := { r.warp with prev := some { b with recording := 1 } } })) ∧
  (∀ (s : State) (u : Ns) (b : Beat), (s.warp.old = []) → (s.warp.prev.all (fun p => p.recording != 1) = true) → (s.warp.last
    = some b) → (b.recording = 1) → exec (.recordComplete u) s = .next
    ({ (s.at u) with warp := { s.warp with last := some b.recordDone, recordEnd := ((s.at u).now - b.edge) / 1000 % 65536 } })) ∧
  (∀ (s : State) (u : Ns) (b : Beat), (s.warp.old = []) → (s.warp.prev = some b) → (b.recording = 1) → exec (.recordComplete
    u) s = .next
    ({ (s.at u) with warp := { s.warp with prev := some b.recordDone, recordEnd := ((s.at u).now - b.edge) / 1000 % 65536 } })) ∧
  (∀ (s : State) (u : Ns) (b : Beat) (rest : List Beat), (s.warp.old = b :: rest) → exec (.recordComplete u) s = .next
    ({ (s.at u) with warp := { s.warp with old := rest, recordEnd := ((s.at u).now - b.edge) / 1000 % 65536 } })) ∧
  (∀ (s : State) (counts : List (Nat × Nat)) (half : Nat × Nat), (s.sys.st = .off) → exec (.clockComparison counts half) s =
    .next (s)) ∧
  (∀ (s : State) (counts : List (Nat × Nat)) (half : Nat × Nat), (s.sys.st ≠ .off) → (cmpFails counts half &&& s.sys.cmpLast
    = 0) → exec (.clockComparison counts half) s = .next
    ({ s with sys := { s.sys with cmpLast := cmpFails counts half, clkCmp := 0, checker := 0 } })) ∧
  (∀ (s : State) (counts : List (Nat × Nat)) (half : Nat × Nat), (s.sys.st ≠ .off) → Completes (exec (.clockComparison counts
    half) s) (fun t => t.sys.cmpLast = cmpFails counts half ∧ t.sys.clkCmp = cmpFails counts half &&& s.sys.cmpLast)) ∧
  (∀ (s : State), exec .otimeSave s = .next (s.saveTime))

/-- While beats run, three drops in the window set DROPS once and none clears it, ten drops in a row enter SAFE with cause 2
once; a stage that is not done at its deadline fires monitor 0 or 1 with a Loom fault; a GUIDE or beat task that still
holds the bank fires monitor 2; telegrams not sent by their limits fire monitor 4, and 5, which discards them; a late
RECORD fires monitor 6 once; a late phase-back sends what waits, fires monitor 7 and counts the reaction as 250 µs; a
late scrub pass raises its event once. -/
def Obligations.ConeMonitors : Prop :=
  (∀ (s : State), (s.warp.run = true) → (3 ≤ s.warp.win) → (s.warp.degDrop = false) → exec .dropWindowDegrade s = .next
    ((State.raise { s with warp := { s.warp with degDrop := true } } 0x02310002#32).setDeg 0)) ∧
  (∀ (s : State), (s.warp.run = true) → (s.warp.win = 0) → (s.warp.degDrop = true) → exec .dropWindowClear s = .next
    ((State.raise { s with warp := { s.warp with degDrop := false } } 0x02010003#32).clearDeg 0)) ∧
  (∀ (s : State), (s.warp.run = true) → (10 ≤ s.warp.dropRun) → (s.warp.dropSafe = false) → exec .dropRunSafe s = .next
    ((State.raise { s with warp := { s.warp with dropSafe := true } } 0x0241000F#32).enterSafe 2)) ∧
  (∀ (s : State), (s.warp.before .voted = true) → exec (.coneStageOverrun false) s = .next ((State.raise (s.fire 0)
    0x02410005#32).loomFault)) ∧
  (∀ (s : State), (s.warp.before .observed = true) → exec (.coneStageOverrun true) s = .next ((State.raise (s.fire 1)
    0x02410005#32).loomFault)) ∧
  (∀ (s : State) (b : Beat), (s.warp.run = true) → (s.warp.stage ≠ .idle) → (s.warp.last = some b) → (b.guiding = true) →
    exec .coneGuideLate s = .next (State.raise ((s.fire 2).at 0) 0x02110004#32)) ∧
  (∀ (s : State) (n : Nat), ((s.sendBeat n).warp.txBeat ≠ []) → exec (.coneTelegramsLate n) s = .next (State.raise
    ((s.sendBeat n).fire 4) 0x02210006#32)) ∧
  (∀ (s : State) (n : Nat), ((s.sendBeat n).warp.txBeat = []) → exec (.coneTelegramsLate n) s = .next (s.sendBeat n)) ∧
  (∀ (s : State) (n : Nat), ((s.sendBeat n).warp.txBeat ≠ []) → exec (.coneWithholdLimit n) s = .next (State.raise
    ((s.sendBeat n).unsendBeat.fire 5) 0x02210007#32)) ∧
  (∀ (s : State) (n : Nat), ((s.sendBeat n).warp.txBeat = []) → exec (.coneWithholdLimit n) s = .next (s.sendBeat n)) ∧
  (∀ (s : State) (u : Ns), ((s.warp.last.toList ++ s.warp.prev.toList ++ s.warp.old).any (fun b => b.recordLate s.n (s.at
    u).now) = true) → exec (.coneRecordLate u) s = .next (State.raise (State.fire
    { (s.at u) with warp := { s.warp with last := s.warp.last.map (markLate s.n (s.at u).now), prev := s.warp.prev.map (markLate s.n (s.at u).now), old := s.warp.old.map (markLate s.n (s.at u).now) } }
    6) 0x02110008#32)) ∧
  (∀ (s : State), (s.warp.txPhase ≠ []) → Completes (exec .conePhaseBackLate s) (fun t => ∃ r, r = State.raise ((s.at
    300000).fire 7) 0x02310010#32 ∧ t = State.emitAll
    { r with warp := { r.warp with txPhase := [] }, plant := { r.plant with pbReact := 250000 } } s.warp.txPhase)) ∧
  (∀ (s : State), (12000 < s.warp.sramPicks) → (s.warp.sramTold = false) → exec (.scrubLate false) s = .next (State.raise
    { s with warp := { s.warp with bgSram := true, sramTold := true } } 0x0221000B#32)) ∧
  (∀ (s : State), (60000 < s.warp.mramPicks) → (s.warp.mramTold = false) → exec (.scrubLate true) s = .next (State.raise
    { s with warp := { s.warp with bgMram := true, mramTold := true } } 0x0221000B#32))

/-- A master sends Sync and Announce on its ports and answers a Delay_Req with its receive time; an Announce makes the
module master where its own data set is better and the Draft permits it, else it is kept, requalifies a source whose
grandmaster changes, and updates the leap count of a selected source; a slave timestamps its Delay_Req and Pdelay_Req,
takes a Sync as a sample of the port (at once, or with its Follow_Up), and keeps the delay that a matching response
gives; a Pdelay_Req is answered on a port that measures peer delay; a ring Sync is forwarded with the residence time,
the link delay and the asymmetry added, which a two-step Sync leaves to its Follow_Up; a Follow_Up without its Sync and
a message in UDP transport go on uncorrected and are counted; other ring messages go on as they are; management messages
are counted. -/
def Obligations.TimeMessages : Prop :=
  (∀ (s : State) (i : Nat), (i < 2) → ((s.src i).mast = true) → exec (.masterSyncSend i) s = .next (s.sendSync i)) ∧
  (∀ (s : State), (s.ringMaster = true) → exec .ringSyncSend s = .next (s.sendSync 2)) ∧
  (∀ (s : State) (i : Nat), (s.mastOf i = true) → exec (.announceSend i) s = .next (State.emitAll
    { s with time := { s.time with txAnn := s.time.txAnn.set i ((s.time.txAnn.getD i 0 + 1) % 65536) } } ((domPorts i).map
    (fun p => Output.frame p "Announce" (ptpMsg 11 (s.domain i).number (s.time.txAnn.getD i 0) 0 s.now ++
    [byteOf (s.clockClass (i == 2)), byteOf s.clockAcc, byteOf (s.domain i).prio1, byteOf (s.domain i).prio2] ++ be16
    (BitVec.ofInt 16 s.time.leap).toNat ++ [byteOf (fbit 0 s.time.l61 + fbit 1 s.time.l59)]))))) ∧
  (∀ (s : State) (i : Nat) (a : Announce), ((s.domain i).master = true) → (s.ownBetter i a = true) → exec (.announceReceive i
    a) s = .next (s.setSrc i { s.src i with mast := true })) ∧
  (∀ (s : State) (i : Nat) (a : Announce), ((s.domain i).master = false ∨ s.ownBetter i a = false) → ((s.src i).gm = some
    a.gm ∨ (s.src i).gm = none) → (s.time.sel.contains i = false) → exec (.announceReceive i a) s = .next (s.setSrc i
    { s.src i with mast := false, annAt := s.otime, annInt := logUs a.logInt, gm := some a.gm, sender := some a.sender, utc := if a.utcValid then some (a.utcOfs, a.leap61, a.leap59) else none })) ∧
  (∀ (s : State) (i : Nat) (a : Announce), ((s.domain i).master = false ∨ s.ownBetter i a = false) → ((s.src i).gm = some
    a.gm ∨ (s.src i).gm = none) → (s.time.sel.contains i = true) → exec (.announceReceive i a) s = .next ((s.setSrc i
    { s.src i with mast := false, annAt := s.otime, annInt := logUs a.logInt, gm := some a.gm, sender := some a.sender, utc := if a.utcValid then some (a.utcOfs, a.leap61, a.leap59) else none }).leapUpdate)) ∧
  (∀ (s : State) (i : Nat) (a : Announce) (g : U64), ((s.domain i).master = false ∨ s.ownBetter i a = false) → ((s.src i).gm
    = some g) → (g ≠ a.gm) → ((s.src i).st = 2 ∨ (s.src i).st = 3 ∨ (s.src i).st = 4) → exec (.announceReceive i a) s =
    .next ((s.setSrc i
    { s.src i with mast := false, annAt := s.otime, annInt := logUs a.logInt, gm := some a.gm, sender := some a.sender, utc := if a.utcValid then some (a.utcOfs, a.leap61, a.leap59) else none, st := 2, since := s.otime }).reselect)) ∧
  (∀ (s : State) (i p n : Nat) (t1 corr t2 l : Int) (v : ServoOut), (s.slaveOf i = true) → (s.portTimes p = true) → exec
    (.ptpSyncReceive i p false n t1 corr t2 l v) s = .next ((s.setSrc i
    { s.src i with syncAt := s.otime, syncInt := logUs l }).portSample i p (t1 + corr) t2 v)) ∧
  (∀ (s : State) (i p n : Nat) (t1 corr t2 l : Int) (v : ServoOut), (s.slaveOf i = true) → (s.portTimes p = true) → Completes
    (exec (.ptpSyncReceive i p true n t1 corr t2 l v) s) (fun t => ∃ r, r = s.setSrc i
    { s.src i with syncAt := s.otime, syncInt := logUs l } ∧ t = r.setSrc i ((r.src i).setPort p
    { (r.src i).port p with wait := some (n, t2, corr) }))) ∧
  (∀ (s : State) (i p n : Nat) (t1 corr t2 c : Int) (v : ServoOut) (b : List Byte) (bad : Bool), (p < 2) → (s.slaveOf i =
    true) → (s.portTimes p = true) → (((s.src i).port p).wait = some (n, t2, c)) → exec (.followUpReceive i p n t1 corr v
    b bad) s = .next (s.portSample i p (t1 + corr + c) t2 v)) ∧
  (∀ (s : State) (i p n : Nat) (t1 corr : Int) (v : ServoOut) (b : List Byte) (bad : Bool) (e : Nat × Nat × Int), (2 ≤ p) →
    ((s.link p).passed.find? (fun (e : Nat × Nat × Int) => e.1 == n && decide (s.otime ≤ e.2.1 + 10000)) = some e) → exec
    (.followUpReceive i p n t1 corr v b bad) s = .next (State.ringOut
    { s with time := { s.time with tcCnt := sat32 s.time.tcCnt } } p "Follow_Up" b (corr + e.2.2) bad)) ∧
  (∀ (s : State) (i p n : Nat) (t1 corr : Int) (v : ServoOut) (b : List Byte) (bad : Bool), (2 ≤ p) → ((s.link
    p).passed.find? (fun (e : Nat × Nat × Int) => e.1 == n && decide (s.otime ≤ e.2.1 + 10000)) = none) → exec
    (.followUpReceive i p n t1 corr v b bad) s = .next ((s.ringOut p "Follow_Up" b corr bad).ringMissed)) ∧
  (∀ (s : State) (g n : Nat) (bad : Bool) (corr res : Int) (b : List Byte), exec (.ringPtpForward g n true false false bad
    corr res b) s = .next (State.ringOut { s with time := { s.time with tcCnt := sat32 s.time.tcCnt } } g "Sync" b (corr +
    (res + (s.link g).delay.getD 0 + s.asym g)) bad)) ∧
  (∀ (s : State) (g n : Nat) (bad : Bool) (corr res : Int) (b : List Byte), exec (.ringPtpForward g n true true false bad
    corr res b) s = .next ((s.setLink g
    { s.link g with passed := ((n, s.otime, res + (s.link g).delay.getD 0 + s.asym g) :: (s.link g).passed).take 64 }).ringOut
    g "Sync" b corr bad)) ∧
  (∀ (s : State) (g n : Nat) (sync two bad : Bool) (corr res : Int) (b : List Byte), exec (.ringPtpForward g n sync two true
    bad corr res b) s = .next ((s.ringOut g "PTP" b corr bad).ringMissed)) ∧
  (∀ (s : State) (g n : Nat) (two bad : Bool) (corr res : Int) (b : List Byte), exec (.ringPtpForward g n false two false bad
    corr res b) s = .next (s.ringOut g "PTP" b corr bad)) ∧
  (∀ (s : State) (i p : Nat) (u : Ns), (s.slaveOf i = true) → (s.portTimes p = true) → ((s.domain i).profile = 0) → exec
    (.delayReqSend i p u) s = .next (((s.at u).setSrc i ((s.src i).setPort p
    { (s.src i).port p with req := some (((s.src i).port p).reqNo, inSub (s.at u).now), reqNo := (((s.src i).port p).reqNo + 1) % 65536 })).emit
    (.frame p "Delay_Req" (ptpMsg 1 (s.domain i).number ((s.src i).port p).reqNo 0 (s.at u).now)))) ∧
  (∀ (s : State) (i p n : Nat) (t4 t3 t1 t2 : Int), (s.slaveOf i = true) → (s.portTimes p = true) → (((s.src i).port p).req =
    some (n, t3)) → (((s.src i).port p).sync = some (t1, t2)) → exec (.delayRespReceive i p n t4) s = .next (s.setSrc i
    ((s.src i).setPort p (((s.src i).port p).addDelay s.otime (Int.fdiv ((t2 - t1) + (t4 - t3)) 2))))) ∧
  (∀ (s : State) (i p n : Nat) (u : Ns), (i < 2) → ((s.src i).mast = true) → exec (.delayReqReceive i p n u) s = .next ((s.at
    u).emit (.frame p "Delay_Resp" (ptpMsg 9 (s.domain i).number n 0 (s.at u).now)))) ∧
  (∀ (s : State) (p : Nat) (u : Ns), (s.peerPort p = true) → exec (.pdelayReqSend p u) s = .next (((s.at u).setLink p
    { s.link p with req := some ((s.link p).reqNo, inSub (s.at u).now), reqNo := ((s.link p).reqNo + 1) % 65536 }).emit
    (.frame p "Pdelay_Req" (ptpMsg 2 0 (s.link p).reqNo 0 (s.at u).now)))) ∧
  (∀ (s : State) (p n : Nat) (u : Ns), (s.peerPort p = true) → exec (.pdelayReqReceive p n u) s = .next ((s.at u).emit
    (.frame p "Pdelay_Resp" (ptpMsg 3 0 n 0 (s.at u).now)))) ∧
  (∀ (s : State) (p n : Nat) (t4 turn t1 : Int), (s.peerPort p = true) → ((s.link p).req = some (n, t1)) → exec
    (.pdelayRespReceive p n t4 turn) s = .next (s.setLink p ((s.link p).addDelay s.otime (Int.fdiv ((t4 - t1) - turn) 2)))) ∧
  (∀ (s : State), exec .managementMessageReceive s = .next ({ s with time := { s.time with mgmt := sat32 s.time.mgmt } }))

/-- A source of a domain the module may not master, in QUALIFYING, GOOD or SUSPECT, that times out is lost and the selection
made anew; a source fed for T_QUAL becomes GOOD with event 0x09010007; a FAULT that has run out begins QUALIFYING; a
SUSPECT that agreed for T_QUAL is GOOD again. Outside ACTIVE and DEGRADED, DTIME steps by an offset beyond T_STEP; in
them by whole seconds at a beat edge. Beyond the holdover limit 0x0921000D is raised once. REFIN is taken into use after
a second of deviations within 20 ppm; a failing test while it is in use raises 0x0934000A and the TCXO takes over with
the measured ratio, one while it is not begins its 60 s anew; after 60 s it comes back with 0x0904000B; a failing TCXO
raises 0x0924000E once. A leap second is inserted or deleted at the end of the UTC day with 0x0911000C. A pulse of an
output leaves at a whole second of DTIME less its advance, in mode 1 once time is established, in mode 2 in every state
from STANDBY on; TPVALID falls with its condition, and rises when the condition has held for 2 s. -/
def Obligations.TimeSources : Prop :=
  (∀ (s : State) (i : Nat), (i < 2) → ((s.src i).annAt + annTimeout * (s.src i).annInt ≤ s.otime ∨ (s.src i).syncAt + 3 *
    (s.src i).syncInt ≤ s.otime) → ((s.domain i).master = false) → ((s.src i).st = 2 ∨ (s.src i).st = 3 ∨ (s.src i).st =
    4) → exec (.ptpSourceTimeout i) s = .next ((s.srcLost i).reselect)) ∧
  (∀ (s : State) (i : Nat), ((s.src i).st = 2) → ((s.src i).fed = true) → ((s.src i).since + s.timeRec.tQual * 1000000 ≤
    s.otime) → exec (.sourceQualified i) s = .next ((State.raise (s.setSrc i { s.src i with st := 3 })
    0x09010007#32).reselect)) ∧
  (∀ (s : State) (i : Nat), ((s.src i).st = 5) → ((s.src i).faultTo ≤ s.otime) → exec (.sourceFaultExpiry i) s = .next
    (s.setSrc i { s.src i with st := 2, fed := false, since := s.otime })) ∧
  (∀ (s : State) (i since : Nat), ((s.src i).agree = some since) → ((s.src i).st = 4) → (since + s.timeRec.tQual * 1000000 ≤
    s.otime) → exec (.suspectReturn i) s = .next ((s.setSrc i { s.src i with st := 3, agree := none }).reselect)) ∧
  (∀ (s : State), (s.clk.est = true) → (s.time.sel ≠ []) → (s.clk.sub = 0) → (s.isActive = false) → (inSub s.timeRec.tStep <
    s.timeOfs) → Completes (exec .dtimeStep s) (fun t => ∃ r, r = s.moveTime (subToNs s.timeOfs) ∧ t = State.raise
    { r with time := { r.time with steps := sat16 r.time.steps } } 0x09110002#32)) ∧
  (∀ (s : State), (s.clk.est = true) → (s.time.sel ≠ []) → (s.clk.sub = 0) → (s.isActive = true) → (s.warp.run = true) →
    (s.warp.phase = 0) → (inSub 1000000000 < s.timeOfs) → Completes (exec .dtimeStep s) (fun t => ∃ r q, r = s.moveTime
    (subToNs s.timeOfs / 1000000000 * 1000000000) ∧ q = State.raise
    { r with time := { r.time with steps := sat16 r.time.steps, secSteps := sat16 r.time.secSteps } } 0x09210003#32 ∧ t =
    (if q.ringMaster then q.sendSync 2 else q))) ∧
  (∀ (s : State), (s.time.hold = true) → (s.time.holdTold = false) → (flt (fofNat s.timeRec.holdLimit) s.timeUnc = true) →
    exec .holdoverLimit s = .next (State.raise { s with time := { s.time with holdTold := true } } 0x0921000D#32)) ∧
  (∀ (s : State) (devs : List Int), (s.time.refUse = false) → (s.time.refBad = false) → (s.timeRec.refUse = true) → (1000 ≤
    devs.length) → (devs.all (fun d => decide (d.natAbs ≤ 20000)) = true) → exec (.refinQualify devs) s = .next
    ({ s with time := { s.time with refUse := true } })) ∧
  (∀ (s : State) (edge : Bool) (dev ratio : Int), (edge = false ∨ 20000 < dev.natAbs) → (s.time.refUse = true) → exec
    (.refinFailure edge dev ratio) s = .next (State.raise
    { s with time := { s.time with refBad := true, refFailAt := s.otime, refUse := false, freq := iclamp (-50000000) 50000000 ratio } }
    0x0934000A#32)) ∧
  (∀ (s : State) (edge : Bool) (dev ratio : Int), (edge = false ∨ 20000 < dev.natAbs) → (s.time.refUse = false) → exec
    (.refinFailure edge dev ratio) s = .next ({ s with time := { s.time with refBad := true, refFailAt := s.otime } })) ∧
  (∀ (s : State) (ratio : Int), (s.time.refBad = true) → (s.timeRec.refUse = true) → (s.time.refFailAt + 60000000 ≤ s.otime)
    → exec (.refinRestore ratio) s = .next (State.raise
    { s with time := { s.time with refBad := false, refUse := true, freq := iclamp (-50000000) 50000000 ratio } }
    0x0904000B#32)) ∧
  (∀ (s : State) (edge : Bool) (dev : Int), (s.time.tcxoBad = false) → (edge = false ∨ 20000 < dev.natAbs) → exec
    (.tcxoFailure edge dev) s = .next (State.raise { s with time := { s.time with tcxoBad := true } } 0x0924000E#32)) ∧
  (∀ (s : State), (s.clk.est = true) → (s.time.l61 = true) → ((((s.now / 1000000000 : Nat) : Int) - s.time.leap) % 86400 = 0)
    → exec .leapSecondApply s = .next (State.raise
    { s with time := { s.time with leap := s.time.leap + 1, l61 := false, l59 := false, leapMram := some (s.time.leap + 1), srcs := s.time.srcs.map (fun (x : TimeSource) => { x with utc := x.utc.map (fun _ => (s.time.leap + 1, false, false)) }), leapGnss := s.time.leapGnss.map (fun _ => (s.time.leap + 1, false, false)) } }
    0x0911000C#32)) ∧
  (∀ (s : State), (s.clk.est = true) → (s.time.l61 = false) → (s.time.l59 = true) → ((((s.now / 1000000000 : Nat) : Int) -
    s.time.leap) % 86400 = 86399) → exec .leapSecondApply s = .next (State.raise
    { s with time := { s.time with leap := s.time.leap - 1, l61 := false, l59 := false, leapMram := some (s.time.leap - 1), srcs := s.time.srcs.map (fun (x : TimeSource) => { x with utc := x.utc.map (fun _ => (s.time.leap - 1, false, false)) }), leapGnss := s.time.leapGnss.map (fun _ => (s.time.leap - 1, false, false)) } }
    0x0911000C#32)) ∧
  (∀ (s : State) (n : Nat) (u : Ns) (r : PpsRec), (s.timeRec.pps[n]? = some r) → ((r.mode = 1 ∧ s.clk.est = true) ∨ (r.mode =
    2 ∧ 3 ≤ stateCode s.sys.st)) → (s.draft.isSome = true) → (((s.at u).now + r.advance) % 1000000000 = 0) →
    (s.time.ppsEnd.getD n 0 ≤ (s.at u).otime) → exec (.ppsPulse n u) s = .next (State.emit
    { (s.at u) with time := { s.time with ppsEnd := s.time.ppsEnd.set n ((s.at u).otime + r.width * 1000) } } (.pulse n
    (((s.at u).now + r.advance) / 1000000000)))) ∧
  (∀ (s : State), (s.time.tpvalid = true) → (s.tpCond = false) → exec .tpvalidChange s = .next (s.setTp false)) ∧
  (∀ (s : State) (since : Nat), (s.time.tpvalid = false) → (s.time.tpSince = some since) → (s.tpCond = true) → (since +
    2000000 ≤ s.otime) → exec .tpvalidChange s = .next (s.setTp true))

/-- TELEGRAM_DECODE takes the oldest telegram handed on and decodes it at its arrival; with none it changes nothing. While
beats run, INTAKE latches every session at b + 0.28 ms when the edge has passed and marks its stage; PROJECT and VOTE
run after INTAKE, OBSERVE after the vote. A confirmed or coasting track without a hit for 2 s is deleted. SESSION_STALE,
SESSION_LOST and SESSION_UNBAR take a session that is due to its next state. -/
def Obligations.IntakeAndVote : Prop :=
  (∀ (s : State) (g : Telegram) (rest : List Telegram), (s.heddle.inbox = g :: rest) → exec .telegramDecode s = .next
    (State.decode (State.atDtime { s with heddle := { s.heddle with inbox := rest } } g.arrival) g)) ∧
  (∀ (s : State), (s.heddle.inbox = []) → exec .telegramDecode s = .next (s)) ∧
  (∀ (s : State), (s.warp.run = true) → (s.warp.stage = .edge) → exec .intake s = .next (State.stageDone
    { s with heddle := { s.heddle with sess := s.heddle.sess.map (fun p => (p.1, { p.2.latch (s.beatEdge + 280000) with rel := s.relativeValue p.1 })) } }
    .intake .intake)) ∧
  (∀ (s : State), (s.warp.run = true) → (s.warp.stage = .intake) → exec .projectAndVote s = .next (s.projectAndVote)) ∧
  (∀ (s : State), (s.warp.run = true) → (s.warp.stage = .voted) → exec .observe s = .next (s.keepStat.observe)) ∧
  (∀ (s : State) (k : Nat) (u : Ns), ((s.track k).st = .confirmed ∨ (s.track k).st = .coasting) → ((s.track k).lastHit +
    2000000000 ≤ (s.at u).now) → exec (.trackTimeout k u) s = .next ((s.at u).deleteTrack k)) ∧
  (∀ (s : State) (i : Nat) (u : Ns) (x : Session), (s.session i = some x) → (x.st = .live) → (x.kind ≠ 0x0A) → (x.kind ≠
    0x0B) → (x.kind ≠ 0x0C) → (x.lastValid.getD 0 + (s.at u).tStale i ≤ (s.at u).now) → exec (.sessionStale i u) s = .next
    ((s.at u).sessTo i x .stale)) ∧
  (∀ (s : State) (i : Nat) (u : Ns) (x : Session), (s.session i = some x) → (x.kind ≠ 0x0A) → (x.st = .admitted ∨ x.st =
    .stale) → (x.lastValid.getD 0 + (s.at u).tLost i ≤ (s.at u).now) → exec (.sessionLost i u) s = .next ((s.at u).sessTo
    i { x with run := 0 } .lost)) ∧
  (∀ (s : State) (i : Nat) (u : Ns) (x : Session), (s.session i = some x) → (x.st = .barred) → (x.barredAt + 10000000000 ≤
    (s.at u).now) → exec (.sessionUnbar i u) s = .next ((s.at u).sessTo i
    { x with run := 0, rejCount := 0, lastValid := none } .provisioned))

/-- A dead reckoning of the position beyond its longest time loses the position with event 0x04480006, once; every 60 s
before OBSERVE the wave frequencies of the three degrees of freedom are estimated from the last 60 s; a due warm-restart
record is written while beats run; GUIDE runs at b + 1.5 ms or later, after OBSERVE has released the bank, releases its
own hold, notes its end when the beat task has ended too, and marks the stage; without a Draft it only releases; a soft
start that has run out ends with event 0x06000102. -/
def Obligations.ObserverAndGuide : Prop :=
  (∀ (s : State) (u : Ns) (d : Draft), (s.draft = some d) → (s.obs.valid = true) → (s.obs.drPos = true) → (s.obs.posLost =
    false) → (s.obs.drPosAt + d.obs.maxDrS * 1000000000 < (s.at u).now) → exec (.maxDeadReckoningTime u) s = .next
    (State.raise { (s.at u) with obs := { s.obs with posLost := true } } 0x04480006#32)) ∧
  (∀ (s : State) (d : Draft) (l : List (Bool × Bool × Bool)), (s.draft = some d) → (s.warp.before .observed = true) →
    (s.obs.valid = true) → (s.obs.waveSince + 60000000000 ≤ s.beatEdge) → (l = (s.obs.waveLog.filter (fun e => decide
    (s.beatEdge ≤ e.1 + 60000000000))).map (fun e => e.2)) → exec .waveFrequencyUpdate s = .next (((State.waveDof
    { s with obs := { s.obs with waveSince := s.beatEdge } } d.obs 0 (l.map (fun e => e.1))).waveDof d.obs 1 (l.map (fun e
    => e.2.1))).waveDof d.obs 2 (l.map (fun e => e.2.2)))) ∧
  (∀ (s : State), (s.warp.run = true) → (s.obs.warmDue = true) → exec .obsWarmRecordWrite s = .next (s.writeWarm)) ∧
  (∀ (s : State) (u : Ns) (d : Draft) (b : Beat), (s.draft = some d) → (s.warp.run = true) → (s.warp.last = some b) →
    (b.holders.contains .guide = true) → (b.holders.contains .observe = false) → (b.edge + 1500000 ≤ (s.at u).now) →
    Completes (exec (.guide u) s) (fun t => ∃ r, r = ((s.at u).guideRun d).releaseGuide .guide ∧ t =
    { r with warp := { r.warp with stage := if r.warp.stage == .observed then .guided else r.warp.stage } })) ∧
  (∀ (s : State) (u : Ns) (b : Beat), (s.draft = none) → (s.warp.run = true) → (s.warp.last = some b) → (b.holders.contains
    .guide = true) → (b.holders.contains .observe = false) → (b.edge + 1500000 ≤ (s.at u).now) → Completes (exec (.guide
    u) s) (fun t => ∃ r, r = (s.at u).releaseGuide .guide ∧ t =
    { r with warp := { r.warp with stage := if r.warp.stage == .observed then .guided else r.warp.stage } })) ∧
  (∀ (s : State), (s.guide.soft.isSome = true) → (s.guide.softDone = true) → exec .softStartComplete s = .next (State.raise
    { s with guide := { s.guide with soft := none, softDone := false, remain := 0 } } 0x06000102#32))

/-- While beats run, SOLVE begins once GUIDE and the beat task have released the bank, at b + 2.0 ms or later and before
pick N − 2: with a schedule and a sound data image it forms its starting point and no iteration is counted yet, with an
unsound image it ends with outcome 12 and event 0x05220009, without the schedule with outcome 12, and an uncorrectable
ECC error in the setup of a solve with a sound image is an engine fault. An iteration of the running solve whose update
is written by then is the next step of the interior-point method on the values of the solve, tested in the order of
R169; one without a usable factorization ends the solve by status 4; one that meets an engine fault ends it by status 14
with a Loom fault. At pick N − 2 DISPATCH runs; a solve that is not done ends first, by status 2, or by 14 through an
engine fault, or 13 where it never began, and monitor 3 fires. Three misses in a row enter the degraded mode once, 100
clean beats end it, 20 misses enter SAFE with cause 3 once; a due record copy goes to the slot whose turn it is. A
consequence cycle starts at every started beat whose count is a multiple of 60 (the scenarios left of the cycle before
are not evaluated); while the Wheel is idle each scenario's end takes the next image, the last one ends the cycle, and
an engine fault leaves the scenario without a result and is a Loom fault. -/
def Obligations.WheelSteps : Prop :=
  (∀ (s : State) (u : Ns) (b : Beat) (r : State) (sc : WheelSched) (im : Image), (s.warp.run = true) → (s.warp.stage =
    .guided) → (s.warp.last = some b) → (b.guiding = false) → (b.edge + 2000000 ≤ (s.at u).now) → (s.warp.pickCount <
    b.pick + (s.n - 2)) → (r = (s.at u).schedChange) → (r.sched (s.at u).solveRole = some sc) → (r.beatImage = some im) →
    (valsOk im.vals = true) → Completes (exec (.solveStart none u) s) (fun t => t = State.solveBegin
    { r with warp := { r.warp with stage := .solving } } sc im.vals ∧ t.warp.stage = .solving ∧ ∃ v, t.wheel.solve = some
    v ∧ v.iter = 0 ∧ v.role = sc.role ∧ v.vals = im.vals)) ∧
  (∀ (s : State) (u : Ns) (b : Beat) (r : State) (sc : WheelSched), (s.warp.run = true) → (s.warp.stage = .guided) →
    (s.warp.last = some b) → (b.guiding = false) → (b.edge + 2000000 ≤ (s.at u).now) → (s.warp.pickCount < b.pick + (s.n -
    2)) → (r = (s.at u).schedChange) → (r.sched (s.at u).solveRole = some sc) → ((r.beatImage.isSome && valsOk
    ((r.beatImage.map Image.vals).getD {})) = false) → Completes (exec (.solveStart none u) s) (fun t => ∃ q, q =
    State.raise
    { r with warp := { r.warp with stage := .solving }, wheel := { r.wheel with solve := some { role := sc.role, start := (s.at u).now } } }
    0x05220009#32 ∧ t = q.outcome 0xC)) ∧
  (∀ (s : State) (u : Ns) (b : Beat) (r : State), (s.warp.run = true) → (s.warp.stage = .guided) → (s.warp.last = some b) →
    (b.guiding = false) → (b.edge + 2000000 ≤ (s.at u).now) → (s.warp.pickCount < b.pick + (s.n - 2)) → (r = (s.at
    u).schedChange) → (r.sched (s.at u).solveRole = none) → exec (.solveStart none u) s = .next (r.outcome 0xC)) ∧
  (∀ (s : State) (e : Fin 8) (u : Ns) (b : Beat) (r : State) (sc : WheelSched) (im : Image), (s.warp.run = true) →
    (s.warp.stage = .guided) → (s.warp.last = some b) → (b.guiding = false) → (b.edge + 2000000 ≤ (s.at u).now) →
    (s.warp.pickCount < b.pick + (s.n - 2)) → (r = (s.at u).schedChange) → (r.sched (s.at u).solveRole = some sc) →
    (r.beatImage = some im) → (valsOk im.vals = true) → exec (.solveStart (some e) u) s = .next (((State.solveBegin
    { r with warp := { r.warp with stage := .solving } } sc im.vals).eccFault e).engineEnd)) ∧
  (∀ (s : State) (l : List (Fin 8)) (ecc : Option (Fin 8)) (u : Ns) (b : Beat) (v x : Solve) (d : Draft) (sc : WheelSched) (o
    : IpOut) (pt : IpPoint) (al : F64) (dir : IpPoint) (r : State), (s.warp.run = true) → (s.warp.stage = .solving) →
    (s.warp.last = some b) → (s.warp.pickCount < b.pick + (s.n - 2) ∨ (s.warp.pickCount = b.pick + (s.n - 2) ∧ u = 0)) →
    (s.wheel.solve = some v) → (s.draft = some d) → (s.sched s.solveRole = some sc) → (o = (qpOf sc
    v.vals).scaled.iteration sc.perm v.raised v.pt) → ((State.countPivots
    { (s.at u) with wheel := { s.wheel with solve := some { v with pivot := v.pivot || decide (0 < o.pivots), raised := o.raised } } }
    o (!v.pivot)).residueHits l ecc = (r, false)) → (r.wheel.solve = some x) → (o.next = some (pt, al, dir)) → exec
    (.wheelIteration l ecc u) s = .next (r.iterate d.wheel x pt (measure (qpOf sc v.vals) (qpOf sc v.vals).scaled pt al
    dir))) ∧
  (∀ (s : State) (l : List (Fin 8)) (ecc : Option (Fin 8)) (u : Ns) (b : Beat) (v : Solve) (d : Draft) (sc : WheelSched) (o :
    IpOut) (r : State), (s.warp.run = true) → (s.warp.stage = .solving) → (s.warp.last = some b) → (s.warp.pickCount <
    b.pick + (s.n - 2) ∨ (s.warp.pickCount = b.pick + (s.n - 2) ∧ u = 0)) → (s.wheel.solve = some v) → (s.draft = some d)
    → (s.sched s.solveRole = some sc) → (o = (qpOf sc v.vals).scaled.iteration sc.perm v.raised v.pt) →
    ((State.countPivots
    { (s.at u) with wheel := { s.wheel with solve := some { v with pivot := v.pivot || decide (0 < o.pivots), raised := o.raised } } }
    o (!v.pivot)).residueHits l ecc = (r, false)) → (o.next = none) → exec (.wheelIteration l ecc u) s = .next
    (r.outcomeBy 4)) ∧
  (∀ (s : State) (l : List (Fin 8)) (ecc : Option (Fin 8)) (u : Ns) (b : Beat) (v : Solve) (d : Draft) (sc : WheelSched) (o :
    IpOut) (r : State), (s.warp.run = true) → (s.warp.stage = .solving) → (s.warp.last = some b) → (s.warp.pickCount <
    b.pick + (s.n - 2) ∨ (s.warp.pickCount = b.pick + (s.n - 2) ∧ u = 0)) → (s.wheel.solve = some v) → (s.draft = some d)
    → (s.sched s.solveRole = some sc) → (o = (qpOf sc v.vals).scaled.iteration sc.perm v.raised v.pt) →
    ((State.countPivots
    { (s.at u) with wheel := { s.wheel with solve := some { v with pivot := v.pivot || decide (0 < o.pivots), raised := o.raised } } }
    o (!v.pivot)).residueHits l ecc = (r, true)) → exec (.wheelIteration l ecc u) s = .next (r.engineEnd)) ∧
  (∀ (s : State) (l : List (Fin 8)) (ecc : Option (Fin 8)) (k : Nat) (b : Beat) (v : Solve) (r : State), (s.warp.run = true)
    → (s.warp.last = some b) → (b.pick + (s.n - 2) = s.warp.pickCount) → (s.warp.stage = .solving) → (s.wheel.solve = some
    v) → (((s.at 0).fire 3).residueHits l ecc = (r, false)) → exec (.coneSolveDeadline l ecc k) s = .next (((r.outcomeBy
    2).dispatch (some v.start)).sendBeat k)) ∧
  (∀ (s : State) (l : List (Fin 8)) (ecc : Option (Fin 8)) (k : Nat) (b : Beat) (v : Solve) (r : State), (s.warp.run = true)
    → (s.warp.last = some b) → (b.pick + (s.n - 2) = s.warp.pickCount) → (s.warp.stage = .solving) → (s.wheel.solve = some
    v) → (((s.at 0).fire 3).residueHits l ecc = (r, true)) → exec (.coneSolveDeadline l ecc k) s = .next
    ((r.engineEnd.dispatch (some v.start)).sendBeat k)) ∧
  (∀ (s : State) (l : List (Fin 8)) (ecc : Option (Fin 8)) (k : Nat) (b : Beat), (s.warp.run = true) → (s.warp.last = some b)
    → (b.pick + (s.n - 2) = s.warp.pickCount) → (s.warp.stage.num < 6) → (s.wheel.solve = none) → exec (.coneSolveDeadline
    l ecc k) s = .next (((((s.at 0).fire 3).schedChange.outcome 0xD).dispatch none).sendBeat k)) ∧
  (∀ (s : State) (l : List (Fin 8)) (ecc : Option (Fin 8)) (k : Nat) (b : Beat), (s.warp.run = true) → (s.warp.last = some b)
    → (b.pick + (s.n - 2) = s.warp.pickCount) → (s.warp.stage = .solved) → (s.wheel.solve = none) → exec
    (.coneSolveDeadline l ecc k) s = .next (((s.at 0).dispatch (some (b.edge + s.wheel.startUs * 1000))).sendBeat k)) ∧
  (∀ (s : State), (s.warp.run = true) → (3 ≤ s.wheel.missRun) → (s.wheel.wdeg = false) → exec .wheelDegradedEntry s = .next
    ((State.raise { s with wheel := { s.wheel with wdeg := true, cleanRun := 0 } } 0x05310004#32).setDeg 1)) ∧
  (∀ (s : State), (s.warp.run = true) → (s.wheel.wdeg = true) → (100 ≤ s.wheel.cleanRun) → exec .wheelDegradedEnd s = .next
    ((State.raise { s with wheel := { s.wheel with wdeg := false, cleanRun := 0 } } 0x05010005#32).clearDeg 1)) ∧
  (∀ (s : State), (s.warp.run = true) → (20 ≤ s.wheel.missRun) → (s.wheel.missSafe = false) → exec .wheelMissSafe s = .next
    ((State.raise { s with wheel := { s.wheel with missSafe := true } } 0x05410006#32).enterSafe 3)) ∧
  (∀ (s : State) (r : WarmRec), (s.warp.run = true) → (s.wheel.copyDue = true) → (aget s.wheel.sched s.wheel.recs = some r) →
    (s.wheel.slotSeq % 2 = 0) → exec .wheelRecordCopy s = .next
    ({ s with wheel := { s.wheel with copyDue := false, slotSeq := s.wheel.slotSeq + 1, slot0 := some (s.wheel.slotSeq, r) } })) ∧
  (∀ (s : State) (r : WarmRec), (s.warp.run = true) → (s.wheel.copyDue = true) → (aget s.wheel.sched s.wheel.recs = some r) →
    (s.wheel.slotSeq % 2 = 1) → exec .wheelRecordCopy s = .next
    ({ s with wheel := { s.wheel with copyDue := false, slotSeq := s.wheel.slotSeq + 1, slot1 := some (s.wheel.slotSeq, r) } })) ∧
  (∀ (s : State), (s.warp.run = true) → (s.wheel.copyDue = true) → (aget s.wheel.sched s.wheel.recs = none) → exec
    .wheelRecordCopy s = .next ({ s with wheel := { s.wheel with copyDue := false } })) ∧
  (∀ (s : State) (d : Draft) (b : Beat) (im : Image), (s.draft = some d) → (s.warp.run = true) → (s.warp.last = some b) →
    (b.count % 60 = 0) → (s.beatImage = some im) → (s.alloc.cqActive = false) → exec .consequenceCycleStart s = .next
    ({ s with alloc := { s.alloc with cqActive := !(s.scenarios.map (fun c => s.scenImage d im c)).isEmpty, cqImgs := s.scenarios.map (fun c => s.scenImage d im c), cqDone := [] } })) ∧
  (∀ (s : State) (d : Draft) (b : Beat) (im : Image) (r : State), (s.draft = some d) → (s.warp.run = true) → (s.warp.last =
    some b) → (b.count % 60 = 0) → (s.beatImage = some im) → (s.alloc.cqActive = true) → (r = s.cycleEnd (s.alloc.cqDone
    ++ List.replicate s.alloc.cqImgs.length { result := 3 })) → exec .consequenceCycleStart s = .next
    ({ r with alloc := { r.alloc with cqActive := !(r.scenarios.map (fun c => r.scenImage d im c)).isEmpty, cqImgs := r.scenarios.map (fun c => r.scenImage d im c), cqDone := [] } })) ∧
  (∀ (s : State) (l : List (Fin 8)) (ecc : Option (Fin 8)) (d : Draft) (im : Image) (sc : WheelSched) (o : ConseqOut) (r :
    State), (s.draft = some d) → (s.alloc.cqActive = true) → (s.alloc.cqImgs = [im]) → (s.conseqSched = some sc) →
    (s.warp.stage ≠ .solving) → (o = s.conseqSolve d.wheel sc im) → (State.residueHits
    { s with wheel := { s.wheel with pivCnt := satAdd 0xFFFF s.wheel.pivCnt o.pivots, refac := satAdd 0xFFFF s.wheel.refac o.refac } }
    l ecc = (r, false)) → exec (.consequenceScenarioEnd l ecc) s = .next (r.cycleEnd (r.alloc.cqDone ++
    [scenResult d.alloc.tolc { d := d, im := im, h := 0, dt := 0 } sc o]))) ∧
  (∀ (s : State) (l : List (Fin 8)) (ecc : Option (Fin 8)) (d : Draft) (im im2 : Image) (rest : List Image) (sc : WheelSched)
    (o : ConseqOut) (r : State), (s.draft = some d) → (s.alloc.cqActive = true) → (s.alloc.cqImgs = im :: im2 :: rest) →
    (s.conseqSched = some sc) → (s.warp.stage ≠ .solving) → (o = s.conseqSolve d.wheel sc im) → (State.residueHits
    { s with wheel := { s.wheel with pivCnt := satAdd 0xFFFF s.wheel.pivCnt o.pivots, refac := satAdd 0xFFFF s.wheel.refac o.refac } }
    l ecc = (r, false)) → exec (.consequenceScenarioEnd l ecc) s = .next
    ({ r with alloc := { r.alloc with cqImgs := im2 :: rest, cqDone := r.alloc.cqDone ++ [scenResult d.alloc.tolc { d := d, im := im, h := 0, dt := 0 } sc o] } })) ∧
  (∀ (s : State) (l : List (Fin 8)) (ecc : Option (Fin 8)) (d : Draft) (im : Image) (rest : List Image) (sc : WheelSched) (o
    : ConseqOut) (r : State), (s.draft = some d) → (s.alloc.cqActive = true) → (s.alloc.cqImgs = im :: rest) →
    (s.conseqSched = some sc) → (s.warp.stage ≠ .solving) → (o = s.conseqSolve d.wheel sc im) → (State.residueHits
    { s with wheel := { s.wheel with pivCnt := satAdd 0xFFFF s.wheel.pivCnt o.pivots, refac := satAdd 0xFFFF s.wheel.refac o.refac } }
    l ecc = (r, true)) → Completes (exec (.consequenceScenarioEnd l ecc) s) (fun t => (rest = [] → t = (r.cycleEnd
    (r.alloc.cqDone ++ [{ result := 3 }])).loomFault) ∧ (rest ≠ [] → t = State.loomFault
    { r with alloc := { r.alloc with cqImgs := rest, cqDone := r.alloc.cqDone ++ [{ result := 3 }] } })))

/-- A GOOSE subscription whose time allowed to live has passed is stale with event 0x16250107, once; a breaker source in the
intermediate position for 200 ms counts as open; two sources that disagree for more than 500 ms raise 0x16220109 once; a
change of a fast input is noted with its time, a rise also as a pulse edge; a generator is online when its breaker has
been closed for its time, with event 0x16080102. -/
def Obligations.PlantInputs : Prop :=
  (∀ (s : State) (i : Nat) (u : Ns), ((s.plant.sub i).seen = true) → ((s.plant.sub i).stale = false) → ((s.plant.sub i).rx +
    (s.plant.sub i).ttlMs * 1000000 ≤ (s.at u).now) → exec (.gooseStale i u) s = .next (State.raise
    { (s.at u) with plant := { s.plant with goose := aset i { s.plant.sub i with stale := true } s.plant.goose } }
    0x16250107#32 (be16 i))) ∧
  (∀ (s : State) (tie : Bool) (i k : Nat) (u : Ns) (t0 : Nat), ((s.plant.brk tie i).inter.getD k none = some t0) → (t0 +
    200000000 ≤ (s.at u).now) → exec (.breakerIntermediateTimeout tie i k u) s = .next
    ({ (s.at u) with plant := s.plant.setBrk tie i { s.plant.brk tie i with src := (s.plant.brk tie i).src.set k false } })) ∧
  (∀ (s : State) (tie : Bool) (i : Nat) (u : Ns) (t0 : Nat), ((s.plant.brk tie i).disagree = some t0) → ((s.plant.brk tie
    i).told = false) → (t0 + 500000000 < (s.at u).now) → exec (.breakerDisagreement tie i u) s = .next (State.raise
    { (s.at u) with plant := s.plant.setBrk tie i { s.plant.brk tie i with told := true } } 0x16220109#32
    [byteOf (b2n tie), byteOf i])) ∧
  (∀ (s : State) (k : Nat) (u : Ns), exec (.fastInputChange k true u) s = .next
    ({ (s.at u) with plant := { s.plant with diPend := s.plant.diPend ++ [(k, (s.at u).now, true)], diEdge := aset k (((s.at u).now :: (aget k s.plant.diEdge).getD []).take 64) s.plant.diEdge } })) ∧
  (∀ (s : State) (k : Nat) (u : Ns), exec (.fastInputChange k false u) s = .next
    ({ (s.at u) with plant := { s.plant with diPend := s.plant.diPend ++ [(k, (s.at u).now, false)] } })) ∧
  (∀ (s : State) (g : Nat) (u : Ns) (r : GenRec) (t0 : Nat), (s.plantRec.gens[g]? = some r) → (s.plant.closedAt.getD g none =
    some t0) → ((s.plant.brk false g).closed = true) → (s.plant.online.getLsbD g = false) → (t0 + r.tOnlineMs * 1000000 ≤
    (s.at u).now) → exec (.generatorOnline g u) s = .next (State.raise
    { (s.at u) with plant := { s.plant with online := s.plant.online ||| BitVec.ofNat 16 (2 ^ g) } } 0x16080102#32
    [byteOf g]))

/-- While the fast lane runs, the engine runs every provisioned slot at p + 0.10 ms, consumes the channels' latches and
sends the slot frames at p + 0.35 ms; an overrun fires monitor 8 with event 0x02410009, takes every slot that controls
to its fallback with cause 6, gives every slot in fallback its fallback output, and sends what there is. A soft entry
that has run its time closes the slot; a following error that has lasted takes a CLOSED slot to its fallback with cause
4; a lost period source invalidates the repetitive stage with event 0x07190006; automatic recovery asks for a reset
after the recovery time of good feedback. -/
def Obligations.LoopSlots : Prop :=
  (∀ (s : State) (late : Nat), (s.fastLane = true) → Completes (exec (.loopEngineRun late) s) (fun t => ∃ r, r =
    s.slotIds.foldl (fun (a : State) k => a.runSlot k) (s.at 100000) ∧ t = (State.at
    { r with adc := { r.adc with chans := r.adc.chans.map (fun (x : AdcCh) => { x with latch := none }) } }
    350000).slotSend late)) ∧
  (∀ (s : State) (r : State), (s.fastLane = true) → (r = (State.fire
    { (s.at 350000) with loop := { s.loop with ovr := true } } 8).raise 0x02410009#32) → exec .coneLoopOverrun s = .next
    ((r.slotIds.foldl State.slotOverrun r).slotSend 0)) ∧
  (∀ (s : State) (k n : Nat) (c : SlotRec) (r : ThrRec) (b : State), s.slotRec k = some c → s.slotThr k = some (n, r) →
    (s.slot k).st = 2 ∨ (s.slot k).st = 3 → b = s.fallback k c (s.slot k) 6 (s.slot k).u → s.slotOverrun k = b.setSlot k
    (b.slotFall c n r (b.slot k))) ∧
  (∀ (s : State) (k n : Nat) (c : SlotRec) (r : ThrRec), s.slotRec k = some c → s.slotThr k = some (n, r) → (s.slot k).st = 4
    ∨ (s.slot k).st = 5 → s.slotOverrun k = s.setSlot k { s.slotFall c n r (s.slot k) with ovrAgain := some s.otime }) ∧
  (∀ (s : State) (k : Nat) (c : SlotRec), (s.slotRec k = some c) → ((s.slot k).st = 2) → ((s.slot k).softAt + c.tSs * 1000000
    ≤ s.clk.tick) → exec (.slotSoftComplete k) s = .next (s.enterClosed k (s.slot k))) ∧
  (∀ (s : State) (k : Nat) (c : SlotRec), (s.slotRec k = some c) → ((s.slot k).st = 3) → (c.tFe ≤ (s.slot k).feTimer) → exec
    (.followingErrorTimeout k) s = .next (s.fallback k c (s.slot k) 4 (s.slot k).u)) ∧
  (∀ (s : State) (k : Nat) (c : SlotRec) (r : RepRec), (s.slotRec k = some c) → (c.rep = some r) → ((s.slot k).rep.valid =
    true) → ((s.periodNow r).2 = false) → exec (.periodSourceInvalid k) s = .next ((s.setSlot k
    { s.slot k with rep := ({ (s.slot k).rep with valid := false, learning := false, run := 0 } : Rep).fadeTo false s.clk.tick }).raise
    0x07190006#32 [byteOf k])) ∧
  (∀ (s : State) (k : Nat) (c : SlotRec) (since : Nat), (s.slotRec k = some c) → ((s.slot k).st = 4 ∨ (s.slot k).st = 5) →
    (c.autoRec = true) → ((s.slot k).cause = 1 ∨ (s.slot k).cause = 2 ∨ (s.slot k).cause = 3 ∨ (s.slot k).cause = 5) →
    ((s.slot k).goodSince = some since) → (since + c.tRec * 1000000 ≤ s.clk.tick) → exec (.slotAutoRecovery k) s = .next
    (s.setSlot k { s.slot k with reset := true }))

/-- Training takes the group at the head of the queue and marks its streams down; a complete training judges each of its
streams by what was found on it, and ends with event 0x08040001 when all are up and with the retraining timer otherwise;
a retraining timer that runs out ends when every stream of its group is up, and otherwise queues the group again, unless
it waits or trains already, and runs another 10 s. A search ends at a dwell that does not detect; the first detection is
kept; a second one within one code bin and one Doppler bin of it starts the channel if it still waits or is LOST and its
stream is up, any other ends the search; in the fourth pick of four, or while the block does not run, no dwell has an
effect. The demand list releases what has sunk or is excluded, grants, lets every channel that waits or is LOST ask
again, counts what it sheds, with event 0x08180007 when that count changes to another than 0, and renews the acquisition
and loop-core registers. A unit of which every channel has been LOST for 10 s is released. A dump of a tracked channel
on an allowed boundary takes it from PULL-IN to DLL once the frequency error has stayed below the bound for 100 ms, to
LOST after 500 ms in PULL-IN or, after PULL-IN, once C/N0 has stayed below its limit for the set's time, from DLL to PLL
once the PLI has stayed above its limit for 200 ms, except for program 3, and back once it has stayed below for 50 ms;
on no allowed boundary it does nothing. The words of a loop update within 100 µs of the channel's last boundary wait for
the next one, the slew limited to ±2048; a later update counts, and the third in a row loses the channel. -/
def Obligations.GnssSignals : Prop :=
  (∀ (s : State) (a : Nat), (s.gnss.run = true) → (s.gnss.queue.head? = some a) → exec (.groupTrainingStart a) s = .next
    ((s.groupStreams a).foldl (fun (t : State) k => (t.setStrm k { t.strm k with up := false, run := 0 }).streamLost k)
    { s with gnss := { s.gnss with queue := s.gnss.queue.filter (fun b => b != a), busy := s.gnss.busy.filter (fun b => b != a) ++ [a] } })) ∧
  (∀ (s : State) (a : Nat) (res : List TrainIn), (s.gnss.busy.contains a = true) → Completes (exec (.groupTrainingComplete a
    res) s) (fun t => ∃ r, r = (s.groupStreams a).foldl (fun (t : State) k => t.trainStream k (res.getD (k % 4) {}))
    { s with gnss := { s.gnss with busy := s.gnss.busy.filter (fun b => b != a), trainings := sat16 s.gnss.trainings } } ∧
    ((s.groupStreams a).all (fun k => (r.strm k).up) = true → t = State.raise
    { r with gnss := { r.gnss with fail := r.gnss.fail &&& ~~~(BitVec.ofNat 3 (2 ^ a)), retrain := r.gnss.retrain.set a none } }
    0x08040001#32 [byteOf a]) ∧ ((s.groupStreams a).all (fun k => (r.strm k).up) = false → t = State.armRetrain
    { r with gnss := { r.gnss with fail := r.gnss.fail ||| BitVec.ofNat 3 (2 ^ a) } } a))) ∧
  (∀ (s : State) (a due : Nat), (s.gnss.retrain.getD a none = some due) → (s.gnss.run = true) → (due ≤ s.otime) →
    ((s.groupStreams a).all (fun k => (s.strm k).up) = true) → exec (.groupRetrainTimer a) s = .next
    ({ s with gnss := { s.gnss with retrain := s.gnss.retrain.set a none } })) ∧
  (∀ (s : State) (a due : Nat), (s.gnss.retrain.getD a none = some due) → (s.gnss.run = true) → (due ≤ s.otime) →
    ((s.groupStreams a).all (fun k => (s.strm k).up) = false) → exec (.groupRetrainTimer a) s = .next
    ({ s with gnss := { s.gnss with retrain := s.gnss.retrain.set a (some (s.otime + 10000000)), queue := if s.gnss.queue.contains a || s.gnss.busy.contains a then s.gnss.queue else s.gnss.queue ++ [a] } })) ∧
  (∀ (s : State) (d : DwellIn), (s.warp.pickCount % 4 = 0 ∨ s.gnss.run = false) → exec (.acquisitionSearchComplete d) s =
    .next (s)) ∧
  (∀ (s : State) (d : DwellIn) (a : Acq) (p : Snap) (x : Chan), (s.gnss.cur = some a) → (s.gnss.snap = some p) →
    (s.warp.pickCount % 4 ≠ 0) → (s.gnss.run = true) → (x = s.chan a.ch) → Completes (exec (.acquisitionSearchComplete d)
    s) (fun t => (dwellDetects a.kind x.sig p.blocks (s.pset x).acq d = none → t = s.acqDone false) ∧ (∀ b, dwellDetects
    a.kind x.sig p.blocks (s.pset x).acq d = some b → (a.first = none → t =
    { s with gnss := { s.gnss with cur := some { a with first := some (b.code, b.dop) } } }) ∧ (∀ e, a.first = some e →
    ((binsNear a.kind x.sig b.code e.1 = true ∧ (b.dop - e.2).natAbs ≤ 1) → ((x.st = 1 ∨ x.st = 5) → (s.strm x.strm).up =
    true → t = (s.startChan a p.coh b).acqDone true) ∧ ((x.st ≠ 1 ∧ x.st ≠ 5) ∨ (s.strm x.strm).up = false → t = s.acqDone
    true)) ∧ ((binsNear a.kind x.sig b.code e.1 = false ∨ 1 < (b.dop - e.2).natAbs) → t = s.acqDone false))))) ∧
  (∀ (s : State) (sats : List SatIn) (load : List Nat), (s.gnss.run = true) → Completes (exec (.demandList sats load) s) (fun
    t => ∃ r u n q w z, (r, u, n) = ((s.releaseLow sats).demands sats).foldl State.grant (s.releaseLow sats, 0, 0) ∧ q =
    (List.range 384).foldl (fun (a : State) c => a.askAgain sats c) r ∧ w =
    { q with gnss := { q.gnss with shedUnits := u, shedChans := n, load := load } } ∧ z = (if u = s.gnss.shedUnits ∨ u = 0
    then w else w.raise 0x08180007#32 (be16 u)) ∧ t = z.shows ((List.range 6).map (fun i => (0x40070090 + 4 * i,
    z.gnssSigReg (0x90 + 4 * i)))))) ∧
  (∀ (s : State) (c : Nat), ((s.chan c).unit ≠ 0) → ((s.gnss.chans.filter (fun x => x.unit == (s.chan c).unit)).all (fun x =>
    x.st == 5 && decide (x.since + 10000000 ≤ s.otime)) = true) → exec (.channelLostTimeout c) s = .next (s.releaseUnit
    (s.chan c).unit)) ∧
  (∀ (s : State) (c : Nat) (v : DumpIn) (u : Ns) (p : PsetRec) (x y : Chan) (r : State) (ot : Nat), (2 ≤ (s.chan c).st) →
    ((s.chan c).st ≤ 4) → ((s.strm (s.chan c).strm).up = true) → ((s.chan c).boundaryOk v.k (s.pset (s.chan c)).tiMax =
    true) → (p = s.pset (s.chan c)) → (x = (s.chan c).boundary p v (s.at u).otime (s.at u).now) → (y =
    { x with ferrOk := since x.ferrOk (flt (fabs v.ferr) p.bFll) (s.at u).otime, pliHi := since x.pliHi (x.pli.isSome && flt p.pli (x.pli.getD 0)) (s.at u).otime, pliLo := since x.pliLo (x.pli.isSome && flt (x.pli.getD 0) p.pli) (s.at u).otime, cnLo := since x.cnLo (decide (x.cn0 < p.loss)) (s.at u).otime })
    → (r = (s.at u).setChan c y) → (ot = (s.at u).otime) → Completes (exec (.accumulationDump c v u) s) (fun t => (y.st =
    2 → heldFor y.ferrOk 100000 ot = true → t = r.setChan c (y.to 3 ot)) ∧ (y.st = 2 → heldFor y.ferrOk 100000 ot = false
    → t = (if y.since + 500000 ≤ ot then r.chanLost c else r)) ∧ (y.st ≠ 2 → heldFor y.cnLo (p.tLoss * 1000) ot = true → t
    = r.chanLost c) ∧ (y.st = 3 → heldFor y.cnLo (p.tLoss * 1000) ot = false → t = (if p.prog ≠ 3 ∧ heldFor y.pliHi 200000
    ot then r.setChan c { y.to 4 ot with cnLo := y.cnLo } else r)) ∧ (y.st = 4 → heldFor y.cnLo (p.tLoss * 1000) ot =
    false → t = (if heldFor y.pliLo 50000 ot then r.setChan c { y.to 3 ot with cnLo := y.cnLo } else r)))) ∧
  (∀ (s : State) (c : Nat) (v : DumpIn) (u : Ns), ((s.chan c).st < 2 ∨ 4 < (s.chan c).st ∨ (s.strm (s.chan c).strm).up =
    false ∨ (s.chan c).boundaryOk v.k (s.pset (s.chan c)).tiMax = false) → exec (.accumulationDump c v u) s = .next (s)) ∧
  (∀ (s : State) (c : Nat) (car cod : BitVec 40) (slew : Int) (u : Ns), (2 ≤ (s.chan c).st) → ((s.chan c).st ≤ 4) → ((s.at
    u).now ≤ (s.chan c).ncoAt + 100000) → exec (.loopUpdate c car cod slew u) s = .next (s.setChan c
    { s.chan c with next := some (car, cod, iclamp (-2048) 2048 slew), lateRun := 0 })) ∧
  (∀ (s : State) (c : Nat) (car cod : BitVec 40) (slew : Int) (u : Ns), (2 ≤ (s.chan c).st) → ((s.chan c).st ≤ 4) → ((s.chan
    c).ncoAt + 100000 < (s.at u).now) → Completes (exec (.loopUpdate c car cod slew u) s) (fun t => ∃ r, r =
    (State.setChan { (s.at u) with gnss := { s.gnss with late := sat32 s.gnss.late } } c
    { s.chan c with lateRun := (s.chan c).lateRun + 1 }).raiseLimited 0x08210008 1000000 0x08210008#32 ∧ t = (if 3 ≤
    (s.chan c).lateRun + 1 then r.chanLost c else r)))

/-- A latch that is due begins with the classifier, the cross-band and the angle-of-arrival test, solves the position with
residual exclusion, where there is one tests constellations and clock, tests the common mode, ends with the leap count
and the servo, and renews the measurement registers; any other does nothing. The oldest due record is posted in time: a
raw one is staged when its latch count is a multiple of the Draft's decimation and goes unstaged otherwise; a position
goes to the position session, an attitude to the heading and the attitude session, unless the receiver is withdrawn.
Records past their time are discarded with event 0x081A0011 at most once per second; exclusions end at their time; a
withdrawal ends 60 s after it was last due, with event 0x080B001B. A feature grid takes up to 64 tracked channels in
turn and moves its pointer past the last. An RTCM message is dropped on a session that takes none or is not the
correction session, rejected with a wrong check value, held back by the session's budget, else taken when its type is
one of those listed and ignored otherwise. -/
def Obligations.GnssMeasurements : Prop :=
  (∀ (s : State) (v : LatchIn), (s.gnss.run = true) → (s.gnssRec.mLat ≠ 0) → (nearestMs s.clk.tick % s.gnssRec.mLat = 0) →
    Completes (exec (.commonLatch v) s) (fun t => ∃ r p w q, (r, p) = State.solvePos v 3 (((((s.at
    0).latchBegin).classReact).crossBand v).aoaTest v) ∧ (p = none → w = r) ∧ (∀ x, p = some x → w = (r.conTest x).clkTest
    x (s.clk.tick - s.gnss.latchAt)) ∧ q = (((w.commonTest v.common).latchEnd v p).navLeap v.leap).gnssTime p v.servo ∧ t
    = q.shows ((List.range 7).map (fun i => (0x40070100 + 4 * i, q.gnssMeasReg (0x100 + 4 * i)))))) ∧
  (∀ (s : State) (v : LatchIn), (s.gnss.run = false ∨ s.gnssRec.mLat = 0 ∨ nearestMs s.clk.tick % s.gnssRec.mLat ≠ 0) → exec
    (.commonLatch v) s = .next (s)) ∧
  (∀ (s : State) (u : Ns) (r : DueRec) (rest : List DueRec) (d : Draft), (s.gnss.rawDue = r :: rest) → ((s.at u).posts =
    true) → ((s.at u).inTime r = true) → (s.draft = some d) → (d.base.rawDecim ≠ 0) → (ofBe ((r.bytes.drop 16).take 4) %
    d.base.rawDecim = 0) → exec (.rawRecordPost u) s = .next ((State.lateBy
    { (s.at u) with gnss := { s.gnss with rawDue := rest } } r 10).stage 0x10 false 8 0 r.bytes (some (r.ot, r.tov)))) ∧
  (∀ (s : State) (u : Ns) (r : DueRec) (rest : List DueRec), (s.gnss.rawDue = r :: rest) → ((s.at u).posts = true) → ((s.at
    u).inTime r = true) → (s.draft.all (fun d => d.base.rawDecim == 0 || ofBe ((r.bytes.drop 16).take 4) % d.base.rawDecim
    != 0) = true) → exec (.rawRecordPost u) s = .next (State.lateBy
    { (s.at u) with gnss := { s.gnss with rawDue := rest } } r 10)) ∧
  (∀ (s : State) (u : Ns) (r : DueRec) (rest : List DueRec), (s.gnss.posDue = r :: rest) → ((s.at u).posts = true) → ((s.at
    u).inTime r = true) → ((s.at u).gnssWithdrawn = false) → exec (.positionRecordPost u) s = .next ((State.lateBy
    { (s.at u) with gnss := { s.gnss with posDue := rest } } r 30).toInternal s.gnssRec.posSess 1 r)) ∧
  (∀ (s : State) (u : Ns) (r : DueRec) (rest : List DueRec), (s.gnss.attDue = r :: rest) → ((s.at u).posts = true) → ((s.at
    u).inTime r = true) → ((s.at u).gnssWithdrawn = false) → exec (.attitudeRecordPost u) s = .next (((State.lateBy
    { (s.at u) with gnss := { s.gnss with attDue := rest } } r 40).toInternal s.gnssRec.hdgSess 2 r).toInternal
    s.gnssRec.attSess 2 r)) ∧
  (∀ (s : State) (u : Ns) (r : DueRec), (r ∈ s.gnss.rawDue ++ s.gnss.posDue ++ s.gnss.attDue) → ((s.at u).inTime r = false) →
    exec (.gnssRecordDiscard u) s = .next (State.raiseLimited
    { (s.at u) with gnss := { s.gnss with rawDue := s.gnss.rawDue.filter (fun x => (s.at u).inTime x), posDue := s.gnss.posDue.filter (fun x => (s.at u).inTime x), attDue := s.gnss.attDue.filter (fun x => (s.at u).inTime x) } }
    0x081A0011 1000000 0x081A0011#32)) ∧
  (∀ (s : State), exec .exclusionHoldExpiry s = .next
    ({ s with gnss := { s.gnss with excl := s.gnss.excl.filter (fun e => decide (s.otime < e.until')), exclC := s.gnss.exclC.filter (fun e => decide (s.otime < e.2)) } })) ∧
  (∀ (s : State) (since : Nat), (s.gnss.clkBad = some since) → (since + 60000000 ≤ s.otime) → exec (.withdrawalEnd false) s =
    .next (State.raise { s with gnss := { s.gnss with clkBad := none } } 0x080B001B#32)) ∧
  (∀ (s : State) (since : Nat), (s.gnss.common = some since) → (since + 60000000 ≤ s.otime) → exec (.withdrawalEnd true) s =
    .next (State.raise { s with gnss := { s.gnss with common := none } } 0x080B001B#32)) ∧
  (∀ (s : State) (scores : List (List Nat)) (l : List Nat), (s.gnss.run = true) → (s.warp.pickCount % 4 = 0) → (l =
    (((List.range 384).filter (fun c => (s.chan c).tracks)).filter (fun c => decide (s.gnss.gridPtr ≤ c)) ++ ((List.range
    384).filter (fun c => (s.chan c).tracks)).filter (fun c => decide (c < s.gnss.gridPtr))).take 64) → Completes (exec
    (.featureGrid scores) s) (fun t => ∃ r, r = s.gridAll (l.zip scores) ∧ t =
    { r with gnss := { r.gnss with gridPtr := match l.getLast? with | some c => (c + 1) % 384 | none => 0 } })) ∧
  (∀ (s : State) (i : Nat) (b : List Byte) (u : Ns), (s.sessTakes i = false ∨ s.gnssRec.rtcm ≠ some i) → exec
    (.rtcmMessageReceive i b u) s = .next (s.at u)) ∧
  (∀ (s : State) (i : Nat) (b : List Byte) (u : Ns) (r : State), (s.sessTakes i = true) → (s.gnssRec.rtcm = some i) → (r =
    (match s.sessRec i with | some x => (s.at u).glazeUnit (rxUnit x) i 2 (b.take (b.length - 3)) | none => s.at u)) →
    (rtcmOk b = false) → exec (.rtcmMessageReceive i b u) s = .next (r.glazeFail.sessReject i r.now false)) ∧
  (∀ (s : State) (i : Nat) (b : List Byte) (u : Ns) (r q : State), (s.sessTakes i = true) → (s.gnssRec.rtcm = some i) → (r =
    (match s.sessRec i with | some x => (s.at u).glazeUnit (rxUnit x) i 2 (b.take (b.length - 3)) | none => s.at u)) →
    (rtcmOk b = true) → (r.charge i = (q, false)) → exec (.rtcmMessageReceive i b u) s = .next (q)) ∧
  (∀ (s : State) (i : Nat) (b : List Byte) (u : Ns) (r q : State), (s.sessTakes i = true) → (s.gnssRec.rtcm = some i) → (r =
    (match s.sessRec i with | some x => (s.at u).glazeUnit (rxUnit x) i 2 (b.take (b.length - 3)) | none => s.at u)) →
    (rtcmOk b = true) → (r.charge i = (q, true)) → (rtcmTypes.contains (bitsAt b 24 12) = true) → exec
    (.rtcmMessageReceive i b u) s = .next ((q.sessValid i q.now).rtcmTake (bitsAt b 24 12) b)) ∧
  (∀ (s : State) (i : Nat) (b : List Byte) (u : Ns) (r q : State), (s.sessTakes i = true) → (s.gnssRec.rtcm = some i) → (r =
    (match s.sessRec i with | some x => (s.at u).glazeUnit (rxUnit x) i 2 (b.take (b.length - 3)) | none => s.at u)) →
    (rtcmOk b = true) → (r.charge i = (q, true)) → (rtcmTypes.contains (bitsAt b 24 12) = false) → exec
    (.rtcmMessageReceive i b u) s = .next ((q.sessValid i q.now).rtcmIgnore i (bitsAt b 24 12)))

/-- While the block runs, a sample of a VOLT or CURRENT channel (mode 1 or 2) is taken from its own chain or from the spare,
calibrated, conditioned with the parity error of its chain, fed to the calibration's means and delivered; a channel that
is OFF only feeds those means; of a resolver pair (mode 3) the even channel's sample delivers both, the angle as channel
c and the amplitude as channel c + 1, and the odd one's does nothing. The shunt of a CURRENT channel opens, and closes
after 1 s. The bits of a link frame, those of a bad frame replaced, run through the chains; a bad frame counts, raises
its event at most once per second and takes every channel through its settle time, the sixteenth of a pick makes it a
lost pick, the tenth lost pick in a row loses the link with event 0x0D42000A and every channel in use is invalid at
once; more than 100 picks after the last lost pick a right frame restores a lost link. While the block and picks run and
the spare is sound, a calibration slot begins every 1,875 picks with phase 1; a phase does nothing before its end, and
ends the slot without results when too few samples were valid or none were formed; phase 1 gives the spare's
coefficients, or counts a failure, the third in a row retiring the spare; phase 2 switches the channel to the spare;
phase 3 forms the channel's coefficients; phase 4 switches it back and takes them, or keeps the old ones as a
calibration fault; phase 5 ends the slot. -/
def Obligations.AnalogChain : Prop :=
  (∀ (s : State) (c j : Nat) (pa pb : Bool) (u : Ns), (s.adc.run = false) → exec (.adcOutputSample c j pa pb u) s = .next (s)) ∧
  (∀ (s : State) (c j : Nat) (pa pb : Bool) (u : Ns), (s.adc.run = true) → ((s.adcChan c).mode = 0) → exec (.adcOutputSample
    c j pa pb u) s = .next ((s.at u).calSample c true ((s.at u).adcIn c))) ∧
  (∀ (s : State) (c j : Nat) (pa pb : Bool) (u : Ns) (d : AdcChan) (a : AdcIn) (y x : AdcCh) (k : Int) (sat range beyond :
    Bool) (g o v : F64) (blocked cause q n : Nat), (s.adc.run = true) → (d = s.adcChan c) → (d.mode = 1 ∨ d.mode = 2) → (a
    = (s.at u).adcIn c) → (y = s.ach c) → (x = (if pa then y.unsettle d else y)) → ((k, sat, g, o) = (if y.onSpare then
    (a.spare, a.spareSat, s.adc.spareG, s.adc.spareO) else (a.own, a.ownSat, y.g, y.o))) → (v = calValue d.mode g o k) →
    (range = !inSpan d.mode v) → (beyond = (d.mode == 1 && (range || sat))) → (blocked = (s.at u).adcBlocked c) → (cause =
    (if blocked ≠ 0 then blocked else if range then 1 else if sat ∧ d.mode = 1 then 2 else 0)) → ((q, n) = nextCond x d
    cause beyond) → exec (.adcOutputSample c j pa pb u) s = .next ((((s.at u).setAch c
    { x with beyond := beyond }).calSample c (q == 1 || (blocked == 4 && !range && !beyond && n == 0)) a).deliver c j
    cause q n k v range)) ∧
  (∀ (s : State) (c j : Nat) (pa pb : Bool) (u : Ns), (s.adc.run = true) → ((s.adcChan c).mode = 3) → (c % 2 = 1) → exec
    (.adcOutputSample c j pa pb u) s = .next (s)) ∧
  (∀ (s : State) (c j : Nat) (pa pb : Bool) (u : Ns) (d e : AdcChan) (a b : AdcIn) (y z : AdcCh) (k0 k1 : Int) (t0 t1 bad :
    Bool) (g0 o0 g1 o1 vs vc mu : F64) (b0 b1 c0 c1 q0 n0 q1 n1 : Nat), (s.adc.run = true) → (d = s.adcChan c) → (e =
    s.adcChan (c + 1)) → (d.mode = 3) → (c % 2 = 0) → (a = (s.at u).adcIn c) → (b = (s.at u).adcIn (c + 1)) → (y = s.ach
    c) → (z = s.ach (c + 1)) → ((k0, t0, g0, o0) = (if y.onSpare then (a.spare, a.spareSat, s.adc.spareG, s.adc.spareO)
    else (a.own, a.ownSat, y.g, y.o))) → ((k1, t1, g1, o1) = (if z.onSpare then (b.spare, b.spareSat, s.adc.spareG,
    s.adc.spareO) else (b.own, b.ownSat, z.g, z.o))) → (vs = calValue 3 g0 o0 k0) → (vc = calValue 3 g1 o1 k1) → (mu =
    fdiv (fsqrt (fadd (fmul vs vs) (fmul vc vc))) (fmul (s.excRec (c / 2)).ratio (s.excRec (c / 2)).amp)) → (bad = !(fle
    (fofRat 8 10) mu && fle mu (fofRat 12 10))) → (b0 = (s.at u).adcBlocked c) → (b1 = (s.at u).adcBlocked (c + 1)) → (c0
    = (if b0 ≠ 0 then b0 else if bad then 5 else 0)) → (c1 = (if b1 ≠ 0 then b1 else if bad then 5 else 0)) → ((q0, n0) =
    nextCond (if pa then y.unsettle d else y) d c0 false) → ((q1, n1) = nextCond (if pb then z.unsettle e else z) e c1
    false) → Completes (exec (.adcOutputSample c j pa pb u) s) (fun t => ∃ r, r = (((s.at u).setAch c
    { (if pa then y.unsettle d else y) with ang := radToBam (Config.fatan2 vs vc) }).setAch (c + 1) (if pb then z.unsettle
    e else z)) ∧ t = ((((r.calSample c (q0 == 1 || (c0 == 4 && !bad && n0 == 0)) a).calSample (c + 1) (q1 == 1 || (c1 == 4
    && !bad && n1 == 0)) b).deliver c j c0 q0 n0 k0 (degrees vs vc) false).deliver (c + 1) j c1 q1 n1 k1 mu false))) ∧
  (∀ (s : State) (c : Nat), ((s.adcChan c).mode = 2) → ((s.ach c).shunt = true) → exec (.shuntDisconnect c) s = .next
    (s.setAch c { s.ach c with shunt := false })) ∧
  (∀ (s : State) (c below : Nat), (1000000000 ≤ below) → exec (.shuntReconnect c below) s = .next (s.setAch c
    { s.ach c with shunt := true })) ∧
  (∀ (s : State) (bits : List (List Bool)) (u : Ns), (s.adc.linkBad = true) → (s.adc.lostAt + 100 < s.warp.pickCount) → exec
    (.sampleLinkFrame true bits u) s = .next (State.unsettleAll
    { (s.at u) with adc := { s.sampled true bits with linkBad := false, lostRun := 0 } })) ∧
  (∀ (s : State) (bits : List (List Bool)) (u : Ns), (s.adc.linkBad = false ∨ s.warp.pickCount ≤ s.adc.lostAt + 100) → exec
    (.sampleLinkFrame true bits u) s = .next ({ (s.at u) with adc := s.sampled true bits })) ∧
  (∀ (s : State) (bits : List (List Bool)) (u : Ns) (n : Nat), (n = (if s.adc.badPick = s.warp.pickCount then s.adc.badNow
    else 0)) → (n + 1 ≠ 16) → exec (.sampleLinkFrame false bits u) s = .next ((State.raiseLimited
    { (s.at u) with adc := { s.sampled false bits with badFrames := sat16 s.adc.badFrames, badNow := n + 1, badPick := s.warp.pickCount } }
    0x0D120003 1000000 0x0D120003#32).unsettleAll)) ∧
  (∀ (s : State) (bits : List (List Bool)) (u : Ns) (n : Nat) (k : Nat), (n = (if s.adc.badPick = s.warp.pickCount then
    s.adc.badNow else 0)) → (n = 15) → (k = (if s.adc.lostRun ≠ 0 ∧ s.adc.lostAt + 1 = s.warp.pickCount then s.adc.lostRun
    + 1 else 1)) → (k < 10 ∨ s.adc.linkBad = true) → exec (.sampleLinkFrame false bits u) s = .next ((State.raiseLimited
    { (s.at u) with adc := { s.sampled false bits with badFrames := sat16 s.adc.badFrames, badNow := 16, badPick := s.warp.pickCount, lostRun := k, lostAt := s.warp.pickCount, lostPicks := sat16 s.adc.lostPicks } }
    0x0D120003 1000000 0x0D120003#32).unsettleAll)) ∧
  (∀ (s : State) (bits : List (List Bool)) (u : Ns) (n : Nat) (k : Nat), (n = (if s.adc.badPick = s.warp.pickCount then
    s.adc.badNow else 0)) → (n = 15) → (k = (if s.adc.lostRun ≠ 0 ∧ s.adc.lostAt + 1 = s.warp.pickCount then s.adc.lostRun
    + 1 else 1)) → (10 ≤ k) → (s.adc.linkBad = false) → Completes (exec (.sampleLinkFrame false bits u) s) (fun t => ∃ r,
    r = (State.raiseLimited
    { (s.at u) with adc := { s.sampled false bits with badFrames := sat16 s.adc.badFrames, badNow := 16, badPick := s.warp.pickCount, lostRun := k, lostAt := s.warp.pickCount, lostPicks := sat16 s.adc.lostPicks } }
    0x0D120003 1000000 0x0D120003#32).unsettleAll ∧ t = (State.raise { r with adc := { r.adc with linkBad := true } }
    0x0D42000A#32).adcInvalid)) ∧
  (∀ (s : State), (s.adc.run = true) → (s.warp.picks = true) → (s.adc.spareBad = false) → (s.adc.slotCh = none) →
    (s.warp.pickCount % 60000 % 1875 = 0) → exec .calibrationSlotStart s = .next
    ({ s with adc := { s.adc with slotCh := some (s.warp.pickCount % 60000 / 1875), ph := 1, slotAt := s.warp.pickCount, sum := {}, chains := s.adc.chains.set 32 {} } })) ∧
  (∀ (s : State) (formed : Bool) (c : Nat), (s.adc.slotCh = some c) → (s.adc.ph = 5) → (1875 ≤ s.warp.pickCount -
    s.adc.slotAt) → exec (.calibrationPhaseEnd formed) s = .next (s.calDone c)) ∧
  (∀ (s : State) (formed : Bool) (c : Nat), (s.adc.slotCh = some c) → (1 ≤ s.adc.ph) → (s.adc.ph ≤ 5) → (s.warp.pickCount -
    s.adc.slotAt < [0, 300, 600, 1200, 1500, 1875].getD s.adc.ph 0) → exec (.calibrationPhaseEnd formed) s = .next (s)) ∧
  (∀ (s : State) (formed : Bool) (c : Nat), (s.adc.slotCh = some c) → (1 ≤ s.adc.ph) → (s.adc.ph ≤ 4) →
    ([0, 300, 600, 1200, 1500].getD s.adc.ph 0 ≤ s.warp.pickCount - s.adc.slotAt) → (formed = false ∨ 2 * (s.adc.sum.n +
    s.adc.sum.n2) < s.adc.sum.all ∨ s.adc.sum.n = 0 ∨ ((s.adc.ph = 1 ∨ s.adc.ph = 3) ∧ s.adc.sum.n2 = 0)) → exec
    (.calibrationPhaseEnd formed) s = .next (s.calAbandon c)) ∧
  (∀ (s : State) (c : Nat) (g o : F64), (s.adc.slotCh = some c) → (s.adc.ph = 1) → (300 ≤ s.warp.pickCount - s.adc.slotAt) →
    (s.adc.sum.all ≤ 2 * (s.adc.sum.n + s.adc.sum.n2)) → (s.adc.sum.n ≠ 0) → (s.adc.sum.n2 ≠ 0) → ((g, o) = calCoef (mean
    s.adc.sum.spare s.adc.sum.n) (mean s.adc.sum.ref s.adc.sum.n2)) → (calOk (g, o) = true) → exec (.calibrationPhaseEnd
    true) s = .next
    ({ s with adc := { s.adc with spareG := g, spareO := o, spareFail := 0, sum := {}, ph := if (s.adcChan c).mode = 0 ∨ !(s.adcChan c).cal then 5 else 2 } })) ∧
  (∀ (s : State) (c : Nat) (g o : F64), (s.adc.slotCh = some c) → (s.adc.ph = 1) → (300 ≤ s.warp.pickCount - s.adc.slotAt) →
    (s.adc.sum.all ≤ 2 * (s.adc.sum.n + s.adc.sum.n2)) → (s.adc.sum.n ≠ 0) → (s.adc.sum.n2 ≠ 0) → ((g, o) = calCoef (mean
    s.adc.sum.spare s.adc.sum.n) (mean s.adc.sum.ref s.adc.sum.n2)) → (calOk (g, o) = false) → Completes (exec
    (.calibrationPhaseEnd true) s) (fun t => ∃ r, r = State.raise
    { s with adc := { s.adc with spareFail := s.adc.spareFail + 1, ph := 5, sum := {} } } 0x0D180007#32 [byteOf c] ∧ t =
    (if 3 ≤ s.adc.spareFail + 1 then State.raise
    { r with adc := { r.adc with spareBad := true, slotCh := none, ph := 0 } } 0x0D380008#32 else r))) ∧
  (∀ (s : State) (c : Nat) (f : F64), (s.adc.slotCh = some c) → (s.adc.ph = 2) → (600 ≤ s.warp.pickCount - s.adc.slotAt) →
    (s.adc.sum.all ≤ 2 * (s.adc.sum.n + s.adc.sum.n2)) → (s.adc.sum.n ≠ 0) → (f = fsub (mean s.adc.sum.own s.adc.sum.n)
    (mean s.adc.sum.spare s.adc.sum.n)) → Completes (exec (.calibrationPhaseEnd true) s) (fun t => ∃ r, r = s.setAch c
    { (s.ach c).switch true with diff := f } ∧ t =
    { r with adc := { r.adc with ph := 3, sum := {}, ov1Ok := overlapOk (s.adcChan c).mode f } })) ∧
  (∀ (s : State) (c : Nat) (g o : F64), (s.adc.slotCh = some c) → (s.adc.ph = 3) → (1200 ≤ s.warp.pickCount - s.adc.slotAt) →
    (s.adc.sum.all ≤ 2 * (s.adc.sum.n + s.adc.sum.n2)) → (s.adc.sum.n ≠ 0) → (s.adc.sum.n2 ≠ 0) → ((g, o) = calCoef (mean
    s.adc.sum.own s.adc.sum.n) (mean s.adc.sum.ref s.adc.sum.n2)) → exec (.calibrationPhaseEnd true) s = .next
    ({ s with adc := { s.adc with newG := if calOk (g, o) then g else (s.ach c).g, newO := if calOk (g, o) then o else (s.ach c).o, newOk := calOk (g, o), ph := 4, sum := {} } })) ∧
  (∀ (s : State) (c : Nat) (f : F64), (s.adc.slotCh = some c) → (s.adc.ph = 4) → (1500 ≤ s.warp.pickCount - s.adc.slotAt) →
    (s.adc.sum.all ≤ 2 * (s.adc.sum.n + s.adc.sum.n2)) → (s.adc.sum.n ≠ 0) → (f = fsub (mean s.adc.sum.own s.adc.sum.n)
    (mean s.adc.sum.spare s.adc.sum.n)) → (s.adc.newOk = true) → (overlapOk (s.adcChan c).mode f = true) → Completes (exec
    (.calibrationPhaseEnd true) s) (fun t => ∃ r q, r = s.setAch c
    { (s.ach c).switch false with diff := f, g := s.adc.newG, o := s.adc.newO, saved := aset (s.adcChan c).mode (s.adc.newG, s.adc.newO) (s.ach c).saved, result := 1, passAt := some s.otime, calFault := (s.ach c).calFault && !s.adc.ov1Ok }
    ∧ q = { r with adc := { r.adc with ph := 5, sum := {} } } ∧ t = (if (s.ach c).calFault && s.adc.ov1Ok then q.raise
    0x0D080006#32 [byteOf c] else q))) ∧
  (∀ (s : State) (c : Nat) (f : F64), (s.adc.slotCh = some c) → (s.adc.ph = 4) → (1500 ≤ s.warp.pickCount - s.adc.slotAt) →
    (s.adc.sum.all ≤ 2 * (s.adc.sum.n + s.adc.sum.n2)) → (s.adc.sum.n ≠ 0) → (f = fsub (mean s.adc.sum.own s.adc.sum.n)
    (mean s.adc.sum.spare s.adc.sum.n)) → (s.adc.newOk = false ∨ overlapOk (s.adcChan c).mode f = false) → Completes (exec
    (.calibrationPhaseEnd true) s) (fun t => ∃ r, r = s.setAch c
    { (s.ach c).switch false with diff := f, result := if s.adc.newOk then 3 else 2, calFault := true } ∧ t = State.raise
    { r with adc := { r.adc with ph := 5, sum := {} } } 0x0D280005#32 [byteOf c]))

/-- While the Kiln is powered, each of these acts on the Kiln alone: a sample cycle; a discrepancy that lasts D latches its
input with event 0x10260007; a source's pulse begins at its instant and takes the levels before it, and ends with the
own-pulse checks and a foreign check due after the mask; the current of an output that is ON below its least for 1 s
raises 0x1024000D once; a supply out of range for 100 samples is bad with event 0x1034000B and its sources go off, and
it is back after 10,000 samples in range, its sources' next pulses in place. Without power a sample cycle does nothing. -/
def Obligations.KilnCycle : Prop :=
  (∀ (s : State) (z : KSample), (s.kiln.powered = true) → exec (.kilnSampleCycle z) s = .next
    ({ s with kiln := s.kiln.sample z })) ∧
  (∀ (s : State) (z : KSample), (s.kiln.powered = false) → exec (.kilnSampleCycle z) s = .next (s)) ∧
  (∀ (s : State) (n s0 : Nat), (s.kiln.powered = true) → ((s.kiln.inp n).mis = some s0) → (kSafety (s.kiln.inRec n) = true) →
    (s0 + (s.kiln.inRec n).tdisc * 100 ≤ s.kiln.samp) → ((s.kiln.inp n).fault = 0) → exec (.discrepancyFault n) s = .next
    ({ s with kiln := ((s.kiln.latchIn n 1).event 0x10260007#32 [byteOf n]).evalOuts })) ∧
  (∀ (s : State) (n : Nat) (b : KTable) (r : Kiln), (s.kiln.powered = true) → (s.kiln.tbl = some b) → (s.kiln.st ≠ 2) →
    (kTpsOn b n = true) → (s.kiln.srcOff n = false) → ((s.kiln.source n).pulse = false) → (s.kiln.due (s.kiln.source
    n).next = true) → (r = s.kiln.setSrc n
    { s.kiln.source n with pulse := true, start := some (s.kiln.source n).next, next := (s.kiln.source n).next + b.p }) →
    exec (.testPulseStart n) s = .next
    ({ s with kiln := { r with ins := (List.zip kIns r.ins).map (fun p => { p.2 with preA := s.kiln.rawA.getLsbD p.1, preB := s.kiln.rawB.getLsbD p.1 }) } })) ∧
  (∀ (s : State) (n u : Nat) (b : KTable), (s.kiln.powered = true) → (s.kiln.tbl = some b) → ((s.kiln.source n).start = some
    u) → ((s.kiln.source n).pulse = true) → (s.kiln.due (u + b.w) = true) → exec (.testPulseEnd n) s = .next
    ({ s with kiln := ({ kIns.foldl (fun (a : Kiln) i => a.ownCheck n i) (s.kiln.setSrc n { s.kiln.source n with pulse := false }) with fore := some (n, u + b.w + b.s) } : Kiln).evalOuts })) ∧
  (∀ (s : State) (o : Nat) (r : KOutRec), (s.kiln.powered = true) → (s.kiln.outRec o = some r) → (0 < r.iMin) → (100000 ≤
    (s.kiln.outp o).low) → ((s.kiln.outp o).st = 1) → ((s.kiln.outp o).openLoad = false) → exec (.openLoadWarning o) s =
    .next ({ s with kiln := (s.kiln.setOut o { s.kiln.outp o with openLoad := true }).event 0x1024000D#32 [byteOf o] })) ∧
  (∀ (s : State) (f : Nat) (x : KSupply), (s.kiln.powered = true) → (s.kiln.fs[f]? = some x) → (100 ≤ x.outRun) → (x.bad =
    false) → exec (.fieldSupplyFault f) s = .next
    ({ s with kiln := (kSrcs.foldl (Kiln.unsupplied f) (({ s.kiln with fs := s.kiln.fs.set f { x with bad := true } } : Kiln).event 0x1034000B#32 [byteOf (f + 1)])).evalOuts })) ∧
  (∀ (s : State) (f : Nat) (x : KSupply), (s.kiln.powered = true) → (s.kiln.fs[f]? = some x) → (10000 ≤ x.inRun) → (x.bad =
    true) → exec (.fieldSupplyRestore f) s = .next
    ({ s with kiln := (kSrcs.foldl (fun (a : Kiln) n => if srcSupply n = f then a.resync n else a) { s.kiln with fs := s.kiln.fs.set f { x with bad := false } }).evalOuts }))

/-- While the Kiln is powered: a switch test begins when none runs, in RUN or in the LOAD that follows a table load, named
first in the queue, due again after an abort, or by its interval, bright on an output that is OFF and dark on one that
is ON, and an output in another state loses its turn; a phase that has not run its time changes nothing, except that a
bright test's second phase may end as soon as the readback is low; one whose expectation fails faults the output with
its kind, any other goes to the next phase or, the last, completes the test; a test overdue by 24 h in RUN raises
0x1036000C once; an elapsed off-delay turns its output off, after it has aborted a test of it; a reset press of 50 ms to
5 s gives the outputs that wait for that input their restart, and any press is forgotten. A trip line latches TRIP in a
powered Kiln, silences the pair link and is a Loom fault; TRIP clears once the lines have been quiet for 1 ms since, not
while HB_LOST stands; a missing heartbeat sets HB_LOST with event 0x10560002, counts, drops the claim and the withhold
mask. -/
def Obligations.KilnTests : Prop :=
  (∀ (s : State) (o : Nat) (b : KTable) (r : KOutRec) (q g : Bool), (s.kiln.powered = true) → (s.kiln.tbl = some b) →
    (s.kiln.outRec o = some r) → (s.kiln.outs.any (fun (y : KOutput) => y.test.isSome) = false) → (s.kiln.st ≠ 2) →
    (s.kiln.st ≠ 0 ∨ s.kiln.boot = true) → (q = (s.kiln.testQ.head? == some o)) → (g = (s.kiln.outp o).again.any (fun u =>
    decide (u ≤ s.kiln.us))) → (q = true ∨ g = true ∨ (s.kiln.st = 1 ∧ s.kiln.autoDue b o ≤ s.kiln.us)) → ((s.kiln.outp
    o).st = 0 ∨ (s.kiln.outp o).st = 1) → exec (.switchTestStart o) s = .next
    ({ s with kiln := ({ s.kiln with testQ := if q then s.kiln.testQ.drop 1 else s.kiln.testQ } : Kiln).setOut o { s.kiln.outp o with test := some { bright := (s.kiln.outp o).st == 0, since := s.kiln.us }, again := none, autoN := if !q && !g then (s.kiln.outp o).autoN + 1 else (s.kiln.outp o).autoN, rb := 0, low := 0 } })) ∧
  (∀ (s : State) (o : Nat) (b : KTable) (r : KOutRec) (q g : Bool), (s.kiln.powered = true) → (s.kiln.tbl = some b) →
    (s.kiln.outRec o = some r) → (s.kiln.outs.any (fun (y : KOutput) => y.test.isSome) = false) → (s.kiln.st ≠ 2) →
    (s.kiln.st ≠ 0 ∨ s.kiln.boot = true) → (q = (s.kiln.testQ.head? == some o)) → (g = (s.kiln.outp o).again.any (fun u =>
    decide (u ≤ s.kiln.us))) → (q = true ∨ g = true ∨ (s.kiln.st = 1 ∧ s.kiln.autoDue b o ≤ s.kiln.us)) → (2 ≤
    (s.kiln.outp o).st) → exec (.switchTestStart o) s = .next
    ({ s with kiln := (({ s.kiln with testQ := if q then s.kiln.testQ.drop 1 else s.kiln.testQ } : Kiln).setOut o { s.kiln.outp o with again := none, autoN := if !q && !g then (s.kiln.outp o).autoN + 1 else (s.kiln.outp o).autoN }).tryRun })) ∧
  (∀ (s : State) (o : Nat) (b : KTable) (x : KTest), (s.kiln.powered = true) → (s.kiln.tbl = some b) → ((s.kiln.outp o).test
    = some x) → (s.kiln.us < x.since + phaseUs b.swDark x) → (x.bright = false ∨ x.phase ≠ 1 ∨ 5000 < (s.kiln.outp o).vh ∨
    s.kiln.us ≤ x.since) → exec (.switchTestPhaseEnd o) s = .next (s)) ∧
  (∀ (s : State) (o : Nat) (b : KTable) (x : KTest), (s.kiln.powered = true) → (s.kiln.tbl = some b) → ((s.kiln.outp o).test
    = some x) → (x.since + phaseUs b.swDark x ≤ s.kiln.us ∨ (x.bright = true ∧ x.phase = 1 ∧ (s.kiln.outp o).vh ≤ 5000 ∧
    x.since < s.kiln.us)) → (phaseCheck x (s.kiln.fs.getD (outSupply o) {}).mv (s.kiln.outp o) ≠ 0) → exec
    (.switchTestPhaseEnd o) s = .next
    ({ s with kiln := (s.kiln.outFault o (phaseCheck x (s.kiln.fs.getD (outSupply o) {}).mv (s.kiln.outp o))).evalOuts.tryRun })) ∧
  (∀ (s : State) (o : Nat) (b : KTable) (x : KTest), (s.kiln.powered = true) → (s.kiln.tbl = some b) → ((s.kiln.outp o).test
    = some x) → (x.since + phaseUs b.swDark x ≤ s.kiln.us ∨ (x.bright = true ∧ x.phase = 1 ∧ (s.kiln.outp o).vh ≤ 5000 ∧
    x.since < s.kiln.us)) → (phaseCheck x (s.kiln.fs.getD (outSupply o) {}).mv (s.kiln.outp o) = 0) → (x.phase ≠ (if
    x.bright then 3 else 2)) → exec (.switchTestPhaseEnd o) s = .next
    ({ s with kiln := s.kiln.setOut o { s.kiln.outp o with test := some { x with phase := x.phase + 1, since := s.kiln.us } } })) ∧
  (∀ (s : State) (o : Nat) (b : KTable) (x : KTest), (s.kiln.powered = true) → (s.kiln.tbl = some b) → ((s.kiln.outp o).test
    = some x) → (x.since + phaseUs b.swDark x ≤ s.kiln.us ∨ (x.bright = true ∧ x.phase = 1 ∧ (s.kiln.outp o).vh ≤ 5000 ∧
    x.since < s.kiln.us)) → (phaseCheck x (s.kiln.fs.getD (outSupply o) {}).mv (s.kiln.outp o) = 0) → (x.phase = (if
    x.bright then 3 else 2)) → exec (.switchTestPhaseEnd o) s = .next ({ s with kiln := s.kiln.testDone o })) ∧
  (∀ (s : State) (o : Nat) (r : KOutRec), (s.kiln.powered = true) → (s.kiln.outRec o = some r) → ((s.kiln.outp o).tested.getD
    s.kiln.runAt + 86400000000 ≤ s.kiln.us) → ((s.kiln.outp o).overdue = false) → (s.kiln.st = 1) → exec
    (.switchTestOverdue o) s = .next
    ({ s with kiln := (s.kiln.setOut o { s.kiln.outp o with overdue := true }).event 0x1036000C#32 [byteOf o] })) ∧
  (∀ (s : State) (o u c : Nat) (r : KOutRec), (s.kiln.powered = true) → (s.kiln.outRec o = some r) → ((s.kiln.outp o).offAt =
    some u) → (u ≤ s.kiln.us) → (s.kiln.delayedCause r = some c) → exec (.offDelayExpiry o) s = .next
    ({ s with kiln := (if (s.kiln.outp o).test.isSome then s.kiln.abortTest o else s.kiln).turnOff o c r })) ∧
  (∀ (s : State) (n p e : Nat), (s.kiln.powered = true) → ((s.kiln.inp n).rel = some (p, e)) → (e - p < 5000 ∨ 500000 < e -
    p) → exec (.resetInputRelease n) s = .next ({ s with kiln := s.kiln.setIn n { s.kiln.inp n with rel := none } })) ∧
  (∀ (s : State) (n p e : Nat), (s.kiln.powered = true) → ((s.kiln.inp n).rel = some (p, e)) → (5000 ≤ e - p) → (e - p ≤
    500000) → exec (.resetInputRelease n) s = .next
    ({ s with kiln := (kOuts.foldl (Kiln.restarted n p) (s.kiln.setIn n { s.kiln.inp n with rel := none })).evalOuts })) ∧
  (∀ (s : State), (s.kiln.powered = true) → exec .tripLineAssert s = .next (State.loomFault
    { s with kiln := s.kiln.tripAssert, pair := { s.pair with silent := true } })) ∧
  (∀ (s : State), (s.kiln.powered = false) → exec .tripLineAssert s = .next (State.loomFault
    { s with pair := { s.pair with silent := true } })) ∧
  (∀ (s : State) (quiet : Nat), (s.kiln.powered = true) → (s.kiln.trip = true) → (s.kiln.hbLost = false) → (100 ≤ quiet) →
    (s.kiln.tripAt + quiet ≤ s.kiln.samp) → exec (.tripClear quiet) s = .next
    ({ s with kiln := ({ s.kiln with trip := false } : Kiln).evalOuts })) ∧
  (∀ (s : State) (quiet : Nat), (s.kiln.trip = false ∨ s.kiln.hbLost = true ∨ quiet < 100 ∨ s.kiln.samp < s.kiln.tripAt +
    quiet) → exec (.tripClear quiet) s = .next (s)) ∧
  (∀ (s : State) (c v : Nat) (k : Kiln), (s.kiln.powered = true) → (s.kiln.hbValid = some v) → (s.kiln.hbLost = false) → (v +
    s.kiln.hbT * 50000 + 2500 ≤ s.kiln.cycles c) → (k =
    ({ (s.kiln.event 0x10560002#32).dropClaim with hbLost := true, hbRun := 0, lostCnt := satAdd 255 s.kiln.lostCnt 1, withhold := 0 }
    : Kiln).evalOuts) → (k.hbLost = true) → exec (.heartbeatTimeout c) s = .next
    ({ s with kiln := k, kport := { s.kport with withhold := 0 } }))

/-- A heartbeat is exchanged in every pick of a powered Kiln without a Loom fault: the Kiln's part arrives unless its
transfer fails; a Loom part that is right and timely carries the Loom's status down, and any other counts as invalid and
ends the run of valid ones; in both cases the Kiln's challenge is the new one. The oldest transfer of command copies
that has arrived is taken with the check value it arrived with. The active Draft's table is loaded in SELFTEST or
STANDBY without a Loom fault, in LOAD, or in RUN while the heartbeat reports STANDBY and a change is marked. A
cross-trip line that shows transitions has no level; a level counts after the line's filter, and the low one loses the
line with event 0x10250014 once if the table asks for it. A holder in a pair sends its claim frame and reads the line
back; after 30 samples of silence the line is free and an armed Kiln may take the claim, as it may without a pair; a
claim-line fault that shows sets its bit, with event 0x13340006 when it is the first. A mailbox write carries its
operation and argument to the Kiln, and while one runs only sets OVR. -/
def Obligations.KilnLinkSteps : Prop :=
  (∀ (s : State) (chal : Word) (bad badUp : Bool) (c : Nat), (s.warp.picks = false ∨ s.kiln.powered = false ∨ s.sys.loomFault
    = true) → exec (.heartbeatExchange chal bad badUp c) s = .next (s)) ∧
  (∀ (s : State) (chal : Word) (bad badUp : Bool) (c : Nat) (r : State) (q : U16) (g : Bool), (s.warp.picks = true) →
    (s.kiln.powered = true) → (s.sys.loomFault = false) → (r = (if badUp then s.at 500000 else (s.at 500000).hbUp)) → (q =
    s.kport.seq + 1) → (g = r.kiln.hbRight bad q (hbResponse s.kport.chal q)) → (g = true) → (r.kiln.hbTimed c = true) →
    exec (.heartbeatExchange chal bad badUp c) s = .next (State.hbDown
    { r with kport := { r.kport with seq := q, chal := if badUp then r.kport.chal else chal } }
    { r.kiln with chal := chal, hbSeq := if bad then r.kiln.hbSeq else q, hbSeen := if g then some (r.kiln.cycles c) else r.kiln.hbSeen }
    c)) ∧
  (∀ (s : State) (chal : Word) (bad badUp : Bool) (c : Nat) (r : State) (q : U16) (g : Bool), (s.warp.picks = true) →
    (s.kiln.powered = true) → (s.sys.loomFault = false) → (r = (if badUp then s.at 500000 else (s.at 500000).hbUp)) → (q =
    s.kport.seq + 1) → (g = r.kiln.hbRight bad q (hbResponse s.kport.chal q)) → (g = false ∨ r.kiln.hbTimed c = false) →
    exec (.heartbeatExchange chal bad badUp c) s = .next
    ({ r with kport := { r.kport with seq := q, chal := if badUp then r.kport.chal else chal }, kiln := { { r.kiln with chal := chal, hbSeq := if bad then r.kiln.hbSeq else q, hbSeen := if g then some (r.kiln.cycles c) else r.kiln.hbSeen } with invalid := sat16 r.kiln.invalid, hbRun := 0 }, copies := r.copies.drop 1, pair := { r.pair with arm := State.armNow { r with kport := { r.kport with seq := q, chal := if badUp then r.kport.chal else chal } } } })) ∧
  (∀ (s : State) (err : Word) (m : CopyMsg) (rest : List CopyMsg), (s.kiln.powered = true) → (s.kiln.copyIn = m :: rest) →
    exec (.commandCopyCheck err) s = .next
    ({ s with kiln := ({ s.kiln with copyIn := rest } : Kiln).takeCopies { m with chk := m.chk ^^^ err } s.pickAt })) ∧
  (∀ (s : State) (err : Word), (s.kiln.powered = false ∨ s.kiln.copyIn = []) → exec (.commandCopyCheck err) s = .next (s)) ∧
  (∀ (s : State) (d : Draft), (s.draft = some d) → (s.kiln.powered = true) → (s.kiln.st = 0 ∨ (s.kiln.st = 1 ∧ s.kiln.mstate
    = 3 ∧ s.kport.change = true)) → (s.sys.loomFault = false) → (s.sys.st = .selftest ∨ s.sys.st = .standby) → exec
    .kilnTableLoad s = .next ({ s with kiln := (s.kiln.load d.kiln).tryRun, kport := { s.kport with change := false } })) ∧
  (∀ (s : State) (x : Nat) (high : Bool) (r : KXtRec), (s.kiln.powered = true) → (s.kiln.xtRec x = some r) → exec
    (.crossTripLineLevel x high 0) s = .next
    ({ s with kiln := ({ s.kiln with xtHigh := s.kiln.xtHigh &&& ~~~(BitVec.ofNat 4 (2 ^ x)), xtLost := s.kiln.xtLost &&& ~~~(BitVec.ofNat 4 (2 ^ x)) } : Kiln).evalOuts })) ∧
  (∀ (s : State) (x held : Nat) (high : Bool) (r : KXtRec), (s.kiln.powered = true) → (s.kiln.xtRec x = some r) → (held ≠ 0)
    → (held < r.filter) → exec (.crossTripLineLevel x high held) s = .next (s)) ∧
  (∀ (s : State) (x held : Nat) (r : KXtRec), (s.kiln.powered = true) → (s.kiln.xtRec x = some r) → (held ≠ 0) → (r.filter ≤
    held) → exec (.crossTripLineLevel x true held) s = .next
    ({ s with kiln := ({ s.kiln with xtHigh := s.kiln.xtHigh ||| BitVec.ofNat 4 (2 ^ x), xtLost := s.kiln.xtLost &&& ~~~(BitVec.ofNat 4 (2 ^ x)) } : Kiln).evalOuts })) ∧
  (∀ (s : State) (x held : Nat) (r : KXtRec), (s.kiln.powered = true) → (s.kiln.xtRec x = some r) → (held ≠ 0) → (r.filter ≤
    held) → (r.lossEvent = true) → (s.kiln.xtLost.getLsbD x = false) → exec (.crossTripLineLevel x false held) s = .next
    ({ s with kiln := (({ s.kiln with xtHigh := s.kiln.xtHigh &&& ~~~(BitVec.ofNat 4 (2 ^ x)), xtLost := s.kiln.xtLost ||| BitVec.ofNat 4 (2 ^ x) } : Kiln).event 0x10250014#32 [byteOf x]).evalOuts })) ∧
  (∀ (s : State) (x held : Nat) (r : KXtRec), (s.kiln.powered = true) → (s.kiln.xtRec x = some r) → (held ≠ 0) → (r.filter ≤
    held) → (r.lossEvent = false ∨ s.kiln.xtLost.getLsbD x = true) → exec (.crossTripLineLevel x false held) s = .next
    ({ s with kiln := ({ s.kiln with xtHigh := s.kiln.xtHigh &&& ~~~(BitVec.ofNat 4 (2 ^ x)), xtLost := s.kiln.xtLost ||| BitVec.ofNat 4 (2 ^ x) } : Kiln).evalOuts })) ∧
  (∀ (s : State) (line : List Bool), (s.pairMode = true) → (s.kiln.powered = true) → (s.kiln.claim = true) → exec
    (.claimFrameSend line) s = .next (State.emit { s with kiln := s.kiln.claimSend s.sys.pairSeat line } (.pair "claim"
    ((claimFrame s.sys.pairSeat).map (fun b => byteOf (b2n b)))))) ∧
  (∀ (s : State) (line : List Bool), (s.pairMode = false ∨ s.kiln.powered = false ∨ s.kiln.claim = false) → exec
    (.claimFrameSend line) s = .next (s)) ∧
  (∀ (s : State), (s.pairMode = true) → (s.kiln.powered = true) → (30 ≤ s.kiln.silence) → exec .claimLineFree s = .next
    ({ s with kiln := (if s.kiln.lineFree then s.kiln else { s.kiln with lineFree := true, freeAt := s.kiln.samp }).takeClaim false })) ∧
  (∀ (s : State), (s.pairMode = true) → (s.kiln.silence < 30) → exec .claimLineFree s = .next (s)) ∧
  (∀ (s : State), (s.pairMode = false) → (s.kiln.powered = true) → exec .claimLineFree s = .next
    ({ s with kiln := s.kiln.takeClaim true })) ∧
  (∀ (s : State) (c : Nat), (s.pairMode = true) → (s.kiln.powered = true) → ((c = 0 ∧ 3 < s.kiln.domRun) ∨ (c = 1 ∧
    s.kiln.claim = true ∧ 3 ≤ s.kiln.wrong) ∨ (2 ≤ c ∧ s.kiln.contra = true)) → (s.kiln.lclm &&& BitVec.ofNat 3 (2 ^ min c
    2) = 0) → Completes (exec (.lclmFault c) s) (fun t => ∃ k : Kiln, k =
    { s.kiln with lclm := s.kiln.lclm ||| BitVec.ofNat 3 (2 ^ min c 2) } ∧ t =
    { s with kiln := if s.kiln.lclm = 0 then k.event 0x13340006#32 [byteOf c] else k })) ∧
  (∀ (s : State) (v : Word), (s.kport.busy = false) → exec (.mailboxClear v) s = .next
    ({ s with kport := { s.kport with mbArg := v, busy := true, done := false, ovr := false, reqs := s.kport.reqs ++ [{ op := 1, arg := v, pick := s.warp.pickCount }] } })) ∧
  (∀ (s : State) (v : Word), (s.kport.busy = false) → exec (.mailboxSwitchTest v) s = .next
    ({ s with kport := { s.kport with mbArg := v, busy := true, done := false, ovr := false, reqs := s.kport.reqs ++ [{ op := 2, arg := v, pick := s.warp.pickCount }] } })) ∧
  (∀ (s : State) (v : Word), (s.kport.busy = false) → exec (.mailboxReadTable v) s = .next
    ({ s with kport := { s.kport with mbArg := v, busy := true, done := false, ovr := false, reqs := s.kport.reqs ++ [{ op := 3, arg := v, pick := s.warp.pickCount }] } })) ∧
  (∀ (s : State) (v : Word), (s.kport.busy = true) → exec (.mailboxClear v) s = .next
    ({ s with kport := { s.kport with mbArg := v, ovr := true } })) ∧
  (∀ (s : State) (v : Word), (s.kport.busy = true) → exec (.mailboxSwitchTest v) s = .next
    ({ s with kport := { s.kport with mbArg := v, ovr := true } })) ∧
  (∀ (s : State) (v : Word), (s.kport.busy = true) → exec (.mailboxReadTable v) s = .next
    ({ s with kport := { s.kport with mbArg := v, ovr := true } }))

/-- A module that sends on the pair link sends its FAST frame at p + 0.36 ms and its STATE frame at p + 0.80 ms, after which
its acknowledgements and outcomes count as told and its records move on; another sends neither. In a pair, a valid FAST
frame is taken once in a pick and a later one only counts on its lane; a valid STATE frame is taken once in a pick, by a
SHADOW with its records; a frame that is not valid counts on its lane; without a pair none is taken. A lane silent for
two picks goes down with event 0x13250004, and with both down the link, with event 0x13350005. The delay of seat 1 ends
at its pick; a SHADOW that is due, has the claim and is not barred takes over. The trip check latches the remote inputs
at p + 0.05 ms, updates the plant, latches its registers and sends the phase-back. -/
def Obligations.PairSteps : Prop :=
  (∀ (s : State), (s.pairSends = true) → exec .fastFrameSend s = .next ((s.at 360000).emit (.pair "FAST" (s.at
    360000).fastFrame))) ∧
  (∀ (s : State), (s.pairSends = false) → exec .fastFrameSend s = .next (s)) ∧
  (∀ (s : State) (r : State), (s.pairSends = true) → (r = s.at 800000) → Completes (exec .stateFrameSend s) (fun t => ∃ p, p
    = r.newRecs.foldl Pair.begun r.pair ∧ t = State.emit
    { r with pair := { p with acks := [], agreeDue := none, mirHeld := p.mirHeld.map (fun x => (x.1, x.2.1, true)), mirOut := p.mirOut.filterMap (fun x => if x.2.2 ≤ 1 then none else some (x.1, x.2.1, x.2.2 - 1)), sentSeqs := if r.sys.role == .lead then r.sess.map (fun (e : Nat × Session) => (e.1, e.2.txSeq)) else p.sentSeqs, outRecs := (fillChunks chunkBudget r.recsDue).2 } }
    (.state (r.pairHeader 2) r.stateBody))) ∧
  (∀ (s : State), (s.pairSends = false) → exec .stateFrameSend s = .next (s)) ∧
  (∀ (s : State) (lane : Bool) (b : List Byte) (u : Ns) (rtt : Nat), (s.pairMode = true) → (s.warp.picks = true) → (fastOk b
    = true) → (((s.at u).laneValid lane).pair.fastNow = false) → exec (.fastFrameReceive lane b u rtt) s = .next (((s.at
    u).laneValid lane).fastTake b rtt)) ∧
  (∀ (s : State) (lane : Bool) (b : List Byte) (u : Ns) (rtt : Nat), (s.pairMode = true) → (s.warp.picks = true) → (fastOk b
    = true) → (((s.at u).laneValid lane).pair.fastNow = true) → exec (.fastFrameReceive lane b u rtt) s = .next ((s.at
    u).laneValid lane)) ∧
  (∀ (s : State) (lane : Bool) (b : List Byte) (u : Ns) (rtt : Nat), (s.pairMode = true) → (s.warp.picks = true) → (fastOk b
    = false) → exec (.fastFrameReceive lane b u rtt) s = .next ((s.at u).onLane lane Lane.invalid)) ∧
  (∀ (s : State) (lane : Bool) (b : List Byte) (u : Ns) (rtt : Nat), (s.pairMode = false ∨ s.warp.picks = false) → exec
    (.fastFrameReceive lane b u rtt) s = .next (s)) ∧
  (∀ (s : State) (lane : Bool) (b : StateBody) (r q : State), (s.pairMode = true) → (s.warp.picks = true) → (r = (s.at
    900000).laneValid lane) → (r.pair.mirAge ≠ 0) → (q =
    { r with pair := { r.pair with mirAge := 0, pStaged := b.staged, seqs := b.seqs.foldl (fun (l : List (Nat × Word)) e => aset e.1 e.2 l) r.pair.seqs } })
    → (r.sys.role ≠ .shadow) → exec (.stateFrameReceive lane true b) s = .next (q.mirAcked b.acks)) ∧
  (∀ (s : State) (lane : Bool) (b : StateBody) (r q : State), (s.pairMode = true) → (s.warp.picks = true) → (r = (s.at
    900000).laneValid lane) → (r.pair.mirAge ≠ 0) → (q =
    { r with pair := { r.pair with mirAge := 0, pStaged := b.staged, seqs := b.seqs.foldl (fun (l : List (Nat × Word)) e => aset e.1 e.2 l) r.pair.seqs } })
    → (r.sys.role = .shadow) → exec (.stateFrameReceive lane true b) s = .next ((q.shadowTake b).mirAcked b.acks)) ∧
  (∀ (s : State) (lane : Bool) (b : StateBody), (s.pairMode = true) → (s.warp.picks = true) → (((s.at 900000).laneValid
    lane).pair.mirAge = 0) → exec (.stateFrameReceive lane true b) s = .next ((s.at 900000).laneValid lane)) ∧
  (∀ (s : State) (lane : Bool) (b : StateBody), (s.pairMode = true) → (s.warp.picks = true) → exec (.stateFrameReceive lane
    false b) s = .next ((s.at 900000).onLane lane Lane.invalid)) ∧
  (∀ (s : State) (lane ok : Bool) (b : StateBody), (s.pairMode = false ∨ s.warp.picks = false) → exec (.stateFrameReceive
    lane ok b) s = .next (s)) ∧
  (∀ (s : State) (lane : Bool) (r : State), (s.pairMode = true) → ((if lane then s.pair.lane1 else s.pair.lane0).up = true) →
    (2 ≤ (if lane then s.pair.lane1 else s.pair.lane0).silent) → (r = (s.onLane lane (fun x =>
    { x with up := false, good := 0 })).raise 0x13250004#32 [byteOf (b2n lane)]) → Completes (exec (.doryoLaneTimeout
    lane) s) (fun t => (r.pair.linkUp = true → t = r) ∧ (r.pair.linkUp = false → ∃ q, q = r.mirSettle ∧ t = State.mirFlush
    (State.raise { q with pair := { q.pair with mirSeen := [], acks := [] } } 0x13350005#32)))) ∧
  (∀ (s : State) (k : Nat), (s.pair.armFrom = some k) → (k ≤ s.warp.pickCount) → exec .armDelayExpiry s = .next
    ({ s with pair := { s.pair with armReady := true, armFrom := none } })) ∧
  (∀ (s : State), (s.pairMode = true) → (s.warp.picks = true) → (s.sys.role = .shadow) → (s.pair.takeDue = true) →
    (s.pair.claim = true) → (s.pair.barredBy = 0) → exec .takeover s = .next ((s.at 0).takeOver)) ∧
  (∀ (s : State) (sent react : Nat), (s.fastLane = true) → Completes (exec (.tripCheck sent react) s) (fun t => ∃ r pb, (r,
    pb) = (((s.at 50000).rioLatch).plantUpdate).phaseBack ∧ t = pb.foldl State.phaseRecord (r.plantLatch.sendPhase sent
    react)))

/-- A link that comes up at a speed its port allows sets the port's speed, use and MDI-X with event 0x0A040001; on port A or
B its LAN is restored, the time of the first link stays and a gratuitous ARP leaves once the network is ready; a ring
port is used at speed code 3 only, another speed raises 0x0A240003 and the ring counts as broken, and two used ring
ports start the forwarding. A port that is up already, or a speed that is not allowed, changes nothing. A link that goes
down clears the port with 0x0A240002 and counts; its LAN or the ring is broken; a port that is down stays as it is. A
PRP supervision frame leaves on ports 0 and 1 with the sequence number, which then advances. Port 0 or 1, up and without
a frame for 2 s while its mate received one within 2 s, breaks its LAN, and otherwise nothing changes. Ring supervision
frames leave on both ring ports with the sequence number; one that has not returned on both since the last time breaks a
linked ring, and one that has restores it. A frame on the ring is counted and judged; an own good supervision frame is
marked as returned on the other port; one for this module alone, one longer than a frame may be, or one without a
forwarding linked other port goes no further; any other is dropped and counted where its bytes do not fit the
65,536-byte buffer, and leaves on the other port where they do. An ARP request for the module's address is answered up
to 64 times in a second and then counted, an echo request up to 16 times; before readiness both, and an IGMP query, are
only counted; an ARP that claims the module's link-local address makes it take the next one, any other ARP changes at
most the second that is counted; an IGMP query is answered on ports 0 and 1 for the groups, and not at all without
groups. Admission opens 1 s after readiness and first link, and not before. -/
def Obligations.NetworkLinks : Prop :=
  (∀ (s : State) (p speed : Nat) (mdix : Bool) (r : State), ((s.port p).up = false) → (s.speedAllowed p speed = true) → (p <
    2) → (r = (s.setPort p
    { s.port p with up := true, speed := speed, used := true, mdix := mdix, last := some s.otime }).raise 0x0A040001#32
    [byteOf p, byteOf speed]) → exec (.portLinkUp p speed mdix) s = .next ((State.lanRestore
    { r with net := { r.net with linkAt := some (r.net.linkAt.getD r.otime) } } p).gratuitous p)) ∧
  (∀ (s : State) (p speed : Nat) (mdix : Bool) (r q : State), ((s.port p).up = false) → (s.speedAllowed p speed = true) → (2
    ≤ p) → (r = (s.setPort p
    { s.port p with up := true, speed := speed, used := decide (speed = 3), mdix := mdix, last := some s.otime }).raise
    0x0A040001#32 [byteOf p, byteOf speed]) → (q = (if speed = 3 then r else (r.raise 0x0A240003#32
    [byteOf p]).ringBreak)) → exec (.portLinkUp p speed mdix) s = .next (if q.ringLinked = true then
    { q with net := { q.net with forwarding := true } } else q)) ∧
  (∀ (s : State) (p speed : Nat) (mdix : Bool), ((s.port p).up = true ∨ s.speedAllowed p speed = false) → exec (.portLinkUp p
    speed mdix) s = .next (s)) ∧
  (∀ (s : State) (p : Nat) (r : State), ((s.port p).up = true) → (r = (s.setPort p
    { s.port p with up := false, speed := 0, used := false, mdix := false, downs := sat16 (s.port p).downs, buf := 0 }).raise
    0x0A240002#32 [byteOf p]) → exec (.portLinkDown p) s = .next (if p < 2 then r.lanBreak p else r.ringBreak)) ∧
  (∀ (s : State) (p : Nat), ((s.port p).up = false) → exec (.portLinkDown p) s = .next (s)) ∧
  (∀ (s : State), exec .prpSupervisionSend s = .next (State.emitAll
    { s with net := { s.net with prpSeq := (s.net.prpSeq + 1) % 65536 } }
    [.frame 0 "PRP supervision" (be16 s.net.prpSeq), .frame 1 "PRP supervision" (be16 s.net.prpSeq)])) ∧
  (∀ (s : State) (p u : Nat), (p < 2) → ((s.port p).up = true) → ((∀ v, (s.port p).last = some v → v + 2000000 ≤ s.otime)) →
    ((s.port (mate p)).last = some u) → (s.otime ≤ u + 2000000) → exec (.lanSilence p) s = .next (s.lanBreak p)) ∧
  (∀ (s : State) (p : Nat), (2 ≤ p ∨ (s.port p).up = false ∨ (∃ v, (s.port p).last = some v ∧ s.otime < v + 2000000) ∨ (∀ u,
    (s.port (mate p)).last = some u → u + 2000000 < s.otime)) → exec (.lanSilence p) s = .next (s)) ∧
  (∀ (s : State) (r q : State), (r = (if s.ringLinked = true ∧ s.net.ringSup = true then (if (s.port 2).back = true ∧ (s.port
    3).back = true then s.ringRestore else s.ringBreak) else s)) → (q = (r.setPort 2 { r.port 2 with back := false })) →
    exec .ringSupervisionSend s = .next (State.emitAll
    { (q.setPort 3 { q.port 3 with back := false }) with net := { (q.setPort 3 { q.port 3 with back := false }).net with ringSup := s.ringLinked, hsrSeq := (r.net.hsrSeq + 1) % 65536 } }
    [.frame 2 "HSR supervision" (be16 r.net.hsrSeq), .frame 3 "HSR supervision" (be16 r.net.hsrSeq)])) ∧
  (∀ (s : State) (g n : Nat) (src : List Byte) (sup bad : Bool) (mine queued : Nat) (b : List Byte) (w : Bool) (r : State),
    (w = (bad || decide (maxFrame < b.length))) → (r = s.netPick.setPort g
    { s.netPick.port g with rx := sat32 (s.netPick.port g).rx, fcs := if w = true then sat16 (s.netPick.port g).fcs else (s.netPick.port g).fcs, last := some s.otime })
    → exec (.ringFrameForward g src n true sup bad mine queued b) s = .next (if sup = true ∧ w = false then r.setPort (5 -
    g) { r.port (5 - g) with back := true } else r)) ∧
  (∀ (s : State) (g n : Nat) (src : List Byte) (sup bad : Bool) (mine queued : Nat) (b : List Byte) (w : Bool) (r : State),
    (w = (bad || decide (maxFrame < b.length))) → (r = (if mine = 0 then s.netPick.setPort g
    { s.netPick.port g with rx := sat32 (s.netPick.port g).rx, fcs := if w = true then sat16 (s.netPick.port g).fcs else (s.netPick.port g).fcs, last := some s.otime }
    else (s.frameIn g src (some n) w (if sup then 1 else 4)).1)) → (mine = 1 ∨ maxFrame < b.length ∨ r.net.forwarding =
    false ∨ (r.port (5 - g)).up = false) → exec (.ringFrameForward g src n false sup bad mine queued b) s = .next (r)) ∧
  (∀ (s : State) (g n : Nat) (src : List Byte) (sup bad : Bool) (mine queued : Nat) (b : List Byte) (r : State), (b.length ≤
    maxFrame) → (r = (if mine = 0 then s.netPick.setPort g
    { s.netPick.port g with rx := sat32 (s.netPick.port g).rx, fcs := if bad = true then sat16 (s.netPick.port g).fcs else (s.netPick.port g).fcs, last := some s.otime }
    else (s.frameIn g src (some n) bad (if sup then 1 else 4)).1)) → (mine ≠ 1) → (r.net.forwarding = true) → ((r.port (5
    - g)).up = true) → exec (.ringFrameForward g src n false sup bad mine queued b) s = .next (if 65536 < queued +
    b.length then r.setPort (5 - g) { r.port (5 - g) with fwd := sat16 (r.port (5 - g)).fwd, buf := queued } else
    (r.setPort (5 - g) { r.port (5 - g) with buf := queued + b.length }).emit (.frame (5 - g) "HSR" b))) ∧
  (∀ (s : State) (p : Nat) (mine conflict : Bool), (s.net.ready = false) → exec (.arpRequest p mine conflict) s = .next
    ({ s with net := { s.net with prenr := sat32 s.net.prenr } })) ∧
  (∀ (s : State) (p : Nat) (mine : Bool), (s.net.ready = true) → exec (.arpRequest p mine true) s = .next (if
    s.ansSecond.net.ip.toNat / 65536 = 169 * 256 + 254 ∧ s.draft = none ∧ s.net.saved = none then
    { s.ansSecond with net := { s.ansSecond.net with ip := word (s.ansSecond.net.ip.toNat / 256 * 256 + (s.ansSecond.net.ip.toNat + 1) % 256) } }
    else s.ansSecond)) ∧
  (∀ (s : State) (p : Nat), (s.net.ready = true) → exec (.arpRequest p false false) s = .next (s.ansSecond)) ∧
  (∀ (s : State) (p : Nat), (s.net.ready = true) → exec (.arpRequest p true false) s = .next (if s.ansSecond.net.arpNow < 64
    then State.emit { s.ansSecond with net := { s.ansSecond.net with arpNow := s.ansSecond.net.arpNow + 1 } } (.frame p
    "ARP" (be32 s.ansSecond.net.ip.toNat)) else
    { s.ansSecond with net := { s.ansSecond.net with arpDrop := sat16 s.ansSecond.net.arpDrop } })) ∧
  (∀ (s : State) (p : Nat) (b : List Byte), (s.net.ready = true) → exec (.icmpEchoRequest p b) s = .next (if
    s.ansSecond.net.icmpNow < 16 then State.emit
    { s.ansSecond with net := { s.ansSecond.net with icmpNow := s.ansSecond.net.icmpNow + 1 } } (.frame p "ICMP echo
    reply" b) else { s.ansSecond with net := { s.ansSecond.net with icmpDrop := sat16 s.ansSecond.net.icmpDrop } })) ∧
  (∀ (s : State) (p : Nat) (b : List Byte), (s.net.ready = false) → exec (.icmpEchoRequest p b) s = .next
    ({ s with net := { s.net with prenr := sat32 s.net.prenr } })) ∧
  (∀ (s : State) (v3 : Bool), (s.net.ready = true) → (s.netRec.groups ≠ []) → exec (.igmpQuery v3) s = .next (s.emitAll
    ([0, 1].map (fun p => Output.frame p (if v3 then "IGMPv3 report" else "IGMPv2 report") (s.netRec.groups.map (fun (g :
    Word × Nat) => be32 g.1.toNat)).flatten)))) ∧
  (∀ (s : State) (v3 : Bool), (s.net.ready = true) → (s.netRec.groups = []) → exec (.igmpQuery v3) s = .next (s)) ∧
  (∀ (s : State) (v3 : Bool), (s.net.ready = false) → exec (.igmpQuery v3) s = .next
    ({ s with net := { s.net with prenr := sat32 s.net.prenr } })) ∧
  (∀ (s : State) (a b : Nat), (s.net.readyAt = some a) → (s.net.linkAt = some b) → exec .admissionOpen s = .next (if max a b
    + 1000000 ≤ s.otime then { s with net := { s.net with admitOpen := true } } else s)) ∧
  (∀ (s : State), (s.net.readyAt = none ∨ s.net.linkAt = none) → exec .admissionOpen s = .next (s))

/-- Before the network is ready a datagram or a GOOSE frame is only counted, and a UART character changes nothing. A 450
datagram with another header, or without a session of its group, port and source, counts as unprovisioned; of a session
that takes nothing it changes nothing but the instant; with a wrong tag block it is a check failure, otherwise its
sentences are handed on in order. A UDP datagram without a session counts as unprovisioned; of an RTCM session it is
split into messages, else handed on whole. A GOOSE frame without a subscription counts as unprovisioned, one with the
simulation bit is only counted, a new one is taken, an old one left. A drive status of a session that takes frames
passes the Glaze: a wrong check value is a Glaze failure and a rejection, another shape a rejection, one not newer a
rejection for its sequence; any other is charged to the rate and, within it, its number is kept, the thruster takes its
fields and the session is valid; a status of another session changes nothing. A frame on a port is counted, judged and,
where it goes on, handed on by what it carries; one that is too long is bad. An output session in turn, in READY, SAFE
or while control is active, of a leading module, sends its bytes on its UART or as a datagram; out of turn nothing is
sent. A UART character with an error discards what is in assembly, counts and raises 0x0B120001 at most once a second; a
good one goes to the RTCM message or sentence. A CAN frame sets the receive error counter of a controller in use; on a
ready network, where bus and filter let it, it is counted, or lost with 0x0B110005, and is taken as NMEA 2000 or handed
to its session. An error frame sets both counters, counts, and makes the controller error passive above 127, with
0x0B240002 the first time, and active below; bus-off raises 0x0B340003, counts and drops what is in assembly; recovery
clears the counters with 0x0B040004. -/
def Obligations.ReceivedFrames : Prop :=
  (∀ (s : State) (p d : Nat) (g : Word) (b : List Byte) (u : Ns), (s.net.ready = false) → exec (.iec61162450Datagram p g d b
    u) s = .next ({ s.at u with net := { s.net with prenr := sat32 s.net.prenr } })) ∧
  (∀ (s : State) (p d : Nat) (g : Word) (b : List Byte) (u : Ns), (s.net.ready = true) → (b.take 6 ≠ ascii "UdPbC" ++ [0]) →
    exec (.iec61162450Datagram p g d b u) s = .next ((s.at u).setPort p
    { s.port p with unprov := sat16 (s.port p).unprov })) ∧
  (∀ (s : State) (p d : Nat) (g : Word) (b : List Byte) (u : Ns) (src : Option (List Byte)) (ok : Bool) (l : List (List
    Byte)), (s.net.ready = true) → (b.take 6 = ascii "UdPbC" ++ [0]) → (parse450 (b.drop 6) = (src, ok, l)) → (((s.at
    u).findSess (fun r => r.kind == 1 && r.rx && r.address.take 6 == ipKey g d && (r.address.drop 6).take 6 == fitBytes 6
    (src.getD []) && src.isSome)) = none) → exec (.iec61162450Datagram p g d b u) s = .next ((s.at u).setPort p
    { s.port p with unprov := sat16 (s.port p).unprov })) ∧
  (∀ (s : State) (p d : Nat) (g : Word) (b : List Byte) (u : Ns) (src : Option (List Byte)) (ok : Bool) (l : List (List
    Byte)) (r : SessRec), (s.net.ready = true) → (b.take 6 = ascii "UdPbC" ++ [0]) → (parse450 (b.drop 6) = (src, ok, l))
    → (((s.at u).findSess (fun r => r.kind == 1 && r.rx && r.address.take 6 == ipKey g d && (r.address.drop 6).take 6 ==
    fitBytes 6 (src.getD []) && src.isSome)) = some r) → (s.sessTakes r.index = false) → exec (.iec61162450Datagram p g d
    b u) s = .next (s.at u)) ∧
  (∀ (s : State) (p d : Nat) (g : Word) (b : List Byte) (u : Ns) (src : Option (List Byte)) (l : List (List Byte)) (r :
    SessRec) (x : Session), (s.net.ready = true) → (b.take 6 = ascii "UdPbC" ++ [0]) → (parse450 (b.drop 6) = (src, false,
    l)) → (((s.at u).findSess (fun r => r.kind == 1 && r.rx && r.address.take 6 == ipKey g d && (r.address.drop 6).take 6
    == fitBytes 6 (src.getD []) && src.isSome)) = some r) → (s.sessTakes r.index = true) → (s.session r.index = some x) →
    exec (.iec61162450Datagram p g d b u) s = .next ((s.at u).setSession r.index { x with check := sat16 x.check })) ∧
  (∀ (s : State) (p d : Nat) (g : Word) (b : List Byte) (u : Ns) (src : Option (List Byte)) (l : List (List Byte)) (r :
    SessRec), (s.net.ready = true) → (b.take 6 = ascii "UdPbC" ++ [0]) → (parse450 (b.drop 6) = (src, true, l)) → (((s.at
    u).findSess (fun r => r.kind == 1 && r.rx && r.address.take 6 == ipKey g d && (r.address.drop 6).take 6 == fitBytes 6
    (src.getD []) && src.isSome)) = some r) → (s.sessTakes r.index = true) → exec (.iec61162450Datagram p g d b u) s =
    .next (l.foldl (fun (a : State) x => a.handOn r.index (.sentence x)) (s.at u))) ∧
  (∀ (s : State) (p d : Nat) (src : Word) (b : List Byte) (u : Ns), (s.net.ready = false) → exec (.udpBinaryDatagram p src d
    b u) s = .next ({ s.at u with net := { s.net with prenr := sat32 s.net.prenr } })) ∧
  (∀ (s : State) (p d : Nat) (src : Word) (b : List Byte) (u : Ns), (s.net.ready = true) → (((s.at u).findSess (fun r =>
    r.kind == 2 && r.rx && r.address.take 6 == ipKey src d)) = none) → exec (.udpBinaryDatagram p src d b u) s = .next
    ((s.at u).setPort p { s.port p with unprov := sat16 (s.port p).unprov })) ∧
  (∀ (s : State) (p d : Nat) (src : Word) (b : List Byte) (u : Ns) (r : SessRec), (s.net.ready = true) → (((s.at u).findSess
    (fun r => r.kind == 2 && r.rx && r.address.take 6 == ipKey src d)) = some r) → (s.sessTakes r.index = false) → exec
    (.udpBinaryDatagram p src d b u) s = .next (s.at u)) ∧
  (∀ (s : State) (p d : Nat) (src : Word) (b : List Byte) (u : Ns) (r : SessRec), (s.net.ready = true) → (((s.at u).findSess
    (fun r => r.kind == 2 && r.rx && r.address.take 6 == ipKey src d)) = some r) → (s.sessTakes r.index = true) → exec
    (.udpBinaryDatagram p src d b u) s = .next (if r.rtcm = true then (rtcmSplit b.length b).foldl (fun (a : State) m =>
    a.rtcmMessage r.index m) (s.at u) else (s.at u).handOn r.index (.binary b))) ∧
  (∀ (s : State) (p ap : Nat) (src cb : List Byte) (st sq : Word) (ttl : Nat) (sim : Bool) (m : List GooseMember) (u : Ns),
    (s.net.ready = false) → exec (.gooseFrameReceive p ap src cb st sq ttl sim m u) s = .next
    ({ s.at u with net := { s.net with prenr := sat32 s.net.prenr } })) ∧
  (∀ (s : State) (p ap : Nat) (src cb : List Byte) (st sq : Word) (ttl : Nat) (sim : Bool) (m : List GooseMember) (u : Ns),
    (s.net.ready = true) → (s.netRec.goose.find? (fun (g : GooseRec) => g.appid == ap && g.src == src && g.gocb == cb) =
    none) → exec (.gooseFrameReceive p ap src cb st sq ttl sim m u) s = .next ((s.at u).setPort p
    { s.port p with unprov := sat16 (s.port p).unprov })) ∧
  (∀ (s : State) (p ap : Nat) (src cb : List Byte) (st sq : Word) (ttl : Nat) (sim : Bool) (m : List GooseMember) (u : Ns) (g
    : GooseRec), (s.net.ready = true) → (s.netRec.goose.find? (fun (g : GooseRec) => g.appid == ap && g.src == src &&
    g.gocb == cb) = some g) → (s.sessTakes g.sess = false) → exec (.gooseFrameReceive p ap src cb st sq ttl sim m u) s =
    .next (s.at u)) ∧
  (∀ (s : State) (p ap : Nat) (src cb : List Byte) (st sq : Word) (ttl : Nat) (m : List GooseMember) (u : Ns) (g : GooseRec),
    (s.net.ready = true) → (s.netRec.goose.find? (fun (g : GooseRec) => g.appid == ap && g.src == src && g.gocb == cb) =
    some g) → (s.sessTakes g.sess = true) → exec (.gooseFrameReceive p ap src cb st sq ttl true m u) s = .next
    ({ (s.at u) with plant := { s.plant with gooseSim := sat32 s.plant.gooseSim } })) ∧
  (∀ (s : State) (p ap : Nat) (src cb : List Byte) (st sq : Word) (ttl : Nat) (m : List GooseMember) (u : Ns) (g : GooseRec),
    (s.net.ready = true) → (s.netRec.goose.find? (fun (g : GooseRec) => g.appid == ap && g.src == src && g.gocb == cb) =
    some g) → (s.sessTakes g.sess = true) → exec (.gooseFrameReceive p ap src cb st sq ttl false m u) s = .next (if
    gooseNew (s.plant.sub g.sess) st sq = true then (s.at u).gooseTake g.sess st sq ttl m else s.at u)) ∧
  (∀ (s : State) (i : Nat) (b : List Byte) (u : Ns), ((s.at u).sessRec i = none ∨ (s.at u).session i = none) → exec
    (.driveStatusReceive i b u) s = .next (s)) ∧
  (∀ (s : State) (i : Nat) (b : List Byte) (u : Ns) (r : SessRec) (x : Session), ((s.at u).sessRec i = some r) → ((s.at
    u).session i = some x) → (r.kind ≠ 8 ∨ s.net.ready = false ∨ s.sessTakes i = false) → exec (.driveStatusReceive i b u)
    s = .next (s)) ∧
  (∀ (s : State) (i : Nat) (b : List Byte) (u : Ns) (r : SessRec) (x : Session) (a : State), ((s.at u).sessRec i = some r) →
    ((s.at u).session i = some x) → (r.kind = 8) → (s.net.ready = true) → (s.sessTakes i = true) → (a = (s.at u).glazeRx r
    b) → ((28 ≤ b.length && (a.glazeSet r.glaze).any (fun g => decide (glazeCheck g (b.take (b.length - 4)) % 4294967296 =
    ofBe (b.drop (b.length - 4))))) = false) → exec (.driveStatusReceive i b u) s = .next (a.glazeFail.sessReject i a.now
    false)) ∧
  (∀ (s : State) (i : Nat) (b : List Byte) (u : Ns) (r : SessRec) (x : Session) (a : State), ((s.at u).sessRec i = some r) →
    ((s.at u).session i = some x) → (r.kind = 8) → (s.net.ready = true) → (s.sessTakes i = true) → (a = (s.at u).glazeRx r
    b) → ((28 ≤ b.length && (a.glazeSet r.glaze).any (fun g => decide (glazeCheck g (b.take (b.length - 4)) % 4294967296 =
    ofBe (b.drop (b.length - 4))))) = true) → ((fieldAt b 0 1 == 1 && fieldAt b 1 1 == 0x81 && fieldAt b 2 2 == 32 &&
    b.length == 60) = false) → exec (.driveStatusReceive i b u) s = .next (a.sessReject i a.now false)) ∧
  (∀ (s : State) (i : Nat) (b : List Byte) (u : Ns) (r : SessRec) (x : Session) (a : State) (v : Word), ((s.at u).sessRec i =
    some r) → ((s.at u).session i = some x) → (r.kind = 8) → (s.net.ready = true) → (s.sessTakes i = true) → (a = (s.at
    u).glazeRx r b) → ((28 ≤ b.length && (a.glazeSet r.glaze).any (fun g => decide (glazeCheck g (b.take (b.length - 4)) %
    4294967296 = ofBe (b.drop (b.length - 4))))) = true) → ((fieldAt b 0 1 == 1 && fieldAt b 1 1 == 0x81 && fieldAt b 2 2
    == 32 && b.length == 60) = true) → (x.rxSeq = some v) → (seqNewer (word (fieldAt b 12 4)) v = false) → exec
    (.driveStatusReceive i b u) s = .next (a.sessReject i a.now true)) ∧
  (∀ (s : State) (i : Nat) (b : List Byte) (u : Ns) (r : SessRec) (x : Session) (a : State) (q : State), ((s.at u).sessRec i
    = some r) → ((s.at u).session i = some x) → (r.kind = 8) → (s.net.ready = true) → (s.sessTakes i = true) → (a = (s.at
    u).glazeRx r b) → ((28 ≤ b.length && (a.glazeSet r.glaze).any (fun g => decide (glazeCheck g (b.take (b.length - 4)) %
    4294967296 = ofBe (b.drop (b.length - 4))))) = true) → ((fieldAt b 0 1 == 1 && fieldAt b 1 1 == 0x81 && fieldAt b 2 2
    == 32 && b.length == 60) = true) → ((∀ v, x.rxSeq = some v → seqNewer (word (fieldAt b 12 4)) v = true)) → (a.charge i
    = (q, false)) → exec (.driveStatusReceive i b u) s = .next (q)) ∧
  (∀ (s : State) (i : Nat) (b : List Byte) (u : Ns) (r : SessRec) (x : Session) (a : State) (q y : State) (z : Session),
    ((s.at u).sessRec i = some r) → ((s.at u).session i = some x) → (r.kind = 8) → (s.net.ready = true) → (s.sessTakes i =
    true) → (a = (s.at u).glazeRx r b) → ((28 ≤ b.length && (a.glazeSet r.glaze).any (fun g => decide (glazeCheck g
    (b.take (b.length - 4)) % 4294967296 = ofBe (b.drop (b.length - 4))))) = true) → ((fieldAt b 0 1 == 1 && fieldAt b 1 1
    == 0x81 && fieldAt b 2 2 == 32 && b.length == 60) = true) → ((∀ v, x.rxSeq = some v → seqNewer (word (fieldAt b 12 4))
    v = true)) → (a.charge i = (q, true)) → (q.session i = some z) → (y = q.setSession i
    { z with rxSeq := some (word (fieldAt b 12 4)) }) → exec (.driveStatusReceive i b u) s = .next ((y.driveTake i
    b).sessValid i y.now)) ∧
  (∀ (s : State) (p n : Nat) (src : List Byte) (seq : Option Nat) (bad : Bool) (b : EthBody) (u : Ns) (r : State) (on :
    Bool), ((s.at u).frameIn p src seq (bad || decide (maxFrame < n)) (frameKind b) = (r, on)) → exec (.prpFrameReceive p
    n src seq bad b u) s = .next (if on = true then r.handBody p b else r)) ∧
  (∀ (s : State) (i : Nat), (s.sessRec i = none) → exec (.outputSessionSend i) s = .next (s)) ∧
  (∀ (s : State) (i : Nat) (r : SessRec), (s.sessRec i = some r) → (¬ ((s.sys.st = .ready ∨ s.isActive = true ∨ s.sys.st =
    .safe) ∧ s.leads = true ∧ (r.kind = 0x0B ∨ r.kind = 0x0C) ∧ 0 < r.period ∧ s.warp.pickCount % r.period = 0)) → exec
    (.outputSessionSend i) s = .next (s)) ∧
  (∀ (s : State) (i : Nat) (r : SessRec), (s.sessRec i = some r) → (s.sys.st = .ready ∨ s.isActive = true ∨ s.sys.st = .safe)
    → (s.leads = true) → (r.kind = 0x0C) → (0 < r.period) → (s.warp.pickCount % r.period = 0) → exec (.outputSessionSend
    i) s = .next ((s.sessSent i).emit (.uart r.iface (s.outputBytes i)))) ∧
  (∀ (s : State) (i : Nat) (r : SessRec), (s.sessRec i = some r) → (s.sys.st = .ready ∨ s.isActive = true ∨ s.sys.st = .safe)
    → (s.leads = true) → (r.kind = 0x0B) → (0 < r.period) → (s.warp.pickCount % r.period = 0) → exec (.outputSessionSend
    i) s = .next ((s.sessSent i).emit (.session i (if ((r.address.drop 6).take 6).any (fun x => x != 0) then s.udpbc
    (s.outputBytes i) else s.outputBytes i)))) ∧
  (∀ (s : State) (n e : Nat) (c : Byte) (u : Ns), (s.net.ready = false ∨ (s.uartRec n).rx = none) → exec
    (.uartCharacterReceive n c e u) s = .next (s)) ∧
  (∀ (s : State) (n e : Nat) (c : Byte) (u : Ns) (i : Nat), (s.net.ready = true) → ((s.uartRec n).rx = some i) → (e ≠ 0) →
    exec (.uartCharacterReceive n c e u) s = .next (((s.at u).setUart n
    { s.uart n with asm := [], tag := false, framing := if e = 1 then sat16 (s.uart n).framing else (s.uart n).framing, overrun := if e = 1 then (s.uart n).overrun else sat16 (s.uart n).overrun }).raiseLimited
    (0x0B120001 * 256 + n) 1000000 0x0B120001#32 [byteOf n])) ∧
  (∀ (s : State) (n : Nat) (c : Byte) (u : Ns) (i : Nat), (s.net.ready = true) → ((s.uartRec n).rx = some i) → ((s.at
    u).sessRec i = none) → exec (.uartCharacterReceive n c 0 u) s = .next (s)) ∧
  (∀ (s : State) (n : Nat) (c : Byte) (u : Ns) (i : Nat) (r : SessRec), (s.net.ready = true) → ((s.uartRec n).rx = some i) →
    ((s.at u).sessRec i = some r) → exec (.uartCharacterReceive n c 0 u) s = .next (if s.sessTakes i = true then (if
    r.rtcm = true then (s.at u).uartRtcm n i c else (s.at u).uartSentence n i c) else s.at u)) ∧
  (∀ (s : State) (c id rec' : Nat) (fast full : Bool) (b : List Byte) (u : Ns), (s.canRec c = none) → exec (.canFrameReceive
    c id rec' fast full b u) s = .next (s)) ∧
  (∀ (s : State) (c id rec' : Nat) (fast full : Bool) (b : List Byte) (u : Ns) (r : CanRec) (y : State), (s.canRec c = some
    r) → (y = (s.at u).canReceived c rec') → (s.net.ready = false ∨ (y.can c).bus = 2 ∨ canPasses r id = false) → exec
    (.canFrameReceive c id rec' fast full b u) s = .next (y)) ∧
  (∀ (s : State) (c id rec' : Nat) (fast : Bool) (b : List Byte) (u : Ns) (r : CanRec) (y : State), (s.canRec c = some r) →
    (y = (s.at u).canReceived c rec') → (s.net.ready = true) → ((y.can c).bus ≠ 2) → (canPasses r id = true) → exec
    (.canFrameReceive c id rec' fast true b u) s = .next ((y.setCan c
    { y.can c with overflow := sat16 (y.can c).overflow }).raise 0x0B110005#32 [byteOf c])) ∧
  (∀ (s : State) (c id rec' : Nat) (fast : Bool) (b : List Byte) (u : Ns) (r : CanRec) (y : State), (s.canRec c = some r) →
    (y = (s.at u).canReceived c rec') → (s.net.ready = true) → ((y.can c).bus ≠ 2) → (canPasses r id = true) → (r.n2k =
    true) → exec (.canFrameReceive c id rec' fast false b u) s = .next ((y.setCan c
    { y.can c with frames := sat16 (y.can c).frames }).n2kFrame c id fast b)) ∧
  (∀ (s : State) (c id rec' : Nat) (fast : Bool) (b : List Byte) (u : Ns) (r : CanRec) (y : State) (z : State), (s.canRec c =
    some r) → (y = (s.at u).canReceived c rec') → (s.net.ready = true) → ((y.can c).bus ≠ 2) → (canPasses r id = true) →
    (r.n2k = false) → (z = y.setCan c { y.can c with frames := sat16 (y.can c).frames }) → (z.canSess c id = none) → exec
    (.canFrameReceive c id rec' fast false b u) s = .next (z)) ∧
  (∀ (s : State) (c id rec' : Nat) (fast : Bool) (b : List Byte) (u : Ns) (r : CanRec) (y : State) (z : State) (q : SessRec),
    (s.canRec c = some r) → (y = (s.at u).canReceived c rec') → (s.net.ready = true) → ((y.can c).bus ≠ 2) → (canPasses r
    id = true) → (r.n2k = false) → (z = y.setCan c { y.can c with frames := sat16 (y.can c).frames }) → (z.canSess c id =
    some q) → exec (.canFrameReceive c id rec' fast false b u) s = .next (if z.sessTakes q.index = true then z.handOn
    q.index (.can id b) else z)) ∧
  (∀ (s : State) (c tec rec' : Nat), (s.canRec c = none ∨ (s.can c).bus = 2) → exec (.canBusError c tec rec') s = .next (s)) ∧
  (∀ (s : State) (c tec rec' : Nat) (r : State), (s.canRec c ≠ none) → ((s.can c).bus ≠ 2) → (127 < tec ∨ 127 < rec') → (r =
    s.setCan c { s.can c with tec := tec, rec' := rec', errFrames := sat16 (s.can c).errFrames, bus := 1 }) → exec
    (.canBusError c tec rec') s = .next (if (s.can c).bus = 1 then r else r.raise 0x0B240002#32 [byteOf c])) ∧
  (∀ (s : State) (c tec rec' : Nat), (s.canRec c ≠ none) → ((s.can c).bus ≠ 2) → (tec ≤ 127) → (rec' ≤ 127) → exec
    (.canBusError c tec rec') s = .next (s.setCan c
    { s.can c with tec := tec, rec' := rec', errFrames := sat16 (s.can c).errFrames, bus := 0 })) ∧
  (∀ (s : State) (c : Nat), (s.canRec c ≠ none) → ((s.can c).bus ≠ 2) → exec (.canBusOff c) s = .next (State.raise (s.setCan
    c { s.can c with bus := 2, busOffs := sat16 (s.can c).busOffs, seqs := [] }) 0x0B340003#32 [byteOf c])) ∧
  (∀ (s : State) (c : Nat), (s.canRec c = none ∨ (s.can c).bus = 2) → exec (.canBusOff c) s = .next (s)) ∧
  (∀ (s : State) (c : Nat), ((s.can c).bus = 2) → exec (.canBusOffRecovery c) s = .next (State.raise (s.setCan c
    { s.can c with bus := 0, tec := 0, rec' := 0 }) 0x0B040004#32 [byteOf c])) ∧
  (∀ (s : State) (c : Nat), ((s.can c).bus ≠ 2) → exec (.canBusOffRecovery c) s = .next (s))

/-- In a started pick, in READY or SAFE or while control is active on the leading module, the requests of the stations due
in this pick are made at p + 0.75 ms in order of their station index, and otherwise none is. A reply of a station that
is provisioned, on a ready network and of a session that takes frames, passes the Glaze; one with a wrong check value is
a Glaze failure and a rejection, one of another shape a rejection; any other is charged to the session's rate and,
within it, is held for the next latch with its arrival, the station's request is answered, its session is valid, and it
is late where it came 40 to 50 us after the tick or was already counted as missing, which takes it out of that count and
reports 0x0C110003 at most once a second. Any other reply changes nothing. A background test that finds bad units marks
them with event 0x0E440001 and is a Loom fault, and one that finds none of the units 0 to 13 bad changes nothing. -/
def Obligations.RemoteStations : Prop :=
  (∀ (s : State), (s.rioSends = true) → (s.warp.picks = true) → exec .rioRequestBuild s = .next ((sortBy (fun (a b : StaRec)
    => decide (a.sta ≤ b.sta)) (s.stationRecs.filter (fun r => s.warp.pickCount % r.cycle == r.phase))).foldl (fun (a :
    State) r => a.request r) (s.at 750000))) ∧
  (∀ (s : State), (s.rioSends = false ∨ s.warp.picks = false) → exec .rioRequestBuild s = .next (s)) ∧
  (∀ (s : State) (k : Nat) (b : List Byte) (u : Ns), (s.staRec k = none) → exec (.rioReplyReceive k b u) s = .next (s)) ∧
  (∀ (s : State) (k : Nat) (b : List Byte) (u : Ns) (r : StaRec), (s.staRec k = some r) → (s.net.ready = false ∨ s.sessTakes
    r.sess = false) → exec (.rioReplyReceive k b u) s = .next (s)) ∧
  (∀ (s : State) (k : Nat) (b : List Byte) (u : Ns) (r : StaRec), (s.staRec k = some r) → (s.net.ready = true) → (s.sessTakes
    r.sess = true) → ((s.at u).sessRec r.sess = none) → exec (.rioReplyReceive k b u) s = .next ((s.at
    u).glazeFail.sessReject r.sess (s.at u).now false)) ∧
  (∀ (s : State) (k : Nat) (b : List Byte) (u : Ns) (r : StaRec) (x : SessRec) (a : State), (s.staRec k = some r) →
    (s.net.ready = true) → (s.sessTakes r.sess = true) → ((s.at u).sessRec r.sess = some x) → (a = (s.at u).glazeRx x b) →
    ((a.glazeSet x.glaze).any (fun g => decide (32 ≤ b.length) && glazeTailOk g b) = false) → exec (.rioReplyReceive k b
    u) s = .next (a.glazeFail.sessReject r.sess a.now false)) ∧
  (∀ (s : State) (k : Nat) (b : List Byte) (u : Ns) (r : StaRec) (x : SessRec) (a : State), (s.staRec k = some r) →
    (s.net.ready = true) → (s.sessTakes r.sess = true) → ((s.at u).sessRec r.sess = some x) → (a = (s.at u).glazeRx x b) →
    ((a.glazeSet x.glaze).any (fun g => decide (32 ≤ b.length) && glazeTailOk g b) = true) → ((beAt b 0 1 == 1 && beAt b 1
    1 == 0x81 && beAt b 2 2 + 32 == b.length && beAt b 10 1 == k) = false) → exec (.rioReplyReceive k b u) s = .next
    (a.sessReject r.sess a.now false)) ∧
  (∀ (s : State) (k : Nat) (b : List Byte) (u : Ns) (r : StaRec) (x : SessRec) (a : State) (q : State), (s.staRec k = some r)
    → (s.net.ready = true) → (s.sessTakes r.sess = true) → ((s.at u).sessRec r.sess = some x) → (a = (s.at u).glazeRx x b)
    → ((a.glazeSet x.glaze).any (fun g => decide (32 ≤ b.length) && glazeTailOk g b) = true) → ((beAt b 0 1 == 1 && beAt b
    1 1 == 0x81 && beAt b 2 2 + 32 == b.length && beAt b 10 1 == k) = true) → (a.charge r.sess = (q, false)) → exec
    (.rioReplyReceive k b u) s = .next (q)) ∧
  (∀ (s : State) (k : Nat) (b : List Byte) (u : Ns) (r : StaRec) (x : SessRec) (a : State) (q w : State) (z y : Sta) (late :
    Bool), (s.staRec k = some r) → (s.net.ready = true) → (s.sessTakes r.sess = true) → ((s.at u).sessRec r.sess = some x)
    → (a = (s.at u).glazeRx x b) → ((a.glazeSet x.glaze).any (fun g => decide (32 ≤ b.length) && glazeTailOk g b) = true)
    → ((beAt b 0 1 == 1 && beAt b 1 1 == 0x81 && beAt b 2 2 + 32 == b.length && beAt b 10 1 == k) = true) → (a.charge
    r.sess = (q, true)) → (z = q.sta k) → (late = (if z.due = true then decide (40000 ≤ u ∧ u < 50000) else z.missed)) →
    (y =
    { z with held := (q.now, b.take (b.length - 4)) :: z.held, due := false, missed := false, late := if late = true then sat16 z.late else z.late, missing := if z.missed = true ∧ z.due = false then z.missing - 1 else z.missing })
    → (w = (q.setSta k y).sessValid r.sess q.now) → exec (.rioReplyReceive k b u) s = .next (if late = true then
    w.raiseLimited (0x0C110003 * 256 + k) 1000000 0x0C110003#32 [byteOf k] else w)) ∧
  (∀ (s : State) (bad : BitVec 16), (bad &&& 0x3FFF#16 = 0) → exec (.glazeBackgroundTest bad) s = .next (s)) ∧
  (∀ (s : State) (bad : BitVec 16), (bad &&& 0x3FFF#16 ≠ 0) → exec (.glazeBackgroundTest bad) s = .next ((State.raise
    { s with glaze := { s.glaze with fail := s.glaze.fail ||| (bad &&& 0x3FFF#16) } } 0x0E440001#32 (be16 (bad &&&
    0x3FFF#16).toNat)).loomFault))

/-- While the Sherd flushes, a page that is due is programmed when fewer than 8 pages were programmed in this pick and an
area whose block in writing is full has its next block erased; a page that fails retires the ring's block in writing,
and one for which the NAND accepts no programs stops the Sherd. Otherwise no page is programmed. In a pick that leaves
time for background work and has begun no erase, the next block of the ring or of the archive is erased unless one is
erased already: it counts its erasure, its records are gone, and it is ready for the writer, with the wear warning
0x0F240004 at 48,000 erasures, given once; a failed erasure retires the block. Otherwise no erase begins. -/
def Obligations.RecorderFlash : Prop :=
  (∀ (s : State), (s.sherd.stopped = false) → (s.sherd.pfFlush = false) → (s.sherd.pagesNow < 8) → (s.sherd.pageDue s.otime =
    true) → (s.sherd.full false = false ∨ s.sherd.ringErased = true) → (s.sherd.full true = false ∨ s.sherd.archiveErased
    = true) → exec (.pageProgram 0) s = .next ({ s with sherd := s.sherd.program })) ∧
  (∀ (s : State), (s.sherd.stopped = false) → (s.sherd.pfFlush = false) → (s.sherd.pagesNow < 8) → (s.sherd.pageDue s.otime =
    true) → (s.sherd.full false = false ∨ s.sherd.ringErased = true) → (s.sherd.full true = false ∨ s.sherd.archiveErased
    = true) → exec (.pageProgram 1) s = .next (s.retire false (lastBlock s.sherd.ring).no)) ∧
  (∀ (s : State) (k : Nat), (2 ≤ k) → (s.sherd.stopped = false) → (s.sherd.pfFlush = false) → (s.sherd.pagesNow < 8) →
    (s.sherd.pageDue s.otime = true) → (s.sherd.full false = false ∨ s.sherd.ringErased = true) → (s.sherd.full true =
    false ∨ s.sherd.archiveErased = true) → exec (.pageProgram k) s = .next (s.sherdStop)) ∧
  (∀ (s : State) (k : Nat), (s.sherd.stopped = true ∨ s.sherd.pfFlush = true ∨ 8 ≤ s.sherd.pagesNow ∨ s.sherd.pageDue s.otime
    = false ∨ (s.sherd.full false = true ∧ s.sherd.ringErased = false) ∨ (s.sherd.full true = true ∧ s.sherd.archiveErased
    = false)) → exec (.pageProgram k) s = .next (s)) ∧
  (∀ (s : State) (q n : Nat), (s.sherd.stopped = false) → (s.sherd.ringErased = false) → (s.warp.spare = true) →
    (s.sherd.eraseNow = false) → (q = s.sherd.next false) → (n = (aget (eraseKey false q) s.sherd.erase).getD 0 + 1) → (n
    < 48000 ∨ s.sherd.wearWarned = true) → exec (.blockErase false false) s = .next
    ({ s with sherd := { s.sherd with ring := s.sherd.ring.filter (fun b => b.no != q), erase := aset (eraseKey false q) n s.sherd.erase, eraseNow := true, ringErased := true } })) ∧
  (∀ (s : State) (q n : Nat), (s.sherd.stopped = false) → (s.sherd.ringErased = false) → (s.warp.spare = true) →
    (s.sherd.eraseNow = false) → (q = s.sherd.next false) → (n = (aget (eraseKey false q) s.sherd.erase).getD 0 + 1) →
    (48000 ≤ n) → (s.sherd.wearWarned = false) → exec (.blockErase false false) s = .next (State.raise
    { s with sherd := { s.sherd with ring := s.sherd.ring.filter (fun b => b.no != q), erase := aset (eraseKey false q) n s.sherd.erase, eraseNow := true, ringErased := true, wearWarned := true } }
    0x0F240004#32)) ∧
  (∀ (s : State) (q n : Nat), (s.sherd.stopped = false) → (s.sherd.ringErased = false) → (s.warp.spare = true) →
    (s.sherd.eraseNow = false) → (q = s.sherd.next false) → (n = (aget (eraseKey false q) s.sherd.erase).getD 0 + 1) →
    exec (.blockErase false true) s = .next (State.retire
    { s with sherd := { s.sherd with ring := s.sherd.ring.filter (fun b => b.no != q), erase := aset (eraseKey false q) n s.sherd.erase, eraseNow := true } }
    false q)) ∧
  (∀ (s : State) (q n : Nat), (s.sherd.stopped = false) → (s.sherd.archiveErased = false) → (s.warp.spare = true) →
    (s.sherd.eraseNow = false) → (q = s.sherd.next true) → (n = (aget (eraseKey true q) s.sherd.erase).getD 0 + 1) → (n <
    48000 ∨ s.sherd.wearWarned = true) → exec (.blockErase true false) s = .next
    ({ s with sherd := { s.sherd with archive := s.sherd.archive.filter (fun b => b.no != q), erase := aset (eraseKey true q) n s.sherd.erase, eraseNow := true, archiveErased := true } })) ∧
  (∀ (s : State) (q n : Nat), (s.sherd.stopped = false) → (s.sherd.archiveErased = false) → (s.warp.spare = true) →
    (s.sherd.eraseNow = false) → (q = s.sherd.next true) → (n = (aget (eraseKey true q) s.sherd.erase).getD 0 + 1) →
    (48000 ≤ n) → (s.sherd.wearWarned = false) → exec (.blockErase true false) s = .next (State.raise
    { s with sherd := { s.sherd with archive := s.sherd.archive.filter (fun b => b.no != q), erase := aset (eraseKey true q) n s.sherd.erase, eraseNow := true, archiveErased := true, wearWarned := true } }
    0x0F240004#32)) ∧
  (∀ (s : State) (q n : Nat), (s.sherd.stopped = false) → (s.sherd.archiveErased = false) → (s.warp.spare = true) →
    (s.sherd.eraseNow = false) → (q = s.sherd.next true) → (n = (aget (eraseKey true q) s.sherd.erase).getD 0 + 1) → exec
    (.blockErase true true) s = .next (State.retire
    { s with sherd := { s.sherd with archive := s.sherd.archive.filter (fun b => b.no != q), erase := aset (eraseKey true q) n s.sherd.erase, eraseNow := true } }
    true q)) ∧
  (∀ (s : State) (arch fail : Bool), (s.sherd.stopped = true ∨ s.sherd.erasedNext arch = true ∨ s.warp.spare = false ∨
    s.sherd.eraseNow = true) → exec (.blockErase arch fail) s = .next (s))

/-- From STANDBY on a character on the monitor's line is received, and before it nothing happens. A command acts on a
waiting line whose first word is its name, and on any other changes nothing. HELP, ID, ST and TIME without arguments
answer with their texts; with arguments, 0x1004. EV answers with the newest events, 8 or a count of 1 to 32, REC with
the recorder's state, LOG with on or off sets the log; each of these needs SVC_EN, 0x3004 otherwise, and gives 0x1004
first for another argument. RD gives 0x1004 for arguments it does not take, 0x1005 for a span it may not read and 0x3004
without SVC_EN, and otherwise reads the words. WR gives 0x1004 for arguments it does not take, then 0x1005 for a word
that is not writable, 0x3004 without SVC_EN, 0x2001 outside SERVICE, 0x5002 without a ledger entry, and otherwise writes
the word; where the word lies in a partition of another owner the answer is followed by that partition's integrity
event. A line without words, or whose first word names no command, gives 0x1002. -/
def Obligations.MonitorLines : Prop :=
  (∀ (s : State) (c : Byte), (s.monRuns = true) → exec (.monCharacterReceive c) s = .next ({ s with mon := s.mon.receive c })) ∧
  (∀ (s : State) (c : Byte), (s.monRuns = false) → exec (.monCharacterReceive c) s = .next (s)) ∧
  (∀ (s : State) (line : List Byte) (args : List (List Byte)), (s.mon.cur = some line) → (lineWords line = kwHelp :: args) →
    exec .monHelp s = .next (if args = [] then s.monAnswer line 0 ((monKeywords.map (fun k => k ++ crlf)).flatten) else
    s.monAnswer line 0x1004 [])) ∧
  (∀ (s : State) (line : List Byte) (args : List (List Byte)), (s.mon.cur = some line) → (lineWords line = kwId :: args) →
    exec .monId s = .next (if args = [] then s.monAnswer line 0 s.monIdText else s.monAnswer line 0x1004 [])) ∧
  (∀ (s : State) (line : List Byte) (args : List (List Byte)), (s.mon.cur = some line) → (lineWords line = kwSt :: args) →
    exec .monSt s = .next (if args = [] then s.monAnswer line 0 s.monStText else s.monAnswer line 0x1004 [])) ∧
  (∀ (s : State) (line : List Byte) (args : List (List Byte)), (s.mon.cur = some line) → (lineWords line = kwTime :: args) →
    exec .monTime s = .next (if args = [] then s.monAnswer line 0 s.monTimeText else s.monAnswer line 0x1004 [])) ∧
  (∀ (s : State) (line : List Byte) (args : List (List Byte)) (n : Nat), (s.mon.cur = some line) → (lineWords line = kwEv ::
    args) → (monCount 32 8 args = some n) → exec .monEv s = .next (if s.sys.svcEn = true then s.monAnswer line 0
    ((s.events.drop (s.events.length - n)).map evText).flatten else s.monAnswer line 0x3004 [])) ∧
  (∀ (s : State) (line : List Byte) (args : List (List Byte)), (s.mon.cur = some line) → (lineWords line = kwEv :: args) →
    (monCount 32 8 args = none) → exec .monEv s = .next (s.monAnswer line 0x1004 [])) ∧
  (∀ (s : State) (line : List Byte) (args : List (List Byte)), (s.mon.cur = some line) → (lineWords line = kwRec :: args) →
    exec .monRec s = .next (if args ≠ [] then s.monAnswer line 0x1004 [] else if s.sys.svcEn = true then s.monAnswer line
    0 s.monRecText else s.monAnswer line 0x3004 [])) ∧
  (∀ (s : State) (line w : List Byte) (rest : List (List Byte)) (a n : Nat), (s.mon.cur = some line) → (lineWords line = kwRd
    :: w :: rest) → (readNumber w = some a) → (monCount 64 1 rest = some n) → exec .monRd s = .next (if s.monReadable a n
    = false then s.monAnswer line 0x1005 [] else if s.sys.svcEn = false then s.monAnswer line 0x3004 [] else (s.readWords
    n a).1.monAnswer line 0 (wordLines n (s.readWords n a).2))) ∧
  (∀ (s : State) (line w : List Byte) (rest : List (List Byte)), (s.mon.cur = some line) → (lineWords line = kwRd :: w ::
    rest) → (readNumber w = none ∨ monCount 64 1 rest = none) → exec .monRd s = .next (s.monAnswer line 0x1004 [])) ∧
  (∀ (s : State) (line : List Byte), (s.mon.cur = some line) → (lineWords line = [kwRd]) → exec .monRd s = .next (s.monAnswer
    line 0x1004 [])) ∧
  (∀ (s : State) (m : Bool) (line w x : List Byte) (a v : Nat) (r : State), (s.mon.cur = some line) → (lineWords line =
    [kwWr, w, x]) → (readNumber w = some a) → (readNumber x = some v) → (r = (if writable a 4 = false then s.monAnswer
    line 0x1005 [] else if s.sys.svcEn = false then s.monAnswer line 0x3004 [] else if s.sys.st ≠ .service then
    s.monAnswer line 0x2001 [] else if m = false then s.monAnswer line 0x5002 [] else (s.monWrites a v).monAnswer line 0
    [])) → exec (.monWr m) s = .next (if ownedSpan a 4 = true then r.blockedWrite else r)) ∧
  (∀ (s : State) (m : Bool) (line : List Byte) (args : List (List Byte)), (s.mon.cur = some line) → (lineWords line = kwWr ::
    args) → ((∀ w x, args = [w, x] → readNumber w = none ∨ readNumber x = none)) → exec (.monWr m) s = .next (s.monAnswer
    line 0x1004 [])) ∧
  (∀ (s : State) (line : List Byte) (args : List (List Byte)), (s.mon.cur = some line) → (lineWords line = kwLog :: args) →
    exec .monLog s = .next (if args ≠ [kwOn] ∧ args ≠ [kwOff] then s.monAnswer line 0x1004 [] else if s.sys.svcEn = false
    then s.monAnswer line 0x3004 [] else State.monAnswer { s with mon := { s.mon with log := decide (args = [kwOn]) } }
    line 0 [])) ∧
  (∀ (s : State) (line : List Byte), (s.mon.cur = some line) → exec .monUnknownCommand s = .next (if (lineWords
    line).head?.any (fun w => monKeywords.contains w) = true then s else s.monAnswer line 0x1002 [])) ∧
  (∀ (s : State), (s.mon.cur = none) → exec .monUnknownCommand s = .next (s)) ∧
  (∀ (s : State), ((∀ line, s.mon.cur = some line → (lineWords line).head? ≠ some kwHelp)) → exec .monHelp s = .next (s)) ∧
  (∀ (s : State), ((∀ line, s.mon.cur = some line → (lineWords line).head? ≠ some kwId)) → exec .monId s = .next (s)) ∧
  (∀ (s : State), ((∀ line, s.mon.cur = some line → (lineWords line).head? ≠ some kwSt)) → exec .monSt s = .next (s)) ∧
  (∀ (s : State), ((∀ line, s.mon.cur = some line → (lineWords line).head? ≠ some kwTime)) → exec .monTime s = .next (s)) ∧
  (∀ (s : State), ((∀ line, s.mon.cur = some line → (lineWords line).head? ≠ some kwEv)) → exec .monEv s = .next (s)) ∧
  (∀ (s : State), ((∀ line, s.mon.cur = some line → (lineWords line).head? ≠ some kwRec)) → exec .monRec s = .next (s)) ∧
  (∀ (s : State), ((∀ line, s.mon.cur = some line → (lineWords line).head? ≠ some kwRd)) → exec .monRd s = .next (s)) ∧
  (∀ (s : State), ((∀ line, s.mon.cur = some line → (lineWords line).head? ≠ some kwLog)) → exec .monLog s = .next (s)) ∧
  (∀ (s : State) (m : Bool), ((∀ line, s.mon.cur = some line → (lineWords line).head? ≠ some kwWr)) → exec (.monWr m) s =
    .next (s))

/-- When the running task's next instruction is one of these, its operands are on the stack and the stack has room: NOP
changes nothing but the task's next word; LD pushes its operand, DUP, DROP and SWAP rearrange the stack; LDX pushes the
element that the index gives; ST and STX store the value in the task's view, leave a store that overlaps a forced item
out and count it, and give 0 for a value that is not finite in the output area, set FPOUT and raise 0x12120006 at most
once a minute. Nothing else of the module changes. -/
def Obligations.TwillStack : Prop :=
  (∀ (s : State) (t : Nat) (k : Task) (i : TwIns) (rest : List U64), (s.runs 0x00 t k i) → (k.stack = rest) → (rest.length ≤
    64) → exec .twNop s = .next (s.stepped t { k with pc := i.next, stack := rest })) ∧
  (∀ (s : State) (t : Nat) (k : Task) (i : TwIns) (v : U64), (s.runs 0x01 t k i) → (k.stack.length ≤ 63) → (twOperand s t i
    { k with pc := i.next } = some v) → exec .twLd s = .next (s.stepped t { k with pc := i.next, stack := v :: k.stack })) ∧
  (∀ (s : State) (t : Nat) (k : Task) (i : TwIns), (s.runs 0x01 t k i) → (k.stack.length ≤ 63) → (i.mode = 1) → (tyInt i.ty =
    true) → exec .twLd s = .next (s.stepped t { k with pc := i.next, stack := twWrap i.ty (immInt i.imm) :: k.stack })) ∧
  (∀ (s : State) (t : Nat) (k : Task) (i : TwIns) (x : U64) (rest : List U64), (s.runs 0x03 t k i) → (k.stack = x :: rest) →
    (rest.length ≤ 62) → exec .twDup s = .next (s.stepped t { k with pc := i.next, stack := x :: x :: rest })) ∧
  (∀ (s : State) (t : Nat) (k : Task) (i : TwIns) (x : U64) (rest : List U64), (s.runs 0x04 t k i) → (k.stack = x :: rest) →
    (rest.length ≤ 64) → exec .twDrop s = .next (s.stepped t { k with pc := i.next, stack := rest })) ∧
  (∀ (s : State) (t : Nat) (k : Task) (i : TwIns) (x y : U64) (rest : List U64), (s.runs 0x05 t k i) → (k.stack = y :: x ::
    rest) → (rest.length ≤ 62) → exec .twSwap s = .next (s.stepped t { k with pc := i.next, stack := x :: y :: rest })) ∧
  (∀ (s : State) (t : Nat) (k : Task) (i : TwIns) (x : U64) (rest : List U64) (a b : Nat), (s.runs 0x06 t k i) → (k.stack = x
    :: rest) → (rest.length ≤ 63) → (0 ≤ twInt 3 x) → (twInt 3 x < i.ext2) → (twAddr k i.mode (i.ext1 + (twInt 3 x).toNat
    * tyBits i.ty) = some (a, b)) → (twAligned a b (tyBits i.ty) = true) → exec .twLdx s = .next (s.stepped t
    { k with pc := i.next, stack := k.view.read a b (tyBits i.ty) :: rest })) ∧
  (∀ (s : State) (t : Nat) (k : Task) (i : TwIns) (x : U64) (rest : List U64) (a b : Nat), (s.runs 0x02 t k i) → (k.stack = x
    :: rest) → (twAddr k i.mode i.ext1 = some (a, b)) → (twAligned a b (tyBits i.ty) = true) → ((k.forces.any (fun f =>
    (forceAt s.shuttle.prog f).any (fun p => overlaps a b (tyBits i.ty) p.1 p.2.1 p.2.2))) = false) → (a ≠ 6 ∨ tyFloat
    i.ty = false ∨ ffinite (twF i.ty x) = true) → exec .twSt s = .next (s.stepped t
    { k with pc := i.next, stack := rest, view := k.view.write a b (tyBits i.ty) x, dirty := k.dirty ++ [(a, b, tyBits i.ty)] })) ∧
  (∀ (s : State) (t : Nat) (k : Task) (i : TwIns) (x : U64) (rest : List U64) (a b : Nat), (s.runs 0x02 t k i) → (k.stack = x
    :: rest) → (twAddr k i.mode i.ext1 = some (a, b)) → (twAligned a b (tyBits i.ty) = true) → ((k.forces.any (fun f =>
    (forceAt s.shuttle.prog f).any (fun p => overlaps a b (tyBits i.ty) p.1 p.2.1 p.2.2))) = true) → exec .twSt s = .next
    (s.stepped t { k with pc := i.next, stack := rest } 1)) ∧
  (∀ (s : State) (t : Nat) (k : Task) (i : TwIns) (x : U64) (rest : List U64) (a b : Nat), (s.runs 0x02 t k i) → (k.stack = x
    :: rest) → (twAddr k i.mode i.ext1 = some (a, b)) → (twAligned a b (tyBits i.ty) = true) → ((k.forces.any (fun f =>
    (forceAt s.shuttle.prog f).any (fun p => overlaps a b (tyBits i.ty) p.1 p.2.1 p.2.2))) = false) → (a = 6) → (tyFloat
    i.ty = true) → (ffinite (twF i.ty x) = false) → exec .twSt s = .next ((s.stepped t
    { k with pc := i.next, stack := rest, view := k.view.write a b (tyBits i.ty) 0, dirty := k.dirty ++ [(a, b, tyBits i.ty)], fpout := true }).raiseLimited
    (0x12120006 * 16 + t) 60000000 0x12120006#32 [byteOf t])) ∧
  (∀ (s : State) (t : Nat) (k : Task) (i : TwIns) (x y : U64) (rest : List U64) (a b : Nat), (s.runs 0x07 t k i) → (k.stack =
    y :: x :: rest) → (0 ≤ twInt 3 y) → (twInt 3 y < i.ext2) → (twAddr k i.mode (i.ext1 + (twInt 3 y).toNat * tyBits i.ty)
    = some (a, b)) → (twAligned a b (tyBits i.ty) = true) → ((k.forces.any (fun f => (forceAt s.shuttle.prog f).any (fun p
    => overlaps a b (tyBits i.ty) p.1 p.2.1 p.2.2))) = false) → (a ≠ 6 ∨ tyFloat i.ty = false ∨ ffinite (twF i.ty x) =
    true) → exec .twStx s = .next (s.stepped t
    { k with pc := i.next, stack := rest, view := k.view.write a b (tyBits i.ty) x, dirty := k.dirty ++ [(a, b, tyBits i.ty)] })) ∧
  (∀ (s : State) (t : Nat) (k : Task) (i : TwIns) (x y : U64) (rest : List U64) (a b : Nat), (s.runs 0x07 t k i) → (k.stack =
    y :: x :: rest) → (0 ≤ twInt 3 y) → (twInt 3 y < i.ext2) → (twAddr k i.mode (i.ext1 + (twInt 3 y).toNat * tyBits i.ty)
    = some (a, b)) → (twAligned a b (tyBits i.ty) = true) → ((k.forces.any (fun f => (forceAt s.shuttle.prog f).any (fun p
    => overlaps a b (tyBits i.ty) p.1 p.2.1 p.2.2))) = true) → exec .twStx s = .next (s.stepped t
    { k with pc := i.next, stack := rest } 1)) ∧
  (∀ (s : State) (t : Nat) (k : Task) (i : TwIns) (x y : U64) (rest : List U64) (a b : Nat), (s.runs 0x07 t k i) → (k.stack =
    y :: x :: rest) → (0 ≤ twInt 3 y) → (twInt 3 y < i.ext2) → (twAddr k i.mode (i.ext1 + (twInt 3 y).toNat * tyBits i.ty)
    = some (a, b)) → (twAligned a b (tyBits i.ty) = true) → ((k.forces.any (fun f => (forceAt s.shuttle.prog f).any (fun p
    => overlaps a b (tyBits i.ty) p.1 p.2.1 p.2.2))) = false) → (a = 6) → (tyFloat i.ty = true) → (ffinite (twF i.ty x) =
    false) → exec .twStx s = .next ((s.stepped t
    { k with pc := i.next, stack := rest, view := k.view.write a b (tyBits i.ty) 0, dirty := k.dirty ++ [(a, b, tyBits i.ty)], fpout := true }).raiseLimited
    (0x12120006 * 16 + t) 60000000 0x12120006#32 [byteOf t]))

/-- When the running task's next instruction is one of these and its operands are on the stack, which has room for the
result, they are replaced by it: integers wrap into their type, division truncates towards zero, a division of an
integer by zero gives 0 and sets DIVZ, with event 0x12120006 at most once a minute, REAL and LREAL follow their formats;
nothing else of the module changes. The absolute value of the least integer and the minimum with a NaN are free values
(log entry 18). -/
def Obligations.TwillArithmetic : Prop :=
  (∀ (s : State) (t : Nat) (k : Task) (i : TwIns) (x y : U64) (rest : List U64), (s.runs 0x10 t k i) → (k.stack = y :: x ::
    rest) → (rest.length ≤ 63) → exec .twAdd s = .next (s.stepped t
    { k with pc := i.next, stack := (if i.ty = 13 then (f32Add (x.setWidth 32) (y.setWidth 32)).setWidth 64 else if i.ty = 14 then fadd x y else twWrap i.ty ((twInt i.ty x) + (twInt i.ty y))) :: rest })) ∧
  (∀ (s : State) (t : Nat) (k : Task) (i : TwIns) (x y : U64) (rest : List U64), (s.runs 0x11 t k i) → (k.stack = y :: x ::
    rest) → (rest.length ≤ 63) → exec .twSub s = .next (s.stepped t
    { k with pc := i.next, stack := (if i.ty = 13 then (f32Sub (x.setWidth 32) (y.setWidth 32)).setWidth 64 else if i.ty = 14 then fsub x y else twWrap i.ty ((twInt i.ty x) - (twInt i.ty y))) :: rest })) ∧
  (∀ (s : State) (t : Nat) (k : Task) (i : TwIns) (x y : U64) (rest : List U64), (s.runs 0x12 t k i) → (k.stack = y :: x ::
    rest) → (rest.length ≤ 63) → exec .twMul s = .next (s.stepped t
    { k with pc := i.next, stack := (if i.ty = 13 then (f32Mul (x.setWidth 32) (y.setWidth 32)).setWidth 64 else if i.ty = 14 then fmul x y else twWrap i.ty ((twInt i.ty x) * (twInt i.ty y))) :: rest })) ∧
  (∀ (s : State) (t : Nat) (k : Task) (i : TwIns) (x y : U64) (rest : List U64), (s.runs 0x13 t k i) → (k.stack = y :: x ::
    rest) → (rest.length ≤ 63) → (tyFloat i.ty = false) → (twInt i.ty y ≠ 0) → exec .twDiv s = .next (s.stepped t
    { k with pc := i.next, stack := (twWrap i.ty (Int.tdiv (twInt i.ty x) (twInt i.ty y))) :: rest })) ∧
  (∀ (s : State) (t : Nat) (k : Task) (i : TwIns) (x y : U64) (rest : List U64), (s.runs 0x13 t k i) → (k.stack = y :: x ::
    rest) → (rest.length ≤ 63) → (tyFloat i.ty = true) → exec .twDiv s = .next (s.stepped t
    { k with pc := i.next, stack := (if i.ty = 13 then (f32Div (x.setWidth 32) (y.setWidth 32)).setWidth 64 else fdiv x y) :: rest })) ∧
  (∀ (s : State) (t : Nat) (k : Task) (i : TwIns) (x y : U64) (rest : List U64), (s.runs 0x14 t k i) → (k.stack = y :: x ::
    rest) → (rest.length ≤ 63) → (twInt i.ty y ≠ 0) → exec .twMod s = .next (s.stepped t
    { k with pc := i.next, stack := (twWrap i.ty (Int.tmod (twInt i.ty x) (twInt i.ty y))) :: rest })) ∧
  (∀ (s : State) (t : Nat) (k : Task) (i : TwIns) (x y : U64) (rest : List U64), (s.runs 0x13 t k i) → (k.stack = y :: x ::
    rest) → (rest.length ≤ 63) → (tyFloat i.ty = false) → (twInt i.ty y = 0) → exec .twDiv s = .next ((s.stepped t
    { k with pc := i.next, stack := 0 :: rest, divz := true }).raiseLimited (0x12120006 * 16 + t) 60000000 0x12120006#32
    [byteOf t])) ∧
  (∀ (s : State) (t : Nat) (k : Task) (i : TwIns) (x y : U64) (rest : List U64), (s.runs 0x14 t k i) → (k.stack = y :: x ::
    rest) → (rest.length ≤ 63) → (tyFloat i.ty = false) → (twInt i.ty y = 0) → exec .twMod s = .next ((s.stepped t
    { k with pc := i.next, stack := 0 :: rest, divz := true }).raiseLimited (0x12120006 * 16 + t) 60000000 0x12120006#32
    [byteOf t])) ∧
  (∀ (s : State) (t : Nat) (k : Task) (i : TwIns) (x : U64) (rest : List U64), (s.runs 0x15 t k i) → (k.stack = x :: rest) →
    (rest.length ≤ 63) → exec .twNeg s = .next (s.stepped t
    { k with pc := i.next, stack := (if i.ty = 13 then (f32Neg (x.setWidth 32)).setWidth 64 else if i.ty = 14 then fneg x else twWrap i.ty (-(twInt i.ty x))) :: rest })) ∧
  (∀ (s : State) (t : Nat) (k : Task) (i : TwIns) (x : U64) (rest : List U64), (s.runs 0x16 t k i) → (k.stack = x :: rest) →
    (rest.length ≤ 63) → exec .twAbs s = .next (s.stepped t
    { k with pc := i.next, stack := (if i.ty = 13 then (f32Abs (x.setWidth 32)).setWidth 64 else if i.ty = 14 then fabs x else if tySigned i.ty && decide (twInt i.ty x = twMin i.ty) then Config.twAbsMin i.ty else twWrap i.ty (((twInt i.ty x).natAbs : Nat) : Int)) :: rest })) ∧
  (∀ (s : State) (t : Nat) (k : Task) (i : TwIns) (x y : U64) (rest : List U64), (s.runs 0x17 t k i) → (k.stack = y :: x ::
    rest) → (rest.length ≤ 63) → exec .twMin s = .next (s.stepped t
    { k with pc := i.next, stack := (twMinMax false i.ty x y) :: rest })) ∧
  (∀ (s : State) (t : Nat) (k : Task) (i : TwIns) (x y : U64) (rest : List U64), (s.runs 0x18 t k i) → (k.stack = y :: x ::
    rest) → (rest.length ≤ 63) → exec .twMax s = .next (s.stepped t
    { k with pc := i.next, stack := (twMinMax true i.ty x y) :: rest })) ∧
  (∀ (s : State) (t : Nat) (k : Task) (i : TwIns) (x y z : U64) (rest : List U64), (s.runs 0x19 t k i) → (k.stack = z :: y ::
    x :: rest) → (rest.length ≤ 63) → exec .twLimit s = .next (s.stepped t
    { k with pc := i.next, stack := (twMinMax false i.ty (twMinMax true i.ty y x) z) :: rest })) ∧
  (∀ (s : State) (t : Nat) (k : Task) (i : TwIns) (x : U64) (rest : List U64), (s.runs 0x1A t k i) → (k.stack = x :: rest) →
    (rest.length ≤ 63) → exec .twSqrt s = .next (s.stepped t
    { k with pc := i.next, stack := (if i.ty = 13 then (f32Sqrt (x.setWidth 32)).setWidth 64 else fsqrt x) :: rest })) ∧
  (∀ (s : State) (t : Nat) (k : Task) (i : TwIns) (x : U64) (rest : List U64), (s.runs 0x1B t k i) → (k.stack = x :: rest) →
    (rest.length ≤ 63) → exec .twSin s = .next (s.stepped t
    { k with pc := i.next, stack := (twOfF i.ty (Config.fsin (twF i.ty x))) :: rest })) ∧
  (∀ (s : State) (t : Nat) (k : Task) (i : TwIns) (x : U64) (rest : List U64), (s.runs 0x1C t k i) → (k.stack = x :: rest) →
    (rest.length ≤ 63) → exec .twCos s = .next (s.stepped t
    { k with pc := i.next, stack := (twOfF i.ty (Config.fcos (twF i.ty x))) :: rest })) ∧
  (∀ (s : State) (t : Nat) (k : Task) (i : TwIns) (x : U64) (rest : List U64), (s.runs 0x1E t k i) → (k.stack = x :: rest) →
    (rest.length ≤ 63) → exec .twExp s = .next (s.stepped t
    { k with pc := i.next, stack := (twOfF i.ty (Config.fexp (twF i.ty x))) :: rest })) ∧
  (∀ (s : State) (t : Nat) (k : Task) (i : TwIns) (x : U64) (rest : List U64), (s.runs 0x1F t k i) → (k.stack = x :: rest) →
    (rest.length ≤ 63) → exec .twLn s = .next (s.stepped t
    { k with pc := i.next, stack := (twOfF i.ty (Config.fln (twF i.ty x))) :: rest })) ∧
  (∀ (s : State) (t : Nat) (k : Task) (i : TwIns) (x y : U64) (rest : List U64), (s.runs 0x1D t k i) → (k.stack = y :: x ::
    rest) → (rest.length ≤ 63) → exec .twAtan2 s = .next (s.stepped t
    { k with pc := i.next, stack := (twOfF i.ty (Config.fatan2 (twF i.ty x) (twF i.ty y))) :: rest }))

/-- When the running task's next instruction is one of these and its operands are on the stack, which has room for the
result, they are replaced by it, shift counts taken modulo the width; nothing else of the module changes. -/
def Obligations.TwillLogic : Prop :=
  (∀ (s : State) (t : Nat) (k : Task) (i : TwIns) (x y : U64) (rest : List U64), (s.runs 0x20 t k i) → (k.stack = y :: x ::
    rest) → (rest.length ≤ 63) → exec .twAnd s = .next (s.stepped t { k with pc := i.next, stack := (x &&& y) :: rest })) ∧
  (∀ (s : State) (t : Nat) (k : Task) (i : TwIns) (x y : U64) (rest : List U64), (s.runs 0x21 t k i) → (k.stack = y :: x ::
    rest) → (rest.length ≤ 63) → exec .twOr s = .next (s.stepped t { k with pc := i.next, stack := (x ||| y) :: rest })) ∧
  (∀ (s : State) (t : Nat) (k : Task) (i : TwIns) (x y : U64) (rest : List U64), (s.runs 0x22 t k i) → (k.stack = y :: x ::
    rest) → (rest.length ≤ 63) → exec .twXor s = .next (s.stepped t { k with pc := i.next, stack := (x ^^^ y) :: rest })) ∧
  (∀ (s : State) (t : Nat) (k : Task) (i : TwIns) (x : U64) (rest : List U64), (s.runs 0x23 t k i) → (k.stack = x :: rest) →
    (rest.length ≤ 63) → exec .twNot s = .next (s.stepped t
    { k with pc := i.next, stack := (twWrap i.ty ((~~~x).toNat : Int)) :: rest })) ∧
  (∀ (s : State) (t : Nat) (k : Task) (i : TwIns) (x y : U64) (rest : List U64), (s.runs 0x24 t k i) → (k.stack = y :: x ::
    rest) → (rest.length ≤ 63) → exec .twShl s = .next (s.stepped t
    { k with pc := i.next, stack := (BitVec.ofNat 64 ((x.toNat % 2 ^ tyBits i.ty) * 2 ^ (y.toNat % 65536 % tyBits i.ty) % 2 ^ tyBits i.ty)) :: rest })) ∧
  (∀ (s : State) (t : Nat) (k : Task) (i : TwIns) (x y : U64) (rest : List U64), (s.runs 0x25 t k i) → (k.stack = y :: x ::
    rest) → (rest.length ≤ 63) → exec .twShr s = .next (s.stepped t
    { k with pc := i.next, stack := (BitVec.ofNat 64 ((x.toNat % 2 ^ tyBits i.ty) / 2 ^ (y.toNat % 65536 % tyBits i.ty) % 2 ^ tyBits i.ty)) :: rest })) ∧
  (∀ (s : State) (t : Nat) (k : Task) (i : TwIns) (x y : U64) (rest : List U64), (s.runs 0x26 t k i) → (k.stack = y :: x ::
    rest) → (rest.length ≤ 63) → exec .twRol s = .next (s.stepped t
    { k with pc := i.next, stack := (BitVec.ofNat 64 (((x.toNat % 2 ^ tyBits i.ty) * 2 ^ (y.toNat % 65536 % tyBits i.ty) + (x.toNat % 2 ^ tyBits i.ty) / 2 ^ (tyBits i.ty - (y.toNat % 65536 % tyBits i.ty))) % 2 ^ tyBits i.ty)) :: rest })) ∧
  (∀ (s : State) (t : Nat) (k : Task) (i : TwIns) (x y : U64) (rest : List U64), (s.runs 0x27 t k i) → (k.stack = y :: x ::
    rest) → (rest.length ≤ 63) → exec .twRor s = .next (s.stepped t
    { k with pc := i.next, stack := (BitVec.ofNat 64 (((x.toNat % 2 ^ tyBits i.ty) / 2 ^ (y.toNat % 65536 % tyBits i.ty) + (x.toNat % 2 ^ tyBits i.ty) % 2 ^ (y.toNat % 65536 % tyBits i.ty) * 2 ^ (tyBits i.ty - (y.toNat % 65536 % tyBits i.ty))) % 2 ^ tyBits i.ty)) :: rest }))

/-- When the running task's next instruction is one of these and its operands are on the stack, which has room for the
result, they are replaced by it: a comparison compares as its type does; SEL gives its third operand when the first is
TRUE and its second otherwise; CVT converts, and where the conversion saturated it sets RANGE with event 0x12120006 at
most once a minute. Nothing else of the module changes. -/
def Obligations.TwillCompare : Prop :=
  (∀ (s : State) (t : Nat) (k : Task) (i : TwIns) (x y : U64) (rest : List U64), (s.runs 0x30 t k i) → (k.stack = y :: x ::
    rest) → (rest.length ≤ 63) → exec .twEq s = .next (s.stepped t
    { k with pc := i.next, stack := (twBool (if tyFloat i.ty then feq (twF i.ty x) (twF i.ty y) else (twInt i.ty x) == (twInt i.ty y))) :: rest })) ∧
  (∀ (s : State) (t : Nat) (k : Task) (i : TwIns) (x y : U64) (rest : List U64), (s.runs 0x31 t k i) → (k.stack = y :: x ::
    rest) → (rest.length ≤ 63) → exec .twNe s = .next (s.stepped t
    { k with pc := i.next, stack := (twBool (!(if tyFloat i.ty then feq (twF i.ty x) (twF i.ty y) else (twInt i.ty x) == (twInt i.ty y)))) :: rest })) ∧
  (∀ (s : State) (t : Nat) (k : Task) (i : TwIns) (x y : U64) (rest : List U64), (s.runs 0x32 t k i) → (k.stack = y :: x ::
    rest) → (rest.length ≤ 63) → exec .twLt s = .next (s.stepped t
    { k with pc := i.next, stack := (twBool (if tyFloat i.ty then flt (twF i.ty x) (twF i.ty y) else decide ((twInt i.ty x) < (twInt i.ty y)))) :: rest })) ∧
  (∀ (s : State) (t : Nat) (k : Task) (i : TwIns) (x y : U64) (rest : List U64), (s.runs 0x33 t k i) → (k.stack = y :: x ::
    rest) → (rest.length ≤ 63) → exec .twLe s = .next (s.stepped t
    { k with pc := i.next, stack := (twBool (twLess i.ty x y || twEqual i.ty x y)) :: rest })) ∧
  (∀ (s : State) (t : Nat) (k : Task) (i : TwIns) (x y : U64) (rest : List U64), (s.runs 0x34 t k i) → (k.stack = y :: x ::
    rest) → (rest.length ≤ 63) → exec .twGt s = .next (s.stepped t
    { k with pc := i.next, stack := (twBool (if tyFloat i.ty then flt (twF i.ty y) (twF i.ty x) else decide ((twInt i.ty y) < (twInt i.ty x)))) :: rest })) ∧
  (∀ (s : State) (t : Nat) (k : Task) (i : TwIns) (x y : U64) (rest : List U64), (s.runs 0x35 t k i) → (k.stack = y :: x ::
    rest) → (rest.length ≤ 63) → exec .twGe s = .next (s.stepped t
    { k with pc := i.next, stack := (twBool (twLess i.ty y x || twEqual i.ty x y)) :: rest })) ∧
  (∀ (s : State) (t : Nat) (k : Task) (i : TwIns) (x y z : U64) (rest : List U64), (s.runs 0x36 t k i) → (k.stack = z :: y ::
    x :: rest) → (rest.length ≤ 63) → exec .twSel s = .next (s.stepped t
    { k with pc := i.next, stack := (if x.getLsbD 0 then z else y) :: rest })) ∧
  (∀ (s : State) (t : Nat) (k : Task) (i : TwIns) (x : U64) (rest : List U64), (s.runs 0x38 t k i) → (k.stack = x :: rest) →
    (rest.length ≤ 63) → ((twCvt (i.imm % 16) i.ty x).2 = false) → exec .twCvt s = .next (s.stepped t
    { k with pc := i.next, stack := ((twCvt (i.imm % 16) i.ty x).1) :: rest })) ∧
  (∀ (s : State) (t : Nat) (k : Task) (i : TwIns) (x : U64) (rest : List U64), (s.runs 0x38 t k i) → (k.stack = x :: rest) →
    (rest.length ≤ 63) → ((twCvt (i.imm % 16) i.ty x).2 = true) → exec .twCvt s = .next ((s.stepped t
    { k with pc := i.next, stack := (twCvt (i.imm % 16) i.ty x).1 :: rest, range := true }).raiseLimited (0x12120006 * 16
    + t) 60000000 0x12120006#32 [byteOf t]))

/-- When the running task's next instruction is one of these: a jump goes to the word its offset gives, counted from the
next instruction, a conditional one when the popped value is TRUE (JMPC) or FALSE (JMPCN); CALL keeps the return address
and makes its instance current, and aborts the task with cause 4 at 16 deep; RET goes back, or aborts with cause 4 with
nothing to go back to; END commits the task, and the beat task releases its bank, and inside a call it aborts the task
with cause 7; EVT goes on, and when the popped value is TRUE raises its event unless its number was raised within 100
ms, which is counted instead. -/
def Obligations.TwillFlow : Prop :=
  (∀ (s : State) (t : Nat) (k : Task) (i : TwIns), (s.runs 0x40 t k i) → exec .twJmp s = .next (s.stepped t
    { k with pc := ((i.next : Int) + (if i.mode = 1 then immInt i.imm else twInt 3 (BitVec.ofNat 64 i.ext1))).toNat })) ∧
  (∀ (s : State) (t : Nat) (k : Task) (i : TwIns) (x : U64) (rest : List U64), (s.runs 0x41 t k i) → (k.stack = x :: rest) →
    (x.getLsbD 0 = true) → exec .twJmpc s = .next (s.stepped t { k with pc := twTarget i, stack := rest })) ∧
  (∀ (s : State) (t : Nat) (k : Task) (i : TwIns) (x : U64) (rest : List U64), (s.runs 0x41 t k i) → (k.stack = x :: rest) →
    (x.getLsbD 0 = false) → exec .twJmpc s = .next (s.stepped t { k with pc := i.next, stack := rest })) ∧
  (∀ (s : State) (t : Nat) (k : Task) (i : TwIns) (x : U64) (rest : List U64), (s.runs 0x42 t k i) → (k.stack = x :: rest) →
    (x.getLsbD 0 = false) → exec .twJmpcn s = .next (s.stepped t { k with pc := twTarget i, stack := rest })) ∧
  (∀ (s : State) (t : Nat) (k : Task) (i : TwIns) (x : U64) (rest : List U64), (s.runs 0x42 t k i) → (k.stack = x :: rest) →
    (x.getLsbD 0 = true) → exec .twJmpcn s = .next (s.stepped t { k with pc := i.next, stack := rest })) ∧
  (∀ (s : State) (t : Nat) (k : Task) (i : TwIns) (p : Nat × Nat), (s.runs 0x43 t k i) → (k.calls.length < 16) → (twAddr k
    (i.imm % 16) i.ext2 = some p) → exec .twCall s = .next (s.stepped t
    { k with pc := i.ext1, calls := (i.next, k.inst) :: k.calls, inst := some p })) ∧
  (∀ (s : State) (t : Nat) (k : Task) (i : TwIns) (pc : Nat) (p : Option (Nat × Nat)) (rest : List (Nat × Option (Nat ×
    Nat))), (s.runs 0x44 t k i) → (k.calls = (pc, p) :: rest) → exec .twRet s = .next (s.stepped t
    { k with pc := pc, inst := p, calls := rest })) ∧
  (∀ (s : State) (u : Ns) (t : Nat) (k : Task) (i : TwIns), (s.runs 0x45 t k i) → (k.calls = []) →
    ((s.shuttle.prog.tasks.getD t { entry := 0 }).beat = false) → exec (.twEnd u) s = .next ((s.at u).twCommit t
    { k with pc := i.next })) ∧
  (∀ (s : State) (u : Ns) (t : Nat) (k : Task) (i : TwIns) (r : State), (s.runs 0x45 t k i) → (k.calls = []) →
    ((s.shuttle.prog.tasks.getD t { entry := 0 }).beat = true) → (r = (s.at u).twCommit t { k with pc := i.next }) → exec
    (.twEnd u) s = .next (r.releaseGuide .beatTask)) ∧
  (∀ (s : State) (t : Nat) (k : Task) (i : TwIns) (x : U64) (rest : List U64), (s.runs 0x60 t k i) → (k.stack = x :: rest) →
    (x.getLsbD 0 = false) → exec .twEvt s = .next
    ({ s with shuttle := { s.shuttle with tasks := s.shuttle.tasks.set t { k with pc := i.next, stack := rest } } })) ∧
  (∀ (s : State) (t : Nat) (k : Task) (i : TwIns) (x : U64) (rest : List U64), (s.runs 0x60 t k i) → (k.stack = x :: rest) →
    (x.getLsbD 0 = true) → ((∀ u, aget (0x1208000000 + i.imm % 4096) s.limits = some u → u + 100000 ≤ s.otime)) → exec
    .twEvt s = .next (State.raise
    { s with shuttle := { s.shuttle with tasks := s.shuttle.tasks.set t { k with pc := i.next, stack := rest } }, limits := aset (0x1208000000 + i.imm % 4096) s.otime s.limits }
    (word (0x12080000 + i.ty * 1048576 + i.imm % 4096)))) ∧
  (∀ (s : State) (t : Nat) (k : Task) (i : TwIns) (x : U64) (rest : List U64) (u : Nat), (s.runs 0x60 t k i) → (k.stack = x
    :: rest) → (x.getLsbD 0 = true) → (aget (0x1208000000 + i.imm % 4096) s.limits = some u) → (s.otime < u + 100000) →
    exec .twEvt s = .next
    ({ s with shuttle := { s.shuttle with tasks := s.shuttle.tasks.set t { k with pc := i.next, stack := rest, evsup := sat16 k.evsup } } })) ∧
  (∀ (s : State) (t : Nat) (k : Task) (i : TwIns), (s.runs 0x43 t k i) → (16 ≤ k.calls.length) → exec .twCall s = .next
    (s.twAbort t 4 k.pc)) ∧
  (∀ (s : State) (t : Nat) (k : Task) (i : TwIns), (s.runs 0x44 t k i) → (k.calls = []) → exec .twRet s = .next (s.twAbort t
    4 k.pc)) ∧
  (∀ (s : State) (u : Ns) (t : Nat) (k : Task) (i : TwIns), (s.runs 0x45 t k i) → (k.calls ≠ []) → exec (.twEnd u) s = .next
    ((s.at u).twAbort t 7 k.pc))

/-- When the running task's next instruction is one of the built-in blocks, its inputs are on the stack, which has room for
the outputs, and its instance lies aligned in its area, the outputs take their place and the instance keeps its fields:
START16, PREV and the state flag in every block, START and ET in a timer, CV in a counter; nothing else of the module
changes. -/
def Obligations.TwillBlocks : Prop :=
  (∀ (s : State) (t : Nat) (k : Task) (i : TwIns) (x y : U64) (rest : List U64) (a bit : Nat) (st : Nat) (et : Int) (q :
    Bool), (s.runs 0x50 t k i) → (k.stack = y :: x :: rest) → (rest.length ≤ 62) → (twAddr k i.mode i.ext1 = some (a,
    bit)) → (bit % 64 = 0) → (bit + 192 ≤ areaSize a * 8) → (st = (if x.getLsbD 0 && !nbit (twGet k a (bit / 8 + 2) 1) 0
    then k.tclk else twGet k a (bit / 8 + 8) 8)) → (et = (if x.getLsbD 0 then twEt k.tclk st (max 0 (twInt 15 y)) else 0))
    → (q = (x.getLsbD 0 && decide (max 0 (twInt 15 y) ≤ et))) → exec .twTon s = .next (s.stepped t
    { (twField (twField (twField (twField (twField { k with pc := i.next, stack := rest } a (bit / 8 + 8) 8 (st)) a (bit / 8 + 16) 8 (natOf64 et)) a (bit / 8) 2 (s.shuttle.starts.toNat % 65536)) a (bit / 8 + 2) 1 (b2n (x.getLsbD 0))) a (bit / 8 + 3) 1 (b2n (q))) with stack := (twBool q) :: (twWrap 15 et) :: rest })) ∧
  (∀ (s : State) (t : Nat) (k : Task) (i : TwIns) (x y : U64) (rest : List U64) (a bit : Nat) (st : Nat) (et : Int) (q :
    Bool), (s.runs 0x51 t k i) → (k.stack = y :: x :: rest) → (rest.length ≤ 62) → (twAddr k i.mode i.ext1 = some (a,
    bit)) → (bit % 64 = 0) → (bit + 192 ≤ areaSize a * 8) → (st = (if !x.getLsbD 0 && nbit (twGet k a (bit / 8 + 2) 1) 0
    then k.tclk else twGet k a (bit / 8 + 8) 8)) → (et = (if x.getLsbD 0 then 0 else if (nbit (twGet k a (bit / 8 + 3) 1)
    0) then twEt k.tclk st (max 0 (twInt 15 y)) else twInt 15 (BitVec.ofNat 64 (twGet k a (bit / 8 + 16) 8)))) → (q =
    (x.getLsbD 0 || ((nbit (twGet k a (bit / 8 + 3) 1) 0) && decide (et < max 0 (twInt 15 y))))) → exec .twTof s = .next
    (s.stepped t
    { (twField (twField (twField (twField (twField { k with pc := i.next, stack := rest } a (bit / 8 + 8) 8 (st)) a (bit / 8 + 16) 8 (natOf64 et)) a (bit / 8) 2 (s.shuttle.starts.toNat % 65536)) a (bit / 8 + 2) 1 (b2n (x.getLsbD 0))) a (bit / 8 + 3) 1 (b2n (q))) with stack := (twBool q) :: (twWrap 15 et) :: rest })) ∧
  (∀ (s : State) (t : Nat) (k : Task) (i : TwIns) (x y : U64) (rest : List U64) (a bit : Nat) (st : Nat) (et : Int) (q :
    Bool), (s.runs 0x52 t k i) → (k.stack = y :: x :: rest) → (rest.length ≤ 62) → (twAddr k i.mode i.ext1 = some (a,
    bit)) → (bit % 64 = 0) → (bit + 192 ≤ areaSize a * 8) → (st = (if x.getLsbD 0 && !nbit (twGet k a (bit / 8 + 2) 1) 0
    && !(nbit (twGet k a (bit / 8 + 3) 1) 0) then k.tclk else twGet k a (bit / 8 + 8) 8)) → (et = (if (nbit (twGet k a
    (bit / 8 + 3) 1) 0) || (x.getLsbD 0 && !nbit (twGet k a (bit / 8 + 2) 1) 0 && !(nbit (twGet k a (bit / 8 + 3) 1) 0))
    then twEt k.tclk st (max 0 (twInt 15 y)) else if x.getLsbD 0 then twInt 15 (BitVec.ofNat 64 (twGet k a (bit / 8 + 16)
    8)) else 0)) → (q = (((nbit (twGet k a (bit / 8 + 3) 1) 0) || (x.getLsbD 0 && !nbit (twGet k a (bit / 8 + 2) 1) 0 &&
    !(nbit (twGet k a (bit / 8 + 3) 1) 0))) && decide (et < max 0 (twInt 15 y)))) → exec .twTp s = .next (s.stepped t
    { (twField (twField (twField (twField (twField { k with pc := i.next, stack := rest } a (bit / 8 + 8) 8 (st)) a (bit / 8 + 16) 8 (natOf64 et)) a (bit / 8) 2 (s.shuttle.starts.toNat % 65536)) a (bit / 8 + 2) 1 (b2n (x.getLsbD 0))) a (bit / 8 + 3) 1 (b2n (q))) with stack := (twBool q) :: (twWrap 15 et) :: rest })) ∧
  (∀ (s : State) (t : Nat) (k : Task) (i : TwIns) (x y z : U64) (rest : List U64) (a bit : Nat) (n : Int), (s.runs 0x53 t k
    i) → (k.stack = z :: y :: x :: rest) → (rest.length ≤ 62) → (twAddr k i.mode i.ext1 = some (a, bit)) → (bit % 64 = 0)
    → (bit + 128 ≤ areaSize a * 8) → (n = (if y.getLsbD 0 then 0 else if x.getLsbD 0 && !nbit (twGet k a (bit / 8 + 2) 1)
    0 && decide (twInt i.ty (BitVec.ofNat 64 (twGet k a (bit / 8 + 8) (tyBits i.ty / 8))) < twMax i.ty) then twInt i.ty
    (BitVec.ofNat 64 (twGet k a (bit / 8 + 8) (tyBits i.ty / 8))) + 1 else twInt i.ty (BitVec.ofNat 64 (twGet k a (bit / 8
    + 8) (tyBits i.ty / 8))))) → exec .twCtu s = .next (s.stepped t
    { (twField (twField (twField (twField { k with pc := i.next, stack := rest } a (bit / 8 + 8) (tyBits i.ty / 8) ((twWrap i.ty n).toNat)) a (bit / 8) 2 (s.shuttle.starts.toNat % 65536)) a (bit / 8 + 2) 1 (b2n (x.getLsbD 0) + 2 * b2n (y.getLsbD 0))) a (bit / 8 + 3) 1 (b2n (decide (twInt i.ty z ≤ n)))) with stack := (twBool (decide (twInt i.ty z ≤ n))) :: (twWrap i.ty n) :: rest })) ∧
  (∀ (s : State) (t : Nat) (k : Task) (i : TwIns) (x y z : U64) (rest : List U64) (a bit : Nat) (n : Int), (s.runs 0x54 t k
    i) → (k.stack = z :: y :: x :: rest) → (rest.length ≤ 62) → (twAddr k i.mode i.ext1 = some (a, bit)) → (bit % 64 = 0)
    → (bit + 128 ≤ areaSize a * 8) → (n = (if y.getLsbD 0 then twInt i.ty z else if x.getLsbD 0 && !nbit (twGet k a (bit /
    8 + 2) 1) 0 && decide (twMin i.ty < twInt i.ty (BitVec.ofNat 64 (twGet k a (bit / 8 + 8) (tyBits i.ty / 8)))) then
    twInt i.ty (BitVec.ofNat 64 (twGet k a (bit / 8 + 8) (tyBits i.ty / 8))) - 1 else twInt i.ty (BitVec.ofNat 64 (twGet k
    a (bit / 8 + 8) (tyBits i.ty / 8))))) → exec .twCtd s = .next (s.stepped t
    { (twField (twField (twField (twField { k with pc := i.next, stack := rest } a (bit / 8 + 8) (tyBits i.ty / 8) ((twWrap i.ty n).toNat)) a (bit / 8) 2 (s.shuttle.starts.toNat % 65536)) a (bit / 8 + 2) 1 (b2n (x.getLsbD 0) + 2 * b2n (y.getLsbD 0))) a (bit / 8 + 3) 1 (b2n (decide (n ≤ 0)))) with stack := (twBool (decide (n ≤ 0))) :: (twWrap i.ty n) :: rest })) ∧
  (∀ (s : State) (t : Nat) (k : Task) (i : TwIns) (x y z p q : U64) (rest : List U64) (a bit : Nat) (n : Int), (s.runs 0x55 t
    k i) → (k.stack = q :: p :: z :: y :: x :: rest) → (rest.length ≤ 61) → (twAddr k i.mode i.ext1 = some (a, bit)) →
    (bit % 64 = 0) → (bit + 128 ≤ areaSize a * 8) → (n = (if z.getLsbD 0 then 0 else if p.getLsbD 0 then twInt i.ty q else
    if (x.getLsbD 0 && !nbit (twGet k a (bit / 8 + 2) 1) 0) && !(y.getLsbD 0 && !nbit (twGet k a (bit / 8 + 2) 1) 1) &&
    decide (twInt i.ty (BitVec.ofNat 64 (twGet k a (bit / 8 + 8) (tyBits i.ty / 8))) < twMax i.ty) then twInt i.ty
    (BitVec.ofNat 64 (twGet k a (bit / 8 + 8) (tyBits i.ty / 8))) + 1 else if (y.getLsbD 0 && !nbit (twGet k a (bit / 8 +
    2) 1) 1) && !(x.getLsbD 0 && !nbit (twGet k a (bit / 8 + 2) 1) 0) && decide (twMin i.ty < twInt i.ty (BitVec.ofNat 64
    (twGet k a (bit / 8 + 8) (tyBits i.ty / 8)))) then twInt i.ty (BitVec.ofNat 64 (twGet k a (bit / 8 + 8) (tyBits i.ty /
    8))) - 1 else twInt i.ty (BitVec.ofNat 64 (twGet k a (bit / 8 + 8) (tyBits i.ty / 8))))) → exec .twCtud s = .next
    (s.stepped t
    { (twField (twField (twField (twField { k with pc := i.next, stack := rest } a (bit / 8 + 8) (tyBits i.ty / 8) ((twWrap i.ty n).toNat)) a (bit / 8) 2 (s.shuttle.starts.toNat % 65536)) a (bit / 8 + 2) 1 (b2n (x.getLsbD 0) + 2 * b2n (y.getLsbD 0) + 4 * b2n (z.getLsbD 0) + 8 * b2n (p.getLsbD 0))) a (bit / 8 + 3) 1 (b2n (decide (twInt i.ty q ≤ n)))) with stack := (twBool (decide (n ≤ 0))) :: (twBool (decide (twInt i.ty q ≤ n))) :: (twWrap i.ty n) :: rest })) ∧
  (∀ (s : State) (t : Nat) (k : Task) (i : TwIns) (x : U64) (rest : List U64) (a bit : Nat), (s.runs 0x56 t k i) → (k.stack =
    x :: rest) → (rest.length ≤ 63) → (twAddr k i.mode i.ext1 = some (a, bit)) → (bit % 64 = 0) → (bit + 64 ≤ areaSize a *
    8) → exec .twRTrig s = .next (s.stepped t
    { (twField (twField (twField { k with pc := i.next, stack := rest } a (bit / 8) 2 (s.shuttle.starts.toNat % 65536)) a (bit / 8 + 2) 1 (b2n (x.getLsbD 0))) a (bit / 8 + 3) 1 (b2n ((nbit (twGet k a (bit / 8 + 3) 1) 0)))) with stack := (twBool (if twGet k a (bit / 8) 2 ≠ s.shuttle.starts.toNat % 65536 ∧ nbit i.imm 0 = true then false else x.getLsbD 0 && !nbit (twGet k a (bit / 8 + 2) 1) 0)) :: rest })) ∧
  (∀ (s : State) (t : Nat) (k : Task) (i : TwIns) (x : U64) (rest : List U64) (a bit : Nat), (s.runs 0x57 t k i) → (k.stack =
    x :: rest) → (rest.length ≤ 63) → (twAddr k i.mode i.ext1 = some (a, bit)) → (bit % 64 = 0) → (bit + 64 ≤ areaSize a *
    8) → exec .twFTrig s = .next (s.stepped t
    { (twField (twField (twField { k with pc := i.next, stack := rest } a (bit / 8) 2 (s.shuttle.starts.toNat % 65536)) a (bit / 8 + 2) 1 (b2n (x.getLsbD 0))) a (bit / 8 + 3) 1 (b2n ((nbit (twGet k a (bit / 8 + 3) 1) 0)))) with stack := (twBool (if twGet k a (bit / 8) 2 ≠ s.shuttle.starts.toNat % 65536 ∧ nbit i.imm 0 = true then false else !x.getLsbD 0 && nbit (twGet k a (bit / 8 + 2) 1) 0)) :: rest })) ∧
  (∀ (s : State) (t : Nat) (k : Task) (i : TwIns) (x y : U64) (rest : List U64) (a bit : Nat), (s.runs 0x58 t k i) → (k.stack
    = y :: x :: rest) → (rest.length ≤ 63) → (twAddr k i.mode i.ext1 = some (a, bit)) → (bit % 64 = 0) → (bit + 64 ≤
    areaSize a * 8) → exec .twSr s = .next (s.stepped t
    { (twField (twField (twField { k with pc := i.next, stack := rest } a (bit / 8) 2 (s.shuttle.starts.toNat % 65536)) a (bit / 8 + 2) 1 (b2n (x.getLsbD 0) + 2 * b2n (y.getLsbD 0))) a (bit / 8 + 3) 1 (b2n (x.getLsbD 0 || ((nbit (twGet k a (bit / 8 + 3) 1) 0) && !y.getLsbD 0)))) with stack := (twBool (x.getLsbD 0 || ((nbit (twGet k a (bit / 8 + 3) 1) 0) && !y.getLsbD 0))) :: rest })) ∧
  (∀ (s : State) (t : Nat) (k : Task) (i : TwIns) (x y : U64) (rest : List U64) (a bit : Nat), (s.runs 0x59 t k i) → (k.stack
    = y :: x :: rest) → (rest.length ≤ 63) → (twAddr k i.mode i.ext1 = some (a, bit)) → (bit % 64 = 0) → (bit + 64 ≤
    areaSize a * 8) → exec .twRs s = .next (s.stepped t
    { (twField (twField (twField { k with pc := i.next, stack := rest } a (bit / 8) 2 (s.shuttle.starts.toNat % 65536)) a (bit / 8 + 2) 1 (b2n (x.getLsbD 0) + 2 * b2n (y.getLsbD 0))) a (bit / 8 + 3) 1 (b2n (!y.getLsbD 0 && (x.getLsbD 0 || (nbit (twGet k a (bit / 8 + 3) 1) 0))))) with stack := (twBool (!y.getLsbD 0 && (x.getLsbD 0 || (nbit (twGet k a (bit / 8 + 3) 1) 0)))) :: rest }))

/-- A Twill instruction does nothing while the Shuttle is stopped or no task runs. When the running task's next word is no
instruction, the task is aborted with cause 6 outside the code and 7 inside it; when it is another instruction than the
command's, nothing happens, and a reserved opcode aborts the task with cause 7. An instruction that does not go with its
type or mode aborts its task with cause 7, and one that finds fewer values on the stack than it takes with cause 3. LD
and DUP on a full stack abort their task with cause 3; LD without a value for its operand, and ST, LDX and STX at an
address that is none, outside its area or not aligned, with cause 6; LDX and STX with an index outside their array with
cause 5. END does nothing, or aborts with cause 6 or 7, in the same cases of the Shuttle, of the next word and of its
type and mode. -/
def Obligations.TwillFaults : Prop :=
  (∀ (s : State) (c : Instr) (op n : Nat), twOpcode c = some (op, n) → (s.shuttle.run = false ∨ s.twRunning = none) → exec c
    s = .next s) ∧
  (∀ (s : State) (c : Instr) (op n t : Nat) (k : Task), twOpcode c = some (op, n) → (s.shuttle.run = true) → (s.twRunning =
    some (t, k)) → (fetchTw s.shuttle.prog.code k.pc = none) → exec c s = .next (s.twAbort t (if
    s.shuttle.prog.code.length ≤ k.pc then 6 else 7) k.pc)) ∧
  (∀ (s : State) (c : Instr) (op n t : Nat) (k : Task) (i : TwIns), twOpcode c = some (op, n) → (s.shuttle.run = true) →
    (s.twRunning = some (t, k)) → (fetchTw s.shuttle.prog.code k.pc = some i) → (i.op ≠ op) → exec c s = .next (if
    twListed i.op = true then s else s.twAbort t 7 k.pc)) ∧
  (∀ (s : State) (c : Instr) (op n t : Nat) (k : Task) (i : TwIns), twOpcode c = some (op, n) → (s.shuttle.run = true) →
    (s.twRunning = some (t, k)) → (fetchTw s.shuttle.prog.code k.pc = some i) → (i.op = op) → (twAllowed i = false) → exec
    c s = .next (s.twAbort t 7 k.pc)) ∧
  (∀ (s : State) (c : Instr) (op n t : Nat) (k : Task) (i : TwIns), twOpcode c = some (op, n) → (s.runs op t k i) →
    (k.stack.length < n) → exec c s = .next (s.twAbort t 3 k.pc)) ∧
  (∀ (s : State) (t : Nat) (k : Task) (i : TwIns), (s.runs 0x03 t k i) → (k.stack.length = 64) → exec .twDup s = .next
    (s.twAbort t 3 k.pc)) ∧
  (∀ (s : State) (t : Nat) (k : Task) (i : TwIns) (v : U64), (s.runs 0x01 t k i) → (k.stack.length = 64) → (twOperand s t i
    { k with pc := i.next } = some v) → exec .twLd s = .next (s.twAbort t 3 k.pc)) ∧
  (∀ (s : State) (t : Nat) (k : Task) (i : TwIns), (s.runs 0x01 t k i) → (twOperand s t i { k with pc := i.next } = none) →
    exec .twLd s = .next (s.twAbort t 6 k.pc)) ∧
  (∀ (s : State) (t : Nat) (k : Task) (i : TwIns), (s.runs 0x02 t k i) → (1 ≤ k.stack.length) → ((∀ p, twAddr k i.mode i.ext1
    = some p → twAligned p.1 p.2 (tyBits i.ty) = false)) → exec .twSt s = .next (s.twAbort t 6 k.pc)) ∧
  (∀ (s : State) (t : Nat) (k : Task) (i : TwIns) (x : U64), (s.runs 0x06 t k i) → (1 ≤ k.stack.length) → (x = k.stack.getD 0
    0) → (twInt 3 x < 0 ∨ (i.ext2 : Int) ≤ twInt 3 x) → exec .twLdx s = .next (s.twAbort t 5 k.pc)) ∧
  (∀ (s : State) (t : Nat) (k : Task) (i : TwIns) (x : U64), (s.runs 0x06 t k i) → (1 ≤ k.stack.length) → (x = k.stack.getD 0
    0) → (0 ≤ twInt 3 x) → (twInt 3 x < i.ext2) → ((∀ p, twAddr k i.mode (i.ext1 + (twInt 3 x).toNat * tyBits i.ty) = some
    p → twAligned p.1 p.2 (tyBits i.ty) = false)) → exec .twLdx s = .next (s.twAbort t 6 k.pc)) ∧
  (∀ (s : State) (t : Nat) (k : Task) (i : TwIns) (x : U64), (s.runs 0x07 t k i) → (2 ≤ k.stack.length) → (x = k.stack.getD 0
    0) → (twInt 3 x < 0 ∨ (i.ext2 : Int) ≤ twInt 3 x) → exec .twStx s = .next (s.twAbort t 5 k.pc)) ∧
  (∀ (s : State) (t : Nat) (k : Task) (i : TwIns) (x : U64), (s.runs 0x07 t k i) → (2 ≤ k.stack.length) → (x = k.stack.getD 0
    0) → (0 ≤ twInt 3 x) → (twInt 3 x < i.ext2) → ((∀ p, twAddr k i.mode (i.ext1 + (twInt 3 x).toNat * tyBits i.ty) = some
    p → twAligned p.1 p.2 (tyBits i.ty) = false)) → exec .twStx s = .next (s.twAbort t 6 k.pc)) ∧
  (∀ (s : State) (u : Ns), (s.shuttle.run = false ∨ s.twRunning = none) → exec (.twEnd u) s = .next (s)) ∧
  (∀ (s : State) (u : Ns) (t : Nat) (k : Task), (s.shuttle.run = true) → (s.twRunning = some (t, k)) → (fetchTw
    s.shuttle.prog.code k.pc = none) → exec (.twEnd u) s = .next ((s.at u).twAbort t (if s.shuttle.prog.code.length ≤ k.pc
    then 6 else 7) k.pc)) ∧
  (∀ (s : State) (u : Ns) (t : Nat) (k : Task) (i : TwIns), (s.shuttle.run = true) → (s.twRunning = some (t, k)) → (fetchTw
    s.shuttle.prog.code k.pc = some i) → (i.op ≠ 0x45) → exec (.twEnd u) s = .next (if twListed i.op = true then s.at u
    else (s.at u).twAbort t 7 k.pc)) ∧
  (∀ (s : State) (u : Ns) (t : Nat) (k : Task) (i : TwIns), (s.shuttle.run = true) → (s.twRunning = some (t, k)) → (fetchTw
    s.shuttle.prog.code k.pc = some i) → (i.op = 0x45) → (twAllowed i = false) → exec (.twEnd u) s = .next ((s.at
    u).twAbort t 7 k.pc))

/-- In a started pick after its start, the running Shuttle at p + 0.40 ms releases each PICK task whose phase is due: one
that owes a release owes one less and counts a lost one, one that is idle is released at its entry with an empty stack
and nothing written, and a running, stopped, undue or BEAT task is left as it is; nothing but the Shuttle changes. At b
+ 1.50 ms, while the beat's bank is held for it, the BEAT task is released when it is idle and the Shuttle runs after
its start pick, and otherwise the bank is released. While a PICK task runs, the comparison of monitor 9 fires with event
0x0221000A at p + 0.70 ms; at the tick that follows each PICK task of an earlier pick that still runs owes one release
more; with none running nothing happens. A PICK task that has run for its watchdog time is aborted with cause 1, a BEAT
task that runs up to 0.2 ms before the beat's end with cause 2, and no other task is. The complete SYNC image of the
LEAD is applied to a running SHADOW: where the capture of the same edge has another value, the variable takes the
LEAD's, its timer start moved to the module's own time; the corrections count, the image is used up, also without such a
capture; in another role nothing happens. An agreed online change switches at the first pick from the agreed one on,
within 100, at which no task runs, and its command is answered; later than that it is abandoned with event 0x1213000D
and answered with 0x2013; at other picks nothing happens. -/
def Obligations.ShuttleSteps : Prop :=
  (∀ (s : State), (s.shuttle.run = true) → (s.warp.picks = true) → (s.shuttle.startPick < s.warp.pickCount) → Completes (exec
    .pickTaskRelease s) (fun t => { t with shuttle := (s.at 400000).shuttle } = s.at 400000 ∧ t.shuttle.tasks.length =
    s.shuttle.tasks.length ∧ ∀ (i : Nat) (r : TwTask) (k : Task), s.shuttle.prog.tasks[i]? = some r → s.shuttle.tasks[i]?
    = some k → ∃ k' : Task, t.shuttle.tasks[i]? = some k' ∧ (¬ (r.beat = false ∧ s.warp.pickCount % r.m = r.phase ∧ k.st ≠
    2) → k' = k) ∧ ((r.beat = false ∧ s.warp.pickCount % r.m = r.phase ∧ k.st ≠ 2) → 0 < k.owed → k' =
    { k with owed := k.owed - 1, lost := sat16 k.lost }) ∧ ((r.beat = false ∧ s.warp.pickCount % r.m = r.phase ∧ k.st ≠ 2)
    → k.owed = 0 → k.st = 1 → k' = k) ∧ ((r.beat = false ∧ s.warp.pickCount % r.m = r.phase ∧ k.st ≠ 2) → k.owed = 0 →
    k.st ≠ 1 → k'.st = 1 ∧ k'.pick = s.warp.pickCount ∧ k'.pc = r.entry ∧ k'.stack = [] ∧ k'.calls = [] ∧ k'.dirty = [] ∧
    k'.ran = true ∧ k'.first = !k.ran))) ∧
  (∀ (s : State), (s.shuttle.run = false ∨ s.warp.picks = false ∨ s.warp.pickCount ≤ s.shuttle.startPick) → exec
    .pickTaskRelease s = .next (s)) ∧
  (∀ (s : State) (b : Beat) (j : Nat), (s.warp.last = some b) → (b.holders.contains .beatTask = true) → (s.warp.run = true) →
    ((List.range s.shuttle.prog.tasks.length).find? (fun j => (s.shuttle.prog.tasks.getD j { entry := 0 }).beat) = some j)
    → (s.shuttle.run = true) → ((s.shuttle.tasks.getD j {}).st = 0) → (s.shuttle.startPick < s.warp.pickCount) → exec
    .beatTaskRelease s = .next ((s.at 500000).twRelease j)) ∧
  (∀ (s : State) (b : Beat) (j : Nat), (s.warp.last = some b) → (b.holders.contains .beatTask = true) → (s.warp.run = true) →
    ((List.range s.shuttle.prog.tasks.length).find? (fun j => (s.shuttle.prog.tasks.getD j { entry := 0 }).beat) = some j)
    → (s.shuttle.run = false ∨ (s.shuttle.tasks.getD j {}).st ≠ 0 ∨ s.warp.pickCount ≤ s.shuttle.startPick) → exec
    .beatTaskRelease s = .next ((s.at 500000).releaseGuide .beatTask)) ∧
  (∀ (s : State) (b : Beat), (s.warp.last = some b) → (b.holders.contains .beatTask = true) → (s.warp.run = true) →
    ((List.range s.shuttle.prog.tasks.length).find? (fun j => (s.shuttle.prog.tasks.getD j { entry := 0 }).beat) = none) →
    exec .beatTaskRelease s = .next ((s.at 500000).releaseGuide .beatTask)) ∧
  (∀ (s : State), ((∀ b, s.warp.last = some b → b.holders.contains .beatTask = false ∨ s.warp.run = false)) → exec
    .beatTaskRelease s = .next (s)) ∧
  (∀ (s : State), (s.shuttle.run = true) → ((s.shuttle.tasks.zip s.shuttle.prog.tasks).any (fun e => e.1.st == 1 &&
    !e.2.beat) = true) → exec (.coneShuttleOverrun false) s = .next (State.raise ((s.at 700000).fire 9) 0x0221000A#32)) ∧
  (∀ (s : State), (s.shuttle.run = true) → ((s.shuttle.tasks.zip s.shuttle.prog.tasks).any (fun e => e.1.st == 1 &&
    !e.2.beat) = true) → exec (.coneShuttleOverrun true) s = .next
    ({ s with shuttle := { s.shuttle with tasks := (s.shuttle.tasks.zip s.shuttle.prog.tasks).map (fun e => if e.1.st = 1 ∧ e.2.beat = false ∧ e.1.pick < s.warp.pickCount then { e.1 with owed := e.1.owed + 1 } else e.1) } })) ∧
  (∀ (s : State) (tick : Bool), (s.shuttle.run = false ∨ (s.shuttle.tasks.zip s.shuttle.prog.tasks).any (fun e => e.1.st == 1
    && !e.2.beat) = false) → exec (.coneShuttleOverrun tick) s = .next (s)) ∧
  (∀ (s : State) (i : Nat) (u : Ns) (k : Task) (r : TwTask), (s.shuttle.tasks[i]? = some k) → (s.shuttle.prog.tasks[i]? =
    some r) → exec (.taskWatchdog i u) s = .next (if k.st = 1 ∧ r.beat = false ∧ k.at' + r.wMs * 1000000 ≤ (s.at u).now
    then (s.at u).twAbort i 1 k.pc else s)) ∧
  (∀ (s : State) (i : Nat) (u : Ns), (s.shuttle.tasks[i]? = none ∨ s.shuttle.prog.tasks[i]? = none) → exec (.taskWatchdog i
    u) s = .next (s)) ∧
  (∀ (s : State) (u : Ns) (b : Beat) (j : Nat), ((List.range s.shuttle.prog.tasks.length).find? (fun j =>
    (s.shuttle.prog.tasks.getD j { entry := 0 }).beat) = some j) → (s.warp.last = some b) → exec (.beatTaskLimit u) s =
    .next (if (s.shuttle.tasks.getD j {}).st = 1 ∧ b.edge + s.n * 1000000 ≤ (s.at u).now + 200000 then (s.at u).twAbort j
    2 (s.shuttle.tasks.getD j {}).pc else s)) ∧
  (∀ (s : State) (u : Ns), ((List.range s.shuttle.prog.tasks.length).find? (fun j => (s.shuttle.prog.tasks.getD j
    { entry := 0 }).beat) = none ∨ s.warp.last = none) → exec (.beatTaskLimit u) s = .next (s)) ∧
  (∀ (s : State), (s.shuttle.leadSync = none ∨ s.sys.role ≠ .shadow ∨ s.shuttle.run = false) → exec .syncImageApply s = .next
    (s)) ∧
  (∀ (s : State) (l : SyncCap), (s.shuttle.leadSync = some l) → (s.sys.role = .shadow) → (s.shuttle.run = true) →
    (s.shuttle.caps.find? (fun c => nearestMs c.edge == nearestMs l.edge) = none) → exec .syncImageApply s = .next
    ({ s with shuttle := { s.shuttle with leadSync := none } })) ∧
  (∀ (s : State) (l c : SyncCap) (lead : TwSym × Nat → Option (List U64)) (diff : List (TwSym × Nat)), (s.shuttle.leadSync =
    some l) → (s.sys.role = .shadow) → (s.shuttle.run = true) → (s.shuttle.caps.find? (fun c => nearestMs c.edge ==
    nearestMs l.edge) = some c) → (lead = (fun e => (syncValue l e).map (shiftStart e ((c.tclk : Int) - (l.tclk : Int)))))
    → (diff = (syncElems s.shuttle.prog).filter (fun e => (syncValue c e).any (fun a => (lead e).any (fun b => a != b))))
    → exec .syncImageApply s = .next
    ({ s with shuttle := { s.shuttle with com := diff.foldl (fun (m : Areas) e => syncPut m e ((lead e).getD [])) s.shuttle.com, leadSync := none, corr := satAdd 65535 s.shuttle.corr diff.length } })) ∧
  (∀ (s : State) (p i : Nat) (drop : Bool) (w : Word) (c : TwChange), (s.shuttle.agreed = some (p, drop, some (i, w))) →
    (s.shuttle.change = some c) → (p ≤ s.warp.pickCount) → (s.warp.pickCount ≤ p + 100) → (s.shuttle.tasks.all (fun k =>
    k.st != 1) = true) → exec .onlineChangeSwitch s = .next (((s.at 0).switchProgram c drop (s.cmdSess i)).finishWaiting i
    0x0430 w 0 [])) ∧
  (∀ (s : State) (p : Nat) (drop : Bool) (c : TwChange), (s.shuttle.agreed = some (p, drop, none)) → (s.shuttle.change = some
    c) → (p ≤ s.warp.pickCount) → (s.warp.pickCount ≤ p + 100) → (s.shuttle.tasks.all (fun k => k.st != 1) = true) → exec
    .onlineChangeSwitch s = .next ((s.at 0).switchProgram c drop none)) ∧
  (∀ (s : State) (p : Nat) (drop : Bool) (o : Option (Nat × Word)), (s.shuttle.agreed = some (p, drop, o)) →
    (s.shuttle.change = none ∨ s.warp.pickCount < p ∨ p + 100 < s.warp.pickCount ∨ s.shuttle.tasks.any (fun k => k.st ==
    1) = true) → exec .onlineChangeSwitch s = .next (s)) ∧
  (∀ (s : State), (s.shuttle.agreed = none) → exec .onlineChangeSwitch s = .next (s)) ∧
  (∀ (s : State) (p i : Nat) (drop : Bool) (w : Word), (s.shuttle.agreed = some (p, drop, some (i, w))) → (p + 100 <
    s.warp.pickCount) → exec .onlineChangeAbandon s = .next ((State.raise
    { s with shuttle := { s.shuttle with agreed := none } } 0x1213000D#32).finishWaiting i 0x0430 w 0x2013 (be32 0))) ∧
  (∀ (s : State) (p : Nat) (drop : Bool), (s.shuttle.agreed = some (p, drop, none)) → (p + 100 < s.warp.pickCount) → exec
    .onlineChangeAbandon s = .next (State.raise { s with shuttle := { s.shuttle with agreed := none } } 0x1213000D#32)) ∧
  (∀ (s : State), ((∀ p d o, s.shuttle.agreed = some (p, d, o) → s.warp.pickCount ≤ p + 100)) → exec .onlineChangeAbandon s =
    .next (s))

/-- A ClientHello before readiness is only counted, one on a ring port counts as unprovisioned; one without a cookie gets a
HelloRetryRequest while fewer than 32 went out in the pick, and nothing after that; one with a cookie is deferred and
counted before admission opens, after 32 new entries in the pick, or without a free entry, gets an alert and event
0x14150003 at 16 entries, and otherwise takes the lowest free entry. A handshake that completes for an entry ADMITTED
opens its session: under a CLIENT anchor with the anchor's level, at most ENGINEER, and the right to SAFETY that level 3
gives; in an unprovisioned module the only session, in STANDBY with SVC_EN, marked as such; any other frees its entry,
counts and raises 0x14270004; for another entry nothing happens. close_notify ends the session: it and its entry go,
with its BULK transfer, and an open one raises 0x14050002. 60 s without a record end a session, 60 s from its last the
entry of a handshake that never ended, 60 s without a BULK_WRITE the transfer, and SAFETY and the lockout end at their
times; before those times nothing happens. SVC_EN low ends the monitor's log and SERVICE. A packet of an open session
that is served: shorter than its header it is turned away with 0x1001; one that fails the packet checks is answered with
their status, with BUSY's rule where the session waits, while an equal CSEQ gets the stored reply again, if there is
one, and an older one 0x1006; a packet that passes those checks, or of no open session, does nothing here. -/
def Obligations.CommandSessionSteps : Prop :=
  (∀ (s : State) (p : Nat) (cookie : Bool) (u : Ns) (q : State), (q = (s.at u).netPick) → (q.net.ready = false) → exec
    (.clientHello p cookie u) s = .next ({ q with net := { q.net with prenr := sat32 q.net.prenr } })) ∧
  (∀ (s : State) (p : Nat) (cookie : Bool) (u : Ns) (q : State), (q = (s.at u).netPick) → (q.net.ready = true) → (2 ≤ p) →
    exec (.clientHello p cookie u) s = .next (q.setPort p { q.port p with unprov := sat16 (q.port p).unprov })) ∧
  (∀ (s : State) (p : Nat) (u : Ns) (q : State), (q = (s.at u).netPick) → (q.net.ready = true) → (p < 2) → exec (.clientHello
    p false u) s = .next (if q.net.retryNow < 32 then State.emit
    { q with net := { q.net with retryNow := q.net.retryNow + 1 } } (.frame p "HelloRetryRequest" []) else q)) ∧
  (∀ (s : State) (p : Nat) (u : Ns) (q : State), (q = (s.at u).netPick) → (q.net.ready = true) → (p < 2) → (q.net.admitOpen =
    false ∨ 32 ≤ q.net.createdNow ∨ (q.cmdEntries < 16 ∧ q.freeEntry = none)) → exec (.clientHello p true u) s = .next
    ({ q with net := { q.net with deferred := sat16 q.net.deferred } })) ∧
  (∀ (s : State) (p : Nat) (u : Ns) (q : State), (q = (s.at u).netPick) → (q.net.ready = true) → (p < 2) → (q.net.admitOpen =
    true) → (q.net.createdNow < 32) → (16 ≤ q.cmdEntries) → exec (.clientHello p true u) s = .next ((q.emit (.frame 0
    "DTLS alert" [])).raise 0x14150003#32)) ∧
  (∀ (s : State) (p : Nat) (u : Ns) (q r : State) (i : Nat), (q = (s.at u).netPick) → (q.net.ready = true) → (p < 2) →
    (q.net.admitOpen = true) → (q.net.createdNow < 32) → (q.cmdEntries < 16) → (q.freeEntry = some i) → (r = q.setSession
    i { st := .admitted, kind := 0x0A, lastValid := some q.now, changes := 1 }) → exec (.clientHello p true u) s = .next
    ({ r with net := { r.net with createdNow := r.net.createdNow + 1, admitted := sat16 r.net.admitted } })) ∧
  (∀ (s : State) (i : Nat) (hs : Handshake) (leaf : U64) (chain : List U64) (anchor : U64) (certOk periodOk : Bool) (u : Ns)
    (e : Session) (l : Nat), (s.session i = some e) → (e.kind = 0x0A) → (e.st = .admitted) → (handshakeOk hs = true) →
    (s.sec.unprov = false) → ((s.at u).chainLevel leaf chain anchor certOk periodOk = some l) → exec
    (.dtlsHandshakeComplete i hs leaf chain anchor certOk periodOk u) s = .next (State.raise
    { (s.at u).setSession i { e with st := .live, lastValid := some (s.at u).now, changes := sat16 e.changes } with cmd := { s.cmd with sessions := s.cmd.sessions ++ [{ idx := i, level := min l 2, actor := leaf, lastRecord := (s.at u).otime, grantsSafety := decide (l = 3) }] } }
    0x14050001#32)) ∧
  (∀ (s : State) (i : Nat) (hs : Handshake) (leaf : U64) (chain : List U64) (anchor : U64) (certOk periodOk : Bool) (u : Ns)
    (e : Session), (s.session i = some e) → (e.kind = 0x0A) → (e.st = .admitted) → (handshakeOk hs = true) → (s.sec.unprov
    = true) → (s.sys.st = .standby) → (s.sys.svcEn = true) → (s.cmd.sessions = []) → exec (.dtlsHandshakeComplete i hs
    leaf chain anchor certOk periodOk u) s = .next ((State.raise
    { (s.at u).setSession i { e with st := .live, lastValid := some (s.at u).now, changes := sat16 e.changes } with cmd := { s.cmd with sessions := [{ idx := i, level := 2, actor := leaf, lastRecord := (s.at u).otime, unprov := true }] } }
    0x14050001#32).raise 0x14270008#32)) ∧
  (∀ (s : State) (i : Nat) (hs : Handshake) (leaf : U64) (chain : List U64) (anchor : U64) (certOk periodOk : Bool) (u : Ns)
    (e : Session), (s.session i = some e) → (e.kind = 0x0A) → (e.st = .admitted) → (handshakeOk hs = false ∨ (s.sec.unprov
    = true ∧ (s.sys.st ≠ .standby ∨ s.sys.svcEn = false ∨ s.cmd.sessions ≠ [])) ∨ (s.sec.unprov = false ∧ (s.at
    u).chainLevel leaf chain anchor certOk periodOk = none)) → exec (.dtlsHandshakeComplete i hs leaf chain anchor certOk
    periodOk u) s = .next (State.raise
    { (s.at u) with sess := s.sess.filter (fun p => !(p.1 == i && p.2.kind == 0x0A)), cmd := { s.cmd with authHandshake := sat16 s.cmd.authHandshake } }
    0x14270004#32)) ∧
  (∀ (s : State) (i : Nat) (hs : Handshake) (leaf : U64) (chain : List U64) (anchor : U64) (certOk periodOk : Bool) (u : Ns),
    ((∀ e, s.session i = some e → e.kind ≠ 0x0A ∨ e.st ≠ .admitted)) → exec (.dtlsHandshakeComplete i hs leaf chain anchor
    certOk periodOk u) s = .next (s)) ∧
  (∀ (s : State) (i : Nat) (r : State), (r =
    { s with cmd := { s.cmd with sessions := s.cmd.sessions.filter (fun x => x.idx != i) }, sess := s.sess.filter (fun p => !(p.1 == i && p.2.kind == 0x0A)), sec := { s.sec with bulk := s.sec.bulk.filter (fun b => b.sess != i) } })
    → exec (.closeNotify i) s = .next (if (s.cmdSess i).isSome then r.raise 0x14050002#32 else r)) ∧
  (∀ (s : State) (i : Nat) (x : CmdSession), (s.cmdSess i = some x) → exec (.commandSessionTimeout i) s = .next (if
    x.lastRecord + 60000000 ≤ s.otime then s.closeSession i else s)) ∧
  (∀ (s : State) (i : Nat) (e : Session), (s.cmdSess i = none) → (s.session i = some e) → exec (.commandSessionTimeout i) s =
    .next (if e.kind = 0x0A ∧ e.lastValid.getD 0 + 60000000000 ≤ s.now then s.closeSession i else s)) ∧
  (∀ (s : State) (i : Nat), (s.cmdSess i = none) → (s.session i = none) → exec (.commandSessionTimeout i) s = .next (s)) ∧
  (∀ (s : State) (i u : Nat) (x : CmdSession), (s.cmdSess i = some x) → (x.safetyUntil = some u) → exec (.safetyExpiry i) s =
    .next (if u ≤ s.otime then s.setCmdSess { x with safetyUntil := none } else s)) ∧
  (∀ (s : State) (i : Nat), ((∀ x, s.cmdSess i = some x → x.safetyUntil = none)) → exec (.safetyExpiry i) s = .next (s)) ∧
  (∀ (s : State), ((∀ u, s.sec.lockUntil = some u → s.otime < u)) → exec .lockoutExpiry s = .next (s)) ∧
  (∀ (s : State) (u : Nat), (s.sec.lockUntil = some u) → (u ≤ s.otime) → exec .lockoutExpiry s = .next
    ({ s with sec := { s.sec with lockUntil := none } })) ∧
  (∀ (s : State) (b : Bulk), (s.sec.bulk = some b) → exec .bulkTimeout s = .next (if b.lastWrite + 60000000 ≤ s.otime then
    { s with sec := { s.sec with bulk := none } } else s)) ∧
  (∀ (s : State), (s.sec.bulk = none) → exec .bulkTimeout s = .next (s)) ∧
  (∀ (s : State) (r : State), (r = { s with sys := { s.sys with svcEn := false }, mon := { s.mon with log := false } }) →
    exec .svcEnLow s = .next (if s.sys.st = .service then r.goStandby else r)) ∧
  (∀ (s : State) (i : Nat) (b : List Byte), (s.cmdSess i = none ∨ s.serves = false ∨ (12 ≤ b.length ∧ packetBad b = none)) →
    exec (.unknownOpcode i b) s = .next (s)) ∧
  (∀ (s : State) (i : Nat) (b : List Byte) (x : CmdSession), (b.length < 12) → (s.cmdSess i = some x) → (s.serves = true) →
    exec (.unknownOpcode i b) s = .next ((s.heard i x).turnAway x 0 0 0x1001)) ∧
  (∀ (s : State) (i : Nat) (b : List Byte) (x : CmdSession) (e op : Nat) (cseq : Word) (q : Word) (r : List Byte), (12 ≤
    b.length) → (packetBad b = some e) → (op = ofBe ((b.drop 2).take 2)) → (cseq = BitVec.ofNat 32 (ofBe ((b.drop 4).take
    4))) → (s.cmdSess i = some x) → (s.serves = true) → (x.last = some (q, r)) → (q = cseq) → exec (.unknownOpcode i b) s
    = .next (if r = [] then s.heard i x else (s.heard i x).emit (.reply x.idx r))) ∧
  (∀ (s : State) (i : Nat) (b : List Byte) (x : CmdSession) (e op : Nat) (cseq : Word) (q : Word) (r : List Byte), (12 ≤
    b.length) → (packetBad b = some e) → (op = ofBe ((b.drop 2).take 2)) → (cseq = BitVec.ofNat 32 (ofBe ((b.drop 4).take
    4))) → (s.cmdSess i = some x) → (s.serves = true) → (x.last = some (q, r)) → (q ≠ cseq) → (seqNewer q cseq = true) →
    exec (.unknownOpcode i b) s = .next ((s.heard i x).turnAway x op cseq 0x1006)) ∧
  (∀ (s : State) (i : Nat) (b : List Byte) (x : CmdSession) (e op : Nat) (cseq : Word), (12 ≤ b.length) → (packetBad b = some
    e) → (op = ofBe ((b.drop 2).take 2)) → (cseq = BitVec.ofNat 32 (ofBe ((b.drop 4).take 4))) → (s.cmdSess i = some x) →
    (s.serves = true) → ((∀ q r, x.last = some (q, r) → q ≠ cseq ∧ seqNewer q cseq = false)) → (x.waiting = none) → exec
    (.unknownOpcode i b) s = .next ((s.heard i x).finish i op cseq e (be32 0))) ∧
  (∀ (s : State) (i : Nat) (b : List Byte) (x : CmdSession) (e op : Nat) (cseq : Word), (12 ≤ b.length) → (packetBad b = some
    e) → (op = ofBe ((b.drop 2).take 2)) → (cseq = BitVec.ofNat 32 (ofBe ((b.drop 4).take 4))) → (s.cmdSess i = some x) →
    (s.serves = true) → ((∀ q r, x.last = some (q, r) → q ≠ cseq ∧ seqNewer q cseq = false)) → (x.waiting ≠ none) → exec
    (.unknownOpcode i b) s = .next ((s.heard i x).turnAway x op cseq (if 4 ≤ e / 4096 then 0x4001 else e)))

/-- Accepted by the checks all commands share, each of these commands ends with status 0 and its report, and nothing of the
module changes but what the end of a command leaves: PING with none; GET_IDENTITY with SYS_ID, serial number, firmware
version and epoch and device key; GET_STATE with CMD_CAUSE, SYS_STATE, DP mode, OBS_STAT and WARP_STAT; GET_CERTIFICATE
with at most 1,024 bytes from an offset and the length; GET_DRAFT_INFO with its seven identities, 0 where there is none;
LEDGER_INFO with oldest and newest number and digest, 40 zero bytes of an empty ledger; LEDGER_READ with the retained
entries of 1 to 8 numbers; ANCHOR_LIST, REC_STATUS, FORCE_LIST, TIME_STATUS and PAIR_STATUS with theirs. REC_READ of
ring or archive, up to the last flushed record, gives what is stored there and retires a block whose pages needed too
many corrections. LEDGER_READ of another count and REC_READ of another area or a later record end with 0x1004. Serial
number, device key and certificate chain are the unit's own. -/
def Obligations.CommandsThatReport : Prop :=
  (∀ (s : State) (h : Hdr) (x : CmdSession) (r : State), (s.accepts h 0x0100 x = true) → (r = s.heard h.sess x) → exec (.ping
    h) s = .next (State.finish (r) h.sess 0x0100 h.cseq 0 [])) ∧
  (∀ (s : State) (h : Hdr) (x : CmdSession) (r : State), (s.accepts h 0x0101 x = true) → (r = s.heard h.sess x) → exec
    (.getIdentity h) s = .next (State.finish (r) h.sess 0x0101 h.cseq 0 (be32 (r.sysReg 0).toNat ++ be64
    Config.serial.toNat ++ be32 r.sec.running.version.toNat ++ [byteOf r.sec.running.epoch] ++ be64
    Config.deviceKey.toNat))) ∧
  (∀ (s : State) (h : Hdr) (x : CmdSession) (r : State), (s.accepts h 0x0102 x = true) → (r = s.heard h.sess x) → exec
    (.getState h) s = .next (State.finish (r) h.sess 0x0102 h.cseq 0 (be32 r.cause.toNat ++ be32 (r.sysReg 4).toNat ++
    [byteOf (if r.warp.run then r.guide.mode else 0)] ++ be32 (r.obsReg 0).toNat ++ be32 (r.warpReg 4).toNat))) ∧
  (∀ (s : State) (h : Hdr) (x : CmdSession) (r : State) (ofs : Nat), (s.accepts h 0x0103 x = true) → (r = s.heard h.sess x) →
    exec (.getCertificate h ofs) s = .next (State.finish (r) h.sess 0x0103 h.cseq 0 ((Config.certChain.drop ofs).take 1024
    ++ be32 Config.certChain.length))) ∧
  (∀ (s : State) (h : Hdr) (x : CmdSession) (r : State), (s.accepts h 0x0104 x = true) → (r = s.heard h.sess x) → exec
    (.getDraftInfo h) s = .next (State.finish (r) h.sess 0x0104 h.cseq 0 (be64 ((r.draft.map (fun (d : Draft) =>
    d.base.ident)).getD 0).toNat ++ be64 ((r.draft.map (fun (d : Draft) => d.pair.print)).getD 0).toNat ++ be64
    r.shuttle.prog.progId.toNat ++ be64 r.shuttle.prog.retId.toNat ++ be64 r.sealNow.toNat ++ be64 ((r.staged.map (fun (d
    : Draft) => d.base.ident)).getD 0).toNat ++ be64 ((r.shuttle.change.map (fun (c : TwChange) => c.prog.progId)).getD
    0).toNat))) ∧
  (∀ (s : State) (h : Hdr) (x : CmdSession) (r : State) (a b : List Byte), (s.accepts h 0x0420 x = true) → (r = s.heard
    h.sess x) → (r.sec.ledger.head? = some a) → (r.sec.ledger.getLast? = some b) → exec (.ledgerInfo h) s = .next
    (State.finish (r) h.sess 0x0420 h.cseq 0 (be32 (entrySeq a).toNat ++ be32 (entrySeq b).toNat ++ sha256 b))) ∧
  (∀ (s : State) (h : Hdr) (x : CmdSession) (r : State), (s.accepts h 0x0420 x = true) → (r = s.heard h.sess x) →
    (r.sec.ledger = []) → exec (.ledgerInfo h) s = .next (State.finish (r) h.sess 0x0420 h.cseq 0 (zeros 40))) ∧
  (∀ (s : State) (h : Hdr) (x : CmdSession) (r : State) (first : Word) (count : Nat), (s.accepts h 0x0421 x = true) → (r =
    s.heard h.sess x) → (count = 0 ∨ 8 < count) → exec (.ledgerRead h first count) s = .next (r.finish h.sess 0x0421
    h.cseq 0x1004 (be32 0))) ∧
  (∀ (s : State) (h : Hdr) (x : CmdSession) (r : State) (first : Word) (count : Nat), (s.accepts h 0x0421 x = true) → (r =
    s.heard h.sess x) → (1 ≤ count) → (count ≤ 8) → exec (.ledgerRead h first count) s = .next (State.finish (r) h.sess
    0x0421 h.cseq 0 ((r.sec.ledger.filter (fun e => decide ((entrySeq e - first).toNat < count))).flatten))) ∧
  (∀ (s : State) (h : Hdr) (x : CmdSession) (r : State), (s.accepts h 0x0452 x = true) → (r = s.heard h.sess x) → exec
    (.anchorList h) s = .next (State.finish (r) h.sess 0x0452 h.cseq 0 (byteOf (r.sec.anchors.length + r.sec.deny.length)
    :: ((r.sec.anchors.map (fun a => [byteOf a.kind, byteOf a.level] ++ be64 a.keyId.toNat)).flatten ++ (r.sec.deny.map
    (fun k => [3#8, 0#8] ++ be64 k.toNat)).flatten)))) ∧
  (∀ (s : State) (h : Hdr) (x : CmdSession) (r : State), (s.accepts h 0x0601 x = true) → (r = s.heard h.sess x) → exec
    (.recStatus h) s = .next (State.finish (r) h.sess 0x0601 h.cseq 0 r.recStatus)) ∧
  (∀ (s : State) (h : Hdr) (x : CmdSession) (r : State) (area : Nat) (rseq : Word) (ofs fixes : Nat), (s.accepts h 0x0602 x =
    true) → (r = s.heard h.sess x) → (area ≤ 1) → (seqNewer s.sherd.flushed rseq = false) → exec (.recRead h area rseq ofs
    fixes) s = .next (State.finish (r.wornRead (area == 1) rseq fixes) h.sess 0x0602 h.cseq 0 (r.sherd.read (area == 1)
    rseq ofs))) ∧
  (∀ (s : State) (h : Hdr) (x : CmdSession) (r : State) (area : Nat) (rseq : Word) (ofs fixes : Nat), (s.accepts h 0x0602 x =
    true) → (r = s.heard h.sess x) → (1 < area ∨ seqNewer s.sherd.flushed rseq = true) → exec (.recRead h area rseq ofs
    fixes) s = .next (r.finish h.sess 0x0602 h.cseq 0x1004 (be32 0))) ∧
  (∀ (s : State) (h : Hdr) (x : CmdSession) (r : State) (first : Nat), (s.accepts h 0x0504 x = true) → (r = s.heard h.sess x)
    → exec (.forceList h first) s = .next (State.finish (r) h.sess 0x0504 h.cseq 0 (((r.shuttle.forces.drop first).take
    32).map (fun f => r.forceEntry f)).flatten)) ∧
  (∀ (s : State) (h : Hdr) (x : CmdSession) (r : State), (s.accepts h 0x0701 x = true) → (r = s.heard h.sess x) → exec
    (.timeStatus h) s = .next (State.finish (r) h.sess 0x0701 h.cseq 0 (r.regBytes 0x40080000 10 ++ ((r.srcWindow 0 ++
    r.srcWindow 1 ++ r.srcWindow 2).map (fun w => be32 w.toNat)).flatten))) ∧
  (∀ (s : State) (h : Hdr) (x : CmdSession) (r : State), (s.accepts h 0x0801 x = true) → (r = s.heard h.sess x) → exec
    (.pairStatus h) s = .next (State.finish (r) h.sess 0x0801 h.cseq 0 (r.regBytes 0x40120000 8)))

/-- Accepted by the checks all commands share, each of these commands has its effect and ends with status 0, or is refused:
GO_READY goes to READY with a Draft, 0x2004 without one; GO_ACTIVE leaves the entry into ACTIVE waiting where the Kiln
runs with its SAFEMOD outputs on, 0x2003 otherwise; GO_SAFE enters SAFE with cause 0; LEAVE_SAFE clears the causes and
goes to READY with a Draft, goes to STANDBY without one, and gives 0x2003 while LOOMFAULT, KILNFAULT or SELFTEST is set
or the Kiln does not run; GO_STANDBY goes to STANDBY; ENTER_SERVICE goes to SERVICE and keeps who asked, 0x3004 without
SVC_EN; RESTART of kind 0 or 1 answers first and then resets or holds the reset, 0x1004 for another kind. -/
def Obligations.CommandsOfModuleState : Prop :=
  (∀ (s : State) (h : Hdr) (x : CmdSession) (r : State) (d : Draft), (s.accepts h 0x0201 x = true) → (r = s.heard h.sess x) →
    (r.draft = some d) → exec (.goReady h) s = .next (State.finish (r.goReady) h.sess 0x0201 h.cseq 0 [])) ∧
  (∀ (s : State) (h : Hdr) (x : CmdSession) (r : State), (s.accepts h 0x0201 x = true) → (r = s.heard h.sess x) → (r.draft =
    none) → exec (.goReady h) s = .next (r.finish h.sess 0x0201 h.cseq 0x2004 (be32 0))) ∧
  (∀ (s : State) (h : Hdr) (x : CmdSession) (r : State), (s.accepts h 0x0202 x = true) → (r = s.heard h.sess x) → (r.kilnRun
    = false ∨ r.safemodsOn = false) → exec (.goActive h) s = .next (r.finish h.sess 0x0202 h.cseq 0x2003 (be32 0))) ∧
  (∀ (s : State) (h : Hdr) (x : CmdSession) (r : State), (s.accepts h 0x0202 x = true) → (r = s.heard h.sess x) → (r.kilnRun
    = true) → (r.safemodsOn = true) → exec (.goActive h) s = .next (State.finish
    ({ r with sys := { r.sys with pending := some .active } }) h.sess 0x0202 h.cseq 0 [])) ∧
  (∀ (s : State) (h : Hdr) (x : CmdSession) (r : State), (s.accepts h 0x0203 x = true) → (r = s.heard h.sess x) → exec
    (.goSafe h) s = .next (State.finish (r.enterSafe 0) h.sess 0x0203 h.cseq 0 [])) ∧
  (∀ (s : State) (h : Hdr) (x : CmdSession) (r : State) (d : Draft), (s.accepts h 0x0204 x = true) → (r = s.heard h.sess x) →
    (r.cmd.safe &&& 0x92#8 = 0) → (r.kilnRun = true) → (r.draft = some d) → exec (.leaveSafe h) s = .next (State.finish
    (State.goReady { r with cmd := { r.cmd with safe := 0 } }) h.sess 0x0204 h.cseq 0 [])) ∧
  (∀ (s : State) (h : Hdr) (x : CmdSession) (r : State), (s.accepts h 0x0204 x = true) → (r = s.heard h.sess x) → (r.cmd.safe
    &&& 0x92#8 = 0) → (r.kilnRun = true) → (r.draft = none) → exec (.leaveSafe h) s = .next (State.finish (r.goStandby)
    h.sess 0x0204 h.cseq 0 [])) ∧
  (∀ (s : State) (h : Hdr) (x : CmdSession) (r : State), (s.accepts h 0x0204 x = true) → (r = s.heard h.sess x) → (r.cmd.safe
    &&& 0x92#8 ≠ 0 ∨ r.kilnRun = false) → exec (.leaveSafe h) s = .next (r.finish h.sess 0x0204 h.cseq 0x2003 (be32 0))) ∧
  (∀ (s : State) (h : Hdr) (x : CmdSession) (r : State), (s.accepts h 0x0205 x = true) → (r = s.heard h.sess x) → exec
    (.goStandby h) s = .next (State.finish (r.goStandby) h.sess 0x0205 h.cseq 0 [])) ∧
  (∀ (s : State) (h : Hdr) (x y : CmdSession) (r : State), (s.accepts h 0x0206 x = true) → (r = s.heard h.sess x) → (y =
    { x with lastRecord := (s.at 750000).otime }) → (s.sys.svcEn = true) → exec (.enterService h) s = .next (State.finish
    (State.goIdle { r with cmd := { r.cmd with serviceBy := some (r.levelOf y, y.actor) } } .service) h.sess 0x0206 h.cseq
    0 [])) ∧
  (∀ (s : State) (h : Hdr) (x : CmdSession) (r : State), (s.accepts h 0x0206 x = true) → (r = s.heard h.sess x) →
    (s.sys.svcEn = false) → exec (.enterService h) s = .next (r.finish h.sess 0x0206 h.cseq 0x3004 (be32 0))) ∧
  (∀ (s : State) (h : Hdr) (x : CmdSession) (r : State) (kind : Nat), (s.accepts h 0x0207 x = true) → (r = s.heard h.sess x)
    → (1 < kind) → exec (.restart h kind) s = .next (r.finish h.sess 0x0207 h.cseq 0x1004 (be32 0))) ∧
  (∀ (s : State) (h : Hdr) (x : CmdSession) (r : State) (kind : Nat), (s.accepts h 0x0207 x = true) → (r = s.heard h.sess x)
    → (kind ≤ 1) → exec (.restart h kind) s = .next (State.resetOrHold (State.finish (r) h.sess 0x0207 h.cseq 0 []) (if
    kind = 0 then 2 else 3)))

/-- Accepted by the checks all commands share, the guidance commands SET_DP_MODE, SET_POSITION (a position or a step
relative to the newest one), SET_HEADING, SET_MOTION_LIMITS, LOAD_TRACK, SET_FOLLOW, SET_WIND_FF and SET_THRUSTER_USE
wait for the next started edge and end with status 0 where no partner mirrors them; with a field or a parameter out of
range they end with 0x1004, with a refusal of their state checks with that status, and a mirrored one waits for the
partner's acknowledgement. SELECT_REFERENCE of a candidate of its group and RELEASE_REFERENCE of a selection change the
group's operator selection, and are mirrored alike; RESET_LOOP_SLOT asks a resettable slot for SOFT; GNSS_RETRAIN queues
the named groups that do not wait yet. A group, session, slot or mask out of range ends with 0x1004, a session that is
no candidate with 0x2003, nothing selected, a slot that is not resettable, a baseband that does not run or a named group
that is busy or waits with 0x2001. -/
def Obligations.CommandsOfControl : Prop :=
  (∀ (s : State) (h : Hdr) (x : CmdSession) (r : State) (code trk : Nat) (c : GuideCmd), (s.accepts h 0x0210 x = true) → (r =
    s.heard h.sess x) → (c = .mode code trk) → (s.guideRange c = true) → (r.guideRefusal 0x0210 c = none) → (r.mirrors =
    false) → exec (.setDpMode h code trk) s = .next (State.finish
    ({ r with guide := { r.guide with waiting := r.guide.waiting ++ [c] } }) h.sess 0x0210 h.cseq 0 [])) ∧
  (∀ (s : State) (h : Hdr) (x : CmdSession) (r : State) (north east : Word) (c : GuideCmd), (s.accepts h 0x0301 x = true) →
    (r = s.heard h.sess x) → (c = s.guide.positionCmd false north.toInt east.toInt) → (s.guideRange c = true) →
    (r.guideRefusal 0x0301 c = none) → (r.mirrors = false) → exec (.setPosition h 0 north east) s = .next (State.finish
    ({ r with guide := { r.guide with waiting := r.guide.waiting ++ [c] } }) h.sess 0x0301 h.cseq 0 [])) ∧
  (∀ (s : State) (h : Hdr) (x : CmdSession) (r : State) (north east : Word) (c : GuideCmd), (s.accepts h 0x0301 x = true) →
    (r = s.heard h.sess x) → (c = s.guide.positionCmd true north.toInt east.toInt) → (s.guideRange c = true) →
    (r.guideRefusal 0x0301 c = none) → (r.mirrors = false) → exec (.setPosition h 1 north east) s = .next (State.finish
    ({ r with guide := { r.guide with waiting := r.guide.waiting ++ [c] } }) h.sess 0x0301 h.cseq 0 [])) ∧
  (∀ (s : State) (h : Hdr) (x : CmdSession) (r : State) (hdg : Bam) (dir : Nat) (c : GuideCmd), (s.accepts h 0x0302 x = true)
    → (r = s.heard h.sess x) → (c = .heading hdg dir) → (s.guideRange c = true) → (r.guideRefusal 0x0302 c = none) →
    (r.mirrors = false) → exec (.setHeading h hdg dir) s = .next (State.finish
    ({ r with guide := { r.guide with waiting := r.guide.waiting ++ [c] } }) h.sess 0x0302 h.cseq 0 [])) ∧
  (∀ (s : State) (h : Hdr) (x : CmdSession) (r : State) (v a ω α : F32) (c : GuideCmd), (s.accepts h 0x0303 x = true) → (r =
    s.heard h.sess x) → (c = .limits v a ω α) → (s.guideRange c = true) → (r.guideRefusal 0x0303 c = none) → (r.mirrors =
    false) → exec (.setMotionLimits h v a ω α) s = .next (State.finish
    ({ r with guide := { r.guide with waiting := r.guide.waiting ++ [c] } }) h.sess 0x0303 h.cseq 0 [])) ∧
  (∀ (s : State) (h : Hdr) (x : CmdSession) (r : State) (pts : List Waypoint) (c : GuideCmd), (s.accepts h 0x0304 x = true) →
    (r = s.heard h.sess x) → (c = .track pts) → (s.guideRange c = true) → (r.guideRefusal 0x0304 c = none) → (r.mirrors =
    false) → exec (.loadTrack h pts) s = .next (State.finish
    ({ r with guide := { r.guide with waiting := r.guide.waiting ++ [c] } }) h.sess 0x0304 h.cseq 0 [])) ∧
  (∀ (s : State) (h : Hdr) (x : CmdSession) (r : State) (north east : Word) (rule : Nat) (c : GuideCmd), (s.accepts h 0x0305
    x = true) → (r = s.heard h.sess x) → (c = .follow north.toInt east.toInt rule) → (s.guideRange c = true) →
    (r.guideRefusal 0x0305 c = none) → (r.mirrors = false) → exec (.setFollow h north east rule) s = .next (State.finish
    ({ r with guide := { r.guide with waiting := r.guide.waiting ++ [c] } }) h.sess 0x0305 h.cseq 0 [])) ∧
  (∀ (s : State) (h : Hdr) (x : CmdSession) (r : State) (enable : Nat) (kw : F32) (c : GuideCmd), (s.accepts h 0x0306 x =
    true) → (r = s.heard h.sess x) → (c = .wind (enable == 1) kw) → (enable ≤ 1) → (s.guideRange c = true) →
    (r.guideRefusal 0x0306 c = none) → (r.mirrors = false) → exec (.setWindFf h enable kw) s = .next (State.finish
    ({ r with guide := { r.guide with waiting := r.guide.waiting ++ [c] } }) h.sess 0x0306 h.cseq 0 [])) ∧
  (∀ (s : State) (h : Hdr) (x : CmdSession) (r : State) (t use : Nat) (c : GuideCmd), (s.accepts h 0x0310 x = true) → (r =
    s.heard h.sess x) → (c = .thruster t (use == 1)) → (use ≤ 1) → (s.guideRange c = true) → (r.guideRefusal 0x0310 c =
    none) → (r.mirrors = false) → exec (.setThrusterUse h t use) s = .next (State.finish
    ({ r with guide := { r.guide with waiting := r.guide.waiting ++ [c] } }) h.sess 0x0310 h.cseq 0 [])) ∧
  (∀ (s : State) (h : Hdr) (x : CmdSession) (r : State) (i : Instr) (op : Nat) (flag : Bool) (c : GuideCmd), (asGuide s.guide
    i = some (h, op, flag, c)) → (s.accepts h op x = true) → (r = s.heard h.sess x) → (flag = false ∨ s.guideRange c =
    false) → exec i s = .next (r.finish h.sess op h.cseq 0x1004 (be32 0))) ∧
  (∀ (s : State) (h : Hdr) (x : CmdSession) (r : State) (i : Instr) (op : Nat) (flag : Bool) (c : GuideCmd), (asGuide s.guide
    i = some (h, op, flag, c)) → (s.accepts h op x = true) → (r = s.heard h.sess x) → (flag = true) → (s.guideRange c =
    true) → (r.guideRefusal op c ≠ none) → exec i s = .next (r.finish h.sess op h.cseq ((r.guideRefusal op c).getD (0,
    0)).1 (be32 ((r.guideRefusal op c).getD (0, 0)).2))) ∧
  (∀ (s : State) (h : Hdr) (x : CmdSession) (r : State) (i : Instr) (op : Nat) (flag : Bool) (c : GuideCmd), (asGuide s.guide
    i = some (h, op, flag, c)) → (s.accepts h op x = true) → (r = s.heard h.sess x) → (flag = true) → (s.guideRange c =
    true) → (r.guideRefusal op c = none) → (r.mirrors = true) → exec i s = .next (State.waits
    { r with pair := { r.pair with mirNext := r.pair.mirNext + 1, mirror := r.pair.mirror ++ [{ id := r.pair.mirNext, sess := h.sess, cseq := h.cseq, op := op, act := .guide c }] } }
    h op)) ∧
  (∀ (s : State) (h : Hdr) (x : CmdSession) (r : State) (g sess : Nat), (s.accepts h 0x0320 x = true) → (r = s.heard h.sess
    x) → (g ≤ 4) → (s.inGroup g sess = true) → ((r.heddle.groups.getD g {}).cands.contains sess = true) → (r.mirrors =
    false) → exec (.selectReference h g sess) s = .next (State.finish
    ({ r with heddle := { r.heddle with groups := r.heddle.groups.set g { (r.heddle.groups.getD g {}) with opNew := some sess } } })
    h.sess 0x0320 h.cseq 0 [])) ∧
  (∀ (s : State) (h : Hdr) (x : CmdSession) (r : State) (g i : Nat), (s.accepts h 0x0321 x = true) → (r = s.heard h.sess x) →
    (g ≤ 4) → ((r.heddle.groups.getD g {}).opSel = some i) → (r.mirrors = false) → exec (.releaseReference h g) s = .next
    (State.finish (State.raise
    { r with heddle := { r.heddle with groups := r.heddle.groups.set g { (r.heddle.groups.getD g {}) with opSel := none } } }
    0x0302000E#32 [byteOf g]) h.sess 0x0321 h.cseq 0 [])) ∧
  (∀ (s : State) (h : Hdr) (x : CmdSession) (r : State) (g sess : Nat), (s.accepts h 0x0320 x = true) → (r = s.heard h.sess
    x) → (4 < g ∨ s.inGroup g sess = false) → exec (.selectReference h g sess) s = .next (r.finish h.sess 0x0320 h.cseq
    0x1004 (be32 0))) ∧
  (∀ (s : State) (h : Hdr) (x : CmdSession) (r : State) (g sess : Nat), (s.accepts h 0x0320 x = true) → (r = s.heard h.sess
    x) → (g ≤ 4) → (s.inGroup g sess = true) → ((r.heddle.groups.getD g {}).cands.contains sess = false) → exec
    (.selectReference h g sess) s = .next (r.finish h.sess 0x0320 h.cseq 0x2003 (be32 0))) ∧
  (∀ (s : State) (h : Hdr) (x : CmdSession) (r : State) (g sess : Nat), (s.accepts h 0x0320 x = true) → (r = s.heard h.sess
    x) → (g ≤ 4) → (s.inGroup g sess = true) → ((r.heddle.groups.getD g {}).cands.contains sess = true) → (r.mirrors =
    true) → exec (.selectReference h g sess) s = .next (State.waits
    ({ r with pair := { r.pair with mirNext := r.pair.mirNext + 1, mirror := r.pair.mirror ++ [{ id := r.pair.mirNext, sess := h.sess, cseq := h.cseq, op := 0x0320, act := .select g (some sess) }] } })
    h 0x0320)) ∧
  (∀ (s : State) (h : Hdr) (x : CmdSession) (r : State) (g : Nat), (s.accepts h 0x0321 x = true) → (r = s.heard h.sess x) →
    (4 < g) → exec (.releaseReference h g) s = .next (r.finish h.sess 0x0321 h.cseq 0x1004 (be32 0))) ∧
  (∀ (s : State) (h : Hdr) (x : CmdSession) (r : State) (g : Nat), (s.accepts h 0x0321 x = true) → (r = s.heard h.sess x) →
    (g ≤ 4) → ((r.heddle.groups.getD g {}).opSel = none) → exec (.releaseReference h g) s = .next (r.finish h.sess 0x0321
    h.cseq 0x2001 (be32 ((cmdSpec 0x0321).detail)))) ∧
  (∀ (s : State) (h : Hdr) (x : CmdSession) (r : State) (g i : Nat), (s.accepts h 0x0321 x = true) → (r = s.heard h.sess x) →
    (g ≤ 4) → ((r.heddle.groups.getD g {}).opSel = some i) → (r.mirrors = true) → exec (.releaseReference h g) s = .next
    (State.waits
    ({ r with pair := { r.pair with mirNext := r.pair.mirNext + 1, mirror := r.pair.mirror ++ [{ id := r.pair.mirNext, sess := h.sess, cseq := h.cseq, op := 0x0321, act := .select g none }] } })
    h 0x0321)) ∧
  (∀ (s : State) (h : Hdr) (x : CmdSession) (r : State) (k : Nat), (s.accepts h 0x0311 x = true) → (r = s.heard h.sess x) →
    (64 ≤ k ∨ (s.slotThr k).isSome = false) → exec (.resetLoopSlot h k) s = .next (r.finish h.sess 0x0311 h.cseq 0x1004
    (be32 0))) ∧
  (∀ (s : State) (h : Hdr) (x : CmdSession) (r : State) (k : Nat), (s.accepts h 0x0311 x = true) → (r = s.heard h.sess x) →
    (k < 64) → ((s.slotThr k).isSome = true) → (r.slotResettable k = false) → exec (.resetLoopSlot h k) s = .next
    (r.finish h.sess 0x0311 h.cseq 0x2001 (be32 ((cmdSpec 0x0311).detail)))) ∧
  (∀ (s : State) (h : Hdr) (x : CmdSession) (r : State) (mask : Nat), (s.accepts h 0x0910 x = true) → (r = s.heard h.sess x)
    → (mask = 0 ∨ 7 < mask) → exec (.gnssRetrain h mask) s = .next (r.finish h.sess 0x0910 h.cseq 0x1004 (be32 0))) ∧
  (∀ (s : State) (h : Hdr) (x : CmdSession) (r : State) (k : Nat), (s.accepts h 0x0311 x = true) → (r = s.heard h.sess x) →
    (k < 64) → ((s.slotThr k).isSome = true) → (r.slotResettable k = true) → exec (.resetLoopSlot h k) s = .next
    (State.finish (r.setSlot k { (r.slot k) with reset := true }) h.sess 0x0311 h.cseq 0 [])) ∧
  (∀ (s : State) (h : Hdr) (x : CmdSession) (r : State) (mask : Nat), (s.accepts h 0x0910 x = true) → (r = s.heard h.sess x)
    → (1 ≤ mask) → (mask ≤ 7) → (r.gnss.run = true) → (r.gnssGroups.any (fun a => nbit mask a && (r.gnss.busy.contains a
    || r.gnss.queue.contains a)) = false) → exec (.gnssRetrain h mask) s = .next (State.finish
    ({ r with gnss := { r.gnss with queue := r.gnss.queue ++ r.gnssGroups.filter (fun a => nbit mask a && !r.gnss.queue.contains a) } })
    h.sess 0x0910 h.cseq 0 [])) ∧
  (∀ (s : State) (h : Hdr) (x : CmdSession) (r : State) (mask : Nat), (s.accepts h 0x0910 x = true) → (r = s.heard h.sess x)
    → (1 ≤ mask) → (mask ≤ 7) → (r.gnss.run = false ∨ r.gnssGroups.any (fun a => nbit mask a && (r.gnss.busy.contains a ||
    r.gnss.queue.contains a)) = true) → exec (.gnssRetrain h mask) s = .next (r.finish h.sess 0x0910 h.cseq 0x2001 (be32
    (496 + 15 * 65536))))

/-- Accepted by the checks all commands share, each of these commands has its effect and ends with status 0, or is refused:
DRAFT_DISCARD empties the staging; FIRMWARE_ACTIVATE of a present inactive slot makes it active on trial, with its
ledger entry, answers and then restarts or holds the restart; ANCHOR_ADD and ANCHOR_REMOVE change the anchors or the
deny list, with ledger entry and event 0x11070003; DRAFT_ACTIVATE and DRAFT_REVERT activate the staged or the previous
Draft where its identity, signatures and parameters pass; SAFETY_UNLOCK with the right password gives the session SAFETY
for 15 min, SAFETY_LOCK takes it, SAFETY_PASSWORD_SET and RESET set and clear the password with their ledger entry.
Refused are: an operand out of range, 0x1004 (0x1001 for flags); no image, 0x1010; what the checks of a Draft's identity
and signatures say; a command without the SAFETY, the anchor or, for the unlock, the established time that it needs,
0x3001; the lockout, 0x3003; a wrong password, 0x3002, which counts as a failed unlock; another holder of SAFETY or a
full table, 0x4001; the last CLIENT anchor of level ENGINEER, 0x2005; a Draft that a block refuses, 0x2014 with that
block's event; a change that the MRAM does not take, 0x5002. -/
def Obligations.CommandsOfSecurity : Prop :=
  (∀ (s : State) (h : Hdr) (x : CmdSession) (r : State), (s.accepts h 0x0411 x = true) → (r = s.heard h.sess x) → exec
    (.draftDiscard h) s = .next (State.finish ({ r with staged := none }) h.sess 0x0411 h.cseq 0 [])) ∧
  (∀ (s : State) (h : Hdr) (x y : CmdSession) (r : State) (flags : Nat) (t : State), (s.accepts h 0x0440 x = true) → (r =
    s.heard h.sess x) → (y = { x with lastRecord := (s.at 750000).otime }) → (flags ≤ 1) → (s.sec.inactive.present = true)
    → (t =
    { r with sec := { r.sec with activeSlot := !r.sec.activeSlot, trial := true, trialBoots := 0, trialFloor := nbit flags 0 } })
    → exec (.firmwareActivate h flags true) s = .next (State.resetOrHold (State.finish (t.ledgerBy y 0x0030 (be64 (b2n
    t.sec.activeSlot)) (be32 r.sec.inactive.version.toNat ++ be32 r.sec.inactive.epoch)) h.sess 0x0440 h.cseq 0 []) 3)) ∧
  (∀ (s : State) (h : Hdr) (x : CmdSession) (r : State) (flags : Nat) (mram : Bool), (s.accepts h 0x0440 x = true) → (r =
    s.heard h.sess x) → (1 < flags) → exec (.firmwareActivate h flags mram) s = .next (r.finish h.sess 0x0440 h.cseq
    0x1001 (be32 0))) ∧
  (∀ (s : State) (h : Hdr) (x : CmdSession) (r : State) (flags : Nat) (mram : Bool), (s.accepts h 0x0440 x = true) → (r =
    s.heard h.sess x) → (flags ≤ 1) → (s.sec.inactive.present = false) → exec (.firmwareActivate h flags mram) s = .next
    (r.finish h.sess 0x0440 h.cseq 0x1010 (be32 0))) ∧
  (∀ (s : State) (h : Hdr) (x : CmdSession) (r : State) (flags : Nat), (s.accepts h 0x0440 x = true) → (r = s.heard h.sess x)
    → (flags ≤ 1) → (s.sec.inactive.present = true) → exec (.firmwareActivate h flags false) s = .next (r.finish h.sess
    0x0440 h.cseq 0x5002 (be32 0))) ∧
  (∀ (s : State) (h : Hdr) (x y : CmdSession) (r : State) (kind level : Nat) (key : U64) (certOk : Bool), (s.accepts h 0x0450
    x = true) → (r = s.heard h.sess x) → (y = { x with lastRecord := (s.at 750000).otime }) → (kind ≤ 3) → ((kind = 0 ∧
    level ≤ 3) ∨ (kind ≠ 0 ∧ level = 0)) → (kind = 3 ∨ certOk = true) → (safetyAnchor kind level = false ∨ (s.at
    750000).holdsSafety y = true) → (kind = 3) → (r.sec.deny.length < 64) → exec (.anchorAdd h kind level key certOk true)
    s = .next (State.finish ((State.ledgerBy { r with sec := { r.sec with deny := r.sec.deny ++ [key] } } y 0x0040 (be64
    key.toNat) [byteOf kind, byteOf level]).raise 0x11070003#32) h.sess 0x0450 h.cseq 0 [])) ∧
  (∀ (s : State) (h : Hdr) (x y : CmdSession) (r : State) (kind level : Nat) (key : U64) (certOk : Bool), (s.accepts h 0x0450
    x = true) → (r = s.heard h.sess x) → (y = { x with lastRecord := (s.at 750000).otime }) → (kind ≤ 3) → ((kind = 0 ∧
    level ≤ 3) ∨ (kind ≠ 0 ∧ level = 0)) → (kind = 3 ∨ certOk = true) → (safetyAnchor kind level = false ∨ (s.at
    750000).holdsSafety y = true) → (kind ≠ 3) → (r.sec.anchors.length < 8) → exec (.anchorAdd h kind level key certOk
    true) s = .next (State.finish ((State.ledgerBy
    { r with sec := { r.sec with anchors := r.sec.anchors ++ [{ kind := kind, level := level, keyId := key }] } } y 0x0040
    (be64 key.toNat) [byteOf kind, byteOf level]).raise 0x11070003#32) h.sess 0x0450 h.cseq 0 [])) ∧
  (∀ (s : State) (h : Hdr) (x : CmdSession) (r : State) (kind level : Nat) (key : U64) (certOk mram : Bool), (s.accepts h
    0x0450 x = true) → (r = s.heard h.sess x) → (3 < kind ∨ (kind = 0 ∧ 3 < level) ∨ (kind ≠ 0 ∧ level ≠ 0) ∨ (kind ≠ 3 ∧
    certOk = false)) → exec (.anchorAdd h kind level key certOk mram) s = .next (r.finish h.sess 0x0450 h.cseq 0x1004
    (be32 0))) ∧
  (∀ (s : State) (h : Hdr) (x y : CmdSession) (r : State) (kind level : Nat) (key : U64) (certOk mram : Bool), (s.accepts h
    0x0450 x = true) → (r = s.heard h.sess x) → (y = { x with lastRecord := (s.at 750000).otime }) → (kind ≤ 3) → ((kind =
    0 ∧ level ≤ 3) ∨ (kind ≠ 0 ∧ level = 0)) → (kind = 3 ∨ certOk = true) → (safetyAnchor kind level = true) → ((s.at
    750000).holdsSafety y = false) → exec (.anchorAdd h kind level key certOk mram) s = .next (r.finish h.sess 0x0450
    h.cseq 0x3001 (be32 0))) ∧
  (∀ (s : State) (h : Hdr) (x y : CmdSession) (r : State) (kind level : Nat) (key : U64) (certOk mram : Bool), (s.accepts h
    0x0450 x = true) → (r = s.heard h.sess x) → (y = { x with lastRecord := (s.at 750000).otime }) → (kind ≤ 3) → ((kind =
    0 ∧ level ≤ 3) ∨ (kind ≠ 0 ∧ level = 0)) → (kind = 3 ∨ certOk = true) → (safetyAnchor kind level = false ∨ (s.at
    750000).holdsSafety y = true) → ((kind = 3 ∧ 64 ≤ r.sec.deny.length) ∨ (kind ≠ 3 ∧ 8 ≤ r.sec.anchors.length)) → exec
    (.anchorAdd h kind level key certOk mram) s = .next (r.finish h.sess 0x0450 h.cseq 0x4001 (be32 0))) ∧
  (∀ (s : State) (h : Hdr) (x y : CmdSession) (r : State) (kind level : Nat) (key : U64) (certOk : Bool), (s.accepts h 0x0450
    x = true) → (r = s.heard h.sess x) → (y = { x with lastRecord := (s.at 750000).otime }) → (kind ≤ 3) → ((kind = 0 ∧
    level ≤ 3) ∨ (kind ≠ 0 ∧ level = 0)) → (kind = 3 ∨ certOk = true) → (safetyAnchor kind level = false ∨ (s.at
    750000).holdsSafety y = true) → ((kind = 3 ∧ r.sec.deny.length < 64) ∨ (kind ≠ 3 ∧ r.sec.anchors.length < 8)) → exec
    (.anchorAdd h kind level key certOk false) s = .next (r.finish h.sess 0x0450 h.cseq 0x5002 (be32 0))) ∧
  (∀ (s : State) (h : Hdr) (x y : CmdSession) (r : State) (kind : Nat) (key : U64), (s.accepts h 0x0451 x = true) → (r =
    s.heard h.sess x) → (y = { x with lastRecord := (s.at 750000).otime }) → (s.sec.hasEntry kind key = true) → ((kind ≠ 3
    ∧ (s.sec.named kind key).any (fun a => safetyAnchor a.kind a.level) = false) ∨ (s.at 750000).holdsSafety y = true) →
    ((r.sec.without kind key).anchors.any (fun a => a.kind == 0 && decide (2 ≤ a.level)) = true) → exec (.anchorRemove h
    kind key true) s = .next (State.finish ((State.ledgerBy { r with sec := r.sec.without kind key } y 0x0041 (be64
    key.toNat) [byteOf kind]).raise 0x11070003#32) h.sess 0x0451 h.cseq 0 [])) ∧
  (∀ (s : State) (h : Hdr) (x : CmdSession) (r : State) (kind : Nat) (key : U64) (mram : Bool), (s.accepts h 0x0451 x = true)
    → (r = s.heard h.sess x) → (s.sec.hasEntry kind key = false) → exec (.anchorRemove h kind key mram) s = .next
    (r.finish h.sess 0x0451 h.cseq 0x1004 (be32 0))) ∧
  (∀ (s : State) (h : Hdr) (x y : CmdSession) (r : State) (kind : Nat) (key : U64) (mram : Bool), (s.accepts h 0x0451 x =
    true) → (r = s.heard h.sess x) → (y = { x with lastRecord := (s.at 750000).otime }) → (s.sec.hasEntry kind key = true)
    → (kind = 3 ∨ (s.sec.named kind key).any (fun a => safetyAnchor a.kind a.level) = true) → ((s.at 750000).holdsSafety y
    = false) → exec (.anchorRemove h kind key mram) s = .next (r.finish h.sess 0x0451 h.cseq 0x3001 (be32 0))) ∧
  (∀ (s : State) (h : Hdr) (x y : CmdSession) (r : State) (kind : Nat) (key : U64) (mram : Bool), (s.accepts h 0x0451 x =
    true) → (r = s.heard h.sess x) → (y = { x with lastRecord := (s.at 750000).otime }) → (s.sec.hasEntry kind key = true)
    → ((kind ≠ 3 ∧ (s.sec.named kind key).any (fun a => safetyAnchor a.kind a.level) = false) ∨ (s.at 750000).holdsSafety
    y = true) → ((r.sec.without kind key).anchors.any (fun a => a.kind == 0 && decide (2 ≤ a.level)) = false) → exec
    (.anchorRemove h kind key mram) s = .next (r.finish h.sess 0x0451 h.cseq 0x2005 (be32 0))) ∧
  (∀ (s : State) (h : Hdr) (x y : CmdSession) (r : State) (kind : Nat) (key : U64), (s.accepts h 0x0451 x = true) → (r =
    s.heard h.sess x) → (y = { x with lastRecord := (s.at 750000).otime }) → (s.sec.hasEntry kind key = true) → ((kind ≠ 3
    ∧ (s.sec.named kind key).any (fun a => safetyAnchor a.kind a.level) = false) ∨ (s.at 750000).holdsSafety y = true) →
    ((r.sec.without kind key).anchors.any (fun a => a.kind == 0 && decide (2 ≤ a.level)) = true) → exec (.anchorRemove h
    kind key false) s = .next (r.finish h.sess 0x0451 h.cseq 0x5002 (be32 0))) ∧
  (∀ (s : State) (h : Hdr) (x y : CmdSession) (r : State) (img : Option Draft) (d : Draft) (id : U64), (s.accepts h 0x0410 x
    = true) → (r = s.heard h.sess x) → (y = { x with lastRecord := (s.at 750000).otime }) → (s.staged = img) → (img = some
    d) → (s.draftBad img id = none) → ((s.at 750000).draftPerm img y = none) → (draftRefusal d = none) → exec
    (.draftActivate h id true) s = .next (State.finish (r.activateDraft y d false) h.sess 0x0410 h.cseq 0 [])) ∧
  (∀ (s : State) (h : Hdr) (x : CmdSession) (r : State) (id : U64) (mram : Bool) (e : Nat), (s.accepts h 0x0410 x = true) →
    (r = s.heard h.sess x) → (s.draftBad s.staged id = some e) → exec (.draftActivate h id mram) s = .next (r.finish
    h.sess 0x0410 h.cseq e (be32 0))) ∧
  (∀ (s : State) (h : Hdr) (x y : CmdSession) (r : State) (img : Option Draft) (d : Draft) (id : U64) (mram : Bool) (e :
    Nat), (s.accepts h 0x0410 x = true) → (r = s.heard h.sess x) → (y = { x with lastRecord := (s.at 750000).otime }) →
    (s.staged = img) → (img = some d) → (s.draftBad img id = none) → ((s.at 750000).draftPerm img y = some e) → exec
    (.draftActivate h id mram) s = .next (r.finish h.sess 0x0410 h.cseq e (be32 0))) ∧
  (∀ (s : State) (h : Hdr) (x y : CmdSession) (r : State) (img : Option Draft) (d : Draft) (id : U64) (mram : Bool) (e :
    Word), (s.accepts h 0x0410 x = true) → (r = s.heard h.sess x) → (y = { x with lastRecord := (s.at 750000).otime }) →
    (s.staged = img) → (img = some d) → (s.draftBad img id = none) → ((s.at 750000).draftPerm img y = none) →
    (draftRefusal d = some e) → exec (.draftActivate h id mram) s = .next ((r.raise e).finish h.sess 0x0410 h.cseq 0x2014
    (be32 e.toNat))) ∧
  (∀ (s : State) (h : Hdr) (x y : CmdSession) (r : State) (img : Option Draft) (d : Draft) (id : U64), (s.accepts h 0x0410 x
    = true) → (r = s.heard h.sess x) → (y = { x with lastRecord := (s.at 750000).otime }) → (s.staged = img) → (img = some
    d) → (s.draftBad img id = none) → ((s.at 750000).draftPerm img y = none) → (draftRefusal d = none) → exec
    (.draftActivate h id false) s = .next (r.finish h.sess 0x0410 h.cseq 0x5002 (be32 0))) ∧
  (∀ (s : State) (h : Hdr) (x y : CmdSession) (r : State) (img : Option Draft) (d : Draft) (id : U64), (s.accepts h 0x0412 x
    = true) → (r = s.heard h.sess x) → (y = { x with lastRecord := (s.at 750000).otime }) → (s.prevDraft = img) → (img =
    some d) → (s.draftBad img id = none) → ((s.at 750000).draftPerm img y = none) → (draftRefusal d = none) → exec
    (.draftRevert h id true) s = .next (State.finish (r.activateDraft y d true) h.sess 0x0412 h.cseq 0 [])) ∧
  (∀ (s : State) (h : Hdr) (x : CmdSession) (r : State) (id : U64) (mram : Bool) (e : Nat), (s.accepts h 0x0412 x = true) →
    (r = s.heard h.sess x) → (s.draftBad s.prevDraft id = some e) → exec (.draftRevert h id mram) s = .next (r.finish
    h.sess 0x0412 h.cseq e (be32 0))) ∧
  (∀ (s : State) (h : Hdr) (x y : CmdSession) (r : State) (img : Option Draft) (d : Draft) (id : U64) (mram : Bool) (e :
    Nat), (s.accepts h 0x0412 x = true) → (r = s.heard h.sess x) → (y = { x with lastRecord := (s.at 750000).otime }) →
    (s.prevDraft = img) → (img = some d) → (s.draftBad img id = none) → ((s.at 750000).draftPerm img y = some e) → exec
    (.draftRevert h id mram) s = .next (r.finish h.sess 0x0412 h.cseq e (be32 0))) ∧
  (∀ (s : State) (h : Hdr) (x y : CmdSession) (r : State) (img : Option Draft) (d : Draft) (id : U64) (mram : Bool) (e :
    Word), (s.accepts h 0x0412 x = true) → (r = s.heard h.sess x) → (y = { x with lastRecord := (s.at 750000).otime }) →
    (s.prevDraft = img) → (img = some d) → (s.draftBad img id = none) → ((s.at 750000).draftPerm img y = none) →
    (draftRefusal d = some e) → exec (.draftRevert h id mram) s = .next ((r.raise e).finish h.sess 0x0412 h.cseq 0x2014
    (be32 e.toNat))) ∧
  (∀ (s : State) (h : Hdr) (x y : CmdSession) (r : State) (img : Option Draft) (d : Draft) (id : U64), (s.accepts h 0x0412 x
    = true) → (r = s.heard h.sess x) → (y = { x with lastRecord := (s.at 750000).otime }) → (s.prevDraft = img) → (img =
    some d) → (s.draftBad img id = none) → ((s.at 750000).draftPerm img y = none) → (draftRefusal d = none) → exec
    (.draftRevert h id false) s = .next (r.finish h.sess 0x0412 h.cseq 0x5002 (be32 0))) ∧
  (∀ (s : State) (h : Hdr) (x y : CmdSession) (r : State) (pw : List Byte), (s.accepts h 0x0460 x = true) → (r = s.heard
    h.sess x) → (y = { x with lastRecord := (s.at 750000).otime }) → (passwordOk pw = true) → (s.clk.est = true) →
    (x.grantsSafety = true) → ((s.at 750000).lockedOut = false) → (r.sec.matches' pw = true) → (r.cmd.sessions.any (fun z
    => z.idx != y.idx && r.holdsSafety z) = false) → exec (.safetyUnlock h pw) s = .next (State.finish ((r.setCmdSess
    { y with safetyUntil := some (r.otime + 900000000) }).raise 0x14070005#32) h.sess 0x0460 h.cseq 0 [])) ∧
  (∀ (s : State) (h : Hdr) (x : CmdSession) (r : State) (pw : List Byte), (s.accepts h 0x0460 x = true) → (r = s.heard h.sess
    x) → (passwordOk pw = false) → exec (.safetyUnlock h pw) s = .next (r.finish h.sess 0x0460 h.cseq 0x1004 (be32 0))) ∧
  (∀ (s : State) (h : Hdr) (x : CmdSession) (r : State) (pw : List Byte), (s.accepts h 0x0460 x = true) → (r = s.heard h.sess
    x) → (passwordOk pw = true) → (s.clk.est = false ∨ x.grantsSafety = false) → exec (.safetyUnlock h pw) s = .next
    (r.finish h.sess 0x0460 h.cseq 0x3001 (be32 0))) ∧
  (∀ (s : State) (h : Hdr) (x : CmdSession) (r : State) (pw : List Byte), (s.accepts h 0x0460 x = true) → (r = s.heard h.sess
    x) → (passwordOk pw = true) → (s.clk.est = true) → (x.grantsSafety = true) → ((s.at 750000).lockedOut = true) → exec
    (.safetyUnlock h pw) s = .next (r.finish h.sess 0x0460 h.cseq 0x3003 (be32 0))) ∧
  (∀ (s : State) (h : Hdr) (x : CmdSession) (r : State) (pw : List Byte), (s.accepts h 0x0460 x = true) → (r = s.heard h.sess
    x) → (passwordOk pw = true) → (s.clk.est = true) → (x.grantsSafety = true) → ((s.at 750000).lockedOut = false) →
    (r.sec.matches' pw = false) → exec (.safetyUnlock h pw) s = .next (r.unlockFails.finish h.sess 0x0460 h.cseq 0x3002
    (be32 0))) ∧
  (∀ (s : State) (h : Hdr) (x y : CmdSession) (r : State) (pw : List Byte), (s.accepts h 0x0460 x = true) → (r = s.heard
    h.sess x) → (y = { x with lastRecord := (s.at 750000).otime }) → (passwordOk pw = true) → (s.clk.est = true) →
    (x.grantsSafety = true) → ((s.at 750000).lockedOut = false) → (r.sec.matches' pw = true) → (r.cmd.sessions.any (fun z
    => z.idx != y.idx && r.holdsSafety z) = true) → exec (.safetyUnlock h pw) s = .next (r.finish h.sess 0x0460 h.cseq
    0x4001 (be32 0))) ∧
  (∀ (s : State) (h : Hdr) (x y : CmdSession) (r : State), (s.accepts h 0x0461 x = true) → (r = s.heard h.sess x) → (y =
    { x with lastRecord := (s.at 750000).otime }) → exec (.safetyLock h) s = .next (State.finish (r.setCmdSess
    { y with safetyUntil := none }) h.sess 0x0461 h.cseq 0 [])) ∧
  (∀ (s : State) (h : Hdr) (x y : CmdSession) (r : State) (pw : List Byte) (salt : BitVec 128), (s.accepts h 0x0462 x = true)
    → (r = s.heard h.sess x) → (y = { x with lastRecord := (s.at 750000).otime }) → (passwordOk pw = true) → ((s.at
    750000).holdsSafety y = true ∨ (s.sec.password = none ∧ x.grantsSafety = true)) → exec (.safetyPasswordSet h pw salt
    true) s = .next (State.finish (State.ledgerBy
    { r with sec := { r.sec with password := some (salt, passwordHash pw salt) } } y 0x0050 [] []) h.sess 0x0462 h.cseq 0
    [])) ∧
  (∀ (s : State) (h : Hdr) (x : CmdSession) (r : State) (pw : List Byte) (salt : BitVec 128) (mram : Bool), (s.accepts h
    0x0462 x = true) → (r = s.heard h.sess x) → (passwordOk pw = false) → exec (.safetyPasswordSet h pw salt mram) s =
    .next (r.finish h.sess 0x0462 h.cseq 0x1004 (be32 0))) ∧
  (∀ (s : State) (h : Hdr) (x y : CmdSession) (r : State) (pw : List Byte) (salt : BitVec 128) (mram : Bool), (s.accepts h
    0x0462 x = true) → (r = s.heard h.sess x) → (y = { x with lastRecord := (s.at 750000).otime }) → (passwordOk pw =
    true) → ((s.at 750000).holdsSafety y = false) → (s.sec.password ≠ none ∨ x.grantsSafety = false) → exec
    (.safetyPasswordSet h pw salt mram) s = .next (r.finish h.sess 0x0462 h.cseq 0x3001 (be32 0))) ∧
  (∀ (s : State) (h : Hdr) (x y : CmdSession) (r : State) (pw : List Byte) (salt : BitVec 128), (s.accepts h 0x0462 x = true)
    → (r = s.heard h.sess x) → (y = { x with lastRecord := (s.at 750000).otime }) → (passwordOk pw = true) → ((s.at
    750000).holdsSafety y = true ∨ (s.sec.password = none ∧ x.grantsSafety = true)) → exec (.safetyPasswordSet h pw salt
    false) s = .next (r.finish h.sess 0x0462 h.cseq 0x5002 (be32 0))) ∧
  (∀ (s : State) (h : Hdr) (x y : CmdSession) (r : State), (s.accepts h 0x0463 x = true) → (r = s.heard h.sess x) → (y =
    { x with lastRecord := (s.at 750000).otime }) → exec (.safetyPasswordReset h true) s = .next (State.finish
    (State.ledgerBy { r with sec := { r.sec with password := none } } y 0x0051 [] []) h.sess 0x0463 h.cseq 0 [])) ∧
  (∀ (s : State) (h : Hdr) (x : CmdSession) (r : State), (s.accepts h 0x0463 x = true) → (r = s.heard h.sess x) → exec
    (.safetyPasswordReset h false) s = .next (r.finish h.sess 0x0463 h.cseq 0x5002 (be32 0)))

/-- Accepted by the checks all commands share, each of these commands has its effect or is refused: SHUTTLE_RUN stops the
Shuttle, and starts it WARM or COLD; SHUTTLE_TASK_RESTART lets a HALTED task be released again; ONLINE_CHANGE of a
staged change that passes its checks agrees on the next pick and keeps its reply; ONLINE_CHANGE_DISCARD empties the
staging; the force commands change the force table where their ledger entry can be committed. All but SHUTTLE_RUN and
the discard wait for a partner that mirrors them instead. Refused are: an action or task out of range, 0x1004; flags,
0x1001; no such change, 0x1010; a task that is not HALTED, 0x2001; what the checks of an online change or of a force
say; a ledger entry that cannot be committed, 0x5002. -/
def Obligations.CommandsOfTheShuttle : Prop :=
  (∀ (s : State) (h : Hdr) (x : CmdSession) (r : State), (s.accepts h 0x0230 x = true) → (r = s.heard h.sess x) → exec
    (.shuttleRun h 0) s = .next (State.finish (r.shuttleStop) h.sess 0x0230 h.cseq 0 [])) ∧
  (∀ (s : State) (h : Hdr) (x : CmdSession) (r : State), (s.accepts h 0x0230 x = true) → (r = s.heard h.sess x) → exec
    (.shuttleRun h 1) s = .next (State.finish (r.shuttleStop.shuttleWarm) h.sess 0x0230 h.cseq 0 [])) ∧
  (∀ (s : State) (h : Hdr) (x : CmdSession) (r : State), (s.accepts h 0x0230 x = true) → (r = s.heard h.sess x) → exec
    (.shuttleRun h 2) s = .next (State.finish (r.shuttleStop.shuttleStart false) h.sess 0x0230 h.cseq 0 [])) ∧
  (∀ (s : State) (h : Hdr) (x : CmdSession) (r : State) (a : Nat), (s.accepts h 0x0230 x = true) → (r = s.heard h.sess x) →
    (2 < a) → exec (.shuttleRun h a) s = .next (r.finish h.sess 0x0230 h.cseq 0x1004 (be32 0))) ∧
  (∀ (s : State) (h : Hdr) (x : CmdSession) (r : State) (i : Nat), (s.accepts h 0x0231 x = true) → (r = s.heard h.sess x) →
    (s.shuttle.prog.tasks.length ≤ i) → exec (.shuttleTaskRestart h i) s = .next (r.finish h.sess 0x0231 h.cseq 0x1004
    (be32 0))) ∧
  (∀ (s : State) (h : Hdr) (x : CmdSession) (r : State) (i : Nat), (s.accepts h 0x0231 x = true) → (r = s.heard h.sess x) →
    (i < s.shuttle.prog.tasks.length) → ((r.shuttle.tasks.getD i {}).st = 2) → (r.mirrors = true) → exec
    (.shuttleTaskRestart h i) s = .next (State.waits
    ({ r with pair := { r.pair with mirNext := r.pair.mirNext + 1, mirror := r.pair.mirror ++ [{ id := r.pair.mirNext, sess := h.sess, cseq := h.cseq, op := 0x0231, act := .taskRestart i }] } })
    h 0x0231)) ∧
  (∀ (s : State) (h : Hdr) (x : CmdSession) (r : State) (i : Nat), (s.accepts h 0x0231 x = true) → (r = s.heard h.sess x) →
    (i < s.shuttle.prog.tasks.length) → ((r.shuttle.tasks.getD i {}).st = 2) → (r.mirrors = false) → exec
    (.shuttleTaskRestart h i) s = .next (State.finish
    ({ r with shuttle := { r.shuttle with tasks := r.shuttle.tasks.set i { (r.shuttle.tasks.getD i {}) with st := 0, aborts := [], owed := 0 } } })
    h.sess 0x0231 h.cseq 0 [])) ∧
  (∀ (s : State) (h : Hdr) (x : CmdSession) (r : State) (i : Nat), (s.accepts h 0x0231 x = true) → (r = s.heard h.sess x) →
    (i < s.shuttle.prog.tasks.length) → ((r.shuttle.tasks.getD i {}).st ≠ 2) → exec (.shuttleTaskRestart h i) s = .next
    (r.finish h.sess 0x0231 h.cseq 0x2001 (be32 (240 + 11 * 65536)))) ∧
  (∀ (s : State) (h : Hdr) (x : CmdSession) (r : State) (flags : Nat) (id : U64), (s.accepts h 0x0430 x = true) → (r =
    s.heard h.sess x) → (flags ≤ 1) → (s.changeBad id = none) → (r.changeRefusal (flags == 1) id = none) → (r.mirrors =
    false) → exec (.onlineChange h flags id) s = .next (State.waits
    ({ r with shuttle := { r.shuttle with agreed := some (r.warp.pickCount + 1, flags == 1, some (h.sess, h.cseq)) } }) h
    0x0430)) ∧
  (∀ (s : State) (h : Hdr) (x : CmdSession) (r : State) (flags : Nat) (id : U64), (s.accepts h 0x0430 x = true) → (r =
    s.heard h.sess x) → (1 < flags) → exec (.onlineChange h flags id) s = .next (r.finish h.sess 0x0430 h.cseq 0x1001
    (be32 0))) ∧
  (∀ (s : State) (h : Hdr) (x : CmdSession) (r : State) (flags : Nat) (id : U64), (s.accepts h 0x0430 x = true) → (r =
    s.heard h.sess x) → (flags ≤ 1) → (s.changeBad id ≠ none) → exec (.onlineChange h flags id) s = .next (r.finish h.sess
    0x0430 h.cseq 0x1010 (be32 0))) ∧
  (∀ (s : State) (h : Hdr) (x : CmdSession) (r : State) (flags : Nat) (id : U64) (e : Nat × Nat), (s.accepts h 0x0430 x =
    true) → (r = s.heard h.sess x) → (flags ≤ 1) → (s.changeBad id = none) → (r.changeRefusal (flags == 1) id = some e) →
    exec (.onlineChange h flags id) s = .next (r.finish h.sess 0x0430 h.cseq e.1 (be32 e.2))) ∧
  (∀ (s : State) (h : Hdr) (x : CmdSession) (r : State) (flags : Nat) (id : U64), (s.accepts h 0x0430 x = true) → (r =
    s.heard h.sess x) → (flags ≤ 1) → (s.changeBad id = none) → (r.changeRefusal (flags == 1) id = none) → (r.mirrors =
    true) → exec (.onlineChange h flags id) s = .next (State.waits
    ({ r with pair := { r.pair with mirNext := r.pair.mirNext + 1, mirror := r.pair.mirror ++ [{ id := r.pair.mirNext, sess := h.sess, cseq := h.cseq, op := 0x0430, act := .change (flags == 1) id }] } })
    h 0x0430)) ∧
  (∀ (s : State) (h : Hdr) (x : CmdSession) (r : State), (s.accepts h 0x0431 x = true) → (r = s.heard h.sess x) → exec
    (.onlineChangeDiscard h) s = .next (State.finish ({ r with shuttle := { r.shuttle with change := none } }) h.sess
    0x0431 h.cseq 0 [])) ∧
  (∀ (s : State) (h : Hdr) (x y : CmdSession) (r : State) (o : ForceOp) (sym elem : Word) (ty : Nat) (v : U64), (s.accepts h
    0x0501 x = true) → (r = s.heard h.sess x) → (y = { x with lastRecord := (s.at 750000).otime }) → (o = .put
    { sym := sym, elem := elem, ty := ty, value := v }) → (s.forceBad o = none) → (r.forceRefusal 0x0501 o = none) →
    (r.mirrors = false) → exec (.forceSet h sym elem ty v true) s = .next (State.finish (r.applyForce (some y) o) h.sess
    0x0501 h.cseq 0 [])) ∧
  (∀ (s : State) (h : Hdr) (x : CmdSession) (r : State) (o : ForceOp) (sym elem : Word) (ty : Nat) (v : U64), (s.accepts h
    0x0501 x = true) → (r = s.heard h.sess x) → (o = .put { sym := sym, elem := elem, ty := ty, value := v }) →
    (s.forceBad o = none) → (r.forceRefusal 0x0501 o = none) → (r.mirrors = true) → exec (.forceSet h sym elem ty v true)
    s = .next (State.waits
    ({ r with pair := { r.pair with mirNext := r.pair.mirNext + 1, mirror := r.pair.mirror ++ [{ id := r.pair.mirNext, sess := h.sess, cseq := h.cseq, op := 0x0501, act := .force o }] } })
    h 0x0501)) ∧
  (∀ (s : State) (h : Hdr) (x : CmdSession) (r : State) (o : ForceOp) (sym elem : Word) (ty : Nat) (v : U64), (s.accepts h
    0x0501 x = true) → (r = s.heard h.sess x) → (o = .put { sym := sym, elem := elem, ty := ty, value := v }) →
    (s.forceBad o = none) → (r.forceRefusal 0x0501 o = none) → exec (.forceSet h sym elem ty v false) s = .next (r.finish
    h.sess 0x0501 h.cseq 0x5002 (be32 0))) ∧
  (∀ (s : State) (h : Hdr) (x : CmdSession) (r : State) (o : ForceOp) (sym elem : Word) (ty : Nat) (v : U64) (mram : Bool) (e
    : Nat), (s.accepts h 0x0501 x = true) → (r = s.heard h.sess x) → (o = .put
    { sym := sym, elem := elem, ty := ty, value := v }) → (s.forceBad o = some e) → exec (.forceSet h sym elem ty v mram)
    s = .next (r.finish h.sess 0x0501 h.cseq e (be32 0))) ∧
  (∀ (s : State) (h : Hdr) (x : CmdSession) (r : State) (o : ForceOp) (sym elem : Word) (ty : Nat) (v : U64) (mram : Bool) (e
    : Nat × Nat), (s.accepts h 0x0501 x = true) → (r = s.heard h.sess x) → (o = .put
    { sym := sym, elem := elem, ty := ty, value := v }) → (s.forceBad o = none) → (r.forceRefusal 0x0501 o = some e) →
    exec (.forceSet h sym elem ty v mram) s = .next (r.finish h.sess 0x0501 h.cseq e.1 (be32 e.2))) ∧
  (∀ (s : State) (h : Hdr) (x y : CmdSession) (r : State) (o : ForceOp) (sym elem : Word), (s.accepts h 0x0502 x = true) → (r
    = s.heard h.sess x) → (y = { x with lastRecord := (s.at 750000).otime }) → (o = .clear sym elem) → (s.forceBad o =
    none) → (r.forceRefusal 0x0502 o = none) → (r.mirrors = false) → exec (.forceClear h sym elem true) s = .next
    (State.finish (r.applyForce (some y) o) h.sess 0x0502 h.cseq 0 [])) ∧
  (∀ (s : State) (h : Hdr) (x : CmdSession) (r : State) (o : ForceOp) (sym elem : Word), (s.accepts h 0x0502 x = true) → (r =
    s.heard h.sess x) → (o = .clear sym elem) → (s.forceBad o = none) → (r.forceRefusal 0x0502 o = none) → (r.mirrors =
    true) → exec (.forceClear h sym elem true) s = .next (State.waits
    ({ r with pair := { r.pair with mirNext := r.pair.mirNext + 1, mirror := r.pair.mirror ++ [{ id := r.pair.mirNext, sess := h.sess, cseq := h.cseq, op := 0x0502, act := .force o }] } })
    h 0x0502)) ∧
  (∀ (s : State) (h : Hdr) (x : CmdSession) (r : State) (o : ForceOp) (sym elem : Word), (s.accepts h 0x0502 x = true) → (r =
    s.heard h.sess x) → (o = .clear sym elem) → (s.forceBad o = none) → (r.forceRefusal 0x0502 o = none) → exec
    (.forceClear h sym elem false) s = .next (r.finish h.sess 0x0502 h.cseq 0x5002 (be32 0))) ∧
  (∀ (s : State) (h : Hdr) (x : CmdSession) (r : State) (o : ForceOp) (sym elem : Word) (mram : Bool) (e : Nat), (s.accepts h
    0x0502 x = true) → (r = s.heard h.sess x) → (o = .clear sym elem) → (s.forceBad o = some e) → exec (.forceClear h sym
    elem mram) s = .next (r.finish h.sess 0x0502 h.cseq e (be32 0))) ∧
  (∀ (s : State) (h : Hdr) (x : CmdSession) (r : State) (o : ForceOp) (sym elem : Word) (mram : Bool) (e : Nat × Nat),
    (s.accepts h 0x0502 x = true) → (r = s.heard h.sess x) → (o = .clear sym elem) → (s.forceBad o = none) →
    (r.forceRefusal 0x0502 o = some e) → exec (.forceClear h sym elem mram) s = .next (r.finish h.sess 0x0502 h.cseq e.1
    (be32 e.2))) ∧
  (∀ (s : State) (h : Hdr) (x y : CmdSession) (r : State) (o : ForceOp), (s.accepts h 0x0503 x = true) → (r = s.heard h.sess
    x) → (y = { x with lastRecord := (s.at 750000).otime }) → (o = .clearAll) → (s.forceBad o = none) → (r.forceRefusal
    0x0503 o = none) → (r.mirrors = false) → exec (.forceClearAll h true) s = .next (State.finish (r.applyForce (some y)
    o) h.sess 0x0503 h.cseq 0 [])) ∧
  (∀ (s : State) (h : Hdr) (x : CmdSession) (r : State) (o : ForceOp), (s.accepts h 0x0503 x = true) → (r = s.heard h.sess x)
    → (o = .clearAll) → (s.forceBad o = none) → (r.forceRefusal 0x0503 o = none) → (r.mirrors = true) → exec
    (.forceClearAll h true) s = .next (State.waits
    ({ r with pair := { r.pair with mirNext := r.pair.mirNext + 1, mirror := r.pair.mirror ++ [{ id := r.pair.mirNext, sess := h.sess, cseq := h.cseq, op := 0x0503, act := .force o }] } })
    h 0x0503)) ∧
  (∀ (s : State) (h : Hdr) (x : CmdSession) (r : State) (o : ForceOp), (s.accepts h 0x0503 x = true) → (r = s.heard h.sess x)
    → (o = .clearAll) → (s.forceBad o = none) → (r.forceRefusal 0x0503 o = none) → exec (.forceClearAll h false) s = .next
    (r.finish h.sess 0x0503 h.cseq 0x5002 (be32 0)))

/-- Accepted by the checks all commands share, each of these commands has its effect or is refused: KILN_CLEAR,
KILN_SWITCH_TEST and KILN_WITHHOLD put their operation in the mailbox queue and their reply waits; PAIR_TRANSFER sets
RELEASE where the partner was qualified in the last two picks; PAIR_BAR bars the module, and releases the lead of a
LEAD; PAIR_UNBAR ends the bar while the link is up and the partner has the same fingerprint; TIME_SOURCE_USE switches
the source off or on, on only where the Draft ranks it, starts it anew and selects again; TIME_REESTABLISH ends
holdover, establishment and TPVALID. Refused are: an operand out of range or an empty mask, 0x1004; a transfer,
unbarring or source without its condition, 0x2001. -/
def Obligations.CommandsOfKilnPairAndTime : Prop :=
  (∀ (s : State) (h : Hdr) (x : CmdSession) (r : State) (kind i : Nat) (z : CmdSession), (s.accepts h 0x0920 x = true) → (r =
    s.heard h.sess x) → (clearRange kind i = true) → (r.cmdSess h.sess = some z) → exec (.kilnClear h kind i) s = .next
    (State.waits (State.setCmdSess
    { r with kport := { r.kport with reqs := r.kport.reqs ++ [{ op := 1, arg := word (256 * kind + i), owner := some (h.sess, h.cseq, 0x0920), pick := r.warp.pickCount }] } }
    { z with kilnPick := some r.warp.pickCount }) h 0x0920)) ∧
  (∀ (s : State) (h : Hdr) (x : CmdSession) (r : State) (mask : U16) (z : CmdSession), (s.accepts h 0x0921 x = true) → (r =
    s.heard h.sess x) → (mask ≠ 0) → (r.cmdSess h.sess = some z) → exec (.kilnSwitchTest h mask) s = .next (State.waits
    (State.setCmdSess
    { r with kport := { r.kport with reqs := r.kport.reqs ++ [{ op := 2, arg := mask.setWidth 32, owner := some (h.sess, h.cseq, 0x0921), pick := r.warp.pickCount }] } }
    { z with kilnPick := some r.warp.pickCount }) h 0x0921)) ∧
  (∀ (s : State) (h : Hdr) (x : CmdSession) (r : State) (mask v : U16) (z : CmdSession), (s.accepts h 0x0922 x = true) → (r =
    s.heard h.sess x) → (mask ≠ 0) → (r.cmdSess h.sess = some z) → exec (.kilnWithhold h mask v) s = .next (State.waits
    (State.setCmdSess
    { r with kport := { r.kport with reqs := r.kport.reqs ++ [{ op := 4, arg := word (65536 * mask.toNat + v.toNat), owner := some (h.sess, h.cseq, 0x0922), pick := r.warp.pickCount }] } }
    { z with kilnPick := some r.warp.pickCount }) h 0x0922)) ∧
  (∀ (s : State) (h : Hdr) (x : CmdSession) (r : State) (kind i : Nat), (s.accepts h 0x0920 x = true) → (r = s.heard h.sess
    x) → (clearRange kind i = false) → exec (.kilnClear h kind i) s = .next (r.finish h.sess 0x0920 h.cseq 0x1004 (be32
    0))) ∧
  (∀ (s : State) (h : Hdr) (x : CmdSession) (r : State), (s.accepts h 0x0921 x = true) → (r = s.heard h.sess x) → exec
    (.kilnSwitchTest h 0) s = .next (r.finish h.sess 0x0921 h.cseq 0x1004 (be32 0))) ∧
  (∀ (s : State) (h : Hdr) (x : CmdSession) (r : State) (v : U16), (s.accepts h 0x0922 x = true) → (r = s.heard h.sess x) →
    exec (.kilnWithhold h 0 v) s = .next (r.finish h.sess 0x0922 h.cseq 0x1004 (be32 0))) ∧
  (∀ (s : State) (h : Hdr) (x : CmdSession) (r : State), (s.accepts h 0x0810 x = true) → (r = s.heard h.sess x) →
    (r.inLastTwo r.pair.qualAge = true) → exec (.pairTransfer h) s = .next (State.finish
    ({ r with pair := { r.pair with release := true } }) h.sess 0x0810 h.cseq 0 [])) ∧
  (∀ (s : State) (h : Hdr) (x : CmdSession) (r : State), (s.accepts h 0x0810 x = true) → (r = s.heard h.sess x) →
    (r.inLastTwo r.pair.qualAge = false) → exec (.pairTransfer h) s = .next (r.finish h.sess 0x0810 h.cseq 0x2001 (be32
    (112 + 2 * 65536)))) ∧
  (∀ (s : State) (h : Hdr) (x : CmdSession) (r : State), (s.accepts h 0x0811 x = true) → (r = s.heard h.sess x) → exec
    (.pairBar h) s = .next (State.finish
    ({ r with pair := { r.pair with barredBy := 1, release := r.pair.release || r.sys.role == Role.lead } }) h.sess 0x0811
    h.cseq 0 [])) ∧
  (∀ (s : State) (h : Hdr) (x : CmdSession) (r : State), (s.accepts h 0x0812 x = true) → (r = s.heard h.sess x) →
    (r.pair.linkUp = true) → (r.pair.pPrint = r.pairRec.print) → exec (.pairUnbar h) s = .next (State.finish
    ({ r with pair := { r.pair with barredBy := 0, silent := r.sys.loomFault, release := false } }) h.sess 0x0812 h.cseq 0
    [])) ∧
  (∀ (s : State) (h : Hdr) (x : CmdSession) (r : State), (s.accepts h 0x0812 x = true) → (r = s.heard h.sess x) →
    (r.pair.linkUp = false ∨ r.pair.pPrint ≠ r.pairRec.print) → exec (.pairUnbar h) s = .next (r.finish h.sess 0x0812
    h.cseq 0x2001 (be32 ((cmdSpec 0x0812).detail)))) ∧
  (∀ (s : State) (h : Hdr) (x : CmdSession) (r : State) (i use : Nat), (s.accepts h 0x0710 x = true) → (r = s.heard h.sess x)
    → (2 < i ∨ 1 < use) → exec (.timeSourceUse h i use) s = .next (r.finish h.sess 0x0710 h.cseq 0x1004 (be32 0))) ∧
  (∀ (s : State) (h : Hdr) (x : CmdSession) (r : State) (i : Nat), (s.accepts h 0x0710 x = true) → (r = s.heard h.sess x) →
    (i ≤ 2) → (r.rank i = none) → exec (.timeSourceUse h i 1) s = .next (r.finish h.sess 0x0710 h.cseq 0x2001 (be32
    ((cmdSpec 0x0710).detail)))) ∧
  (∀ (s : State) (h : Hdr) (x : CmdSession) (r : State) (i : Nat) (q : State), (s.accepts h 0x0710 x = true) → (r = s.heard
    h.sess x) → (i ≤ 2) → (q = r.setSrc i { (r.src i) with off := true }) → exec (.timeSourceUse h i 0) s = .next
    (State.finish (State.reselect (q.setSrc i (q.srcStart i))) h.sess 0x0710 h.cseq 0 [])) ∧
  (∀ (s : State) (h : Hdr) (x : CmdSession) (r : State) (i k : Nat) (q : State), (s.accepts h 0x0710 x = true) → (r = s.heard
    h.sess x) → (i ≤ 2) → (r.rank i = some k) → (q = r.setSrc i { (r.src i) with off := false }) → exec (.timeSourceUse h
    i 1) s = .next (State.finish (State.reselect (q.setSrc i (q.srcStart i))) h.sess 0x0710 h.cseq 0 [])) ∧
  (∀ (s : State) (h : Hdr) (x : CmdSession) (r : State) (q : State), (s.accepts h 0x0711 x = true) → (r = s.heard h.sess x) →
    (q = (if r.time.hold = true then r.exitHold else r)) → exec (.timeReestablish h) s = .next (State.finish (State.setTp
    { q with clk := { q.clk with est := false }, time := { q.time with tpSince := none } } false) h.sess 0x0711 h.cseq 0
    []))

/-- Accepted by the checks all commands share, each of these commands has its effect and ends with status 0, or is refused:
MEM_READ of 4 to 1,024 bytes in whole words answers the words as they read; MEM_WRITE writes exactly the given bytes to
the General SRAM, or the words to RW registers in turn, and makes its ledger entry; BULK_OPEN opens the one transfer,
BULK_WRITE appends at its end, BULK_CLOSE stages a complete image whose digest and signature are right, BULK_ABORT drops
the session's transfer; REC_FREEZE takes the lowest free freeze where half the ring stays free, with event 0x0F000006;
REC_RELEASE ends one; TELEM_CONFIG sets a stream. Refused are: an operand out of range, 0x1004; a span that may not be
read or written, 0x1005, with the integrity event where it lies in a partition of another owner; no transfer of the
session, 0x2006; a transfer open already, 0x4001; a length over the target's, 0x4003; a wrong length or digest, 0x1021,
or signature, 0x1020; no freeze left, 0x2003; a write that MRAM or NAND does not take, 0x5002. -/
def Obligations.CommandsOfMemoryAndStores : Prop :=
  (∀ (s : State) (h : Hdr) (x : CmdSession) (r : State) (a n : Nat), (s.accepts h 0x0901 x = true) → (r = s.heard h.sess x) →
    (4 ≤ n) → (n ≤ 1024) → (n % 4 = 0) → (readable a n = true) → exec (.memRead h a n) s = .next (State.finish
    ((r.readWords (n / 4) a).1) h.sess 0x0901 h.cseq 0 (r.readWords (n / 4) a).2)) ∧
  (∀ (s : State) (h : Hdr) (x : CmdSession) (r : State) (a n : Nat), (s.accepts h 0x0901 x = true) → (r = s.heard h.sess x) →
    (n < 4 ∨ 1024 < n ∨ n % 4 ≠ 0) → exec (.memRead h a n) s = .next (r.finish h.sess 0x0901 h.cseq 0x1004 (be32 0))) ∧
  (∀ (s : State) (h : Hdr) (x : CmdSession) (r : State) (a n : Nat), (s.accepts h 0x0901 x = true) → (r = s.heard h.sess x) →
    (4 ≤ n) → (n ≤ 1024) → (n % 4 = 0) → (readable a n = false) → exec (.memRead h a n) s = .next (r.finish h.sess 0x0901
    h.cseq 0x1005 (be32 0))) ∧
  (∀ (s : State) (h : Hdr) (x y : CmdSession) (r : State) (a : Nat) (b : List Byte), (s.accepts h 0x0902 x = true) → (r =
    s.heard h.sess x) → (y = { x with lastRecord := (s.at 750000).otime }) → (spanIn [general] a b.length = true) → exec
    (.memWrite h a b true) s = .next (State.finish (State.ledger { r with mem := memWriteBytes r.mem a b } (r.levelOf y)
    y.actor 0x0060 (be64 a) (be32 b.length ++ (sha256 b).take 12)) h.sess 0x0902 h.cseq 0 [])) ∧
  (∀ (s : State) (h : Hdr) (x y : CmdSession) (r : State) (a : Nat) (b : List Byte), (s.accepts h 0x0902 x = true) → (r =
    s.heard h.sess x) → (y = { x with lastRecord := (s.at 750000).otime }) → (writable a b.length = true) → (spanIn
    [general] a b.length = false) → exec (.memWrite h a b true) s = .next (State.finish (State.ledger ((List.range
    (b.length / 4)).foldl (fun (t : State) i => t.writeReg (a + 4 * i) (BitVec.ofNat 32 (ofLe ((b.drop (4 * i)).take 4))))
    r) (r.levelOf y) y.actor 0x0060 (be64 a) (be32 b.length ++ (sha256 b).take 12)) h.sess 0x0902 h.cseq 0 [])) ∧
  (∀ (s : State) (h : Hdr) (x : CmdSession) (r : State) (a : Nat) (b : List Byte) (mram : Bool), (s.accepts h 0x0902 x =
    true) → (r = s.heard h.sess x) → (writable a b.length = false) → exec (.memWrite h a b mram) s = .next (if ownedSpan a
    b.length = true then (r.finish h.sess 0x0902 h.cseq 0x1005 (be32 0)).blockedWrite else r.finish h.sess 0x0902 h.cseq
    0x1005 (be32 0))) ∧
  (∀ (s : State) (h : Hdr) (x : CmdSession) (r : State) (a : Nat) (b : List Byte), (s.accepts h 0x0902 x = true) → (r =
    s.heard h.sess x) → (writable a b.length = true) → exec (.memWrite h a b false) s = .next (r.finish h.sess 0x0902
    h.cseq 0x5002 (be32 0))) ∧
  (∀ (s : State) (h : Hdr) (x : CmdSession) (r : State) (target len : Nat) (digest : List Byte), (s.accepts h 0x0A01 x =
    true) → (r = s.heard h.sess x) → (target = 0 ∨ 3 < target) → exec (.bulkOpen h target len digest) s = .next (r.finish
    h.sess 0x0A01 h.cseq 0x1004 (be32 0))) ∧
  (∀ (s : State) (h : Hdr) (x : CmdSession) (r : State) (target len : Nat) (digest : List Byte), (s.accepts h 0x0A01 x =
    true) → (r = s.heard h.sess x) → (1 ≤ target) → (target ≤ 3) → (r.sec.bulk ≠ none) → exec (.bulkOpen h target len
    digest) s = .next (r.finish h.sess 0x0A01 h.cseq 0x4001 (be32 0))) ∧
  (∀ (s : State) (h : Hdr) (x : CmdSession) (r : State) (target len : Nat) (digest : List Byte), (s.accepts h 0x0A01 x =
    true) → (r = s.heard h.sess x) → (1 ≤ target) → (target ≤ 3) → (r.sec.bulk = none) → (targetSize target < len) → exec
    (.bulkOpen h target len digest) s = .next (r.finish h.sess 0x0A01 h.cseq 0x4003 (be32 0))) ∧
  (∀ (s : State) (h : Hdr) (x : CmdSession) (r : State) (ofs : Nat) (data : List Byte) (b : Bulk), (s.accepts h 0x0A02 x =
    true) → (r = s.heard h.sess x) → (s.bulkOf h.sess = some b) → (ofs ≠ b.received.length) → exec (.bulkWrite h ofs data)
    s = .next (r.finish h.sess 0x0A02 h.cseq 0x1004 (be32 0))) ∧
  (∀ (s : State) (h : Hdr) (x : CmdSession) (r : State) (ofs : Nat) (data : List Byte), (s.accepts h 0x0A02 x = true) → (r =
    s.heard h.sess x) → (s.bulkOf h.sess = none) → (r.bulkOf h.sess = none) → exec (.bulkWrite h ofs data) s = .next
    (r.finish h.sess 0x0A02 h.cseq 0x2006 (be32 0))) ∧
  (∀ (s : State) (h : Hdr) (x : CmdSession) (r : State) (img : BulkImage) (nand : Bool) (b : Bulk), (s.accepts h 0x0A03 x =
    true) → (r = s.heard h.sess x) → (s.bulkOf h.sess = some b) → (b.received.length ≠ b.length ∨ sha256 b.received ≠
    b.digest) → exec (.bulkClose h img nand) s = .next (r.finish h.sess 0x0A03 h.cseq 0x1021 (be32 0))) ∧
  (∀ (s : State) (h : Hdr) (x : CmdSession) (r : State) (img : BulkImage) (nand : Bool) (b : Bulk), (s.accepts h 0x0A03 x =
    true) → (r = s.heard h.sess x) → (s.bulkOf h.sess = some b) → (b.received.length = b.length) → (sha256 b.received =
    b.digest) → (s.imageOk b.target img = false) → exec (.bulkClose h img nand) s = .next (r.finish h.sess 0x0A03 h.cseq
    0x1020 (be32 0))) ∧
  (∀ (s : State) (h : Hdr) (x : CmdSession) (r : State) (img : BulkImage) (nand : Bool), (s.accepts h 0x0A03 x = true) → (r =
    s.heard h.sess x) → (s.bulkOf h.sess = none) → (r.bulkOf h.sess = none) → exec (.bulkClose h img nand) s = .next
    (r.finish h.sess 0x0A03 h.cseq 0x2006 (be32 0))) ∧
  (∀ (s : State) (h : Hdr) (x : CmdSession) (r : State) (img : BulkImage) (b : Bulk), (s.accepts h 0x0A03 x = true) → (r =
    s.heard h.sess x) → (s.bulkOf h.sess = some b) → (r.bulkOf h.sess = some b) → (b.received.length = b.length) → (sha256
    b.received = b.digest) → (s.imageOk b.target img = true) → exec (.bulkClose h img false) s = .next (r.finish h.sess
    0x0A03 h.cseq 0x5002 (be32 0))) ∧
  (∀ (s : State) (h : Hdr) (x : CmdSession) (r : State) (fromH fromUs toH toUs : Word) (lo hi : Nat), (s.accepts h 0x0603 x =
    true) → (r = s.heard h.sess x) → (lo = fromH.toNat * 3600000000 + fromUs.toNat) → (hi = toH.toNat * 3600000000 +
    toUs.toNat) → (3600000000 ≤ fromUs.toNat ∨ 3600000000 ≤ toUs.toNat ∨ hi < lo ∨ (s.at 750000).otime + 3600000000 < hi)
    → exec (.recFreeze h fromH fromUs toH toUs) s = .next (r.finish h.sess 0x0603 h.cseq 0x1004 (be32 0))) ∧
  (∀ (s : State) (h : Hdr) (x : CmdSession) (r : State) (fromH fromUs toH toUs : Word) (lo hi : Nat), (s.accepts h 0x0603 x =
    true) → (r = s.heard h.sess x) → (lo = fromH.toNat * 3600000000 + fromUs.toNat) → (hi = toH.toNat * 3600000000 +
    toUs.toNat) → (fromUs.toNat < 3600000000) → (toUs.toNat < 3600000000) → (lo ≤ hi) → (hi ≤ (s.at 750000).otime +
    3600000000) → (r.manualFreeze lo hi = none) → exec (.recFreeze h fromH fromUs toH toUs) s = .next (r.finish h.sess
    0x0603 h.cseq 0x2003 (be32 0))) ∧
  (∀ (s : State) (h : Hdr) (x : CmdSession) (r : State) (i : Nat), (s.accepts h 0x0604 x = true) → (r = s.heard h.sess x) →
    (7 < i ∨ (aget i s.sherd.freezes).isSome = false) → exec (.recRelease h i) s = .next (r.finish h.sess 0x0604 h.cseq
    0x1004 (be32 0))) ∧
  (∀ (s : State) (h : Hdr) (x : CmdSession) (r : State) (i enable : Nat) (ip : Word) (port : U16) (mask decim : Nat) (mram :
    Bool), (s.accepts h 0x0605 x = true) → (r = s.heard h.sess x) → (3 < i ∨ 1 < enable ∨ 256 ≤ mask ∨ decim = 0 ∨ 100 <
    decim) → exec (.telemConfig h i enable ip port mask decim mram) s = .next (r.finish h.sess 0x0605 h.cseq 0x1004 (be32
    0))) ∧
  (∀ (s : State) (h : Hdr) (x : CmdSession) (r : State) (i enable : Nat) (ip : Word) (port : U16) (mask decim : Nat),
    (s.accepts h 0x0605 x = true) → (r = s.heard h.sess x) → (i ≤ 3) → (enable ≤ 1) → (mask < 256) → (1 ≤ decim) → (decim
    ≤ 100) → exec (.telemConfig h i enable ip port mask decim false) s = .next (r.finish h.sess 0x0605 h.cseq 0x5002 (be32
    0))) ∧
  (∀ (s : State) (h : Hdr) (x : CmdSession) (r : State) (target len : Nat) (digest : List Byte), (s.accepts h 0x0A01 x =
    true) → (r = s.heard h.sess x) → (1 ≤ target) → (target ≤ 3) → (r.sec.bulk = none) → (len ≤ targetSize target) → exec
    (.bulkOpen h target len digest) s = .next (State.finish
    ({ r with sec := { r.sec with bulk := some { sess := h.sess, target := target, length := len, digest := digest, lastWrite := r.otime } } })
    h.sess 0x0A01 h.cseq 0 [])) ∧
  (∀ (s : State) (h : Hdr) (x : CmdSession) (r : State) (ofs : Nat) (data : List Byte) (b : Bulk), (s.accepts h 0x0A02 x =
    true) → (r = s.heard h.sess x) → (s.bulkOf h.sess = some b) → (r.bulkOf h.sess = some b) → (ofs = b.received.length) →
    exec (.bulkWrite h ofs data) s = .next (State.finish
    ({ r with sec := { r.sec with bulk := some { b with received := b.received ++ data, lastWrite := r.otime } } }) h.sess
    0x0A02 h.cseq 0 [])) ∧
  (∀ (s : State) (h : Hdr) (x : CmdSession) (r : State) (img : BulkImage) (b : Bulk), (s.accepts h 0x0A03 x = true) → (r =
    s.heard h.sess x) → (s.bulkOf h.sess = some b) → (r.bulkOf h.sess = some b) → (b.received.length = b.length) → (sha256
    b.received = b.digest) → (s.imageOk b.target img = true) → exec (.bulkClose h img true) s = .next (State.finish
    (r.stageImage img) h.sess 0x0A03 h.cseq 0 [])) ∧
  (∀ (s : State) (h : Hdr) (x : CmdSession) (r : State) (b : Bulk), (s.accepts h 0x0A04 x = true) → (r = s.heard h.sess x) →
    (r.bulkOf h.sess = some b) → exec (.bulkAbort h) s = .next (State.finish
    ({ r with sec := { r.sec with bulk := none } }) h.sess 0x0A04 h.cseq 0 [])) ∧
  (∀ (s : State) (h : Hdr) (x : CmdSession) (r : State), (s.accepts h 0x0A04 x = true) → (r = s.heard h.sess x) → (r.bulkOf
    h.sess = none) → exec (.bulkAbort h) s = .next (r.finish h.sess 0x0A04 h.cseq 0x2006 (be32 0))) ∧
  (∀ (s : State) (h : Hdr) (x : CmdSession) (r : State) (fromH fromUs toH toUs : Word) (lo hi i : Nat), (s.accepts h 0x0603 x
    = true) → (r = s.heard h.sess x) → (lo = fromH.toNat * 3600000000 + fromUs.toNat) → (hi = toH.toNat * 3600000000 +
    toUs.toNat) → (fromUs.toNat < 3600000000) → (toUs.toNat < 3600000000) → (lo ≤ hi) → (hi ≤ (s.at 750000).otime +
    3600000000) → (freeId r.sherd.freezes [0, 1, 2, 3] = some i) → (r.sherd.freezeFits (aset i { lo := lo, hi := hi }
    r.sherd.freezes) = true) → exec (.recFreeze h fromH fromUs toH toUs) s = .next (State.finish (State.raise
    { r with sherd := { r.sherd with freezes := aset i { lo := lo, hi := hi } r.sherd.freezes } } 0x0F000006#32
    [byteOf i]) h.sess 0x0603 h.cseq 0 [byteOf i])) ∧
  (∀ (s : State) (h : Hdr) (x : CmdSession) (r : State) (i : Nat), (s.accepts h 0x0604 x = true) → (r = s.heard h.sess x) →
    (i ≤ 7) → ((aget i s.sherd.freezes).isSome = true) → exec (.recRelease h i) s = .next (State.finish (r.releaseFreeze
    i) h.sess 0x0604 h.cseq 0 [])) ∧
  (∀ (s : State) (h : Hdr) (x : CmdSession) (r : State) (i enable : Nat) (ip : Word) (port : U16) (mask decim : Nat),
    (s.accepts h 0x0605 x = true) → (r = s.heard h.sess x) → (i ≤ 3) → (enable ≤ 1) → (mask < 256) → (1 ≤ decim) → (decim
    ≤ 100) → exec (.telemConfig h i enable ip port mask decim true) s = .next (State.finish
    ({ r with sherd := { r.sherd with streams := modifyAt r.sherd.streams i (fun v => { v with enable := enable == 1, ip := ip, port := port, mask := mask, decim := decim }) } })
    h.sess 0x0605 h.cseq 0 []))
end

