-- ==== Sys2Proof/Laws/Folds.lean ====
section
/-! SUPPORT. A fold whose every step leaves a part of the state as it was leaves it as it was. -/

namespace Sys2Proof.Machine

/-- A fold over states keeps what its step keeps. -/
theorem fold_proj {α β : Type} (π : State → β) (f : State → α → State) (h : ∀ a x, π (f a x) = π a) (l : List α) (s : State) :
    π (l.foldl f s) = π s := by
  induction l generalizing s with
  | nil => rfl
  | cons x l ih => rw [List.foldl_cons, ih, h]

/-- A fold over states with something beside keeps what its step keeps. -/
theorem fold_fst_proj {α β γ : Type} (π : State → β) (f : State × γ → α → State × γ) (h : ∀ a x, π (f a x).1 = π a.1)
    (l : List α) (p : State × γ) : π (l.foldl f p).1 = π p.1 := by
  induction l generalizing p with
  | nil => rfl
  | cons x l ih => rw [List.foldl_cons, ih, h]

@[simp] theorem foldl_mem {α : Type} (f : State → α → State) (h : ∀ a x, (f a x).mem = a.mem) (l : List α) (s : State) :
    (l.foldl f s).mem = s.mem := fold_proj State.mem f h l s
@[simp] theorem foldl_pending {α : Type} (f : State → α → State) (h : ∀ a x, (f a x).pending = a.pending) (l : List α)
    (s : State) : (l.foldl f s).pending = s.pending := fold_proj State.pending f h l s
@[simp] theorem foldl_fst_mem {α γ : Type} (f : State × γ → α → State × γ) (h : ∀ a x, (f a x).1.mem = a.1.mem) (l : List α)
    (p : State × γ) : (l.foldl f p).1.mem = p.1.mem := fold_fst_proj State.mem f h l p
@[simp] theorem foldl_fst_pending {α γ : Type} (f : State × γ → α → State × γ) (h : ∀ a x, (f a x).1.pending = a.1.pending)
    (l : List α) (p : State × γ) : (l.foldl f p).1.pending = p.1.pending := fold_fst_proj State.pending f h l p
@[simp] theorem ite_mem (c : Prop) [Decidable c] (a b : State) : (if c then a else b).mem = if c then a.mem else b.mem := by
  split <;> rfl
@[simp] theorem ite_pending (c : Prop) [Decidable c] (a b : State) :
    (if c then a else b).pending = if c then a.pending else b.pending := by split <;> rfl

/-- What holds of every value of an association list holds of the value found. -/
theorem aget_all {α : Type} (P : α → Prop) (k : Nat) (l : List (Nat × α)) (h : ∀ e ∈ l, P e.2) (v : α)
    (hv : aget k l = some v) : P v := by
  induction l with
  | nil => simp [aget] at hv
  | cons e l ih =>
    simp only [aget] at hv
    split at hv
    · cases hv; exact h _ (by simp)
    · exact ih (fun e he => h e (by simp [he])) hv

end Sys2Proof.Machine
end

