-- ==== Sys2Proof/Laws/FramesA.lean ====
section
/-! SUPPORT. What each operation of the model leaves as it was of the General SRAM and of the queue of waiting commands. -/

namespace Sys2Proof.Machine

@[simp] theorem State.at_keep (s : State) a0 : (State.at s a0).mem = s.mem ∧ (State.at s a0).pending = s.pending :=
  by simp only [State.at, and_self]
@[simp] theorem State.atDtime_keep (s : State) a0 : (State.atDtime s a0).mem = s.mem ∧ (State.atDtime s a0).pending = s.pending :=
  by simp [State.atDtime]
@[simp] theorem State.shows_keep (s : State) a0 : (State.shows s a0).mem = s.mem ∧ (State.shows s a0).pending = s.pending :=
  by simp only [State.shows, and_self]
@[simp] theorem State.emit_keep (s : State) a0 : (State.emit s a0).mem = s.mem ∧ (State.emit s a0).pending = s.pending :=
  by simp only [State.emit, and_self]
@[simp] theorem State.emitAll_keep (s : State) a0 : (State.emitAll s a0).mem = s.mem ∧ (State.emitAll s a0).pending = s.pending :=
  by simp [State.emitAll]
@[simp] theorem State.raiseRec_keep (s : State) a0 : (State.raiseRec s a0).mem = s.mem ∧ (State.raiseRec s a0).pending = s.pending :=
  by simp [State.raiseRec]
@[simp] theorem State.raisePlain_keep (s : State) a0 a1 : (State.raisePlain s a0 a1).mem = s.mem ∧ (State.raisePlain s a0 a1).pending = s.pending :=
  by simp [State.raisePlain]
@[simp] theorem State.incidentFreeze_keep (s : State) : (State.incidentFreeze s).mem = s.mem ∧ (State.incidentFreeze s).pending = s.pending :=
  by simp [State.incidentFreeze]
@[simp] theorem State.raise_keep (s : State) a0 a1 : (State.raise s a0 a1).mem = s.mem ∧ (State.raise s a0 a1).pending = s.pending :=
  by simp [State.raise]
@[simp] theorem State.raiseLimited_keep (s : State) a0 a1 a2 a3 : (State.raiseLimited s a0 a1 a2 a3).mem = s.mem ∧ (State.raiseLimited s a0 a1 a2 a3).pending = s.pending :=
  by constructor <;> (unfold State.raiseLimited; (repeat' split) <;> simp)
@[simp] theorem State.stage_keep (s : State) a0 a1 a2 a3 a4 a5 : (State.stage s a0 a1 a2 a3 a4 a5).mem = s.mem ∧ (State.stage s a0 a1 a2 a3 a4 a5).pending = s.pending :=
  by simp [State.stage]
@[simp] theorem State.releaseGuide_keep (s : State) a0 : (State.releaseGuide s a0).mem = s.mem ∧ (State.releaseGuide s a0).pending = s.pending :=
  by constructor <;> (unfold State.releaseGuide; (repeat' split) <;> simp)
@[simp] theorem State.draw_keep (s : State) : (State.draw s).2.mem = s.mem ∧ (State.draw s).2.pending = s.pending :=
  by simp only [State.draw, and_self]

@[simp] theorem State.shuttleStop_keep (s : State) : (State.shuttleStop s).mem = s.mem ∧ (State.shuttleStop s).pending = s.pending :=
  by simp [State.shuttleStop]
@[simp] theorem State.shuttleStart_keep (s : State) a0 : (State.shuttleStart s a0).mem = s.mem ∧ (State.shuttleStart s a0).pending = s.pending :=
  by simp [State.shuttleStart]
@[simp] theorem State.shuttleWarm_keep (s : State) : (State.shuttleWarm s).mem = s.mem ∧ (State.shuttleWarm s).pending = s.pending :=
  by simp [State.shuttleWarm]
@[simp] theorem State.shuttleReady_keep (s : State) : (State.shuttleReady s).mem = s.mem ∧ (State.shuttleReady s).pending = s.pending :=
  by simp [State.shuttleReady]

@[simp] theorem State.unsendBeat_keep (s : State) : (State.unsendBeat s).mem = s.mem ∧ (State.unsendBeat s).pending = s.pending :=
  by simp only [State.unsendBeat, and_self]
@[simp] theorem State.supersede_keep (s : State) a0 : (State.supersede s a0).mem = s.mem ∧ (State.supersede s a0).pending = s.pending :=
  by simp [State.supersede]
@[simp] theorem State.forceIdle_keep (s : State) : (State.forceIdle s).mem = s.mem ∧ (State.forceIdle s).pending = s.pending :=
  by simp [State.forceIdle]
@[simp] theorem State.openSlots_keep (s : State) : (State.openSlots s).mem = s.mem ∧ (State.openSlots s).pending = s.pending :=
  by simp only [State.openSlots, and_self]
@[simp] theorem State.plantStop_keep (s : State) : (State.plantStop s).mem = s.mem ∧ (State.plantStop s).pending = s.pending :=
  by simp only [State.plantStop, and_self]
@[simp] theorem State.stopGroup_keep (s : State) a0 : (State.stopGroup s a0).mem = s.mem ∧ (State.stopGroup s a0).pending = s.pending :=
  by simp [State.stopGroup]
@[simp] theorem State.heddleStop_keep (s : State) : (State.heddleStop s).mem = s.mem ∧ (State.heddleStop s).pending = s.pending :=
  by simp [State.heddleStop]

@[simp] theorem State.setStrm_keep (s : State) a0 a1 : (State.setStrm s a0 a1).mem = s.mem ∧ (State.setStrm s a0 a1).pending = s.pending :=
  by simp only [State.setStrm, and_self]
@[simp] theorem State.setChan_keep (s : State) a0 a1 : (State.setChan s a0 a1).mem = s.mem ∧ (State.setChan s a0 a1).pending = s.pending :=
  by simp only [State.setChan, and_self]
@[simp] theorem State.gnssStart_keep (s : State) : (State.gnssStart s).mem = s.mem ∧ (State.gnssStart s).pending = s.pending :=
  by simp only [State.gnssStart, and_self]
@[simp] theorem State.gnssFollow_keep (s : State) : (State.gnssFollow s).mem = s.mem ∧ (State.gnssFollow s).pending = s.pending :=
  by simp [State.gnssFollow]
@[simp] theorem State.acqNext_keep (s : State) : (State.acqNext s).mem = s.mem ∧ (State.acqNext s).pending = s.pending :=
  by constructor <;> (unfold State.acqNext; (repeat' split) <;> simp)
@[simp] theorem State.request313_keep (s : State) a0 a1 a2 a3 : (State.request313 s a0 a1 a2 a3).mem = s.mem ∧ (State.request313 s a0 a1 a2 a3).pending = s.pending :=
  by simp [State.request313]
@[simp] theorem State.requestLost_keep (s : State) a0 : (State.requestLost s a0).mem = s.mem ∧ (State.requestLost s a0).pending = s.pending :=
  by simp [State.requestLost]
@[simp] theorem State.chanLost_keep (s : State) a0 : (State.chanLost s a0).mem = s.mem ∧ (State.chanLost s a0).pending = s.pending :=
  by simp [State.chanLost]
@[simp] theorem State.streamLost_keep (s : State) a0 : (State.streamLost s a0).mem = s.mem ∧ (State.streamLost s a0).pending = s.pending :=
  by simp [State.streamLost]

@[simp] theorem State.startBeats_keep (s : State) : (State.startBeats s).mem = s.mem ∧ (State.startBeats s).pending = s.pending :=
  by simp [State.startBeats]
@[simp] theorem State.stopBeats_keep (s : State) : (State.stopBeats s).mem = s.mem ∧ (State.stopBeats s).pending = s.pending :=
  by simp [State.stopBeats]
@[simp] theorem State.setSt_keep (s : State) a0 : (State.setSt s a0).mem = s.mem ∧ (State.setSt s a0).pending = s.pending :=
  by constructor <;> (unfold State.setSt; (repeat' split) <;> simp)
@[simp] theorem State.setDeg_keep (s : State) a0 : (State.setDeg s a0).mem = s.mem ∧ (State.setDeg s a0).pending = s.pending :=
  by constructor <;> (unfold State.setDeg; (repeat' split) <;> simp)
@[simp] theorem State.clearDeg_keep (s : State) a0 : (State.clearDeg s a0).mem = s.mem ∧ (State.clearDeg s a0).pending = s.pending :=
  by simp [State.clearDeg]
@[simp] theorem State.pairSafe_keep (s : State) a0 : (State.pairSafe s a0).mem = s.mem ∧ (State.pairSafe s a0).pending = s.pending :=
  by simp [State.pairSafe]
@[simp] theorem State.enterSafe_keep (s : State) a0 : (State.enterSafe s a0).mem = s.mem ∧ (State.enterSafe s a0).pending = s.pending :=
  by constructor <;> (unfold State.enterSafe; (repeat' split) <;> simp)
@[simp] theorem State.loomFault_keep (s : State) : (State.loomFault s).mem = s.mem ∧ (State.loomFault s).pending = s.pending :=
  by simp [State.loomFault]
@[simp] theorem State.goIdle_keep (s : State) a0 : (State.goIdle s a0).mem = s.mem ∧ (State.goIdle s a0).pending = s.pending :=
  by simp [State.goIdle]
@[simp] theorem State.goReady_keep (s : State) : (State.goReady s).mem = s.mem ∧ (State.goReady s).pending = s.pending :=
  by simp [State.goReady]

@[simp] theorem State.setAch_keep (s : State) a0 a1 : (State.setAch s a0 a1).mem = s.mem ∧ (State.setAch s a0 a1).pending = s.pending :=
  by simp only [State.setAch, and_self]
@[simp] theorem State.unsettleAll_keep (s : State) : (State.unsettleAll s).mem = s.mem ∧ (State.unsettleAll s).pending = s.pending :=
  by simp [State.unsettleAll]
@[simp] theorem State.adcStart_keep (s : State) : (State.adcStart s).mem = s.mem ∧ (State.adcStart s).pending = s.pending :=
  by simp only [State.adcStart, and_self]
@[simp] theorem State.adcStop_keep (s : State) : (State.adcStop s).mem = s.mem ∧ (State.adcStop s).pending = s.pending :=
  by simp only [State.adcStop, and_self]
@[simp] theorem State.calSample_keep (s : State) a0 a1 a2 : (State.calSample s a0 a1 a2).mem = s.mem ∧ (State.calSample s a0 a1 a2).pending = s.pending :=
  by constructor <;> (unfold State.calSample; (repeat' split) <;> simp)
@[simp] theorem State.mapAnalog_keep (s : State) a0 : (State.mapAnalog s a0).mem = s.mem ∧ (State.mapAnalog s a0).pending = s.pending :=
  by constructor <;> (unfold State.mapAnalog; simp; repeat' (split <;> try simp))
@[simp] theorem State.deliver_keep (s : State) a0 a1 a2 a3 a4 a5 a6 a7 : (State.deliver s a0 a1 a2 a3 a4 a5 a6 a7).mem = s.mem ∧ (State.deliver s a0 a1 a2 a3 a4 a5 a6 a7).pending = s.pending :=
  by simp [State.deliver]
@[simp] theorem State.adcInvalid_keep (s : State) : (State.adcInvalid s).mem = s.mem ∧ (State.adcInvalid s).pending = s.pending :=
  by simp [State.adcInvalid]
@[simp] theorem State.excCheck_keep (s : State) a0 : (State.excCheck s a0).mem = s.mem ∧ (State.excCheck s a0).pending = s.pending :=
  by simp [State.excCheck]
@[simp] theorem State.calAbandon_keep (s : State) a0 : (State.calAbandon s a0).mem = s.mem ∧ (State.calAbandon s a0).pending = s.pending :=
  by simp [State.calAbandon]
@[simp] theorem State.calDone_keep (s : State) a0 : (State.calDone s a0).mem = s.mem ∧ (State.calDone s a0).pending = s.pending :=
  by simp only [State.calDone, and_self]
@[simp] theorem State.writeChsel_keep (s : State) a0 : (State.writeChsel s a0).mem = s.mem ∧ (State.writeChsel s a0).pending = s.pending :=
  by simp only [State.writeChsel, and_self]

@[simp] theorem State.setSession_keep (s : State) a0 a1 : (State.setSession s a0 a1).mem = s.mem ∧ (State.setSession s a0 a1).pending = s.pending :=
  by simp only [State.setSession, and_self]
@[simp] theorem State.setSta_keep (s : State) a0 a1 : (State.setSta s a0 a1).mem = s.mem ∧ (State.setSta s a0 a1).pending = s.pending :=
  by simp only [State.setSta, and_self]
@[simp] theorem State.stationHook_keep (s : State) a0 a1 a2 : (State.stationHook s a0 a1 a2).mem = s.mem ∧ (State.stationHook s a0 a1 a2).pending = s.pending :=
  by constructor <;> (unfold State.stationHook; (repeat' split) <;> simp)
@[simp] theorem State.sessTo_keep (s : State) a0 a1 a2 : (State.sessTo s a0 a1 a2).mem = s.mem ∧ (State.sessTo s a0 a1 a2).pending = s.pending :=
  by constructor <;> (unfold State.sessTo; (repeat' split) <;> simp)
@[simp] theorem State.glazeUnit_keep (s : State) a0 a1 a2 a3 : (State.glazeUnit s a0 a1 a2 a3).mem = s.mem ∧ (State.glazeUnit s a0 a1 a2 a3).pending = s.pending :=
  by constructor <;> (unfold State.glazeUnit; (repeat' split) <;> simp)
@[simp] theorem State.glazeRx_keep (s : State) a0 a1 : (State.glazeRx s a0 a1).mem = s.mem ∧ (State.glazeRx s a0 a1).pending = s.pending :=
  by constructor <;> (unfold State.glazeRx; (repeat' split) <;> simp)
@[simp] theorem State.glazeFail_keep (s : State) : (State.glazeFail s).mem = s.mem ∧ (State.glazeFail s).pending = s.pending :=
  by simp only [State.glazeFail, and_self]
@[simp] theorem State.sessAdmit_keep (s : State) a0 a1 a2 : (State.sessAdmit s a0 a1 a2).mem = s.mem ∧ (State.sessAdmit s a0 a1 a2).pending = s.pending :=
  by constructor <;> (unfold State.sessAdmit; simp; repeat' (split <;> try simp))
@[simp] theorem State.sessValid_keep (s : State) a0 a1 : (State.sessValid s a0 a1).mem = s.mem ∧ (State.sessValid s a0 a1).pending = s.pending :=
  by constructor <;> (unfold State.sessValid; (repeat' split) <;> simp)
@[simp] theorem State.sessReject_keep (s : State) a0 a1 a2 : (State.sessReject s a0 a1 a2).mem = s.mem ∧ (State.sessReject s a0 a1 a2).pending = s.pending :=
  by constructor <;> (unfold State.sessReject; (repeat' split) <;> simp)
@[simp] theorem State.charge_keep (s : State) a0 : (State.charge s a0).1.mem = s.mem ∧ (State.charge s a0).1.pending = s.pending :=
  by constructor <;> (unfold State.charge; (repeat' split) <;> simp)
@[simp] theorem State.sessStale_keep (s : State) a0 : (State.sessStale s a0).mem = s.mem ∧ (State.sessStale s a0).pending = s.pending :=
  by constructor <;> (unfold State.sessStale; (repeat' split) <;> simp)
@[simp] theorem State.sessLost_keep (s : State) a0 : (State.sessLost s a0).mem = s.mem ∧ (State.sessLost s a0).pending = s.pending :=
  by constructor <;> (unfold State.sessLost; (repeat' split) <;> simp)
@[simp] theorem State.sessUnbar_keep (s : State) a0 : (State.sessUnbar s a0).mem = s.mem ∧ (State.sessUnbar s a0).pending = s.pending :=
  by constructor <;> (unfold State.sessUnbar; (repeat' split) <;> simp)
@[simp] theorem State.sessPacket_keep (s : State) a0 : (State.sessPacket s a0).mem = s.mem ∧ (State.sessPacket s a0).pending = s.pending :=
  by constructor <;> (unfold State.sessPacket; (repeat' split) <;> simp)

@[simp] theorem State.setThr_keep (s : State) a0 a1 : (State.setThr s a0 a1).mem = s.mem ∧ (State.setThr s a0 a1).pending = s.pending :=
  by simp only [State.setThr, and_self]
@[simp] theorem State.logTau_keep (s : State) : (State.logTau s).mem = s.mem ∧ (State.logTau s).pending = s.pending :=
  by simp [State.logTau]

@[simp] theorem State.nextSeq_keep (s : State) a0 : (State.nextSeq s a0).2.mem = s.mem ∧ (State.nextSeq s a0).2.pending = s.pending :=
  by constructor <;> (unfold State.nextSeq; (repeat' split) <;> simp)
@[simp] theorem State.glazeTx_keep (s : State) a0 a1 : (State.glazeTx s a0 a1).mem = s.mem ∧ (State.glazeTx s a0 a1).pending = s.pending :=
  by constructor <;> (unfold State.glazeTx; (repeat' split) <;> simp)
@[simp] theorem State.driveFrame_keep (s : State) a0 a1 a2 : (State.driveFrame s a0 a1 a2).1.mem = s.mem ∧ (State.driveFrame s a0 a1 a2).1.pending = s.pending :=
  by simp [State.driveFrame]
@[simp] theorem State.driveFrames_keep (s : State) a0 : (State.driveFrames s a0).1.mem = s.mem ∧ (State.driveFrames s a0).1.pending = s.pending :=
  by
  induction a0 generalizing s with
  | nil => exact ⟨rfl, rfl⟩
  | cons p l ih => simp [State.driveFrames, ih]
@[simp] theorem State.safeFrames_keep (s : State) : (State.safeFrames s).1.mem = s.mem ∧ (State.safeFrames s).1.pending = s.pending :=
  by simp [State.safeFrames]

@[simp] theorem State.announceMembers_keep (s : State) a0 a1 : (State.announceMembers s a0 a1).mem = s.mem ∧ (State.announceMembers s a0 a1).pending = s.pending :=
  by simp [State.announceMembers]
@[simp] theorem State.takeGoose_keep (s : State) a0 a1 : (State.takeGoose s a0 a1).mem = s.mem ∧ (State.takeGoose s a0 a1).pending = s.pending :=
  by simp [State.takeGoose]
@[simp] theorem State.plantLimits_keep (s : State) : (State.plantLimits s).mem = s.mem ∧ (State.plantLimits s).pending = s.pending :=
  by simp only [State.plantLimits, and_self]
@[simp] theorem State.plantUpdate_keep (s : State) : (State.plantUpdate s).mem = s.mem ∧ (State.plantUpdate s).pending = s.pending :=
  by
  unfold State.plantUpdate
  extract_lets cut r p0 early di frames s1 s2 p2 gens ties p3 ids lost closedAt online s3 s4 island _ s5 s6 dead deadV _ s7 s8 p8
  have h2 : s2.mem = s.mem ∧ s2.pending = s.pending := by simp [s2, s1]
  have h3 : s3.mem = s.mem ∧ s3.pending = s.pending := h2
  clear_value s3
  have h5 : s5.mem = s.mem ∧ s5.pending = s.pending := by simp [s5, s4, h3]
  clear_value s5
  have h6 : s6.mem = s.mem ∧ s6.pending = s.pending := by simp only [s6]; split <;> simp [h5]
  have h7 : s7.mem = s.mem ∧ s7.pending = s.pending := h6
  clear_value s7
  have h8 : s8.mem = s.mem ∧ s8.pending = s.pending := by simp [s8, h7]
  clear_value s8
  simp [h8]
@[simp] theorem State.capThr_keep (s : State) a0 a1 : (State.capThr s a0 a1).1.mem = s.mem ∧ (State.capThr s a0 a1).1.pending = s.pending :=
  by constructor <;> (unfold State.capThr; simp; repeat' (split <;> try simp))
@[simp] theorem State.phaseIsland_keep (s : State) a0 : (State.phaseIsland s a0).1.mem = s.mem ∧ (State.phaseIsland s a0).1.pending = s.pending :=
  by
  unfold State.phaseIsland
  extract_lets l p dead st pairs total kappa
  constructor <;> (split; · simp) <;> (dsimp only; split <;> simp)
@[simp] theorem State.phaseBack_keep (s : State) : (State.phaseBack s).1.mem = s.mem ∧ (State.phaseBack s).1.pending = s.pending :=
  by
  unfold State.phaseBack
  constructor <;> (dsimp only; (repeat' split) <;> simp)
@[simp] theorem State.phaseRecord_keep (s : State) a0 : (State.phaseRecord s a0).mem = s.mem ∧ (State.phaseRecord s a0).pending = s.pending :=
  by simp [State.phaseRecord]
@[simp] theorem State.sendPhase_keep (s : State) a0 a1 : (State.sendPhase s a0 a1).mem = s.mem ∧ (State.sendPhase s a0 a1).pending = s.pending :=
  by simp [State.sendPhase]
@[simp] theorem State.writeSecsel_keep (s : State) a0 : (State.writeSecsel s a0).mem = s.mem ∧ (State.writeSecsel s a0).pending = s.pending :=
  by simp only [State.writeSecsel, and_self]
@[simp] theorem State.plantLatch_keep (s : State) : (State.plantLatch s).mem = s.mem ∧ (State.plantLatch s).pending = s.pending :=
  by simp only [State.plantLatch, and_self]

@[simp] theorem State.shiftTime_keep (s : State) a0 : (State.shiftTime s a0).mem = s.mem ∧ (State.shiftTime s a0).pending = s.pending :=
  by simp only [State.shiftTime, and_self]

@[simp] theorem State.fire_keep (s : State) a0 : (State.fire s a0).mem = s.mem ∧ (State.fire s a0).pending = s.pending :=
  by simp only [State.fire, and_self]
@[simp] theorem State.warpTick_keep (s : State) a0 : (State.warpTick s a0).mem = s.mem ∧ (State.warpTick s a0).pending = s.pending :=
  by simp [State.warpTick]
@[simp] theorem State.scrub_keep (s : State) a0 : (State.scrub s a0).mem = s.mem ∧ (State.scrub s a0).pending = s.pending :=
  by simp only [State.scrub, and_self]
@[simp] theorem State.dropBeat_keep (s : State) : (State.dropBeat s).mem = s.mem ∧ (State.dropBeat s).pending = s.pending :=
  by simp [State.dropBeat]
@[simp] theorem State.startBeat_keep (s : State) : (State.startBeat s).mem = s.mem ∧ (State.startBeat s).pending = s.pending :=
  by simp only [State.startBeat, and_self]
@[simp] theorem State.warpEdge_keep (s : State) : (State.warpEdge s).mem = s.mem ∧ (State.warpEdge s).pending = s.pending :=
  by simp [State.warpEdge]
@[simp] theorem State.pendingAtEdge_keep (s : State) : (State.pendingAtEdge s).mem = s.mem ∧ (State.pendingAtEdge s).pending = s.pending :=
  by constructor <;> (unfold State.pendingAtEdge; (repeat' split) <;> simp)
@[simp] theorem State.sendBeat_keep (s : State) a0 : (State.sendBeat s a0).mem = s.mem ∧ (State.sendBeat s a0).pending = s.pending :=
  by simp [State.sendBeat]
@[simp] theorem State.writeWarpCfg_keep (s : State) a0 : (State.writeWarpCfg s a0).mem = s.mem ∧ (State.writeWarpCfg s a0).pending = s.pending :=
  by simp [State.writeWarpCfg]
@[simp] theorem State.writeWarpCone_keep (s : State) a0 : (State.writeWarpCone s a0).mem = s.mem ∧ (State.writeWarpCone s a0).pending = s.pending :=
  by simp only [State.writeWarpCone, and_self]
@[simp] theorem State.writeWarpBg_keep (s : State) a0 : (State.writeWarpBg s a0).mem = s.mem ∧ (State.writeWarpBg s a0).pending = s.pending :=
  by simp only [State.writeWarpBg, and_self]
@[simp] theorem State.latchPick_keep (s : State) : (State.latchPick s).mem = s.mem ∧ (State.latchPick s).pending = s.pending :=
  by simp only [State.latchPick, and_self]
@[simp] theorem State.latchBeat_keep (s : State) : (State.latchBeat s).mem = s.mem ∧ (State.latchBeat s).pending = s.pending :=
  by simp only [State.latchBeat, and_self]
@[simp] theorem State.latchEdge_keep (s : State) : (State.latchEdge s).mem = s.mem ∧ (State.latchEdge s).pending = s.pending :=
  by simp only [State.latchEdge, and_self]
@[simp] theorem State.latchOtime_keep (s : State) : (State.latchOtime s).mem = s.mem ∧ (State.latchOtime s).pending = s.pending :=
  by simp only [State.latchOtime, and_self]

@[simp] theorem State.setHed_keep (s : State) a0 a1 : (State.setHed s a0 a1).mem = s.mem ∧ (State.setHed s a0 a1).pending = s.pending :=
  by simp only [State.setHed, and_self]
@[simp] theorem State.judgeTiming_keep (s : State) a0 a1 : (State.judgeTiming s a0 a1).mem = s.mem ∧ (State.judgeTiming s a0 a1).pending = s.pending :=
  by simp [State.judgeTiming]
@[simp] theorem State.setTrack_keep (s : State) a0 a1 : (State.setTrack s a0 a1).mem = s.mem ∧ (State.setTrack s a0 a1).pending = s.pending :=
  by simp only [State.setTrack, and_self]
@[simp] theorem State.deleteTrack_keep (s : State) a0 : (State.deleteTrack s a0).mem = s.mem ∧ (State.deleteTrack s a0).pending = s.pending :=
  by simp [State.deleteTrack]
@[simp] theorem State.missTrack_keep (s : State) a0 : (State.missTrack s a0).mem = s.mem ∧ (State.missTrack s a0).pending = s.pending :=
  by constructor <;> (unfold State.missTrack; simp; repeat' (split <;> try simp))
@[simp] theorem State.closeScan_keep (s : State) a0 : (State.closeScan s a0).mem = s.mem ∧ (State.closeScan s a0).pending = s.pending :=
  by simp [State.closeScan]
@[simp] theorem State.anchorAt_keep (s : State) a0 a1 : (State.anchorAt s a0 a1).mem = s.mem ∧ (State.anchorAt s a0 a1).pending = s.pending :=
  by simp [State.anchorAt]
@[simp] theorem State.anchorTrack_keep (s : State) a0 a1 : (State.anchorTrack s a0 a1).mem = s.mem ∧ (State.anchorTrack s a0 a1).pending = s.pending :=
  by constructor <;> (unfold State.anchorTrack; simp; repeat' (split <;> try simp))
@[simp] theorem State.hitTrack_keep (s : State) a0 a1 a2 a3 a4 a5 a6 a7 : (State.hitTrack s a0 a1 a2 a3 a4 a5 a6 a7).mem = s.mem ∧ (State.hitTrack s a0 a1 a2 a3 a4 a5 a6 a7).pending = s.pending :=
  by constructor <;> (unfold State.hitTrack; simp; repeat' (split <;> try simp))
@[simp] theorem State.detect_keep (s : State) a0 a1 a2 : (State.detect s a0 a1 a2).mem = s.mem ∧ (State.detect s a0 a1 a2).pending = s.pending :=
  by constructor <;> (unfold State.detect; simp; repeat' (split <;> try simp))
@[simp] theorem State.acceptRecord_keep (s : State) a0 a1 a2 a3 : (State.acceptRecord s a0 a1 a2 a3).mem = s.mem ∧ (State.acceptRecord s a0 a1 a2 a3).pending = s.pending :=
  by simp [State.acceptRecord]
@[simp] theorem State.acceptOne_keep (s : State) a0 a1 a2 a3 : (State.acceptOne s a0 a1 a2 a3).mem = s.mem ∧ (State.acceptOne s a0 a1 a2 a3).pending = s.pending :=
  by cases a3 <;> simp [State.acceptOne]
@[simp] theorem State.acceptAll_keep (s : State) a0 a1 a2 : (State.acceptAll s a0 a1 a2).mem = s.mem ∧ (State.acceptAll s a0 a1 a2).pending = s.pending :=
  ⟨foldl_mem _ (fun a x => (State.acceptOne_keep a _ _ _ _).1) _ _, foldl_pending _ (fun a x => (State.acceptOne_keep a _ _ _ _).2) _ _⟩
@[simp] theorem State.decodeBytes_keep (s : State) a0 a1 a2 a3 : (State.decodeBytes s a0 a1 a2 a3).mem = s.mem ∧ (State.decodeBytes s a0 a1 a2 a3).pending = s.pending :=
  by
  unfold State.decodeBytes
  have hc := State.charge_keep s a2.sess
  generalize s.charge a2.sess = q at hc
  rcases q with ⟨s1, ok⟩
  dsimp only at hc ⊢
  constructor <;> (repeat' split) <;> simp [hc]
theorem acceptOne_keep (a : State) i p t (x : Option Decoded × Bool) :
    (match x.1 with | some d => a.acceptRecord i p t d | none => a).mem = a.mem ∧
    (match x.1 with | some d => a.acceptRecord i p t d | none => a).pending = a.pending := by
  rcases x with ⟨_ | d, b⟩ <;> simp
@[simp] theorem State.decode_keep (s : State) a0 : (State.decode s a0).mem = s.mem ∧ (State.decode s a0).pending = s.pending :=
  by constructor <;> (unfold State.decode; simp; repeat' (split <;> try simp))
@[simp] theorem State.stageDone_keep (s : State) a0 a1 : (State.stageDone s a0 a1).mem = s.mem ∧ (State.stageDone s a0 a1).pending = s.pending :=
  by simp only [State.stageDone, and_self]
@[simp] theorem State.writeSesSel_keep (s : State) a0 : (State.writeSesSel s a0).mem = s.mem ∧ (State.writeSesSel s a0).pending = s.pending :=
  by simp only [State.writeSesSel, and_self]
@[simp] theorem State.writeTrkSel_keep (s : State) a0 : (State.writeTrkSel s a0).mem = s.mem ∧ (State.writeTrkSel s a0).pending = s.pending :=
  by simp only [State.writeTrkSel, and_self]

end Sys2Proof.Machine
end

