-- ==== Sys2Proof/Laws/FramesB.lean ====
section
/-! SUPPORT. What each operation of the model leaves as it was of the General SRAM and of the queue of waiting commands. -/

namespace Sys2Proof.Machine

@[simp] theorem State.projectOne_keep (s : State) a0 a1 a2 : (State.projectOne s a0 a1 a2).mem = s.mem ∧ (State.projectOne s a0 a1 a2).pending = s.pending :=
  by simp [State.projectOne]
@[simp] theorem State.projectSession_keep (s : State) a0 : (State.projectSession s a0).mem = s.mem ∧ (State.projectSession s a0).pending = s.pending :=
  by simp [State.projectSession]
@[simp] theorem State.setGroup_keep (s : State) a0 a1 : (State.setGroup s a0 a1).mem = s.mem ∧ (State.setGroup s a0 a1).pending = s.pending :=
  by simp only [State.setGroup, and_self]
@[simp] theorem State.markSuspect_keep (s : State) a0 a1 : (State.markSuspect s a0 a1).mem = s.mem ∧ (State.markSuspect s a0 a1).pending = s.pending :=
  by simp [State.markSuspect]
@[simp] theorem State.endContra_keep (s : State) a0 : (State.endContra s a0).mem = s.mem ∧ (State.endContra s a0).pending = s.pending :=
  by simp [State.endContra]
@[simp] theorem State.judgeFresh_keep (s : State) a0 a1 a2 : (State.judgeFresh s a0 a1 a2).mem = s.mem ∧ (State.judgeFresh s a0 a1 a2).pending = s.pending :=
  by simp [State.judgeFresh]
@[simp] theorem State.opSelect_keep (s : State) a0 a1 : (State.opSelect s a0 a1).mem = s.mem ∧ (State.opSelect s a0 a1).pending = s.pending :=
  by constructor <;> (unfold State.opSelect; simp; repeat' (split <;> try simp))
@[simp] theorem State.voteGroup_keep (s : State) p g :
    (State.voteGroup s p g).s.mem = s.mem ∧ (State.voteGroup s p g).s.pending = s.pending := by
  unfold State.voteGroup
  extract_lets gp ss cands v before s1 _ _ _ s1g s2 wa s3 desel acc sel below x3 s4 s5
  have h2 : s2.mem = s.mem ∧ s2.pending = s.pending := by
    clear_value v
    simp only [s2, s1g, s1]; cases v <;> dsimp only <;> split <;> simp
  have h3 : s3.mem = s.mem ∧ s3.pending = s.pending := by
    rw [← h2.1, ← h2.2]; clear_value s2
    exact ⟨foldl_mem _ (fun a c => by (repeat' split) <;> simp) _ _, foldl_pending _ (fun a c => by (repeat' split) <;> simp) _ _⟩
  clear_value s3 x3 acc
  simp only [s5, s4]; split <;> simp [h3]
@[simp] theorem State.projectAndVote_keep (s : State) : (State.projectAndVote s).mem = s.mem ∧ (State.projectAndVote s).pending = s.pending :=
  by
  unfold State.projectAndVote
  extract_lets all s0 pred pos hdg att hve wnd edge ages fresh w s1 sess
  have h : s1.mem = s.mem ∧ s1.pending = s.pending := by
    simp [s1, wnd, hve, att, hdg, pos, s0]
  clear_value s1
  simp [h]

@[simp] theorem State.reacquire_keep (s : State) a0 a1 a2 : (State.reacquire s a0 a1 a2).mem = s.mem ∧ (State.reacquire s a0 a1 a2).pending = s.pending :=
  by simp [State.reacquire]
@[simp] theorem State.guardActs_keep (s : State) : (State.guardActs s).mem = s.mem ∧ (State.guardActs s).pending = s.pending :=
  by simp [State.guardActs]
@[simp] theorem State.drStatus_keep (s : State) a0 : (State.drStatus s a0).mem = s.mem ∧ (State.drStatus s a0).pending = s.pending :=
  by simp [State.drStatus]
@[simp] theorem State.crossPos_keep (s : State) a0 : (State.crossPos s a0).mem = s.mem ∧ (State.crossPos s a0).pending = s.pending :=
  by simp [State.crossPos]
@[simp] theorem State.crossHdg_keep (s : State) a0 : (State.crossHdg s a0).mem = s.mem ∧ (State.crossHdg s a0).pending = s.pending :=
  by simp [State.crossHdg]
@[simp] theorem State.passThrough_keep (s : State) : (State.passThrough s).mem = s.mem ∧ (State.passThrough s).pending = s.pending :=
  by simp only [State.passThrough, and_self]
@[simp] theorem State.putRecord_keep (s : State) a0 : (State.putRecord s a0).mem = s.mem ∧ (State.putRecord s a0).pending = s.pending :=
  by simp only [State.putRecord, and_self]
@[simp] theorem State.obsEnd_keep (s : State) a0 a1 a2 a3 a4 a5 a6 : (State.obsEnd s a0 a1 a2 a3 a4 a5 a6).mem = s.mem ∧ (State.obsEnd s a0 a1 a2 a3 a4 a5 a6).pending = s.pending :=
  by simp [State.obsEnd]
@[simp] theorem State.obsInit_keep (s : State) a0 a1 a2 a3 a4 : (State.obsInit s a0 a1 a2 a3 a4).mem = s.mem ∧ (State.obsInit s a0 a1 a2 a3 a4).pending = s.pending :=
  by simp [State.obsInit]
@[simp] theorem obsPart1_keep md d w tk r m :
    (obsPart1 md d w tk r m).s.mem = r.s.mem ∧ (obsPart1 md d w tk r m).s.pending = r.s.pending := by simp [obsPart1]
@[simp] theorem obsPart2_keep md d tk r m :
    (obsPart2 md d tk r m).s.mem = r.s.mem ∧ (obsPart2 md d tk r m).s.pending = r.s.pending := by
  unfold obsPart2; split <;> simp
@[simp] theorem obsParts1_keep md d w tk l r :
    (List.foldl (obsPart1 md d w tk) r l).s.mem = r.s.mem ∧ (List.foldl (obsPart1 md d w tk) r l).s.pending = r.s.pending := by
  induction l generalizing r with
  | nil => exact ⟨rfl, rfl⟩
  | cons m l ih => simp [ih]
@[simp] theorem obsParts2_keep md d tk l r :
    (List.foldl (obsPart2 md d tk) r l).s.mem = r.s.mem ∧ (List.foldl (obsPart2 md d tk) r l).s.pending = r.s.pending := by
  induction l generalizing r with
  | nil => exact ⟨rfl, rfl⟩
  | cons m l ih => simp [ih]
@[simp] theorem State.obsRun_keep (s : State) a0 a1 a2 : (State.obsRun s a0 a1 a2).mem = s.mem ∧ (State.obsRun s a0 a1 a2).pending = s.pending :=
  by simp [State.obsRun]
@[simp] theorem State.observe_keep (s : State) : (State.observe s).mem = s.mem ∧ (State.observe s).pending = s.pending :=
  by constructor <;> (unfold State.observe; (repeat' split) <;> simp)
@[simp] theorem State.keepStat_keep (s : State) : (State.keepStat s).mem = s.mem ∧ (State.keepStat s).pending = s.pending :=
  by simp only [State.keepStat, and_self]
@[simp] theorem State.waveDof_keep (s : State) a0 a1 a2 : (State.waveDof s a0 a1 a2).mem = s.mem ∧ (State.waveDof s a0 a1 a2).pending = s.pending :=
  by simp [State.waveDof]
@[simp] theorem State.writeWarm_keep (s : State) : (State.writeWarm s).mem = s.mem ∧ (State.writeWarm s).pending = s.pending :=
  by simp [State.writeWarm]
@[simp] theorem State.writeObsSel_keep (s : State) a0 : (State.writeObsSel s a0).mem = s.mem ∧ (State.writeObsSel s a0).pending = s.pending :=
  by simp only [State.writeObsSel, and_self]

@[simp] theorem State.availability_keep (s : State) : (State.availability s).mem = s.mem ∧ (State.availability s).pending = s.pending :=
  by constructor <;> (unfold State.availability; repeat' (first | (simp; done) | (rw [foldl_mem]; rotate_left; intro a x) | (rw [foldl_fst_mem]; rotate_left; intro a x) | (rw [foldl_pending]; rotate_left; intro a x) | (rw [foldl_fst_pending]; rotate_left; intro a x) | split))
@[simp] theorem State.applyCommands_keep (s : State) : (State.applyCommands s).mem = s.mem ∧ (State.applyCommands s).pending = s.pending :=
  by
  unfold State.applyCommands
  extract_lets due before s1 leads lifted
  have h : s1.mem = s.mem ∧ s1.pending = s.pending :=
    ⟨foldl_mem _ (fun a c => by dsimp only; (repeat' split) <;> simp) _ _,
      foldl_pending _ (fun a c => by dsimp only; (repeat' split) <;> simp) _ _⟩
  clear_value s1
  simp [h]
@[simp] theorem State.latchRole_keep (s : State) : (State.latchRole s).mem = s.mem ∧ (State.latchRole s).pending = s.pending :=
  by simp only [State.latchRole, and_self]
@[simp] theorem State.writeImage_keep (s : State) : (State.writeImage s).mem = s.mem ∧ (State.writeImage s).pending = s.pending :=
  by constructor <;> (unfold State.writeImage; (repeat' split) <;> simp)
@[simp] theorem State.writeThrsel_keep (s : State) a0 : (State.writeThrsel s a0).mem = s.mem ∧ (State.writeThrsel s a0).pending = s.pending :=
  by constructor <;> (unfold State.writeThrsel; simp; repeat' (split <;> try simp))

@[simp] theorem State.softStart_keep (s : State) a0 a1 : (State.softStart s a0 a1).mem = s.mem ∧ (State.softStart s a0 a1).pending = s.pending :=
  by simp only [State.softStart, and_self]
@[simp] theorem State.forced_keep (s : State) a0 a1 a2 : (State.forced s a0 a1 a2).mem = s.mem ∧ (State.forced s a0 a1 a2).pending = s.pending :=
  by simp [State.forced]
@[simp] theorem State.forcedChanges_keep (s : State) : (State.forcedChanges s).mem = s.mem ∧ (State.forcedChanges s).pending = s.pending :=
  by simp [State.forcedChanges]
@[simp] theorem State.applyMode_keep (s : State) a0 a1 a2 : (State.applyMode s a0 a1 a2).mem = s.mem ∧ (State.applyMode s a0 a1 a2).pending = s.pending :=
  by simp [State.applyMode]
@[simp] theorem State.applySetpoint_keep (s : State) a0 : (State.applySetpoint s a0).mem = s.mem ∧ (State.applySetpoint s a0).pending = s.pending :=
  by constructor <;> (unfold State.applySetpoint; (repeat' split) <;> simp)
@[simp] theorem State.applyLatched_keep (s : State) : (State.applyLatched s).mem = s.mem ∧ (State.applyLatched s).pending = s.pending :=
  by constructor <;> (unfold State.applyLatched; repeat' (first | (simp; done) | (rw [foldl_mem]; rotate_left; intro a x) | (rw [foldl_fst_mem]; rotate_left; intro a x) | (rw [foldl_pending]; rotate_left; intro a x) | (rw [foldl_fst_pending]; rotate_left; intro a x) | split))
@[simp] theorem State.joystick_keep (s : State) a0 : (State.joystick s a0).1.mem = s.mem ∧ (State.joystick s a0).1.pending = s.pending :=
  by
  unfold State.joystick
  split
  · simp
  · extract_lets live g serial s1 s2
    have h2 : s2.mem = s.mem ∧ s2.pending = s.pending := by
      simp only [s2, s1]; (repeat' split) <;> simp
    clear_value s2
    (repeat' split) <;> simp [h2]
@[simp] theorem State.windForce_keep (s : State) a0 a1 : (State.windForce s a0 a1).mem = s.mem ∧ (State.windForce s a0 a1).pending = s.pending :=
  by constructor <;> (unfold State.windForce; simp; repeat' (split <;> try simp))
@[simp] theorem State.moveSetpoints_keep (s : State) a0 a1 a2 : (State.moveSetpoints s a0 a1 a2).mem = s.mem ∧ (State.moveSetpoints s a0 a1 a2).pending = s.pending :=
  by constructor <;> (unfold State.moveSetpoints; simp; repeat' (split <;> try simp))
@[simp] theorem State.followEstimate_keep (s : State) : (State.followEstimate s).mem = s.mem ∧ (State.followEstimate s).pending = s.pending :=
  by simp [State.followEstimate]
@[simp] theorem State.crossTrack_keep (s : State) a0 : (State.crossTrack s a0).mem = s.mem ∧ (State.crossTrack s a0).pending = s.pending :=
  by simp [State.crossTrack]
@[simp] theorem State.blend_keep (s : State) a0 : (State.blend s a0).mem = s.mem ∧ (State.blend s a0).pending = s.pending :=
  by constructor <;> (unfold State.blend; simp; repeat' (split <;> try simp))
@[simp] theorem State.guideRun_keep (s : State) a0 : (State.guideRun s a0).mem = s.mem ∧ (State.guideRun s a0).pending = s.pending :=
  by simp [State.guideRun]

@[simp] theorem State.putInp_keep (s : State) a0 a1 : (State.putInp s a0 a1).mem = s.mem ∧ (State.putInp s a0 a1).pending = s.pending :=
  by simp only [State.putInp, and_self]
@[simp] theorem State.mapModule_keep (s : State) a0 a1 : (State.mapModule s a0 a1).mem = s.mem ∧ (State.mapModule s a0 a1).pending = s.pending :=
  by constructor <;> (unfold State.mapModule; (repeat' split) <;> simp)
@[simp] theorem State.glazeModule_keep (s : State) a0 a1 a2 a3 : (State.glazeModule s a0 a1 a2 a3).mem = s.mem ∧ (State.glazeModule s a0 a1 a2 a3).pending = s.pending :=
  by constructor <;> (unfold State.glazeModule; (repeat' split) <;> simp)
@[simp] theorem State.takeBlock_keep (s : State) a0 a1 a2 a3 : (State.takeBlock s a0 a1 a2 a3).1.mem = s.mem ∧ (State.takeBlock s a0 a1 a2 a3).1.pending = s.pending :=
  by
  unfold State.takeBlock
  split
  · simp
  · extract_lets port s0 x m s1 ups
    have h0 : s0.mem = s.mem ∧ s0.pending = s.pending := by simp [s0]
    have h1 : s1.mem = s.mem ∧ s1.pending = s.pending := by simp [s1, h0]
    clear_value s0 s1
    split
    · simp [h1]
    · constructor <;> (dsimp only; (repeat' split) <;> simp [h0])
@[simp] theorem State.mapFast_keep (s : State) a0 : (State.mapFast s a0).mem = s.mem ∧ (State.mapFast s a0).pending = s.pending :=
  by simp only [State.mapFast, and_self]
@[simp] theorem State.latchSta_keep (s : State) a0 : (State.latchSta s a0).mem = s.mem ∧ (State.latchSta s a0).pending = s.pending :=
  by constructor <;> (unfold State.latchSta; simp; repeat' (split <;> try simp))
@[simp] theorem State.rioLatch_keep (s : State) : (State.rioLatch s).mem = s.mem ∧ (State.rioLatch s).pending = s.pending :=
  by simp [State.rioLatch]
@[simp] theorem State.request_keep (s : State) a0 : (State.request s a0).mem = s.mem ∧ (State.request s a0).pending = s.pending :=
  by simp [State.request]
@[simp] theorem State.writeStasel_keep (s : State) a0 : (State.writeStasel s a0).mem = s.mem ∧ (State.writeStasel s a0).pending = s.pending :=
  by simp only [State.writeStasel, and_self]

@[simp] theorem State.setSlot_keep (s : State) a0 a1 : (State.setSlot s a0 a1).mem = s.mem ∧ (State.setSlot s a0 a1).pending = s.pending :=
  by simp only [State.setSlot, and_self]
@[simp] theorem State.fallback_keep (s : State) a0 a1 a2 a3 a4 : (State.fallback s a0 a1 a2 a3 a4).mem = s.mem ∧ (State.fallback s a0 a1 a2 a3 a4).pending = s.pending :=
  by simp [State.fallback]
@[simp] theorem State.setClosed_keep (s : State) a0 a1 : (State.setClosed s a0 a1).mem = s.mem ∧ (State.setClosed s a0 a1).pending = s.pending :=
  by simp [State.setClosed]
@[simp] theorem State.enterClosed_keep (s : State) a0 a1 : (State.enterClosed s a0 a1).mem = s.mem ∧ (State.enterClosed s a0 a1).pending = s.pending :=
  by simp [State.enterClosed]
@[simp] theorem State.softEntry_keep (s : State) a0 a1 a2 a3 : (State.softEntry s a0 a1 a2 a3).mem = s.mem ∧ (State.softEntry s a0 a1 a2 a3).pending = s.pending :=
  by simp [State.softEntry]
@[simp] theorem State.dropCtrls_keep (s : State) a0 a1 a2 : (State.dropCtrls s a0 a1 a2).1.mem = s.mem ∧ (State.dropCtrls s a0 a1 a2).1.pending = s.pending :=
  by simp [State.dropCtrls]
@[simp] theorem State.runFall_keep (s : State) a0 a1 a2 a3 a4 : (State.runFall s a0 a1 a2 a3 a4).mem = s.mem ∧ (State.runFall s a0 a1 a2 a3 a4).pending = s.pending :=
  by simp [State.runFall]
@[simp] theorem State.runLaw_keep (s : State) a0 a1 a2 a3 a4 : (State.runLaw s a0 a1 a2 a3 a4).1.mem = s.mem ∧ (State.runLaw s a0 a1 a2 a3 a4).1.pending = s.pending :=
  by constructor <;> (unfold State.runLaw; simp; repeat' (split <;> try simp))
@[simp] theorem State.runSlot_keep (s : State) a0 : (State.runSlot s a0).mem = s.mem ∧ (State.runSlot s a0).pending = s.pending :=
  by constructor <;> (unfold State.runSlot; (repeat' split) <;> simp)
@[simp] theorem State.slotSend_keep (s : State) a0 : (State.slotSend s a0).mem = s.mem ∧ (State.slotSend s a0).pending = s.pending :=
  by simp [State.slotSend]
@[simp] theorem State.slotOverrun_keep (s : State) a0 : (State.slotOverrun s a0).mem = s.mem ∧ (State.slotOverrun s a0).pending = s.pending :=
  by constructor <;> (unfold State.slotOverrun; (repeat' split) <;> simp)
@[simp] theorem State.writeSlotsel_keep (s : State) a0 : (State.writeSlotsel s a0).mem = s.mem ∧ (State.writeSlotsel s a0).pending = s.pending :=
  by simp only [State.writeSlotsel, and_self]

@[simp] theorem State.twAbort_keep (s : State) a0 a1 a2 : (State.twAbort s a0 a1 a2).mem = s.mem ∧ (State.twAbort s a0 a1 a2).pending = s.pending :=
  by simp [State.twAbort]
@[simp] theorem State.twStray_keep (s : State) a0 a1 : (State.twStray s a0 a1).mem = s.mem ∧ (State.twStray s a0 a1).pending = s.pending :=
  by simp [State.twStray]
@[simp] theorem State.twOther_keep (s : State) a0 a1 a2 : (State.twOther s a0 a1 a2).mem = s.mem ∧ (State.twOther s a0 a1 a2).pending = s.pending :=
  by simp [State.twOther]
@[simp] theorem State.twRun_keep (s : State) a0 a1 : (State.twRun s a0 a1).mem = s.mem ∧ (State.twRun s a0 a1).pending = s.pending :=
  by constructor <;> (unfold State.twRun; (repeat' split) <;> simp)
@[simp] theorem State.twCommit_keep (s : State) a0 a1 : (State.twCommit s a0 a1).mem = s.mem ∧ (State.twCommit s a0 a1).pending = s.pending :=
  by simp only [State.twCommit, and_self]

@[simp] theorem State.glazeSelftest_keep (s : State) a0 : (State.glazeSelftest s a0).mem = s.mem ∧ (State.glazeSelftest s a0).pending = s.pending :=
  by simp [State.glazeSelftest]
@[simp] theorem State.writeSwsel_keep (s : State) a0 : (State.writeSwsel s a0).mem = s.mem ∧ (State.writeSwsel s a0).pending = s.pending :=
  by constructor <;> (unfold State.writeSwsel; simp; repeat' (split <;> try simp))
@[simp] theorem State.writeSwrun_keep (s : State) a0 : (State.writeSwrun s a0).mem = s.mem ∧ (State.writeSwrun s a0).pending = s.pending :=
  by simp only [State.writeSwrun, and_self]
@[simp] theorem State.writeSwdata_keep (s : State) a0 : (State.writeSwdata s a0).mem = s.mem ∧ (State.writeSwdata s a0).pending = s.pending :=
  by simp only [State.writeSwdata, and_self]
@[simp] theorem State.writePssel_keep (s : State) a0 : (State.writePssel s a0).mem = s.mem ∧ (State.writePssel s a0).pending = s.pending :=
  by constructor <;> (unfold State.writePssel; simp; repeat' (split <;> try simp))

@[simp] theorem State.armRetrain_keep (s : State) a0 : (State.armRetrain s a0).mem = s.mem ∧ (State.armRetrain s a0).pending = s.pending :=
  by simp [State.armRetrain]
@[simp] theorem State.streamDown_keep (s : State) a0 : (State.streamDown s a0).mem = s.mem ∧ (State.streamDown s a0).pending = s.pending :=
  by simp [State.streamDown]
@[simp] theorem State.streamPick_keep (s : State) a0 a1 : (State.streamPick s a0 a1).mem = s.mem ∧ (State.streamPick s a0 a1).pending = s.pending :=
  by simp [State.streamPick]
@[simp] theorem State.streamsPick_keep (s : State) a0 : (State.streamsPick s a0).mem = s.mem ∧ (State.streamsPick s a0).pending = s.pending :=
  by constructor <;> (unfold State.streamsPick; repeat' (first | (simp; done) | (rw [foldl_mem]; rotate_left; intro a x) | (rw [foldl_fst_mem]; rotate_left; intro a x) | (rw [foldl_pending]; rotate_left; intro a x) | (rw [foldl_fst_pending]; rotate_left; intro a x) | split))
@[simp] theorem State.trainStream_keep (s : State) a0 a1 : (State.trainStream s a0 a1).mem = s.mem ∧ (State.trainStream s a0 a1).pending = s.pending :=
  by simp [State.trainStream]
@[simp] theorem State.gnssRetrain_keep (s : State) a0 : (State.gnssRetrain s a0).mem = s.mem ∧ (State.gnssRetrain s a0).pending = s.pending :=
  by simp only [State.gnssRetrain, and_self]
@[simp] theorem State.acqDone_keep (s : State) a0 : (State.acqDone s a0).mem = s.mem ∧ (State.acqDone s a0).pending = s.pending :=
  by simp [State.acqDone]
@[simp] theorem State.startChan_keep (s : State) a0 a1 a2 : (State.startChan s a0 a1 a2).mem = s.mem ∧ (State.startChan s a0 a1 a2).pending = s.pending :=
  by simp [State.startChan]
@[simp] theorem State.releaseUnit_keep (s : State) a0 : (State.releaseUnit s a0).mem = s.mem ∧ (State.releaseUnit s a0).pending = s.pending :=
  by simp [State.releaseUnit]
@[simp] theorem State.assign_keep (s : State) a0 a1 a2 a3 a4 : (State.assign s a0 a1 a2 a3 a4).mem = s.mem ∧ (State.assign s a0 a1 a2 a3 a4).pending = s.pending :=
  by simp [State.assign]
@[simp] theorem State.assignAll_keep (s : State) a0 a1 a2 a3 a4 : (State.assignAll s a0 a1 a2 a3 a4).mem = s.mem ∧ (State.assignAll s a0 a1 a2 a3 a4).pending = s.pending :=
  by
  induction a3 generalizing s a4 with
  | nil => simp [State.assignAll]
  | cons k ks ih => cases a4 <;> simp [State.assignAll, ih]
@[simp] theorem State.displace_keep (s : State) a0 a1 : (State.displace s a0 a1).mem = s.mem ∧ (State.displace s a0 a1).pending = s.pending :=
  by
  induction a1 generalizing s with
  | nil => exact ⟨rfl, rfl⟩
  | cons p l ih => simp only [State.displace]; split <;> simp [ih]
@[simp] theorem State.releaseLow_keep (s : State) a0 : (State.releaseLow s a0).mem = s.mem ∧ (State.releaseLow s a0).pending = s.pending :=
  by simp [State.releaseLow]
@[simp] theorem State.askAgain_keep (s : State) a0 a1 : (State.askAgain s a0 a1).mem = s.mem ∧ (State.askAgain s a0 a1).pending = s.pending :=
  by constructor <;> (unfold State.askAgain; simp; repeat' (split <;> try simp))
@[simp] theorem State.writeStrmsel_keep (s : State) a0 : (State.writeStrmsel s a0).mem = s.mem ∧ (State.writeStrmsel s a0).pending = s.pending :=
  by simp only [State.writeStrmsel, and_self]
@[simp] theorem State.writeGnssChsel_keep (s : State) a0 : (State.writeGnssChsel s a0).mem = s.mem ∧ (State.writeGnssChsel s a0).pending = s.pending :=
  by simp only [State.writeGnssChsel, and_self]

@[simp] theorem State.setSrc_keep (s : State) a0 a1 : (State.setSrc s a0 a1).mem = s.mem ∧ (State.setSrc s a0 a1).pending = s.pending :=
  by simp only [State.setSrc, and_self]
@[simp] theorem State.settle_keep a0 (s : State) : (State.settle a0 s).mem = s.mem ∧ (State.settle a0 s).pending = s.pending :=
  by
  induction a0 generalizing s with
  | zero => exact ⟨rfl, rfl⟩
  | succ k ih => simp only [State.settle]; split <;> simp [ih]
@[simp] theorem State.setTp_keep (s : State) a0 : (State.setTp s a0).mem = s.mem ∧ (State.setTp s a0).pending = s.pending :=
  by simp [State.setTp]
@[simp] theorem State.enterHold_keep (s : State) : (State.enterHold s).mem = s.mem ∧ (State.enterHold s).pending = s.pending :=
  by simp [State.enterHold]
@[simp] theorem State.exitHold_keep (s : State) : (State.exitHold s).mem = s.mem ∧ (State.exitHold s).pending = s.pending :=
  by simp [State.exitHold]
@[simp] theorem State.bphCheck_keep (s : State) : (State.bphCheck s).mem = s.mem ∧ (State.bphCheck s).pending = s.pending :=
  by simp only [State.bphCheck, and_self]
@[simp] theorem State.moveTime_keep (s : State) a0 : (State.moveTime s a0).mem = s.mem ∧ (State.moveTime s a0).pending = s.pending :=
  by simp [State.moveTime]
@[simp] theorem State.establish_keep (s : State) : (State.establish s).mem = s.mem ∧ (State.establish s).pending = s.pending :=
  by simp [State.establish]
@[simp] theorem State.leapUpdate_keep (s : State) : (State.leapUpdate s).mem = s.mem ∧ (State.leapUpdate s).pending = s.pending :=
  by simp [State.leapUpdate]
@[simp] theorem State.servo_keep (s : State) a0 : (State.servo s a0).mem = s.mem ∧ (State.servo s a0).pending = s.pending :=
  by simp only [State.servo, and_self]
@[simp] theorem State.reselect_keep (s : State) : (State.reselect s).mem = s.mem ∧ (State.reselect s).pending = s.pending :=
  by simp [State.reselect]
@[simp] theorem State.srcLost_keep (s : State) a0 : (State.srcLost s a0).mem = s.mem ∧ (State.srcLost s a0).pending = s.pending :=
  by simp [State.srcLost]
@[simp] theorem State.srcFault_keep (s : State) a0 : (State.srcFault s a0).mem = s.mem ∧ (State.srcFault s a0).pending = s.pending :=
  by simp [State.srcFault]
@[simp] theorem State.suspectWatch_keep (s : State) : (State.suspectWatch s).mem = s.mem ∧ (State.suspectWatch s).pending = s.pending :=
  by simp only [State.suspectWatch, and_self]
@[simp] theorem State.timeSample_keep (s : State) a0 a1 a2 : (State.timeSample s a0 a1 a2).mem = s.mem ∧ (State.timeSample s a0 a1 a2).pending = s.pending :=
  by simp [State.timeSample]
@[simp] theorem State.timePick_keep (s : State) : (State.timePick s).mem = s.mem ∧ (State.timePick s).pending = s.pending :=
  by simp only [State.timePick, and_self]

end Sys2Proof.Machine
end

