-- ==== Sys2Proof/Laws/FramesC.lean ====
section
/-! SUPPORT. What each operation of the model leaves as it was of the General SRAM and of the queue of waiting commands. -/

namespace Sys2Proof.Machine

@[simp] theorem State.exclude_keep (s : State) a0 a1 a2 a3 a4 a5 : (State.exclude s a0 a1 a2 a3 a4 a5).mem = s.mem ∧ (State.exclude s a0 a1 a2 a3 a4 a5).pending = s.pending :=
  by simp [State.exclude]
@[simp] theorem State.latchBegin_keep (s : State) : (State.latchBegin s).mem = s.mem ∧ (State.latchBegin s).pending = s.pending :=
  by simp only [State.latchBegin, and_self]

@[simp] theorem State.crossBand_keep (s : State) a0 : (State.crossBand s a0).mem = s.mem ∧ (State.crossBand s a0).pending = s.pending :=
  ⟨foldl_mem _ (fun a p => by dsimp only; split <;> simp) _ _,
    foldl_pending _ (fun a p => by dsimp only; split <;> simp) _ _⟩
@[simp] theorem State.aoaTest_keep (s : State) a0 : (State.aoaTest s a0).mem = s.mem ∧ (State.aoaTest s a0).pending = s.pending :=
  by simp [State.aoaTest]
@[simp] theorem State.solvePos_keep a0 a1 (s : State) : (State.solvePos a0 a1 s).1.mem = s.mem ∧ (State.solvePos a0 a1 s).1.pending = s.pending :=
  by
  induction a1 generalizing s with
  | zero => unfold State.solvePos; (repeat' split) <;> first | (simp; done) | contradiction
  | succ n ih =>
    unfold State.solvePos; (repeat' split) <;> first | (simp; done) | (rename_i h; cases h; simp [ih])
@[simp] theorem State.conTest_keep (s : State) a0 : (State.conTest s a0).mem = s.mem ∧ (State.conTest s a0).pending = s.pending :=
  by constructor <;> (unfold State.conTest; repeat' (first | (simp; done) | (rw [foldl_mem]; rotate_left; intro a x) | (rw [foldl_fst_mem]; rotate_left; intro a x) | (rw [foldl_pending]; rotate_left; intro a x) | (rw [foldl_fst_pending]; rotate_left; intro a x) | split))
@[simp] theorem State.withdrawClk_keep (s : State) : (State.withdrawClk s).mem = s.mem ∧ (State.withdrawClk s).pending = s.pending :=
  by simp [State.withdrawClk]
@[simp] theorem State.withdrawCommon_keep (s : State) : (State.withdrawCommon s).mem = s.mem ∧ (State.withdrawCommon s).pending = s.pending :=
  by simp [State.withdrawCommon]
@[simp] theorem State.clkTest_keep (s : State) a0 a1 : (State.clkTest s a0 a1).mem = s.mem ∧ (State.clkTest s a0 a1).pending = s.pending :=
  by constructor <;> (unfold State.clkTest; (repeat' split) <;> simp)
@[simp] theorem State.commonTest_keep (s : State) a0 : (State.commonTest s a0).mem = s.mem ∧ (State.commonTest s a0).pending = s.pending :=
  by simp [State.commonTest]
@[simp] theorem State.classReact_keep (s : State) : (State.classReact s).mem = s.mem ∧ (State.classReact s).pending = s.pending :=
  by simp [State.classReact]
@[simp] theorem State.rtkEvents_keep (s : State) : (State.rtkEvents s).mem = s.mem ∧ (State.rtkEvents s).pending = s.pending :=
  by simp [State.rtkEvents]
@[simp] theorem State.navLeap_keep (s : State) a0 : (State.navLeap s a0).mem = s.mem ∧ (State.navLeap s a0).pending = s.pending :=
  by constructor <;> (unfold State.navLeap; (repeat' split) <;> simp)
@[simp] theorem State.gnssTime_keep (s : State) a0 a1 : (State.gnssTime s a0 a1).mem = s.mem ∧ (State.gnssTime s a0 a1).pending = s.pending :=
  by constructor <;> (unfold State.gnssTime; (repeat' split) <;> simp)
@[simp] theorem State.latchEnd_keep (s : State) a0 a1 : (State.latchEnd s a0 a1).mem = s.mem ∧ (State.latchEnd s a0 a1).pending = s.pending :=
  by simp [State.latchEnd]
@[simp] theorem State.lateBy_keep (s : State) a0 a1 : (State.lateBy s a0 a1).mem = s.mem ∧ (State.lateBy s a0 a1).pending = s.pending :=
  by simp [State.lateBy]
@[simp] theorem State.toInternal_keep (s : State) a0 a1 a2 : (State.toInternal s a0 a1 a2).mem = s.mem ∧ (State.toInternal s a0 a1 a2).pending = s.pending :=
  by constructor <;> (unfold State.toInternal; (repeat' split) <;> simp)
@[simp] theorem State.gridChan_keep (s : State) a0 a1 : (State.gridChan s a0 a1).mem = s.mem ∧ (State.gridChan s a0 a1).pending = s.pending :=
  by simp [State.gridChan]
@[simp] theorem State.gridAll_keep (s : State) a0 : (State.gridAll s a0).mem = s.mem ∧ (State.gridAll s a0).pending = s.pending :=
  by
  induction a0 generalizing s with
  | nil => exact ⟨rfl, rfl⟩
  | cons p l ih => obtain ⟨c, sc⟩ := p; simp [State.gridAll, ih]
@[simp] theorem State.rtcmTake_keep (s : State) a0 a1 : (State.rtcmTake s a0 a1).mem = s.mem ∧ (State.rtcmTake s a0 a1).pending = s.pending :=
  by simp [State.rtcmTake]
@[simp] theorem State.rtcmIgnore_keep (s : State) a0 a1 : (State.rtcmIgnore s a0 a1).mem = s.mem ∧ (State.rtcmIgnore s a0 a1).pending = s.pending :=
  by simp [State.rtcmIgnore]
@[simp] theorem State.rtcmMessage_keep (s : State) a0 a1 : (State.rtcmMessage s a0 a1).mem = s.mem ∧ (State.rtcmMessage s a0 a1).pending = s.pending :=
  by constructor <;> (unfold State.rtcmMessage; (repeat' split) <;> simp)
@[simp] theorem State.writeSigsel_keep (s : State) a0 : (State.writeSigsel s a0).mem = s.mem ∧ (State.writeSigsel s a0).pending = s.pending :=
  by simp only [State.writeSigsel, and_self]

@[simp] theorem State.sendSync_keep (s : State) a0 : (State.sendSync s a0).mem = s.mem ∧ (State.sendSync s a0).pending = s.pending :=
  by simp [State.sendSync]
@[simp] theorem State.setLink_keep (s : State) a0 a1 : (State.setLink s a0 a1).mem = s.mem ∧ (State.setLink s a0 a1).pending = s.pending :=
  by simp only [State.setLink, and_self]
@[simp] theorem State.portSample_keep (s : State) a0 a1 a2 a3 a4 : (State.portSample s a0 a1 a2 a3 a4).mem = s.mem ∧ (State.portSample s a0 a1 a2 a3 a4).pending = s.pending :=
  by constructor <;> (unfold State.portSample; simp; repeat' (split <;> try simp))
@[simp] theorem State.ringOut_keep (s : State) a0 a1 a2 a3 a4 : (State.ringOut s a0 a1 a2 a3 a4).mem = s.mem ∧ (State.ringOut s a0 a1 a2 a3 a4).pending = s.pending :=
  by simp [State.ringOut]
@[simp] theorem State.ringMissed_keep (s : State) : (State.ringMissed s).mem = s.mem ∧ (State.ringMissed s).pending = s.pending :=
  by simp [State.ringMissed]
@[simp] theorem State.saveTime_keep (s : State) : (State.saveTime s).mem = s.mem ∧ (State.saveTime s).pending = s.pending :=
  by simp only [State.saveTime, and_self]
@[simp] theorem State.timeActivated_keep (s : State) : (State.timeActivated s).mem = s.mem ∧ (State.timeActivated s).pending = s.pending :=
  by simp [State.timeActivated]
@[simp] theorem State.latchDt_keep (s : State) : (State.latchDt s).mem = s.mem ∧ (State.latchDt s).pending = s.pending :=
  by simp only [State.latchDt, and_self]
@[simp] theorem State.writeSrcsel_keep (s : State) a0 : (State.writeSrcsel s a0).mem = s.mem ∧ (State.writeSrcsel s a0).pending = s.pending :=
  by simp only [State.writeSrcsel, and_self]

@[simp] theorem State.setPort_keep (s : State) a0 a1 : (State.setPort s a0 a1).mem = s.mem ∧ (State.setPort s a0 a1).pending = s.pending :=
  by simp only [State.setPort, and_self]
@[simp] theorem State.lanBreak_keep (s : State) a0 : (State.lanBreak s a0).mem = s.mem ∧ (State.lanBreak s a0).pending = s.pending :=
  by simp [State.lanBreak]
@[simp] theorem State.lanRestore_keep (s : State) a0 : (State.lanRestore s a0).mem = s.mem ∧ (State.lanRestore s a0).pending = s.pending :=
  by simp [State.lanRestore]
@[simp] theorem State.ringBreak_keep (s : State) : (State.ringBreak s).mem = s.mem ∧ (State.ringBreak s).pending = s.pending :=
  by simp [State.ringBreak]
@[simp] theorem State.ringRestore_keep (s : State) : (State.ringRestore s).mem = s.mem ∧ (State.ringRestore s).pending = s.pending :=
  by simp [State.ringRestore]
@[simp] theorem State.gratuitous_keep (s : State) a0 : (State.gratuitous s a0).mem = s.mem ∧ (State.gratuitous s a0).pending = s.pending :=
  by simp [State.gratuitous]
@[simp] theorem State.netPick_keep (s : State) : (State.netPick s).mem = s.mem ∧ (State.netPick s).pending = s.pending :=
  by simp [State.netPick]
@[simp] theorem State.keepFirst_keep (s : State) a0 a1 a2 : (State.keepFirst s a0 a1 a2).1.mem = s.mem ∧ (State.keepFirst s a0 a1 a2).1.pending = s.pending :=
  by constructor <;> (unfold State.keepFirst; simp; repeat' (split <;> try simp))
@[simp] theorem State.budget587_keep (s : State) a0 : (State.budget587 s a0).1.mem = s.mem ∧ (State.budget587 s a0).1.pending = s.pending :=
  by constructor <;> (unfold State.budget587; simp; repeat' (split <;> try simp))
@[simp] theorem State.frameIn_keep (s : State) a0 a1 a2 a3 a4 : (State.frameIn s a0 a1 a2 a3 a4).1.mem = s.mem ∧ (State.frameIn s a0 a1 a2 a3 a4).1.pending = s.pending :=
  by
  unfold State.frameIn
  extract_lets s0 x s1 s2
  have h2 : s2.mem = s.mem ∧ s2.pending = s.pending := by
    simp only [s2, s1, s0]; split <;> simp
  clear_value s2
  dsimp only
  (repeat' split) <;> simp [h2]
@[simp] theorem State.unprov_keep (s : State) a0 : (State.unprov s a0).mem = s.mem ∧ (State.unprov s a0).pending = s.pending :=
  by simp [State.unprov]
@[simp] theorem State.ansSecond_keep (s : State) : (State.ansSecond s).mem = s.mem ∧ (State.ansSecond s).pending = s.pending :=
  by simp [State.ansSecond]
@[simp] theorem State.arpConflict_keep (s : State) : (State.arpConflict s).mem = s.mem ∧ (State.arpConflict s).pending = s.pending :=
  by simp only [State.arpConflict, and_self]
@[simp] theorem State.arp_keep (s : State) a0 a1 a2 : (State.arp s a0 a1 a2).mem = s.mem ∧ (State.arp s a0 a1 a2).pending = s.pending :=
  by simp [State.arp]
@[simp] theorem State.icmp_keep (s : State) a0 a1 : (State.icmp s a0 a1).mem = s.mem ∧ (State.icmp s a0 a1).pending = s.pending :=
  by simp [State.icmp]
@[simp] theorem State.igmp_keep (s : State) a0 : (State.igmp s a0).mem = s.mem ∧ (State.igmp s a0).pending = s.pending :=
  by simp [State.igmp]
@[simp] theorem State.applyIp_keep (s : State) a0 : (State.applyIp s a0).mem = s.mem ∧ (State.applyIp s a0).pending = s.pending :=
  by simp only [State.applyIp, and_self]
@[simp] theorem State.netReady_keep (s : State) a0 : (State.netReady s a0).mem = s.mem ∧ (State.netReady s a0).pending = s.pending :=
  by simp [State.netReady]
@[simp] theorem State.handOn_keep (s : State) a0 a1 : (State.handOn s a0 a1).mem = s.mem ∧ (State.handOn s a0 a1).pending = s.pending :=
  by simp only [State.handOn, and_self]
@[simp] theorem State.datagram450_keep (s : State) a0 a1 a2 a3 : (State.datagram450 s a0 a1 a2 a3).mem = s.mem ∧ (State.datagram450 s a0 a1 a2 a3).pending = s.pending :=
  by constructor <;> (unfold State.datagram450; simp; repeat' (split <;> try simp))
@[simp] theorem State.datagramUdp_keep (s : State) a0 a1 a2 a3 : (State.datagramUdp s a0 a1 a2 a3).mem = s.mem ∧ (State.datagramUdp s a0 a1 a2 a3).pending = s.pending :=
  by constructor <;> (unfold State.datagramUdp; (repeat' split) <;> simp)
@[simp] theorem State.gooseTake_keep (s : State) a0 a1 a2 a3 a4 : (State.gooseTake s a0 a1 a2 a3 a4).mem = s.mem ∧ (State.gooseTake s a0 a1 a2 a3 a4).pending = s.pending :=
  by constructor <;> (unfold State.gooseTake; simp; repeat' (split <;> try simp))
@[simp] theorem State.gooseFrame_keep (s : State) a0 a1 a2 a3 a4 a5 a6 a7 a8 : (State.gooseFrame s a0 a1 a2 a3 a4 a5 a6 a7 a8).mem = s.mem ∧ (State.gooseFrame s a0 a1 a2 a3 a4 a5 a6 a7 a8).pending = s.pending :=
  by constructor <;> (unfold State.gooseFrame; (repeat' split) <;> simp)
@[simp] theorem State.driveTake_keep (s : State) a0 a1 : (State.driveTake s a0 a1).mem = s.mem ∧ (State.driveTake s a0 a1).pending = s.pending :=
  by constructor <;> (unfold State.driveTake; simp; repeat' (split <;> try simp))
@[simp] theorem State.handBody_keep (s : State) a0 a1 : (State.handBody s a0 a1).mem = s.mem ∧ (State.handBody s a0 a1).pending = s.pending :=
  by constructor <;> (unfold State.handBody; (repeat' split) <;> simp)
@[simp] theorem State.sessSent_keep (s : State) a0 : (State.sessSent s a0).mem = s.mem ∧ (State.sessSent s a0).pending = s.pending :=
  by constructor <;> (unfold State.sessSent; (repeat' split) <;> simp)
@[simp] theorem State.writePortsel_keep (s : State) a0 : (State.writePortsel s a0).mem = s.mem ∧ (State.writePortsel s a0).pending = s.pending :=
  by simp only [State.writePortsel, and_self]
@[simp] theorem State.writeNetSessel_keep (s : State) a0 : (State.writeNetSessel s a0).mem = s.mem ∧ (State.writeNetSessel s a0).pending = s.pending :=
  by simp only [State.writeNetSessel, and_self]
@[simp] theorem State.sessionsReset_keep (s : State) a0 : (State.sessionsReset s a0).mem = s.mem ∧ (State.sessionsReset s a0).pending = s.pending :=
  by simp only [State.sessionsReset, and_self]

@[simp] theorem State.setUart_keep (s : State) a0 a1 : (State.setUart s a0 a1).mem = s.mem ∧ (State.setUart s a0 a1).pending = s.pending :=
  by simp only [State.setUart, and_self]
@[simp] theorem State.setCan_keep (s : State) a0 a1 : (State.setCan s a0 a1).mem = s.mem ∧ (State.setCan s a0 a1).pending = s.pending :=
  by simp only [State.setCan, and_self]
@[simp] theorem State.uartError_keep (s : State) a0 a1 : (State.uartError s a0 a1).mem = s.mem ∧ (State.uartError s a0 a1).pending = s.pending :=
  by simp [State.uartError]
@[simp] theorem State.uartRtcm_keep (s : State) a0 a1 a2 : (State.uartRtcm s a0 a1 a2).mem = s.mem ∧ (State.uartRtcm s a0 a1 a2).pending = s.pending :=
  by simp [State.uartRtcm]
@[simp] theorem State.uartSentence_keep (s : State) a0 a1 a2 : (State.uartSentence s a0 a1 a2).mem = s.mem ∧ (State.uartSentence s a0 a1 a2).pending = s.pending :=
  by simp [State.uartSentence]
@[simp] theorem State.n2kTake_keep (s : State) a0 a1 a2 a3 : (State.n2kTake s a0 a1 a2 a3).mem = s.mem ∧ (State.n2kTake s a0 a1 a2 a3).pending = s.pending :=
  by constructor <;> (unfold State.n2kTake; (repeat' split) <;> simp)
@[simp] theorem State.fastPacket_keep (s : State) a0 a1 a2 a3 : (State.fastPacket s a0 a1 a2 a3).mem = s.mem ∧ (State.fastPacket s a0 a1 a2 a3).pending = s.pending :=
  by constructor <;> (unfold State.fastPacket; simp; repeat' (split <;> try simp))
@[simp] theorem State.bamStart_keep (s : State) a0 a1 a2 : (State.bamStart s a0 a1 a2).mem = s.mem ∧ (State.bamStart s a0 a1 a2).pending = s.pending :=
  by simp [State.bamStart]
@[simp] theorem State.bamData_keep (s : State) a0 a1 a2 : (State.bamData s a0 a1 a2).mem = s.mem ∧ (State.bamData s a0 a1 a2).pending = s.pending :=
  by constructor <;> (unfold State.bamData; simp; repeat' (split <;> try simp))
@[simp] theorem State.n2kFrame_keep (s : State) a0 a1 a2 a3 : (State.n2kFrame s a0 a1 a2 a3).mem = s.mem ∧ (State.n2kFrame s a0 a1 a2 a3).pending = s.pending :=
  by simp [State.n2kFrame]
@[simp] theorem State.canReceived_keep (s : State) a0 a1 : (State.canReceived s a0 a1).mem = s.mem ∧ (State.canReceived s a0 a1).pending = s.pending :=
  by simp [State.canReceived]
@[simp] theorem State.fieldStart_keep (s : State) : (State.fieldStart s).mem = s.mem ∧ (State.fieldStart s).pending = s.pending :=
  by simp only [State.fieldStart, and_self]
@[simp] theorem State.writeUartsel_keep (s : State) a0 : (State.writeUartsel s a0).mem = s.mem ∧ (State.writeUartsel s a0).pending = s.pending :=
  by simp only [State.writeUartsel, and_self]
@[simp] theorem State.writeCansel_keep (s : State) a0 : (State.writeCansel s a0).mem = s.mem ∧ (State.writeCansel s a0).pending = s.pending :=
  by simp only [State.writeCansel, and_self]

@[simp] theorem State.kilnStep_keep (s : State) a0 : (State.kilnStep s a0).mem = s.mem ∧ (State.kilnStep s a0).pending = s.pending :=
  by simp [State.kilnStep]

@[simp] theorem State.setCmdSess_keep (s : State) a0 : (State.setCmdSess s a0).mem = s.mem ∧ (State.setCmdSess s a0).pending = s.pending :=
  by simp only [State.setCmdSess, and_self]
@[simp] theorem State.turnAway_keep (s : State) a0 a1 a2 a3 a4 : (State.turnAway s a0 a1 a2 a3 a4).mem = s.mem ∧ (State.turnAway s a0 a1 a2 a3 a4).pending = s.pending :=
  by simp [State.turnAway]
@[simp] theorem State.finish_keep (s : State) a0 a1 a2 a3 a4 : (State.finish s a0 a1 a2 a3 a4).mem = s.mem ∧ (State.finish s a0 a1 a2 a3 a4).pending = s.pending :=
  by constructor <;> (unfold State.finish; simp; repeat' (split <;> try simp))
@[simp] theorem State.finishWaiting_keep (s : State) a0 a1 a2 a3 a4 : (State.finishWaiting s a0 a1 a2 a3 a4).mem = s.mem ∧ (State.finishWaiting s a0 a1 a2 a3 a4).pending = s.pending :=
  by constructor <;> (unfold State.finishWaiting; (repeat' split) <;> simp)
@[simp] theorem State.ledger_keep (s : State) a0 a1 a2 a3 a4 : (State.ledger s a0 a1 a2 a3 a4).mem = s.mem ∧ (State.ledger s a0 a1 a2 a3 a4).pending = s.pending :=
  by simp [State.ledger]
@[simp] theorem State.ledgerBy_keep (s : State) a0 a1 a2 a3 : (State.ledgerBy s a0 a1 a2 a3).mem = s.mem ∧ (State.ledgerBy s a0 a1 a2 a3).pending = s.pending :=
  by simp [State.ledgerBy]

@[simp] theorem State.acceptGuide_keep (s : State) a0 : (State.acceptGuide s a0).mem = s.mem ∧ (State.acceptGuide s a0).pending = s.pending :=
  by simp only [State.acceptGuide, and_self]
@[simp] theorem State.applySelect_keep (s : State) a0 a1 : (State.applySelect s a0 a1).mem = s.mem ∧ (State.applySelect s a0 a1).pending = s.pending :=
  by constructor <;> (unfold State.applySelect; (repeat' split) <;> simp)

@[simp] theorem State.kilnEvent_keep (s : State) a0 : (State.kilnEvent s a0).mem = s.mem ∧ (State.kilnEvent s a0).pending = s.pending :=
  by simp [State.kilnEvent]
@[simp] theorem State.mailboxAnswer_keep (s : State) a0 : (State.mailboxAnswer s a0).mem = s.mem ∧ (State.mailboxAnswer s a0).pending = s.pending :=
  by constructor <;> (unfold State.mailboxAnswer; (repeat' split) <;> simp)
@[simp] theorem State.hbUp_keep (s : State) : (State.hbUp s).mem = s.mem ∧ (State.hbUp s).pending = s.pending :=
  by
  unfold State.hbUp
  extract_lets k deliver s1 _ s2 s3 p taken contra s4 s5
  have h2 : s2.mem = s.mem ∧ s2.pending = s.pending := by simp [s2, s1]
  have h3 : s3.mem = s.mem ∧ s3.pending = s.pending := by
    clear_value s2; simp only [s3]; split <;> simp [h2]
  have h4 : s4.mem = s.mem ∧ s4.pending = s.pending := h3
  have h5 : s5.mem = s.mem ∧ s5.pending = s.pending := by
    clear_value s4; simp only [s5]; split <;> simp [h4]
  clear_value s5
  split <;> simp [h5]
@[simp] theorem State.hbDown_keep (s : State) a0 a1 : (State.hbDown s a0 a1).mem = s.mem ∧ (State.hbDown s a0 a1).pending = s.pending :=
  by simp only [State.hbDown, and_self]
@[simp] theorem State.kilnTimeouts_keep (s : State) : (State.kilnTimeouts s).mem = s.mem ∧ (State.kilnTimeouts s).pending = s.pending :=
  by constructor <;> (unfold State.kilnTimeouts; repeat' (first | (simp; done) | (rw [foldl_mem]; rotate_left; intro a x) | (rw [foldl_fst_mem]; rotate_left; intro a x) | (rw [foldl_pending]; rotate_left; intro a x) | (rw [foldl_fst_pending]; rotate_left; intro a x) | split))
@[simp] theorem State.writeWithhold_keep (s : State) a0 : (State.writeWithhold s a0).mem = s.mem ∧ (State.writeWithhold s a0).pending = s.pending :=
  by simp only [State.writeWithhold, and_self]
@[simp] theorem State.writeMbarg_keep (s : State) a0 : (State.writeMbarg s a0).mem = s.mem ∧ (State.writeMbarg s a0).pending = s.pending :=
  by simp only [State.writeMbarg, and_self]
@[simp] theorem State.writeMbcmd_keep (s : State) a0 : (State.writeMbcmd s a0).mem = s.mem ∧ (State.writeMbcmd s a0).pending = s.pending :=
  by simp [State.writeMbcmd]
@[simp] theorem State.latchSeal_keep (s : State) : (State.latchSeal s).mem = s.mem ∧ (State.latchSeal s).pending = s.pending :=
  by simp only [State.latchSeal, and_self]
@[simp] theorem State.writeKilnInsel_keep (s : State) a0 : (State.writeKilnInsel s a0).mem = s.mem ∧ (State.writeKilnInsel s a0).pending = s.pending :=
  by simp only [State.writeKilnInsel, and_self]
@[simp] theorem State.writeKilnOutsel_keep (s : State) a0 : (State.writeKilnOutsel s a0).mem = s.mem ∧ (State.writeKilnOutsel s a0).pending = s.pending :=
  by simp only [State.writeKilnOutsel, and_self]

@[simp] theorem State.twInputs_keep (s : State) : (State.twInputs s).mem = s.mem ∧ (State.twInputs s).pending = s.pending :=
  by simp [State.twInputs]
@[simp] theorem State.twRelease_keep (s : State) a0 : (State.twRelease s a0).mem = s.mem ∧ (State.twRelease s a0).pending = s.pending :=
  by simp [State.twRelease]
@[simp] theorem State.syncCapture_keep (s : State) : (State.syncCapture s).mem = s.mem ∧ (State.syncCapture s).pending = s.pending :=
  by simp [State.syncCapture]
@[simp] theorem State.writeTasksel_keep (s : State) a0 : (State.writeTasksel s a0).mem = s.mem ∧ (State.writeTasksel s a0).pending = s.pending :=
  by constructor <;> (unfold State.writeTasksel; simp; repeat' (split <;> try simp))
@[simp] theorem State.clearTaskstat_keep (s : State) : (State.clearTaskstat s).mem = s.mem ∧ (State.clearTaskstat s).pending = s.pending :=
  by simp only [State.clearTaskstat, and_self]
@[simp] theorem State.latchProg_keep (s : State) : (State.latchProg s).mem = s.mem ∧ (State.latchProg s).pending = s.pending :=
  by simp only [State.latchProg, and_self]
@[simp] theorem State.latchRet_keep (s : State) : (State.latchRet s).mem = s.mem ∧ (State.latchRet s).pending = s.pending :=
  by simp only [State.latchRet, and_self]

end Sys2Proof.Machine
end

