-- ==== Sys2Proof/Laws/FramesD.lean ====
section
/-! SUPPORT. What each operation of the model leaves as it was of the General SRAM and of the queue of waiting commands. -/

namespace Sys2Proof.Machine

@[simp] theorem State.ledgerFor_keep (s : State) a0 a1 a2 a3 : (State.ledgerFor s a0 a1 a2 a3).mem = s.mem ∧ (State.ledgerFor s a0 a1 a2 a3).pending = s.pending :=
  by constructor <;> (unfold State.ledgerFor; (repeat' split) <;> simp)
@[simp] theorem State.forceEvents_keep (s : State) a0 : (State.forceEvents s a0).mem = s.mem ∧ (State.forceEvents s a0).pending = s.pending :=
  by simp [State.forceEvents]
@[simp] theorem State.applyForce_keep (s : State) a0 a1 : (State.applyForce s a0 a1).mem = s.mem ∧ (State.applyForce s a0 a1).pending = s.pending :=
  by constructor <;> (unfold State.applyForce; (repeat' split) <;> simp)
@[simp] theorem State.applyTaskRestart_keep (s : State) a0 : (State.applyTaskRestart s a0).mem = s.mem ∧ (State.applyTaskRestart s a0).pending = s.pending :=
  by simp only [State.applyTaskRestart, and_self]
@[simp] theorem State.acceptChange_keep (s : State) a0 a1 a2 : (State.acceptChange s a0 a1 a2).mem = s.mem ∧ (State.acceptChange s a0 a1 a2).pending = s.pending :=
  by simp only [State.acceptChange, and_self]
@[simp] theorem State.switchProgram_keep (s : State) a0 a1 a2 : (State.switchProgram s a0 a1 a2).mem = s.mem ∧ (State.switchProgram s a0 a1 a2).pending = s.pending :=
  by simp [State.switchProgram]

@[simp] theorem State.solveBegin_keep (s : State) a0 a1 : (State.solveBegin s a0 a1).mem = s.mem ∧ (State.solveBegin s a0 a1).pending = s.pending :=
  by constructor <;> (unfold State.solveBegin; simp; repeat' (split <;> try simp))
@[simp] theorem State.outcome_keep (s : State) a0 : (State.outcome s a0).mem = s.mem ∧ (State.outcome s a0).pending = s.pending :=
  by simp [State.outcome]
@[simp] theorem State.outcomeBy_keep (s : State) a0 : (State.outcomeBy s a0).mem = s.mem ∧ (State.outcomeBy s a0).pending = s.pending :=
  by simp [State.outcomeBy]
@[simp] theorem State.schedChange_keep (s : State) : (State.schedChange s).mem = s.mem ∧ (State.schedChange s).pending = s.pending :=
  by simp [State.schedChange]
@[simp] theorem State.solveStart_keep (s : State) : (State.solveStart s).mem = s.mem ∧ (State.solveStart s).pending = s.pending :=
  by constructor <;> (unfold State.solveStart; simp; repeat' (split <;> try simp))
@[simp] theorem State.eccFault_keep (s : State) a0 : (State.eccFault s a0).mem = s.mem ∧ (State.eccFault s a0).pending = s.pending :=
  by simp [State.eccFault]
@[simp] theorem State.engineEnd_keep (s : State) : (State.engineEnd s).mem = s.mem ∧ (State.engineEnd s).pending = s.pending :=
  by simp [State.engineEnd]
@[simp] theorem State.residueHit_keep (s : State) a0 : (State.residueHit s a0).1.mem = s.mem ∧ (State.residueHit s a0).1.pending = s.pending :=
  by constructor <;> (unfold State.residueHit; simp; repeat' (split <;> try simp))
@[simp] theorem State.residueHits_keep (s : State) a0 a1 : (State.residueHits s a0 a1).1.mem = s.mem ∧ (State.residueHits s a0 a1).1.pending = s.pending :=
  by
  induction a0 generalizing s with
  | nil => cases a1 <;> simp [State.residueHits]
  | cons p l ih => simp only [State.residueHits]; split <;> simp [ih]
@[simp] theorem State.iterate_keep (s : State) a0 a1 a2 a3 : (State.iterate s a0 a1 a2 a3).mem = s.mem ∧ (State.iterate s a0 a1 a2 a3).pending = s.pending :=
  by simp [State.iterate]
@[simp] theorem State.countPivots_keep (s : State) a0 a1 : (State.countPivots s a0 a1).mem = s.mem ∧ (State.countPivots s a0 a1).pending = s.pending :=
  by simp [State.countPivots]
@[simp] theorem State.wheelStep_keep (s : State) a0 a1 a2 a3 a4 : (State.wheelStep s a0 a1 a2 a3 a4).mem = s.mem ∧ (State.wheelStep s a0 a1 a2 a3 a4).pending = s.pending :=
  by constructor <;> (unfold State.wheelStep; simp; repeat' (split <;> try simp))
@[simp] theorem State.dispatch_keep (s : State) a0 : (State.dispatch s a0).mem = s.mem ∧ (State.dispatch s a0).pending = s.pending :=
  by
  unfold State.dispatch
  extract_lets fall apply beat stale live send l hold s1 frames copies
  have h : s1.mem = s.mem ∧ s1.pending = s.pending :=
    ⟨foldl_mem _ (fun a e => by dsimp only; (repeat' split) <;> simp) _ _,
      foldl_pending _ (fun a e => by dsimp only; (repeat' split) <;> simp) _ _⟩
  clear_value s1
  dsimp only
  constructor <;> (split <;> simp [h])
@[simp] theorem State.cutSolve_keep (s : State) a0 a1 : (State.cutSolve s a0 a1).mem = s.mem ∧ (State.cutSolve s a0 a1).pending = s.pending :=
  by simp [State.cutSolve]
@[simp] theorem State.copyRecord_keep (s : State) : (State.copyRecord s).mem = s.mem ∧ (State.copyRecord s).pending = s.pending :=
  by constructor <;> (unfold State.copyRecord; simp; repeat' (split <;> try simp))
@[simp] theorem State.cycleEnd_keep (s : State) a0 : (State.cycleEnd s a0).mem = s.mem ∧ (State.cycleEnd s a0).pending = s.pending :=
  by simp [State.cycleEnd]
@[simp] theorem State.latchFp_keep (s : State) : (State.latchFp s).mem = s.mem ∧ (State.latchFp s).pending = s.pending :=
  by simp only [State.latchFp, and_self]
@[simp] theorem State.clearEng_keep (s : State) : (State.clearEng s).mem = s.mem ∧ (State.clearEng s).pending = s.pending :=
  by simp only [State.clearEng, and_self]

@[simp] theorem State.followGuide_keep (s : State) a0 : (State.followGuide s a0).mem = s.mem ∧ (State.followGuide s a0).pending = s.pending :=
  by simp [State.followGuide]
@[simp] theorem State.onLane_keep (s : State) a0 a1 : (State.onLane s a0 a1).mem = s.mem ∧ (State.onLane s a0 a1).pending = s.pending :=
  by simp only [State.onLane, and_self]
@[simp] theorem State.laneValid_keep (s : State) a0 : (State.laneValid s a0).mem = s.mem ∧ (State.laneValid s a0).pending = s.pending :=
  by simp [State.laneValid]
@[simp] theorem State.mirAct_keep (s : State) a0 a1 : (State.mirAct s a0 a1).mem = s.mem ∧ (State.mirAct s a0 a1).pending = s.pending :=
  by constructor <;> (unfold State.mirAct; (repeat' split) <;> simp)
@[simp] theorem State.mirTell_keep (s : State) a0 a1 : (State.mirTell s a0 a1).mem = s.mem ∧ (State.mirTell s a0 a1).pending = s.pending :=
  by simp only [State.mirTell, and_self]
@[simp] theorem State.mirAccept_keep (s : State) a0 : (State.mirAccept s a0).mem = s.mem ∧ (State.mirAccept s a0).pending = s.pending :=
  by constructor <;> (unfold State.mirAccept; simp; repeat' (split <;> try simp))
@[simp] theorem State.mirAcked_keep (s : State) a0 : (State.mirAcked s a0).mem = s.mem ∧ (State.mirAcked s a0).pending = s.pending :=
  by simp [State.mirAcked]
@[simp] theorem State.mirFlush_keep (s : State) : (State.mirFlush s).mem = s.mem ∧ (State.mirFlush s).pending = s.pending :=
  by simp [State.mirFlush]
@[simp] theorem State.mirTake_keep (s : State) a0 : (State.mirTake s a0).mem = s.mem ∧ (State.mirTake s a0).pending = s.pending :=
  by simp [State.mirTake]
@[simp] theorem State.mirApply_keep (s : State) a0 a1 : (State.mirApply s a0 a1).mem = s.mem ∧ (State.mirApply s a0 a1).pending = s.pending :=
  by constructor <;> (unfold State.mirApply; (repeat' split) <;> simp)
@[simp] theorem State.mirOutcome_keep (s : State) a0 : (State.mirOutcome s a0).mem = s.mem ∧ (State.mirOutcome s a0).pending = s.pending :=
  by constructor <;> (unfold State.mirOutcome; (repeat' split) <;> simp)
@[simp] theorem State.mirSettle_keep (s : State) : (State.mirSettle s).mem = s.mem ∧ (State.mirSettle s).pending = s.pending :=
  by simp [State.mirSettle]
@[simp] theorem State.followFast_keep (s : State) a0 : (State.followFast s a0).mem = s.mem ∧ (State.followFast s a0).pending = s.pending :=
  by constructor <;> (unfold State.followFast; repeat' (first | (simp; done) | (rw [foldl_mem]; rotate_left; intro a x) | (rw [foldl_fst_mem]; rotate_left; intro a x) | (rw [foldl_pending]; rotate_left; intro a x) | (rw [foldl_fst_pending]; rotate_left; intro a x) | split))
@[simp] theorem State.followActive_keep (s : State) a0 a1 a2 : (State.followActive s a0 a1 a2).mem = s.mem ∧ (State.followActive s a0 a1 a2).pending = s.pending :=
  by simp [State.followActive]
@[simp] theorem State.fastTake_keep (s : State) a0 a1 : (State.fastTake s a0 a1).mem = s.mem ∧ (State.fastTake s a0 a1).pending = s.pending :=
  by simp [State.fastTake]
@[simp] theorem State.divergenceTest_keep (s : State) a0 : (State.divergenceTest s a0).mem = s.mem ∧ (State.divergenceTest s a0).pending = s.pending :=
  by constructor <;> (unfold State.divergenceTest; (repeat' split) <;> simp)
@[simp] theorem State.recArrived_keep (s : State) a0 : (State.recArrived s a0).mem = s.mem ∧ (State.recArrived s a0).pending = s.pending :=
  by constructor <;> (unfold State.recArrived; (repeat' split) <;> simp)
@[simp] theorem State.takeChunk_keep (s : State) a0 : (State.takeChunk s a0).mem = s.mem ∧ (State.takeChunk s a0).pending = s.pending :=
  by constructor <;> (unfold State.takeChunk; (repeat' split) <;> simp)
@[simp] theorem State.shadowTake_keep (s : State) a0 : (State.shadowTake s a0).mem = s.mem ∧ (State.shadowTake s a0).pending = s.pending :=
  by constructor <;> (unfold State.shadowTake; simp; repeat' (split <;> try simp))
@[simp] theorem State.setRole_keep (s : State) a0 : (State.setRole s a0).mem = s.mem ∧ (State.setRole s a0).pending = s.pending :=
  by simp [State.setRole]
@[simp] theorem State.bumpEpoch_keep (s : State) : (State.bumpEpoch s).mem = s.mem ∧ (State.bumpEpoch s).pending = s.pending :=
  by simp only [State.bumpEpoch, and_self]
@[simp] theorem State.leadGone_keep (s : State) : (State.leadGone s).mem = s.mem ∧ (State.leadGone s).pending = s.pending :=
  by simp [State.leadGone]
@[simp] theorem State.roleTick_keep (s : State) a0 : (State.roleTick s a0).mem = s.mem ∧ (State.roleTick s a0).pending = s.pending :=
  by constructor <;> (unfold State.roleTick; (repeat' split) <;> simp)
@[simp] theorem State.leadTick_keep (s : State) : (State.leadTick s).mem = s.mem ∧ (State.leadTick s).pending = s.pending :=
  by simp [State.leadTick]
@[simp] theorem State.pairTick_keep (s : State) : (State.pairTick s).mem = s.mem ∧ (State.pairTick s).pending = s.pending :=
  by simp [State.pairTick]
@[simp] theorem State.takeSeqs_keep (s : State) : (State.takeSeqs s).mem = s.mem ∧ (State.takeSeqs s).pending = s.pending :=
  by simp only [State.takeSeqs, and_self]
@[simp] theorem State.resendCaps_keep (s : State) : (State.resendCaps s).mem = s.mem ∧ (State.resendCaps s).pending = s.pending :=
  by simp [State.resendCaps]
@[simp] theorem State.closeSlots_keep (s : State) : (State.closeSlots s).mem = s.mem ∧ (State.closeSlots s).pending = s.pending :=
  by constructor <;> (unfold State.closeSlots; repeat' (first | (simp; done) | (rw [foldl_mem]; rotate_left; intro a x) | (rw [foldl_fst_mem]; rotate_left; intro a x) | (rw [foldl_pending]; rotate_left; intro a x) | (rw [foldl_fst_pending]; rotate_left; intro a x) | split))
@[simp] theorem State.takeOver_keep (s : State) : (State.takeOver s).mem = s.mem ∧ (State.takeOver s).pending = s.pending :=
  by simp [State.takeOver]

@[simp] theorem State.sherdStop_keep (s : State) : (State.sherdStop s).mem = s.mem ∧ (State.sherdStop s).pending = s.pending :=
  by simp [State.sherdStop]
@[simp] theorem State.retire_keep (s : State) a0 a1 : (State.retire s a0 a1).mem = s.mem ∧ (State.retire s a0 a1).pending = s.pending :=
  by simp [State.retire]
@[simp] theorem State.wornRead_keep (s : State) a0 a1 a2 : (State.wornRead s a0 a1 a2).mem = s.mem ∧ (State.wornRead s a0 a1 a2).pending = s.pending :=
  by constructor <;> (unfold State.wornRead; (repeat' split) <;> simp)
@[simp] theorem State.powerFailFlush_keep (s : State) : (State.powerFailFlush s).mem = s.mem ∧ (State.powerFailFlush s).pending = s.pending :=
  by simp [State.powerFailFlush]
@[simp] theorem State.flushEnd_keep (s : State) : (State.flushEnd s).mem = s.mem ∧ (State.flushEnd s).pending = s.pending :=
  by simp [State.flushEnd]
@[simp] theorem State.stagingRecovery_keep (s : State) a0 a1 a2 : (State.stagingRecovery s a0 a1 a2).mem = s.mem ∧ (State.stagingRecovery s a0 a1 a2).pending = s.pending :=
  by simp [State.stagingRecovery]
@[simp] theorem State.telemetrySend_keep (s : State) a0 : (State.telemetrySend s a0).mem = s.mem ∧ (State.telemetrySend s a0).pending = s.pending :=
  by simp [State.telemetrySend]
@[simp] theorem State.releaseFreeze_keep (s : State) a0 : (State.releaseFreeze s a0).mem = s.mem ∧ (State.releaseFreeze s a0).pending = s.pending :=
  by simp [State.releaseFreeze]

@[simp] theorem State.latchSerial_keep (s : State) : (State.latchSerial s).mem = s.mem ∧ (State.latchSerial s).pending = s.pending :=
  by simp only [State.latchSerial, and_self]
@[simp] theorem State.renew_keep (s : State) a0 : (State.renew s a0).mem = s.mem ∧ (State.renew s a0).pending = s.pending :=
  by simp [State.renew]
@[simp] theorem State.readReg_keep (s : State) a0 : (State.readReg s a0).1.mem = s.mem ∧ (State.readReg s a0).1.pending = s.pending :=
  by
  simp only [State.readReg]
  split
  · exact aget_all (fun f => ∀ s, (f s).mem = s.mem ∧ (f s).pending = s.pending) _ readEffects (by simp [readEffects]) _
      (by assumption) s
  · simp
@[simp] theorem State.writeSwctl_keep (s : State) a0 : (State.writeSwctl s a0).mem = s.mem ∧ (State.writeSwctl s a0).pending = s.pending :=
  by simp only [State.writeSwctl, and_self]
@[simp] theorem State.writeReg_keep (s : State) a0 a1 : (State.writeReg s a0 a1).mem = s.mem ∧ (State.writeReg s a0 a1).pending = s.pending :=
  by
  simp only [State.writeReg]
  split
  · exact aget_all (fun f => ∀ s v, (f s v).mem = s.mem ∧ (f s v).pending = s.pending) _ (rwWrites ++ otherWrites)
      (by simp [rwWrites, rwWritesA, rwWritesB, otherWrites, State.writeSwctl]) _ (by assumption) s a1
  · simp
@[simp] theorem State.readWords_keep a0 a1 (s : State) : (State.readWords a0 a1 s).1.mem = s.mem ∧ (State.readWords a0 a1 s).1.pending = s.pending :=
  by
  induction a0 generalizing a1 s with
  | zero => exact ⟨rfl, rfl⟩
  | succ n ih => simp only [State.readWords]; split <;> simp [ih]
@[simp] theorem State.blockedWrite_keep (s : State) : (State.blockedWrite s).mem = s.mem ∧ (State.blockedWrite s).pending = s.pending :=
  by simp [State.blockedWrite]

@[simp] theorem State.closeSession_keep (s : State) a0 : (State.closeSession s a0).mem = s.mem ∧ (State.closeSession s a0).pending = s.pending :=
  by simp [State.closeSession]
@[simp] theorem State.closeSessions_keep (s : State) : (State.closeSessions s).mem = s.mem ∧ (State.closeSessions s).pending = s.pending :=
  by simp [State.closeSessions]
@[simp] theorem State.firmwareRuns_keep (s : State) : (State.firmwareRuns s).mem = s.mem ∧ (State.firmwareRuns s).pending = s.pending :=
  by simp [State.firmwareRuns]
@[simp] theorem State.loomCleared_keep (s : State) a0 : (State.loomCleared s a0).mem = s.mem ∧ (State.loomCleared s a0).pending = s.pending :=
  by simp only [State.loomCleared, and_self]
@[simp] theorem State.provisioned_keep (s : State) : (State.provisioned s).mem = s.mem ∧ (State.provisioned s).pending = s.pending :=
  by simp [State.provisioned]
@[simp] theorem State.loomReset_keep (s : State) a0 : (State.loomReset s a0).mem = s.mem ∧ (State.loomReset s a0).pending = s.pending :=
  by simp [State.loomReset]
@[simp] theorem State.resetOrHold_keep (s : State) a0 : (State.resetOrHold s a0).mem = s.mem ∧ (State.resetOrHold s a0).pending = s.pending :=
  by simp [State.resetOrHold]
@[simp] theorem State.heldActs_keep (s : State) : (State.heldActs s).mem = s.mem ∧ (State.heldActs s).pending = s.pending :=
  by constructor <;> (unfold State.heldActs; (repeat' split) <;> simp)
@[simp] theorem State.adcStandby_keep (s : State) : (State.adcStandby s).mem = s.mem ∧ (State.adcStandby s).pending = s.pending :=
  by simp [State.adcStandby]
@[simp] theorem State.goStandby_keep (s : State) : (State.goStandby s).mem = s.mem ∧ (State.goStandby s).pending = s.pending :=
  by simp [State.goStandby]

@[simp] theorem State.activateControl_keep (s : State) : (State.activateControl s).mem = s.mem ∧ (State.activateControl s).pending = s.pending :=
  by simp only [State.activateControl, and_self]
@[simp] theorem State.activateRest_keep (s : State) a0 : (State.activateRest s a0).mem = s.mem ∧ (State.activateRest s a0).pending = s.pending :=
  by simp only [State.activateRest, and_self]
@[simp] theorem State.activateDraft_keep (s : State) a0 a1 a2 : (State.activateDraft s a0 a1 a2).mem = s.mem ∧ (State.activateDraft s a0 a1 a2).pending = s.pending :=
  by simp [State.activateDraft]
@[simp] theorem State.stageImage_keep (s : State) a0 : (State.stageImage s a0).mem = s.mem ∧ (State.stageImage s a0).pending = s.pending :=
  by constructor <;> (unfold State.stageImage; (repeat' split) <;> simp)

@[simp] theorem State.useSource_keep (s : State) a0 a1 : (State.useSource s a0 a1).mem = s.mem ∧ (State.useSource s a0 a1).pending = s.pending :=
  by simp [State.useSource]
@[simp] theorem State.unestablish_keep (s : State) : (State.unestablish s).mem = s.mem ∧ (State.unestablish s).pending = s.pending :=
  by simp [State.unestablish]

@[simp] theorem State.holdEstimate_keep (s : State) : (State.holdEstimate s).mem = s.mem ∧ (State.holdEstimate s).pending = s.pending :=
  by simp [State.holdEstimate]
@[simp] theorem State.powerPick_keep (s : State) a0 : (State.powerPick s a0).mem = s.mem ∧ (State.powerPick s a0).pending = s.pending :=
  by simp [State.powerPick]
@[simp] theorem State.holdMeasured_keep (s : State) a0 : (State.holdMeasured s a0).mem = s.mem ∧ (State.holdMeasured s a0).pending = s.pending :=
  by simp [State.holdMeasured]
@[simp] theorem State.powerFail_keep (s : State) a0 : (State.powerFail s a0).mem = s.mem ∧ (State.powerFail s a0).pending = s.pending :=
  by simp [State.powerFail]
@[simp] theorem State.powerUp_keep (s : State) a0 a1 : (State.powerUp s a0 a1).mem = s.mem ∧ (State.powerUp s a0 a1).pending = s.pending :=
  by simp [State.powerUp]
@[simp] theorem State.resetBy_keep (s : State) a0 : (State.resetBy s a0).mem = s.mem ∧ (State.resetBy s a0).pending = s.pending :=
  by simp [State.resetBy]

@[simp] theorem State.verifyDraft_keep (s : State) a0 : (State.verifyDraft s a0).mem = s.mem ∧ (State.verifyDraft s a0).pending = s.pending :=
  by constructor <;> (unfold State.verifyDraft; (repeat' split) <;> simp)
@[simp] theorem State.confirm_keep (s : State) : (State.confirm s).mem = s.mem ∧ (State.confirm s).pending = s.pending :=
  by simp [State.confirm]
@[simp] theorem State.standbyReached_keep (s : State) : (State.standbyReached s).mem = s.mem ∧ (State.standbyReached s).pending = s.pending :=
  by constructor <;> (unfold State.standbyReached; simp; repeat' (split <;> try simp))

@[simp] theorem State.helloAdmit_keep (s : State) : (State.helloAdmit s).mem = s.mem ∧ (State.helloAdmit s).pending = s.pending :=
  by constructor <;> (unfold State.helloAdmit; (repeat' split) <;> simp)
@[simp] theorem State.dropEntry_keep (s : State) a0 : (State.dropEntry s a0).mem = s.mem ∧ (State.dropEntry s a0).pending = s.pending :=
  by simp only [State.dropEntry, and_self]
@[simp] theorem State.handshakeFails_keep (s : State) a0 : (State.handshakeFails s a0).mem = s.mem ∧ (State.handshakeFails s a0).pending = s.pending :=
  by simp [State.handshakeFails]
@[simp] theorem State.sessionOpens_keep (s : State) a0 a1 : (State.sessionOpens s a0 a1).mem = s.mem ∧ (State.sessionOpens s a0 a1).pending = s.pending :=
  by constructor <;> (unfold State.sessionOpens; (repeat' split) <;> simp)
@[simp] theorem State.unlockFails_keep (s : State) : (State.unlockFails s).mem = s.mem ∧ (State.unlockFails s).pending = s.pending :=
  by simp [State.unlockFails]
@[simp] theorem State.grantSafety_keep (s : State) a0 : (State.grantSafety s a0).mem = s.mem ∧ (State.grantSafety s a0).pending = s.pending :=
  by simp [State.grantSafety]

@[simp] theorem State.monAnswer_keep (s : State) a0 a1 a2 : (State.monAnswer s a0 a1 a2).mem = s.mem ∧ (State.monAnswer s a0 a1 a2).pending = s.pending :=
  by simp [State.monAnswer]

@[simp] theorem State.zeroCommands_keep (s : State) : (State.zeroCommands s).mem = s.mem ∧ (State.zeroCommands s).pending = s.pending :=
  by simp [State.zeroCommands]
@[simp] theorem State.safeSend_keep (s : State) : (State.safeSend s).mem = s.mem ∧ (State.safeSend s).pending = s.pending :=
  by simp [State.safeSend]
@[simp] theorem State.latchCommands_keep (s : State) : (State.latchCommands s).mem = s.mem ∧ (State.latchCommands s).pending = s.pending :=
  by constructor <;> (unfold State.latchCommands; repeat' (first | (simp; done) | (rw [foldl_mem]; rotate_left; intro a x) | (rw [foldl_fst_mem]; rotate_left; intro a x) | (rw [foldl_pending]; rotate_left; intro a x) | (rw [foldl_fst_pending]; rotate_left; intro a x) | split))
@[simp] theorem State.enterAtEdge_keep (s : State) : (State.enterAtEdge s).mem = s.mem ∧ (State.enterAtEdge s).pending = s.pending :=
  by simp [State.enterAtEdge]
@[simp] theorem State.beatSync_keep (s : State) : (State.beatSync s).mem = s.mem ∧ (State.beatSync s).pending = s.pending :=
  by simp [State.beatSync]
@[simp] theorem State.markLive_keep (s : State) : (State.markLive s).mem = s.mem ∧ (State.markLive s).pending = s.pending :=
  by simp only [State.markLive, and_self]
@[simp] theorem State.recordBeat_keep (s : State) a0 a1 : (State.recordBeat s a0 a1).mem = s.mem ∧ (State.recordBeat s a0 a1).pending = s.pending :=
  by simp [State.recordBeat]
@[simp] theorem State.domainFailed_keep (s : State) a0 : (State.domainFailed s a0).mem = s.mem ∧ (State.domainFailed s a0).pending = s.pending :=
  by constructor <;> (unfold State.domainFailed; (repeat' split) <;> simp)

end Sys2Proof.Machine
end

