-- ==== Sys2Proof/Laws/State.lean ====
section
/-! SUPPORT. One lemma for each named update of the state: every other part stays as it was. -/

namespace Sys2Proof.Machine

/-! ### what a fold keeps, and a part of a choice between states -/

@[simp] theorem foldl_sys {α : Type} (f : State → α → State) (h : ∀ a x, (f a x).sys = a.sys) (l : List α) (s : State) :
    (l.foldl f s).sys = s.sys := fold_proj State.sys f h l s
@[simp] theorem foldl_draft {α : Type} (f : State → α → State) (h : ∀ a x, (f a x).draft = a.draft) (l : List α) (s : State) :
    (l.foldl f s).draft = s.draft := fold_proj State.draft f h l s
@[simp] theorem foldl_staged {α : Type} (f : State → α → State) (h : ∀ a x, (f a x).staged = a.staged) (l : List α) (s : State) :
    (l.foldl f s).staged = s.staged := fold_proj State.staged f h l s
@[simp] theorem foldl_prevDraft {α : Type} (f : State → α → State) (h : ∀ a x, (f a x).prevDraft = a.prevDraft) (l : List α) (s : State) :
    (l.foldl f s).prevDraft = s.prevDraft := fold_proj State.prevDraft f h l s
@[simp] theorem foldl_clk {α : Type} (f : State → α → State) (h : ∀ a x, (f a x).clk = a.clk) (l : List α) (s : State) :
    (l.foldl f s).clk = s.clk := fold_proj State.clk f h l s
@[simp] theorem foldl_warp {α : Type} (f : State → α → State) (h : ∀ a x, (f a x).warp = a.warp) (l : List α) (s : State) :
    (l.foldl f s).warp = s.warp := fold_proj State.warp f h l s
@[simp] theorem foldl_heddle {α : Type} (f : State → α → State) (h : ∀ a x, (f a x).heddle = a.heddle) (l : List α) (s : State) :
    (l.foldl f s).heddle = s.heddle := fold_proj State.heddle f h l s
@[simp] theorem foldl_obs {α : Type} (f : State → α → State) (h : ∀ a x, (f a x).obs = a.obs) (l : List α) (s : State) :
    (l.foldl f s).obs = s.obs := fold_proj State.obs f h l s
@[simp] theorem foldl_wheel {α : Type} (f : State → α → State) (h : ∀ a x, (f a x).wheel = a.wheel) (l : List α) (s : State) :
    (l.foldl f s).wheel = s.wheel := fold_proj State.wheel f h l s
@[simp] theorem foldl_guide {α : Type} (f : State → α → State) (h : ∀ a x, (f a x).guide = a.guide) (l : List α) (s : State) :
    (l.foldl f s).guide = s.guide := fold_proj State.guide f h l s
@[simp] theorem foldl_alloc {α : Type} (f : State → α → State) (h : ∀ a x, (f a x).alloc = a.alloc) (l : List α) (s : State) :
    (l.foldl f s).alloc = s.alloc := fold_proj State.alloc f h l s
@[simp] theorem foldl_plant {α : Type} (f : State → α → State) (h : ∀ a x, (f a x).plant = a.plant) (l : List α) (s : State) :
    (l.foldl f s).plant = s.plant := fold_proj State.plant f h l s
@[simp] theorem foldl_loop {α : Type} (f : State → α → State) (h : ∀ a x, (f a x).loop = a.loop) (l : List α) (s : State) :
    (l.foldl f s).loop = s.loop := fold_proj State.loop f h l s
@[simp] theorem foldl_rio {α : Type} (f : State → α → State) (h : ∀ a x, (f a x).rio = a.rio) (l : List α) (s : State) :
    (l.foldl f s).rio = s.rio := fold_proj State.rio f h l s
@[simp] theorem foldl_adc {α : Type} (f : State → α → State) (h : ∀ a x, (f a x).adc = a.adc) (l : List α) (s : State) :
    (l.foldl f s).adc = s.adc := fold_proj State.adc f h l s
@[simp] theorem foldl_shuttle {α : Type} (f : State → α → State) (h : ∀ a x, (f a x).shuttle = a.shuttle) (l : List α) (s : State) :
    (l.foldl f s).shuttle = s.shuttle := fold_proj State.shuttle f h l s
@[simp] theorem foldl_mirror {α : Type} (f : State → α → State) (h : ∀ a x, (f a x).mirror = a.mirror) (l : List α) (s : State) :
    (l.foldl f s).mirror = s.mirror := fold_proj State.mirror f h l s
@[simp] theorem foldl_kiln {α : Type} (f : State → α → State) (h : ∀ a x, (f a x).kiln = a.kiln) (l : List α) (s : State) :
    (l.foldl f s).kiln = s.kiln := fold_proj State.kiln f h l s
@[simp] theorem foldl_kport {α : Type} (f : State → α → State) (h : ∀ a x, (f a x).kport = a.kport) (l : List α) (s : State) :
    (l.foldl f s).kport = s.kport := fold_proj State.kport f h l s
@[simp] theorem foldl_copies {α : Type} (f : State → α → State) (h : ∀ a x, (f a x).copies = a.copies) (l : List α) (s : State) :
    (l.foldl f s).copies = s.copies := fold_proj State.copies f h l s
@[simp] theorem foldl_copySeq {α : Type} (f : State → α → State) (h : ∀ a x, (f a x).copySeq = a.copySeq) (l : List α) (s : State) :
    (l.foldl f s).copySeq = s.copySeq := fold_proj State.copySeq f h l s
@[simp] theorem foldl_shown {α : Type} (f : State → α → State) (h : ∀ a x, (f a x).shown = a.shown) (l : List α) (s : State) :
    (l.foldl f s).shown = s.shown := fold_proj State.shown f h l s
@[simp] theorem foldl_time {α : Type} (f : State → α → State) (h : ∀ a x, (f a x).time = a.time) (l : List α) (s : State) :
    (l.foldl f s).time = s.time := fold_proj State.time f h l s
@[simp] theorem foldl_gnss {α : Type} (f : State → α → State) (h : ∀ a x, (f a x).gnss = a.gnss) (l : List α) (s : State) :
    (l.foldl f s).gnss = s.gnss := fold_proj State.gnss f h l s
@[simp] theorem foldl_sess {α : Type} (f : State → α → State) (h : ∀ a x, (f a x).sess = a.sess) (l : List α) (s : State) :
    (l.foldl f s).sess = s.sess := fold_proj State.sess f h l s
@[simp] theorem foldl_field {α : Type} (f : State → α → State) (h : ∀ a x, (f a x).field = a.field) (l : List α) (s : State) :
    (l.foldl f s).field = s.field := fold_proj State.field f h l s
@[simp] theorem foldl_glaze {α : Type} (f : State → α → State) (h : ∀ a x, (f a x).glaze = a.glaze) (l : List α) (s : State) :
    (l.foldl f s).glaze = s.glaze := fold_proj State.glaze f h l s
@[simp] theorem foldl_cmd {α : Type} (f : State → α → State) (h : ∀ a x, (f a x).cmd = a.cmd) (l : List α) (s : State) :
    (l.foldl f s).cmd = s.cmd := fold_proj State.cmd f h l s
@[simp] theorem foldl_sec {α : Type} (f : State → α → State) (h : ∀ a x, (f a x).sec = a.sec) (l : List α) (s : State) :
    (l.foldl f s).sec = s.sec := fold_proj State.sec f h l s
@[simp] theorem foldl_sherd {α : Type} (f : State → α → State) (h : ∀ a x, (f a x).sherd = a.sherd) (l : List α) (s : State) :
    (l.foldl f s).sherd = s.sherd := fold_proj State.sherd f h l s
@[simp] theorem foldl_mon {α : Type} (f : State → α → State) (h : ∀ a x, (f a x).mon = a.mon) (l : List α) (s : State) :
    (l.foldl f s).mon = s.mon := fold_proj State.mon f h l s
@[simp] theorem foldl_pmic {α : Type} (f : State → α → State) (h : ∀ a x, (f a x).pmic = a.pmic) (l : List α) (s : State) :
    (l.foldl f s).pmic = s.pmic := fold_proj State.pmic f h l s
@[simp] theorem foldl_events {α : Type} (f : State → α → State) (h : ∀ a x, (f a x).events = a.events) (l : List α) (s : State) :
    (l.foldl f s).events = s.events := fold_proj State.events f h l s
@[simp] theorem foldl_limits {α : Type} (f : State → α → State) (h : ∀ a x, (f a x).limits = a.limits) (l : List α) (s : State) :
    (l.foldl f s).limits = s.limits := fold_proj State.limits f h l s
@[simp] theorem foldl_free {α : Type} (f : State → α → State) (h : ∀ a x, (f a x).free = a.free) (l : List α) (s : State) :
    (l.foldl f s).free = s.free := fold_proj State.free f h l s
@[simp] theorem ite_sys (c : Prop) [Decidable c] (a b : State) : (if c then a else b).sys = if c then a.sys else b.sys := by split <;> rfl
@[simp] theorem ite_draft (c : Prop) [Decidable c] (a b : State) : (if c then a else b).draft = if c then a.draft else b.draft := by split <;> rfl
@[simp] theorem ite_staged (c : Prop) [Decidable c] (a b : State) : (if c then a else b).staged = if c then a.staged else b.staged := by split <;> rfl
@[simp] theorem ite_prevDraft (c : Prop) [Decidable c] (a b : State) : (if c then a else b).prevDraft = if c then a.prevDraft else b.prevDraft := by split <;> rfl
@[simp] theorem ite_clk (c : Prop) [Decidable c] (a b : State) : (if c then a else b).clk = if c then a.clk else b.clk := by split <;> rfl
@[simp] theorem ite_warp (c : Prop) [Decidable c] (a b : State) : (if c then a else b).warp = if c then a.warp else b.warp := by split <;> rfl
@[simp] theorem ite_heddle (c : Prop) [Decidable c] (a b : State) : (if c then a else b).heddle = if c then a.heddle else b.heddle := by split <;> rfl
@[simp] theorem ite_obs (c : Prop) [Decidable c] (a b : State) : (if c then a else b).obs = if c then a.obs else b.obs := by split <;> rfl
@[simp] theorem ite_wheel (c : Prop) [Decidable c] (a b : State) : (if c then a else b).wheel = if c then a.wheel else b.wheel := by split <;> rfl
@[simp] theorem ite_guide (c : Prop) [Decidable c] (a b : State) : (if c then a else b).guide = if c then a.guide else b.guide := by split <;> rfl
@[simp] theorem ite_alloc (c : Prop) [Decidable c] (a b : State) : (if c then a else b).alloc = if c then a.alloc else b.alloc := by split <;> rfl
@[simp] theorem ite_plant (c : Prop) [Decidable c] (a b : State) : (if c then a else b).plant = if c then a.plant else b.plant := by split <;> rfl
@[simp] theorem ite_loop (c : Prop) [Decidable c] (a b : State) : (if c then a else b).loop = if c then a.loop else b.loop := by split <;> rfl
@[simp] theorem ite_rio (c : Prop) [Decidable c] (a b : State) : (if c then a else b).rio = if c then a.rio else b.rio := by split <;> rfl
@[simp] theorem ite_adc (c : Prop) [Decidable c] (a b : State) : (if c then a else b).adc = if c then a.adc else b.adc := by split <;> rfl
@[simp] theorem ite_shuttle (c : Prop) [Decidable c] (a b : State) : (if c then a else b).shuttle = if c then a.shuttle else b.shuttle := by split <;> rfl
@[simp] theorem ite_mirror (c : Prop) [Decidable c] (a b : State) : (if c then a else b).mirror = if c then a.mirror else b.mirror := by split <;> rfl
@[simp] theorem ite_kiln (c : Prop) [Decidable c] (a b : State) : (if c then a else b).kiln = if c then a.kiln else b.kiln := by split <;> rfl
@[simp] theorem ite_kport (c : Prop) [Decidable c] (a b : State) : (if c then a else b).kport = if c then a.kport else b.kport := by split <;> rfl
@[simp] theorem ite_pair (c : Prop) [Decidable c] (a b : State) : (if c then a else b).pair = if c then a.pair else b.pair := by split <;> rfl
@[simp] theorem ite_copies (c : Prop) [Decidable c] (a b : State) : (if c then a else b).copies = if c then a.copies else b.copies := by split <;> rfl
@[simp] theorem ite_copySeq (c : Prop) [Decidable c] (a b : State) : (if c then a else b).copySeq = if c then a.copySeq else b.copySeq := by split <;> rfl
@[simp] theorem ite_shown (c : Prop) [Decidable c] (a b : State) : (if c then a else b).shown = if c then a.shown else b.shown := by split <;> rfl
@[simp] theorem ite_time (c : Prop) [Decidable c] (a b : State) : (if c then a else b).time = if c then a.time else b.time := by split <;> rfl
@[simp] theorem ite_gnss (c : Prop) [Decidable c] (a b : State) : (if c then a else b).gnss = if c then a.gnss else b.gnss := by split <;> rfl
@[simp] theorem ite_sess (c : Prop) [Decidable c] (a b : State) : (if c then a else b).sess = if c then a.sess else b.sess := by split <;> rfl
@[simp] theorem ite_net (c : Prop) [Decidable c] (a b : State) : (if c then a else b).net = if c then a.net else b.net := by split <;> rfl
@[simp] theorem ite_field (c : Prop) [Decidable c] (a b : State) : (if c then a else b).field = if c then a.field else b.field := by split <;> rfl
@[simp] theorem ite_glaze (c : Prop) [Decidable c] (a b : State) : (if c then a else b).glaze = if c then a.glaze else b.glaze := by split <;> rfl
@[simp] theorem ite_cmd (c : Prop) [Decidable c] (a b : State) : (if c then a else b).cmd = if c then a.cmd else b.cmd := by split <;> rfl
@[simp] theorem ite_sec (c : Prop) [Decidable c] (a b : State) : (if c then a else b).sec = if c then a.sec else b.sec := by split <;> rfl
@[simp] theorem ite_sherd (c : Prop) [Decidable c] (a b : State) : (if c then a else b).sherd = if c then a.sherd else b.sherd := by split <;> rfl
@[simp] theorem ite_mon (c : Prop) [Decidable c] (a b : State) : (if c then a else b).mon = if c then a.mon else b.mon := by split <;> rfl
@[simp] theorem ite_pmic (c : Prop) [Decidable c] (a b : State) : (if c then a else b).pmic = if c then a.pmic else b.pmic := by split <;> rfl
@[simp] theorem ite_events (c : Prop) [Decidable c] (a b : State) : (if c then a else b).events = if c then a.events else b.events := by split <;> rfl
@[simp] theorem ite_out (c : Prop) [Decidable c] (a b : State) : (if c then a else b).out = if c then a.out else b.out := by split <;> rfl
@[simp] theorem ite_limits (c : Prop) [Decidable c] (a b : State) : (if c then a else b).limits = if c then a.limits else b.limits := by split <;> rfl
@[simp] theorem ite_free (c : Prop) [Decidable c] (a b : State) : (if c then a else b).free = if c then a.free else b.free := by split <;> rfl

/-! ### the named updates -/

@[simp] theorem State.at_frame (s : State) a0 :
    (State.at s a0).sys = s.sys ∧ (State.at s a0).draft = s.draft ∧ (State.at s a0).staged = s.staged ∧
    (State.at s a0).prevDraft = s.prevDraft ∧ (State.at s a0).warp = s.warp ∧ (State.at s a0).heddle = s.heddle ∧
    (State.at s a0).obs = s.obs ∧ (State.at s a0).wheel = s.wheel ∧ (State.at s a0).guide = s.guide ∧
    (State.at s a0).alloc = s.alloc ∧ (State.at s a0).plant = s.plant ∧ (State.at s a0).loop = s.loop ∧
    (State.at s a0).rio = s.rio ∧ (State.at s a0).adc = s.adc ∧ (State.at s a0).shuttle = s.shuttle ∧
    (State.at s a0).mirror = s.mirror ∧ (State.at s a0).kiln = s.kiln ∧ (State.at s a0).kport = s.kport ∧
    (State.at s a0).pair = s.pair ∧ (State.at s a0).copies = s.copies ∧ (State.at s a0).copySeq = s.copySeq ∧
    (State.at s a0).shown = s.shown ∧ (State.at s a0).time = s.time ∧ (State.at s a0).gnss = s.gnss ∧
    (State.at s a0).sess = s.sess ∧ (State.at s a0).net = s.net ∧ (State.at s a0).field = s.field ∧
    (State.at s a0).glaze = s.glaze ∧ (State.at s a0).cmd = s.cmd ∧ (State.at s a0).sec = s.sec ∧
    (State.at s a0).sherd = s.sherd ∧ (State.at s a0).mon = s.mon ∧ (State.at s a0).pmic = s.pmic ∧
    (State.at s a0).events = s.events ∧ (State.at s a0).out = s.out ∧ (State.at s a0).limits = s.limits ∧
    (State.at s a0).free = s.free := by
  simp only [State.at, and_self]
@[simp] theorem State.atDtime_frame (s : State) a0 :
    (State.atDtime s a0).sys = s.sys ∧ (State.atDtime s a0).draft = s.draft ∧ (State.atDtime s a0).staged = s.staged ∧
    (State.atDtime s a0).prevDraft = s.prevDraft ∧ (State.atDtime s a0).warp = s.warp ∧
    (State.atDtime s a0).heddle = s.heddle ∧ (State.atDtime s a0).obs = s.obs ∧ (State.atDtime s a0).wheel = s.wheel ∧
    (State.atDtime s a0).guide = s.guide ∧ (State.atDtime s a0).alloc = s.alloc ∧ (State.atDtime s a0).plant = s.plant ∧
    (State.atDtime s a0).loop = s.loop ∧ (State.atDtime s a0).rio = s.rio ∧ (State.atDtime s a0).adc = s.adc ∧
    (State.atDtime s a0).shuttle = s.shuttle ∧ (State.atDtime s a0).mirror = s.mirror ∧ (State.atDtime s a0).kiln = s.kiln ∧
    (State.atDtime s a0).kport = s.kport ∧ (State.atDtime s a0).pair = s.pair ∧ (State.atDtime s a0).copies = s.copies ∧
    (State.atDtime s a0).copySeq = s.copySeq ∧ (State.atDtime s a0).shown = s.shown ∧ (State.atDtime s a0).time = s.time ∧
    (State.atDtime s a0).gnss = s.gnss ∧ (State.atDtime s a0).sess = s.sess ∧ (State.atDtime s a0).net = s.net ∧
    (State.atDtime s a0).field = s.field ∧ (State.atDtime s a0).glaze = s.glaze ∧ (State.atDtime s a0).cmd = s.cmd ∧
    (State.atDtime s a0).sec = s.sec ∧ (State.atDtime s a0).sherd = s.sherd ∧ (State.atDtime s a0).mon = s.mon ∧
    (State.atDtime s a0).pmic = s.pmic ∧ (State.atDtime s a0).events = s.events ∧ (State.atDtime s a0).out = s.out ∧
    (State.atDtime s a0).limits = s.limits ∧ (State.atDtime s a0).free = s.free := by
  simp [State.atDtime]
@[simp] theorem State.setStrm_frame (s : State) a0 a1 :
    (State.setStrm s a0 a1).sys = s.sys ∧ (State.setStrm s a0 a1).draft = s.draft ∧
    (State.setStrm s a0 a1).staged = s.staged ∧ (State.setStrm s a0 a1).prevDraft = s.prevDraft ∧
    (State.setStrm s a0 a1).clk = s.clk ∧ (State.setStrm s a0 a1).warp = s.warp ∧ (State.setStrm s a0 a1).heddle = s.heddle ∧
    (State.setStrm s a0 a1).obs = s.obs ∧ (State.setStrm s a0 a1).wheel = s.wheel ∧ (State.setStrm s a0 a1).guide = s.guide ∧
    (State.setStrm s a0 a1).alloc = s.alloc ∧ (State.setStrm s a0 a1).plant = s.plant ∧
    (State.setStrm s a0 a1).loop = s.loop ∧ (State.setStrm s a0 a1).rio = s.rio ∧ (State.setStrm s a0 a1).adc = s.adc ∧
    (State.setStrm s a0 a1).shuttle = s.shuttle ∧ (State.setStrm s a0 a1).mirror = s.mirror ∧
    (State.setStrm s a0 a1).kiln = s.kiln ∧ (State.setStrm s a0 a1).kport = s.kport ∧ (State.setStrm s a0 a1).pair = s.pair ∧
    (State.setStrm s a0 a1).copies = s.copies ∧ (State.setStrm s a0 a1).copySeq = s.copySeq ∧
    (State.setStrm s a0 a1).shown = s.shown ∧ (State.setStrm s a0 a1).time = s.time ∧ (State.setStrm s a0 a1).sess = s.sess ∧
    (State.setStrm s a0 a1).net = s.net ∧ (State.setStrm s a0 a1).field = s.field ∧ (State.setStrm s a0 a1).glaze = s.glaze ∧
    (State.setStrm s a0 a1).cmd = s.cmd ∧ (State.setStrm s a0 a1).sec = s.sec ∧ (State.setStrm s a0 a1).sherd = s.sherd ∧
    (State.setStrm s a0 a1).mon = s.mon ∧ (State.setStrm s a0 a1).pmic = s.pmic ∧ (State.setStrm s a0 a1).events = s.events ∧
    (State.setStrm s a0 a1).out = s.out ∧ (State.setStrm s a0 a1).limits = s.limits ∧ (State.setStrm s a0 a1).free = s.free := by
  simp only [State.setStrm, and_self]
@[simp] theorem State.setChan_frame (s : State) a0 a1 :
    (State.setChan s a0 a1).sys = s.sys ∧ (State.setChan s a0 a1).draft = s.draft ∧
    (State.setChan s a0 a1).staged = s.staged ∧ (State.setChan s a0 a1).prevDraft = s.prevDraft ∧
    (State.setChan s a0 a1).clk = s.clk ∧ (State.setChan s a0 a1).warp = s.warp ∧ (State.setChan s a0 a1).heddle = s.heddle ∧
    (State.setChan s a0 a1).obs = s.obs ∧ (State.setChan s a0 a1).wheel = s.wheel ∧ (State.setChan s a0 a1).guide = s.guide ∧
    (State.setChan s a0 a1).alloc = s.alloc ∧ (State.setChan s a0 a1).plant = s.plant ∧
    (State.setChan s a0 a1).loop = s.loop ∧ (State.setChan s a0 a1).rio = s.rio ∧ (State.setChan s a0 a1).adc = s.adc ∧
    (State.setChan s a0 a1).shuttle = s.shuttle ∧ (State.setChan s a0 a1).mirror = s.mirror ∧
    (State.setChan s a0 a1).kiln = s.kiln ∧ (State.setChan s a0 a1).kport = s.kport ∧ (State.setChan s a0 a1).pair = s.pair ∧
    (State.setChan s a0 a1).copies = s.copies ∧ (State.setChan s a0 a1).copySeq = s.copySeq ∧
    (State.setChan s a0 a1).shown = s.shown ∧ (State.setChan s a0 a1).time = s.time ∧ (State.setChan s a0 a1).sess = s.sess ∧
    (State.setChan s a0 a1).net = s.net ∧ (State.setChan s a0 a1).field = s.field ∧ (State.setChan s a0 a1).glaze = s.glaze ∧
    (State.setChan s a0 a1).cmd = s.cmd ∧ (State.setChan s a0 a1).sec = s.sec ∧ (State.setChan s a0 a1).sherd = s.sherd ∧
    (State.setChan s a0 a1).mon = s.mon ∧ (State.setChan s a0 a1).pmic = s.pmic ∧ (State.setChan s a0 a1).events = s.events ∧
    (State.setChan s a0 a1).out = s.out ∧ (State.setChan s a0 a1).limits = s.limits ∧ (State.setChan s a0 a1).free = s.free := by
  simp only [State.setChan, and_self]
@[simp] theorem State.setAch_frame (s : State) a0 a1 :
    (State.setAch s a0 a1).sys = s.sys ∧ (State.setAch s a0 a1).draft = s.draft ∧ (State.setAch s a0 a1).staged = s.staged ∧
    (State.setAch s a0 a1).prevDraft = s.prevDraft ∧ (State.setAch s a0 a1).clk = s.clk ∧
    (State.setAch s a0 a1).warp = s.warp ∧ (State.setAch s a0 a1).heddle = s.heddle ∧ (State.setAch s a0 a1).obs = s.obs ∧
    (State.setAch s a0 a1).wheel = s.wheel ∧ (State.setAch s a0 a1).guide = s.guide ∧
    (State.setAch s a0 a1).alloc = s.alloc ∧ (State.setAch s a0 a1).plant = s.plant ∧ (State.setAch s a0 a1).loop = s.loop ∧
    (State.setAch s a0 a1).rio = s.rio ∧ (State.setAch s a0 a1).shuttle = s.shuttle ∧
    (State.setAch s a0 a1).mirror = s.mirror ∧ (State.setAch s a0 a1).kiln = s.kiln ∧
    (State.setAch s a0 a1).kport = s.kport ∧ (State.setAch s a0 a1).pair = s.pair ∧
    (State.setAch s a0 a1).copies = s.copies ∧ (State.setAch s a0 a1).copySeq = s.copySeq ∧
    (State.setAch s a0 a1).shown = s.shown ∧ (State.setAch s a0 a1).time = s.time ∧ (State.setAch s a0 a1).gnss = s.gnss ∧
    (State.setAch s a0 a1).sess = s.sess ∧ (State.setAch s a0 a1).net = s.net ∧ (State.setAch s a0 a1).field = s.field ∧
    (State.setAch s a0 a1).glaze = s.glaze ∧ (State.setAch s a0 a1).cmd = s.cmd ∧ (State.setAch s a0 a1).sec = s.sec ∧
    (State.setAch s a0 a1).sherd = s.sherd ∧ (State.setAch s a0 a1).mon = s.mon ∧ (State.setAch s a0 a1).pmic = s.pmic ∧
    (State.setAch s a0 a1).events = s.events ∧ (State.setAch s a0 a1).out = s.out ∧
    (State.setAch s a0 a1).limits = s.limits ∧ (State.setAch s a0 a1).free = s.free := by
  simp only [State.setAch, and_self]
@[simp] theorem State.setSession_frame (s : State) a0 a1 :
    (State.setSession s a0 a1).sys = s.sys ∧ (State.setSession s a0 a1).draft = s.draft ∧
    (State.setSession s a0 a1).staged = s.staged ∧ (State.setSession s a0 a1).prevDraft = s.prevDraft ∧
    (State.setSession s a0 a1).clk = s.clk ∧ (State.setSession s a0 a1).warp = s.warp ∧
    (State.setSession s a0 a1).heddle = s.heddle ∧ (State.setSession s a0 a1).obs = s.obs ∧
    (State.setSession s a0 a1).wheel = s.wheel ∧ (State.setSession s a0 a1).guide = s.guide ∧
    (State.setSession s a0 a1).alloc = s.alloc ∧ (State.setSession s a0 a1).plant = s.plant ∧
    (State.setSession s a0 a1).loop = s.loop ∧ (State.setSession s a0 a1).rio = s.rio ∧
    (State.setSession s a0 a1).adc = s.adc ∧ (State.setSession s a0 a1).shuttle = s.shuttle ∧
    (State.setSession s a0 a1).mirror = s.mirror ∧ (State.setSession s a0 a1).kiln = s.kiln ∧
    (State.setSession s a0 a1).kport = s.kport ∧ (State.setSession s a0 a1).pair = s.pair ∧
    (State.setSession s a0 a1).copies = s.copies ∧ (State.setSession s a0 a1).copySeq = s.copySeq ∧
    (State.setSession s a0 a1).shown = s.shown ∧ (State.setSession s a0 a1).time = s.time ∧
    (State.setSession s a0 a1).gnss = s.gnss ∧ (State.setSession s a0 a1).net = s.net ∧
    (State.setSession s a0 a1).field = s.field ∧ (State.setSession s a0 a1).glaze = s.glaze ∧
    (State.setSession s a0 a1).cmd = s.cmd ∧ (State.setSession s a0 a1).sec = s.sec ∧
    (State.setSession s a0 a1).sherd = s.sherd ∧ (State.setSession s a0 a1).mon = s.mon ∧
    (State.setSession s a0 a1).pmic = s.pmic ∧ (State.setSession s a0 a1).events = s.events ∧
    (State.setSession s a0 a1).out = s.out ∧ (State.setSession s a0 a1).limits = s.limits ∧
    (State.setSession s a0 a1).free = s.free := by
  simp only [State.setSession, and_self]
@[simp] theorem State.setSta_frame (s : State) a0 a1 :
    (State.setSta s a0 a1).sys = s.sys ∧ (State.setSta s a0 a1).draft = s.draft ∧ (State.setSta s a0 a1).staged = s.staged ∧
    (State.setSta s a0 a1).prevDraft = s.prevDraft ∧ (State.setSta s a0 a1).clk = s.clk ∧
    (State.setSta s a0 a1).warp = s.warp ∧ (State.setSta s a0 a1).heddle = s.heddle ∧ (State.setSta s a0 a1).obs = s.obs ∧
    (State.setSta s a0 a1).wheel = s.wheel ∧ (State.setSta s a0 a1).guide = s.guide ∧
    (State.setSta s a0 a1).alloc = s.alloc ∧ (State.setSta s a0 a1).plant = s.plant ∧ (State.setSta s a0 a1).loop = s.loop ∧
    (State.setSta s a0 a1).adc = s.adc ∧ (State.setSta s a0 a1).shuttle = s.shuttle ∧
    (State.setSta s a0 a1).mirror = s.mirror ∧ (State.setSta s a0 a1).kiln = s.kiln ∧
    (State.setSta s a0 a1).kport = s.kport ∧ (State.setSta s a0 a1).pair = s.pair ∧
    (State.setSta s a0 a1).copies = s.copies ∧ (State.setSta s a0 a1).copySeq = s.copySeq ∧
    (State.setSta s a0 a1).shown = s.shown ∧ (State.setSta s a0 a1).time = s.time ∧ (State.setSta s a0 a1).gnss = s.gnss ∧
    (State.setSta s a0 a1).sess = s.sess ∧ (State.setSta s a0 a1).net = s.net ∧ (State.setSta s a0 a1).field = s.field ∧
    (State.setSta s a0 a1).glaze = s.glaze ∧ (State.setSta s a0 a1).cmd = s.cmd ∧ (State.setSta s a0 a1).sec = s.sec ∧
    (State.setSta s a0 a1).sherd = s.sherd ∧ (State.setSta s a0 a1).mon = s.mon ∧ (State.setSta s a0 a1).pmic = s.pmic ∧
    (State.setSta s a0 a1).events = s.events ∧ (State.setSta s a0 a1).out = s.out ∧
    (State.setSta s a0 a1).limits = s.limits ∧ (State.setSta s a0 a1).free = s.free := by
  simp only [State.setSta, and_self]
@[simp] theorem State.setThr_frame (s : State) a0 a1 :
    (State.setThr s a0 a1).sys = s.sys ∧ (State.setThr s a0 a1).draft = s.draft ∧ (State.setThr s a0 a1).staged = s.staged ∧
    (State.setThr s a0 a1).prevDraft = s.prevDraft ∧ (State.setThr s a0 a1).clk = s.clk ∧
    (State.setThr s a0 a1).warp = s.warp ∧ (State.setThr s a0 a1).heddle = s.heddle ∧ (State.setThr s a0 a1).obs = s.obs ∧
    (State.setThr s a0 a1).wheel = s.wheel ∧ (State.setThr s a0 a1).guide = s.guide ∧
    (State.setThr s a0 a1).plant = s.plant ∧ (State.setThr s a0 a1).loop = s.loop ∧ (State.setThr s a0 a1).rio = s.rio ∧
    (State.setThr s a0 a1).adc = s.adc ∧ (State.setThr s a0 a1).shuttle = s.shuttle ∧
    (State.setThr s a0 a1).mirror = s.mirror ∧ (State.setThr s a0 a1).kiln = s.kiln ∧
    (State.setThr s a0 a1).kport = s.kport ∧ (State.setThr s a0 a1).pair = s.pair ∧
    (State.setThr s a0 a1).copies = s.copies ∧ (State.setThr s a0 a1).copySeq = s.copySeq ∧
    (State.setThr s a0 a1).shown = s.shown ∧ (State.setThr s a0 a1).time = s.time ∧ (State.setThr s a0 a1).gnss = s.gnss ∧
    (State.setThr s a0 a1).sess = s.sess ∧ (State.setThr s a0 a1).net = s.net ∧ (State.setThr s a0 a1).field = s.field ∧
    (State.setThr s a0 a1).glaze = s.glaze ∧ (State.setThr s a0 a1).cmd = s.cmd ∧ (State.setThr s a0 a1).sec = s.sec ∧
    (State.setThr s a0 a1).sherd = s.sherd ∧ (State.setThr s a0 a1).mon = s.mon ∧ (State.setThr s a0 a1).pmic = s.pmic ∧
    (State.setThr s a0 a1).events = s.events ∧ (State.setThr s a0 a1).out = s.out ∧
    (State.setThr s a0 a1).limits = s.limits ∧ (State.setThr s a0 a1).free = s.free := by
  simp only [State.setThr, and_self]
@[simp] theorem State.setHed_frame (s : State) a0 a1 :
    (State.setHed s a0 a1).sys = s.sys ∧ (State.setHed s a0 a1).draft = s.draft ∧ (State.setHed s a0 a1).staged = s.staged ∧
    (State.setHed s a0 a1).prevDraft = s.prevDraft ∧ (State.setHed s a0 a1).clk = s.clk ∧
    (State.setHed s a0 a1).warp = s.warp ∧ (State.setHed s a0 a1).obs = s.obs ∧ (State.setHed s a0 a1).wheel = s.wheel ∧
    (State.setHed s a0 a1).guide = s.guide ∧ (State.setHed s a0 a1).alloc = s.alloc ∧
    (State.setHed s a0 a1).plant = s.plant ∧ (State.setHed s a0 a1).loop = s.loop ∧ (State.setHed s a0 a1).rio = s.rio ∧
    (State.setHed s a0 a1).adc = s.adc ∧ (State.setHed s a0 a1).shuttle = s.shuttle ∧
    (State.setHed s a0 a1).mirror = s.mirror ∧ (State.setHed s a0 a1).kiln = s.kiln ∧
    (State.setHed s a0 a1).kport = s.kport ∧ (State.setHed s a0 a1).pair = s.pair ∧
    (State.setHed s a0 a1).copies = s.copies ∧ (State.setHed s a0 a1).copySeq = s.copySeq ∧
    (State.setHed s a0 a1).shown = s.shown ∧ (State.setHed s a0 a1).time = s.time ∧ (State.setHed s a0 a1).gnss = s.gnss ∧
    (State.setHed s a0 a1).sess = s.sess ∧ (State.setHed s a0 a1).net = s.net ∧ (State.setHed s a0 a1).field = s.field ∧
    (State.setHed s a0 a1).glaze = s.glaze ∧ (State.setHed s a0 a1).cmd = s.cmd ∧ (State.setHed s a0 a1).sec = s.sec ∧
    (State.setHed s a0 a1).sherd = s.sherd ∧ (State.setHed s a0 a1).mon = s.mon ∧ (State.setHed s a0 a1).pmic = s.pmic ∧
    (State.setHed s a0 a1).events = s.events ∧ (State.setHed s a0 a1).out = s.out ∧
    (State.setHed s a0 a1).limits = s.limits ∧ (State.setHed s a0 a1).free = s.free := by
  simp only [State.setHed, and_self]
@[simp] theorem State.setTrack_frame (s : State) a0 a1 :
    (State.setTrack s a0 a1).sys = s.sys ∧ (State.setTrack s a0 a1).draft = s.draft ∧
    (State.setTrack s a0 a1).staged = s.staged ∧ (State.setTrack s a0 a1).prevDraft = s.prevDraft ∧
    (State.setTrack s a0 a1).clk = s.clk ∧ (State.setTrack s a0 a1).warp = s.warp ∧ (State.setTrack s a0 a1).obs = s.obs ∧
    (State.setTrack s a0 a1).wheel = s.wheel ∧ (State.setTrack s a0 a1).guide = s.guide ∧
    (State.setTrack s a0 a1).alloc = s.alloc ∧ (State.setTrack s a0 a1).plant = s.plant ∧
    (State.setTrack s a0 a1).loop = s.loop ∧ (State.setTrack s a0 a1).rio = s.rio ∧ (State.setTrack s a0 a1).adc = s.adc ∧
    (State.setTrack s a0 a1).shuttle = s.shuttle ∧ (State.setTrack s a0 a1).mirror = s.mirror ∧
    (State.setTrack s a0 a1).kiln = s.kiln ∧ (State.setTrack s a0 a1).kport = s.kport ∧
    (State.setTrack s a0 a1).pair = s.pair ∧ (State.setTrack s a0 a1).copies = s.copies ∧
    (State.setTrack s a0 a1).copySeq = s.copySeq ∧ (State.setTrack s a0 a1).shown = s.shown ∧
    (State.setTrack s a0 a1).time = s.time ∧ (State.setTrack s a0 a1).gnss = s.gnss ∧
    (State.setTrack s a0 a1).sess = s.sess ∧ (State.setTrack s a0 a1).net = s.net ∧
    (State.setTrack s a0 a1).field = s.field ∧ (State.setTrack s a0 a1).glaze = s.glaze ∧
    (State.setTrack s a0 a1).cmd = s.cmd ∧ (State.setTrack s a0 a1).sec = s.sec ∧ (State.setTrack s a0 a1).sherd = s.sherd ∧
    (State.setTrack s a0 a1).mon = s.mon ∧ (State.setTrack s a0 a1).pmic = s.pmic ∧
    (State.setTrack s a0 a1).events = s.events ∧ (State.setTrack s a0 a1).out = s.out ∧
    (State.setTrack s a0 a1).limits = s.limits ∧ (State.setTrack s a0 a1).free = s.free := by
  simp only [State.setTrack, and_self]
@[simp] theorem State.setGroup_frame (s : State) a0 a1 :
    (State.setGroup s a0 a1).sys = s.sys ∧ (State.setGroup s a0 a1).draft = s.draft ∧
    (State.setGroup s a0 a1).staged = s.staged ∧ (State.setGroup s a0 a1).prevDraft = s.prevDraft ∧
    (State.setGroup s a0 a1).clk = s.clk ∧ (State.setGroup s a0 a1).warp = s.warp ∧ (State.setGroup s a0 a1).obs = s.obs ∧
    (State.setGroup s a0 a1).wheel = s.wheel ∧ (State.setGroup s a0 a1).guide = s.guide ∧
    (State.setGroup s a0 a1).alloc = s.alloc ∧ (State.setGroup s a0 a1).plant = s.plant ∧
    (State.setGroup s a0 a1).loop = s.loop ∧ (State.setGroup s a0 a1).rio = s.rio ∧ (State.setGroup s a0 a1).adc = s.adc ∧
    (State.setGroup s a0 a1).shuttle = s.shuttle ∧ (State.setGroup s a0 a1).mirror = s.mirror ∧
    (State.setGroup s a0 a1).kiln = s.kiln ∧ (State.setGroup s a0 a1).kport = s.kport ∧
    (State.setGroup s a0 a1).pair = s.pair ∧ (State.setGroup s a0 a1).copies = s.copies ∧
    (State.setGroup s a0 a1).copySeq = s.copySeq ∧ (State.setGroup s a0 a1).shown = s.shown ∧
    (State.setGroup s a0 a1).time = s.time ∧ (State.setGroup s a0 a1).gnss = s.gnss ∧
    (State.setGroup s a0 a1).sess = s.sess ∧ (State.setGroup s a0 a1).net = s.net ∧
    (State.setGroup s a0 a1).field = s.field ∧ (State.setGroup s a0 a1).glaze = s.glaze ∧
    (State.setGroup s a0 a1).cmd = s.cmd ∧ (State.setGroup s a0 a1).sec = s.sec ∧ (State.setGroup s a0 a1).sherd = s.sherd ∧
    (State.setGroup s a0 a1).mon = s.mon ∧ (State.setGroup s a0 a1).pmic = s.pmic ∧
    (State.setGroup s a0 a1).events = s.events ∧ (State.setGroup s a0 a1).out = s.out ∧
    (State.setGroup s a0 a1).limits = s.limits ∧ (State.setGroup s a0 a1).free = s.free := by
  simp only [State.setGroup, and_self]
@[simp] theorem State.setSlot_frame (s : State) a0 a1 :
    (State.setSlot s a0 a1).sys = s.sys ∧ (State.setSlot s a0 a1).draft = s.draft ∧
    (State.setSlot s a0 a1).staged = s.staged ∧ (State.setSlot s a0 a1).prevDraft = s.prevDraft ∧
    (State.setSlot s a0 a1).clk = s.clk ∧ (State.setSlot s a0 a1).warp = s.warp ∧ (State.setSlot s a0 a1).heddle = s.heddle ∧
    (State.setSlot s a0 a1).obs = s.obs ∧ (State.setSlot s a0 a1).wheel = s.wheel ∧ (State.setSlot s a0 a1).guide = s.guide ∧
    (State.setSlot s a0 a1).alloc = s.alloc ∧ (State.setSlot s a0 a1).plant = s.plant ∧ (State.setSlot s a0 a1).rio = s.rio ∧
    (State.setSlot s a0 a1).adc = s.adc ∧ (State.setSlot s a0 a1).shuttle = s.shuttle ∧
    (State.setSlot s a0 a1).mirror = s.mirror ∧ (State.setSlot s a0 a1).kiln = s.kiln ∧
    (State.setSlot s a0 a1).kport = s.kport ∧ (State.setSlot s a0 a1).pair = s.pair ∧
    (State.setSlot s a0 a1).copies = s.copies ∧ (State.setSlot s a0 a1).copySeq = s.copySeq ∧
    (State.setSlot s a0 a1).shown = s.shown ∧ (State.setSlot s a0 a1).time = s.time ∧ (State.setSlot s a0 a1).gnss = s.gnss ∧
    (State.setSlot s a0 a1).sess = s.sess ∧ (State.setSlot s a0 a1).net = s.net ∧ (State.setSlot s a0 a1).field = s.field ∧
    (State.setSlot s a0 a1).glaze = s.glaze ∧ (State.setSlot s a0 a1).cmd = s.cmd ∧ (State.setSlot s a0 a1).sec = s.sec ∧
    (State.setSlot s a0 a1).sherd = s.sherd ∧ (State.setSlot s a0 a1).mon = s.mon ∧ (State.setSlot s a0 a1).pmic = s.pmic ∧
    (State.setSlot s a0 a1).events = s.events ∧ (State.setSlot s a0 a1).out = s.out ∧
    (State.setSlot s a0 a1).limits = s.limits ∧ (State.setSlot s a0 a1).free = s.free := by
  simp only [State.setSlot, and_self]
@[simp] theorem State.setSrc_frame (s : State) a0 a1 :
    (State.setSrc s a0 a1).sys = s.sys ∧ (State.setSrc s a0 a1).draft = s.draft ∧ (State.setSrc s a0 a1).staged = s.staged ∧
    (State.setSrc s a0 a1).prevDraft = s.prevDraft ∧ (State.setSrc s a0 a1).clk = s.clk ∧
    (State.setSrc s a0 a1).warp = s.warp ∧ (State.setSrc s a0 a1).heddle = s.heddle ∧ (State.setSrc s a0 a1).obs = s.obs ∧
    (State.setSrc s a0 a1).wheel = s.wheel ∧ (State.setSrc s a0 a1).guide = s.guide ∧
    (State.setSrc s a0 a1).alloc = s.alloc ∧ (State.setSrc s a0 a1).plant = s.plant ∧ (State.setSrc s a0 a1).loop = s.loop ∧
    (State.setSrc s a0 a1).rio = s.rio ∧ (State.setSrc s a0 a1).adc = s.adc ∧ (State.setSrc s a0 a1).shuttle = s.shuttle ∧
    (State.setSrc s a0 a1).mirror = s.mirror ∧ (State.setSrc s a0 a1).kiln = s.kiln ∧
    (State.setSrc s a0 a1).kport = s.kport ∧ (State.setSrc s a0 a1).pair = s.pair ∧
    (State.setSrc s a0 a1).copies = s.copies ∧ (State.setSrc s a0 a1).copySeq = s.copySeq ∧
    (State.setSrc s a0 a1).shown = s.shown ∧ (State.setSrc s a0 a1).gnss = s.gnss ∧ (State.setSrc s a0 a1).sess = s.sess ∧
    (State.setSrc s a0 a1).net = s.net ∧ (State.setSrc s a0 a1).field = s.field ∧ (State.setSrc s a0 a1).glaze = s.glaze ∧
    (State.setSrc s a0 a1).cmd = s.cmd ∧ (State.setSrc s a0 a1).sec = s.sec ∧ (State.setSrc s a0 a1).sherd = s.sherd ∧
    (State.setSrc s a0 a1).mon = s.mon ∧ (State.setSrc s a0 a1).pmic = s.pmic ∧ (State.setSrc s a0 a1).events = s.events ∧
    (State.setSrc s a0 a1).out = s.out ∧ (State.setSrc s a0 a1).limits = s.limits ∧ (State.setSrc s a0 a1).free = s.free := by
  simp only [State.setSrc, and_self]
@[simp] theorem State.setLink_frame (s : State) a0 a1 :
    (State.setLink s a0 a1).sys = s.sys ∧ (State.setLink s a0 a1).draft = s.draft ∧
    (State.setLink s a0 a1).staged = s.staged ∧ (State.setLink s a0 a1).prevDraft = s.prevDraft ∧
    (State.setLink s a0 a1).clk = s.clk ∧ (State.setLink s a0 a1).warp = s.warp ∧ (State.setLink s a0 a1).heddle = s.heddle ∧
    (State.setLink s a0 a1).obs = s.obs ∧ (State.setLink s a0 a1).wheel = s.wheel ∧ (State.setLink s a0 a1).guide = s.guide ∧
    (State.setLink s a0 a1).alloc = s.alloc ∧ (State.setLink s a0 a1).plant = s.plant ∧
    (State.setLink s a0 a1).loop = s.loop ∧ (State.setLink s a0 a1).rio = s.rio ∧ (State.setLink s a0 a1).adc = s.adc ∧
    (State.setLink s a0 a1).shuttle = s.shuttle ∧ (State.setLink s a0 a1).mirror = s.mirror ∧
    (State.setLink s a0 a1).kiln = s.kiln ∧ (State.setLink s a0 a1).kport = s.kport ∧ (State.setLink s a0 a1).pair = s.pair ∧
    (State.setLink s a0 a1).copies = s.copies ∧ (State.setLink s a0 a1).copySeq = s.copySeq ∧
    (State.setLink s a0 a1).shown = s.shown ∧ (State.setLink s a0 a1).gnss = s.gnss ∧ (State.setLink s a0 a1).sess = s.sess ∧
    (State.setLink s a0 a1).net = s.net ∧ (State.setLink s a0 a1).field = s.field ∧ (State.setLink s a0 a1).glaze = s.glaze ∧
    (State.setLink s a0 a1).cmd = s.cmd ∧ (State.setLink s a0 a1).sec = s.sec ∧ (State.setLink s a0 a1).sherd = s.sherd ∧
    (State.setLink s a0 a1).mon = s.mon ∧ (State.setLink s a0 a1).pmic = s.pmic ∧ (State.setLink s a0 a1).events = s.events ∧
    (State.setLink s a0 a1).out = s.out ∧ (State.setLink s a0 a1).limits = s.limits ∧ (State.setLink s a0 a1).free = s.free := by
  simp only [State.setLink, and_self]
@[simp] theorem State.setPort_frame (s : State) a0 a1 :
    (State.setPort s a0 a1).sys = s.sys ∧ (State.setPort s a0 a1).draft = s.draft ∧
    (State.setPort s a0 a1).staged = s.staged ∧ (State.setPort s a0 a1).prevDraft = s.prevDraft ∧
    (State.setPort s a0 a1).clk = s.clk ∧ (State.setPort s a0 a1).warp = s.warp ∧ (State.setPort s a0 a1).heddle = s.heddle ∧
    (State.setPort s a0 a1).obs = s.obs ∧ (State.setPort s a0 a1).wheel = s.wheel ∧ (State.setPort s a0 a1).guide = s.guide ∧
    (State.setPort s a0 a1).alloc = s.alloc ∧ (State.setPort s a0 a1).plant = s.plant ∧
    (State.setPort s a0 a1).loop = s.loop ∧ (State.setPort s a0 a1).rio = s.rio ∧ (State.setPort s a0 a1).adc = s.adc ∧
    (State.setPort s a0 a1).shuttle = s.shuttle ∧ (State.setPort s a0 a1).mirror = s.mirror ∧
    (State.setPort s a0 a1).kiln = s.kiln ∧ (State.setPort s a0 a1).kport = s.kport ∧ (State.setPort s a0 a1).pair = s.pair ∧
    (State.setPort s a0 a1).copies = s.copies ∧ (State.setPort s a0 a1).copySeq = s.copySeq ∧
    (State.setPort s a0 a1).shown = s.shown ∧ (State.setPort s a0 a1).time = s.time ∧ (State.setPort s a0 a1).gnss = s.gnss ∧
    (State.setPort s a0 a1).sess = s.sess ∧ (State.setPort s a0 a1).field = s.field ∧
    (State.setPort s a0 a1).glaze = s.glaze ∧ (State.setPort s a0 a1).cmd = s.cmd ∧ (State.setPort s a0 a1).sec = s.sec ∧
    (State.setPort s a0 a1).sherd = s.sherd ∧ (State.setPort s a0 a1).mon = s.mon ∧ (State.setPort s a0 a1).pmic = s.pmic ∧
    (State.setPort s a0 a1).events = s.events ∧ (State.setPort s a0 a1).out = s.out ∧
    (State.setPort s a0 a1).limits = s.limits ∧ (State.setPort s a0 a1).free = s.free := by
  simp only [State.setPort, and_self]
@[simp] theorem State.setUart_frame (s : State) a0 a1 :
    (State.setUart s a0 a1).sys = s.sys ∧ (State.setUart s a0 a1).draft = s.draft ∧
    (State.setUart s a0 a1).staged = s.staged ∧ (State.setUart s a0 a1).prevDraft = s.prevDraft ∧
    (State.setUart s a0 a1).clk = s.clk ∧ (State.setUart s a0 a1).warp = s.warp ∧ (State.setUart s a0 a1).heddle = s.heddle ∧
    (State.setUart s a0 a1).obs = s.obs ∧ (State.setUart s a0 a1).wheel = s.wheel ∧ (State.setUart s a0 a1).guide = s.guide ∧
    (State.setUart s a0 a1).alloc = s.alloc ∧ (State.setUart s a0 a1).plant = s.plant ∧
    (State.setUart s a0 a1).loop = s.loop ∧ (State.setUart s a0 a1).rio = s.rio ∧ (State.setUart s a0 a1).adc = s.adc ∧
    (State.setUart s a0 a1).shuttle = s.shuttle ∧ (State.setUart s a0 a1).mirror = s.mirror ∧
    (State.setUart s a0 a1).kiln = s.kiln ∧ (State.setUart s a0 a1).kport = s.kport ∧ (State.setUart s a0 a1).pair = s.pair ∧
    (State.setUart s a0 a1).copies = s.copies ∧ (State.setUart s a0 a1).copySeq = s.copySeq ∧
    (State.setUart s a0 a1).shown = s.shown ∧ (State.setUart s a0 a1).time = s.time ∧ (State.setUart s a0 a1).gnss = s.gnss ∧
    (State.setUart s a0 a1).sess = s.sess ∧ (State.setUart s a0 a1).net = s.net ∧ (State.setUart s a0 a1).glaze = s.glaze ∧
    (State.setUart s a0 a1).cmd = s.cmd ∧ (State.setUart s a0 a1).sec = s.sec ∧ (State.setUart s a0 a1).sherd = s.sherd ∧
    (State.setUart s a0 a1).mon = s.mon ∧ (State.setUart s a0 a1).pmic = s.pmic ∧ (State.setUart s a0 a1).events = s.events ∧
    (State.setUart s a0 a1).out = s.out ∧ (State.setUart s a0 a1).limits = s.limits ∧ (State.setUart s a0 a1).free = s.free := by
  simp only [State.setUart, and_self]
@[simp] theorem State.setCan_frame (s : State) a0 a1 :
    (State.setCan s a0 a1).sys = s.sys ∧ (State.setCan s a0 a1).draft = s.draft ∧ (State.setCan s a0 a1).staged = s.staged ∧
    (State.setCan s a0 a1).prevDraft = s.prevDraft ∧ (State.setCan s a0 a1).clk = s.clk ∧
    (State.setCan s a0 a1).warp = s.warp ∧ (State.setCan s a0 a1).heddle = s.heddle ∧ (State.setCan s a0 a1).obs = s.obs ∧
    (State.setCan s a0 a1).wheel = s.wheel ∧ (State.setCan s a0 a1).guide = s.guide ∧
    (State.setCan s a0 a1).alloc = s.alloc ∧ (State.setCan s a0 a1).plant = s.plant ∧ (State.setCan s a0 a1).loop = s.loop ∧
    (State.setCan s a0 a1).rio = s.rio ∧ (State.setCan s a0 a1).adc = s.adc ∧ (State.setCan s a0 a1).shuttle = s.shuttle ∧
    (State.setCan s a0 a1).mirror = s.mirror ∧ (State.setCan s a0 a1).kiln = s.kiln ∧
    (State.setCan s a0 a1).kport = s.kport ∧ (State.setCan s a0 a1).pair = s.pair ∧
    (State.setCan s a0 a1).copies = s.copies ∧ (State.setCan s a0 a1).copySeq = s.copySeq ∧
    (State.setCan s a0 a1).shown = s.shown ∧ (State.setCan s a0 a1).time = s.time ∧ (State.setCan s a0 a1).gnss = s.gnss ∧
    (State.setCan s a0 a1).sess = s.sess ∧ (State.setCan s a0 a1).net = s.net ∧ (State.setCan s a0 a1).glaze = s.glaze ∧
    (State.setCan s a0 a1).cmd = s.cmd ∧ (State.setCan s a0 a1).sec = s.sec ∧ (State.setCan s a0 a1).sherd = s.sherd ∧
    (State.setCan s a0 a1).mon = s.mon ∧ (State.setCan s a0 a1).pmic = s.pmic ∧ (State.setCan s a0 a1).events = s.events ∧
    (State.setCan s a0 a1).out = s.out ∧ (State.setCan s a0 a1).limits = s.limits ∧ (State.setCan s a0 a1).free = s.free := by
  simp only [State.setCan, and_self]
@[simp] theorem State.fire_frame (s : State) a0 :
    (State.fire s a0).sys = s.sys ∧ (State.fire s a0).draft = s.draft ∧ (State.fire s a0).staged = s.staged ∧
    (State.fire s a0).prevDraft = s.prevDraft ∧ (State.fire s a0).clk = s.clk ∧ (State.fire s a0).heddle = s.heddle ∧
    (State.fire s a0).obs = s.obs ∧ (State.fire s a0).wheel = s.wheel ∧ (State.fire s a0).guide = s.guide ∧
    (State.fire s a0).alloc = s.alloc ∧ (State.fire s a0).plant = s.plant ∧ (State.fire s a0).loop = s.loop ∧
    (State.fire s a0).rio = s.rio ∧ (State.fire s a0).adc = s.adc ∧ (State.fire s a0).shuttle = s.shuttle ∧
    (State.fire s a0).mirror = s.mirror ∧ (State.fire s a0).kiln = s.kiln ∧ (State.fire s a0).kport = s.kport ∧
    (State.fire s a0).pair = s.pair ∧ (State.fire s a0).copies = s.copies ∧ (State.fire s a0).copySeq = s.copySeq ∧
    (State.fire s a0).shown = s.shown ∧ (State.fire s a0).time = s.time ∧ (State.fire s a0).gnss = s.gnss ∧
    (State.fire s a0).sess = s.sess ∧ (State.fire s a0).net = s.net ∧ (State.fire s a0).field = s.field ∧
    (State.fire s a0).glaze = s.glaze ∧ (State.fire s a0).cmd = s.cmd ∧ (State.fire s a0).sec = s.sec ∧
    (State.fire s a0).sherd = s.sherd ∧ (State.fire s a0).mon = s.mon ∧ (State.fire s a0).pmic = s.pmic ∧
    (State.fire s a0).events = s.events ∧ (State.fire s a0).out = s.out ∧ (State.fire s a0).limits = s.limits ∧
    (State.fire s a0).free = s.free := by
  simp only [State.fire, and_self]
@[simp] theorem State.onLane_frame (s : State) a0 a1 :
    (State.onLane s a0 a1).sys = s.sys ∧ (State.onLane s a0 a1).draft = s.draft ∧ (State.onLane s a0 a1).staged = s.staged ∧
    (State.onLane s a0 a1).prevDraft = s.prevDraft ∧ (State.onLane s a0 a1).clk = s.clk ∧
    (State.onLane s a0 a1).warp = s.warp ∧ (State.onLane s a0 a1).heddle = s.heddle ∧ (State.onLane s a0 a1).obs = s.obs ∧
    (State.onLane s a0 a1).wheel = s.wheel ∧ (State.onLane s a0 a1).guide = s.guide ∧
    (State.onLane s a0 a1).alloc = s.alloc ∧ (State.onLane s a0 a1).plant = s.plant ∧ (State.onLane s a0 a1).loop = s.loop ∧
    (State.onLane s a0 a1).rio = s.rio ∧ (State.onLane s a0 a1).adc = s.adc ∧ (State.onLane s a0 a1).shuttle = s.shuttle ∧
    (State.onLane s a0 a1).mirror = s.mirror ∧ (State.onLane s a0 a1).kiln = s.kiln ∧
    (State.onLane s a0 a1).kport = s.kport ∧ (State.onLane s a0 a1).copies = s.copies ∧
    (State.onLane s a0 a1).copySeq = s.copySeq ∧ (State.onLane s a0 a1).shown = s.shown ∧
    (State.onLane s a0 a1).time = s.time ∧ (State.onLane s a0 a1).gnss = s.gnss ∧ (State.onLane s a0 a1).sess = s.sess ∧
    (State.onLane s a0 a1).net = s.net ∧ (State.onLane s a0 a1).field = s.field ∧ (State.onLane s a0 a1).glaze = s.glaze ∧
    (State.onLane s a0 a1).cmd = s.cmd ∧ (State.onLane s a0 a1).sec = s.sec ∧ (State.onLane s a0 a1).sherd = s.sherd ∧
    (State.onLane s a0 a1).mon = s.mon ∧ (State.onLane s a0 a1).pmic = s.pmic ∧ (State.onLane s a0 a1).events = s.events ∧
    (State.onLane s a0 a1).out = s.out ∧ (State.onLane s a0 a1).limits = s.limits ∧ (State.onLane s a0 a1).free = s.free := by
  simp only [State.onLane, and_self]
@[simp] theorem State.kilnStep_frame (s : State) a0 :
    (State.kilnStep s a0).sys = s.sys ∧ (State.kilnStep s a0).draft = s.draft ∧ (State.kilnStep s a0).staged = s.staged ∧
    (State.kilnStep s a0).prevDraft = s.prevDraft ∧ (State.kilnStep s a0).clk = s.clk ∧ (State.kilnStep s a0).warp = s.warp ∧
    (State.kilnStep s a0).heddle = s.heddle ∧ (State.kilnStep s a0).obs = s.obs ∧ (State.kilnStep s a0).wheel = s.wheel ∧
    (State.kilnStep s a0).guide = s.guide ∧ (State.kilnStep s a0).alloc = s.alloc ∧ (State.kilnStep s a0).plant = s.plant ∧
    (State.kilnStep s a0).loop = s.loop ∧ (State.kilnStep s a0).rio = s.rio ∧ (State.kilnStep s a0).adc = s.adc ∧
    (State.kilnStep s a0).shuttle = s.shuttle ∧ (State.kilnStep s a0).mirror = s.mirror ∧
    (State.kilnStep s a0).kport = s.kport ∧ (State.kilnStep s a0).pair = s.pair ∧ (State.kilnStep s a0).copies = s.copies ∧
    (State.kilnStep s a0).copySeq = s.copySeq ∧ (State.kilnStep s a0).shown = s.shown ∧ (State.kilnStep s a0).time = s.time ∧
    (State.kilnStep s a0).gnss = s.gnss ∧ (State.kilnStep s a0).sess = s.sess ∧ (State.kilnStep s a0).net = s.net ∧
    (State.kilnStep s a0).field = s.field ∧ (State.kilnStep s a0).glaze = s.glaze ∧ (State.kilnStep s a0).cmd = s.cmd ∧
    (State.kilnStep s a0).sec = s.sec ∧ (State.kilnStep s a0).sherd = s.sherd ∧ (State.kilnStep s a0).mon = s.mon ∧
    (State.kilnStep s a0).pmic = s.pmic ∧ (State.kilnStep s a0).events = s.events ∧ (State.kilnStep s a0).out = s.out ∧
    (State.kilnStep s a0).limits = s.limits ∧ (State.kilnStep s a0).free = s.free := by
  simp [State.kilnStep]
@[simp] theorem State.setCmdSess_frame (s : State) a0 :
    (State.setCmdSess s a0).sys = s.sys ∧ (State.setCmdSess s a0).draft = s.draft ∧
    (State.setCmdSess s a0).staged = s.staged ∧ (State.setCmdSess s a0).prevDraft = s.prevDraft ∧
    (State.setCmdSess s a0).clk = s.clk ∧ (State.setCmdSess s a0).warp = s.warp ∧ (State.setCmdSess s a0).heddle = s.heddle ∧
    (State.setCmdSess s a0).obs = s.obs ∧ (State.setCmdSess s a0).wheel = s.wheel ∧ (State.setCmdSess s a0).guide = s.guide ∧
    (State.setCmdSess s a0).alloc = s.alloc ∧ (State.setCmdSess s a0).plant = s.plant ∧
    (State.setCmdSess s a0).loop = s.loop ∧ (State.setCmdSess s a0).rio = s.rio ∧ (State.setCmdSess s a0).adc = s.adc ∧
    (State.setCmdSess s a0).shuttle = s.shuttle ∧ (State.setCmdSess s a0).mirror = s.mirror ∧
    (State.setCmdSess s a0).kiln = s.kiln ∧ (State.setCmdSess s a0).kport = s.kport ∧ (State.setCmdSess s a0).pair = s.pair ∧
    (State.setCmdSess s a0).copies = s.copies ∧ (State.setCmdSess s a0).copySeq = s.copySeq ∧
    (State.setCmdSess s a0).shown = s.shown ∧ (State.setCmdSess s a0).time = s.time ∧ (State.setCmdSess s a0).gnss = s.gnss ∧
    (State.setCmdSess s a0).sess = s.sess ∧ (State.setCmdSess s a0).net = s.net ∧ (State.setCmdSess s a0).field = s.field ∧
    (State.setCmdSess s a0).glaze = s.glaze ∧ (State.setCmdSess s a0).sec = s.sec ∧ (State.setCmdSess s a0).sherd = s.sherd ∧
    (State.setCmdSess s a0).mon = s.mon ∧ (State.setCmdSess s a0).pmic = s.pmic ∧ (State.setCmdSess s a0).events = s.events ∧
    (State.setCmdSess s a0).out = s.out ∧ (State.setCmdSess s a0).limits = s.limits ∧ (State.setCmdSess s a0).free = s.free := by
  simp only [State.setCmdSess, and_self]
@[simp] theorem State.sessPacket_frame (s : State) a0 :
    (State.sessPacket s a0).sys = s.sys ∧ (State.sessPacket s a0).draft = s.draft ∧
    (State.sessPacket s a0).staged = s.staged ∧ (State.sessPacket s a0).prevDraft = s.prevDraft ∧
    (State.sessPacket s a0).clk = s.clk ∧ (State.sessPacket s a0).warp = s.warp ∧ (State.sessPacket s a0).heddle = s.heddle ∧
    (State.sessPacket s a0).obs = s.obs ∧ (State.sessPacket s a0).wheel = s.wheel ∧ (State.sessPacket s a0).guide = s.guide ∧
    (State.sessPacket s a0).alloc = s.alloc ∧ (State.sessPacket s a0).plant = s.plant ∧
    (State.sessPacket s a0).loop = s.loop ∧ (State.sessPacket s a0).rio = s.rio ∧ (State.sessPacket s a0).adc = s.adc ∧
    (State.sessPacket s a0).shuttle = s.shuttle ∧ (State.sessPacket s a0).mirror = s.mirror ∧
    (State.sessPacket s a0).kiln = s.kiln ∧ (State.sessPacket s a0).kport = s.kport ∧ (State.sessPacket s a0).pair = s.pair ∧
    (State.sessPacket s a0).copies = s.copies ∧ (State.sessPacket s a0).copySeq = s.copySeq ∧
    (State.sessPacket s a0).shown = s.shown ∧ (State.sessPacket s a0).time = s.time ∧ (State.sessPacket s a0).gnss = s.gnss ∧
    (State.sessPacket s a0).net = s.net ∧ (State.sessPacket s a0).field = s.field ∧ (State.sessPacket s a0).glaze = s.glaze ∧
    (State.sessPacket s a0).cmd = s.cmd ∧ (State.sessPacket s a0).sec = s.sec ∧ (State.sessPacket s a0).sherd = s.sherd ∧
    (State.sessPacket s a0).mon = s.mon ∧ (State.sessPacket s a0).pmic = s.pmic ∧ (State.sessPacket s a0).events = s.events ∧
    (State.sessPacket s a0).out = s.out ∧ (State.sessPacket s a0).limits = s.limits ∧ (State.sessPacket s a0).free = s.free := by
  refine ⟨?_, ?_, ?_, ?_, ?_, ?_, ?_, ?_, ?_, ?_, ?_, ?_, ?_, ?_, ?_, ?_, ?_, ?_, ?_, ?_, ?_, ?_, ?_, ?_, ?_, ?_, ?_, ?_, ?_, ?_, ?_, ?_, ?_, ?_, ?_, ?_, ?_⟩ <;> (unfold State.sessPacket; (repeat' split) <;> simp)

end Sys2Proof.Machine
end

