-- ==== Sys2Proof/Laws/At.lean ====
section
/-! SUPPORT. Setting the instant of the state leaves every lookup of a record or a part as it was. -/

namespace Sys2Proof.Machine

@[simp] theorem State.at_plantRec (s : State) (u) : (s.at u).plantRec = s.plantRec := rfl
@[simp] theorem State.at_beatEdge (s : State) (u) : (s.at u).beatEdge = s.beatEdge := rfl
@[simp] theorem State.at_n (s : State) (u) : (s.at u).n = s.n := rfl
@[simp] theorem State.at_isActive (s : State) (u) : (s.at u).isActive = s.isActive := rfl
@[simp] theorem State.at_pairMode (s : State) (u) : (s.at u).pairMode = s.pairMode := rfl
@[simp] theorem State.at_leads (s : State) (u) : (s.at u).leads = s.leads := rfl
@[simp] theorem State.at_fastLane (s : State) (u) : (s.at u).fastLane = s.fastLane := rfl
@[simp] theorem State.at_gnssRec (s : State) (u) : (s.at u).gnssRec = s.gnssRec := rfl
@[simp] theorem State.at_netRec (s : State) (u) : (s.at u).netRec = s.netRec := rfl
@[simp] theorem State.at_timeRec (s : State) (u) : (s.at u).timeRec = s.timeRec := rfl
@[simp] theorem State.at_stationRecs (s : State) (u) : (s.at u).stationRecs = s.stationRecs := rfl
@[simp] theorem State.at_rioSends (s : State) (u) : (s.at u).rioSends = s.rioSends := rfl
@[simp] theorem State.at_ringLinked (s : State) (u) : (s.at u).ringLinked = s.ringLinked := rfl
@[simp] theorem State.at_ringMaster (s : State) (u) : (s.at u).ringMaster = s.ringMaster := rfl
@[simp] theorem State.at_scenarios (s : State) (u) : (s.at u).scenarios = s.scenarios := rfl
@[simp] theorem State.at_slotIds (s : State) (u) : (s.at u).slotIds = s.slotIds := rfl
@[simp] theorem State.at_adcRec (s : State) (u) : (s.at u).adcRec = s.adcRec := rfl
@[simp] theorem State.at_session (s : State) (u i) : (s.at u).session i = s.session i := rfl
@[simp] theorem State.at_track (s : State) (u i) : (s.at u).track i = s.track i := rfl
@[simp] theorem State.at_sessTakes (s : State) (u i) : (s.at u).sessTakes i = s.sessTakes i := rfl
@[simp] theorem State.at_sessRec (s : State) (u i) : (s.at u).sessRec i = s.sessRec i := rfl
@[simp] theorem State.at_findSess (s : State) (u i) : (s.at u).findSess i = s.findSess i := rfl
@[simp] theorem State.at_canRec (s : State) (u i) : (s.at u).canRec i = s.canRec i := rfl
@[simp] theorem State.at_can (s : State) (u i) : (s.at u).can i = s.can i := rfl
@[simp] theorem State.at_uartRec (s : State) (u i) : (s.at u).uartRec i = s.uartRec i := rfl
@[simp] theorem State.at_uart (s : State) (u i) : (s.at u).uart i = s.uart i := rfl
@[simp] theorem State.at_staRec (s : State) (u i) : (s.at u).staRec i = s.staRec i := rfl
@[simp] theorem State.at_sta (s : State) (u i) : (s.at u).sta i = s.sta i := rfl
@[simp] theorem State.at_port (s : State) (u i) : (s.at u).port i = s.port i := rfl
@[simp] theorem State.at_glazeSet (s : State) (u i) : (s.at u).glazeSet i = s.glazeSet i := rfl
@[simp] theorem State.at_chan (s : State) (u i) : (s.at u).chan i = s.chan i := rfl
@[simp] theorem State.at_strm (s : State) (u i) : (s.at u).strm i = s.strm i := rfl
@[simp] theorem State.at_pset (s : State) (u i) : (s.at u).pset i = s.pset i := rfl
@[simp] theorem State.at_adcChan (s : State) (u i) : (s.at u).adcChan i = s.adcChan i := rfl
@[simp] theorem State.at_ach (s : State) (u i) : (s.at u).ach i = s.ach i := rfl
@[simp] theorem State.at_excRec (s : State) (u i) : (s.at u).excRec i = s.excRec i := rfl
@[simp] theorem State.at_slot (s : State) (u i) : (s.at u).slot i = s.slot i := rfl
@[simp] theorem State.at_slotRec (s : State) (u i) : (s.at u).slotRec i = s.slotRec i := rfl
@[simp] theorem State.at_thr (s : State) (u i) : (s.at u).thr i = s.thr i := rfl
@[simp] theorem State.at_thrRec (s : State) (u i) : (s.at u).thrRec i = s.thrRec i := rfl
@[simp] theorem State.at_group (s : State) (u i) : (s.at u).group i = s.group i := rfl
@[simp] theorem State.at_src (s : State) (u i) : (s.at u).src i = s.src i := rfl
@[simp] theorem State.at_domain (s : State) (u i) : (s.at u).domain i = s.domain i := rfl
@[simp] theorem State.at_link (s : State) (u i) : (s.at u).link i = s.link i := rfl
@[simp] theorem State.at_cmdSess (s : State) (u i) : (s.at u).cmdSess i = s.cmdSess i := rfl
@[simp] theorem State.at_hed (s : State) (u i) : (s.at u).hed i = s.hed i := rfl
@[simp] theorem State.at_intake (s : State) (u i) : (s.at u).intake i = s.intake i := rfl
@[simp] theorem State.at_rank (s : State) (u i) : (s.at u).rank i = s.rank i := rfl
@[simp] theorem State.at_mastOf (s : State) (u i) : (s.at u).mastOf i = s.mastOf i := rfl
@[simp] theorem State.at_slaveOf (s : State) (u i) : (s.at u).slaveOf i = s.slaveOf i := rfl
@[simp] theorem State.at_portTimes (s : State) (u i) : (s.at u).portTimes i = s.portTimes i := rfl
@[simp] theorem State.at_canSess (s : State) (u i j) : (s.at u).canSess i j = s.canSess i j := rfl

end Sys2Proof.Machine
end

