-- ==== Sys2Proof/Laws/Checks.lean ====
section
/-! SUPPORT. Check values: their range, numbers to bytes and back, and frames that check. -/

namespace Sys2Proof.Machine

theorem revBits_lt (w n : Nat) : revBits w n < 2 ^ w := by
  induction w generalizing n with
  | zero => simp [revBits]
  | succ w ih =>
    have h := ih (n / 2)
    have hb : n % 2 < 2 := Nat.mod_lt _ (by decide)
    simp only [revBits, Nat.pow_succ]
    have : n % 2 * 2 ^ w ≤ 1 * 2 ^ w := Nat.mul_le_mul_right _ (by omega)
    omega

/-- A CRC-32C has 32 bits. -/
theorem crc32c_lt (l : List Byte) : crc32c l < 4294967296 :=
  Nat.xor_lt_two_pow (n := 32) (revBits_lt 32 _) (by decide)

/-- Four bytes, most significant first, spell the low 32 bits of the number. -/
theorem ofBe_be32 (n : Nat) : ofBe (be32 n) = n % 4294967296 := by
  simp only [ofBe, be32, be16, byteOf, List.foldl_cons, List.foldl_nil, List.cons_append, List.nil_append, BitVec.toNat_ofNat]
  omega

theorem be32_length (n : Nat) : (be32 n).length = 4 := rfl

/-- 944 bytes that begin with 1, followed by their CRC-32C, are a FAST frame that checks. -/
theorem fastOk_of (l : List Byte) (h : l.length = 944) (h1 : atBe l 0 1 = 1) : fastOk (l ++ be32 (crc32c l)) = true := by
  have e1 : (l ++ be32 (crc32c l)).take 944 = l := by rw [← h]; simp
  have e2 : (l ++ be32 (crc32c l)).drop 944 = be32 (crc32c l) := by rw [← h]; simp
  have e3 : atBe (l ++ be32 (crc32c l)) 0 1 = atBe l 0 1 := by
    simp only [atBe, List.drop_zero]; rw [List.take_append_of_le_length (by omega)]
  have e4 : atBe (l ++ be32 (crc32c l)) 944 4 = crc32c l := by
    simp only [atBe, e2]
    rw [List.take_of_length_le (Nat.le_of_eq (be32_length _)), ofBe_be32, Nat.mod_eq_of_lt (crc32c_lt l)]
  simp [fastOk, e1, e3, e4, h, h1, be32_length]

end Sys2Proof.Machine
end

