-- ==== Sys2Proof/Laws/Memory.lean ====
section
/-! SUPPORT. The General SRAM: a read after a write, the canonical form, and the operations that change the memory. -/

namespace Sys2Proof.Machine

/-- Every listed address is above a bound. -/
def memAbove (n : Nat) (m : List Host.Cell) : Prop := ∀ c ∈ m, n < c.1

theorem memWf_cons (c : Host.Cell) (m : List Host.Cell) :
    memWf (c :: m) = true ↔ c.2 ≠ 0 ∧ memAbove c.1 m ∧ memWf m = true := by
  induction m generalizing c with
  | nil => simp [memWf, memAbove]
  | cons d l ih =>
    rw [memWf]
    simp only [Bool.and_eq_true, bne_iff_ne, ne_eq, decide_eq_true_eq]
    constructor
    · intro h
      refine ⟨h.1.1, ?_, h.2⟩
      intro e he
      rcases List.mem_cons.mp he with rfl | he
      · exact h.1.2
      · exact Nat.lt_trans h.1.2 (((ih d).mp h.2).2.1 e he)
    · intro h
      exact ⟨⟨h.1, h.2.1 d (by simp)⟩, h.2.2⟩

theorem memRead_below (m : List Host.Cell) (a : Nat) (h : memAbove a m) : memRead m a = 0 := by
  induction m with
  | nil => rfl
  | cons c l ih =>
    have hc := h c (by simp)
    rw [memRead, if_neg (by omega)]
    exact ih (fun d hd => h d (by simp [hd]))

theorem memWrite_above (m : List Host.Cell) (n a : Nat) (b : Byte) (h : memAbove n m) (ha : n < a) :
    memAbove n (memWrite m a b) := by
  induction m with
  | nil => simp only [memWrite]; split <;> simp [memAbove, ha]
  | cons c l ih =>
    have hc := h c (by simp)
    have hl : memAbove n l := fun d hd => h d (by simp [hd])
    simp only [memWrite]
    split
    · split
      · exact h
      · intro e he
        rcases List.mem_cons.mp he with rfl | he
        · exact ha
        · exact h e he
    · split
      · split
        · exact hl
        · intro e he
          rcases List.mem_cons.mp he with rfl | he
          · exact ha
          · exact hl e he
      · intro e he
        rcases List.mem_cons.mp he with rfl | he
        · exact hc
        · exact ih hl e he

/-- A write keeps the canonical form. -/
theorem memWrite_wf (m : List Host.Cell) (a : Nat) (b : Byte) (h : memWf m = true) : memWf (memWrite m a b) = true := by
  induction m with
  | nil =>
    simp only [memWrite]; split
    · rfl
    · simp_all [memWf]
  | cons c l ih =>
    obtain ⟨h0, h1, h2⟩ := (memWf_cons c l).mp h
    simp only [memWrite]
    split
    · split
      · exact h
      · refine (memWf_cons _ _).mpr ⟨by assumption, ?_, h⟩
        intro e he
        rcases List.mem_cons.mp he with rfl | he
        · assumption
        · exact Nat.lt_trans (by assumption) (h1 e he)
    · split
      · split
        · exact h2
        · refine (memWf_cons _ _).mpr ⟨by assumption, ?_, h2⟩
          intro e he
          have := h1 e he
          simp only; omega
      · exact (memWf_cons _ _).mpr ⟨h0, memWrite_above l _ a b h1 (by omega), ih h2⟩

/-- Writing bytes keeps the canonical form. -/
theorem memWriteBytes_wf (m : List Host.Cell) (a : Nat) (l : List Byte) (h : memWf m = true) :
    memWf (memWriteBytes m a l) = true := by
  induction l generalizing m a with
  | nil => exact h
  | cons b l ih => exact ih _ _ (memWrite_wf m a b h)

/-- A read after a write: the byte written at its address, what was there elsewhere. -/
theorem memRead_memWrite (m : List Host.Cell) (a x : Nat) (b : Byte) (h : memWf m = true) :
    memRead (memWrite m a b) x = if x = a then b else memRead m x := by
  induction m with
  | nil =>
    simp only [memWrite]
    split
    · rename_i hb; subst hb; split <;> rfl
    · simp only [memRead, eq_comm]
  | cons c l ih =>
    obtain ⟨h0, h1, h2⟩ := (memWf_cons c l).mp h
    simp only [memWrite]
    split
    · split
      · rename_i hlt hb
        by_cases hx : x = a
        · rw [if_pos hx, hx, hb, memRead, if_neg (by omega)]
          exact memRead_below l a (fun d hd => Nat.lt_trans hlt (h1 d hd))
        · rw [if_neg hx]
      · rename_i hlt hb
        rw [memRead]
        by_cases hx : x = a
        · rw [if_pos hx, if_pos (by simp only; omega)]
        · rw [if_neg hx, if_neg (by simp only; omega)]
    · split
      · rename_i hnlt heq
        split
        · rename_i hb
          by_cases hx : x = a
          · rw [if_pos hx, hx, hb, heq]; exact memRead_below l _ h1
          · rw [if_neg hx, memRead, if_neg (by omega)]
        · rename_i hb
          rw [memRead]
          by_cases hx : x = a
          · rw [if_pos hx, if_pos (by simp only; omega)]
          · rw [if_neg hx, if_neg (by simp only; omega), memRead, if_neg (by omega)]
      · rename_i hnlt hne
        rw [memRead, memRead, ih h2]
        by_cases hx : x = a
        · subst hx
          rw [if_neg (by omega), if_pos rfl]; rw [if_pos rfl]
        · simp [hx]

/-- Bytes read after bytes written at rising addresses. -/
theorem memRead_memWriteBytes (m : List Host.Cell) (a x : Nat) (l : List Byte) (h : memWf m = true) :
    memRead (memWriteBytes m a l) x = if a ≤ x ∧ x < a + l.length then l.getD (x - a) 0 else memRead m x := by
  induction l generalizing m a with
  | nil => rw [if_neg (by simp only [List.length_nil]; omega)]; rfl
  | cons b l ih =>
    rw [memWriteBytes, ih _ _ (memWrite_wf m a b h), memRead_memWrite m a x b h]
    by_cases h1 : x = a
    · subst h1; rw [if_neg (by omega), if_pos rfl, if_pos (by simp only [List.length_cons]; omega), Nat.sub_self]; rfl
    · by_cases h2 : a + 1 ≤ x ∧ x < a + 1 + l.length
      · rw [if_pos h2, if_pos (by simp only [List.length_cons]; omega)]
        have : x - a = (x - (a + 1)) + 1 := by omega
        rw [this, List.getD_cons_succ]
      · rw [if_neg h2, if_neg h1, if_neg (by simp only [List.length_cons]; omega)]

/-! ### the operations that change the memory -/

theorem State.reset_wf : memWf State.reset.mem = true := rfl

@[simp] theorem State.writeBytes_pending (s : State) a b : (s.writeBytes a b).pending = s.pending := by
  unfold State.writeBytes; split <;> simp
theorem State.writeBytes_wf (s : State) a b (h : memWf s.mem = true) : memWf (s.writeBytes a b).mem = true := by
  unfold State.writeBytes
  split
  · exact memWriteBytes_wf _ _ _ h
  · simpa using h
@[simp] theorem State.writeOutside_pending (s : State) l x a b : (s.writeOutside l x a b).pending = s.pending := by
  simp [State.writeOutside]
@[simp] theorem State.writeOutside_mem (s : State) l x a b : (s.writeOutside l x a b).mem = (s.writeBytes a b).mem := by
  simp [State.writeOutside]
@[simp] theorem State.monWrites_pending (s : State) a v : (s.monWrites a v).pending = s.pending := by
  simp [State.monWrites]
@[simp] theorem State.monWrites_mem (s : State) a v : (s.monWrites a v).mem = (s.writeBytes a (le32 v)).mem := by
  simp [State.monWrites]
@[simp] theorem State.powerOff_pending (s : State) : s.powerOff.pending = s.pending := by simp [State.powerOff]
@[simp] theorem State.powerOff_mem (s : State) : s.powerOff.mem = [] := rfl

end Sys2Proof.Machine
end

