-- ==== Sys2Proof/Laws/Commands.lean ====
section
/-! SUPPORT. What judging a session's command leaves of a part of the state as it was. -/

namespace Sys2Proof.Machine

/-- The state or states that a judgement yields show the value v through π. -/
def Judged.Keeps {α : Type} (π : State → α) (v : α) : Judged → Prop
  | .refuse _ _ => True
  | .refuseWith s _ _ => π s = v
  | .done s _ => π s = v
  | .wait s => π s = v
  | .thenDo s f => π s = v ∧ ∀ u, π u = v → π (f u) = v

theorem State.judge_keeps {α : Type} (π : State → α) (v : α) (s : State) (x c bad perm act)
    (h : ((act s x : Judged)).Keeps π v) : (s.judge x c bad perm act).Keeps π v := by
  unfold State.judge
  (repeat' split) <;> first | trivial | exact h

/-- A command keeps a part of the state that the judging, the replies and its own effect keep. -/
theorem State.command_proj {α : Type} (π : State → α) (hat : ∀ s t, π (State.at s t) = π s)
    (hset : ∀ s x, π (State.setCmdSess s x) = π s) (hpk : ∀ s i, π (State.sessPacket s i) = π s)
    (hta : ∀ s x a b c d, π (State.turnAway s x a b c d) = π s) (hem : ∀ s o, π (State.emit s o) = π s)
    (hfin : ∀ s a b c d e, π (State.finish s a b c d e) = π s) (s : State) (h c bad perm act)
    (hact : ∀ t x, π t = π s → (act t x : Judged).Keeps π (π s)) : π (s.command h c bad perm act) = π s := by
  unfold State.command
  split
  · rfl
  · split
    · rfl
    · rename_i x0 _ _
      extract_lets sA x s1 busy fresh
      have h1 : π s1 = π s := by simp only [s1, hpk, hset]; exact hat s _
      have hf : π fresh = π s := by
        have hj := State.judge_keeps π (π s) s1 x c bad perm act (hact s1 x h1)
        simp only [fresh]
        clear_value s1 fresh
        revert hj
        cases s1.judge x c bad perm act <;> intro hj <;> dsimp only [Judged.Keeps] at hj ⊢ <;> (repeat' split) <;>
          simp_all
      clear_value s1 fresh
      (repeat' split) <;> simp_all

theorem State.command_mem (s : State) (h c bad perm act)
    (hact : ∀ t x, t.mem = s.mem → (act t x : Judged).Keeps State.mem s.mem) : (s.command h c bad perm act).mem = s.mem :=
  State.command_proj State.mem (by simp) (by simp) (by simp) (by simp) (by simp) (by simp) s h c bad perm act hact
theorem State.command_pending (s : State) (h c bad perm act)
    (hact : ∀ t x, t.pending = s.pending → (act t x : Judged).Keeps State.pending s.pending) :
    (s.command h c bad perm act).pending = s.pending :=
  State.command_proj State.pending (by simp) (by simp) (by simp) (by simp) (by simp) (by simp) s h c bad perm act hact

theorem State.mirrored_mem (s : State) (h op a apply) (ha : ∀ u, (apply u : State).mem = u.mem) :
    (s.mirrored h op a apply).Keeps State.mem s.mem := by
  unfold State.mirrored; split
  · rfl
  · exact ha s
theorem State.mirrored_pending (s : State) (h op a apply) (ha : ∀ u, (apply u : State).pending = u.pending) :
    (s.mirrored h op a apply).Keeps State.pending s.pending := by
  unfold State.mirrored; split
  · rfl
  · exact ha s
theorem State.kilnAsk_mem (s : State) (h op k a) : (s.kilnAsk h op k a).Keeps State.mem s.mem := by
  unfold State.kilnAsk
  extract_lets _ s1
  split
  · show (s1.setCmdSess _).mem = _; simp; rfl
  · rfl
theorem State.kilnAsk_pending (s : State) (h op k a) : (s.kilnAsk h op k a).Keeps State.pending s.pending := by
  unfold State.kilnAsk
  extract_lets _ s1
  split
  · show (s1.setCmdSess _).pending = _; simp; rfl
  · rfl

/-- Where a command acts on the state and answers, or leaves its effect for after the reply. -/
@[simp] theorem Judged.keeps_refuse {α : Type} (π : State → α) (v : α) (a b) : (Judged.refuse a b).Keeps π v := trivial
@[simp] theorem Judged.keeps_refuseWith {α : Type} (π : State → α) (v : α) (s a b) : (Judged.refuseWith s a b).Keeps π v ↔ π s = v := Iff.rfl
@[simp] theorem Judged.keeps_done {α : Type} (π : State → α) (v : α) (s r) : (Judged.done s r).Keeps π v ↔ π s = v := Iff.rfl
@[simp] theorem Judged.keeps_wait {α : Type} (π : State → α) (v : α) (s) : (Judged.wait s).Keeps π v ↔ π s = v := Iff.rfl
@[simp] theorem Judged.keeps_thenDo {α : Type} (π : State → α) (v : α) (s f) :
    (Judged.thenDo s f).Keeps π v ↔ π s = v ∧ ∀ u, π u = v → π (f u) = v := Iff.rfl

theorem State.guideCommand_keep (s : State) h op flag c :
    (s.guideCommand h op flag c).mem = s.mem ∧ (s.guideCommand h op flag c).pending = s.pending := by
  constructor
  · refine State.command_mem _ _ _ _ _ _ (fun t x ht => ?_)
    rw [← ht]; split
    · trivial
    · exact State.mirrored_mem _ _ _ _ _ (by simp)
  · refine State.command_pending _ _ _ _ _ _ (fun t x ht => ?_)
    rw [← ht]; split
    · trivial
    · exact State.mirrored_pending _ _ _ _ _ (by simp)

theorem State.draftCommand_keep (s : State) h op img id revert mram :
    (s.draftCommand h op img id revert mram).mem = s.mem ∧ (s.draftCommand h op img id revert mram).pending = s.pending := by
  constructor
  · refine State.command_mem _ _ _ _ _ _ (fun t x ht => ?_)
    rw [← ht]; (repeat' split) <;> simp
  · refine State.command_pending _ _ _ _ _ _ (fun t x ht => ?_)
    rw [← ht]; (repeat' split) <;> simp

theorem State.forceCommand_keep (s : State) h op o mram :
    (s.forceCommand h op o mram).mem = s.mem ∧ (s.forceCommand h op o mram).pending = s.pending := by
  constructor
  · refine State.command_mem _ _ _ _ _ _ (fun t x ht => ?_)
    rw [← ht]; (repeat' split) <;> first | trivial | exact State.mirrored_mem _ _ _ _ _ (by simp)
  · refine State.command_pending _ _ _ _ _ _ (fun t x ht => ?_)
    rw [← ht]; (repeat' split) <;> first | trivial | exact State.mirrored_pending _ _ _ _ _ (by simp)

/-- The state a monitor command answers shows the value v through π. -/
def MonResult.Keeps {α : Type} (π : State → α) (v : α) : MonResult → Prop
  | .ok s _ => π s = v
  | .err _ => True

theorem State.monitor_proj {α : Type} (π : State → α) (hans : ∀ s a b c, π (State.monAnswer s a b c) = π s) (s : State) (kw act)
    (h : ∀ args, (act s args : MonResult).Keeps π (π s)) : π (s.monitor kw act) = π s := by
  unfold State.monitor
  split
  · split
    · split
      · rename_i line _ w args _ _
        have ha := h args
        unfold State.monClose
        cases hq : act s args with
        | ok t text => rw [hq] at ha; rw [hans]; exact ha
        | err e => rw [hans]
      · rfl
    · rfl
  · rfl

theorem monPlain_keeps {α : Type} (π : State → α) (strap text s args) : (monPlain strap text s args).Keeps π (π s) := by
  unfold monPlain; (repeat' split) <;> first | trivial | rfl

/-- Judging where no check fails. -/
theorem State.judge_passes {s : State} {x : CmdSession} {c : CmdSpec} {bad : Option Nat} {perm : CmdSession → Option Nat}
    {act : State → CmdSession → Judged} (hb : bad = none) (hl : c.level ≤ s.levelOf x)
    (hu : (x.unprov && !unprovOps.contains c.op) = false) (hp : perm x = none) (hg : c.legal s = true) :
    s.judge x c bad perm act = act s x := by
  have h1 : decide (s.levelOf x < c.level) = false := by simpa using hl
  simp only [State.judge, hb, h1, hu, Bool.or_self, Bool.false_eq_true, if_false, hp, hg, if_true]

/-- A command of a session that waits for no reply and counts on. -/
theorem State.command_fresh {s : State} {h : Hdr} {c : CmdSpec} {x : CmdSession} {bad : Option Nat}
    {perm : CmdSession → Option Nat} {act : State → CmdSession → Judged} {j : Judged} (h1 : s.cmdSess h.sess = some x)
    (h2 : s.serves = true) (h3 : x.waiting.isNone = true)
    (h4 : (match x.last with
      | some (q, _) => q != h.cseq && !seqNewer q h.cseq
      | none => true) = true)
    (hj : (s.heard h.sess x).judge { x with lastRecord := (s.at 750000).otime } c bad perm act = j) :
    s.command h c bad perm act = (s.heard h.sess x).answered h c.op j := by
  have hw : x.waiting.isSome = false := by simpa using h3
  unfold State.heard at hj ⊢
  unfold State.command
  rw [h1]
  simp only [h2, Bool.not_true, Bool.false_eq_true, if_false, hj, hw]
  cases hlast : x.last with
  | none => cases j <;> rfl
  | some p =>
    obtain ⟨q, r⟩ := p
    rw [hlast] at h4
    simp only [bne_iff_ne, ne_eq, Bool.and_eq_true, Bool.not_eq_true'] at h4
    simp only [h4.1, h4.2, Bool.false_eq_true, if_false]
    cases j <;> rfl

/-- A command that passes the checks all commands share is answered as its own checks and its act judge it. -/
theorem State.command_judged {s : State} {h : Hdr} {op : Nat} {x : CmdSession} {bad : Option Nat} {perm : CmdSession → Option Nat}
    {act : State → CmdSession → Judged} (ha : s.accepts h op x = true) (hc : (cmdSpec op).op = op) :
    s.command h (cmdSpec op) bad perm act = (s.heard h.sess x).answered h op
      (match bad with
      | some e => .refuse e 0
      | none => match perm { x with lastRecord := (s.at 750000).otime } with
        | some e => .refuse e 0
        | none => act (s.heard h.sess x) { x with lastRecord := (s.at 750000).otime }) := by
  unfold State.accepts at ha
  simp only [Bool.and_eq_true] at ha
  obtain ⟨⟨⟨⟨⟨⟨h1, h2⟩, h3⟩, h4⟩, h5⟩, h6⟩, h7⟩ := ha
  have hu : (x.unprov && !unprovOps.contains (cmdSpec op).op) = false := by
    rw [hc]; revert h6; cases x.unprov <;> cases unprovOps.contains op <;> simp
  have hl : decide ((s.heard h.sess x).levelOf { x with lastRecord := (s.at 750000).otime } < (cmdSpec op).level) = false :=
    decide_eq_false (Nat.not_lt.mpr (of_decide_eq_true h5))
  rw [State.command_fresh (eq_of_beq h1) h2 h3 h4 rfl, hc]
  congr 1
  simp only [State.judge, hl, hu, Bool.or_self, Bool.false_eq_true, if_false, h7, if_true]
  all_goals (cases bad <;> rfl)

/-- A command that passes the checks all commands share, its own of the 0x1xxx range and its own permission, does what its act says,
in the state in which it is heard. -/
theorem State.command_accepted {s : State} {h : Hdr} {op : Nat} {x : CmdSession} {bad : Option Nat} {perm : CmdSession → Option Nat}
    {act : State → CmdSession → Judged} (ha : s.accepts h op x = true) (hc : (cmdSpec op).op = op) (hb : bad = none)
    (hp : perm { x with lastRecord := (s.at 750000).otime } = none) :
    s.command h (cmdSpec op) bad perm act =
      (s.heard h.sess x).answered h op (act (s.heard h.sess x) { x with lastRecord := (s.at 750000).otime }) := by
  rw [State.command_judged ha hc, hb]
  simp only [hp]

/-- A command whose own check of the 0x1xxx range fails is refused with its status. -/
theorem State.command_bad {s : State} {h : Hdr} {op e : Nat} {x : CmdSession} {bad : Option Nat} {perm : CmdSession → Option Nat}
    {act : State → CmdSession → Judged} (ha : s.accepts h op x = true) (hc : (cmdSpec op).op = op) (hb : bad = some e) :
    s.command h (cmdSpec op) bad perm act = (s.heard h.sess x).finish h.sess op h.cseq e (be32 0) := by
  rw [State.command_judged ha hc, hb]; rfl

/-- A command whose own permission is missing is refused with its status. -/
theorem State.command_barred {s : State} {h : Hdr} {op e : Nat} {x : CmdSession} {bad : Option Nat} {perm : CmdSession → Option Nat}
    {act : State → CmdSession → Judged} (ha : s.accepts h op x = true) (hc : (cmdSpec op).op = op) (hb : bad = none)
    (hp : perm { x with lastRecord := (s.at 750000).otime } = some e) :
    s.command h (cmdSpec op) bad perm act = (s.heard h.sess x).finish h.sess op h.cseq e (be32 0) := by
  rw [State.command_judged ha hc, hb]; simp only [hp]; rfl

end Sys2Proof.Machine
end

