-- ==== Sys2Proof/Laws/ExecA.lean ====
section
/-! SUPPORT. What each command leaves of the General SRAM and of the queue as it was. -/

namespace Sys2Proof.Machine

theorem execAdcOutputSample_keep a0 a1 a2 a3 a4 (s : State) : After (execAdcOutputSample a0 a1 a2 a3 a4 s) (fun t => t.mem = s.mem ∧ t.pending = s.pending) := by
  unfold execAdcOutputSample; simp [After]
theorem execShuntDisconnect_keep a0 (s : State) : After (execShuntDisconnect a0 s) (fun t => t.mem = s.mem ∧ t.pending = s.pending) := by
  unfold execShuntDisconnect; simp [After]
theorem execShuntReconnect_keep a0 a1 (s : State) : After (execShuntReconnect a0 a1 s) (fun t => t.mem = s.mem ∧ t.pending = s.pending) := by
  unfold execShuntReconnect; simp [After]
theorem execSampleLinkFrame_keep a0 a1 a2 (s : State) : After (execSampleLinkFrame a0 a1 a2 s) (fun t => t.mem = s.mem ∧ t.pending = s.pending) := by
  unfold execSampleLinkFrame; simp [After]
theorem execCalibrationSlotStart_keep (s : State) : After (execCalibrationSlotStart s) (fun t => t.mem = s.mem ∧ t.pending = s.pending) := by
  unfold execCalibrationSlotStart; simp [After]
theorem execCalibrationPhaseEnd_keep a0 (s : State) : After (execCalibrationPhaseEnd a0 s) (fun t => t.mem = s.mem ∧ t.pending = s.pending) := by
  unfold execCalibrationPhaseEnd; simp only [After]; constructor <;> (repeat' (first | (simp; done) | (rw [foldl_mem]; rotate_left; intro a x) | (rw [foldl_pending]; rotate_left; intro a x) | split))
theorem execAdcChselWrite_keep a0 (s : State) : After (execAdcChselWrite a0 s) (fun t => t.mem = s.mem ∧ t.pending = s.pending) := by
  unfold execAdcChselWrite; simp [After]
theorem execGooseStale_keep a0 a1 (s : State) : After (execGooseStale a0 a1 s) (fun t => t.mem = s.mem ∧ t.pending = s.pending) := by
  unfold execGooseStale; simp [After]
theorem execBreakerIntermediateTimeout_keep a0 a1 a2 a3 (s : State) : After (execBreakerIntermediateTimeout a0 a1 a2 a3 s) (fun t => t.mem = s.mem ∧ t.pending = s.pending) := by
  unfold execBreakerIntermediateTimeout; dsimp only; (repeat' split) <;> simp_all [After]
theorem execBreakerDisagreement_keep a0 a1 a2 (s : State) : After (execBreakerDisagreement a0 a1 a2 s) (fun t => t.mem = s.mem ∧ t.pending = s.pending) := by
  unfold execBreakerDisagreement; dsimp only; (repeat' split) <;> simp_all [After]
theorem execFastInputChange_keep a0 a1 a2 (s : State) : After (execFastInputChange a0 a1 a2 s) (fun t => t.mem = s.mem ∧ t.pending = s.pending) := by
  unfold execFastInputChange; simp [After]
theorem execGeneratorOnline_keep a0 a1 (s : State) : After (execGeneratorOnline a0 a1 s) (fun t => t.mem = s.mem ∧ t.pending = s.pending) := by
  unfold execGeneratorOnline; dsimp only; (repeat' split) <;> simp_all [After]
theorem execPwrSecselWrite_keep a0 (s : State) : After (execPwrSecselWrite a0 s) (fun t => t.mem = s.mem ∧ t.pending = s.pending) := by
  unfold execPwrSecselWrite; simp [After]
theorem execDropWindowDegrade_keep (s : State) : After (execDropWindowDegrade s) (fun t => t.mem = s.mem ∧ t.pending = s.pending) := by
  unfold execDropWindowDegrade; simp [After]
theorem execDropWindowClear_keep (s : State) : After (execDropWindowClear s) (fun t => t.mem = s.mem ∧ t.pending = s.pending) := by
  unfold execDropWindowClear; simp [After]
theorem execDropRunSafe_keep (s : State) : After (execDropRunSafe s) (fun t => t.mem = s.mem ∧ t.pending = s.pending) := by
  unfold execDropRunSafe; simp [After]
theorem execConeStageOverrun_keep a0 (s : State) : After (execConeStageOverrun a0 s) (fun t => t.mem = s.mem ∧ t.pending = s.pending) := by
  unfold execConeStageOverrun; simp [After]
theorem execConeGuideLate_keep (s : State) : After (execConeGuideLate s) (fun t => t.mem = s.mem ∧ t.pending = s.pending) := by
  unfold execConeGuideLate; simp [After]
theorem execConeTelegramsLate_keep a0 (s : State) : After (execConeTelegramsLate a0 s) (fun t => t.mem = s.mem ∧ t.pending = s.pending) := by
  unfold execConeTelegramsLate; simp [After]
theorem execConeWithholdLimit_keep a0 (s : State) : After (execConeWithholdLimit a0 s) (fun t => t.mem = s.mem ∧ t.pending = s.pending) := by
  unfold execConeWithholdLimit; simp [After]
theorem execConeRecordLate_keep a0 (s : State) : After (execConeRecordLate a0 s) (fun t => t.mem = s.mem ∧ t.pending = s.pending) := by
  unfold execConeRecordLate; simp [After]
theorem execConePhaseBackLate_keep (s : State) : After (execConePhaseBackLate s) (fun t => t.mem = s.mem ∧ t.pending = s.pending) := by
  unfold execConePhaseBackLate; simp [After]
theorem execScrubLate_keep a0 (s : State) : After (execScrubLate a0 s) (fun t => t.mem = s.mem ∧ t.pending = s.pending) := by
  unfold execScrubLate; simp [After]
theorem execRecordComplete_keep a0 (s : State) : After (execRecordComplete a0 s) (fun t => t.mem = s.mem ∧ t.pending = s.pending) := by
  unfold execRecordComplete; dsimp only; (repeat' split) <;> simp_all [After]
theorem execWarpCfgWrite_keep a0 (s : State) : After (execWarpCfgWrite a0 s) (fun t => t.mem = s.mem ∧ t.pending = s.pending) := by
  unfold execWarpCfgWrite; simp [After]
theorem execWarpConeWrite_keep a0 (s : State) : After (execWarpConeWrite a0 s) (fun t => t.mem = s.mem ∧ t.pending = s.pending) := by
  unfold execWarpConeWrite; simp [After]
theorem execWarpBgWrite_keep a0 (s : State) : After (execWarpBgWrite a0 s) (fun t => t.mem = s.mem ∧ t.pending = s.pending) := by
  unfold execWarpBgWrite; simp [After]
theorem execWarpPickHRead_keep (s : State) : After (execWarpPickHRead s) (fun t => t.mem = s.mem ∧ t.pending = s.pending) := by
  unfold execWarpPickHRead; simp [After]
theorem execWarpBeatHRead_keep (s : State) : After (execWarpBeatHRead s) (fun t => t.mem = s.mem ∧ t.pending = s.pending) := by
  unfold execWarpBeatHRead; simp [After]
theorem execWarpNextedgeHRead_keep (s : State) : After (execWarpNextedgeHRead s) (fun t => t.mem = s.mem ∧ t.pending = s.pending) := by
  unfold execWarpNextedgeHRead; simp [After]
theorem execSysOtimeHRead_keep (s : State) : After (execSysOtimeHRead s) (fun t => t.mem = s.mem ∧ t.pending = s.pending) := by
  unfold execSysOtimeHRead; simp [After]
theorem execTrackTimeout_keep a0 a1 (s : State) : After (execTrackTimeout a0 a1 s) (fun t => t.mem = s.mem ∧ t.pending = s.pending) := by
  unfold execTrackTimeout; dsimp only; split <;> simp [After]
theorem execTelegramDecode_keep (s : State) : After (execTelegramDecode s) (fun t => t.mem = s.mem ∧ t.pending = s.pending) := by
  unfold execTelegramDecode; (repeat' split) <;> simp [After]
theorem execIntake_keep (s : State) : After (execIntake s) (fun t => t.mem = s.mem ∧ t.pending = s.pending) := by
  unfold execIntake; simp [After]
theorem execHeddleSesselWrite_keep a0 (s : State) : After (execHeddleSesselWrite a0 s) (fun t => t.mem = s.mem ∧ t.pending = s.pending) := by
  unfold execHeddleSesselWrite; simp [After]
theorem execHeddleTrkselWrite_keep a0 (s : State) : After (execHeddleTrkselWrite a0 s) (fun t => t.mem = s.mem ∧ t.pending = s.pending) := by
  unfold execHeddleTrkselWrite; simp [After]
theorem execSessionStale_keep a0 a1 (s : State) : After (execSessionStale a0 a1 s) (fun t => t.mem = s.mem ∧ t.pending = s.pending) := by
  unfold execSessionStale; simp [After]
theorem execSessionLost_keep a0 a1 (s : State) : After (execSessionLost a0 a1 s) (fun t => t.mem = s.mem ∧ t.pending = s.pending) := by
  unfold execSessionLost; simp [After]
theorem execSessionUnbar_keep a0 a1 (s : State) : After (execSessionUnbar a0 a1 s) (fun t => t.mem = s.mem ∧ t.pending = s.pending) := by
  unfold execSessionUnbar; simp [After]
theorem execProjectAndVote_keep (s : State) : After (execProjectAndVote s) (fun t => t.mem = s.mem ∧ t.pending = s.pending) := by
  unfold execProjectAndVote; simp [After]
theorem execObserve_keep (s : State) : After (execObserve s) (fun t => t.mem = s.mem ∧ t.pending = s.pending) := by
  unfold execObserve; simp [After]
theorem execMaxDeadReckoningTime_keep a0 (s : State) : After (execMaxDeadReckoningTime a0 s) (fun t => t.mem = s.mem ∧ t.pending = s.pending) := by
  unfold execMaxDeadReckoningTime; dsimp only; (repeat' split) <;> simp_all [After]
theorem execWaveFrequencyUpdate_keep (s : State) : After (execWaveFrequencyUpdate s) (fun t => t.mem = s.mem ∧ t.pending = s.pending) := by
  unfold execWaveFrequencyUpdate; (repeat' split) <;> simp [After]
theorem execObsWarmRecordWrite_keep (s : State) : After (execObsWarmRecordWrite s) (fun t => t.mem = s.mem ∧ t.pending = s.pending) := by
  unfold execObsWarmRecordWrite; simp [After]
theorem execObsSelWrite_keep a0 (s : State) : After (execObsSelWrite a0 s) (fun t => t.mem = s.mem ∧ t.pending = s.pending) := by
  unfold execObsSelWrite; simp [After]
theorem execAllocThrselWrite_keep a0 (s : State) : After (execAllocThrselWrite a0 s) (fun t => t.mem = s.mem ∧ t.pending = s.pending) := by
  unfold execAllocThrselWrite; simp [After]
theorem execGuide_keep a0 (s : State) : After (execGuide a0 s) (fun t => t.mem = s.mem ∧ t.pending = s.pending) := by
  unfold execGuide; dsimp only; (repeat' split) <;> simp_all [After]
theorem execSoftStartComplete_keep (s : State) : After (execSoftStartComplete s) (fun t => t.mem = s.mem ∧ t.pending = s.pending) := by
  unfold execSoftStartComplete; simp [After]
theorem execRioReplyReceive_keep a0 a1 a2 (s : State) : After (execRioReplyReceive a0 a1 a2 s) (fun t => t.mem = s.mem ∧ t.pending = s.pending) := by
  unfold execRioReplyReceive; dsimp only; (repeat' split) <;> simp_all [After]
theorem execRioRequestBuild_keep (s : State) : After (execRioRequestBuild s) (fun t => t.mem = s.mem ∧ t.pending = s.pending) := by
  unfold execRioRequestBuild; simp [After]
theorem execRioStaselWrite_keep a0 (s : State) : After (execRioStaselWrite a0 s) (fun t => t.mem = s.mem ∧ t.pending = s.pending) := by
  unfold execRioStaselWrite; simp [After]
theorem execPeriodSourceInvalid_keep a0 (s : State) : After (execPeriodSourceInvalid a0 s) (fun t => t.mem = s.mem ∧ t.pending = s.pending) := by
  unfold execPeriodSourceInvalid; (repeat' split) <;> simp [After]
theorem execSlotSoftComplete_keep a0 (s : State) : After (execSlotSoftComplete a0 s) (fun t => t.mem = s.mem ∧ t.pending = s.pending) := by
  unfold execSlotSoftComplete; (repeat' split) <;> simp [After]
theorem execFollowingErrorTimeout_keep a0 (s : State) : After (execFollowingErrorTimeout a0 s) (fun t => t.mem = s.mem ∧ t.pending = s.pending) := by
  unfold execFollowingErrorTimeout; (repeat' split) <;> simp [After]
theorem execSlotAutoRecovery_keep a0 (s : State) : After (execSlotAutoRecovery a0 s) (fun t => t.mem = s.mem ∧ t.pending = s.pending) := by
  unfold execSlotAutoRecovery; (repeat' split) <;> simp [After]
theorem execLoopEngineRun_keep a0 (s : State) : After (execLoopEngineRun a0 s) (fun t => t.mem = s.mem ∧ t.pending = s.pending) := by
  unfold execLoopEngineRun; simp [After]
theorem execConeLoopOverrun_keep (s : State) : After (execConeLoopOverrun s) (fun t => t.mem = s.mem ∧ t.pending = s.pending) := by
  unfold execConeLoopOverrun; simp [After]
theorem execLoopSlotselWrite_keep a0 (s : State) : After (execLoopSlotselWrite a0 s) (fun t => t.mem = s.mem ∧ t.pending = s.pending) := by
  unfold execLoopSlotselWrite; simp [After]
theorem execTwNop_keep (s : State) : After (execTwNop s) (fun t => t.mem = s.mem ∧ t.pending = s.pending) := by
  unfold execTwNop; simp only [After]; constructor <;> ((repeat' split) <;> simp)
theorem execTwLd_keep (s : State) : After (execTwLd s) (fun t => t.mem = s.mem ∧ t.pending = s.pending) := by
  unfold execTwLd; simp only [After]; constructor <;> ((repeat' split) <;> simp)
theorem execTwSt_keep (s : State) : After (execTwSt s) (fun t => t.mem = s.mem ∧ t.pending = s.pending) := by
  unfold execTwSt; simp only [After]; constructor <;> ((repeat' split) <;> simp)
theorem execTwDup_keep (s : State) : After (execTwDup s) (fun t => t.mem = s.mem ∧ t.pending = s.pending) := by
  unfold execTwDup; simp only [After]; constructor <;> ((repeat' split) <;> simp)
theorem execTwDrop_keep (s : State) : After (execTwDrop s) (fun t => t.mem = s.mem ∧ t.pending = s.pending) := by
  unfold execTwDrop; simp only [After]; constructor <;> ((repeat' split) <;> simp)
theorem execTwSwap_keep (s : State) : After (execTwSwap s) (fun t => t.mem = s.mem ∧ t.pending = s.pending) := by
  unfold execTwSwap; simp only [After]; constructor <;> ((repeat' split) <;> simp)
theorem execTwLdx_keep (s : State) : After (execTwLdx s) (fun t => t.mem = s.mem ∧ t.pending = s.pending) := by
  unfold execTwLdx; simp only [After]; constructor <;> ((repeat' split) <;> simp)
theorem execTwStx_keep (s : State) : After (execTwStx s) (fun t => t.mem = s.mem ∧ t.pending = s.pending) := by
  unfold execTwStx; simp only [After]; constructor <;> ((repeat' split) <;> simp)
theorem execTwAdd_keep (s : State) : After (execTwAdd s) (fun t => t.mem = s.mem ∧ t.pending = s.pending) := by
  unfold execTwAdd; simp only [After]; constructor <;> ((repeat' split) <;> simp)
theorem execTwSub_keep (s : State) : After (execTwSub s) (fun t => t.mem = s.mem ∧ t.pending = s.pending) := by
  unfold execTwSub; simp only [After]; constructor <;> ((repeat' split) <;> simp)
theorem execTwMul_keep (s : State) : After (execTwMul s) (fun t => t.mem = s.mem ∧ t.pending = s.pending) := by
  unfold execTwMul; simp only [After]; constructor <;> ((repeat' split) <;> simp)
theorem execTwDiv_keep (s : State) : After (execTwDiv s) (fun t => t.mem = s.mem ∧ t.pending = s.pending) := by
  unfold execTwDiv; simp only [After]; constructor <;> ((repeat' split) <;> simp)
theorem execTwMod_keep (s : State) : After (execTwMod s) (fun t => t.mem = s.mem ∧ t.pending = s.pending) := by
  unfold execTwMod; simp only [After]; constructor <;> ((repeat' split) <;> simp)
theorem execTwNeg_keep (s : State) : After (execTwNeg s) (fun t => t.mem = s.mem ∧ t.pending = s.pending) := by
  unfold execTwNeg; simp only [After]; constructor <;> ((repeat' split) <;> simp)
theorem execTwAbs_keep (s : State) : After (execTwAbs s) (fun t => t.mem = s.mem ∧ t.pending = s.pending) := by
  unfold execTwAbs; simp only [After]; constructor <;> ((repeat' split) <;> simp)
theorem execTwMin_keep (s : State) : After (execTwMin s) (fun t => t.mem = s.mem ∧ t.pending = s.pending) := by
  unfold execTwMin; simp only [After]; constructor <;> ((repeat' split) <;> simp)
theorem execTwMax_keep (s : State) : After (execTwMax s) (fun t => t.mem = s.mem ∧ t.pending = s.pending) := by
  unfold execTwMax; simp only [After]; constructor <;> ((repeat' split) <;> simp)
theorem execTwLimit_keep (s : State) : After (execTwLimit s) (fun t => t.mem = s.mem ∧ t.pending = s.pending) := by
  unfold execTwLimit; simp only [After]; constructor <;> ((repeat' split) <;> simp)
theorem execTwSqrt_keep (s : State) : After (execTwSqrt s) (fun t => t.mem = s.mem ∧ t.pending = s.pending) := by
  unfold execTwSqrt; simp only [After]; constructor <;> ((repeat' split) <;> simp)
theorem execTwSin_keep (s : State) : After (execTwSin s) (fun t => t.mem = s.mem ∧ t.pending = s.pending) := by
  unfold execTwSin; simp only [After]; constructor <;> ((repeat' split) <;> simp)
theorem execTwCos_keep (s : State) : After (execTwCos s) (fun t => t.mem = s.mem ∧ t.pending = s.pending) := by
  unfold execTwCos; simp only [After]; constructor <;> ((repeat' split) <;> simp)
theorem execTwAtan2_keep (s : State) : After (execTwAtan2 s) (fun t => t.mem = s.mem ∧ t.pending = s.pending) := by
  unfold execTwAtan2; simp only [After]; constructor <;> ((repeat' split) <;> simp)
theorem execTwExp_keep (s : State) : After (execTwExp s) (fun t => t.mem = s.mem ∧ t.pending = s.pending) := by
  unfold execTwExp; simp only [After]; constructor <;> ((repeat' split) <;> simp)
theorem execTwLn_keep (s : State) : After (execTwLn s) (fun t => t.mem = s.mem ∧ t.pending = s.pending) := by
  unfold execTwLn; simp only [After]; constructor <;> ((repeat' split) <;> simp)
theorem execTwAnd_keep (s : State) : After (execTwAnd s) (fun t => t.mem = s.mem ∧ t.pending = s.pending) := by
  unfold execTwAnd; simp only [After]; constructor <;> ((repeat' split) <;> simp)
theorem execTwOr_keep (s : State) : After (execTwOr s) (fun t => t.mem = s.mem ∧ t.pending = s.pending) := by
  unfold execTwOr; simp only [After]; constructor <;> ((repeat' split) <;> simp)
theorem execTwXor_keep (s : State) : After (execTwXor s) (fun t => t.mem = s.mem ∧ t.pending = s.pending) := by
  unfold execTwXor; simp only [After]; constructor <;> ((repeat' split) <;> simp)
theorem execTwNot_keep (s : State) : After (execTwNot s) (fun t => t.mem = s.mem ∧ t.pending = s.pending) := by
  unfold execTwNot; simp only [After]; constructor <;> ((repeat' split) <;> simp)
theorem execTwShl_keep (s : State) : After (execTwShl s) (fun t => t.mem = s.mem ∧ t.pending = s.pending) := by
  unfold execTwShl; simp only [After]; constructor <;> ((repeat' split) <;> simp)
theorem execTwShr_keep (s : State) : After (execTwShr s) (fun t => t.mem = s.mem ∧ t.pending = s.pending) := by
  unfold execTwShr; simp only [After]; constructor <;> ((repeat' split) <;> simp)
theorem execTwRol_keep (s : State) : After (execTwRol s) (fun t => t.mem = s.mem ∧ t.pending = s.pending) := by
  unfold execTwRol; simp only [After]; constructor <;> ((repeat' split) <;> simp)
theorem execTwRor_keep (s : State) : After (execTwRor s) (fun t => t.mem = s.mem ∧ t.pending = s.pending) := by
  unfold execTwRor; simp only [After]; constructor <;> ((repeat' split) <;> simp)
theorem execTwEq_keep (s : State) : After (execTwEq s) (fun t => t.mem = s.mem ∧ t.pending = s.pending) := by
  unfold execTwEq; simp only [After]; constructor <;> ((repeat' split) <;> simp)
theorem execTwNe_keep (s : State) : After (execTwNe s) (fun t => t.mem = s.mem ∧ t.pending = s.pending) := by
  unfold execTwNe; simp only [After]; constructor <;> ((repeat' split) <;> simp)
theorem execTwLt_keep (s : State) : After (execTwLt s) (fun t => t.mem = s.mem ∧ t.pending = s.pending) := by
  unfold execTwLt; simp only [After]; constructor <;> ((repeat' split) <;> simp)
theorem execTwLe_keep (s : State) : After (execTwLe s) (fun t => t.mem = s.mem ∧ t.pending = s.pending) := by
  unfold execTwLe; simp only [After]; constructor <;> ((repeat' split) <;> simp)
theorem execTwGt_keep (s : State) : After (execTwGt s) (fun t => t.mem = s.mem ∧ t.pending = s.pending) := by
  unfold execTwGt; simp only [After]; constructor <;> ((repeat' split) <;> simp)
theorem execTwGe_keep (s : State) : After (execTwGe s) (fun t => t.mem = s.mem ∧ t.pending = s.pending) := by
  unfold execTwGe; simp only [After]; constructor <;> ((repeat' split) <;> simp)
theorem execTwSel_keep (s : State) : After (execTwSel s) (fun t => t.mem = s.mem ∧ t.pending = s.pending) := by
  unfold execTwSel; simp only [After]; constructor <;> ((repeat' split) <;> simp)
theorem execTwCvt_keep (s : State) : After (execTwCvt s) (fun t => t.mem = s.mem ∧ t.pending = s.pending) := by
  unfold execTwCvt; simp only [After]; constructor <;> ((repeat' split) <;> simp)
theorem execTwJmp_keep (s : State) : After (execTwJmp s) (fun t => t.mem = s.mem ∧ t.pending = s.pending) := by
  unfold execTwJmp; simp only [After]; constructor <;> ((repeat' split) <;> simp)
theorem execTwJmpc_keep (s : State) : After (execTwJmpc s) (fun t => t.mem = s.mem ∧ t.pending = s.pending) := by
  unfold execTwJmpc; simp only [After]; constructor <;> ((repeat' split) <;> simp)
theorem execTwJmpcn_keep (s : State) : After (execTwJmpcn s) (fun t => t.mem = s.mem ∧ t.pending = s.pending) := by
  unfold execTwJmpcn; simp only [After]; constructor <;> ((repeat' split) <;> simp)
theorem execTwCall_keep (s : State) : After (execTwCall s) (fun t => t.mem = s.mem ∧ t.pending = s.pending) := by
  unfold execTwCall; simp only [After]; constructor <;> ((repeat' split) <;> simp)
theorem execTwRet_keep (s : State) : After (execTwRet s) (fun t => t.mem = s.mem ∧ t.pending = s.pending) := by
  unfold execTwRet; simp only [After]; constructor <;> ((repeat' split) <;> simp)
theorem execTwEnd_keep a0 (s : State) : After (execTwEnd a0 s) (fun t => t.mem = s.mem ∧ t.pending = s.pending) := by
  unfold execTwEnd; dsimp only; (repeat' split) <;> simp_all [After]
theorem execTwTon_keep (s : State) : After (execTwTon s) (fun t => t.mem = s.mem ∧ t.pending = s.pending) := by
  unfold execTwTon; simp only [After]; constructor <;> ((repeat' split) <;> simp)
theorem execTwTof_keep (s : State) : After (execTwTof s) (fun t => t.mem = s.mem ∧ t.pending = s.pending) := by
  unfold execTwTof; simp only [After]; constructor <;> ((repeat' split) <;> simp)
theorem execTwTp_keep (s : State) : After (execTwTp s) (fun t => t.mem = s.mem ∧ t.pending = s.pending) := by
  unfold execTwTp; simp only [After]; constructor <;> ((repeat' split) <;> simp)
theorem execTwCtu_keep (s : State) : After (execTwCtu s) (fun t => t.mem = s.mem ∧ t.pending = s.pending) := by
  unfold execTwCtu; simp only [After]; constructor <;> ((repeat' split) <;> simp)
theorem execTwCtd_keep (s : State) : After (execTwCtd s) (fun t => t.mem = s.mem ∧ t.pending = s.pending) := by
  unfold execTwCtd; simp only [After]; constructor <;> ((repeat' split) <;> simp)
theorem execTwCtud_keep (s : State) : After (execTwCtud s) (fun t => t.mem = s.mem ∧ t.pending = s.pending) := by
  unfold execTwCtud; simp only [After]; constructor <;> ((repeat' split) <;> simp)
theorem execTwRTrig_keep (s : State) : After (execTwRTrig s) (fun t => t.mem = s.mem ∧ t.pending = s.pending) := by
  unfold execTwRTrig; simp only [After]; constructor <;> ((repeat' split) <;> simp)
theorem execTwFTrig_keep (s : State) : After (execTwFTrig s) (fun t => t.mem = s.mem ∧ t.pending = s.pending) := by
  unfold execTwFTrig; simp only [After]; constructor <;> ((repeat' split) <;> simp)
theorem execTwSr_keep (s : State) : After (execTwSr s) (fun t => t.mem = s.mem ∧ t.pending = s.pending) := by
  unfold execTwSr; simp only [After]; constructor <;> ((repeat' split) <;> simp)
theorem execTwRs_keep (s : State) : After (execTwRs s) (fun t => t.mem = s.mem ∧ t.pending = s.pending) := by
  unfold execTwRs; simp only [After]; constructor <;> ((repeat' split) <;> simp)
theorem execTwEvt_keep (s : State) : After (execTwEvt s) (fun t => t.mem = s.mem ∧ t.pending = s.pending) := by
  unfold execTwEvt; (repeat' split) <;> simp [After]
theorem execGlazeBackgroundTest_keep a0 (s : State) : After (execGlazeBackgroundTest a0 s) (fun t => t.mem = s.mem ∧ t.pending = s.pending) := by
  unfold execGlazeBackgroundTest; simp [After]
theorem execGlazeSwselWrite_keep a0 (s : State) : After (execGlazeSwselWrite a0 s) (fun t => t.mem = s.mem ∧ t.pending = s.pending) := by
  unfold execGlazeSwselWrite; simp [After]
theorem execGlazeSwrunWrite_keep a0 (s : State) : After (execGlazeSwrunWrite a0 s) (fun t => t.mem = s.mem ∧ t.pending = s.pending) := by
  unfold execGlazeSwrunWrite; simp [After]
theorem execGlazeSwrunRead_keep (s : State) : After (execGlazeSwrunRead s) (fun t => t.mem = s.mem ∧ t.pending = s.pending) := by
  unfold execGlazeSwrunRead; simp [After]
theorem execGlazeSwdataWrite_keep a0 (s : State) : After (execGlazeSwdataWrite a0 s) (fun t => t.mem = s.mem ∧ t.pending = s.pending) := by
  unfold execGlazeSwdataWrite; simp [After]
theorem execGlazeSwchkRead_keep (s : State) : After (execGlazeSwchkRead s) (fun t => t.mem = s.mem ∧ t.pending = s.pending) := by
  unfold execGlazeSwchkRead; simp [After]
theorem execGlazePsselWrite_keep a0 (s : State) : After (execGlazePsselWrite a0 s) (fun t => t.mem = s.mem ∧ t.pending = s.pending) := by
  unfold execGlazePsselWrite; simp [After]

end Sys2Proof.Machine
end

