-- ==== Sys2Proof/Laws/ExecB.lean ====
section
/-! SUPPORT. What each command leaves of the General SRAM and of the queue as it was. -/

namespace Sys2Proof.Machine

theorem execGroupTrainingStart_keep a0 (s : State) : After (execGroupTrainingStart a0 s) (fun t => t.mem = s.mem ∧ t.pending = s.pending) := by
  unfold execGroupTrainingStart; (repeat' split) <;> simp [After]
theorem execGroupTrainingComplete_keep a0 a1 (s : State) : After (execGroupTrainingComplete a0 a1 s) (fun t => t.mem = s.mem ∧ t.pending = s.pending) := by
  unfold execGroupTrainingComplete; (repeat' split) <;> simp [After]
theorem execGroupRetrainTimer_keep a0 (s : State) : After (execGroupRetrainTimer a0 s) (fun t => t.mem = s.mem ∧ t.pending = s.pending) := by
  unfold execGroupRetrainTimer; (repeat' split) <;> simp [After]
theorem execAcquisitionSearchComplete_keep a0 (s : State) : After (execAcquisitionSearchComplete a0 s) (fun t => t.mem = s.mem ∧ t.pending = s.pending) := by
  unfold execAcquisitionSearchComplete; dsimp only; (repeat' split) <;> simp_all [After]
theorem execChannelLostTimeout_keep a0 (s : State) : After (execChannelLostTimeout a0 s) (fun t => t.mem = s.mem ∧ t.pending = s.pending) := by
  unfold execChannelLostTimeout; simp [After]
theorem execAccumulationDump_keep a0 a1 a2 (s : State) : After (execAccumulationDump a0 a1 a2 s) (fun t => t.mem = s.mem ∧ t.pending = s.pending) := by
  unfold execAccumulationDump; dsimp only; (repeat' split) <;> simp_all [After]
theorem execLoopUpdate_keep a0 a1 a2 a3 a4 (s : State) : After (execLoopUpdate a0 a1 a2 a3 a4 s) (fun t => t.mem = s.mem ∧ t.pending = s.pending) := by
  unfold execLoopUpdate; dsimp only; (repeat' split) <;> simp_all [After]
theorem execGnssStrmselWrite_keep a0 (s : State) : After (execGnssStrmselWrite a0 s) (fun t => t.mem = s.mem ∧ t.pending = s.pending) := by
  unfold execGnssStrmselWrite; simp [After]
theorem execGnssChselWrite_keep a0 (s : State) : After (execGnssChselWrite a0 s) (fun t => t.mem = s.mem ∧ t.pending = s.pending) := by
  unfold execGnssChselWrite; simp [After]
theorem State.grant_keep (a : State × Nat × Nat) (d : Demand) :
    (State.grant a d).1.mem = a.1.mem ∧ (State.grant a d).1.pending = a.1.pending := by
  obtain ⟨s, u, c⟩ := a
  unfold State.grant
  constructor <;> (dsimp only; (repeat' split) <;> simp)
theorem execDemandList_keep a0 a1 (s : State) : After (execDemandList a0 a1 s) (fun t => t.mem = s.mem ∧ t.pending = s.pending) := by
  unfold execDemandList
  split
  · exact ⟨rfl, rfl⟩
  · have hg : ∀ (l : List _) (p : State × Nat × Nat), (l.foldl State.grant p).1.mem = p.1.mem ∧ (l.foldl State.grant p).1.pending = p.1.pending :=
      fun l p => ⟨foldl_fst_mem _ (fun a d => (State.grant_keep a d).1) l p, foldl_fst_pending _ (fun a d => (State.grant_keep a d).2) l p⟩
    extract_lets s1
    have h1 : s1.mem = s.mem ∧ s1.pending = s.pending := by simp [s1]
    clear_value s1
    have h2 := hg (s1.demands a0) (s1, 0, 0)
    generalize List.foldl State.grant (s1, 0, 0) (s1.demands a0) = q at h2 ⊢
    obtain ⟨s2, u, c⟩ := q
    dsimp only at h2 ⊢
    simp only [After]
    constructor
    · split <;> simp [h2, h1]
    · split <;> simp [h2, h1]
theorem execRawRecordPost_keep a0 (s : State) : After (execRawRecordPost a0 s) (fun t => t.mem = s.mem ∧ t.pending = s.pending) := by
  unfold execRawRecordPost; dsimp only; (repeat' split) <;> simp_all [After]
theorem execPositionRecordPost_keep a0 (s : State) : After (execPositionRecordPost a0 s) (fun t => t.mem = s.mem ∧ t.pending = s.pending) := by
  unfold execPositionRecordPost; dsimp only; (repeat' split) <;> simp_all [After]
theorem execAttitudeRecordPost_keep a0 (s : State) : After (execAttitudeRecordPost a0 s) (fun t => t.mem = s.mem ∧ t.pending = s.pending) := by
  unfold execAttitudeRecordPost; dsimp only; (repeat' split) <;> simp_all [After]
theorem execGnssRecordDiscard_keep a0 (s : State) : After (execGnssRecordDiscard a0 s) (fun t => t.mem = s.mem ∧ t.pending = s.pending) := by
  unfold execGnssRecordDiscard; simp [After]
theorem execExclusionHoldExpiry_keep (s : State) : After (execExclusionHoldExpiry s) (fun t => t.mem = s.mem ∧ t.pending = s.pending) := by
  unfold execExclusionHoldExpiry; simp [After]
theorem execWithdrawalEnd_keep a0 (s : State) : After (execWithdrawalEnd a0 s) (fun t => t.mem = s.mem ∧ t.pending = s.pending) := by
  unfold execWithdrawalEnd; (repeat' split) <;> simp [After]
theorem execFeatureGrid_keep a0 (s : State) : After (execFeatureGrid a0 s) (fun t => t.mem = s.mem ∧ t.pending = s.pending) := by
  unfold execFeatureGrid; (repeat' split) <;> simp [After]
theorem execRtcmMessageReceive_keep a0 a1 a2 (s : State) : After (execRtcmMessageReceive a0 a1 a2 s) (fun t => t.mem = s.mem ∧ t.pending = s.pending) := by
  unfold execRtcmMessageReceive; simp [After]
theorem execGnssSigselWrite_keep a0 (s : State) : After (execGnssSigselWrite a0 s) (fun t => t.mem = s.mem ∧ t.pending = s.pending) := by
  unfold execGnssSigselWrite; simp [After]
theorem execCommonLatch_keep a0 (s : State) : After (execCommonLatch a0 s) (fun t => t.mem = s.mem ∧ t.pending = s.pending) := by
  unfold execCommonLatch; dsimp only; (repeat' split) <;> simp_all [After]
theorem execMasterSyncSend_keep a0 (s : State) : After (execMasterSyncSend a0 s) (fun t => t.mem = s.mem ∧ t.pending = s.pending) := by
  unfold execMasterSyncSend; simp [After]
theorem execRingSyncSend_keep (s : State) : After (execRingSyncSend s) (fun t => t.mem = s.mem ∧ t.pending = s.pending) := by
  unfold execRingSyncSend; simp [After]
theorem execAnnounceSend_keep a0 (s : State) : After (execAnnounceSend a0 s) (fun t => t.mem = s.mem ∧ t.pending = s.pending) := by
  unfold execAnnounceSend; (repeat' split) <;> simp [After]
theorem execAnnounceReceive_keep a0 a1 (s : State) : After (execAnnounceReceive a0 a1 s) (fun t => t.mem = s.mem ∧ t.pending = s.pending) := by
  unfold execAnnounceReceive; (repeat' split) <;> simp [After]
theorem execPtpSyncReceive_keep a0 a1 a2 a3 a4 a5 a6 a7 a8 (s : State) : After (execPtpSyncReceive a0 a1 a2 a3 a4 a5 a6 a7 a8 s) (fun t => t.mem = s.mem ∧ t.pending = s.pending) := by
  unfold execPtpSyncReceive; (repeat' split) <;> simp [After]
theorem execFollowUpReceive_keep a0 a1 a2 a3 a4 a5 a6 a7 (s : State) : After (execFollowUpReceive a0 a1 a2 a3 a4 a5 a6 a7 s) (fun t => t.mem = s.mem ∧ t.pending = s.pending) := by
  unfold execFollowUpReceive; (repeat' split) <;> simp [After]
theorem execRingPtpForward_keep a0 a1 a2 a3 a4 a5 a6 a7 a8 (s : State) : After (execRingPtpForward a0 a1 a2 a3 a4 a5 a6 a7 a8 s) (fun t => t.mem = s.mem ∧ t.pending = s.pending) := by
  unfold execRingPtpForward; (repeat' split) <;> simp [After]
theorem execDelayReqSend_keep a0 a1 a2 (s : State) : After (execDelayReqSend a0 a1 a2 s) (fun t => t.mem = s.mem ∧ t.pending = s.pending) := by
  unfold execDelayReqSend; (repeat' split) <;> simp [After]
theorem execDelayRespReceive_keep a0 a1 a2 a3 (s : State) : After (execDelayRespReceive a0 a1 a2 a3 s) (fun t => t.mem = s.mem ∧ t.pending = s.pending) := by
  unfold execDelayRespReceive; dsimp only; (repeat' split) <;> simp_all [After]
theorem execDelayReqReceive_keep a0 a1 a2 a3 (s : State) : After (execDelayReqReceive a0 a1 a2 a3 s) (fun t => t.mem = s.mem ∧ t.pending = s.pending) := by
  unfold execDelayReqReceive; simp [After]
theorem execPdelayReqSend_keep a0 a1 (s : State) : After (execPdelayReqSend a0 a1 s) (fun t => t.mem = s.mem ∧ t.pending = s.pending) := by
  unfold execPdelayReqSend; (repeat' split) <;> simp [After]
theorem execPdelayReqReceive_keep a0 a1 a2 (s : State) : After (execPdelayReqReceive a0 a1 a2 s) (fun t => t.mem = s.mem ∧ t.pending = s.pending) := by
  unfold execPdelayReqReceive; simp [After]
theorem execPdelayRespReceive_keep a0 a1 a2 a3 (s : State) : After (execPdelayRespReceive a0 a1 a2 a3 s) (fun t => t.mem = s.mem ∧ t.pending = s.pending) := by
  unfold execPdelayRespReceive; dsimp only; (repeat' split) <;> simp_all [After]
theorem execManagementMessageReceive_keep (s : State) : After (execManagementMessageReceive s) (fun t => t.mem = s.mem ∧ t.pending = s.pending) := by
  unfold execManagementMessageReceive; simp [After]
theorem execPtpSourceTimeout_keep a0 (s : State) : After (execPtpSourceTimeout a0 s) (fun t => t.mem = s.mem ∧ t.pending = s.pending) := by
  unfold execPtpSourceTimeout; dsimp only; (repeat' split) <;> simp_all [After]
theorem execSourceQualified_keep a0 (s : State) : After (execSourceQualified a0 s) (fun t => t.mem = s.mem ∧ t.pending = s.pending) := by
  unfold execSourceQualified; simp [After]
theorem execSourceFaultExpiry_keep a0 (s : State) : After (execSourceFaultExpiry a0 s) (fun t => t.mem = s.mem ∧ t.pending = s.pending) := by
  unfold execSourceFaultExpiry; simp [After]
theorem execSuspectReturn_keep a0 (s : State) : After (execSuspectReturn a0 s) (fun t => t.mem = s.mem ∧ t.pending = s.pending) := by
  unfold execSuspectReturn; dsimp only; (repeat' split) <;> simp_all [After]
theorem execDtimeStep_keep (s : State) : After (execDtimeStep s) (fun t => t.mem = s.mem ∧ t.pending = s.pending) := by
  unfold execDtimeStep; dsimp only; (repeat' split) <;> simp_all [After]
theorem execHoldoverLimit_keep (s : State) : After (execHoldoverLimit s) (fun t => t.mem = s.mem ∧ t.pending = s.pending) := by
  unfold execHoldoverLimit; simp [After]
theorem execRefinQualify_keep a0 (s : State) : After (execRefinQualify a0 s) (fun t => t.mem = s.mem ∧ t.pending = s.pending) := by
  unfold execRefinQualify; simp [After]
theorem execRefinFailure_keep a0 a1 a2 (s : State) : After (execRefinFailure a0 a1 a2 s) (fun t => t.mem = s.mem ∧ t.pending = s.pending) := by
  unfold execRefinFailure; simp [After]
theorem execRefinRestore_keep a0 (s : State) : After (execRefinRestore a0 s) (fun t => t.mem = s.mem ∧ t.pending = s.pending) := by
  unfold execRefinRestore; simp [After]
theorem execTcxoFailure_keep a0 a1 (s : State) : After (execTcxoFailure a0 a1 s) (fun t => t.mem = s.mem ∧ t.pending = s.pending) := by
  unfold execTcxoFailure; simp [After]
theorem execLeapSecondApply_keep (s : State) : After (execLeapSecondApply s) (fun t => t.mem = s.mem ∧ t.pending = s.pending) := by
  unfold execLeapSecondApply; simp [After]
theorem execPpsPulse_keep a0 a1 (s : State) : After (execPpsPulse a0 a1 s) (fun t => t.mem = s.mem ∧ t.pending = s.pending) := by
  unfold execPpsPulse; dsimp only; (repeat' split) <;> simp_all [After]
theorem execTpvalidChange_keep (s : State) : After (execTpvalidChange s) (fun t => t.mem = s.mem ∧ t.pending = s.pending) := by
  unfold execTpvalidChange; (repeat' split) <;> simp [After]
theorem execOtimeSave_keep (s : State) : After (execOtimeSave s) (fun t => t.mem = s.mem ∧ t.pending = s.pending) := by
  unfold execOtimeSave; simp [After]
theorem execTimeDtHRead_keep (s : State) : After (execTimeDtHRead s) (fun t => t.mem = s.mem ∧ t.pending = s.pending) := by
  unfold execTimeDtHRead; simp [After]
theorem execTimeSrcselWrite_keep a0 (s : State) : After (execTimeSrcselWrite a0 s) (fun t => t.mem = s.mem ∧ t.pending = s.pending) := by
  unfold execTimeSrcselWrite; simp [After]
theorem execPortLinkUp_keep a0 a1 a2 (s : State) : After (execPortLinkUp a0 a1 a2 s) (fun t => t.mem = s.mem ∧ t.pending = s.pending) := by
  unfold execPortLinkUp; (repeat' split) <;> simp [After]
theorem execPortLinkDown_keep a0 (s : State) : After (execPortLinkDown a0 s) (fun t => t.mem = s.mem ∧ t.pending = s.pending) := by
  unfold execPortLinkDown; dsimp only; (repeat' split) <;> simp_all [After]
theorem execPrpSupervisionSend_keep (s : State) : After (execPrpSupervisionSend s) (fun t => t.mem = s.mem ∧ t.pending = s.pending) := by
  unfold execPrpSupervisionSend; simp [After]
theorem execLanSilence_keep a0 (s : State) : After (execLanSilence a0 s) (fun t => t.mem = s.mem ∧ t.pending = s.pending) := by
  unfold execLanSilence; simp [After]
theorem execRingSupervisionSend_keep (s : State) : After (execRingSupervisionSend s) (fun t => t.mem = s.mem ∧ t.pending = s.pending) := by
  unfold execRingSupervisionSend; simp [After]
theorem execRingFrameForward_keep a0 a1 a2 a3 a4 a5 a6 a7 a8 (s : State) : After (execRingFrameForward a0 a1 a2 a3 a4 a5 a6 a7 a8 s) (fun t => t.mem = s.mem ∧ t.pending = s.pending) := by
  unfold execRingFrameForward; dsimp only; (repeat' split) <;> simp_all [After]
theorem execArpRequest_keep a0 a1 a2 (s : State) : After (execArpRequest a0 a1 a2 s) (fun t => t.mem = s.mem ∧ t.pending = s.pending) := by
  unfold execArpRequest; simp [After]
theorem execIcmpEchoRequest_keep a0 a1 (s : State) : After (execIcmpEchoRequest a0 a1 s) (fun t => t.mem = s.mem ∧ t.pending = s.pending) := by
  unfold execIcmpEchoRequest; simp [After]
theorem execIgmpQuery_keep a0 (s : State) : After (execIgmpQuery a0 s) (fun t => t.mem = s.mem ∧ t.pending = s.pending) := by
  unfold execIgmpQuery; simp [After]
theorem execAdmissionOpen_keep (s : State) : After (execAdmissionOpen s) (fun t => t.mem = s.mem ∧ t.pending = s.pending) := by
  unfold execAdmissionOpen; (repeat' split) <;> simp [After]
theorem execIec61162450Datagram_keep a0 a1 a2 a3 a4 (s : State) : After (execIec61162450Datagram a0 a1 a2 a3 a4 s) (fun t => t.mem = s.mem ∧ t.pending = s.pending) := by
  unfold execIec61162450Datagram; simp [After]
theorem execUdpBinaryDatagram_keep a0 a1 a2 a3 a4 (s : State) : After (execUdpBinaryDatagram a0 a1 a2 a3 a4 s) (fun t => t.mem = s.mem ∧ t.pending = s.pending) := by
  unfold execUdpBinaryDatagram; simp [After]
theorem execGooseFrameReceive_keep a0 a1 a2 a3 a4 a5 a6 a7 a8 a9 (s : State) : After (execGooseFrameReceive a0 a1 a2 a3 a4 a5 a6 a7 a8 a9 s) (fun t => t.mem = s.mem ∧ t.pending = s.pending) := by
  unfold execGooseFrameReceive; simp [After]
theorem execDriveStatusReceive_keep a0 a1 a2 (s : State) : After (execDriveStatusReceive a0 a1 a2 s) (fun t => t.mem = s.mem ∧ t.pending = s.pending) := by
  unfold execDriveStatusReceive; dsimp only; (repeat' split) <;> simp_all [After]
theorem execPrpFrameReceive_keep a0 a1 a2 a3 a4 a5 a6 (s : State) : After (execPrpFrameReceive a0 a1 a2 a3 a4 a5 a6 s) (fun t => t.mem = s.mem ∧ t.pending = s.pending) := by
  unfold execPrpFrameReceive; simp [After]
theorem execOutputSessionSend_keep a0 (s : State) : After (execOutputSessionSend a0 s) (fun t => t.mem = s.mem ∧ t.pending = s.pending) := by
  unfold execOutputSessionSend; dsimp only; (repeat' split) <;> simp_all [After]
theorem execNetPortselWrite_keep a0 (s : State) : After (execNetPortselWrite a0 s) (fun t => t.mem = s.mem ∧ t.pending = s.pending) := by
  unfold execNetPortselWrite; simp [After]
theorem execNetSesselWrite_keep a0 (s : State) : After (execNetSesselWrite a0 s) (fun t => t.mem = s.mem ∧ t.pending = s.pending) := by
  unfold execNetSesselWrite; simp [After]
theorem execUartCharacterReceive_keep a0 a1 a2 a3 (s : State) : After (execUartCharacterReceive a0 a1 a2 a3 s) (fun t => t.mem = s.mem ∧ t.pending = s.pending) := by
  unfold execUartCharacterReceive; dsimp only; (repeat' split) <;> simp_all [After]
theorem execCanFrameReceive_keep a0 a1 a2 a3 a4 a5 a6 (s : State) : After (execCanFrameReceive a0 a1 a2 a3 a4 a5 a6 s) (fun t => t.mem = s.mem ∧ t.pending = s.pending) := by
  unfold execCanFrameReceive; dsimp only; (repeat' split) <;> simp_all [After]
theorem execCanBusError_keep a0 a1 a2 (s : State) : After (execCanBusError a0 a1 a2 s) (fun t => t.mem = s.mem ∧ t.pending = s.pending) := by
  unfold execCanBusError; dsimp only; (repeat' split) <;> simp_all [After]
theorem execCanBusOff_keep a0 (s : State) : After (execCanBusOff a0 s) (fun t => t.mem = s.mem ∧ t.pending = s.pending) := by
  unfold execCanBusOff; simp [After]
theorem execCanBusOffRecovery_keep a0 (s : State) : After (execCanBusOffRecovery a0 s) (fun t => t.mem = s.mem ∧ t.pending = s.pending) := by
  unfold execCanBusOffRecovery; simp [After]
theorem execFieldUartselWrite_keep a0 (s : State) : After (execFieldUartselWrite a0 s) (fun t => t.mem = s.mem ∧ t.pending = s.pending) := by
  unfold execFieldUartselWrite; simp [After]
theorem execFieldCanselWrite_keep a0 (s : State) : After (execFieldCanselWrite a0 s) (fun t => t.mem = s.mem ∧ t.pending = s.pending) := by
  unfold execFieldCanselWrite; simp [After]
theorem execKilnSampleCycle_keep a0 (s : State) : After (execKilnSampleCycle a0 s) (fun t => t.mem = s.mem ∧ t.pending = s.pending) := by
  unfold execKilnSampleCycle; simp [After]
theorem execDiscrepancyFault_keep a0 (s : State) : After (execDiscrepancyFault a0 s) (fun t => t.mem = s.mem ∧ t.pending = s.pending) := by
  unfold execDiscrepancyFault; simp [After]
theorem execTestPulseStart_keep a0 (s : State) : After (execTestPulseStart a0 s) (fun t => t.mem = s.mem ∧ t.pending = s.pending) := by
  unfold execTestPulseStart; simp [After]
theorem execTestPulseEnd_keep a0 (s : State) : After (execTestPulseEnd a0 s) (fun t => t.mem = s.mem ∧ t.pending = s.pending) := by
  unfold execTestPulseEnd; simp [After]
theorem execOpenLoadWarning_keep a0 (s : State) : After (execOpenLoadWarning a0 s) (fun t => t.mem = s.mem ∧ t.pending = s.pending) := by
  unfold execOpenLoadWarning; simp [After]
theorem execFieldSupplyFault_keep a0 (s : State) : After (execFieldSupplyFault a0 s) (fun t => t.mem = s.mem ∧ t.pending = s.pending) := by
  unfold execFieldSupplyFault; simp [After]
theorem execFieldSupplyRestore_keep a0 (s : State) : After (execFieldSupplyRestore a0 s) (fun t => t.mem = s.mem ∧ t.pending = s.pending) := by
  unfold execFieldSupplyRestore; simp [After]
theorem execSwitchTestStart_keep a0 (s : State) : After (execSwitchTestStart a0 s) (fun t => t.mem = s.mem ∧ t.pending = s.pending) := by
  unfold execSwitchTestStart; simp [After]
theorem execSwitchTestPhaseEnd_keep a0 (s : State) : After (execSwitchTestPhaseEnd a0 s) (fun t => t.mem = s.mem ∧ t.pending = s.pending) := by
  unfold execSwitchTestPhaseEnd; simp [After]
theorem execSwitchTestOverdue_keep a0 (s : State) : After (execSwitchTestOverdue a0 s) (fun t => t.mem = s.mem ∧ t.pending = s.pending) := by
  unfold execSwitchTestOverdue; simp [After]
theorem execOffDelayExpiry_keep a0 (s : State) : After (execOffDelayExpiry a0 s) (fun t => t.mem = s.mem ∧ t.pending = s.pending) := by
  unfold execOffDelayExpiry; simp [After]
theorem execResetInputRelease_keep a0 (s : State) : After (execResetInputRelease a0 s) (fun t => t.mem = s.mem ∧ t.pending = s.pending) := by
  unfold execResetInputRelease; simp [After]
theorem execTripLineAssert_keep (s : State) : After (execTripLineAssert s) (fun t => t.mem = s.mem ∧ t.pending = s.pending) := by
  unfold execTripLineAssert; simp [After]
theorem execTripClear_keep a0 (s : State) : After (execTripClear a0 s) (fun t => t.mem = s.mem ∧ t.pending = s.pending) := by
  unfold execTripClear; simp [After]
theorem execHeartbeatTimeout_keep a0 (s : State) : After (execHeartbeatTimeout a0 s) (fun t => t.mem = s.mem ∧ t.pending = s.pending) := by
  unfold execHeartbeatTimeout; simp [After]
theorem execCommandCopyCheck_keep a0 (s : State) : After (execCommandCopyCheck a0 s) (fun t => t.mem = s.mem ∧ t.pending = s.pending) := by
  unfold execCommandCopyCheck; simp [After]
theorem execKilnTableLoad_keep (s : State) : After (execKilnTableLoad s) (fun t => t.mem = s.mem ∧ t.pending = s.pending) := by
  unfold execKilnTableLoad; (repeat' split) <;> simp [After]
theorem execCrossTripLineLevel_keep a0 a1 a2 (s : State) : After (execCrossTripLineLevel a0 a1 a2 s) (fun t => t.mem = s.mem ∧ t.pending = s.pending) := by
  unfold execCrossTripLineLevel; simp [After]
theorem execClaimFrameSend_keep a0 (s : State) : After (execClaimFrameSend a0 s) (fun t => t.mem = s.mem ∧ t.pending = s.pending) := by
  unfold execClaimFrameSend; simp [After]
theorem execClaimLineFree_keep (s : State) : After (execClaimLineFree s) (fun t => t.mem = s.mem ∧ t.pending = s.pending) := by
  unfold execClaimLineFree; simp [After]
theorem execLclmFault_keep a0 (s : State) : After (execLclmFault a0 s) (fun t => t.mem = s.mem ∧ t.pending = s.pending) := by
  unfold execLclmFault; simp [After]
theorem execSetDpMode_keep a0 a1 a2 (s : State) : After (execSetDpMode a0 a1 a2 s) (fun t => t.mem = s.mem ∧ t.pending = s.pending) := by
  simp only [execSetDpMode, After]; exact State.guideCommand_keep _ _ _ _ _
theorem execSetPosition_keep a0 a1 a2 a3 (s : State) : After (execSetPosition a0 a1 a2 a3 s) (fun t => t.mem = s.mem ∧ t.pending = s.pending) := by
  simp only [execSetPosition, After]; exact State.guideCommand_keep _ _ _ _ _
theorem execSetHeading_keep a0 a1 a2 (s : State) : After (execSetHeading a0 a1 a2 s) (fun t => t.mem = s.mem ∧ t.pending = s.pending) := by
  simp only [execSetHeading, After]; exact State.guideCommand_keep _ _ _ _ _
theorem execSetMotionLimits_keep a0 a1 a2 a3 a4 (s : State) : After (execSetMotionLimits a0 a1 a2 a3 a4 s) (fun t => t.mem = s.mem ∧ t.pending = s.pending) := by
  simp only [execSetMotionLimits, After]; exact State.guideCommand_keep _ _ _ _ _
theorem execLoadTrack_keep a0 a1 (s : State) : After (execLoadTrack a0 a1 s) (fun t => t.mem = s.mem ∧ t.pending = s.pending) := by
  simp only [execLoadTrack, After]; exact State.guideCommand_keep _ _ _ _ _
theorem execSetFollow_keep a0 a1 a2 a3 (s : State) : After (execSetFollow a0 a1 a2 a3 s) (fun t => t.mem = s.mem ∧ t.pending = s.pending) := by
  simp only [execSetFollow, After]; exact State.guideCommand_keep _ _ _ _ _
theorem execSetWindFf_keep a0 a1 a2 (s : State) : After (execSetWindFf a0 a1 a2 s) (fun t => t.mem = s.mem ∧ t.pending = s.pending) := by
  simp only [execSetWindFf, After]; exact State.guideCommand_keep _ _ _ _ _
theorem execSetThrusterUse_keep a0 a1 a2 (s : State) : After (execSetThrusterUse a0 a1 a2 s) (fun t => t.mem = s.mem ∧ t.pending = s.pending) := by
  simp only [execSetThrusterUse, After]; exact State.guideCommand_keep _ _ _ _ _
theorem execResetLoopSlot_keep a0 a1 (s : State) : After (execResetLoopSlot a0 a1 s) (fun t => t.mem = s.mem ∧ t.pending = s.pending) := by
  simp only [execResetLoopSlot, After, State.simple]; exact ⟨State.command_mem _ _ _ _ _ _ (fun t x ht => by rw [← ht]; (repeat' split) <;> first | trivial | (exact State.mirrored_mem _ _ _ _ _ (by simp)) | (exact State.kilnAsk_mem _ _ _ _ _) | simp), State.command_pending _ _ _ _ _ _ (fun t x ht => by rw [← ht]; (repeat' split) <;> first | trivial | (exact State.mirrored_pending _ _ _ _ _ (by simp)) | (exact State.kilnAsk_pending _ _ _ _ _) | simp)⟩
theorem execSelectReference_keep a0 a1 a2 (s : State) : After (execSelectReference a0 a1 a2 s) (fun t => t.mem = s.mem ∧ t.pending = s.pending) := by
  simp only [execSelectReference, After, State.simple]; exact ⟨State.command_mem _ _ _ _ _ _ (fun t x ht => by rw [← ht]; (repeat' split) <;> first | trivial | (exact State.mirrored_mem _ _ _ _ _ (by simp)) | (exact State.kilnAsk_mem _ _ _ _ _) | simp), State.command_pending _ _ _ _ _ _ (fun t x ht => by rw [← ht]; (repeat' split) <;> first | trivial | (exact State.mirrored_pending _ _ _ _ _ (by simp)) | (exact State.kilnAsk_pending _ _ _ _ _) | simp)⟩
theorem execReleaseReference_keep a0 a1 (s : State) : After (execReleaseReference a0 a1 s) (fun t => t.mem = s.mem ∧ t.pending = s.pending) := by
  simp only [execReleaseReference, After, State.simple]; exact ⟨State.command_mem _ _ _ _ _ _ (fun t x ht => by rw [← ht]; (repeat' split) <;> first | trivial | (exact State.mirrored_mem _ _ _ _ _ (by simp)) | (exact State.kilnAsk_mem _ _ _ _ _) | simp), State.command_pending _ _ _ _ _ _ (fun t x ht => by rw [← ht]; (repeat' split) <;> first | trivial | (exact State.mirrored_pending _ _ _ _ _ (by simp)) | (exact State.kilnAsk_pending _ _ _ _ _) | simp)⟩
theorem execHeartbeatExchange_keep a0 a1 a2 a3 (s : State) : After (execHeartbeatExchange a0 a1 a2 a3 s) (fun t => t.mem = s.mem ∧ t.pending = s.pending) := by
  unfold execHeartbeatExchange; simp [After]
theorem execWithholdMaskWrite_keep a0 (s : State) : After (execWithholdMaskWrite a0 s) (fun t => t.mem = s.mem ∧ t.pending = s.pending) := by
  unfold execWithholdMaskWrite; simp [After]
theorem execMailboxClear_keep a0 (s : State) : After (execMailboxClear a0 s) (fun t => t.mem = s.mem ∧ t.pending = s.pending) := by
  unfold execMailboxClear; simp [After]
theorem execMailboxSwitchTest_keep a0 (s : State) : After (execMailboxSwitchTest a0 s) (fun t => t.mem = s.mem ∧ t.pending = s.pending) := by
  unfold execMailboxSwitchTest; simp [After]
theorem execMailboxReadTable_keep a0 (s : State) : After (execMailboxReadTable a0 s) (fun t => t.mem = s.mem ∧ t.pending = s.pending) := by
  unfold execMailboxReadTable; simp [After]
theorem execKilnSealHRead_keep (s : State) : After (execKilnSealHRead s) (fun t => t.mem = s.mem ∧ t.pending = s.pending) := by
  unfold execKilnSealHRead; simp [After]
theorem execKilnInselWrite_keep a0 (s : State) : After (execKilnInselWrite a0 s) (fun t => t.mem = s.mem ∧ t.pending = s.pending) := by
  unfold execKilnInselWrite; simp [After]
theorem execKilnOutselWrite_keep a0 (s : State) : After (execKilnOutselWrite a0 s) (fun t => t.mem = s.mem ∧ t.pending = s.pending) := by
  unfold execKilnOutselWrite; simp [After]
theorem execKilnClear_keep a0 a1 a2 (s : State) : After (execKilnClear a0 a1 a2 s) (fun t => t.mem = s.mem ∧ t.pending = s.pending) := by
  simp only [execKilnClear, After, State.simple]; exact ⟨State.command_mem _ _ _ _ _ _ (fun t x ht => by rw [← ht]; (repeat' split) <;> first | trivial | (exact State.mirrored_mem _ _ _ _ _ (by simp)) | (exact State.kilnAsk_mem _ _ _ _ _) | simp), State.command_pending _ _ _ _ _ _ (fun t x ht => by rw [← ht]; (repeat' split) <;> first | trivial | (exact State.mirrored_pending _ _ _ _ _ (by simp)) | (exact State.kilnAsk_pending _ _ _ _ _) | simp)⟩
theorem execKilnSwitchTest_keep a0 a1 (s : State) : After (execKilnSwitchTest a0 a1 s) (fun t => t.mem = s.mem ∧ t.pending = s.pending) := by
  simp only [execKilnSwitchTest, After, State.simple]; exact ⟨State.command_mem _ _ _ _ _ _ (fun t x ht => by rw [← ht]; (repeat' split) <;> first | trivial | (exact State.mirrored_mem _ _ _ _ _ (by simp)) | (exact State.kilnAsk_mem _ _ _ _ _) | simp), State.command_pending _ _ _ _ _ _ (fun t x ht => by rw [← ht]; (repeat' split) <;> first | trivial | (exact State.mirrored_pending _ _ _ _ _ (by simp)) | (exact State.kilnAsk_pending _ _ _ _ _) | simp)⟩
theorem execKilnWithhold_keep a0 a1 a2 (s : State) : After (execKilnWithhold a0 a1 a2 s) (fun t => t.mem = s.mem ∧ t.pending = s.pending) := by
  simp only [execKilnWithhold, After, State.simple]; exact ⟨State.command_mem _ _ _ _ _ _ (fun t x ht => by rw [← ht]; (repeat' split) <;> first | trivial | (exact State.mirrored_mem _ _ _ _ _ (by simp)) | (exact State.kilnAsk_mem _ _ _ _ _) | simp), State.command_pending _ _ _ _ _ _ (fun t x ht => by rw [← ht]; (repeat' split) <;> first | trivial | (exact State.mirrored_pending _ _ _ _ _ (by simp)) | (exact State.kilnAsk_pending _ _ _ _ _) | simp)⟩
theorem execPickTaskRelease_keep (s : State) : After (execPickTaskRelease s) (fun t => t.mem = s.mem ∧ t.pending = s.pending) := by
  unfold execPickTaskRelease; simp [After]
theorem execBeatTaskRelease_keep (s : State) : After (execBeatTaskRelease s) (fun t => t.mem = s.mem ∧ t.pending = s.pending) := by
  unfold execBeatTaskRelease; dsimp only; (repeat' split) <;> simp_all [After]
theorem execConeShuttleOverrun_keep a0 (s : State) : After (execConeShuttleOverrun a0 s) (fun t => t.mem = s.mem ∧ t.pending = s.pending) := by
  unfold execConeShuttleOverrun; simp [After]
theorem execTaskWatchdog_keep a0 a1 (s : State) : After (execTaskWatchdog a0 a1 s) (fun t => t.mem = s.mem ∧ t.pending = s.pending) := by
  unfold execTaskWatchdog; dsimp only; (repeat' split) <;> simp_all [After]

end Sys2Proof.Machine
end

