-- ==== Sys2Proof/Laws/ExecC.lean ====
section
/-! SUPPORT. What each command leaves of the General SRAM and of the queue as it was. -/

namespace Sys2Proof.Machine

theorem execBeatTaskLimit_keep a0 (s : State) : After (execBeatTaskLimit a0 s) (fun t => t.mem = s.mem ∧ t.pending = s.pending) := by
  unfold execBeatTaskLimit; dsimp only; (repeat' split) <;> simp_all [After]
theorem execSyncImageApply_keep (s : State) : After (execSyncImageApply s) (fun t => t.mem = s.mem ∧ t.pending = s.pending) := by
  unfold execSyncImageApply; dsimp only; (repeat' split) <;> simp_all [After]
theorem execShuttleTaskselWrite_keep a0 (s : State) : After (execShuttleTaskselWrite a0 s) (fun t => t.mem = s.mem ∧ t.pending = s.pending) := by
  unfold execShuttleTaskselWrite; simp [After]
theorem execShuttleTaskstatRead_keep (s : State) : After (execShuttleTaskstatRead s) (fun t => t.mem = s.mem ∧ t.pending = s.pending) := by
  unfold execShuttleTaskstatRead; simp [After]
theorem execShuttleProgidHRead_keep (s : State) : After (execShuttleProgidHRead s) (fun t => t.mem = s.mem ∧ t.pending = s.pending) := by
  unfold execShuttleProgidHRead; simp [After]
theorem execShuttleRetidHRead_keep (s : State) : After (execShuttleRetidHRead s) (fun t => t.mem = s.mem ∧ t.pending = s.pending) := by
  unfold execShuttleRetidHRead; simp [After]
theorem execForceSet_keep a0 a1 a2 a3 a4 a5 (s : State) : After (execForceSet a0 a1 a2 a3 a4 a5 s) (fun t => t.mem = s.mem ∧ t.pending = s.pending) := by
  simp only [execForceSet, After]; exact State.forceCommand_keep _ _ _ _ _
theorem execForceClear_keep a0 a1 a2 a3 (s : State) : After (execForceClear a0 a1 a2 a3 s) (fun t => t.mem = s.mem ∧ t.pending = s.pending) := by
  simp only [execForceClear, After]; exact State.forceCommand_keep _ _ _ _ _
theorem execForceClearAll_keep a0 a1 (s : State) : After (execForceClearAll a0 a1 s) (fun t => t.mem = s.mem ∧ t.pending = s.pending) := by
  simp only [execForceClearAll, After]; exact State.forceCommand_keep _ _ _ _ _
theorem execForceList_keep a0 a1 (s : State) : After (execForceList a0 a1 s) (fun t => t.mem = s.mem ∧ t.pending = s.pending) := by
  simp only [execForceList, After, State.simple]; exact ⟨State.command_mem _ _ _ _ _ _ (fun t x ht => by rw [← ht]; (repeat' split) <;> first | trivial | (exact State.mirrored_mem _ _ _ _ _ (by simp)) | (exact State.kilnAsk_mem _ _ _ _ _) | simp), State.command_pending _ _ _ _ _ _ (fun t x ht => by rw [← ht]; (repeat' split) <;> first | trivial | (exact State.mirrored_pending _ _ _ _ _ (by simp)) | (exact State.kilnAsk_pending _ _ _ _ _) | simp)⟩
theorem execShuttleRun_keep a0 a1 (s : State) : After (execShuttleRun a0 a1 s) (fun t => t.mem = s.mem ∧ t.pending = s.pending) := by
  simp only [execShuttleRun, After, State.simple]; exact ⟨State.command_mem _ _ _ _ _ _ (fun t x ht => by rw [← ht]; (repeat' split) <;> first | trivial | (exact State.mirrored_mem _ _ _ _ _ (by simp)) | (exact State.kilnAsk_mem _ _ _ _ _) | simp), State.command_pending _ _ _ _ _ _ (fun t x ht => by rw [← ht]; (repeat' split) <;> first | trivial | (exact State.mirrored_pending _ _ _ _ _ (by simp)) | (exact State.kilnAsk_pending _ _ _ _ _) | simp)⟩
theorem execShuttleTaskRestart_keep a0 a1 (s : State) : After (execShuttleTaskRestart a0 a1 s) (fun t => t.mem = s.mem ∧ t.pending = s.pending) := by
  simp only [execShuttleTaskRestart, After, State.simple]; exact ⟨State.command_mem _ _ _ _ _ _ (fun t x ht => by rw [← ht]; (repeat' split) <;> first | trivial | (exact State.mirrored_mem _ _ _ _ _ (by simp)) | (exact State.kilnAsk_mem _ _ _ _ _) | simp), State.command_pending _ _ _ _ _ _ (fun t x ht => by rw [← ht]; (repeat' split) <;> first | trivial | (exact State.mirrored_pending _ _ _ _ _ (by simp)) | (exact State.kilnAsk_pending _ _ _ _ _) | simp)⟩
theorem execOnlineChange_keep a0 a1 a2 (s : State) : After (execOnlineChange a0 a1 a2 s) (fun t => t.mem = s.mem ∧ t.pending = s.pending) := by
  simp only [execOnlineChange, After, State.simple]; exact ⟨State.command_mem _ _ _ _ _ _ (fun t x ht => by rw [← ht]; (repeat' split) <;> first | trivial | (exact State.mirrored_mem _ _ _ _ _ (by simp)) | (exact State.kilnAsk_mem _ _ _ _ _) | simp), State.command_pending _ _ _ _ _ _ (fun t x ht => by rw [← ht]; (repeat' split) <;> first | trivial | (exact State.mirrored_pending _ _ _ _ _ (by simp)) | (exact State.kilnAsk_pending _ _ _ _ _) | simp)⟩
theorem execOnlineChangeDiscard_keep a0 (s : State) : After (execOnlineChangeDiscard a0 s) (fun t => t.mem = s.mem ∧ t.pending = s.pending) := by
  simp only [execOnlineChangeDiscard, After, State.simple]; exact ⟨State.command_mem _ _ _ _ _ _ (fun t x ht => by rw [← ht]; (repeat' split) <;> first | trivial | (exact State.mirrored_mem _ _ _ _ _ (by simp)) | (exact State.kilnAsk_mem _ _ _ _ _) | simp), State.command_pending _ _ _ _ _ _ (fun t x ht => by rw [← ht]; (repeat' split) <;> first | trivial | (exact State.mirrored_pending _ _ _ _ _ (by simp)) | (exact State.kilnAsk_pending _ _ _ _ _) | simp)⟩
theorem execOnlineChangeSwitch_keep (s : State) : After (execOnlineChangeSwitch s) (fun t => t.mem = s.mem ∧ t.pending = s.pending) := by
  unfold execOnlineChangeSwitch; (repeat' split) <;> simp [After]
theorem execOnlineChangeAbandon_keep (s : State) : After (execOnlineChangeAbandon s) (fun t => t.mem = s.mem ∧ t.pending = s.pending) := by
  unfold execOnlineChangeAbandon; (repeat' split) <;> simp [After]
theorem execSolveStart_keep a0 a1 (s : State) : After (execSolveStart a0 a1 s) (fun t => t.mem = s.mem ∧ t.pending = s.pending) := by
  unfold execSolveStart; (repeat' split) <;> simp [After]
theorem execWheelIteration_keep a0 a1 a2 (s : State) : After (execWheelIteration a0 a1 a2 s) (fun t => t.mem = s.mem ∧ t.pending = s.pending) := by
  unfold execWheelIteration; dsimp only; (repeat' split) <;> simp_all [After]
theorem execConeSolveDeadline_keep a0 a1 a2 (s : State) : After (execConeSolveDeadline a0 a1 a2 s) (fun t => t.mem = s.mem ∧ t.pending = s.pending) := by
  unfold execConeSolveDeadline; simp [After]
theorem execWheelDegradedEntry_keep (s : State) : After (execWheelDegradedEntry s) (fun t => t.mem = s.mem ∧ t.pending = s.pending) := by
  unfold execWheelDegradedEntry; simp [After]
theorem execWheelDegradedEnd_keep (s : State) : After (execWheelDegradedEnd s) (fun t => t.mem = s.mem ∧ t.pending = s.pending) := by
  unfold execWheelDegradedEnd; simp [After]
theorem execWheelMissSafe_keep (s : State) : After (execWheelMissSafe s) (fun t => t.mem = s.mem ∧ t.pending = s.pending) := by
  unfold execWheelMissSafe; simp [After]
theorem execWheelRecordCopy_keep (s : State) : After (execWheelRecordCopy s) (fun t => t.mem = s.mem ∧ t.pending = s.pending) := by
  unfold execWheelRecordCopy; simp [After]
theorem execConsequenceCycleStart_keep (s : State) : After (execConsequenceCycleStart s) (fun t => t.mem = s.mem ∧ t.pending = s.pending) := by
  unfold execConsequenceCycleStart; (repeat' split) <;> simp [After]
theorem execConsequenceScenarioEnd_keep a0 a1 (s : State) : After (execConsequenceScenarioEnd a0 a1 s) (fun t => t.mem = s.mem ∧ t.pending = s.pending) := by
  unfold execConsequenceScenarioEnd; dsimp only; (repeat' split) <;> simp_all [After]
theorem execWheelFpHRead_keep (s : State) : After (execWheelFpHRead s) (fun t => t.mem = s.mem ∧ t.pending = s.pending) := by
  unfold execWheelFpHRead; simp [After]
theorem execWheelEngRead_keep (s : State) : After (execWheelEngRead s) (fun t => t.mem = s.mem ∧ t.pending = s.pending) := by
  unfold execWheelEngRead; simp [After]
theorem execFastFrameSend_keep (s : State) : After (execFastFrameSend s) (fun t => t.mem = s.mem ∧ t.pending = s.pending) := by
  unfold execFastFrameSend; simp [After]
theorem execStateFrameSend_keep (s : State) : After (execStateFrameSend s) (fun t => t.mem = s.mem ∧ t.pending = s.pending) := by
  unfold execStateFrameSend; simp [After]
theorem execDoryoLaneTimeout_keep a0 (s : State) : After (execDoryoLaneTimeout a0 s) (fun t => t.mem = s.mem ∧ t.pending = s.pending) := by
  unfold execDoryoLaneTimeout; simp [After]
theorem execFastFrameReceive_keep a0 a1 a2 a3 (s : State) : After (execFastFrameReceive a0 a1 a2 a3 s) (fun t => t.mem = s.mem ∧ t.pending = s.pending) := by
  unfold execFastFrameReceive; simp [After]
theorem execStateFrameReceive_keep a0 a1 a2 (s : State) : After (execStateFrameReceive a0 a1 a2 s) (fun t => t.mem = s.mem ∧ t.pending = s.pending) := by
  unfold execStateFrameReceive; simp [After]
theorem execArmDelayExpiry_keep (s : State) : After (execArmDelayExpiry s) (fun t => t.mem = s.mem ∧ t.pending = s.pending) := by
  unfold execArmDelayExpiry; (repeat' split) <;> simp [After]
theorem execTakeover_keep (s : State) : After (execTakeover s) (fun t => t.mem = s.mem ∧ t.pending = s.pending) := by
  unfold execTakeover; simp [After]
theorem execPairTransfer_keep a0 (s : State) : After (execPairTransfer a0 s) (fun t => t.mem = s.mem ∧ t.pending = s.pending) := by
  simp only [execPairTransfer, After, State.simple]; exact ⟨State.command_mem _ _ _ _ _ _ (fun t x ht => by rw [← ht]; (repeat' split) <;> first | trivial | (exact State.mirrored_mem _ _ _ _ _ (by simp)) | (exact State.kilnAsk_mem _ _ _ _ _) | simp), State.command_pending _ _ _ _ _ _ (fun t x ht => by rw [← ht]; (repeat' split) <;> first | trivial | (exact State.mirrored_pending _ _ _ _ _ (by simp)) | (exact State.kilnAsk_pending _ _ _ _ _) | simp)⟩
theorem execPairBar_keep a0 (s : State) : After (execPairBar a0 s) (fun t => t.mem = s.mem ∧ t.pending = s.pending) := by
  simp only [execPairBar, After, State.simple]; exact ⟨State.command_mem _ _ _ _ _ _ (fun t x ht => by rw [← ht]; (repeat' split) <;> first | trivial | (exact State.mirrored_mem _ _ _ _ _ (by simp)) | (exact State.kilnAsk_mem _ _ _ _ _) | simp), State.command_pending _ _ _ _ _ _ (fun t x ht => by rw [← ht]; (repeat' split) <;> first | trivial | (exact State.mirrored_pending _ _ _ _ _ (by simp)) | (exact State.kilnAsk_pending _ _ _ _ _) | simp)⟩
theorem execPairUnbar_keep a0 (s : State) : After (execPairUnbar a0 s) (fun t => t.mem = s.mem ∧ t.pending = s.pending) := by
  simp only [execPairUnbar, After, State.simple]; exact ⟨State.command_mem _ _ _ _ _ _ (fun t x ht => by rw [← ht]; (repeat' split) <;> first | trivial | (exact State.mirrored_mem _ _ _ _ _ (by simp)) | (exact State.kilnAsk_mem _ _ _ _ _) | simp), State.command_pending _ _ _ _ _ _ (fun t x ht => by rw [← ht]; (repeat' split) <;> first | trivial | (exact State.mirrored_pending _ _ _ _ _ (by simp)) | (exact State.kilnAsk_pending _ _ _ _ _) | simp)⟩
theorem execPageProgram_keep a0 (s : State) : After (execPageProgram a0 s) (fun t => t.mem = s.mem ∧ t.pending = s.pending) := by
  unfold execPageProgram; (repeat' split) <;> simp [After]
theorem execBlockErase_keep a0 a1 (s : State) : After (execBlockErase a0 a1 s) (fun t => t.mem = s.mem ∧ t.pending = s.pending) := by
  unfold execBlockErase; simp [After]
theorem execSecSerialHRead_keep (s : State) : After (execSecSerialHRead s) (fun t => t.mem = s.mem ∧ t.pending = s.pending) := by
  unfold execSecSerialHRead; simp [After]
theorem execRegisterWrite_keep a0 a1 (s : State) : After (execRegisterWrite a0 a1 s) (fun t => t.mem = s.mem ∧ t.pending = s.pending) := by
  unfold execRegisterWrite; simp [After]
theorem execDraftActivate_keep a0 a1 a2 (s : State) : After (execDraftActivate a0 a1 a2 s) (fun t => t.mem = s.mem ∧ t.pending = s.pending) := by
  simp only [execDraftActivate, After]; exact State.draftCommand_keep _ _ _ _ _ _ _
theorem execDraftRevert_keep a0 a1 a2 (s : State) : After (execDraftRevert a0 a1 a2 s) (fun t => t.mem = s.mem ∧ t.pending = s.pending) := by
  simp only [execDraftRevert, After]; exact State.draftCommand_keep _ _ _ _ _ _ _
theorem execDraftDiscard_keep a0 (s : State) : After (execDraftDiscard a0 s) (fun t => t.mem = s.mem ∧ t.pending = s.pending) := by
  simp only [execDraftDiscard, After, State.simple]; exact ⟨State.command_mem _ _ _ _ _ _ (fun t x ht => by rw [← ht]; (repeat' split) <;> first | trivial | (exact State.mirrored_mem _ _ _ _ _ (by simp)) | (exact State.kilnAsk_mem _ _ _ _ _) | simp), State.command_pending _ _ _ _ _ _ (fun t x ht => by rw [← ht]; (repeat' split) <;> first | trivial | (exact State.mirrored_pending _ _ _ _ _ (by simp)) | (exact State.kilnAsk_pending _ _ _ _ _) | simp)⟩
theorem execBulkOpen_keep a0 a1 a2 a3 (s : State) : After (execBulkOpen a0 a1 a2 a3 s) (fun t => t.mem = s.mem ∧ t.pending = s.pending) := by
  simp only [execBulkOpen, After, State.simple]; exact ⟨State.command_mem _ _ _ _ _ _ (fun t x ht => by rw [← ht]; (repeat' split) <;> first | trivial | (exact State.mirrored_mem _ _ _ _ _ (by simp)) | (exact State.kilnAsk_mem _ _ _ _ _) | simp), State.command_pending _ _ _ _ _ _ (fun t x ht => by rw [← ht]; (repeat' split) <;> first | trivial | (exact State.mirrored_pending _ _ _ _ _ (by simp)) | (exact State.kilnAsk_pending _ _ _ _ _) | simp)⟩
theorem execBulkWrite_keep a0 a1 a2 (s : State) : After (execBulkWrite a0 a1 a2 s) (fun t => t.mem = s.mem ∧ t.pending = s.pending) := by
  simp only [execBulkWrite, After, State.simple]; exact ⟨State.command_mem _ _ _ _ _ _ (fun t x ht => by rw [← ht]; (repeat' split) <;> first | trivial | (exact State.mirrored_mem _ _ _ _ _ (by simp)) | (exact State.kilnAsk_mem _ _ _ _ _) | simp), State.command_pending _ _ _ _ _ _ (fun t x ht => by rw [← ht]; (repeat' split) <;> first | trivial | (exact State.mirrored_pending _ _ _ _ _ (by simp)) | (exact State.kilnAsk_pending _ _ _ _ _) | simp)⟩
theorem execBulkClose_keep a0 a1 a2 (s : State) : After (execBulkClose a0 a1 a2 s) (fun t => t.mem = s.mem ∧ t.pending = s.pending) := by
  simp only [execBulkClose, After, State.simple]; exact ⟨State.command_mem _ _ _ _ _ _ (fun t x ht => by rw [← ht]; (repeat' split) <;> first | trivial | (exact State.mirrored_mem _ _ _ _ _ (by simp)) | (exact State.kilnAsk_mem _ _ _ _ _) | simp), State.command_pending _ _ _ _ _ _ (fun t x ht => by rw [← ht]; (repeat' split) <;> first | trivial | (exact State.mirrored_pending _ _ _ _ _ (by simp)) | (exact State.kilnAsk_pending _ _ _ _ _) | simp)⟩
theorem execBulkAbort_keep a0 (s : State) : After (execBulkAbort a0 s) (fun t => t.mem = s.mem ∧ t.pending = s.pending) := by
  simp only [execBulkAbort, After, State.simple]; exact ⟨State.command_mem _ _ _ _ _ _ (fun t x ht => by rw [← ht]; (repeat' split) <;> first | trivial | (exact State.mirrored_mem _ _ _ _ _ (by simp)) | (exact State.kilnAsk_mem _ _ _ _ _) | simp), State.command_pending _ _ _ _ _ _ (fun t x ht => by rw [← ht]; (repeat' split) <;> first | trivial | (exact State.mirrored_pending _ _ _ _ _ (by simp)) | (exact State.kilnAsk_pending _ _ _ _ _) | simp)⟩
theorem execBulkTimeout_keep (s : State) : After (execBulkTimeout s) (fun t => t.mem = s.mem ∧ t.pending = s.pending) := by
  unfold execBulkTimeout; (repeat' split) <;> simp [After]
theorem execPing_keep a0 (s : State) : After (execPing a0 s) (fun t => t.mem = s.mem ∧ t.pending = s.pending) := by
  simp only [execPing, After, State.simple]; exact ⟨State.command_mem _ _ _ _ _ _ (fun t x ht => by rw [← ht]; (repeat' split) <;> first | trivial | (exact State.mirrored_mem _ _ _ _ _ (by simp)) | (exact State.kilnAsk_mem _ _ _ _ _) | simp), State.command_pending _ _ _ _ _ _ (fun t x ht => by rw [← ht]; (repeat' split) <;> first | trivial | (exact State.mirrored_pending _ _ _ _ _ (by simp)) | (exact State.kilnAsk_pending _ _ _ _ _) | simp)⟩
theorem execGetIdentity_keep a0 (s : State) : After (execGetIdentity a0 s) (fun t => t.mem = s.mem ∧ t.pending = s.pending) := by
  simp only [execGetIdentity, After, State.simple]; exact ⟨State.command_mem _ _ _ _ _ _ (fun t x ht => by rw [← ht]; (repeat' split) <;> first | trivial | (exact State.mirrored_mem _ _ _ _ _ (by simp)) | (exact State.kilnAsk_mem _ _ _ _ _) | simp), State.command_pending _ _ _ _ _ _ (fun t x ht => by rw [← ht]; (repeat' split) <;> first | trivial | (exact State.mirrored_pending _ _ _ _ _ (by simp)) | (exact State.kilnAsk_pending _ _ _ _ _) | simp)⟩
theorem execGetState_keep a0 (s : State) : After (execGetState a0 s) (fun t => t.mem = s.mem ∧ t.pending = s.pending) := by
  simp only [execGetState, After, State.simple]; exact ⟨State.command_mem _ _ _ _ _ _ (fun t x ht => by rw [← ht]; (repeat' split) <;> first | trivial | (exact State.mirrored_mem _ _ _ _ _ (by simp)) | (exact State.kilnAsk_mem _ _ _ _ _) | simp), State.command_pending _ _ _ _ _ _ (fun t x ht => by rw [← ht]; (repeat' split) <;> first | trivial | (exact State.mirrored_pending _ _ _ _ _ (by simp)) | (exact State.kilnAsk_pending _ _ _ _ _) | simp)⟩
theorem execGetCertificate_keep a0 a1 (s : State) : After (execGetCertificate a0 a1 s) (fun t => t.mem = s.mem ∧ t.pending = s.pending) := by
  simp only [execGetCertificate, After, State.simple]; exact ⟨State.command_mem _ _ _ _ _ _ (fun t x ht => by rw [← ht]; (repeat' split) <;> first | trivial | (exact State.mirrored_mem _ _ _ _ _ (by simp)) | (exact State.kilnAsk_mem _ _ _ _ _) | simp), State.command_pending _ _ _ _ _ _ (fun t x ht => by rw [← ht]; (repeat' split) <;> first | trivial | (exact State.mirrored_pending _ _ _ _ _ (by simp)) | (exact State.kilnAsk_pending _ _ _ _ _) | simp)⟩
theorem execGetDraftInfo_keep a0 (s : State) : After (execGetDraftInfo a0 s) (fun t => t.mem = s.mem ∧ t.pending = s.pending) := by
  simp only [execGetDraftInfo, After, State.simple]; exact ⟨State.command_mem _ _ _ _ _ _ (fun t x ht => by rw [← ht]; (repeat' split) <;> first | trivial | (exact State.mirrored_mem _ _ _ _ _ (by simp)) | (exact State.kilnAsk_mem _ _ _ _ _) | simp), State.command_pending _ _ _ _ _ _ (fun t x ht => by rw [← ht]; (repeat' split) <;> first | trivial | (exact State.mirrored_pending _ _ _ _ _ (by simp)) | (exact State.kilnAsk_pending _ _ _ _ _) | simp)⟩
theorem execGoReady_keep a0 (s : State) : After (execGoReady a0 s) (fun t => t.mem = s.mem ∧ t.pending = s.pending) := by
  simp only [execGoReady, After, State.simple]; exact ⟨State.command_mem _ _ _ _ _ _ (fun t x ht => by rw [← ht]; (repeat' split) <;> first | trivial | (exact State.mirrored_mem _ _ _ _ _ (by simp)) | (exact State.kilnAsk_mem _ _ _ _ _) | simp), State.command_pending _ _ _ _ _ _ (fun t x ht => by rw [← ht]; (repeat' split) <;> first | trivial | (exact State.mirrored_pending _ _ _ _ _ (by simp)) | (exact State.kilnAsk_pending _ _ _ _ _) | simp)⟩
theorem execGoActive_keep a0 (s : State) : After (execGoActive a0 s) (fun t => t.mem = s.mem ∧ t.pending = s.pending) := by
  simp only [execGoActive, After, State.simple]; exact ⟨State.command_mem _ _ _ _ _ _ (fun t x ht => by rw [← ht]; (repeat' split) <;> first | trivial | (exact State.mirrored_mem _ _ _ _ _ (by simp)) | (exact State.kilnAsk_mem _ _ _ _ _) | simp), State.command_pending _ _ _ _ _ _ (fun t x ht => by rw [← ht]; (repeat' split) <;> first | trivial | (exact State.mirrored_pending _ _ _ _ _ (by simp)) | (exact State.kilnAsk_pending _ _ _ _ _) | simp)⟩
theorem execGoSafe_keep a0 (s : State) : After (execGoSafe a0 s) (fun t => t.mem = s.mem ∧ t.pending = s.pending) := by
  simp only [execGoSafe, After, State.simple]; exact ⟨State.command_mem _ _ _ _ _ _ (fun t x ht => by rw [← ht]; (repeat' split) <;> first | trivial | (exact State.mirrored_mem _ _ _ _ _ (by simp)) | (exact State.kilnAsk_mem _ _ _ _ _) | simp), State.command_pending _ _ _ _ _ _ (fun t x ht => by rw [← ht]; (repeat' split) <;> first | trivial | (exact State.mirrored_pending _ _ _ _ _ (by simp)) | (exact State.kilnAsk_pending _ _ _ _ _) | simp)⟩
theorem execLeaveSafe_keep a0 (s : State) : After (execLeaveSafe a0 s) (fun t => t.mem = s.mem ∧ t.pending = s.pending) := by
  simp only [execLeaveSafe, After, State.simple]; exact ⟨State.command_mem _ _ _ _ _ _ (fun t x ht => by rw [← ht]; (repeat' split) <;> simp), State.command_pending _ _ _ _ _ _ (fun t x ht => by rw [← ht]; (repeat' split) <;> simp)⟩
theorem execGoStandby_keep a0 (s : State) : After (execGoStandby a0 s) (fun t => t.mem = s.mem ∧ t.pending = s.pending) := by
  simp only [execGoStandby, After, State.simple]; exact ⟨State.command_mem _ _ _ _ _ _ (fun t x ht => by rw [← ht]; (repeat' split) <;> simp), State.command_pending _ _ _ _ _ _ (fun t x ht => by rw [← ht]; (repeat' split) <;> simp)⟩
theorem execEnterService_keep a0 (s : State) : After (execEnterService a0 s) (fun t => t.mem = s.mem ∧ t.pending = s.pending) := by
  simp only [execEnterService, After, State.simple]; exact ⟨State.command_mem _ _ _ _ _ _ (fun t x ht => by rw [← ht]; (repeat' split) <;> simp), State.command_pending _ _ _ _ _ _ (fun t x ht => by rw [← ht]; (repeat' split) <;> simp)⟩
theorem execRestart_keep a0 a1 (s : State) : After (execRestart a0 a1 s) (fun t => t.mem = s.mem ∧ t.pending = s.pending) := by
  simp only [execRestart, After, State.simple]; exact ⟨State.command_mem _ _ _ _ _ _ (fun t x ht => by rw [← ht]; (repeat' split) <;> first | trivial | (exact State.mirrored_mem _ _ _ _ _ (by simp)) | (exact State.kilnAsk_mem _ _ _ _ _) | simp), State.command_pending _ _ _ _ _ _ (fun t x ht => by rw [← ht]; (repeat' split) <;> first | trivial | (exact State.mirrored_pending _ _ _ _ _ (by simp)) | (exact State.kilnAsk_pending _ _ _ _ _) | simp)⟩
theorem execFirmwareActivate_keep a0 a1 a2 (s : State) : After (execFirmwareActivate a0 a1 a2 s) (fun t => t.mem = s.mem ∧ t.pending = s.pending) := by
  simp only [execFirmwareActivate, After, State.simple]; exact ⟨State.command_mem _ _ _ _ _ _ (fun t x ht => by rw [← ht]; (repeat' split) <;> simp), State.command_pending _ _ _ _ _ _ (fun t x ht => by rw [← ht]; (repeat' split) <;> simp)⟩
theorem execAnchorAdd_keep a0 a1 a2 a3 a4 a5 (s : State) : After (execAnchorAdd a0 a1 a2 a3 a4 a5 s) (fun t => t.mem = s.mem ∧ t.pending = s.pending) := by
  simp only [execAnchorAdd, After, State.simple]; exact ⟨State.command_mem _ _ _ _ _ _ (fun t x ht => by rw [← ht]; (repeat' split) <;> simp), State.command_pending _ _ _ _ _ _ (fun t x ht => by rw [← ht]; (repeat' split) <;> simp)⟩
theorem execAnchorRemove_keep a0 a1 a2 a3 (s : State) : After (execAnchorRemove a0 a1 a2 a3 s) (fun t => t.mem = s.mem ∧ t.pending = s.pending) := by
  simp only [execAnchorRemove, After, State.simple]; exact ⟨State.command_mem _ _ _ _ _ _ (fun t x ht => by rw [← ht]; (repeat' split) <;> simp), State.command_pending _ _ _ _ _ _ (fun t x ht => by rw [← ht]; (repeat' split) <;> simp)⟩
theorem execAnchorList_keep a0 (s : State) : After (execAnchorList a0 s) (fun t => t.mem = s.mem ∧ t.pending = s.pending) := by
  simp only [execAnchorList, After, State.simple]; exact ⟨State.command_mem _ _ _ _ _ _ (fun t x ht => by rw [← ht]; (repeat' split) <;> first | trivial | (exact State.mirrored_mem _ _ _ _ _ (by simp)) | (exact State.kilnAsk_mem _ _ _ _ _) | simp), State.command_pending _ _ _ _ _ _ (fun t x ht => by rw [← ht]; (repeat' split) <;> first | trivial | (exact State.mirrored_pending _ _ _ _ _ (by simp)) | (exact State.kilnAsk_pending _ _ _ _ _) | simp)⟩
theorem execLedgerInfo_keep a0 (s : State) : After (execLedgerInfo a0 s) (fun t => t.mem = s.mem ∧ t.pending = s.pending) := by
  simp only [execLedgerInfo, After, State.simple]; exact ⟨State.command_mem _ _ _ _ _ _ (fun t x ht => by rw [← ht]; (repeat' split) <;> first | trivial | (exact State.mirrored_mem _ _ _ _ _ (by simp)) | (exact State.kilnAsk_mem _ _ _ _ _) | simp), State.command_pending _ _ _ _ _ _ (fun t x ht => by rw [← ht]; (repeat' split) <;> first | trivial | (exact State.mirrored_pending _ _ _ _ _ (by simp)) | (exact State.kilnAsk_pending _ _ _ _ _) | simp)⟩
theorem execLedgerRead_keep a0 a1 a2 (s : State) : After (execLedgerRead a0 a1 a2 s) (fun t => t.mem = s.mem ∧ t.pending = s.pending) := by
  simp only [execLedgerRead, After, State.simple]; exact ⟨State.command_mem _ _ _ _ _ _ (fun t x ht => by rw [← ht]; (repeat' split) <;> first | trivial | (exact State.mirrored_mem _ _ _ _ _ (by simp)) | (exact State.kilnAsk_mem _ _ _ _ _) | simp), State.command_pending _ _ _ _ _ _ (fun t x ht => by rw [← ht]; (repeat' split) <;> first | trivial | (exact State.mirrored_pending _ _ _ _ _ (by simp)) | (exact State.kilnAsk_pending _ _ _ _ _) | simp)⟩
theorem execRecStatus_keep a0 (s : State) : After (execRecStatus a0 s) (fun t => t.mem = s.mem ∧ t.pending = s.pending) := by
  simp only [execRecStatus, After, State.simple]; exact ⟨State.command_mem _ _ _ _ _ _ (fun t x ht => by rw [← ht]; (repeat' split) <;> first | trivial | (exact State.mirrored_mem _ _ _ _ _ (by simp)) | (exact State.kilnAsk_mem _ _ _ _ _) | simp), State.command_pending _ _ _ _ _ _ (fun t x ht => by rw [← ht]; (repeat' split) <;> first | trivial | (exact State.mirrored_pending _ _ _ _ _ (by simp)) | (exact State.kilnAsk_pending _ _ _ _ _) | simp)⟩
theorem execRecRead_keep a0 a1 a2 a3 a4 (s : State) : After (execRecRead a0 a1 a2 a3 a4 s) (fun t => t.mem = s.mem ∧ t.pending = s.pending) := by
  simp only [execRecRead, After, State.simple]; exact ⟨State.command_mem _ _ _ _ _ _ (fun t x ht => by rw [← ht]; (repeat' split) <;> first | trivial | (exact State.mirrored_mem _ _ _ _ _ (by simp)) | (exact State.kilnAsk_mem _ _ _ _ _) | simp), State.command_pending _ _ _ _ _ _ (fun t x ht => by rw [← ht]; (repeat' split) <;> first | trivial | (exact State.mirrored_pending _ _ _ _ _ (by simp)) | (exact State.kilnAsk_pending _ _ _ _ _) | simp)⟩
theorem execRecFreeze_keep a0 a1 a2 a3 a4 (s : State) : After (execRecFreeze a0 a1 a2 a3 a4 s) (fun t => t.mem = s.mem ∧ t.pending = s.pending) := by
  have hf : ∀ (t : State) lo hi r, t.manualFreeze lo hi = some r → r.2.mem = t.mem ∧ r.2.pending = t.pending := by
    intro t lo hi r hr
    unfold State.manualFreeze at hr
    dsimp only at hr
    split at hr
    · cases hr
    · split at hr
      · rw [← Option.some.inj hr]; simp
      · cases hr
  unfold execRecFreeze; dsimp only
  refine ⟨State.command_mem _ _ _ _ _ _ (fun t x ht => ?_), State.command_pending _ _ _ _ _ _ (fun t x ht => ?_)⟩ <;>
    (rw [← ht]; split)
  · rename_i r hr; exact (hf _ _ _ _ hr).1
  · trivial
  · rename_i r hr; exact (hf _ _ _ _ hr).2
  · trivial
theorem execRecRelease_keep a0 a1 (s : State) : After (execRecRelease a0 a1 s) (fun t => t.mem = s.mem ∧ t.pending = s.pending) := by
  simp only [execRecRelease, After, State.simple]; exact ⟨State.command_mem _ _ _ _ _ _ (fun t x ht => by rw [← ht]; (repeat' split) <;> first | trivial | (exact State.mirrored_mem _ _ _ _ _ (by simp)) | (exact State.kilnAsk_mem _ _ _ _ _) | simp), State.command_pending _ _ _ _ _ _ (fun t x ht => by rw [← ht]; (repeat' split) <;> first | trivial | (exact State.mirrored_pending _ _ _ _ _ (by simp)) | (exact State.kilnAsk_pending _ _ _ _ _) | simp)⟩
theorem execTelemConfig_keep a0 a1 a2 a3 a4 a5 a6 a7 (s : State) : After (execTelemConfig a0 a1 a2 a3 a4 a5 a6 a7 s) (fun t => t.mem = s.mem ∧ t.pending = s.pending) := by
  simp only [execTelemConfig, After, State.simple]; exact ⟨State.command_mem _ _ _ _ _ _ (fun t x ht => by rw [← ht]; (repeat' split) <;> first | trivial | (exact State.mirrored_mem _ _ _ _ _ (by simp)) | (exact State.kilnAsk_mem _ _ _ _ _) | simp), State.command_pending _ _ _ _ _ _ (fun t x ht => by rw [← ht]; (repeat' split) <;> first | trivial | (exact State.mirrored_pending _ _ _ _ _ (by simp)) | (exact State.kilnAsk_pending _ _ _ _ _) | simp)⟩
theorem execMemRead_keep a0 a1 a2 (s : State) : After (execMemRead a0 a1 a2 s) (fun t => t.mem = s.mem ∧ t.pending = s.pending) := by
  simp only [execMemRead, After, State.simple]; exact ⟨State.command_mem _ _ _ _ _ _ (fun t x ht => by rw [← ht]; (repeat' split) <;> first | trivial | (exact State.mirrored_mem _ _ _ _ _ (by simp)) | (exact State.kilnAsk_mem _ _ _ _ _) | simp), State.command_pending _ _ _ _ _ _ (fun t x ht => by rw [← ht]; (repeat' split) <;> first | trivial | (exact State.mirrored_pending _ _ _ _ _ (by simp)) | (exact State.kilnAsk_pending _ _ _ _ _) | simp)⟩
theorem execPairStatus_keep a0 (s : State) : After (execPairStatus a0 s) (fun t => t.mem = s.mem ∧ t.pending = s.pending) := by
  simp only [execPairStatus, After, State.simple]; exact ⟨State.command_mem _ _ _ _ _ _ (fun t x ht => by rw [← ht]; (repeat' split) <;> first | trivial | (exact State.mirrored_mem _ _ _ _ _ (by simp)) | (exact State.kilnAsk_mem _ _ _ _ _) | simp), State.command_pending _ _ _ _ _ _ (fun t x ht => by rw [← ht]; (repeat' split) <;> first | trivial | (exact State.mirrored_pending _ _ _ _ _ (by simp)) | (exact State.kilnAsk_pending _ _ _ _ _) | simp)⟩
theorem execGnssRetrain_keep a0 a1 (s : State) : After (execGnssRetrain a0 a1 s) (fun t => t.mem = s.mem ∧ t.pending = s.pending) := by
  simp only [execGnssRetrain, After, State.simple]; exact ⟨State.command_mem _ _ _ _ _ _ (fun t x ht => by rw [← ht]; (repeat' split) <;> first | trivial | (exact State.mirrored_mem _ _ _ _ _ (by simp)) | (exact State.kilnAsk_mem _ _ _ _ _) | simp), State.command_pending _ _ _ _ _ _ (fun t x ht => by rw [← ht]; (repeat' split) <;> first | trivial | (exact State.mirrored_pending _ _ _ _ _ (by simp)) | (exact State.kilnAsk_pending _ _ _ _ _) | simp)⟩
theorem execTimeStatus_keep a0 (s : State) : After (execTimeStatus a0 s) (fun t => t.mem = s.mem ∧ t.pending = s.pending) := by
  simp only [execTimeStatus, After, State.simple]; exact ⟨State.command_mem _ _ _ _ _ _ (fun t x ht => by rw [← ht]; (repeat' split) <;> first | trivial | (exact State.mirrored_mem _ _ _ _ _ (by simp)) | (exact State.kilnAsk_mem _ _ _ _ _) | simp), State.command_pending _ _ _ _ _ _ (fun t x ht => by rw [← ht]; (repeat' split) <;> first | trivial | (exact State.mirrored_pending _ _ _ _ _ (by simp)) | (exact State.kilnAsk_pending _ _ _ _ _) | simp)⟩
theorem execTimeSourceUse_keep a0 a1 a2 (s : State) : After (execTimeSourceUse a0 a1 a2 s) (fun t => t.mem = s.mem ∧ t.pending = s.pending) := by
  simp only [execTimeSourceUse, After, State.simple]; exact ⟨State.command_mem _ _ _ _ _ _ (fun t x ht => by rw [← ht]; (repeat' split) <;> first | trivial | (exact State.mirrored_mem _ _ _ _ _ (by simp)) | (exact State.kilnAsk_mem _ _ _ _ _) | simp), State.command_pending _ _ _ _ _ _ (fun t x ht => by rw [← ht]; (repeat' split) <;> first | trivial | (exact State.mirrored_pending _ _ _ _ _ (by simp)) | (exact State.kilnAsk_pending _ _ _ _ _) | simp)⟩
theorem execTimeReestablish_keep a0 (s : State) : After (execTimeReestablish a0 s) (fun t => t.mem = s.mem ∧ t.pending = s.pending) := by
  simp only [execTimeReestablish, After, State.simple]; exact ⟨State.command_mem _ _ _ _ _ _ (fun t x ht => by rw [← ht]; (repeat' split) <;> first | trivial | (exact State.mirrored_mem _ _ _ _ _ (by simp)) | (exact State.kilnAsk_mem _ _ _ _ _) | simp), State.command_pending _ _ _ _ _ _ (fun t x ht => by rw [← ht]; (repeat' split) <;> first | trivial | (exact State.mirrored_pending _ _ _ _ _ (by simp)) | (exact State.kilnAsk_pending _ _ _ _ _) | simp)⟩
theorem execVinOutOfBand_keep (s : State) : After (execVinOutOfBand s) (fun t => t.mem = s.mem ∧ t.pending = s.pending) := by
  unfold execVinOutOfBand; (repeat' split) <;> simp [After]
theorem execHoldCapacitanceMeasure_keep a0 (s : State) : After (execHoldCapacitanceMeasure a0 s) (fun t => t.mem = s.mem ∧ t.pending = s.pending) := by
  unfold execHoldCapacitanceMeasure; simp [After]
theorem execHoldChargeComplete_keep a0 (s : State) : After (execHoldChargeComplete a0 s) (fun t => t.mem = s.mem ∧ t.pending = s.pending) := by
  unfold execHoldChargeComplete; simp [After]
theorem execHoldChargeTimeout_keep (s : State) : After (execHoldChargeTimeout s) (fun t => t.mem = s.mem ∧ t.pending = s.pending) := by
  unfold execHoldChargeTimeout; simp [After]
theorem execPowerFailWarning_keep (s : State) : After (execPowerFailWarning s) (fun t => t.mem = s.mem ∧ t.pending = s.pending) := by
  unfold execPowerFailWarning; simp [After]
theorem execWarningWithdrawn_keep (s : State) : After (execWarningWithdrawn s) (fun t => t.mem = s.mem ∧ t.pending = s.pending) := by
  unfold execWarningWithdrawn; simp [After]
theorem execFlushComplete_keep (s : State) : After (execFlushComplete s) (fun t => t.mem = s.mem ∧ t.pending = s.pending) := by
  unfold execFlushComplete; simp [After]
theorem execPowerUp_keep a0 (s : State) : After (execPowerUp a0 s) (fun t => t.mem = s.mem ∧ t.pending = s.pending) := by
  unfold execPowerUp; simp [After]
theorem execRstNLow_keep (s : State) : After (execRstNLow s) (fun t => t.mem = s.mem ∧ t.pending = s.pending) := by
  unfold execRstNLow; simp [After]
theorem execPmicWatchdogExpiry_keep (s : State) : After (execPmicWatchdogExpiry s) (fun t => t.mem = s.mem ∧ t.pending = s.pending) := by
  unfold execPmicWatchdogExpiry; simp [After]
theorem execRailFault_keep a0 (s : State) : After (execRailFault a0 s) (fun t => t.mem = s.mem ∧ t.pending = s.pending) := by
  unfold execRailFault; (repeat' split) <;> simp [After]
theorem execThermalShutdown_keep (s : State) : After (execThermalShutdown s) (fun t => t.mem = s.mem ∧ t.pending = s.pending) := by
  unfold execThermalShutdown; (repeat' split) <;> simp [After]
theorem execThermalRecovery_keep a0 a1 a2 a3 a4 (s : State) : After (execThermalRecovery a0 a1 a2 a3 a4 s) (fun t => t.mem = s.mem ∧ t.pending = s.pending) := by
  unfold execThermalRecovery; simp [After]
theorem execBootVerifyComplete_keep a0 a1 a2 a3 (s : State) : After (execBootVerifyComplete a0 a1 a2 a3 s) (fun t => t.mem = s.mem ∧ t.pending = s.pending) := by
  unfold execBootVerifyComplete; dsimp only; (repeat' split) <;> simp_all [After]
theorem execSelftestComplete_keep a0 a1 a2 a3 a4 a5 (s : State) : After (execSelftestComplete a0 a1 a2 a3 a4 a5 s) (fun t => t.mem = s.mem ∧ t.pending = s.pending) := by
  unfold execSelftestComplete; simp [After]
theorem execClientHello_keep a0 a1 a2 (s : State) : After (execClientHello a0 a1 a2 s) (fun t => t.mem = s.mem ∧ t.pending = s.pending) := by
  unfold execClientHello; simp [After]
theorem execDtlsHandshakeComplete_keep a0 a1 a2 a3 a4 a5 a6 a7 (s : State) : After (execDtlsHandshakeComplete a0 a1 a2 a3 a4 a5 a6 a7 s) (fun t => t.mem = s.mem ∧ t.pending = s.pending) := by
  unfold execDtlsHandshakeComplete; dsimp only; (repeat' split) <;> simp_all [After]
theorem execCloseNotify_keep a0 (s : State) : After (execCloseNotify a0 s) (fun t => t.mem = s.mem ∧ t.pending = s.pending) := by
  unfold execCloseNotify; simp [After]
theorem execCommandSessionTimeout_keep a0 (s : State) : After (execCommandSessionTimeout a0 s) (fun t => t.mem = s.mem ∧ t.pending = s.pending) := by
  unfold execCommandSessionTimeout; (repeat' split) <;> simp [After]
theorem execSafetyUnlock_keep a0 a1 (s : State) : After (execSafetyUnlock a0 a1 s) (fun t => t.mem = s.mem ∧ t.pending = s.pending) := by
  simp only [execSafetyUnlock, After, State.simple]; exact ⟨State.command_mem _ _ _ _ _ _ (fun t x ht => by rw [← ht]; (repeat' split) <;> first | trivial | (exact State.mirrored_mem _ _ _ _ _ (by simp)) | (exact State.kilnAsk_mem _ _ _ _ _) | simp), State.command_pending _ _ _ _ _ _ (fun t x ht => by rw [← ht]; (repeat' split) <;> first | trivial | (exact State.mirrored_pending _ _ _ _ _ (by simp)) | (exact State.kilnAsk_pending _ _ _ _ _) | simp)⟩
theorem execSafetyLock_keep a0 (s : State) : After (execSafetyLock a0 s) (fun t => t.mem = s.mem ∧ t.pending = s.pending) := by
  simp only [execSafetyLock, After, State.simple]; exact ⟨State.command_mem _ _ _ _ _ _ (fun t x ht => by rw [← ht]; (repeat' split) <;> first | trivial | (exact State.mirrored_mem _ _ _ _ _ (by simp)) | (exact State.kilnAsk_mem _ _ _ _ _) | simp), State.command_pending _ _ _ _ _ _ (fun t x ht => by rw [← ht]; (repeat' split) <;> first | trivial | (exact State.mirrored_pending _ _ _ _ _ (by simp)) | (exact State.kilnAsk_pending _ _ _ _ _) | simp)⟩
theorem execSafetyPasswordSet_keep a0 a1 a2 a3 (s : State) : After (execSafetyPasswordSet a0 a1 a2 a3 s) (fun t => t.mem = s.mem ∧ t.pending = s.pending) := by
  simp only [execSafetyPasswordSet, After, State.simple]; exact ⟨State.command_mem _ _ _ _ _ _ (fun t x ht => by rw [← ht]; (repeat' split) <;> simp), State.command_pending _ _ _ _ _ _ (fun t x ht => by rw [← ht]; (repeat' split) <;> simp)⟩
theorem execSafetyPasswordReset_keep a0 a1 (s : State) : After (execSafetyPasswordReset a0 a1 s) (fun t => t.mem = s.mem ∧ t.pending = s.pending) := by
  simp only [execSafetyPasswordReset, After, State.simple]; exact ⟨State.command_mem _ _ _ _ _ _ (fun t x ht => by rw [← ht]; (repeat' split) <;> simp), State.command_pending _ _ _ _ _ _ (fun t x ht => by rw [← ht]; (repeat' split) <;> simp)⟩
theorem execSafetyExpiry_keep a0 (s : State) : After (execSafetyExpiry a0 s) (fun t => t.mem = s.mem ∧ t.pending = s.pending) := by
  unfold execSafetyExpiry; (repeat' split) <;> simp [After]
theorem execLockoutExpiry_keep (s : State) : After (execLockoutExpiry s) (fun t => t.mem = s.mem ∧ t.pending = s.pending) := by
  unfold execLockoutExpiry; (repeat' split) <;> simp [After]
theorem execSvcEnLow_keep (s : State) : After (execSvcEnLow s) (fun t => t.mem = s.mem ∧ t.pending = s.pending) := by
  unfold execSvcEnLow; simp [After]
theorem execUnknownOpcode_keep a0 a1 (s : State) : After (execUnknownOpcode a0 a1 s) (fun t => t.mem = s.mem ∧ t.pending = s.pending) := by
  unfold execUnknownOpcode
  split
  · simp only [After]; constructor <;> ((repeat' split) <;> simp)
  · split
    · exact ⟨rfl, rfl⟩
    · exact ⟨State.command_mem _ _ _ _ _ _ (fun t x ht => ht), State.command_pending _ _ _ _ _ _ (fun t x ht => ht)⟩
theorem execTripCheck_keep a0 a1 (s : State) : After (execTripCheck a0 a1 s) (fun t => t.mem = s.mem ∧ t.pending = s.pending) := by
  unfold execTripCheck; simp [After]
theorem execMonCharacterReceive_keep a0 (s : State) : After (execMonCharacterReceive a0 s) (fun t => t.mem = s.mem ∧ t.pending = s.pending) := by
  unfold execMonCharacterReceive; simp [After]
theorem execMonHelp_keep (s : State) : After (execMonHelp s) (fun t => t.mem = s.mem ∧ t.pending = s.pending) := by
  exact ⟨State.monitor_proj State.mem (by simp) _ _ _ (fun a => monPlain_keeps State.mem _ _ _ _), State.monitor_proj State.pending (by simp) _ _ _ (fun a => monPlain_keeps State.pending _ _ _ _)⟩
theorem execMonId_keep (s : State) : After (execMonId s) (fun t => t.mem = s.mem ∧ t.pending = s.pending) := by
  exact ⟨State.monitor_proj State.mem (by simp) _ _ _ (fun a => monPlain_keeps State.mem _ _ _ _), State.monitor_proj State.pending (by simp) _ _ _ (fun a => monPlain_keeps State.pending _ _ _ _)⟩
theorem execMonSt_keep (s : State) : After (execMonSt s) (fun t => t.mem = s.mem ∧ t.pending = s.pending) := by
  exact ⟨State.monitor_proj State.mem (by simp) _ _ _ (fun a => monPlain_keeps State.mem _ _ _ _), State.monitor_proj State.pending (by simp) _ _ _ (fun a => monPlain_keeps State.pending _ _ _ _)⟩
theorem execMonTime_keep (s : State) : After (execMonTime s) (fun t => t.mem = s.mem ∧ t.pending = s.pending) := by
  exact ⟨State.monitor_proj State.mem (by simp) _ _ _ (fun a => monPlain_keeps State.mem _ _ _ _), State.monitor_proj State.pending (by simp) _ _ _ (fun a => monPlain_keeps State.pending _ _ _ _)⟩
theorem execMonEv_keep (s : State) : After (execMonEv s) (fun t => t.mem = s.mem ∧ t.pending = s.pending) := by
  constructor
  · refine State.monitor_proj State.mem (by simp) _ _ _ (fun a => ?_)
    (repeat' split) <;> first | trivial | rfl
  · refine State.monitor_proj State.pending (by simp) _ _ _ (fun a => ?_)
    (repeat' split) <;> first | trivial | rfl
theorem execMonRec_keep (s : State) : After (execMonRec s) (fun t => t.mem = s.mem ∧ t.pending = s.pending) := by
  exact ⟨State.monitor_proj State.mem (by simp) _ _ _ (fun a => monPlain_keeps State.mem _ _ _ _), State.monitor_proj State.pending (by simp) _ _ _ (fun a => monPlain_keeps State.pending _ _ _ _)⟩
theorem execMonRd_keep (s : State) : After (execMonRd s) (fun t => t.mem = s.mem ∧ t.pending = s.pending) := by
  constructor
  · refine State.monitor_proj State.mem (by simp) _ _ _ (fun a => ?_)
    unfold State.monRd; (repeat' split) <;> simp [MonResult.Keeps]
  · refine State.monitor_proj State.pending (by simp) _ _ _ (fun a => ?_)
    unfold State.monRd; (repeat' split) <;> simp [MonResult.Keeps]
theorem execMonLog_keep (s : State) : After (execMonLog s) (fun t => t.mem = s.mem ∧ t.pending = s.pending) := by
  constructor
  · refine State.monitor_proj State.mem (by simp) _ _ _ (fun a => ?_)
    unfold State.monLog; (repeat' split) <;> simp [MonResult.Keeps]
  · refine State.monitor_proj State.pending (by simp) _ _ _ (fun a => ?_)
    unfold State.monLog; (repeat' split) <;> simp [MonResult.Keeps]
theorem execMonUnknownCommand_keep (s : State) : After (execMonUnknownCommand s) (fun t => t.mem = s.mem ∧ t.pending = s.pending) := by
  unfold execMonUnknownCommand; (repeat' split) <;> simp [After]
theorem execPickTick_keep a0 a1 a2 a3 a4 a5 (s : State) : After (execPickTick a0 a1 a2 a3 a4 a5 s) (fun t => t.mem = s.mem ∧ t.pending = s.pending) := by
  unfold execPickTick; simp [After]
theorem execBeatEdge_keep (s : State) : After (execBeatEdge s) (fun t => t.mem = s.mem ∧ t.pending = s.pending) := by
  unfold execBeatEdge; simp [After]
theorem execRecord_keep a0 (s : State) : After (execRecord a0 s) (fun t => t.mem = s.mem ∧ t.pending = s.pending) := by
  unfold execRecord; dsimp only; (repeat' split) <;> simp_all [After]
theorem execClockComparison_keep a0 a1 (s : State) : After (execClockComparison a0 a1 s) (fun t => t.mem = s.mem ∧ t.pending = s.pending) := by
  unfold execClockComparison; simp [After]

theorem execHoldUpEnd_keep (s : State) : After (execHoldUpEnd s) (fun t => (t.mem = s.mem ∨ t.mem = []) ∧ t.pending = s.pending) := by
  unfold execHoldUpEnd
  simp only [After]
  split <;> simp
theorem execMemWrite_pending a0 a1 a2 a3 (s : State) : After (execMemWrite a0 a1 a2 a3 s) (fun t => t.pending = s.pending) := by
  have h := State.command_pending s a0 (cmdSpec 0x0902) (if writable a1 a2.length then none else some 0x1005) (fun _ => none)
    (fun t x => if a3 then .done (t.writeOutside (t.levelOf x) x.actor a1 a2) [] else .refuse 0x5002 0)
    (fun t x ht => by rw [← ht]; (repeat' split) <;> simp)
  unfold execMemWrite; simp only [After]
  split
  · exact (State.blockedWrite_keep _).2.trans h
  · exact h
theorem execMonWr_pending a0 (s : State) : After (execMonWr a0 s) (fun t => t.pending = s.pending) := by
  have h : (s.monitor kwWr (monWr a0)).pending = s.pending := by
    refine State.monitor_proj State.pending (by simp) _ _ _ (fun a => ?_)
    unfold monWr; (repeat' split) <;> simp [MonResult.Keeps]
  unfold execMonWr; simp only [After]
  split
  · exact (State.blockedWrite_keep _).2.trans h
  · exact h

end Sys2Proof.Machine
end

