-- ==== Sys2Proof/Laws/Ops.lean ====
section
/-! SUPPORT. Everything that the shared operations can do: what leaves the module, events, records, replies, ledger entries. -/

namespace Sys2Proof.Machine

@[simp] theorem State.emit_frame (s : State) a0 :
    (State.emit s a0).sys = s.sys ∧ (State.emit s a0).draft = s.draft ∧ (State.emit s a0).staged = s.staged ∧
    (State.emit s a0).prevDraft = s.prevDraft ∧ (State.emit s a0).clk = s.clk ∧ (State.emit s a0).warp = s.warp ∧
    (State.emit s a0).heddle = s.heddle ∧ (State.emit s a0).obs = s.obs ∧ (State.emit s a0).wheel = s.wheel ∧
    (State.emit s a0).guide = s.guide ∧ (State.emit s a0).alloc = s.alloc ∧ (State.emit s a0).plant = s.plant ∧
    (State.emit s a0).loop = s.loop ∧ (State.emit s a0).rio = s.rio ∧ (State.emit s a0).adc = s.adc ∧
    (State.emit s a0).shuttle = s.shuttle ∧ (State.emit s a0).mirror = s.mirror ∧ (State.emit s a0).kiln = s.kiln ∧
    (State.emit s a0).kport = s.kport ∧ (State.emit s a0).copies = s.copies ∧ (State.emit s a0).copySeq = s.copySeq ∧
    (State.emit s a0).shown = s.shown ∧ (State.emit s a0).time = s.time ∧ (State.emit s a0).gnss = s.gnss ∧
    (State.emit s a0).sess = s.sess ∧ (State.emit s a0).field = s.field ∧ (State.emit s a0).glaze = s.glaze ∧
    (State.emit s a0).cmd = s.cmd ∧ (State.emit s a0).sec = s.sec ∧ (State.emit s a0).sherd = s.sherd ∧
    (State.emit s a0).mon = s.mon ∧ (State.emit s a0).pmic = s.pmic ∧ (State.emit s a0).events = s.events ∧
    (State.emit s a0).limits = s.limits ∧ (State.emit s a0).free = s.free := by
  simp only [State.emit, and_self]
@[simp] theorem State.emitAll_frame (s : State) a0 :
    (State.emitAll s a0).sys = s.sys ∧ (State.emitAll s a0).draft = s.draft ∧ (State.emitAll s a0).staged = s.staged ∧
    (State.emitAll s a0).prevDraft = s.prevDraft ∧ (State.emitAll s a0).clk = s.clk ∧ (State.emitAll s a0).warp = s.warp ∧
    (State.emitAll s a0).heddle = s.heddle ∧ (State.emitAll s a0).obs = s.obs ∧ (State.emitAll s a0).wheel = s.wheel ∧
    (State.emitAll s a0).guide = s.guide ∧ (State.emitAll s a0).alloc = s.alloc ∧ (State.emitAll s a0).plant = s.plant ∧
    (State.emitAll s a0).loop = s.loop ∧ (State.emitAll s a0).rio = s.rio ∧ (State.emitAll s a0).adc = s.adc ∧
    (State.emitAll s a0).shuttle = s.shuttle ∧ (State.emitAll s a0).mirror = s.mirror ∧ (State.emitAll s a0).kiln = s.kiln ∧
    (State.emitAll s a0).kport = s.kport ∧ (State.emitAll s a0).copies = s.copies ∧
    (State.emitAll s a0).copySeq = s.copySeq ∧ (State.emitAll s a0).shown = s.shown ∧ (State.emitAll s a0).time = s.time ∧
    (State.emitAll s a0).gnss = s.gnss ∧ (State.emitAll s a0).sess = s.sess ∧ (State.emitAll s a0).field = s.field ∧
    (State.emitAll s a0).glaze = s.glaze ∧ (State.emitAll s a0).cmd = s.cmd ∧ (State.emitAll s a0).sec = s.sec ∧
    (State.emitAll s a0).sherd = s.sherd ∧ (State.emitAll s a0).mon = s.mon ∧ (State.emitAll s a0).pmic = s.pmic ∧
    (State.emitAll s a0).events = s.events ∧ (State.emitAll s a0).limits = s.limits ∧ (State.emitAll s a0).free = s.free := by
  simp [State.emitAll]
@[simp] theorem State.raiseRec_frame (s : State) a0 :
    (State.raiseRec s a0).sys = s.sys ∧ (State.raiseRec s a0).draft = s.draft ∧ (State.raiseRec s a0).staged = s.staged ∧
    (State.raiseRec s a0).prevDraft = s.prevDraft ∧ (State.raiseRec s a0).clk = s.clk ∧ (State.raiseRec s a0).warp = s.warp ∧
    (State.raiseRec s a0).heddle = s.heddle ∧ (State.raiseRec s a0).obs = s.obs ∧ (State.raiseRec s a0).wheel = s.wheel ∧
    (State.raiseRec s a0).guide = s.guide ∧ (State.raiseRec s a0).alloc = s.alloc ∧ (State.raiseRec s a0).plant = s.plant ∧
    (State.raiseRec s a0).loop = s.loop ∧ (State.raiseRec s a0).rio = s.rio ∧ (State.raiseRec s a0).adc = s.adc ∧
    (State.raiseRec s a0).shuttle = s.shuttle ∧ (State.raiseRec s a0).mirror = s.mirror ∧
    (State.raiseRec s a0).kiln = s.kiln ∧ (State.raiseRec s a0).kport = s.kport ∧ (State.raiseRec s a0).copies = s.copies ∧
    (State.raiseRec s a0).copySeq = s.copySeq ∧ (State.raiseRec s a0).shown = s.shown ∧ (State.raiseRec s a0).time = s.time ∧
    (State.raiseRec s a0).gnss = s.gnss ∧ (State.raiseRec s a0).sess = s.sess ∧ (State.raiseRec s a0).field = s.field ∧
    (State.raiseRec s a0).glaze = s.glaze ∧ (State.raiseRec s a0).cmd = s.cmd ∧ (State.raiseRec s a0).sec = s.sec ∧
    (State.raiseRec s a0).mon = s.mon ∧ (State.raiseRec s a0).pmic = s.pmic ∧ (State.raiseRec s a0).limits = s.limits ∧
    (State.raiseRec s a0).free = s.free := by
  simp [State.raiseRec]
@[simp] theorem State.raisePlain_frame (s : State) a0 a1 :
    (State.raisePlain s a0 a1).sys = s.sys ∧ (State.raisePlain s a0 a1).draft = s.draft ∧
    (State.raisePlain s a0 a1).staged = s.staged ∧ (State.raisePlain s a0 a1).prevDraft = s.prevDraft ∧
    (State.raisePlain s a0 a1).clk = s.clk ∧ (State.raisePlain s a0 a1).warp = s.warp ∧
    (State.raisePlain s a0 a1).heddle = s.heddle ∧ (State.raisePlain s a0 a1).obs = s.obs ∧
    (State.raisePlain s a0 a1).wheel = s.wheel ∧ (State.raisePlain s a0 a1).guide = s.guide ∧
    (State.raisePlain s a0 a1).alloc = s.alloc ∧ (State.raisePlain s a0 a1).plant = s.plant ∧
    (State.raisePlain s a0 a1).loop = s.loop ∧ (State.raisePlain s a0 a1).rio = s.rio ∧
    (State.raisePlain s a0 a1).adc = s.adc ∧ (State.raisePlain s a0 a1).shuttle = s.shuttle ∧
    (State.raisePlain s a0 a1).mirror = s.mirror ∧ (State.raisePlain s a0 a1).kiln = s.kiln ∧
    (State.raisePlain s a0 a1).kport = s.kport ∧ (State.raisePlain s a0 a1).copies = s.copies ∧
    (State.raisePlain s a0 a1).copySeq = s.copySeq ∧ (State.raisePlain s a0 a1).shown = s.shown ∧
    (State.raisePlain s a0 a1).time = s.time ∧ (State.raisePlain s a0 a1).gnss = s.gnss ∧
    (State.raisePlain s a0 a1).sess = s.sess ∧ (State.raisePlain s a0 a1).field = s.field ∧
    (State.raisePlain s a0 a1).glaze = s.glaze ∧ (State.raisePlain s a0 a1).cmd = s.cmd ∧
    (State.raisePlain s a0 a1).sec = s.sec ∧ (State.raisePlain s a0 a1).mon = s.mon ∧
    (State.raisePlain s a0 a1).pmic = s.pmic ∧ (State.raisePlain s a0 a1).limits = s.limits ∧
    (State.raisePlain s a0 a1).free = s.free := by
  simp [State.raisePlain]
@[simp] theorem State.incidentFreeze_frame (s : State) :
    (State.incidentFreeze s).sys = s.sys ∧ (State.incidentFreeze s).draft = s.draft ∧
    (State.incidentFreeze s).staged = s.staged ∧ (State.incidentFreeze s).prevDraft = s.prevDraft ∧
    (State.incidentFreeze s).clk = s.clk ∧ (State.incidentFreeze s).warp = s.warp ∧
    (State.incidentFreeze s).heddle = s.heddle ∧ (State.incidentFreeze s).obs = s.obs ∧
    (State.incidentFreeze s).wheel = s.wheel ∧ (State.incidentFreeze s).guide = s.guide ∧
    (State.incidentFreeze s).alloc = s.alloc ∧ (State.incidentFreeze s).plant = s.plant ∧
    (State.incidentFreeze s).loop = s.loop ∧ (State.incidentFreeze s).rio = s.rio ∧ (State.incidentFreeze s).adc = s.adc ∧
    (State.incidentFreeze s).shuttle = s.shuttle ∧ (State.incidentFreeze s).mirror = s.mirror ∧
    (State.incidentFreeze s).kiln = s.kiln ∧ (State.incidentFreeze s).kport = s.kport ∧
    (State.incidentFreeze s).copies = s.copies ∧ (State.incidentFreeze s).copySeq = s.copySeq ∧
    (State.incidentFreeze s).shown = s.shown ∧ (State.incidentFreeze s).time = s.time ∧
    (State.incidentFreeze s).gnss = s.gnss ∧ (State.incidentFreeze s).sess = s.sess ∧
    (State.incidentFreeze s).field = s.field ∧ (State.incidentFreeze s).glaze = s.glaze ∧
    (State.incidentFreeze s).cmd = s.cmd ∧ (State.incidentFreeze s).sec = s.sec ∧ (State.incidentFreeze s).mon = s.mon ∧
    (State.incidentFreeze s).pmic = s.pmic ∧ (State.incidentFreeze s).limits = s.limits ∧
    (State.incidentFreeze s).free = s.free := by
  simp [State.incidentFreeze]
@[simp] theorem State.raise_frame (s : State) a0 a1 :
    (State.raise s a0 a1).sys = s.sys ∧ (State.raise s a0 a1).draft = s.draft ∧ (State.raise s a0 a1).staged = s.staged ∧
    (State.raise s a0 a1).prevDraft = s.prevDraft ∧ (State.raise s a0 a1).clk = s.clk ∧ (State.raise s a0 a1).warp = s.warp ∧
    (State.raise s a0 a1).heddle = s.heddle ∧ (State.raise s a0 a1).obs = s.obs ∧ (State.raise s a0 a1).wheel = s.wheel ∧
    (State.raise s a0 a1).guide = s.guide ∧ (State.raise s a0 a1).alloc = s.alloc ∧ (State.raise s a0 a1).plant = s.plant ∧
    (State.raise s a0 a1).loop = s.loop ∧ (State.raise s a0 a1).rio = s.rio ∧ (State.raise s a0 a1).adc = s.adc ∧
    (State.raise s a0 a1).shuttle = s.shuttle ∧ (State.raise s a0 a1).mirror = s.mirror ∧
    (State.raise s a0 a1).kiln = s.kiln ∧ (State.raise s a0 a1).kport = s.kport ∧ (State.raise s a0 a1).copies = s.copies ∧
    (State.raise s a0 a1).copySeq = s.copySeq ∧ (State.raise s a0 a1).shown = s.shown ∧ (State.raise s a0 a1).time = s.time ∧
    (State.raise s a0 a1).gnss = s.gnss ∧ (State.raise s a0 a1).sess = s.sess ∧ (State.raise s a0 a1).field = s.field ∧
    (State.raise s a0 a1).glaze = s.glaze ∧ (State.raise s a0 a1).cmd = s.cmd ∧ (State.raise s a0 a1).sec = s.sec ∧
    (State.raise s a0 a1).mon = s.mon ∧ (State.raise s a0 a1).pmic = s.pmic ∧ (State.raise s a0 a1).limits = s.limits ∧
    (State.raise s a0 a1).free = s.free := by
  simp [State.raise]
@[simp] theorem State.raiseLimited_frame (s : State) a0 a1 a2 a3 :
    (State.raiseLimited s a0 a1 a2 a3).sys = s.sys ∧ (State.raiseLimited s a0 a1 a2 a3).draft = s.draft ∧
    (State.raiseLimited s a0 a1 a2 a3).staged = s.staged ∧ (State.raiseLimited s a0 a1 a2 a3).prevDraft = s.prevDraft ∧
    (State.raiseLimited s a0 a1 a2 a3).clk = s.clk ∧ (State.raiseLimited s a0 a1 a2 a3).warp = s.warp ∧
    (State.raiseLimited s a0 a1 a2 a3).heddle = s.heddle ∧ (State.raiseLimited s a0 a1 a2 a3).obs = s.obs ∧
    (State.raiseLimited s a0 a1 a2 a3).wheel = s.wheel ∧ (State.raiseLimited s a0 a1 a2 a3).guide = s.guide ∧
    (State.raiseLimited s a0 a1 a2 a3).alloc = s.alloc ∧ (State.raiseLimited s a0 a1 a2 a3).plant = s.plant ∧
    (State.raiseLimited s a0 a1 a2 a3).loop = s.loop ∧ (State.raiseLimited s a0 a1 a2 a3).rio = s.rio ∧
    (State.raiseLimited s a0 a1 a2 a3).adc = s.adc ∧ (State.raiseLimited s a0 a1 a2 a3).shuttle = s.shuttle ∧
    (State.raiseLimited s a0 a1 a2 a3).mirror = s.mirror ∧ (State.raiseLimited s a0 a1 a2 a3).kiln = s.kiln ∧
    (State.raiseLimited s a0 a1 a2 a3).kport = s.kport ∧ (State.raiseLimited s a0 a1 a2 a3).copies = s.copies ∧
    (State.raiseLimited s a0 a1 a2 a3).copySeq = s.copySeq ∧ (State.raiseLimited s a0 a1 a2 a3).shown = s.shown ∧
    (State.raiseLimited s a0 a1 a2 a3).time = s.time ∧ (State.raiseLimited s a0 a1 a2 a3).gnss = s.gnss ∧
    (State.raiseLimited s a0 a1 a2 a3).sess = s.sess ∧ (State.raiseLimited s a0 a1 a2 a3).field = s.field ∧
    (State.raiseLimited s a0 a1 a2 a3).glaze = s.glaze ∧ (State.raiseLimited s a0 a1 a2 a3).cmd = s.cmd ∧
    (State.raiseLimited s a0 a1 a2 a3).sec = s.sec ∧ (State.raiseLimited s a0 a1 a2 a3).mon = s.mon ∧
    (State.raiseLimited s a0 a1 a2 a3).pmic = s.pmic ∧ (State.raiseLimited s a0 a1 a2 a3).free = s.free := by
  refine ⟨?_, ?_, ?_, ?_, ?_, ?_, ?_, ?_, ?_, ?_, ?_, ?_, ?_, ?_, ?_, ?_, ?_, ?_, ?_, ?_, ?_, ?_, ?_, ?_, ?_, ?_, ?_, ?_, ?_, ?_, ?_, ?_⟩ <;> (unfold State.raiseLimited; (repeat' split) <;> simp)
@[simp] theorem State.stage_frame (s : State) a0 a1 a2 a3 a4 a5 :
    (State.stage s a0 a1 a2 a3 a4 a5).sys = s.sys ∧ (State.stage s a0 a1 a2 a3 a4 a5).draft = s.draft ∧
    (State.stage s a0 a1 a2 a3 a4 a5).staged = s.staged ∧ (State.stage s a0 a1 a2 a3 a4 a5).prevDraft = s.prevDraft ∧
    (State.stage s a0 a1 a2 a3 a4 a5).clk = s.clk ∧ (State.stage s a0 a1 a2 a3 a4 a5).warp = s.warp ∧
    (State.stage s a0 a1 a2 a3 a4 a5).heddle = s.heddle ∧ (State.stage s a0 a1 a2 a3 a4 a5).obs = s.obs ∧
    (State.stage s a0 a1 a2 a3 a4 a5).wheel = s.wheel ∧ (State.stage s a0 a1 a2 a3 a4 a5).guide = s.guide ∧
    (State.stage s a0 a1 a2 a3 a4 a5).alloc = s.alloc ∧ (State.stage s a0 a1 a2 a3 a4 a5).plant = s.plant ∧
    (State.stage s a0 a1 a2 a3 a4 a5).loop = s.loop ∧ (State.stage s a0 a1 a2 a3 a4 a5).rio = s.rio ∧
    (State.stage s a0 a1 a2 a3 a4 a5).adc = s.adc ∧ (State.stage s a0 a1 a2 a3 a4 a5).shuttle = s.shuttle ∧
    (State.stage s a0 a1 a2 a3 a4 a5).mirror = s.mirror ∧ (State.stage s a0 a1 a2 a3 a4 a5).kiln = s.kiln ∧
    (State.stage s a0 a1 a2 a3 a4 a5).kport = s.kport ∧ (State.stage s a0 a1 a2 a3 a4 a5).copies = s.copies ∧
    (State.stage s a0 a1 a2 a3 a4 a5).copySeq = s.copySeq ∧ (State.stage s a0 a1 a2 a3 a4 a5).shown = s.shown ∧
    (State.stage s a0 a1 a2 a3 a4 a5).time = s.time ∧ (State.stage s a0 a1 a2 a3 a4 a5).gnss = s.gnss ∧
    (State.stage s a0 a1 a2 a3 a4 a5).sess = s.sess ∧ (State.stage s a0 a1 a2 a3 a4 a5).field = s.field ∧
    (State.stage s a0 a1 a2 a3 a4 a5).glaze = s.glaze ∧ (State.stage s a0 a1 a2 a3 a4 a5).cmd = s.cmd ∧
    (State.stage s a0 a1 a2 a3 a4 a5).sec = s.sec ∧ (State.stage s a0 a1 a2 a3 a4 a5).mon = s.mon ∧
    (State.stage s a0 a1 a2 a3 a4 a5).pmic = s.pmic ∧ (State.stage s a0 a1 a2 a3 a4 a5).free = s.free := by
  simp [State.stage]
@[simp] theorem State.turnAway_frame (s : State) a0 a1 a2 a3 a4 :
    (State.turnAway s a0 a1 a2 a3 a4).sys = s.sys ∧ (State.turnAway s a0 a1 a2 a3 a4).draft = s.draft ∧
    (State.turnAway s a0 a1 a2 a3 a4).staged = s.staged ∧ (State.turnAway s a0 a1 a2 a3 a4).prevDraft = s.prevDraft ∧
    (State.turnAway s a0 a1 a2 a3 a4).clk = s.clk ∧ (State.turnAway s a0 a1 a2 a3 a4).warp = s.warp ∧
    (State.turnAway s a0 a1 a2 a3 a4).heddle = s.heddle ∧ (State.turnAway s a0 a1 a2 a3 a4).obs = s.obs ∧
    (State.turnAway s a0 a1 a2 a3 a4).wheel = s.wheel ∧ (State.turnAway s a0 a1 a2 a3 a4).guide = s.guide ∧
    (State.turnAway s a0 a1 a2 a3 a4).alloc = s.alloc ∧ (State.turnAway s a0 a1 a2 a3 a4).plant = s.plant ∧
    (State.turnAway s a0 a1 a2 a3 a4).loop = s.loop ∧ (State.turnAway s a0 a1 a2 a3 a4).rio = s.rio ∧
    (State.turnAway s a0 a1 a2 a3 a4).adc = s.adc ∧ (State.turnAway s a0 a1 a2 a3 a4).shuttle = s.shuttle ∧
    (State.turnAway s a0 a1 a2 a3 a4).mirror = s.mirror ∧ (State.turnAway s a0 a1 a2 a3 a4).kiln = s.kiln ∧
    (State.turnAway s a0 a1 a2 a3 a4).kport = s.kport ∧ (State.turnAway s a0 a1 a2 a3 a4).copies = s.copies ∧
    (State.turnAway s a0 a1 a2 a3 a4).copySeq = s.copySeq ∧ (State.turnAway s a0 a1 a2 a3 a4).shown = s.shown ∧
    (State.turnAway s a0 a1 a2 a3 a4).time = s.time ∧ (State.turnAway s a0 a1 a2 a3 a4).gnss = s.gnss ∧
    (State.turnAway s a0 a1 a2 a3 a4).sess = s.sess ∧ (State.turnAway s a0 a1 a2 a3 a4).field = s.field ∧
    (State.turnAway s a0 a1 a2 a3 a4).glaze = s.glaze ∧ (State.turnAway s a0 a1 a2 a3 a4).sec = s.sec ∧
    (State.turnAway s a0 a1 a2 a3 a4).sherd = s.sherd ∧ (State.turnAway s a0 a1 a2 a3 a4).mon = s.mon ∧
    (State.turnAway s a0 a1 a2 a3 a4).pmic = s.pmic ∧ (State.turnAway s a0 a1 a2 a3 a4).events = s.events ∧
    (State.turnAway s a0 a1 a2 a3 a4).limits = s.limits ∧ (State.turnAway s a0 a1 a2 a3 a4).free = s.free := by
  simp [State.turnAway]
@[simp] theorem State.ledger_frame (s : State) a0 a1 a2 a3 a4 :
    (State.ledger s a0 a1 a2 a3 a4).sys = s.sys ∧ (State.ledger s a0 a1 a2 a3 a4).draft = s.draft ∧
    (State.ledger s a0 a1 a2 a3 a4).staged = s.staged ∧ (State.ledger s a0 a1 a2 a3 a4).prevDraft = s.prevDraft ∧
    (State.ledger s a0 a1 a2 a3 a4).clk = s.clk ∧ (State.ledger s a0 a1 a2 a3 a4).warp = s.warp ∧
    (State.ledger s a0 a1 a2 a3 a4).heddle = s.heddle ∧ (State.ledger s a0 a1 a2 a3 a4).obs = s.obs ∧
    (State.ledger s a0 a1 a2 a3 a4).wheel = s.wheel ∧ (State.ledger s a0 a1 a2 a3 a4).guide = s.guide ∧
    (State.ledger s a0 a1 a2 a3 a4).alloc = s.alloc ∧ (State.ledger s a0 a1 a2 a3 a4).plant = s.plant ∧
    (State.ledger s a0 a1 a2 a3 a4).loop = s.loop ∧ (State.ledger s a0 a1 a2 a3 a4).rio = s.rio ∧
    (State.ledger s a0 a1 a2 a3 a4).adc = s.adc ∧ (State.ledger s a0 a1 a2 a3 a4).shuttle = s.shuttle ∧
    (State.ledger s a0 a1 a2 a3 a4).mirror = s.mirror ∧ (State.ledger s a0 a1 a2 a3 a4).kiln = s.kiln ∧
    (State.ledger s a0 a1 a2 a3 a4).kport = s.kport ∧ (State.ledger s a0 a1 a2 a3 a4).copies = s.copies ∧
    (State.ledger s a0 a1 a2 a3 a4).copySeq = s.copySeq ∧ (State.ledger s a0 a1 a2 a3 a4).shown = s.shown ∧
    (State.ledger s a0 a1 a2 a3 a4).time = s.time ∧ (State.ledger s a0 a1 a2 a3 a4).gnss = s.gnss ∧
    (State.ledger s a0 a1 a2 a3 a4).sess = s.sess ∧ (State.ledger s a0 a1 a2 a3 a4).field = s.field ∧
    (State.ledger s a0 a1 a2 a3 a4).glaze = s.glaze ∧ (State.ledger s a0 a1 a2 a3 a4).cmd = s.cmd ∧
    (State.ledger s a0 a1 a2 a3 a4).mon = s.mon ∧ (State.ledger s a0 a1 a2 a3 a4).pmic = s.pmic ∧
    (State.ledger s a0 a1 a2 a3 a4).free = s.free := by
  simp [State.ledger]
@[simp] theorem State.ledgerBy_frame (s : State) a0 a1 a2 a3 :
    (State.ledgerBy s a0 a1 a2 a3).sys = s.sys ∧ (State.ledgerBy s a0 a1 a2 a3).draft = s.draft ∧
    (State.ledgerBy s a0 a1 a2 a3).staged = s.staged ∧ (State.ledgerBy s a0 a1 a2 a3).prevDraft = s.prevDraft ∧
    (State.ledgerBy s a0 a1 a2 a3).clk = s.clk ∧ (State.ledgerBy s a0 a1 a2 a3).warp = s.warp ∧
    (State.ledgerBy s a0 a1 a2 a3).heddle = s.heddle ∧ (State.ledgerBy s a0 a1 a2 a3).obs = s.obs ∧
    (State.ledgerBy s a0 a1 a2 a3).wheel = s.wheel ∧ (State.ledgerBy s a0 a1 a2 a3).guide = s.guide ∧
    (State.ledgerBy s a0 a1 a2 a3).alloc = s.alloc ∧ (State.ledgerBy s a0 a1 a2 a3).plant = s.plant ∧
    (State.ledgerBy s a0 a1 a2 a3).loop = s.loop ∧ (State.ledgerBy s a0 a1 a2 a3).rio = s.rio ∧
    (State.ledgerBy s a0 a1 a2 a3).adc = s.adc ∧ (State.ledgerBy s a0 a1 a2 a3).shuttle = s.shuttle ∧
    (State.ledgerBy s a0 a1 a2 a3).mirror = s.mirror ∧ (State.ledgerBy s a0 a1 a2 a3).kiln = s.kiln ∧
    (State.ledgerBy s a0 a1 a2 a3).kport = s.kport ∧ (State.ledgerBy s a0 a1 a2 a3).copies = s.copies ∧
    (State.ledgerBy s a0 a1 a2 a3).copySeq = s.copySeq ∧ (State.ledgerBy s a0 a1 a2 a3).shown = s.shown ∧
    (State.ledgerBy s a0 a1 a2 a3).time = s.time ∧ (State.ledgerBy s a0 a1 a2 a3).gnss = s.gnss ∧
    (State.ledgerBy s a0 a1 a2 a3).sess = s.sess ∧ (State.ledgerBy s a0 a1 a2 a3).field = s.field ∧
    (State.ledgerBy s a0 a1 a2 a3).glaze = s.glaze ∧ (State.ledgerBy s a0 a1 a2 a3).cmd = s.cmd ∧
    (State.ledgerBy s a0 a1 a2 a3).mon = s.mon ∧ (State.ledgerBy s a0 a1 a2 a3).pmic = s.pmic ∧
    (State.ledgerBy s a0 a1 a2 a3).free = s.free := by
  simp [State.ledgerBy]

/-! ### what they add -/

@[simp] theorem State.emit_out (s : State) (o : Output) : (s.emit o).out = s.out ++ [o] := rfl
@[simp] theorem State.emitAll_out (s : State) (l : List Output) : (s.emitAll l).out = s.out ++ l := by
  unfold State.emitAll
  induction l generalizing s with
  | nil => simp
  | cons o l ih => simp [ih]
@[simp] theorem State.emitAll_nil (s : State) : s.emitAll [] = s := rfl

/-- The present instant is a matter of the clock alone. -/
theorem State.otime_of_clk {s t : State} (h : t.clk = s.clk) : t.otime = s.otime := by simp [State.otime, h]
theorem State.now_of_clk {s t : State} (h : t.clk = s.clk) : t.now = s.now := by simp [State.now, h]
theorem State.stamp_of_clk {s t : State} (h : t.clk = s.clk) : t.stamp = s.stamp := by simp [State.stamp, State.now, h]

@[simp] theorem State.raiseRec_events (s : State) (e : EventRec) : (s.raiseRec e).events = s.events ++ [e] := by
  unfold State.raiseRec; dsimp only; split <;> simp
@[simp] theorem State.raisePlain_events (s : State) (c : Word) (d : List Byte) :
    (s.raisePlain c d).events = s.events ++ [{ code := c, detail := d, otimeUs := s.otime, dtime := s.stamp }] := by
  simp [State.raisePlain]
/-- An event of a severity other than 5 is staged and kept, and nothing else (R17, R656). -/
theorem State.raise_plain (s : State) (c : Word) (d : List Byte) (h : evSev c ≠ 5) : s.raise c d = s.raisePlain c d := by
  simp [State.raise, h]
theorem State.raise_events (s : State) (c : Word) (d : List Byte) (h : evSev c ≠ 5) :
    (s.raise c d).events = s.events ++ [{ code := c, detail := d, otimeUs := s.otime, dtime := s.stamp }] := by
  rw [State.raise_plain s c d h, State.raisePlain_events]

/-- A fold of events only adds to the events. -/
theorem foldl_events_prefix {α : Type} (f : State → α → State) (h : ∀ a x, a.events <+: (f a x).events) (l : List α) (s : State) :
    s.events <+: (l.foldl f s).events := by
  induction l generalizing s with
  | nil => exact List.prefix_refl _
  | cons x l ih => exact (h s x).trans (ih (f s x))
theorem State.incidentFreeze_events (s : State) : s.events <+: s.incidentFreeze.events := by
  unfold State.incidentFreeze
  extract_lets h f
  dsimp only
  rw [State.raisePlain_events]
  refine List.IsPrefix.trans ?_ (List.prefix_append _ _)
  refine List.IsPrefix.trans ?_ (foldl_events_prefix (fun (t : State) r => t.raisePlain 0x0F000007#32 [byteOf r]) (fun a x => by
    rw [State.raisePlain_events]; exact List.prefix_append _ _) _ _)
  exact List.prefix_refl _
/-- An event is among the events after it is raised, and no earlier one is lost. -/
theorem State.raise_events_prefix (s : State) (c : Word) (d : List Byte) :
    s.events ++ [{ code := c, detail := d, otimeUs := s.otime, dtime := s.stamp }] <+: (s.raise c d).events := by
  unfold State.raise; dsimp only; split
  · have := State.incidentFreeze_events (s.raisePlain c d); rwa [State.raisePlain_events] at this
  · exact (State.raisePlain_events s c d).symm ▸ List.prefix_refl _

/-- The end of a command touches the replies and counters of the command port, the recorder and what leaves the module. -/
@[simp] theorem State.finish_frame (s : State) sess op cseq st r :
    (s.finish sess op cseq st r).sys = s.sys ∧ (s.finish sess op cseq st r).draft = s.draft ∧
    (s.finish sess op cseq st r).staged = s.staged ∧ (s.finish sess op cseq st r).prevDraft = s.prevDraft ∧
    (s.finish sess op cseq st r).clk = s.clk ∧ (s.finish sess op cseq st r).warp = s.warp ∧
    (s.finish sess op cseq st r).heddle = s.heddle ∧ (s.finish sess op cseq st r).obs = s.obs ∧
    (s.finish sess op cseq st r).wheel = s.wheel ∧ (s.finish sess op cseq st r).guide = s.guide ∧
    (s.finish sess op cseq st r).alloc = s.alloc ∧ (s.finish sess op cseq st r).plant = s.plant ∧
    (s.finish sess op cseq st r).loop = s.loop ∧ (s.finish sess op cseq st r).rio = s.rio ∧
    (s.finish sess op cseq st r).adc = s.adc ∧ (s.finish sess op cseq st r).shuttle = s.shuttle ∧
    (s.finish sess op cseq st r).mirror = s.mirror ∧ (s.finish sess op cseq st r).kiln = s.kiln ∧
    (s.finish sess op cseq st r).kport = s.kport ∧ (s.finish sess op cseq st r).copies = s.copies ∧
    (s.finish sess op cseq st r).time = s.time ∧ (s.finish sess op cseq st r).gnss = s.gnss ∧
    (s.finish sess op cseq st r).sess = s.sess ∧ (s.finish sess op cseq st r).field = s.field ∧
    (s.finish sess op cseq st r).glaze = s.glaze ∧ (s.finish sess op cseq st r).sec = s.sec ∧
    (s.finish sess op cseq st r).mon = s.mon ∧ (s.finish sess op cseq st r).pmic = s.pmic ∧
    (s.finish sess op cseq st r).free = s.free := by
  unfold State.finish; dsimp only; split <;> simp

end Sys2Proof.Machine
end

