-- ==== Sys2Proof/Laws/PerInstr.lean ====
section
/-! SUPPORT. Facts about each command as syntax, one lemma per command. -/

namespace Sys2Proof.Laws.KnownOpcode

/-- A command that a session carries has an opcode of the command table (R523, R538). -/
def Statement (i : Sys2Proof.Instr) : Prop :=
  ∀ h op, Sys2Proof.Machine.asCommand i = some (h, op) → (Sys2Proof.Machine.cmdSpec op).op = op

theorem powerUp (rtc : Option Nat) : Statement (.powerUp rtc) := by
  intro _ _ e; cases e
theorem powerFailWarning : Statement (.powerFailWarning) := by
  intro _ _ e; cases e
theorem warningWithdrawn : Statement (.warningWithdrawn) := by
  intro _ _ e; cases e
theorem holdUpEnd : Statement (.holdUpEnd) := by
  intro _ _ e; cases e
theorem rstNLow : Statement (.rstNLow) := by
  intro _ _ e; cases e
theorem pmicWatchdogExpiry : Statement (.pmicWatchdogExpiry) := by
  intro _ _ e; cases e
theorem railFault (rail : Nat) : Statement (.railFault rail) := by
  intro _ _ e; cases e
theorem thermalShutdown : Statement (.thermalShutdown) := by
  intro _ _ e; cases e
theorem thermalRecovery (tBase tLoom tKiln tPmic : Int) (rtc : Option Nat) : Statement (.thermalRecovery tBase tLoom tKiln tPmic rtc) := by
  intro _ _ e; cases e
theorem vinOutOfBand : Statement (.vinOutOfBand) := by
  intro _ _ e; cases e
theorem holdCapacitanceMeasure (us : Nat) : Statement (.holdCapacitanceMeasure us) := by
  intro _ _ e; cases e
theorem holdChargeTimeout : Statement (.holdChargeTimeout) := by
  intro _ _ e; cases e
theorem bootVerifyComplete (seat ok0 ok1 : Bool) (us : Nat) : Statement (.bootVerifyComplete seat ok0 ok1 us) := by
  intro _ _ e; cases e
theorem selftestComplete (ok : Bool) (trips : List (Bool × Bool)) (glazeBad : BitVec 16) (draftWhole : Bool) (hits : List (Nat × Nat × Byte)) (damaged : List Word) : Statement (.selftestComplete ok trips glazeBad draftWhole hits damaged) := by
  intro _ _ e; cases e
theorem clockComparison (counts : List (Nat × Nat)) (half : Nat × Nat) : Statement (.clockComparison counts half) := by
  intro _ _ e; cases e
theorem otimeSave : Statement (.otimeSave) := by
  intro _ _ e; cases e
theorem pickTick (netUs : Nat) (spare : Bool) (streams : List (List SampRun)) (exc : List F64) (svcEn : Bool) (pw : PowerIn) : Statement (.pickTick netUs spare streams exc svcEn pw) := by
  intro _ _ e; cases e
theorem beatEdge : Statement (.beatEdge) := by
  intro _ _ e; cases e
theorem dropWindowDegrade : Statement (.dropWindowDegrade) := by
  intro _ _ e; cases e
theorem dropWindowClear : Statement (.dropWindowClear) := by
  intro _ _ e; cases e
theorem dropRunSafe : Statement (.dropRunSafe) := by
  intro _ _ e; cases e
theorem intake : Statement (.intake) := by
  intro _ _ e; cases e
theorem projectAndVote : Statement (.projectAndVote) := by
  intro _ _ e; cases e
theorem observe : Statement (.observe) := by
  intro _ _ e; cases e
theorem maxDeadReckoningTime (t : Ns) : Statement (.maxDeadReckoningTime t) := by
  intro _ _ e; cases e
theorem waveFrequencyUpdate : Statement (.waveFrequencyUpdate) := by
  intro _ _ e; cases e
theorem obsWarmRecordWrite : Statement (.obsWarmRecordWrite) := by
  intro _ _ e; cases e
theorem beatTaskRelease : Statement (.beatTaskRelease) := by
  intro _ _ e; cases e
theorem guide (t : Ns) : Statement (.guide t) := by
  intro _ _ e; cases e
theorem softStartComplete : Statement (.softStartComplete) := by
  intro _ _ e; cases e
theorem solveStart (ecc : Option (Fin 8)) (t : Ns) : Statement (.solveStart ecc t) := by
  intro _ _ e; cases e
theorem wheelIteration (residues : List (Fin 8)) (ecc : Option (Fin 8)) (t : Ns) : Statement (.wheelIteration residues ecc t) := by
  intro _ _ e; cases e
theorem coneSolveDeadline (residues : List (Fin 8)) (ecc : Option (Fin 8)) (sent : Nat) : Statement (.coneSolveDeadline residues ecc sent) := by
  intro _ _ e; cases e
theorem wheelDegradedEntry : Statement (.wheelDegradedEntry) := by
  intro _ _ e; cases e
theorem wheelDegradedEnd : Statement (.wheelDegradedEnd) := by
  intro _ _ e; cases e
theorem wheelMissSafe : Statement (.wheelMissSafe) := by
  intro _ _ e; cases e
theorem wheelRecordCopy : Statement (.wheelRecordCopy) := by
  intro _ _ e; cases e
theorem consequenceCycleStart : Statement (.consequenceCycleStart) := by
  intro _ _ e; cases e
theorem consequenceScenarioEnd (residues : List (Fin 8)) (ecc : Option (Fin 8)) : Statement (.consequenceScenarioEnd residues ecc) := by
  intro _ _ e; cases e
theorem record (t : Ns) : Statement (.record t) := by
  intro _ _ e; cases e
theorem recordComplete (t : Ns) : Statement (.recordComplete t) := by
  intro _ _ e; cases e
theorem coneStageOverrun (observe : Bool) : Statement (.coneStageOverrun observe) := by
  intro _ _ e; cases e
theorem coneGuideLate : Statement (.coneGuideLate) := by
  intro _ _ e; cases e
theorem coneTelegramsLate (sent : Nat) : Statement (.coneTelegramsLate sent) := by
  intro _ _ e; cases e
theorem coneWithholdLimit (sent : Nat) : Statement (.coneWithholdLimit sent) := by
  intro _ _ e; cases e
theorem coneRecordLate (t : Ns) : Statement (.coneRecordLate t) := by
  intro _ _ e; cases e
theorem conePhaseBackLate : Statement (.conePhaseBackLate) := by
  intro _ _ e; cases e
theorem coneLoopOverrun : Statement (.coneLoopOverrun) := by
  intro _ _ e; cases e
theorem coneShuttleOverrun (tick : Bool) : Statement (.coneShuttleOverrun tick) := by
  intro _ _ e; cases e
theorem scrubLate (mram : Bool) : Statement (.scrubLate mram) := by
  intro _ _ e; cases e
theorem telegramDecode : Statement (.telegramDecode) := by
  intro _ _ e; cases e
theorem trackTimeout (k : Nat) (t : Ns) : Statement (.trackTimeout k t) := by
  intro _ _ e; cases e
theorem sessionStale (i : Nat) (t : Ns) : Statement (.sessionStale i t) := by
  intro _ _ e; cases e
theorem sessionLost (i : Nat) (t : Ns) : Statement (.sessionLost i t) := by
  intro _ _ e; cases e
theorem sessionUnbar (i : Nat) (t : Ns) : Statement (.sessionUnbar i t) := by
  intro _ _ e; cases e
theorem fastInputChange (k : Nat) (level : Bool) (t : Ns) : Statement (.fastInputChange k level t) := by
  intro _ _ e; cases e
theorem gooseFrameReceive (p appid : Nat) (src gocb : List Byte) (st sq : Word) (ttl : Nat) (sim : Bool) (m : List GooseMember) (t : Ns) : Statement (.gooseFrameReceive p appid src gocb st sq ttl sim m t) := by
  intro _ _ e; cases e
theorem gooseStale (i : Nat) (t : Ns) : Statement (.gooseStale i t) := by
  intro _ _ e; cases e
theorem breakerIntermediateTimeout (tie : Bool) (i src : Nat) (t : Ns) : Statement (.breakerIntermediateTimeout tie i src t) := by
  intro _ _ e; cases e
theorem breakerDisagreement (tie : Bool) (i : Nat) (t : Ns) : Statement (.breakerDisagreement tie i t) := by
  intro _ _ e; cases e
theorem generatorOnline (g : Nat) (t : Ns) : Statement (.generatorOnline g t) := by
  intro _ _ e; cases e
theorem tripCheck (sent react : Nat) : Statement (.tripCheck sent react) := by
  intro _ _ e; cases e
theorem driveStatusReceive (i : Nat) (b : List Byte) (t : Ns) : Statement (.driveStatusReceive i b t) := by
  intro _ _ e; cases e
theorem loopEngineRun (late : Nat) : Statement (.loopEngineRun late) := by
  intro _ _ e; cases e
theorem slotSoftComplete (k : Nat) : Statement (.slotSoftComplete k) := by
  intro _ _ e; cases e
theorem followingErrorTimeout (k : Nat) : Statement (.followingErrorTimeout k) := by
  intro _ _ e; cases e
theorem slotAutoRecovery (k : Nat) : Statement (.slotAutoRecovery k) := by
  intro _ _ e; cases e
theorem periodSourceInvalid (k : Nat) : Statement (.periodSourceInvalid k) := by
  intro _ _ e; cases e
theorem resetLoopSlot (h : Hdr) (k : Nat) : Statement (.resetLoopSlot h k) := by
  intro _ _ e; cases e; decide
theorem groupTrainingStart (a : Nat) : Statement (.groupTrainingStart a) := by
  intro _ _ e; cases e
theorem groupTrainingComplete (a : Nat) (res : List TrainIn) : Statement (.groupTrainingComplete a res) := by
  intro _ _ e; cases e
theorem groupRetrainTimer (a : Nat) : Statement (.groupRetrainTimer a) := by
  intro _ _ e; cases e
theorem gnssRetrain (h : Hdr) (mask : Nat) : Statement (.gnssRetrain h mask) := by
  intro _ _ e; cases e; decide
theorem acquisitionSearchComplete (d : DwellIn) : Statement (.acquisitionSearchComplete d) := by
  intro _ _ e; cases e
theorem demandList (sats : List SatIn) (load : List Nat) : Statement (.demandList sats load) := by
  intro _ _ e; cases e
theorem channelLostTimeout (c : Nat) : Statement (.channelLostTimeout c) := by
  intro _ _ e; cases e
theorem accumulationDump (c : Nat) (v : DumpIn) (t : Ns) : Statement (.accumulationDump c v t) := by
  intro _ _ e; cases e
theorem loopUpdate (c : Nat) (car cod : BitVec 40) (slew : Int) (t : Ns) : Statement (.loopUpdate c car cod slew t) := by
  intro _ _ e; cases e
theorem featureGrid (scores : List (List Nat)) : Statement (.featureGrid scores) := by
  intro _ _ e; cases e
theorem commonLatch (v : LatchIn) : Statement (.commonLatch v) := by
  intro _ _ e; cases e
theorem rawRecordPost (t : Ns) : Statement (.rawRecordPost t) := by
  intro _ _ e; cases e
theorem positionRecordPost (t : Ns) : Statement (.positionRecordPost t) := by
  intro _ _ e; cases e
theorem attitudeRecordPost (t : Ns) : Statement (.attitudeRecordPost t) := by
  intro _ _ e; cases e
theorem gnssRecordDiscard (t : Ns) : Statement (.gnssRecordDiscard t) := by
  intro _ _ e; cases e
theorem exclusionHoldExpiry : Statement (.exclusionHoldExpiry) := by
  intro _ _ e; cases e
theorem withdrawalEnd (com : Bool) : Statement (.withdrawalEnd com) := by
  intro _ _ e; cases e
theorem rtcmMessageReceive (i : Nat) (b : List Byte) (t : Ns) : Statement (.rtcmMessageReceive i b t) := by
  intro _ _ e; cases e
theorem ptpSyncReceive (i p : Nat) (twoStep : Bool) (seq : Nat) (t1 corr t2 : Int) (logInt : Int) (v : ServoOut) : Statement (.ptpSyncReceive i p twoStep seq t1 corr t2 logInt v) := by
  intro _ _ e; cases e
theorem followUpReceive (i p seq : Nat) (t1 corr : Int) (v : ServoOut) (b : List Byte) (bad : Bool) : Statement (.followUpReceive i p seq t1 corr v b bad) := by
  intro _ _ e; cases e
theorem announceReceive (i : Nat) (a : Announce) : Statement (.announceReceive i a) := by
  intro _ _ e; cases e
theorem delayRespReceive (i p seq : Nat) (t4 : Int) : Statement (.delayRespReceive i p seq t4) := by
  intro _ _ e; cases e
theorem delayReqReceive (i p seq : Nat) (t : Ns) : Statement (.delayReqReceive i p seq t) := by
  intro _ _ e; cases e
theorem pdelayReqReceive (p seq : Nat) (t : Ns) : Statement (.pdelayReqReceive p seq t) := by
  intro _ _ e; cases e
theorem pdelayRespReceive (p seq : Nat) (t4 turn : Int) : Statement (.pdelayRespReceive p seq t4 turn) := by
  intro _ _ e; cases e
theorem managementMessageReceive : Statement (.managementMessageReceive) := by
  intro _ _ e; cases e
theorem ringPtpForward (ing seq : Nat) (sync twoStep udp bad : Bool) (corr residence : Int) (b : List Byte) : Statement (.ringPtpForward ing seq sync twoStep udp bad corr residence b) := by
  intro _ _ e; cases e
theorem masterSyncSend (i : Nat) : Statement (.masterSyncSend i) := by
  intro _ _ e; cases e
theorem ringSyncSend : Statement (.ringSyncSend) := by
  intro _ _ e; cases e
theorem ptpSourceTimeout (i : Nat) : Statement (.ptpSourceTimeout i) := by
  intro _ _ e; cases e
theorem sourceQualified (i : Nat) : Statement (.sourceQualified i) := by
  intro _ _ e; cases e
theorem sourceFaultExpiry (i : Nat) : Statement (.sourceFaultExpiry i) := by
  intro _ _ e; cases e
theorem suspectReturn (i : Nat) : Statement (.suspectReturn i) := by
  intro _ _ e; cases e
theorem dtimeStep : Statement (.dtimeStep) := by
  intro _ _ e; cases e
theorem holdoverLimit : Statement (.holdoverLimit) := by
  intro _ _ e; cases e
theorem refinQualify (devs : List Int) : Statement (.refinQualify devs) := by
  intro _ _ e; cases e
theorem refinFailure (edge : Bool) (dev ratio : Int) : Statement (.refinFailure edge dev ratio) := by
  intro _ _ e; cases e
theorem refinRestore (ratio : Int) : Statement (.refinRestore ratio) := by
  intro _ _ e; cases e
theorem tcxoFailure (edge : Bool) (dev : Int) : Statement (.tcxoFailure edge dev) := by
  intro _ _ e; cases e
theorem leapSecondApply : Statement (.leapSecondApply) := by
  intro _ _ e; cases e
theorem ppsPulse (n : Nat) (t : Ns) : Statement (.ppsPulse n t) := by
  intro _ _ e; cases e
theorem tpvalidChange : Statement (.tpvalidChange) := by
  intro _ _ e; cases e
theorem timeStatus (h : Hdr) : Statement (.timeStatus h) := by
  intro _ _ e; cases e; decide
theorem timeSourceUse (h : Hdr) (i use' : Nat) : Statement (.timeSourceUse h i use') := by
  intro _ _ e; cases e; decide
theorem timeReestablish (h : Hdr) : Statement (.timeReestablish h) := by
  intro _ _ e; cases e; decide
theorem kilnSampleCycle (z : KSample) : Statement (.kilnSampleCycle z) := by
  intro _ _ e; cases e
theorem discrepancyFault (n : Nat) : Statement (.discrepancyFault n) := by
  intro _ _ e; cases e
theorem testPulseStart (n : Nat) : Statement (.testPulseStart n) := by
  intro _ _ e; cases e
theorem testPulseEnd (n : Nat) : Statement (.testPulseEnd n) := by
  intro _ _ e; cases e
theorem openLoadWarning (o : Nat) : Statement (.openLoadWarning o) := by
  intro _ _ e; cases e
theorem fieldSupplyFault (f : Nat) : Statement (.fieldSupplyFault f) := by
  intro _ _ e; cases e
theorem fieldSupplyRestore (f : Nat) : Statement (.fieldSupplyRestore f) := by
  intro _ _ e; cases e
theorem switchTestStart (o : Nat) : Statement (.switchTestStart o) := by
  intro _ _ e; cases e
theorem switchTestPhaseEnd (o : Nat) : Statement (.switchTestPhaseEnd o) := by
  intro _ _ e; cases e
theorem switchTestOverdue (o : Nat) : Statement (.switchTestOverdue o) := by
  intro _ _ e; cases e
theorem offDelayExpiry (o : Nat) : Statement (.offDelayExpiry o) := by
  intro _ _ e; cases e
theorem resetInputRelease (n : Nat) : Statement (.resetInputRelease n) := by
  intro _ _ e; cases e
theorem tripLineAssert : Statement (.tripLineAssert) := by
  intro _ _ e; cases e
theorem tripClear (quiet : Nat) : Statement (.tripClear quiet) := by
  intro _ _ e; cases e
theorem heartbeatExchange (chal : Word) (bad badUp : Bool) (cyc : Nat) : Statement (.heartbeatExchange chal bad badUp cyc) := by
  intro _ _ e; cases e
theorem heartbeatTimeout (c : Nat) : Statement (.heartbeatTimeout c) := by
  intro _ _ e; cases e
theorem commandCopyCheck (err : Word) : Statement (.commandCopyCheck err) := by
  intro _ _ e; cases e
theorem kilnTableLoad : Statement (.kilnTableLoad) := by
  intro _ _ e; cases e
theorem kilnClear (h : Hdr) (kind index : Nat) : Statement (.kilnClear h kind index) := by
  intro _ _ e; cases e; decide
theorem kilnSwitchTest (h : Hdr) (mask : U16) : Statement (.kilnSwitchTest h mask) := by
  intro _ _ e; cases e; decide
theorem kilnWithhold (h : Hdr) (mask values : U16) : Statement (.kilnWithhold h mask values) := by
  intro _ _ e; cases e; decide
theorem mailboxClear (arg : Word) : Statement (.mailboxClear arg) := by
  intro _ _ e; cases e
theorem mailboxSwitchTest (arg : Word) : Statement (.mailboxSwitchTest arg) := by
  intro _ _ e; cases e
theorem mailboxReadTable (arg : Word) : Statement (.mailboxReadTable arg) := by
  intro _ _ e; cases e
theorem withholdMaskWrite (v : Word) : Statement (.withholdMaskWrite v) := by
  intro _ _ e; cases e
theorem crossTripLineLevel (x : Nat) (high : Bool) (held : Nat) : Statement (.crossTripLineLevel x high held) := by
  intro _ _ e; cases e
theorem claimFrameSend (line : List Bool) : Statement (.claimFrameSend line) := by
  intro _ _ e; cases e
theorem claimLineFree : Statement (.claimLineFree) := by
  intro _ _ e; cases e
theorem lclmFault (c : Nat) : Statement (.lclmFault c) := by
  intro _ _ e; cases e
theorem fastFrameSend : Statement (.fastFrameSend) := by
  intro _ _ e; cases e
theorem stateFrameSend : Statement (.stateFrameSend) := by
  intro _ _ e; cases e
theorem fastFrameReceive (lane : Bool) (b : List Byte) (t : Ns) (rtt : Nat) : Statement (.fastFrameReceive lane b t rtt) := by
  intro _ _ e; cases e
theorem stateFrameReceive (lane ok : Bool) (b : StateBody) : Statement (.stateFrameReceive lane ok b) := by
  intro _ _ e; cases e
theorem doryoLaneTimeout (lane : Bool) : Statement (.doryoLaneTimeout lane) := by
  intro _ _ e; cases e
theorem takeover : Statement (.takeover) := by
  intro _ _ e; cases e
theorem armDelayExpiry : Statement (.armDelayExpiry) := by
  intro _ _ e; cases e
theorem pairStatus (h : Hdr) : Statement (.pairStatus h) := by
  intro _ _ e; cases e; decide
theorem pairTransfer (h : Hdr) : Statement (.pairTransfer h) := by
  intro _ _ e; cases e; decide
theorem pairBar (h : Hdr) : Statement (.pairBar h) := by
  intro _ _ e; cases e; decide
theorem pairUnbar (h : Hdr) : Statement (.pairUnbar h) := by
  intro _ _ e; cases e; decide
theorem pickTaskRelease : Statement (.pickTaskRelease) := by
  intro _ _ e; cases e
theorem taskWatchdog (i : Nat) (t : Ns) : Statement (.taskWatchdog i t) := by
  intro _ _ e; cases e
theorem beatTaskLimit (t : Ns) : Statement (.beatTaskLimit t) := by
  intro _ _ e; cases e
theorem syncImageApply : Statement (.syncImageApply) := by
  intro _ _ e; cases e
theorem onlineChangeSwitch : Statement (.onlineChangeSwitch) := by
  intro _ _ e; cases e
theorem onlineChangeAbandon : Statement (.onlineChangeAbandon) := by
  intro _ _ e; cases e
theorem twNop : Statement (.twNop) := by
  intro _ _ e; cases e
theorem twLd : Statement (.twLd) := by
  intro _ _ e; cases e
theorem twSt : Statement (.twSt) := by
  intro _ _ e; cases e
theorem twDup : Statement (.twDup) := by
  intro _ _ e; cases e
theorem twDrop : Statement (.twDrop) := by
  intro _ _ e; cases e
theorem twSwap : Statement (.twSwap) := by
  intro _ _ e; cases e
theorem twLdx : Statement (.twLdx) := by
  intro _ _ e; cases e
theorem twStx : Statement (.twStx) := by
  intro _ _ e; cases e
theorem twAdd : Statement (.twAdd) := by
  intro _ _ e; cases e
theorem twSub : Statement (.twSub) := by
  intro _ _ e; cases e
theorem twMul : Statement (.twMul) := by
  intro _ _ e; cases e
theorem twDiv : Statement (.twDiv) := by
  intro _ _ e; cases e
theorem twMod : Statement (.twMod) := by
  intro _ _ e; cases e
theorem twNeg : Statement (.twNeg) := by
  intro _ _ e; cases e
theorem twAbs : Statement (.twAbs) := by
  intro _ _ e; cases e
theorem twMin : Statement (.twMin) := by
  intro _ _ e; cases e
theorem twMax : Statement (.twMax) := by
  intro _ _ e; cases e
theorem twLimit : Statement (.twLimit) := by
  intro _ _ e; cases e
theorem twSqrt : Statement (.twSqrt) := by
  intro _ _ e; cases e
theorem twSin : Statement (.twSin) := by
  intro _ _ e; cases e
theorem twCos : Statement (.twCos) := by
  intro _ _ e; cases e
theorem twAtan2 : Statement (.twAtan2) := by
  intro _ _ e; cases e
theorem twExp : Statement (.twExp) := by
  intro _ _ e; cases e
theorem twLn : Statement (.twLn) := by
  intro _ _ e; cases e
theorem twAnd : Statement (.twAnd) := by
  intro _ _ e; cases e
theorem twOr : Statement (.twOr) := by
  intro _ _ e; cases e
theorem twXor : Statement (.twXor) := by
  intro _ _ e; cases e
theorem twNot : Statement (.twNot) := by
  intro _ _ e; cases e
theorem twShl : Statement (.twShl) := by
  intro _ _ e; cases e
theorem twShr : Statement (.twShr) := by
  intro _ _ e; cases e
theorem twRol : Statement (.twRol) := by
  intro _ _ e; cases e
theorem twRor : Statement (.twRor) := by
  intro _ _ e; cases e
theorem twEq : Statement (.twEq) := by
  intro _ _ e; cases e
theorem twNe : Statement (.twNe) := by
  intro _ _ e; cases e
theorem twLt : Statement (.twLt) := by
  intro _ _ e; cases e
theorem twLe : Statement (.twLe) := by
  intro _ _ e; cases e
theorem twGt : Statement (.twGt) := by
  intro _ _ e; cases e
theorem twGe : Statement (.twGe) := by
  intro _ _ e; cases e
theorem twSel : Statement (.twSel) := by
  intro _ _ e; cases e
theorem twCvt : Statement (.twCvt) := by
  intro _ _ e; cases e
theorem twJmp : Statement (.twJmp) := by
  intro _ _ e; cases e
theorem twJmpc : Statement (.twJmpc) := by
  intro _ _ e; cases e
theorem twJmpcn : Statement (.twJmpcn) := by
  intro _ _ e; cases e
theorem twCall : Statement (.twCall) := by
  intro _ _ e; cases e
theorem twRet : Statement (.twRet) := by
  intro _ _ e; cases e
theorem twEnd (t : Ns) : Statement (.twEnd t) := by
  intro _ _ e; cases e
theorem twTon : Statement (.twTon) := by
  intro _ _ e; cases e
theorem twTof : Statement (.twTof) := by
  intro _ _ e; cases e
theorem twTp : Statement (.twTp) := by
  intro _ _ e; cases e
theorem twCtu : Statement (.twCtu) := by
  intro _ _ e; cases e
theorem twCtd : Statement (.twCtd) := by
  intro _ _ e; cases e
theorem twCtud : Statement (.twCtud) := by
  intro _ _ e; cases e
theorem twRTrig : Statement (.twRTrig) := by
  intro _ _ e; cases e
theorem twFTrig : Statement (.twFTrig) := by
  intro _ _ e; cases e
theorem twSr : Statement (.twSr) := by
  intro _ _ e; cases e
theorem twRs : Statement (.twRs) := by
  intro _ _ e; cases e
theorem twEvt : Statement (.twEvt) := by
  intro _ _ e; cases e
theorem shuttleRun (h : Hdr) (action : Nat) : Statement (.shuttleRun h action) := by
  intro _ _ e; cases e; decide
theorem shuttleTaskRestart (h : Hdr) (i : Nat) : Statement (.shuttleTaskRestart h i) := by
  intro _ _ e; cases e; decide
theorem onlineChange (h : Hdr) (flags : Nat) (id : U64) : Statement (.onlineChange h flags id) := by
  intro _ _ e; cases e; decide
theorem onlineChangeDiscard (h : Hdr) : Statement (.onlineChangeDiscard h) := by
  intro _ _ e; cases e; decide
theorem forceSet (h : Hdr) (sym elem : Word) (ty : Nat) (value : U64) (mram : Bool) : Statement (.forceSet h sym elem ty value mram) := by
  intro _ _ e; cases e; decide
theorem forceClear (h : Hdr) (sym elem : Word) (mram : Bool) : Statement (.forceClear h sym elem mram) := by
  intro _ _ e; cases e; decide
theorem forceClearAll (h : Hdr) (mram : Bool) : Statement (.forceClearAll h mram) := by
  intro _ _ e; cases e; decide
theorem forceList (h : Hdr) (first : Nat) : Statement (.forceList h first) := by
  intro _ _ e; cases e; decide
theorem ping (h : Hdr) : Statement (.ping h) := by
  intro _ _ e; cases e; decide
theorem getIdentity (h : Hdr) : Statement (.getIdentity h) := by
  intro _ _ e; cases e; decide
theorem getState (h : Hdr) : Statement (.getState h) := by
  intro _ _ e; cases e; decide
theorem getCertificate (h : Hdr) (start : Nat) : Statement (.getCertificate h start) := by
  intro _ _ e; cases e; decide
theorem getDraftInfo (h : Hdr) : Statement (.getDraftInfo h) := by
  intro _ _ e; cases e; decide
theorem goReady (h : Hdr) : Statement (.goReady h) := by
  intro _ _ e; cases e; decide
theorem goActive (h : Hdr) : Statement (.goActive h) := by
  intro _ _ e; cases e; decide
theorem goSafe (h : Hdr) : Statement (.goSafe h) := by
  intro _ _ e; cases e; decide
theorem leaveSafe (h : Hdr) : Statement (.leaveSafe h) := by
  intro _ _ e; cases e; decide
theorem goStandby (h : Hdr) : Statement (.goStandby h) := by
  intro _ _ e; cases e; decide
theorem enterService (h : Hdr) : Statement (.enterService h) := by
  intro _ _ e; cases e; decide
theorem restart (h : Hdr) (kind : Nat) : Statement (.restart h kind) := by
  intro _ _ e; cases e; decide
theorem setDpMode (h : Hdr) (code trk : Nat) : Statement (.setDpMode h code trk) := by
  intro _ _ e; cases e; decide
theorem setPosition (h : Hdr) (flag : Nat) (north east : Word) : Statement (.setPosition h flag north east) := by
  intro _ _ e; cases e; decide
theorem setHeading (h : Hdr) (hdg : Bam) (dir : Nat) : Statement (.setHeading h hdg dir) := by
  intro _ _ e; cases e; decide
theorem setMotionLimits (h : Hdr) (v a r y : F32) : Statement (.setMotionLimits h v a r y) := by
  intro _ _ e; cases e; decide
theorem loadTrack (h : Hdr) (pts : List Waypoint) : Statement (.loadTrack h pts) := by
  intro _ _ e; cases e; decide
theorem setFollow (h : Hdr) (north east : Word) (rule : Nat) : Statement (.setFollow h north east rule) := by
  intro _ _ e; cases e; decide
theorem setWindFf (h : Hdr) (enable : Nat) (kw : F32) : Statement (.setWindFf h enable kw) := by
  intro _ _ e; cases e; decide
theorem setThrusterUse (h : Hdr) (t use' : Nat) : Statement (.setThrusterUse h t use') := by
  intro _ _ e; cases e; decide
theorem selectReference (h : Hdr) (g sess : Nat) : Statement (.selectReference h g sess) := by
  intro _ _ e; cases e; decide
theorem releaseReference (h : Hdr) (g : Nat) : Statement (.releaseReference h g) := by
  intro _ _ e; cases e; decide
theorem draftActivate (h : Hdr) (id : U64) (mram : Bool) : Statement (.draftActivate h id mram) := by
  intro _ _ e; cases e; decide
theorem draftDiscard (h : Hdr) : Statement (.draftDiscard h) := by
  intro _ _ e; cases e; decide
theorem draftRevert (h : Hdr) (id : U64) (mram : Bool) : Statement (.draftRevert h id mram) := by
  intro _ _ e; cases e; decide
theorem ledgerInfo (h : Hdr) : Statement (.ledgerInfo h) := by
  intro _ _ e; cases e; decide
theorem ledgerRead (h : Hdr) (first : Word) (count : Nat) : Statement (.ledgerRead h first count) := by
  intro _ _ e; cases e; decide
theorem firmwareActivate (h : Hdr) (flags : Nat) (mram : Bool) : Statement (.firmwareActivate h flags mram) := by
  intro _ _ e; cases e; decide
theorem anchorAdd (h : Hdr) (kind level : Nat) (keyId : U64) (certOk mram : Bool) : Statement (.anchorAdd h kind level keyId certOk mram) := by
  intro _ _ e; cases e; decide
theorem anchorRemove (h : Hdr) (kind : Nat) (keyId : U64) (mram : Bool) : Statement (.anchorRemove h kind keyId mram) := by
  intro _ _ e; cases e; decide
theorem anchorList (h : Hdr) : Statement (.anchorList h) := by
  intro _ _ e; cases e; decide
theorem safetyUnlock (h : Hdr) (pw : List Byte) : Statement (.safetyUnlock h pw) := by
  intro _ _ e; cases e; decide
theorem safetyLock (h : Hdr) : Statement (.safetyLock h) := by
  intro _ _ e; cases e; decide
theorem safetyPasswordSet (h : Hdr) (pw : List Byte) (salt : BitVec 128) (mram : Bool) : Statement (.safetyPasswordSet h pw salt mram) := by
  intro _ _ e; cases e; decide
theorem safetyPasswordReset (h : Hdr) (mram : Bool) : Statement (.safetyPasswordReset h mram) := by
  intro _ _ e; cases e; decide
theorem recStatus (h : Hdr) : Statement (.recStatus h) := by
  intro _ _ e; cases e; decide
theorem recRead (h : Hdr) (area : Nat) (rseq : Word) (ofs fixes : Nat) : Statement (.recRead h area rseq ofs fixes) := by
  intro _ _ e; cases e; decide
theorem recFreeze (h : Hdr) (fromH fromUs toH toUs : Word) : Statement (.recFreeze h fromH fromUs toH toUs) := by
  intro _ _ e; cases e; decide
theorem recRelease (h : Hdr) (i : Nat) : Statement (.recRelease h i) := by
  intro _ _ e; cases e; decide
theorem telemConfig (h : Hdr) (i enable : Nat) (ip : Word) (port : U16) (mask decim : Nat) (mram : Bool) : Statement (.telemConfig h i enable ip port mask decim mram) := by
  intro _ _ e; cases e; decide
theorem memRead (h : Hdr) (a n : Nat) : Statement (.memRead h a n) := by
  intro _ _ e; cases e; decide
theorem memWrite (h : Hdr) (a : Nat) (b : List Byte) (mram : Bool) : Statement (.memWrite h a b mram) := by
  intro _ _ e; cases e; decide
theorem bulkOpen (h : Hdr) (target len : Nat) (digest : List Byte) : Statement (.bulkOpen h target len digest) := by
  intro _ _ e; cases e; decide
theorem bulkWrite (h : Hdr) (ofs : Nat) (data : List Byte) : Statement (.bulkWrite h ofs data) := by
  intro _ _ e; cases e; decide
theorem bulkClose (h : Hdr) (img : BulkImage) (nand : Bool) : Statement (.bulkClose h img nand) := by
  intro _ _ e; cases e; decide
theorem bulkAbort (h : Hdr) : Statement (.bulkAbort h) := by
  intro _ _ e; cases e; decide
theorem bulkTimeout : Statement (.bulkTimeout) := by
  intro _ _ e; cases e
theorem clientHello (p : Nat) (cookie : Bool) (t : Ns) : Statement (.clientHello p cookie t) := by
  intro _ _ e; cases e
theorem closeNotify (i : Nat) : Statement (.closeNotify i) := by
  intro _ _ e; cases e
theorem commandSessionTimeout (i : Nat) : Statement (.commandSessionTimeout i) := by
  intro _ _ e; cases e
theorem safetyExpiry (i : Nat) : Statement (.safetyExpiry i) := by
  intro _ _ e; cases e
theorem lockoutExpiry : Statement (.lockoutExpiry) := by
  intro _ _ e; cases e
theorem svcEnLow : Statement (.svcEnLow) := by
  intro _ _ e; cases e
theorem portLinkUp (p speed : Nat) (mdix : Bool) : Statement (.portLinkUp p speed mdix) := by
  intro _ _ e; cases e
theorem portLinkDown (p : Nat) : Statement (.portLinkDown p) := by
  intro _ _ e; cases e
theorem prpSupervisionSend : Statement (.prpSupervisionSend) := by
  intro _ _ e; cases e
theorem lanSilence (p : Nat) : Statement (.lanSilence p) := by
  intro _ _ e; cases e
theorem ringSupervisionSend : Statement (.ringSupervisionSend) := by
  intro _ _ e; cases e
theorem prpFrameReceive (p n : Nat) (src : List Byte) (seq : Option Nat) (bad : Bool) (b : EthBody) (t : Ns) : Statement (.prpFrameReceive p n src seq bad b t) := by
  intro _ _ e; cases e
theorem ringFrameForward (ing : Nat) (src : List Byte) (seq : Nat) (own sup bad : Bool) (mine queued : Nat) (b : List Byte) : Statement (.ringFrameForward ing src seq own sup bad mine queued b) := by
  intro _ _ e; cases e
theorem arpRequest (p : Nat) (mine conflict : Bool) : Statement (.arpRequest p mine conflict) := by
  intro _ _ e; cases e
theorem icmpEchoRequest (p : Nat) (b : List Byte) : Statement (.icmpEchoRequest p b) := by
  intro _ _ e; cases e
theorem igmpQuery (v3 : Bool) : Statement (.igmpQuery v3) := by
  intro _ _ e; cases e
theorem admissionOpen : Statement (.admissionOpen) := by
  intro _ _ e; cases e
theorem uartCharacterReceive (u : Nat) (c : Byte) (err : Nat) (t : Ns) : Statement (.uartCharacterReceive u c err t) := by
  intro _ _ e; cases e
theorem canFrameReceive (c id rec' : Nat) (fast full : Bool) (b : List Byte) (t : Ns) : Statement (.canFrameReceive c id rec' fast full b t) := by
  intro _ _ e; cases e
theorem canBusOff (c : Nat) : Statement (.canBusOff c) := by
  intro _ _ e; cases e
theorem canBusOffRecovery (c : Nat) : Statement (.canBusOffRecovery c) := by
  intro _ _ e; cases e
theorem iec61162450Datagram (p : Nat) (group : Word) (dport : Nat) (b : List Byte) (t : Ns) : Statement (.iec61162450Datagram p group dport b t) := by
  intro _ _ e; cases e
theorem udpBinaryDatagram (p : Nat) (src : Word) (sport : Nat) (b : List Byte) (t : Ns) : Statement (.udpBinaryDatagram p src sport b t) := by
  intro _ _ e; cases e
theorem outputSessionSend (i : Nat) : Statement (.outputSessionSend i) := by
  intro _ _ e; cases e
theorem rioRequestBuild : Statement (.rioRequestBuild) := by
  intro _ _ e; cases e
theorem rioReplyReceive (k : Nat) (b : List Byte) (t : Ns) : Statement (.rioReplyReceive k b t) := by
  intro _ _ e; cases e
theorem glazeBackgroundTest (bad : BitVec 16) : Statement (.glazeBackgroundTest bad) := by
  intro _ _ e; cases e
theorem adcOutputSample (c j : Nat) (pa pb : Bool) (t : Ns) : Statement (.adcOutputSample c j pa pb t) := by
  intro _ _ e; cases e
theorem sampleLinkFrame (ok : Bool) (bits : List (List Bool)) (t : Ns) : Statement (.sampleLinkFrame ok bits t) := by
  intro _ _ e; cases e
theorem shuntDisconnect (c : Nat) : Statement (.shuntDisconnect c) := by
  intro _ _ e; cases e
theorem shuntReconnect (c below : Nat) : Statement (.shuntReconnect c below) := by
  intro _ _ e; cases e
theorem calibrationSlotStart : Statement (.calibrationSlotStart) := by
  intro _ _ e; cases e
theorem calibrationPhaseEnd (formed : Bool) : Statement (.calibrationPhaseEnd formed) := by
  intro _ _ e; cases e
theorem pageProgram (outcome : Nat) : Statement (.pageProgram outcome) := by
  intro _ _ e; cases e
theorem blockErase (arch fail : Bool) : Statement (.blockErase arch fail) := by
  intro _ _ e; cases e
theorem flushComplete : Statement (.flushComplete) := by
  intro _ _ e; cases e
theorem monHelp : Statement (.monHelp) := by
  intro _ _ e; cases e
theorem monId : Statement (.monId) := by
  intro _ _ e; cases e
theorem monSt : Statement (.monSt) := by
  intro _ _ e; cases e
theorem monTime : Statement (.monTime) := by
  intro _ _ e; cases e
theorem monEv : Statement (.monEv) := by
  intro _ _ e; cases e
theorem monRec : Statement (.monRec) := by
  intro _ _ e; cases e
theorem monRd : Statement (.monRd) := by
  intro _ _ e; cases e
theorem monWr (mram : Bool) : Statement (.monWr mram) := by
  intro _ _ e; cases e
theorem monLog : Statement (.monLog) := by
  intro _ _ e; cases e
theorem sysOtimeHRead : Statement (.sysOtimeHRead) := by
  intro _ _ e; cases e
theorem warpCfgWrite (v : Word) : Statement (.warpCfgWrite v) := by
  intro _ _ e; cases e
theorem warpConeWrite (v : Word) : Statement (.warpConeWrite v) := by
  intro _ _ e; cases e
theorem warpBgWrite (v : Word) : Statement (.warpBgWrite v) := by
  intro _ _ e; cases e
theorem warpPickHRead : Statement (.warpPickHRead) := by
  intro _ _ e; cases e
theorem warpBeatHRead : Statement (.warpBeatHRead) := by
  intro _ _ e; cases e
theorem warpNextedgeHRead : Statement (.warpNextedgeHRead) := by
  intro _ _ e; cases e
theorem heddleSesselWrite (v : Word) : Statement (.heddleSesselWrite v) := by
  intro _ _ e; cases e
theorem heddleTrkselWrite (v : Word) : Statement (.heddleTrkselWrite v) := by
  intro _ _ e; cases e
theorem obsSelWrite (v : Word) : Statement (.obsSelWrite v) := by
  intro _ _ e; cases e
theorem wheelFpHRead : Statement (.wheelFpHRead) := by
  intro _ _ e; cases e
theorem wheelEngRead : Statement (.wheelEngRead) := by
  intro _ _ e; cases e
theorem allocThrselWrite (v : Word) : Statement (.allocThrselWrite v) := by
  intro _ _ e; cases e
theorem pwrSecselWrite (v : Word) : Statement (.pwrSecselWrite v) := by
  intro _ _ e; cases e
theorem loopSlotselWrite (v : Word) : Statement (.loopSlotselWrite v) := by
  intro _ _ e; cases e
theorem gnssStrmselWrite (v : Word) : Statement (.gnssStrmselWrite v) := by
  intro _ _ e; cases e
theorem gnssChselWrite (v : Word) : Statement (.gnssChselWrite v) := by
  intro _ _ e; cases e
theorem gnssSigselWrite (v : Word) : Statement (.gnssSigselWrite v) := by
  intro _ _ e; cases e
theorem timeDtHRead : Statement (.timeDtHRead) := by
  intro _ _ e; cases e
theorem timeSrcselWrite (v : Word) : Statement (.timeSrcselWrite v) := by
  intro _ _ e; cases e
theorem kilnSealHRead : Statement (.kilnSealHRead) := by
  intro _ _ e; cases e
theorem kilnInselWrite (v : Word) : Statement (.kilnInselWrite v) := by
  intro _ _ e; cases e
theorem kilnOutselWrite (v : Word) : Statement (.kilnOutselWrite v) := by
  intro _ _ e; cases e
theorem shuttleProgidHRead : Statement (.shuttleProgidHRead) := by
  intro _ _ e; cases e
theorem shuttleRetidHRead : Statement (.shuttleRetidHRead) := by
  intro _ _ e; cases e
theorem shuttleTaskselWrite (v : Word) : Statement (.shuttleTaskselWrite v) := by
  intro _ _ e; cases e
theorem shuttleTaskstatRead : Statement (.shuttleTaskstatRead) := by
  intro _ _ e; cases e
theorem secSerialHRead : Statement (.secSerialHRead) := by
  intro _ _ e; cases e
theorem netPortselWrite (v : Word) : Statement (.netPortselWrite v) := by
  intro _ _ e; cases e
theorem netSesselWrite (v : Word) : Statement (.netSesselWrite v) := by
  intro _ _ e; cases e
theorem fieldUartselWrite (v : Word) : Statement (.fieldUartselWrite v) := by
  intro _ _ e; cases e
theorem fieldCanselWrite (v : Word) : Statement (.fieldCanselWrite v) := by
  intro _ _ e; cases e
theorem rioStaselWrite (v : Word) : Statement (.rioStaselWrite v) := by
  intro _ _ e; cases e
theorem glazePsselWrite (v : Word) : Statement (.glazePsselWrite v) := by
  intro _ _ e; cases e
theorem glazeSwselWrite (v : Word) : Statement (.glazeSwselWrite v) := by
  intro _ _ e; cases e
theorem glazeSwrunWrite (v : Word) : Statement (.glazeSwrunWrite v) := by
  intro _ _ e; cases e
theorem glazeSwrunRead : Statement (.glazeSwrunRead) := by
  intro _ _ e; cases e
theorem glazeSwdataWrite (v : Word) : Statement (.glazeSwdataWrite v) := by
  intro _ _ e; cases e
theorem glazeSwchkRead : Statement (.glazeSwchkRead) := by
  intro _ _ e; cases e
theorem adcChselWrite (v : Word) : Statement (.adcChselWrite v) := by
  intro _ _ e; cases e
theorem registerWrite (a : Nat) (v : Word) : Statement (.registerWrite a v) := by
  intro _ _ e; cases e
theorem unknownOpcode (sess : Nat) (b : List Byte) : Statement (.unknownOpcode sess b) := by
  intro _ _ e; cases e
theorem dtlsHandshakeComplete (i : Nat) (hs : Handshake) (leaf : U64) (chain : List U64) (anchor : U64) (certOk periodOk : Bool) (t : Ns) : Statement (.dtlsHandshakeComplete i hs leaf chain anchor certOk periodOk t) := by
  intro _ _ e; cases e
theorem monCharacterReceive (c : Byte) : Statement (.monCharacterReceive c) := by
  intro _ _ e; cases e
theorem monUnknownCommand : Statement (.monUnknownCommand) := by
  intro _ _ e; cases e
theorem canBusError (c tec rec' : Nat) : Statement (.canBusError c tec rec') := by
  intro _ _ e; cases e
theorem delayReqSend (i p : Nat) (t : Ns) : Statement (.delayReqSend i p t) := by
  intro _ _ e; cases e
theorem pdelayReqSend (p : Nat) (t : Ns) : Statement (.pdelayReqSend p t) := by
  intro _ _ e; cases e
theorem announceSend (i : Nat) : Statement (.announceSend i) := by
  intro _ _ e; cases e
theorem holdChargeComplete (uc : Nat) : Statement (.holdChargeComplete uc) := by
  intro _ _ e; cases e
end Sys2Proof.Laws.KnownOpcode
end

