-- ==== Sys2Proof/Laws/Twill.lean ====
section
/-! SUPPORT. What the Twill interpreter does with the running task's next instruction, once for all instructions. -/

namespace Sys2Proof.Machine

/-- An instruction that goes through leaves its task as it gives it. -/
theorem State.twRun_next {s : State} {op t : Nat} {k : Task} {i : TwIns} {f : State → Nat → TwIns → Task → TwOut} {o : TwOut}
    (h : s.runs op t k i) (ho : f s t i { k with pc := i.next } = o) (hf : o.fault = 0) (hg : o.flag = false) :
    s.twRun op f = s.stepped t o.task o.blocked := by
  obtain ⟨h1, h2, h3, h4, h5⟩ := h
  simp [State.twRun, h1, h2, h3, h4, h5, ho, hf, hg, State.stepped]

/-- One that raises a flag also raises the event of its task, at most once a minute. -/
theorem State.twRun_flag {s : State} {op t : Nat} {k : Task} {i : TwIns} {f : State → Nat → TwIns → Task → TwOut} {o : TwOut}
    (h : s.runs op t k i) (ho : f s t i { k with pc := i.next } = o) (hf : o.fault = 0) (hg : o.flag = true) :
    s.twRun op f = (s.stepped t o.task o.blocked).raiseLimited (0x12120006 * 16 + t) 60000000 0x12120006#32 [byteOf t] := by
  obtain ⟨h1, h2, h3, h4, h5⟩ := h
  simp [State.twRun, h1, h2, h3, h4, h5, ho, hf, hg, State.stepped]

/-- One that faults aborts its task at its own address. -/
theorem State.twRun_fault {s : State} {op t : Nat} {k : Task} {i : TwIns} {f : State → Nat → TwIns → Task → TwOut} {o : TwOut}
    (h : s.runs op t k i) (ho : f s t i { k with pc := i.next } = o) (hf : o.fault ≠ 0) :
    s.twRun op f = s.twAbort t o.fault k.pc := by
  obtain ⟨h1, h2, h3, h4, h5⟩ := h
  simp [State.twRun, h1, h2, h3, h4, h5, ho, hf]

/-- The values vs pushed on a stack with room. -/
theorem twPush_room {k : Task} {vs : List U64} (h : vs.length + k.stack.length ≤ 64) :
    twPush k vs = { task := { k with stack := vs.reverse ++ k.stack } } := by
  have : (vs.reverse ++ k.stack).length ≤ 64 := by simp only [List.length_append, List.length_reverse]; exact h
  simp only [twPush]
  rw [if_neg (Nat.not_lt.mpr this)]

/-- The values vs, the last on top, taken from the stack. -/
theorem twPop_values {k : Task} {vs rest : List U64} {n : Nat} (hn : vs.length = n) (h : k.stack = vs.reverse ++ rest) :
    twPop k n = some (vs, { k with stack := rest }) := by
  subst hn
  have hl : ¬ k.stack.length < vs.length := by simp [h]
  have h1 : k.stack.take vs.length = vs.reverse := by rw [h]; simp
  have h2 : k.stack.drop vs.length = rest := by rw [h]; simp
  simp [twPop, hl, h1, h2]

/-- An instruction that replaces values by values. -/
theorem State.twRun_pure {s : State} {op t n : Nat} {k : Task} {i : TwIns} {f : TwIns → List U64 → List U64} {vs rest : List U64}
    (h : s.runs op t k i) (hn : vs.length = n) (hs : k.stack = vs.reverse ++ rest) (hl : (f i vs).length + rest.length ≤ 64) :
    s.twRun op (twLocal (twPure n f)) = s.stepped t { k with pc := i.next, stack := (f i vs).reverse ++ rest } := by
  refine State.twRun_next (o := { task := { k with pc := i.next, stack := (f i vs).reverse ++ rest } }) h ?_ rfl rfl
  simp only [twLocal, twPure]
  rw [twPop_values (k := { k with pc := i.next }) hn hs]
  simp only []
  rw [twPush_room hl]

@[simp] theorem twField_stack (k : Task) (a b n v : Nat) : (twField k a b n v).stack = k.stack := rfl

/-- The block as it is read from its instance at byte y of area a. -/
def twBlockAt (s : State) (k : Task) (a y : Nat) : TwBlock :=
  { area := a, at' := y, prev := twGet k a (y + 2) 1, flag := nbit (twGet k a (y + 3) 1) 0
    fresh := twGet k a y 2 != s.shuttle.starts.toNat % 65536 }

/-- A built-in block with its inputs vs on the stack and its instance in place: the fields its body gives are written, then
START16, PREV and STATEFL, and its outputs are pushed. -/
theorem twBuiltin_runs {n size : Nat} {s : State} {i : TwIns} {k : Task}
    {body : TwBlock → List U64 → List U64 × Bool × List (Nat × Nat × Nat) × Nat} {vs rest : List U64} {a bit : Nat}
    {out : List U64} {fl : Bool} {fields : List (Nat × Nat × Nat)} {prev : Nat}
    (hn : vs.length = n) (hs : k.stack = vs.reverse ++ rest) (ha : twAddr k i.mode i.ext1 = some (a, bit)) (h64 : bit % 64 = 0)
    (hr : bit + size * 8 ≤ areaSize a * 8) (hb : body (twBlockAt s k a (bit / 8)) vs = (out, fl, fields, prev))
    (hl : out.length + rest.length ≤ 64) :
    twBuiltin n size s i k body = { task :=
      let k2 := fields.foldl (fun (c : Task) e => twField c a (bit / 8 + e.1) e.2.1 e.2.2) { k with stack := rest }
      let k3 := twField (twField (twField k2 a (bit / 8) 2 (s.shuttle.starts.toNat % 65536)) a (bit / 8 + 2) 1 prev) a (bit / 8 + 3) 1
        (b2n fl)
      { k3 with stack := out.reverse ++ rest } } := by
  have h1 : ¬ (bit % 64 ≠ 0 ∨ areaSize a * 8 < bit + size * 8) := by omega
  have hst : ∀ (l : List (Nat × Nat × Nat)) (c : Task),
      (l.foldl (fun (c : Task) e => twField c a (bit / 8 + e.1) e.2.1 e.2.2) c).stack = c.stack := by
    intro l
    induction l with
    | nil => intro c; rfl
    | cons e l ih => intro c; simp only [List.foldl_cons]; rw [ih]; rfl
  simp only [twBuiltin, ha]
  rw [twPop_values hn hs]
  simp only [if_neg h1]
  have hb' : body (twBlockAt s { k with stack := rest } a (bit / 8)) vs = (out, fl, fields, prev) := hb
  simp only [twBlockAt] at hb'
  rw [hb']
  simp only []
  rw [twPush_room (by simp only [twField_stack, hst]; exact hl)]
  simp only [twField_stack, hst]

end Sys2Proof.Machine
end

