-- ==== Sys2Proof/WellFormed.lean ====
section
/-! DEFINITION. Which commands are well formed: the ranges that the spec gives their operands. -/

namespace Sys2Proof

/-- The operands of a command lie in the ranges that the spec gives them. -/
def Instr.wf (i : Instr) : Bool :=
  match i with
  | .powerUp _ => true
  | .powerFailWarning => true
  | .warningWithdrawn => true
  | .holdUpEnd => true
  | .rstNLow => true
  | .pmicWatchdogExpiry => true
  | .railFault rail => decide (rail < 5)
  | .thermalShutdown => true
  | .thermalRecovery _ _ _ _ _ => true
  | .vinOutOfBand => true
  | .holdCapacitanceMeasure us => decide (us < 4294967296)
  | .holdChargeTimeout => true
  | .bootVerifyComplete _ _ _ _ => true
  | .selftestComplete _ _ _ _ _ _ => true
  | .clockComparison counts _ => decide (counts.length = 13)
  | .otimeSave => true
  | .pickTick netUs _ streams exc _ pw => decide (netUs < 2000 ∧ streams.length ≤ 12 ∧ exc.length = 8) && decide (pw.vin < 4294967296 ∧ pw.hold < 4294967296 ∧ pw.vbat < 4294967296 ∧ pw.inPwr < 4294967296)
  | .beatEdge => true
  | .dropWindowDegrade => true
  | .dropWindowClear => true
  | .dropRunSafe => true
  | .intake => true
  | .projectAndVote => true
  | .observe => true
  | .maxDeadReckoningTime t => decide (t < 1000051)
  | .waveFrequencyUpdate => true
  | .obsWarmRecordWrite => true
  | .beatTaskRelease => true
  | .guide t => decide (t < 1000051)
  | .softStartComplete => true
  | .solveStart _ t => decide (t < 1000051)
  | .wheelIteration _ _ t => decide (t < 1000051)
  | .coneSolveDeadline _ _ _ => true
  | .wheelDegradedEntry => true
  | .wheelDegradedEnd => true
  | .wheelMissSafe => true
  | .wheelRecordCopy => true
  | .consequenceCycleStart => true
  | .consequenceScenarioEnd _ _ => true
  | .record t => decide (t < 1000051)
  | .recordComplete t => decide (t < 1000051)
  | .coneStageOverrun _ => true
  | .coneGuideLate => true
  | .coneTelegramsLate _ => true
  | .coneWithholdLimit _ => true
  | .coneRecordLate t => decide (t < 1000051)
  | .conePhaseBackLate => true
  | .coneLoopOverrun => true
  | .coneShuttleOverrun _ => true
  | .scrubLate _ => true
  | .telegramDecode => true
  | .trackTimeout k t => decide (k < 64 ∧ t < 1000051)
  | .sessionStale i t => decide (i < 512 ∧ t < 1000051)
  | .sessionLost i t => decide (i < 512 ∧ t < 1000051)
  | .sessionUnbar i t => decide (i < 512 ∧ t < 1000051)
  | .fastInputChange k _ t => decide (k < 16 ∧ t < 1000051)
  | .gooseFrameReceive p _ _ _ _ _ _ _ m t => decide (p < 2 ∧ m.length ≤ 64 ∧ t < 1000051)
  | .gooseStale i t => decide (i < 512 ∧ t < 1000051)
  | .breakerIntermediateTimeout _ i src t => decide (i < 16 ∧ src < 2 ∧ t < 1000051)
  | .breakerDisagreement _ i t => decide (i < 16 ∧ t < 1000051)
  | .generatorOnline g t => decide (g < 16 ∧ t < 1000051)
  | .tripCheck _ _ => true
  | .driveStatusReceive i _ t => decide (i < 512 ∧ t < 1000051)
  | .loopEngineRun _ => true
  | .slotSoftComplete k => decide (k < 64)
  | .followingErrorTimeout k => decide (k < 64)
  | .slotAutoRecovery k => decide (k < 64)
  | .periodSourceInvalid k => decide (k < 64)
  | .resetLoopSlot _ k => decide (k < 256)
  | .groupTrainingStart a => decide (a < 3)
  | .groupTrainingComplete a _ => decide (a < 3)
  | .groupRetrainTimer a => decide (a < 3)
  | .gnssRetrain _ mask => decide (mask < 256)
  | .acquisitionSearchComplete _ => true
  | .demandList _ _ => true
  | .channelLostTimeout c => decide (c < 384)
  | .accumulationDump c _ t => decide (c < 384 ∧ t < 1000051)
  | .loopUpdate c _ _ _ t => decide (c < 384 ∧ t < 1000051)
  | .featureGrid _ => true
  | .commonLatch _ => true
  | .rawRecordPost t => decide (t < 1000051)
  | .positionRecordPost t => decide (t < 1000051)
  | .attitudeRecordPost t => decide (t < 1000051)
  | .gnssRecordDiscard t => decide (t < 1000051)
  | .exclusionHoldExpiry => true
  | .withdrawalEnd _ => true
  | .rtcmMessageReceive i _ t => decide (i < 512 ∧ t < 1000051)
  | .ptpSyncReceive i p _ seq _ _ _ logInt _ => decide (i < 2 ∧ p < 2 ∧ seq < 65536 ∧ -128 ≤ logInt ∧ logInt ≤ 127)
  | .followUpReceive i p seq _ _ _ _ _ => decide (i < 2 ∧ p < 4 ∧ seq < 65536)
  | .announceReceive i _ => decide (i < 2)
  | .delayRespReceive i p seq _ => decide (i < 2 ∧ p < 2 ∧ seq < 65536)
  | .delayReqReceive i p seq t => decide (i < 2 ∧ p < 2 ∧ seq < 65536 ∧ t < 1000051)
  | .pdelayReqReceive p seq t => decide (p < 4 ∧ seq < 65536 ∧ t < 1000051)
  | .pdelayRespReceive p seq _ _ => decide (p < 4 ∧ seq < 65536)
  | .managementMessageReceive => true
  | .ringPtpForward ing seq _ _ _ _ _ _ _ => decide ((ing = 2 ∨ ing = 3) ∧ seq < 65536)
  | .masterSyncSend i => decide (i < 2)
  | .ringSyncSend => true
  | .ptpSourceTimeout i => decide (i < 2)
  | .sourceQualified i => decide (i < 3)
  | .sourceFaultExpiry i => decide (i < 3)
  | .suspectReturn i => decide (i < 3)
  | .dtimeStep => true
  | .holdoverLimit => true
  | .refinQualify _ => true
  | .refinFailure _ _ _ => true
  | .refinRestore _ => true
  | .tcxoFailure _ _ => true
  | .leapSecondApply => true
  | .ppsPulse n t => decide (n < 2 ∧ t < 1000051)
  | .tpvalidChange => true
  | .timeStatus _ => true
  | .timeSourceUse _ i use' => decide (i < 256 ∧ use' < 256)
  | .timeReestablish _ => true
  | .kilnSampleCycle _ => true
  | .discrepancyFault n => decide (n < 32)
  | .testPulseStart n => decide (n < 8)
  | .testPulseEnd n => decide (n < 8)
  | .openLoadWarning o => decide (o < 16)
  | .fieldSupplyFault f => decide (f < 2)
  | .fieldSupplyRestore f => decide (f < 2)
  | .switchTestStart o => decide (o < 16)
  | .switchTestPhaseEnd o => decide (o < 16)
  | .switchTestOverdue o => decide (o < 16)
  | .offDelayExpiry o => decide (o < 16)
  | .resetInputRelease n => decide (n < 32)
  | .tripLineAssert => true
  | .tripClear _ => true
  | .heartbeatExchange _ _ _ cyc => decide (cyc < 500)
  | .heartbeatTimeout c => decide (c < 500)
  | .commandCopyCheck _ => true
  | .kilnTableLoad => true
  | .kilnClear _ kind index => decide (kind < 256 ∧ index < 256)
  | .kilnSwitchTest _ _ => true
  | .kilnWithhold _ _ _ => true
  | .mailboxClear _ => true
  | .mailboxSwitchTest _ => true
  | .mailboxReadTable _ => true
  | .withholdMaskWrite _ => true
  | .crossTripLineLevel x _ _ => decide (x < 4)
  | .claimFrameSend line => decide (line.length = 19)
  | .claimLineFree => true
  | .lclmFault c => decide (c < 3)
  | .fastFrameSend => true
  | .stateFrameSend => true
  | .fastFrameReceive _ _ t _ => decide (t < 1000051)
  | .stateFrameReceive _ _ _ => true
  | .doryoLaneTimeout _ => true
  | .takeover => true
  | .armDelayExpiry => true
  | .pairStatus _ => true
  | .pairTransfer _ => true
  | .pairBar _ => true
  | .pairUnbar _ => true
  | .pickTaskRelease => true
  | .taskWatchdog i t => decide (i < 8 ∧ t < 1000051)
  | .beatTaskLimit t => decide (t < 1000051)
  | .syncImageApply => true
  | .onlineChangeSwitch => true
  | .onlineChangeAbandon => true
  | .twNop => true
  | .twLd => true
  | .twSt => true
  | .twDup => true
  | .twDrop => true
  | .twSwap => true
  | .twLdx => true
  | .twStx => true
  | .twAdd => true
  | .twSub => true
  | .twMul => true
  | .twDiv => true
  | .twMod => true
  | .twNeg => true
  | .twAbs => true
  | .twMin => true
  | .twMax => true
  | .twLimit => true
  | .twSqrt => true
  | .twSin => true
  | .twCos => true
  | .twAtan2 => true
  | .twExp => true
  | .twLn => true
  | .twAnd => true
  | .twOr => true
  | .twXor => true
  | .twNot => true
  | .twShl => true
  | .twShr => true
  | .twRol => true
  | .twRor => true
  | .twEq => true
  | .twNe => true
  | .twLt => true
  | .twLe => true
  | .twGt => true
  | .twGe => true
  | .twSel => true
  | .twCvt => true
  | .twJmp => true
  | .twJmpc => true
  | .twJmpcn => true
  | .twCall => true
  | .twRet => true
  | .twEnd t => decide (t < 1000051)
  | .twTon => true
  | .twTof => true
  | .twTp => true
  | .twCtu => true
  | .twCtd => true
  | .twCtud => true
  | .twRTrig => true
  | .twFTrig => true
  | .twSr => true
  | .twRs => true
  | .twEvt => true
  | .shuttleRun _ action => decide (action < 256)
  | .shuttleTaskRestart _ i => decide (i < 256)
  | .onlineChange _ flags _ => decide (flags < 256)
  | .onlineChangeDiscard _ => true
  | .forceSet _ _ _ ty _ _ => decide (ty < 256)
  | .forceClear _ _ _ _ => true
  | .forceClearAll _ _ => true
  | .forceList _ first => decide (first < 65536)
  | .ping _ => true
  | .getIdentity _ => true
  | .getState _ => true
  | .getCertificate _ start => decide (start < 65536)
  | .getDraftInfo _ => true
  | .goReady _ => true
  | .goActive _ => true
  | .goSafe _ => true
  | .leaveSafe _ => true
  | .goStandby _ => true
  | .enterService _ => true
  | .restart _ kind => decide (kind < 256)
  | .setDpMode _ code trk => decide (code < 256 ∧ trk < 256)
  | .setPosition _ flag _ _ => decide (flag < 256)
  | .setHeading _ _ dir => decide (dir < 256)
  | .setMotionLimits _ _ _ _ _ => true
  | .loadTrack _ pts => decide (pts.length < 65536)
  | .setFollow _ _ _ rule => decide (rule < 256)
  | .setWindFf _ enable _ => decide (enable < 256)
  | .setThrusterUse _ t use' => decide (t < 256 ∧ use' < 256)
  | .selectReference _ g sess => decide (g < 256 ∧ sess < 65536)
  | .releaseReference _ g => decide (g < 256)
  | .draftActivate _ _ _ => true
  | .draftDiscard _ => true
  | .draftRevert _ _ _ => true
  | .ledgerInfo _ => true
  | .ledgerRead _ _ count => decide (count < 256)
  | .firmwareActivate _ flags _ => decide (flags < 256)
  | .anchorAdd _ kind level _ _ _ => decide (kind < 256 ∧ level < 256)
  | .anchorRemove _ kind _ _ => decide (kind < 256)
  | .anchorList _ => true
  | .safetyUnlock _ pw => decide (pw.length < 256)
  | .safetyLock _ => true
  | .safetyPasswordSet _ pw _ _ => decide (pw.length < 256)
  | .safetyPasswordReset _ _ => true
  | .recStatus _ => true
  | .recRead _ area _ ofs fixes => decide (area < 256 ∧ ofs < 65536 ∧ fixes ≤ 8)
  | .recFreeze _ _ _ _ _ => true
  | .recRelease _ i => decide (i < 256)
  | .telemConfig _ i enable _ _ mask decim _ => decide (i < 256 ∧ enable < 256 ∧ mask < 65536 ∧ decim < 256)
  | .memRead _ a n => decide (a < 4294967296 ∧ n < 65536)
  | .memWrite _ a b _ => decide (a < 4294967296) && decide (4 ≤ b.length) && decide (b.length ≤ 1024)
  | .bulkOpen _ target len digest => decide (target < 256) && decide (len < 4294967296) && decide (digest.length = 32)
  | .bulkWrite _ ofs data => decide (ofs < 4294967296) && decide (1 ≤ data.length) && decide (data.length ≤ 1024)
  | .bulkClose _ _ _ => true
  | .bulkAbort _ => true
  | .bulkTimeout => true
  | .clientHello p _ t => decide (p < 4 ∧ t < 1000051)
  | .closeNotify i => decide (i < 512)
  | .commandSessionTimeout i => decide (i < 512)
  | .safetyExpiry i => decide (i < 512)
  | .lockoutExpiry => true
  | .svcEnLow => true
  | .portLinkUp p speed _ => decide (p < 4 ∧ 1 ≤ speed ∧ speed ≤ 3)
  | .portLinkDown p => decide (p < 4)
  | .prpSupervisionSend => true
  | .lanSilence p => decide (p < 2)
  | .ringSupervisionSend => true
  | .prpFrameReceive p _ src _ _ _ t => decide (p < 2 ∧ src.length = 6 ∧ t < 1000051)
  | .ringFrameForward ing src seq _ _ _ mine queued _ => decide ((ing = 2 ∨ ing = 3) ∧ src.length = 6 ∧ seq < 65536 ∧ mine ≤ 2 ∧ queued ≤ 65536)
  | .arpRequest p _ _ => decide (p < 2)
  | .icmpEchoRequest p _ => decide (p < 2)
  | .igmpQuery _ => true
  | .admissionOpen => true
  | .uartCharacterReceive u _ err t => decide (u < 8 ∧ err ≤ 2 ∧ t < 1000051)
  | .canFrameReceive c id rec' _ _ b t => decide (c < 4 ∧ rec' ≤ 255 ∧ id < 536870912 ∧ b.length ≤ 64 ∧ t < 1000051)
  | .canBusOff c => decide (c < 4)
  | .canBusOffRecovery c => decide (c < 4)
  | .iec61162450Datagram p _ dport _ t => decide (p < 2 ∧ dport < 65536 ∧ t < 1000051)
  | .udpBinaryDatagram p _ sport _ t => decide (p < 2 ∧ sport < 65536 ∧ t < 1000051)
  | .outputSessionSend i => decide (i < 512)
  | .rioRequestBuild => true
  | .rioReplyReceive k _ t => decide (k < 128 ∧ t < 1000051)
  | .glazeBackgroundTest _ => true
  | .adcOutputSample c j _ _ t => decide (c < 32 ∧ j < 8 ∧ t < 1000051)
  | .sampleLinkFrame _ bits t => decide (bits.length = 33 ∧ t < 1000051)
  | .shuntDisconnect c => decide (c < 32)
  | .shuntReconnect c _ => decide (c < 32)
  | .calibrationSlotStart => true
  | .calibrationPhaseEnd _ => true
  | .pageProgram _ => true
  | .blockErase _ _ => true
  | .flushComplete => true
  | .monHelp => true
  | .monId => true
  | .monSt => true
  | .monTime => true
  | .monEv => true
  | .monRec => true
  | .monRd => true
  | .monWr _ => true
  | .monLog => true
  | .sysOtimeHRead => true
  | .warpCfgWrite _ => true
  | .warpConeWrite _ => true
  | .warpBgWrite _ => true
  | .warpPickHRead => true
  | .warpBeatHRead => true
  | .warpNextedgeHRead => true
  | .heddleSesselWrite _ => true
  | .heddleTrkselWrite _ => true
  | .obsSelWrite _ => true
  | .wheelFpHRead => true
  | .wheelEngRead => true
  | .allocThrselWrite _ => true
  | .pwrSecselWrite _ => true
  | .loopSlotselWrite _ => true
  | .gnssStrmselWrite _ => true
  | .gnssChselWrite _ => true
  | .gnssSigselWrite _ => true
  | .timeDtHRead => true
  | .timeSrcselWrite _ => true
  | .kilnSealHRead => true
  | .kilnInselWrite _ => true
  | .kilnOutselWrite _ => true
  | .shuttleProgidHRead => true
  | .shuttleRetidHRead => true
  | .shuttleTaskselWrite _ => true
  | .shuttleTaskstatRead => true
  | .secSerialHRead => true
  | .netPortselWrite _ => true
  | .netSesselWrite _ => true
  | .fieldUartselWrite _ => true
  | .fieldCanselWrite _ => true
  | .rioStaselWrite _ => true
  | .glazePsselWrite _ => true
  | .glazeSwselWrite _ => true
  | .glazeSwrunWrite _ => true
  | .glazeSwrunRead => true
  | .glazeSwdataWrite _ => true
  | .glazeSwchkRead => true
  | .adcChselWrite _ => true
  | .registerWrite a _ => decide (0x40000000 ≤ a ∧ a < 0x40160000 ∧ a % 4 = 0)
  | .unknownOpcode sess _ => decide (sess < 512)
  | .dtlsHandshakeComplete i _ _ _ _ _ _ t => decide (i < 512 ∧ t < 1000051)
  | .monCharacterReceive _ => true
  | .monUnknownCommand => true
  | .canBusError c tec rec' => decide (c < 4 ∧ tec ≤ 255 ∧ rec' ≤ 255)
  | .delayReqSend i p t => decide (i < 2 ∧ p < 2 ∧ t < 1000051)
  | .pdelayReqSend p t => decide (p < 4 ∧ t < 1000051)
  | .announceSend i => decide (i < 3)
  | .holdChargeComplete uc => decide (uc < 4294967296)

end Sys2Proof
end

