-- ==== Sys2Proof/Tests/Slice0.lean ====
section
/-! SUPPORT. Tests: ill-formed commands that the checks refuse, single facts with values from the spec's tables and worked
examples, and for each obligation with hypotheses a state and operands that meet them. -/

set_option maxRecDepth 4000
set_option Elab.async false

namespace Sys2Proof

/-! ### one ill-formed command for each check of Instr.wf -/

theorem test_illFormed_railFault_to_guide :
    (Instr.wf (.railFault 5) = false) ∧
    (Instr.wf (.holdCapacitanceMeasure 4294967296) = false) ∧
    (∀ counts half, counts.length = 12 → Instr.wf (.clockComparison counts half) = false) ∧
    (∀ spare streams exc svcEn pw, Instr.wf (.pickTick 2000 spare streams exc svcEn pw) = false) ∧
    (∀ netUs spare streams exc svcEn pw, streams.length = 13 → Instr.wf (.pickTick netUs spare streams exc svcEn pw) = false) ∧
    (∀ netUs spare streams exc svcEn pw, exc.length = 7 → Instr.wf (.pickTick netUs spare streams exc svcEn pw) = false) ∧
    (∀ netUs spare streams exc svcEn pw, pw.vin = 4294967296 → Instr.wf (.pickTick netUs spare streams exc svcEn pw) = false) ∧
    (∀ netUs spare streams exc svcEn pw, pw.hold = 4294967296 → Instr.wf (.pickTick netUs spare streams exc svcEn pw) = false) ∧
    (∀ netUs spare streams exc svcEn pw, pw.vbat = 4294967296 → Instr.wf (.pickTick netUs spare streams exc svcEn pw) = false) ∧
    (∀ netUs spare streams exc svcEn pw, pw.inPwr = 4294967296 → Instr.wf (.pickTick netUs spare streams exc svcEn pw) = false) ∧
    (Instr.wf (.maxDeadReckoningTime 1000051) = false) ∧
    (Instr.wf (.guide 1000051) = false) := by
  refine ⟨?_, ?_, ?_, ?_, ?_, ?_, ?_, ?_, ?_, ?_, ?_, ?_⟩
  · change (decide ((5) < 5)) = false; simp
  · change (decide ((4294967296) < 4294967296)) = false; simp
  · intro counts half; intro hl; change (decide (counts.length = 13)) = false; simp [hl]
  · intro spare streams exc svcEn pw; change (decide ((2000) < 2000 ∧ streams.length ≤ 12 ∧ exc.length = 8) && decide (pw.vin < 4294967296 ∧ pw.hold < 4294967296 ∧ pw.vbat < 4294967296 ∧ pw.inPwr < 4294967296)) = false; simp
  · intro netUs spare streams exc svcEn pw; intro hl; change (decide (netUs < 2000 ∧ streams.length ≤ 12 ∧ exc.length = 8) && decide (pw.vin < 4294967296 ∧ pw.hold < 4294967296 ∧ pw.vbat < 4294967296 ∧ pw.inPwr < 4294967296)) = false; simp [hl]
  · intro netUs spare streams exc svcEn pw; intro hl; change (decide (netUs < 2000 ∧ streams.length ≤ 12 ∧ exc.length = 8) && decide (pw.vin < 4294967296 ∧ pw.hold < 4294967296 ∧ pw.vbat < 4294967296 ∧ pw.inPwr < 4294967296)) = false; simp [hl]
  · intro netUs spare streams exc svcEn pw; intro hl; change (decide (netUs < 2000 ∧ streams.length ≤ 12 ∧ exc.length = 8) && decide (pw.vin < 4294967296 ∧ pw.hold < 4294967296 ∧ pw.vbat < 4294967296 ∧ pw.inPwr < 4294967296)) = false; simp [hl]
  · intro netUs spare streams exc svcEn pw; intro hl; change (decide (netUs < 2000 ∧ streams.length ≤ 12 ∧ exc.length = 8) && decide (pw.vin < 4294967296 ∧ pw.hold < 4294967296 ∧ pw.vbat < 4294967296 ∧ pw.inPwr < 4294967296)) = false; simp [hl]
  · intro netUs spare streams exc svcEn pw; intro hl; change (decide (netUs < 2000 ∧ streams.length ≤ 12 ∧ exc.length = 8) && decide (pw.vin < 4294967296 ∧ pw.hold < 4294967296 ∧ pw.vbat < 4294967296 ∧ pw.inPwr < 4294967296)) = false; simp [hl]
  · intro netUs spare streams exc svcEn pw; intro hl; change (decide (netUs < 2000 ∧ streams.length ≤ 12 ∧ exc.length = 8) && decide (pw.vin < 4294967296 ∧ pw.hold < 4294967296 ∧ pw.vbat < 4294967296 ∧ pw.inPwr < 4294967296)) = false; simp [hl]
  · change (decide ((1000051) < 1000051)) = false; simp
  · change (decide ((1000051) < 1000051)) = false; simp

theorem test_illFormed_solveStart_to_sessionUnbar :
    (∀ ecc, Instr.wf (.solveStart ecc 1000051) = false) ∧
    (∀ residues ecc, Instr.wf (.wheelIteration residues ecc 1000051) = false) ∧
    (Instr.wf (.record 1000051) = false) ∧
    (Instr.wf (.recordComplete 1000051) = false) ∧
    (Instr.wf (.coneRecordLate 1000051) = false) ∧
    (∀ t, Instr.wf (.trackTimeout 64 t) = false) ∧
    (∀ k, Instr.wf (.trackTimeout k 1000051) = false) ∧
    (∀ t, Instr.wf (.sessionStale 512 t) = false) ∧
    (∀ i, Instr.wf (.sessionStale i 1000051) = false) ∧
    (∀ t, Instr.wf (.sessionLost 512 t) = false) ∧
    (∀ i, Instr.wf (.sessionLost i 1000051) = false) ∧
    (∀ t, Instr.wf (.sessionUnbar 512 t) = false) := by
  refine ⟨?_, ?_, ?_, ?_, ?_, ?_, ?_, ?_, ?_, ?_, ?_, ?_⟩
  · intro ecc; change (decide ((1000051) < 1000051)) = false; simp
  · intro residues ecc; change (decide ((1000051) < 1000051)) = false; simp
  · change (decide ((1000051) < 1000051)) = false; simp
  · change (decide ((1000051) < 1000051)) = false; simp
  · change (decide ((1000051) < 1000051)) = false; simp
  · intro t; change (decide ((64) < 64 ∧ t < 1000051)) = false; simp
  · intro k; change (decide (k < 64 ∧ (1000051) < 1000051)) = false; simp
  · intro t; change (decide ((512) < 512 ∧ t < 1000051)) = false; simp
  · intro i; change (decide (i < 512 ∧ (1000051) < 1000051)) = false; simp
  · intro t; change (decide ((512) < 512 ∧ t < 1000051)) = false; simp
  · intro i; change (decide (i < 512 ∧ (1000051) < 1000051)) = false; simp
  · intro t; change (decide ((512) < 512 ∧ t < 1000051)) = false; simp

theorem test_illFormed_sessionUnbar_to_breakerDisagreement :
    (∀ i, Instr.wf (.sessionUnbar i 1000051) = false) ∧
    (∀ level t, Instr.wf (.fastInputChange 16 level t) = false) ∧
    (∀ k level, Instr.wf (.fastInputChange k level 1000051) = false) ∧
    (∀ appid src gocb st sq ttl sim m t, Instr.wf (.gooseFrameReceive 2 appid src gocb st sq ttl sim m t) = false) ∧
    (∀ p appid src gocb st sq ttl sim m t, m.length = 65 → Instr.wf (.gooseFrameReceive p appid src gocb st sq ttl sim m t) = false) ∧
    (∀ p appid src gocb st sq ttl sim m, Instr.wf (.gooseFrameReceive p appid src gocb st sq ttl sim m 1000051) = false) ∧
    (∀ t, Instr.wf (.gooseStale 512 t) = false) ∧
    (∀ i, Instr.wf (.gooseStale i 1000051) = false) ∧
    (∀ tie src t, Instr.wf (.breakerIntermediateTimeout tie 16 src t) = false) ∧
    (∀ tie i t, Instr.wf (.breakerIntermediateTimeout tie i 2 t) = false) ∧
    (∀ tie i src, Instr.wf (.breakerIntermediateTimeout tie i src 1000051) = false) ∧
    (∀ tie t, Instr.wf (.breakerDisagreement tie 16 t) = false) := by
  refine ⟨?_, ?_, ?_, ?_, ?_, ?_, ?_, ?_, ?_, ?_, ?_, ?_⟩
  · intro i; change (decide (i < 512 ∧ (1000051) < 1000051)) = false; simp
  · intro level t; change (decide ((16) < 16 ∧ t < 1000051)) = false; simp
  · intro k level; change (decide (k < 16 ∧ (1000051) < 1000051)) = false; simp
  · intro appid src gocb st sq ttl sim m t; change (decide ((2) < 2 ∧ m.length ≤ 64 ∧ t < 1000051)) = false; simp
  · intro p appid src gocb st sq ttl sim m t; intro hl; change (decide (p < 2 ∧ m.length ≤ 64 ∧ t < 1000051)) = false; simp [hl]
  · intro p appid src gocb st sq ttl sim m; change (decide (p < 2 ∧ m.length ≤ 64 ∧ (1000051) < 1000051)) = false; simp
  · intro t; change (decide ((512) < 512 ∧ t < 1000051)) = false; simp
  · intro i; change (decide (i < 512 ∧ (1000051) < 1000051)) = false; simp
  · intro tie src t; change (decide ((16) < 16 ∧ src < 2 ∧ t < 1000051)) = false; simp
  · intro tie i t; change (decide (i < 16 ∧ (2) < 2 ∧ t < 1000051)) = false; simp
  · intro tie i src; change (decide (i < 16 ∧ src < 2 ∧ (1000051) < 1000051)) = false; simp
  · intro tie t; change (decide ((16) < 16 ∧ t < 1000051)) = false; simp

theorem test_illFormed_breakerDisagreement_to_groupTrainingComplete :
    (∀ tie i, Instr.wf (.breakerDisagreement tie i 1000051) = false) ∧
    (∀ t, Instr.wf (.generatorOnline 16 t) = false) ∧
    (∀ g, Instr.wf (.generatorOnline g 1000051) = false) ∧
    (∀ b t, Instr.wf (.driveStatusReceive 512 b t) = false) ∧
    (∀ i b, Instr.wf (.driveStatusReceive i b 1000051) = false) ∧
    (Instr.wf (.slotSoftComplete 64) = false) ∧
    (Instr.wf (.followingErrorTimeout 64) = false) ∧
    (Instr.wf (.slotAutoRecovery 64) = false) ∧
    (Instr.wf (.periodSourceInvalid 64) = false) ∧
    (∀ h, Instr.wf (.resetLoopSlot h 256) = false) ∧
    (Instr.wf (.groupTrainingStart 3) = false) ∧
    (∀ res, Instr.wf (.groupTrainingComplete 3 res) = false) := by
  refine ⟨?_, ?_, ?_, ?_, ?_, ?_, ?_, ?_, ?_, ?_, ?_, ?_⟩
  · intro tie i; change (decide (i < 16 ∧ (1000051) < 1000051)) = false; simp
  · intro t; change (decide ((16) < 16 ∧ t < 1000051)) = false; simp
  · intro g; change (decide (g < 16 ∧ (1000051) < 1000051)) = false; simp
  · intro b t; change (decide ((512) < 512 ∧ t < 1000051)) = false; simp
  · intro i b; change (decide (i < 512 ∧ (1000051) < 1000051)) = false; simp
  · change (decide ((64) < 64)) = false; simp
  · change (decide ((64) < 64)) = false; simp
  · change (decide ((64) < 64)) = false; simp
  · change (decide ((64) < 64)) = false; simp
  · intro h; change (decide ((256) < 256)) = false; simp
  · change (decide ((3) < 3)) = false; simp
  · intro res; change (decide ((3) < 3)) = false; simp

theorem test_illFormed_groupRetrainTimer_to_rtcmMessageReceive :
    (Instr.wf (.groupRetrainTimer 3) = false) ∧
    (∀ h, Instr.wf (.gnssRetrain h 256) = false) ∧
    (Instr.wf (.channelLostTimeout 384) = false) ∧
    (∀ v t, Instr.wf (.accumulationDump 384 v t) = false) ∧
    (∀ c v, Instr.wf (.accumulationDump c v 1000051) = false) ∧
    (∀ car cod slew t, Instr.wf (.loopUpdate 384 car cod slew t) = false) ∧
    (∀ c car cod slew, Instr.wf (.loopUpdate c car cod slew 1000051) = false) ∧
    (Instr.wf (.rawRecordPost 1000051) = false) ∧
    (Instr.wf (.positionRecordPost 1000051) = false) ∧
    (Instr.wf (.attitudeRecordPost 1000051) = false) ∧
    (Instr.wf (.gnssRecordDiscard 1000051) = false) ∧
    (∀ b t, Instr.wf (.rtcmMessageReceive 512 b t) = false) := by
  refine ⟨?_, ?_, ?_, ?_, ?_, ?_, ?_, ?_, ?_, ?_, ?_, ?_⟩
  · change (decide ((3) < 3)) = false; simp
  · intro h; change (decide ((256) < 256)) = false; simp
  · change (decide ((384) < 384)) = false; simp
  · intro v t; change (decide ((384) < 384 ∧ t < 1000051)) = false; simp
  · intro c v; change (decide (c < 384 ∧ (1000051) < 1000051)) = false; simp
  · intro car cod slew t; change (decide ((384) < 384 ∧ t < 1000051)) = false; simp
  · intro c car cod slew; change (decide (c < 384 ∧ (1000051) < 1000051)) = false; simp
  · change (decide ((1000051) < 1000051)) = false; simp
  · change (decide ((1000051) < 1000051)) = false; simp
  · change (decide ((1000051) < 1000051)) = false; simp
  · change (decide ((1000051) < 1000051)) = false; simp
  · intro b t; change (decide ((512) < 512 ∧ t < 1000051)) = false; simp

theorem test_illFormed_rtcmMessageReceive_to_delayRespReceive :
    (∀ i b, Instr.wf (.rtcmMessageReceive i b 1000051) = false) ∧
    (∀ p twoStep seq t1 corr t2 logInt v, Instr.wf (.ptpSyncReceive 2 p twoStep seq t1 corr t2 logInt v) = false) ∧
    (∀ i twoStep seq t1 corr t2 logInt v, Instr.wf (.ptpSyncReceive i 2 twoStep seq t1 corr t2 logInt v) = false) ∧
    (∀ i p twoStep t1 corr t2 logInt v, Instr.wf (.ptpSyncReceive i p twoStep 65536 t1 corr t2 logInt v) = false) ∧
    (∀ i p twoStep seq t1 corr t2 v, Instr.wf (.ptpSyncReceive i p twoStep seq t1 corr t2 (-129) v) = false) ∧
    (∀ i p twoStep seq t1 corr t2 v, Instr.wf (.ptpSyncReceive i p twoStep seq t1 corr t2 128 v) = false) ∧
    (∀ p seq t1 corr v b bad, Instr.wf (.followUpReceive 2 p seq t1 corr v b bad) = false) ∧
    (∀ i seq t1 corr v b bad, Instr.wf (.followUpReceive i 4 seq t1 corr v b bad) = false) ∧
    (∀ i p t1 corr v b bad, Instr.wf (.followUpReceive i p 65536 t1 corr v b bad) = false) ∧
    (∀ a, Instr.wf (.announceReceive 2 a) = false) ∧
    (∀ p seq t4, Instr.wf (.delayRespReceive 2 p seq t4) = false) ∧
    (∀ i seq t4, Instr.wf (.delayRespReceive i 2 seq t4) = false) := by
  refine ⟨?_, ?_, ?_, ?_, ?_, ?_, ?_, ?_, ?_, ?_, ?_, ?_⟩
  · intro i b; change (decide (i < 512 ∧ (1000051) < 1000051)) = false; simp
  · intro p twoStep seq t1 corr t2 logInt v; change (decide ((2) < 2 ∧ p < 2 ∧ seq < 65536 ∧ -128 ≤ logInt ∧ logInt ≤ 127)) = false; simp
  · intro i twoStep seq t1 corr t2 logInt v; change (decide (i < 2 ∧ (2) < 2 ∧ seq < 65536 ∧ -128 ≤ logInt ∧ logInt ≤ 127)) = false; simp
  · intro i p twoStep t1 corr t2 logInt v; change (decide (i < 2 ∧ p < 2 ∧ (65536) < 65536 ∧ -128 ≤ logInt ∧ logInt ≤ 127)) = false; simp
  · intro i p twoStep seq t1 corr t2 v; change (decide (i < 2 ∧ p < 2 ∧ seq < 65536 ∧ -128 ≤ ((-129)) ∧ ((-129)) ≤ 127)) = false; simp
  · intro i p twoStep seq t1 corr t2 v; change (decide (i < 2 ∧ p < 2 ∧ seq < 65536 ∧ -128 ≤ (128) ∧ (128) ≤ 127)) = false; simp
  · intro p seq t1 corr v b bad; change (decide ((2) < 2 ∧ p < 4 ∧ seq < 65536)) = false; simp
  · intro i seq t1 corr v b bad; change (decide (i < 2 ∧ (4) < 4 ∧ seq < 65536)) = false; simp
  · intro i p t1 corr v b bad; change (decide (i < 2 ∧ p < 4 ∧ (65536) < 65536)) = false; simp
  · intro a; change (decide ((2) < 2)) = false; simp
  · intro p seq t4; change (decide ((2) < 2 ∧ p < 2 ∧ seq < 65536)) = false; simp
  · intro i seq t4; change (decide (i < 2 ∧ (2) < 2 ∧ seq < 65536)) = false; simp

theorem test_illFormed_delayRespReceive_to_ringPtpForward :
    (∀ i p t4, Instr.wf (.delayRespReceive i p 65536 t4) = false) ∧
    (∀ p seq t, Instr.wf (.delayReqReceive 2 p seq t) = false) ∧
    (∀ i seq t, Instr.wf (.delayReqReceive i 2 seq t) = false) ∧
    (∀ i p t, Instr.wf (.delayReqReceive i p 65536 t) = false) ∧
    (∀ i p seq, Instr.wf (.delayReqReceive i p seq 1000051) = false) ∧
    (∀ seq t, Instr.wf (.pdelayReqReceive 4 seq t) = false) ∧
    (∀ p t, Instr.wf (.pdelayReqReceive p 65536 t) = false) ∧
    (∀ p seq, Instr.wf (.pdelayReqReceive p seq 1000051) = false) ∧
    (∀ seq t4 turn, Instr.wf (.pdelayRespReceive 4 seq t4 turn) = false) ∧
    (∀ p t4 turn, Instr.wf (.pdelayRespReceive p 65536 t4 turn) = false) ∧
    (∀ seq sync twoStep udp bad corr residence b, Instr.wf (.ringPtpForward 4 seq sync twoStep udp bad corr residence b) = false) ∧
    (∀ ing sync twoStep udp bad corr residence b, Instr.wf (.ringPtpForward ing 65536 sync twoStep udp bad corr residence b) = false) := by
  refine ⟨?_, ?_, ?_, ?_, ?_, ?_, ?_, ?_, ?_, ?_, ?_, ?_⟩
  · intro i p t4; change (decide (i < 2 ∧ p < 2 ∧ (65536) < 65536)) = false; simp
  · intro p seq t; change (decide ((2) < 2 ∧ p < 2 ∧ seq < 65536 ∧ t < 1000051)) = false; simp
  · intro i seq t; change (decide (i < 2 ∧ (2) < 2 ∧ seq < 65536 ∧ t < 1000051)) = false; simp
  · intro i p t; change (decide (i < 2 ∧ p < 2 ∧ (65536) < 65536 ∧ t < 1000051)) = false; simp
  · intro i p seq; change (decide (i < 2 ∧ p < 2 ∧ seq < 65536 ∧ (1000051) < 1000051)) = false; simp
  · intro seq t; change (decide ((4) < 4 ∧ seq < 65536 ∧ t < 1000051)) = false; simp
  · intro p t; change (decide (p < 4 ∧ (65536) < 65536 ∧ t < 1000051)) = false; simp
  · intro p seq; change (decide (p < 4 ∧ seq < 65536 ∧ (1000051) < 1000051)) = false; simp
  · intro seq t4 turn; change (decide ((4) < 4 ∧ seq < 65536)) = false; simp
  · intro p t4 turn; change (decide (p < 4 ∧ (65536) < 65536)) = false; simp
  · intro seq sync twoStep udp bad corr residence b; change (decide (((4) = 2 ∨ (4) = 3) ∧ seq < 65536)) = false; simp
  · intro ing sync twoStep udp bad corr residence b; change (decide ((ing = 2 ∨ ing = 3) ∧ (65536) < 65536)) = false; simp

theorem test_illFormed_masterSyncSend_to_testPulseEnd :
    (Instr.wf (.masterSyncSend 2) = false) ∧
    (Instr.wf (.ptpSourceTimeout 2) = false) ∧
    (Instr.wf (.sourceQualified 3) = false) ∧
    (Instr.wf (.sourceFaultExpiry 3) = false) ∧
    (Instr.wf (.suspectReturn 3) = false) ∧
    (∀ t, Instr.wf (.ppsPulse 2 t) = false) ∧
    (∀ n, Instr.wf (.ppsPulse n 1000051) = false) ∧
    (∀ h use', Instr.wf (.timeSourceUse h 256 use') = false) ∧
    (∀ h i, Instr.wf (.timeSourceUse h i 256) = false) ∧
    (Instr.wf (.discrepancyFault 32) = false) ∧
    (Instr.wf (.testPulseStart 8) = false) ∧
    (Instr.wf (.testPulseEnd 8) = false) := by
  refine ⟨?_, ?_, ?_, ?_, ?_, ?_, ?_, ?_, ?_, ?_, ?_, ?_⟩
  · change (decide ((2) < 2)) = false; simp
  · change (decide ((2) < 2)) = false; simp
  · change (decide ((3) < 3)) = false; simp
  · change (decide ((3) < 3)) = false; simp
  · change (decide ((3) < 3)) = false; simp
  · intro t; change (decide ((2) < 2 ∧ t < 1000051)) = false; simp
  · intro n; change (decide (n < 2 ∧ (1000051) < 1000051)) = false; simp
  · intro h use'; change (decide ((256) < 256 ∧ use' < 256)) = false; simp
  · intro h i; change (decide (i < 256 ∧ (256) < 256)) = false; simp
  · change (decide ((32) < 32)) = false; simp
  · change (decide ((8) < 8)) = false; simp
  · change (decide ((8) < 8)) = false; simp

theorem test_illFormed_openLoadWarning_to_kilnClear :
    (Instr.wf (.openLoadWarning 16) = false) ∧
    (Instr.wf (.fieldSupplyFault 2) = false) ∧
    (Instr.wf (.fieldSupplyRestore 2) = false) ∧
    (Instr.wf (.switchTestStart 16) = false) ∧
    (Instr.wf (.switchTestPhaseEnd 16) = false) ∧
    (Instr.wf (.switchTestOverdue 16) = false) ∧
    (Instr.wf (.offDelayExpiry 16) = false) ∧
    (Instr.wf (.resetInputRelease 32) = false) ∧
    (∀ chal bad badUp, Instr.wf (.heartbeatExchange chal bad badUp 500) = false) ∧
    (Instr.wf (.heartbeatTimeout 500) = false) ∧
    (∀ h index, Instr.wf (.kilnClear h 256 index) = false) ∧
    (∀ h kind, Instr.wf (.kilnClear h kind 256) = false) := by
  refine ⟨?_, ?_, ?_, ?_, ?_, ?_, ?_, ?_, ?_, ?_, ?_, ?_⟩
  · change (decide ((16) < 16)) = false; simp
  · change (decide ((2) < 2)) = false; simp
  · change (decide ((2) < 2)) = false; simp
  · change (decide ((16) < 16)) = false; simp
  · change (decide ((16) < 16)) = false; simp
  · change (decide ((16) < 16)) = false; simp
  · change (decide ((16) < 16)) = false; simp
  · change (decide ((32) < 32)) = false; simp
  · intro chal bad badUp; change (decide ((500) < 500)) = false; simp
  · change (decide ((500) < 500)) = false; simp
  · intro h index; change (decide ((256) < 256 ∧ index < 256)) = false; simp
  · intro h kind; change (decide (kind < 256 ∧ (256) < 256)) = false; simp

theorem test_illFormed_crossTripLineLevel_to_forceSet :
    (∀ high held, Instr.wf (.crossTripLineLevel 4 high held) = false) ∧
    (∀ line, line.length = 18 → Instr.wf (.claimFrameSend line) = false) ∧
    (Instr.wf (.lclmFault 3) = false) ∧
    (∀ lane b rtt, Instr.wf (.fastFrameReceive lane b 1000051 rtt) = false) ∧
    (∀ t, Instr.wf (.taskWatchdog 8 t) = false) ∧
    (∀ i, Instr.wf (.taskWatchdog i 1000051) = false) ∧
    (Instr.wf (.beatTaskLimit 1000051) = false) ∧
    (Instr.wf (.twEnd 1000051) = false) ∧
    (∀ h, Instr.wf (.shuttleRun h 256) = false) ∧
    (∀ h, Instr.wf (.shuttleTaskRestart h 256) = false) ∧
    (∀ h id, Instr.wf (.onlineChange h 256 id) = false) ∧
    (∀ h sym elem value mram, Instr.wf (.forceSet h sym elem 256 value mram) = false) := by
  refine ⟨?_, ?_, ?_, ?_, ?_, ?_, ?_, ?_, ?_, ?_, ?_, ?_⟩
  · intro high held; change (decide ((4) < 4)) = false; simp
  · intro line; intro hl; change (decide (line.length = 19)) = false; simp [hl]
  · change (decide ((3) < 3)) = false; simp
  · intro lane b rtt; change (decide ((1000051) < 1000051)) = false; simp
  · intro t; change (decide ((8) < 8 ∧ t < 1000051)) = false; simp
  · intro i; change (decide (i < 8 ∧ (1000051) < 1000051)) = false; simp
  · change (decide ((1000051) < 1000051)) = false; simp
  · change (decide ((1000051) < 1000051)) = false; simp
  · intro h; change (decide ((256) < 256)) = false; simp
  · intro h; change (decide ((256) < 256)) = false; simp
  · intro h id; change (decide ((256) < 256)) = false; simp
  · intro h sym elem value mram; change (decide ((256) < 256)) = false; simp

theorem test_illFormed_forceList_to_setThrusterUse :
    (∀ h, Instr.wf (.forceList h 65536) = false) ∧
    (∀ h, Instr.wf (.getCertificate h 65536) = false) ∧
    (∀ h, Instr.wf (.restart h 256) = false) ∧
    (∀ h trk, Instr.wf (.setDpMode h 256 trk) = false) ∧
    (∀ h code, Instr.wf (.setDpMode h code 256) = false) ∧
    (∀ h north east, Instr.wf (.setPosition h 256 north east) = false) ∧
    (∀ h hdg, Instr.wf (.setHeading h hdg 256) = false) ∧
    (∀ h pts, pts.length = 65536 → Instr.wf (.loadTrack h pts) = false) ∧
    (∀ h north east, Instr.wf (.setFollow h north east 256) = false) ∧
    (∀ h kw, Instr.wf (.setWindFf h 256 kw) = false) ∧
    (∀ h use', Instr.wf (.setThrusterUse h 256 use') = false) ∧
    (∀ h t, Instr.wf (.setThrusterUse h t 256) = false) := by
  refine ⟨?_, ?_, ?_, ?_, ?_, ?_, ?_, ?_, ?_, ?_, ?_, ?_⟩
  · intro h; change (decide ((65536) < 65536)) = false; simp
  · intro h; change (decide ((65536) < 65536)) = false; simp
  · intro h; change (decide ((256) < 256)) = false; simp
  · intro h trk; change (decide ((256) < 256 ∧ trk < 256)) = false; simp
  · intro h code; change (decide (code < 256 ∧ (256) < 256)) = false; simp
  · intro h north east; change (decide ((256) < 256)) = false; simp
  · intro h hdg; change (decide ((256) < 256)) = false; simp
  · intro h pts; intro hl; change (decide (pts.length < 65536)) = false; simp [hl]
  · intro h north east; change (decide ((256) < 256)) = false; simp
  · intro h kw; change (decide ((256) < 256)) = false; simp
  · intro h use'; change (decide ((256) < 256 ∧ use' < 256)) = false; simp
  · intro h t; change (decide (t < 256 ∧ (256) < 256)) = false; simp

theorem test_illFormed_selectReference_to_recRead :
    (∀ h sess, Instr.wf (.selectReference h 256 sess) = false) ∧
    (∀ h g, Instr.wf (.selectReference h g 65536) = false) ∧
    (∀ h, Instr.wf (.releaseReference h 256) = false) ∧
    (∀ h first, Instr.wf (.ledgerRead h first 256) = false) ∧
    (∀ h mram, Instr.wf (.firmwareActivate h 256 mram) = false) ∧
    (∀ h level keyId certOk mram, Instr.wf (.anchorAdd h 256 level keyId certOk mram) = false) ∧
    (∀ h kind keyId certOk mram, Instr.wf (.anchorAdd h kind 256 keyId certOk mram) = false) ∧
    (∀ h keyId mram, Instr.wf (.anchorRemove h 256 keyId mram) = false) ∧
    (∀ h pw, pw.length = 256 → Instr.wf (.safetyUnlock h pw) = false) ∧
    (∀ h pw salt mram, pw.length = 256 → Instr.wf (.safetyPasswordSet h pw salt mram) = false) ∧
    (∀ h rseq ofs fixes, Instr.wf (.recRead h 256 rseq ofs fixes) = false) ∧
    (∀ h area rseq fixes, Instr.wf (.recRead h area rseq 65536 fixes) = false) := by
  refine ⟨?_, ?_, ?_, ?_, ?_, ?_, ?_, ?_, ?_, ?_, ?_, ?_⟩
  · intro h sess; change (decide ((256) < 256 ∧ sess < 65536)) = false; simp
  · intro h g; change (decide (g < 256 ∧ (65536) < 65536)) = false; simp
  · intro h; change (decide ((256) < 256)) = false; simp
  · intro h first; change (decide ((256) < 256)) = false; simp
  · intro h mram; change (decide ((256) < 256)) = false; simp
  · intro h level keyId certOk mram; change (decide ((256) < 256 ∧ level < 256)) = false; simp
  · intro h kind keyId certOk mram; change (decide (kind < 256 ∧ (256) < 256)) = false; simp
  · intro h keyId mram; change (decide ((256) < 256)) = false; simp
  · intro h pw; intro hl; change (decide (pw.length < 256)) = false; simp [hl]
  · intro h pw salt mram; intro hl; change (decide (pw.length < 256)) = false; simp [hl]
  · intro h rseq ofs fixes; change (decide ((256) < 256 ∧ ofs < 65536 ∧ fixes ≤ 8)) = false; simp
  · intro h area rseq fixes; change (decide (area < 256 ∧ (65536) < 65536 ∧ fixes ≤ 8)) = false; simp

theorem test_illFormed_recRead_to_bulkOpen :
    (∀ h area rseq ofs, Instr.wf (.recRead h area rseq ofs 9) = false) ∧
    (∀ h, Instr.wf (.recRelease h 256) = false) ∧
    (∀ h enable ip port mask decim mram, Instr.wf (.telemConfig h 256 enable ip port mask decim mram) = false) ∧
    (∀ h i ip port mask decim mram, Instr.wf (.telemConfig h i 256 ip port mask decim mram) = false) ∧
    (∀ h i enable ip port decim mram, Instr.wf (.telemConfig h i enable ip port 65536 decim mram) = false) ∧
    (∀ h i enable ip port mask mram, Instr.wf (.telemConfig h i enable ip port mask 256 mram) = false) ∧
    (∀ h n, Instr.wf (.memRead h 4294967296 n) = false) ∧
    (∀ h a, Instr.wf (.memRead h a 65536) = false) ∧
    (∀ h b mram, Instr.wf (.memWrite h 4294967296 b mram) = false) ∧
    (∀ h a b mram, b.length = 3 → Instr.wf (.memWrite h a b mram) = false) ∧
    (∀ h a b mram, b.length = 1025 → Instr.wf (.memWrite h a b mram) = false) ∧
    (∀ h len digest, Instr.wf (.bulkOpen h 256 len digest) = false) := by
  refine ⟨?_, ?_, ?_, ?_, ?_, ?_, ?_, ?_, ?_, ?_, ?_, ?_⟩
  · intro h area rseq ofs; change (decide (area < 256 ∧ ofs < 65536 ∧ (9) ≤ 8)) = false; simp
  · intro h; change (decide ((256) < 256)) = false; simp
  · intro h enable ip port mask decim mram; change (decide ((256) < 256 ∧ enable < 256 ∧ mask < 65536 ∧ decim < 256)) = false; simp
  · intro h i ip port mask decim mram; change (decide (i < 256 ∧ (256) < 256 ∧ mask < 65536 ∧ decim < 256)) = false; simp
  · intro h i enable ip port decim mram; change (decide (i < 256 ∧ enable < 256 ∧ (65536) < 65536 ∧ decim < 256)) = false; simp
  · intro h i enable ip port mask mram; change (decide (i < 256 ∧ enable < 256 ∧ mask < 65536 ∧ (256) < 256)) = false; simp
  · intro h n; change (decide ((4294967296) < 4294967296 ∧ n < 65536)) = false; simp
  · intro h a; change (decide (a < 4294967296 ∧ (65536) < 65536)) = false; simp
  · intro h b mram; change (decide ((4294967296) < 4294967296) && decide (4 ≤ b.length) && decide (b.length ≤ 1024)) = false; simp
  · intro h a b mram; intro hl; change (decide (a < 4294967296) && decide (4 ≤ b.length) && decide (b.length ≤ 1024)) = false; simp [hl]
  · intro h a b mram; intro hl; change (decide (a < 4294967296) && decide (4 ≤ b.length) && decide (b.length ≤ 1024)) = false; simp [hl]
  · intro h len digest; change (decide ((256) < 256) && decide (len < 4294967296) && decide (digest.length = 32)) = false; simp

theorem test_illFormed_bulkOpen_to_portLinkUp :
    (∀ h target digest, Instr.wf (.bulkOpen h target 4294967296 digest) = false) ∧
    (∀ h target len digest, digest.length = 31 → Instr.wf (.bulkOpen h target len digest) = false) ∧
    (∀ h data, Instr.wf (.bulkWrite h 4294967296 data) = false) ∧
    (∀ h ofs data, data.length = 0 → Instr.wf (.bulkWrite h ofs data) = false) ∧
    (∀ h ofs data, data.length = 1025 → Instr.wf (.bulkWrite h ofs data) = false) ∧
    (∀ cookie t, Instr.wf (.clientHello 4 cookie t) = false) ∧
    (∀ p cookie, Instr.wf (.clientHello p cookie 1000051) = false) ∧
    (Instr.wf (.closeNotify 512) = false) ∧
    (Instr.wf (.commandSessionTimeout 512) = false) ∧
    (Instr.wf (.safetyExpiry 512) = false) ∧
    (∀ speed mdix, Instr.wf (.portLinkUp 4 speed mdix) = false) ∧
    (∀ p mdix, Instr.wf (.portLinkUp p 0 mdix) = false) := by
  refine ⟨?_, ?_, ?_, ?_, ?_, ?_, ?_, ?_, ?_, ?_, ?_, ?_⟩
  · intro h target digest; change (decide (target < 256) && decide ((4294967296) < 4294967296) && decide (digest.length = 32)) = false; simp
  · intro h target len digest; intro hl; change (decide (target < 256) && decide (len < 4294967296) && decide (digest.length = 32)) = false; simp [hl]
  · intro h data; change (decide ((4294967296) < 4294967296) && decide (1 ≤ data.length) && decide (data.length ≤ 1024)) = false; simp
  · intro h ofs data; intro hl; change (decide (ofs < 4294967296) && decide (1 ≤ data.length) && decide (data.length ≤ 1024)) = false; simp [hl]
  · intro h ofs data; intro hl; change (decide (ofs < 4294967296) && decide (1 ≤ data.length) && decide (data.length ≤ 1024)) = false; simp [hl]
  · intro cookie t; change (decide ((4) < 4 ∧ t < 1000051)) = false; simp
  · intro p cookie; change (decide (p < 4 ∧ (1000051) < 1000051)) = false; simp
  · change (decide ((512) < 512)) = false; simp
  · change (decide ((512) < 512)) = false; simp
  · change (decide ((512) < 512)) = false; simp
  · intro speed mdix; change (decide ((4) < 4 ∧ 1 ≤ speed ∧ speed ≤ 3)) = false; simp
  · intro p mdix; change (decide (p < 4 ∧ 1 ≤ (0) ∧ (0) ≤ 3)) = false; simp

theorem test_illFormed_portLinkUp_to_arpRequest :
    (∀ p mdix, Instr.wf (.portLinkUp p 4 mdix) = false) ∧
    (Instr.wf (.portLinkDown 4) = false) ∧
    (Instr.wf (.lanSilence 2) = false) ∧
    (∀ n src seq bad b t, Instr.wf (.prpFrameReceive 2 n src seq bad b t) = false) ∧
    (∀ p n src seq bad b t, src.length = 5 → Instr.wf (.prpFrameReceive p n src seq bad b t) = false) ∧
    (∀ p n src seq bad b, Instr.wf (.prpFrameReceive p n src seq bad b 1000051) = false) ∧
    (∀ src seq own sup bad mine queued b, Instr.wf (.ringFrameForward 4 src seq own sup bad mine queued b) = false) ∧
    (∀ ing src seq own sup bad mine queued b, src.length = 5 → Instr.wf (.ringFrameForward ing src seq own sup bad mine queued b) = false) ∧
    (∀ ing src own sup bad mine queued b, Instr.wf (.ringFrameForward ing src 65536 own sup bad mine queued b) = false) ∧
    (∀ ing src seq own sup bad queued b, Instr.wf (.ringFrameForward ing src seq own sup bad 3 queued b) = false) ∧
    (∀ ing src seq own sup bad mine b, Instr.wf (.ringFrameForward ing src seq own sup bad mine 65537 b) = false) ∧
    (∀ mine conflict, Instr.wf (.arpRequest 2 mine conflict) = false) := by
  refine ⟨?_, ?_, ?_, ?_, ?_, ?_, ?_, ?_, ?_, ?_, ?_, ?_⟩
  · intro p mdix; change (decide (p < 4 ∧ 1 ≤ (4) ∧ (4) ≤ 3)) = false; simp
  · change (decide ((4) < 4)) = false; simp
  · change (decide ((2) < 2)) = false; simp
  · intro n src seq bad b t; change (decide ((2) < 2 ∧ src.length = 6 ∧ t < 1000051)) = false; simp
  · intro p n src seq bad b t; intro hl; change (decide (p < 2 ∧ src.length = 6 ∧ t < 1000051)) = false; simp [hl]
  · intro p n src seq bad b; change (decide (p < 2 ∧ src.length = 6 ∧ (1000051) < 1000051)) = false; simp
  · intro src seq own sup bad mine queued b; change (decide (((4) = 2 ∨ (4) = 3) ∧ src.length = 6 ∧ seq < 65536 ∧ mine ≤ 2 ∧ queued ≤ 65536)) = false; simp
  · intro ing src seq own sup bad mine queued b; intro hl; change (decide ((ing = 2 ∨ ing = 3) ∧ src.length = 6 ∧ seq < 65536 ∧ mine ≤ 2 ∧ queued ≤ 65536)) = false; simp [hl]
  · intro ing src own sup bad mine queued b; change (decide ((ing = 2 ∨ ing = 3) ∧ src.length = 6 ∧ (65536) < 65536 ∧ mine ≤ 2 ∧ queued ≤ 65536)) = false; simp
  · intro ing src seq own sup bad queued b; change (decide ((ing = 2 ∨ ing = 3) ∧ src.length = 6 ∧ seq < 65536 ∧ (3) ≤ 2 ∧ queued ≤ 65536)) = false; simp
  · intro ing src seq own sup bad mine b; change (decide ((ing = 2 ∨ ing = 3) ∧ src.length = 6 ∧ seq < 65536 ∧ mine ≤ 2 ∧ (65537) ≤ 65536)) = false; simp
  · intro mine conflict; change (decide ((2) < 2)) = false; simp

theorem test_illFormed_icmpEchoRequest_to_iec61162450Datagram :
    (∀ b, Instr.wf (.icmpEchoRequest 2 b) = false) ∧
    (∀ c err t, Instr.wf (.uartCharacterReceive 8 c err t) = false) ∧
    (∀ u c t, Instr.wf (.uartCharacterReceive u c 3 t) = false) ∧
    (∀ u c err, Instr.wf (.uartCharacterReceive u c err 1000051) = false) ∧
    (∀ id rec' fast full b t, Instr.wf (.canFrameReceive 4 id rec' fast full b t) = false) ∧
    (∀ c id fast full b t, Instr.wf (.canFrameReceive c id 256 fast full b t) = false) ∧
    (∀ c rec' fast full b t, Instr.wf (.canFrameReceive c 536870912 rec' fast full b t) = false) ∧
    (∀ c id rec' fast full b t, b.length = 65 → Instr.wf (.canFrameReceive c id rec' fast full b t) = false) ∧
    (∀ c id rec' fast full b, Instr.wf (.canFrameReceive c id rec' fast full b 1000051) = false) ∧
    (Instr.wf (.canBusOff 4) = false) ∧
    (Instr.wf (.canBusOffRecovery 4) = false) ∧
    (∀ group dport b t, Instr.wf (.iec61162450Datagram 2 group dport b t) = false) := by
  refine ⟨?_, ?_, ?_, ?_, ?_, ?_, ?_, ?_, ?_, ?_, ?_, ?_⟩
  · intro b; change (decide ((2) < 2)) = false; simp
  · intro c err t; change (decide ((8) < 8 ∧ err ≤ 2 ∧ t < 1000051)) = false; simp
  · intro u c t; change (decide (u < 8 ∧ (3) ≤ 2 ∧ t < 1000051)) = false; simp
  · intro u c err; change (decide (u < 8 ∧ err ≤ 2 ∧ (1000051) < 1000051)) = false; simp
  · intro id rec' fast full b t; change (decide ((4) < 4 ∧ rec' ≤ 255 ∧ id < 536870912 ∧ b.length ≤ 64 ∧ t < 1000051)) = false; simp
  · intro c id fast full b t; change (decide (c < 4 ∧ (256) ≤ 255 ∧ id < 536870912 ∧ b.length ≤ 64 ∧ t < 1000051)) = false; simp
  · intro c rec' fast full b t; change (decide (c < 4 ∧ rec' ≤ 255 ∧ (536870912) < 536870912 ∧ b.length ≤ 64 ∧ t < 1000051)) = false; simp
  · intro c id rec' fast full b t; intro hl; change (decide (c < 4 ∧ rec' ≤ 255 ∧ id < 536870912 ∧ b.length ≤ 64 ∧ t < 1000051)) = false; simp [hl]
  · intro c id rec' fast full b; change (decide (c < 4 ∧ rec' ≤ 255 ∧ id < 536870912 ∧ b.length ≤ 64 ∧ (1000051) < 1000051)) = false; simp
  · change (decide ((4) < 4)) = false; simp
  · change (decide ((4) < 4)) = false; simp
  · intro group dport b t; change (decide ((2) < 2 ∧ dport < 65536 ∧ t < 1000051)) = false; simp

theorem test_illFormed_iec61162450Datagram_to_sampleLinkFrame :
    (∀ p group b t, Instr.wf (.iec61162450Datagram p group 65536 b t) = false) ∧
    (∀ p group dport b, Instr.wf (.iec61162450Datagram p group dport b 1000051) = false) ∧
    (∀ src sport b t, Instr.wf (.udpBinaryDatagram 2 src sport b t) = false) ∧
    (∀ p src b t, Instr.wf (.udpBinaryDatagram p src 65536 b t) = false) ∧
    (∀ p src sport b, Instr.wf (.udpBinaryDatagram p src sport b 1000051) = false) ∧
    (Instr.wf (.outputSessionSend 512) = false) ∧
    (∀ b t, Instr.wf (.rioReplyReceive 128 b t) = false) ∧
    (∀ k b, Instr.wf (.rioReplyReceive k b 1000051) = false) ∧
    (∀ j pa pb t, Instr.wf (.adcOutputSample 32 j pa pb t) = false) ∧
    (∀ c pa pb t, Instr.wf (.adcOutputSample c 8 pa pb t) = false) ∧
    (∀ c j pa pb, Instr.wf (.adcOutputSample c j pa pb 1000051) = false) ∧
    (∀ ok bits t, bits.length = 32 → Instr.wf (.sampleLinkFrame ok bits t) = false) := by
  refine ⟨?_, ?_, ?_, ?_, ?_, ?_, ?_, ?_, ?_, ?_, ?_, ?_⟩
  · intro p group b t; change (decide (p < 2 ∧ (65536) < 65536 ∧ t < 1000051)) = false; simp
  · intro p group dport b; change (decide (p < 2 ∧ dport < 65536 ∧ (1000051) < 1000051)) = false; simp
  · intro src sport b t; change (decide ((2) < 2 ∧ sport < 65536 ∧ t < 1000051)) = false; simp
  · intro p src b t; change (decide (p < 2 ∧ (65536) < 65536 ∧ t < 1000051)) = false; simp
  · intro p src sport b; change (decide (p < 2 ∧ sport < 65536 ∧ (1000051) < 1000051)) = false; simp
  · change (decide ((512) < 512)) = false; simp
  · intro b t; change (decide ((128) < 128 ∧ t < 1000051)) = false; simp
  · intro k b; change (decide (k < 128 ∧ (1000051) < 1000051)) = false; simp
  · intro j pa pb t; change (decide ((32) < 32 ∧ j < 8 ∧ t < 1000051)) = false; simp
  · intro c pa pb t; change (decide (c < 32 ∧ (8) < 8 ∧ t < 1000051)) = false; simp
  · intro c j pa pb; change (decide (c < 32 ∧ j < 8 ∧ (1000051) < 1000051)) = false; simp
  · intro ok bits t; intro hl; change (decide (bits.length = 33 ∧ t < 1000051)) = false; simp [hl]

theorem test_illFormed_sampleLinkFrame_to_canBusError :
    (∀ ok bits, Instr.wf (.sampleLinkFrame ok bits 1000051) = false) ∧
    (Instr.wf (.shuntDisconnect 32) = false) ∧
    (∀ below, Instr.wf (.shuntReconnect 32 below) = false) ∧
    (∀ v, Instr.wf (.registerWrite 1073741823 v) = false) ∧
    (∀ v, Instr.wf (.registerWrite 1075183616 v) = false) ∧
    (∀ v, Instr.wf (.registerWrite 0x40000002 v) = false) ∧
    (∀ b, Instr.wf (.unknownOpcode 512 b) = false) ∧
    (∀ hs leaf chain anchor certOk periodOk t, Instr.wf (.dtlsHandshakeComplete 512 hs leaf chain anchor certOk periodOk t) = false) ∧
    (∀ i hs leaf chain anchor certOk periodOk, Instr.wf (.dtlsHandshakeComplete i hs leaf chain anchor certOk periodOk 1000051) = false) ∧
    (∀ tec rec', Instr.wf (.canBusError 4 tec rec') = false) ∧
    (∀ c rec', Instr.wf (.canBusError c 256 rec') = false) ∧
    (∀ c tec, Instr.wf (.canBusError c tec 256) = false) := by
  refine ⟨?_, ?_, ?_, ?_, ?_, ?_, ?_, ?_, ?_, ?_, ?_, ?_⟩
  · intro ok bits; change (decide (bits.length = 33 ∧ (1000051) < 1000051)) = false; simp
  · change (decide ((32) < 32)) = false; simp
  · intro below; change (decide ((32) < 32)) = false; simp
  · intro v; change (decide (0x40000000 ≤ (1073741823) ∧ (1073741823) < 0x40160000 ∧ (1073741823) % 4 = 0)) = false; simp
  · intro v; change (decide (0x40000000 ≤ (1075183616) ∧ (1075183616) < 0x40160000 ∧ (1075183616) % 4 = 0)) = false; simp
  · intro v; change (decide (0x40000000 ≤ (0x40000002) ∧ (0x40000002) < 0x40160000 ∧ (0x40000002) % 4 = 0)) = false; simp
  · intro b; change (decide ((512) < 512)) = false; simp
  · intro hs leaf chain anchor certOk periodOk t; change (decide ((512) < 512 ∧ t < 1000051)) = false; simp
  · intro i hs leaf chain anchor certOk periodOk; change (decide (i < 512 ∧ (1000051) < 1000051)) = false; simp
  · intro tec rec'; change (decide ((4) < 4 ∧ tec ≤ 255 ∧ rec' ≤ 255)) = false; simp
  · intro c rec'; change (decide (c < 4 ∧ (256) ≤ 255 ∧ rec' ≤ 255)) = false; simp
  · intro c tec; change (decide (c < 4 ∧ tec ≤ 255 ∧ (256) ≤ 255)) = false; simp

theorem test_illFormed_delayReqSend_to_holdChargeComplete :
    (∀ p t, Instr.wf (.delayReqSend 2 p t) = false) ∧
    (∀ i t, Instr.wf (.delayReqSend i 2 t) = false) ∧
    (∀ i p, Instr.wf (.delayReqSend i p 1000051) = false) ∧
    (∀ t, Instr.wf (.pdelayReqSend 4 t) = false) ∧
    (∀ p, Instr.wf (.pdelayReqSend p 1000051) = false) ∧
    (Instr.wf (.announceSend 3) = false) ∧
    (Instr.wf (.holdChargeComplete 4294967296) = false) := by
  refine ⟨?_, ?_, ?_, ?_, ?_, ?_, ?_⟩
  · intro p t; change (decide ((2) < 2 ∧ p < 2 ∧ t < 1000051)) = false; simp
  · intro i t; change (decide (i < 2 ∧ (2) < 2 ∧ t < 1000051)) = false; simp
  · intro i p; change (decide (i < 2 ∧ p < 2 ∧ (1000051) < 1000051)) = false; simp
  · intro t; change (decide ((4) < 4 ∧ t < 1000051)) = false; simp
  · intro p; change (decide (p < 4 ∧ (1000051) < 1000051)) = false; simp
  · change (decide ((3) < 3)) = false; simp
  · change (decide ((4294967296) < 4294967296)) = false; simp

end Sys2Proof

namespace Sys2Proof.Machine

/-! ### small states for the tests -/

/-- A Draft with nothing provisioned. -/
def aDraft : Draft := {
  obs := {
    m := ((0, 0, 0), (0, 0, 0), (0, 0, 0)), d := ((0, 0, 0), (0, 0, 0), (0, 0, 0))
    qNu := (0, 0, 0), qB := (0, 0, 0), qW := (0, 0, 0), qTau := (0, 0, 0), sd0 := [] }
  guide := { kp := (0, 0, 0), kd := (0, 0, 0) }
  alloc := { tauMax := (0, 0, 0) } }

/-- A slot record for slot 0. -/
def aSlot : SlotRec := {
  slot := 0, uLo := 0, uHi := 0, duMax := 0, refMap := [], ffMap := [], ffLo := 0, ffHi := 0, capMap := [], ctrls := []
  duFz := 0, eMax := 0, rampRate := 0, autoRec := true
  rep := some { source := .wave 0, tMin := 0, tMax := 0, urc := 0 } }

/-- A Kiln table: output 0 used, input 0 EQUIV, source 0 enabled, cross-trip line 0 used. -/
def aTable : KTable := {
  raw := [], sealId := 0, p := 1000, w := 100, s := 100, tpsEn := 1, hbT := 3, swInt := 24, swDark := 100
  ins := [{ mode := 1, tpsA := 0, tpsB := 0xFF, filter := 1, tdisc := 10 }]
  outs := [{ used := true, flags := 0x10, restart := 0xFF, xmask := 0, imask := 1, emask := 0, offDelay := 10, iMin := 50 }]
  envs := [], xts := [{ used := true, lossEvent := true, filter := 5, imask := 0, omask := 0, flags := 0 }] }

/-- The record of its output 0. -/
def anOut : KOutRec := { used := true, flags := 0x10, restart := 0xFF, xmask := 0, imask := 1, emask := 0, offDelay := 10, iMin := 50 }

/-- A datagram's lines: tag block s:A with its checksum, then one sentence. -/
def aTagged : List Byte := [0x5C#8, 115#8, 58#8, 65#8, 42#8, 48#8, 56#8, 0x5C#8, 36#8]
/-- The header of an IEC 61162-450 datagram. -/
def aHead450 : List Byte := [0x55#8, 0x64#8, 0x50#8, 0x62#8, 0x43#8, 0#8]
/-- A session record's 64 bytes. -/
def sessImage (r : SessRec) : List Byte :=
  le16 r.index ++ [byteOf r.kind, byteOf (b2n r.rx + 2 * b2n r.tx + 4 * b2n r.rtcm), byteOf r.iface, 0, 0, 0]
    ++ (r.address ++ zeros 16).take 16 ++ le32 r.tStaleUs ++ le32 r.tLostUs ++ [byteOf r.admitN, byteOf r.glaze] ++ le16 r.rate
    ++ zeros 4 ++ le16 r.errLim ++ le16 r.period ++ ((r.tables ++ List.replicate 4 65535).take 4).flatMap le16 ++ zeros 12
/-- A session record with an address of 16 bytes, as the Draft gives it back. -/
def full (r : SessRec) : SessRec := { r with address := (r.address ++ zeros 16).take 16 }
/-- A Draft with one session record. -/
def withSess (r : SessRec) : Draft := { aDraft with sessionImages := [sessImage r] }
/-- A state of a ready network with one session record whose session is provisioned. -/
def netState (r : SessRec) : State := { draft := some (withSess r), net := { ready := true }, sess := [(r.index, { kind := r.kind })] }
/-- Set 0 of the Glaze. -/
def crcSet : GlazeSet := { width := 32, refin := true, refout := true, poly := 0x1EDC6F41, init := 0xFFFFFFFF, xorout := 0xFFFFFFFF }
/-- A drive status frame of zeros with its check value, and a PRIO reply without blocks. -/
def aDriveFrame : List Byte := ([1#8, 0x81#8, 0#8, 32#8] ++ zeros 52) ++ be32 (glazeCheck crcSet ([1#8, 0x81#8, 0#8, 32#8] ++ zeros 52))
def aReply : List Byte := ([1#8, 0x81#8, 0#8, 0#8] ++ zeros 24) ++ be32 (glazeCheck crcSet ([1#8, 0x81#8, 0#8, 0#8] ++ zeros 24))
/-- A ready task, and a running Shuttle whose only task it is, with its program at word 0. -/
def twTask (k : Task) : Task := { k with st := 1 }
def twState (code : List Word) (k : Task) : State :=
  { shuttle := { run := true, prog := { code := code, tasks := [{ entry := 0 }] }, tasks := [twTask k] } }
/-- A command header of session 0. -/
def aHdr : Hdr := { sess := 0, cseq := 1 }
/-- Session 0 at a level; one whose anchor grants SAFETY; one that holds it. -/
def aSess (l : Nat) : CmdSession := { idx := 0, level := l, actor := 7, lastRecord := 0 }
def grantSess : CmdSession := { aSess 2 with grantsSafety := true }
def safeSess : CmdSession := { grantSess with safetyUntil := some 900000000 }
/-- A state with one open command session. -/
def cmdState (st : ModState) (x : CmdSession) : State := { sys := { st := st }, cmd := { sessions := [x] } }
/-- A state whose session 0 is the correction session; an RTCM message of two bytes with a type. -/
def rtcmState : State := { draft := some { aDraft with gnss := { rtcm := some 0 } }, sess := [(0, { credit := 1000 })] }
def rtcmMsg (ty : Nat) : List Byte :=
  let b : List Byte := [0xD3#8, 0#8, 2#8, byteOf (ty / 16), byteOf (ty * 16)]
  b ++ (be32 (glazeCheck crc24q b)).drop 1
/-- A Draft of a pair, one with session 1 in group 0, one whose thruster 0 has loop slot 0. -/
def pairDraft : Draft := { aDraft with pair := { mode := 1 } }
def intakeDraft : Draft := { aDraft with heddle := { intake := [{ sess := 1, group := 1 }] } }
def aThr : ThrRec := { azi := false, x := 0, y := 0, sect := 0, fFwd := 0x3F800000, fRev := 0x3F800000, thrRate := fofNat 1000, p0 := 0, pMax := 0, sess := 3, slot := some 0 }
def slotDraft : Draft := { aDraft with alloc := { tauMax := (0, 0, 0), thr := [aThr] }, loop := [aSlot] }
/-- A Wheel schedule of role 1. -/
def sched0 : WheelSched := {
  role := 1, n := 0, m := 0, nnzP := 0, nnzA := 0, nnzL := 0, nSuper := 0, hSteps := 0, hMs := 0, tSetup := 0, tIter := 0
  mem := 0, fprint := 0, nThr := 1, chk := 0, colP := [], rowP := [], colA := [], rowA := [], thrMap := [], shift := [] }
def schedF : WheelSched := { sched0 with fprint := BitVec.ofNat 64 (schedPrint sched0) }
def aSched : WheelSched := { schedF with chk := BitVec.ofNat 32 (crc32c (schedHeader schedF)) }
/-- A Draft with the schedule of role 1, a data image and a warm-start record. -/
def wheelDraft : Draft := { aDraft with wheel := { scheds := [sched0] } }
/-- A schedule of one row, and a point of it whose factor is not finite. -/
def schedInf : WheelSched := { sched0 with m := 1, perm := [0] }
def infVals : QpVals := { l := [0], u := [0x7FF0000000000000#64] }
def infRow : RowPt := { sl := 0x7E00000000000000#64, su := 0, ll := 0x0100000000000000#64, lu := 0, y := 0 }
def anImage : Image := { role := 1, edge := 0, thr := [], bus := [] }
def aWarm : WarmRec := {
  role := 1, fprint := 0, beat := 0, anchor := 0, n := 0, m := 0, status := 1, iter := 0, mu := 0, x := [], lamL := [], lamU := [] }
/-- A Draft that every block accepts, signed under key 5. -/
def signedDraft : Draft :=
  let one : F64 := 0x3FF0000000000000#64
  let i3 : V3 := (one, one, one)
  { aDraft with
    base := { ident := 9, sigKey := some 5 }
    obs := {
      m := ((one, 0, 0), (0, one, 0), (0, 0, one)), d := ((one, 0, 0), (0, one, 0), (0, 0, one))
      qNu := i3, qB := i3, qW := i3, qTau := i3, sd0 := List.replicate 18 one }
    guide := { kp := i3, kd := i3, windOn := false }
    wheel := { scheds := [aSched] }
    sessionImages := [sessImage { index := 3, kind := 8, glaze := 0 }]
    shuttle := { code := [0x45000000#32], routines := [{ start := 0, len := 1 }], tasks := [{ entry := 0 }] }
    alloc := { tauMax := i3, thr := [{ aThr with slot := none }] } }
/-- The same with a Kiln table of another identity; one that the blocks refuse. -/
def changedKiln : Draft := { signedDraft with base := { ident := 9, sigKey := some 5, coKey := some 7 }, kiln := zeros 12 ++ [1#8] ++ zeros 7 }
def badDraft : Draft := { aDraft with base := { ident := 9, sigKey := some 5 } }
/-- A program of one task that ends at once. -/
def oneProg (id : U64) : TwProg := { progId := id, code := [0x45000000#32], routines := [{ start := 0, len := 1 }], tasks := [{ entry := 0 }] }
/-- A running Shuttle with an online change staged. -/
def changeState : State := {
  cmdState .ready (aSess 2) with
  sec := { anchors := [{ kind := 1, level := 0, keyId := 5 }] }
  shuttle := { run := true, prog := oneProg 8, change := some { base := 8, prog := oneProg 9, sigKey := some 5 } } }
/-- An open firmware transfer of session 0, complete. -/
def aBulk : Bulk := { sess := 0, target := 3, length := 0, digest := sha256 [], lastWrite := 0 }

/-- The next state of an outcome. -/
def nextOf (o : Host.Outcome State Fault Refusal) : Option State :=
  match o with
  | .next t => some t
  | .fault _ => none
  | .refused _ => none

/-! ### single facts, their values from the spec's tables and worked examples -/

/-- The check values of "123456789" (table of R613). -/
theorem test_glaze_checkValues : fixedSets.map (fun g => glazeCheck g (ascii "123456789")) = [0xE3069283, 0xCBF43926, 0xCDE703, 0x29B1] := by
  decide

/-- North 1,234.567 m on the wire (worked example of R12). -/
theorem test_wire_north : be32 1234567 = [0x00#8, 0x12#8, 0xD6#8, 0x87#8] := by decide

/-- 150 kN as a binary32 word (worked example of R12). -/
theorem test_binary32_thrust : f32OfInt 150000 = 0x48127C00#32 := by decide

/-- Block, severity of event 0x0521_0003 (worked example of R16). -/
theorem test_event_fields : (evBlock 0x05210003, evSev 0x05210003) = (5, 2) := by decide

/-- 5,400 µF at 42 W hold for 121.1 ms (worked example of R679). -/
theorem test_holdUp_estimate : holdTime 5400 42000 = 1211 := by decide

/-- The first, third and sixth instruction of the example encoding (chapter 14). -/
theorem test_twill_example : let code : List Word := [0x01050000, 0x13, 0x01F20000, 0x2A05F200, 1, 0x50030000, 0x4000, 0x02060000, 0x100, 0x04000000]
    (fetchTw code 0, fetchTw code 2, fetchTw code 5, fetchTw code 9) =
    (some { op := 1, ty := 0, mode := 5, imm := 0, ext1 := 0x13, next := 2 },
     some { op := 1, ty := 15, mode := 2, imm := 0, ext1 := 0x2A05F200, ext2 := 1, next := 5 },
     some { op := 0x50, ty := 0, mode := 3, imm := 0, ext1 := 0x4000, next := 7 },
     some { op := 4, ty := 0, mode := 0, imm := 0, next := 10 }) := by decide

theorem test_memory_read_after_write : memRead (memWrite [(5, 1)] 3 7) 3 = 7 := by decide
theorem test_memory_zero_is_unlisted : memWrite [(3, 7), (5, 1)] 3 0 = [(5, 1)] := by decide

theorem test_step_idles : step State.reset = .next State.reset := rfl
theorem test_step_takes_the_front : step { pending := [.tripLineAssert, .holdUpEnd] } = exec .tripLineAssert { pending := [.holdUpEnd] } := rfl

/-- A refused command counts in CMD_REFCNT; an accepted one in CMD_ACCCNT (R549). -/
theorem test_command_counts : (nextOf (exec (.goReady aHdr) (cmdState .standby (aSess 0)))).map (fun t => (t.cmd.accCnt, t.cmd.refCnt)) = some (0, 1) ∧
    (nextOf (exec (.goSafe aHdr) (cmdState .active (aSess 1)))).map (fun t => (t.cmd.accCnt, t.cmd.refCnt)) = some (1, 0) := by decide

/-- The edge of beat 1002 of the recorder stall: RECORD of beat 1000 still holds its bank, so the beat is dropped (chapter 02). -/
theorem test_beat_dropped : (nextOf (exec .beatEdge { warp := {
      picks := true, run := true, nsel := 1, pickCount := 20, nextEdge := some 20, beatCount := 1001
      last := some { count := 1001, holders := [.record] }, prev := some { count := 1000, recording := 1, holders := [.record] } } })).map
      (fun t => (t.warp.dropCnt, t.warp.dropRun, (t.warp.window.filter (fun b => b)).length)) = some (1, 1, 1) := by decide

/-- TRIP_LINE_ASSERT latches TRIP and raises 0x1056_0001 in the Kiln (R428). -/
theorem test_trip_latched : (nextOf (exec .tripLineAssert { kiln := { powered := true } })).map (fun t => t.kiln.trip) = some true := by decide

/-- Registers after reset (tables of chapters 01 and 20). -/
theorem test_hold_registers_at_reset : (State.readReg State.reset 0x40120014).2 = 0 ∧ (State.readReg State.reset 0x40010000).2 = 1 := by decide


/-- A modulator at full scale drives the CIC output to 48⁴ = 5,308,416 (R630). -/
theorem test_cic_full_scale : ((List.replicate 192 true).foldl (fun (x : Cic) b => x.bit 1 b) {}).out = 5308416#28 := by decide +kernel

/-! ### the hypotheses of the obligations can be met -/

theorem witness_EmptyQueueIdles : ∃ (s : State), s.pending = [] :=
  ⟨{}, rfl⟩

theorem witness_StepKeepsInv : ∃ (s t : State), Inv s ∧ step s = .next t :=
  ⟨{ pending := [.holdUpEnd] }, _, rfl, rfl⟩

theorem witness_OnlyWritersChangeMemory : ∃ (i : Sys2Proof.Instr) (s t : State), exec i s = .next t ∧ t.mem ≠ s.mem :=
  ⟨.holdUpEnd, { pmic := { pfw := true }, mem := [(0x10000000, 1)] }, _, rfl, by decide⟩

theorem witness_WrittenMemoryReadsBack :
    (∃ (s : State) (h : Hdr) (x : CmdSession) (a : Nat) (b : List Byte), Inv s ∧ s.accepts h 0x0902 x = true ∧ spanIn [general]
    a b.length = true) ∧
    (∃ (s : State) (h : Hdr) (x : CmdSession) (a : Nat) (b : List Byte), s.accepts h 0x0902 x = true ∧ writable a b.length =
    false) :=
  ⟨⟨cmdState .service (aSess 2), aHdr, aSess 2, 0x13FFFFFF, [1], rfl, by decide, by decide⟩,
    ⟨cmdState .service (aSess 2), aHdr, aSess 2, 0x13FFFFFF, [1, 2], by decide⟩⟩

theorem witness_LevelStateAndRoleAreChecked : ∃ (i : Sys2Proof.Instr) (h : Hdr) (op : Nat) (s : State) (x : CmdSession), asCommand i = some (h, op) ∧ s.cmdSess h.sess =
    some x ∧ s.serves = true ∧ x.waiting = none ∧ (∀ q r, x.last = some (q, r) → q ≠ h.cseq ∧ seqNewer q h.cseq = false) ∧
    (s.heard h.sess x).levelOf x < (cmdSpec op).level :=
  ⟨.goReady aHdr, aHdr, 0x0201, cmdState .standby (aSess 0), aSess 0, rfl, rfl, rfl, rfl, (fun _ _ hl => nomatch hl), by decide⟩

theorem witness_RefusalsHaveNoEffect :
    (∃ (s t : State) (e : Nat), e ≠ 0 ∧ t = s.finish 0 0x0100 1 e []) ∧
    (∃ (s t : State), t = s.finish 0 0x0100 1 0 []) :=
  ⟨⟨cmdState .ready (aSess 1), _, 0x1004, by decide, rfl⟩,
    ⟨cmdState .ready (aSess 1), _, rfl⟩⟩

theorem witness_RepeatedAndOldSequenceNumbers :
    (∃ (i : Sys2Proof.Instr) (h : Hdr) (op : Nat) (s : State) (x : CmdSession) (r : List Byte), asCommand i = some (h, op) ∧
    s.cmdSess h.sess = some x ∧ s.serves = true ∧ x.last = some (h.cseq, r) ∧ r ≠ []) ∧
    (∃ (i : Sys2Proof.Instr) (h : Hdr) (op : Nat) (s : State) (x : CmdSession) (q : Word) (r : List Byte), asCommand i = some
    (h, op) ∧ s.cmdSess h.sess = some x ∧ s.serves = true ∧ x.last = some (q, r) ∧ 1 ≤ (q - h.cseq).toNat ∧ (q -
    h.cseq).toNat ≤ 2147483647) :=
  ⟨⟨.goSafe aHdr, aHdr, 0x0203, cmdState .active { aSess 1 with last := some (1, [1]) }, { aSess 1 with last := some (1, [1]) }, [1], by decide⟩,
    ⟨.goSafe aHdr, aHdr, 0x0203, cmdState .active { aSess 1 with last := some (0x80000000, [1]) }, { aSess 1 with last := some (0x80000000, [1]) }, 0x80000000, [1], by decide⟩⟩

theorem witness_FixedGlazeSets : ∃ (s : State) (g : GlazeSet) (i : Nat), i < 4 ∧ s.glazeSet i = some g :=
  ⟨{}, _, 3, by decide, rfl⟩

theorem witness_StateLamps : ∃ (s : State), s.sys.bootFailed = true ∧ s.sys.st = .boot :=
  ⟨{ sys := { bootFailed := true } }, rfl, rfl⟩

theorem witness_BeatCount :
    (∃ (s : State), s.edgeDue = true ∧ s.warp.run = false) ∧
    (∃ (s : State), s.edgeDue = true ∧ s.warp.run = true) :=
  ⟨⟨{ warp := { picks := true, nextEdge := some 0 } }, by decide⟩,
    ⟨{ warp := { picks := true, run := true, nextEdge := some 0 } }, by decide⟩⟩

theorem witness_SafeAtOnce : ∃ (s t : State), s.sys.st = .active ∧ t = s.enterSafe 7 :=
  ⟨cmdState .active (aSess 1), _, rfl, rfl⟩

theorem witness_IntegersWrap :
    (∃ (ty : Nat), tyInt ty = true) ∧
    (∃ (ty : Nat) (n : Int), tyInt ty = true ∧ twMin ty ≤ n ∧ n ≤ twMax ty) :=
  ⟨⟨8, by decide⟩,
    ⟨1, -128, by decide⟩⟩

theorem witness_WarpAndGlazeWrites :
    (∃ (s : State) (v : Word), (s.sys.st = .standby) ∧ (v.toNat % 8 ≤ 4)) ∧
    (∃ (s : State) (v : Word), (s.sys.st ≠ .standby ∨ 4 < v.toNat % 8)) ∧
    (∃ (s : State) (v : Word) (y : GlazeSet), (s.glazeSet (nbits v.toNat 13 8) = some y)) ∧
    (∃ (s : State) (v : Word), (s.glazeSet (nbits v.toNat 13 8) = none)) :=
  ⟨⟨{ sys := { st := .standby } }, 4, by decide⟩,
    ⟨{ sys := { st := .active } }, 4, by decide⟩,
    ⟨{}, 0, _, rfl⟩,
    ⟨{}, 0x800, by decide⟩⟩

theorem witness_RegisterWriteActsAsItsRow : ∃ (s : State) (a : Nat) (v : Word), (aget a rwWrites = none) ∧ (aget a otherWrites = none) :=
  ⟨{}, 0x40000000, 1, by decide⟩

theorem witness_StartSteps :
    (∃ (s : State) (rtc : Option Nat), (s.sys.st = .off) ∧ (s.pmic.thermalOff = false)) ∧
    (∃ (s : State) (seat ok0 ok1 : Bool) (us : Nat), (s.sys.st = .boot) ∧ (s.sys.bootFailed = false) ∧ (s.pmic.loomHeld =
    false) ∧ (s.sec.bootBegins.bootSlot ok0 ok1 = none)) ∧
    (∃ (s : State) (seat ok0 ok1 : Bool) (us : Nat), (s.sys.st = .boot) ∧ (s.sys.bootFailed = false) ∧ (s.pmic.loomHeld =
    false) ∧ (s.sec.bootBegins.bootSlot ok0 ok1 = some s.sec.bootBegins.activeSlot)) ∧
    (∃ (s : State) (seat ok0 ok1 : Bool) (us : Nat), (s.sys.st = .boot) ∧ (s.sys.bootFailed = false) ∧ (s.pmic.loomHeld =
    false) ∧ (s.sec.bootBegins.bootSlot ok0 ok1 = some (!s.sec.bootBegins.activeSlot))) ∧
    (∃ (s : State) (ok : Bool) (trips : List (Bool × Bool)) (glazeBad : BitVec 16) (whole : Bool) (hits : List (Nat × Nat ×
    Byte)) (damaged : List Word), (s.sys.st = .selftest) ∧ (s.pmic.waitHold = false) ∧ (ok = true) ∧ (trips.all (fun e =>
    e.1 && e.2) = true ∨ s.pmic.rstCause = 2) ∧ (glazeBad = 0)) ∧
    (∃ (s : State) (ok : Bool) (trips : List (Bool × Bool)) (glazeBad : BitVec 16) (whole : Bool) (hits : List (Nat × Nat ×
    Byte)) (damaged : List Word), (s.sys.st = .selftest) ∧ (s.pmic.waitHold = false) ∧ (ok = false ∨ glazeBad ≠ 0 ∨
    (trips.all (fun e => e.1 && e.2) = false ∧ s.pmic.rstCause ≠ 2))) :=
  ⟨⟨{ sys := { st := .off } }, none, by decide⟩,
    ⟨{}, false, false, false, 900, by decide⟩,
    ⟨{ sec := { slot0 := { present := true, epoch := 9 } } }, false, true, true, 900, by decide⟩,
    ⟨{ sec := { slot1 := { present := true, epoch := 9 } } }, false, false, true, 900, by decide⟩,
    ⟨{ sys := { st := .selftest }, pmic := { waitHold := false } }, true, [], 0, true, [], [], by decide⟩,
    ⟨{ sys := { st := .selftest }, pmic := { waitHold := false } }, false, [], 0, true, [], [], by decide⟩⟩

theorem witness_PowerSupply :
    (∃ (s : State) (since : Nat), (s.pmic.bandSince = some since) ∧ (since + 1000000 ≤ s.otime) ∧ (s.pmic.vinOut = false)) ∧
    (∃ (s : State), (s.sys.st ≠ .off)) ∧
    (∃ (s : State), (s.pmic.pfw = true) ∧ (s.pmic.pfwThermal = false)) ∧
    (∃ (s : State), (s.sherd.pfFlush = true)) ∧
    (∃ (s : State), (s.pmic.pfw = true)) ∧
    (∃ (s : State) (us : Nat), (s.sys.st ≠ .off) ∧ (s.pmic.capAt + 3600000000 ≤ s.otime)) ∧
    (∃ (s : State) (uc : Nat), (s.sys.st ≠ .off)) ∧
    (∃ (s : State), (s.sys.st ≠ .off) ∧ (s.pmic.waitHold = true) ∧ (s.pmic.holdOk = false) ∧ (s.pmic.chargeAt + 1000000 ≤
    s.otime)) ∧
    (∃ (s : State) (since : Nat), (s.pmic.hotSince = some since) ∧ (since + 10000 ≤ s.otime) ∧ (s.pmic.pfwThermal = false) ∧
    (s.sys.st ≠ .off)) ∧
    (∃ (s : State) (tb tl tk tp : Int) (rtc : Option Nat), (s.sys.st = .off) ∧ (s.pmic.thermalOff = true) ∧ (tb < 900) ∧ (tl <
    1100) ∧ (tk < 1100) ∧ (tp < 1100)) :=
  ⟨⟨{ pmic := { bandSince := some 0 }, clk := { otimeUs := 1000000 } }, 0, by decide⟩,
    ⟨{ sys := { st := .standby } }, by decide⟩,
    ⟨{ pmic := { pfw := true } }, by decide⟩,
    ⟨{ sherd := { pfFlush := true } }, by decide⟩,
    ⟨{ pmic := { pfw := true } }, by decide⟩,
    ⟨{ clk := { otimeUs := 3600000000 } }, 216000, by decide⟩,
    ⟨{}, 108000, by decide⟩,
    ⟨{ pmic := { waitHold := true, holdOk := false }, clk := { otimeUs := 1000000 } }, by decide⟩,
    ⟨{ pmic := { hotSince := some 0 }, clk := { otimeUs := 10000 } }, 0, by decide⟩,
    ⟨{ sys := { st := .off }, pmic := { thermalOff := true } }, 0, 0, 0, 0, none, by decide⟩⟩

theorem witness_ResetSources :
    (∃ (s : State), (s.sys.st ≠ .off) ∧ (s.pmic.loomHeld = false)) ∧
    (∃ (s : State), (s.sys.st = .off ∨ s.pmic.loomHeld = true)) ∧
    (∃ (s : State), (s.sys.st ≠ .off) ∧ (s.pmic.loomHeld = false)) ∧
    (∃ (s : State), (s.sys.st = .off ∨ s.pmic.loomHeld = true)) ∧
    (∃ (s : State), (s.sys.st ≠ .off)) ∧
    (∃ (s : State), (s.sys.st ≠ .off)) ∧
    (∃ (s : State) (rail : Nat), (s.sys.st ≠ .off) ∧ (rail = 1 ∨ rail = 3 ∨ rail = 4) ∧ (s.pmic.railAt = none)) ∧
    (∃ (s : State) (rail at0 : Nat), (s.sys.st ≠ .off) ∧ (rail = 1 ∨ rail = 3 ∨ rail = 4) ∧ (s.pmic.railAt = some at0) ∧
    (s.otime ≤ at0 + 10000000)) :=
  ⟨⟨{}, by decide⟩,
    ⟨{ sys := { st := .off } }, by decide⟩,
    ⟨{}, by decide⟩,
    ⟨{ sys := { st := .off } }, by decide⟩,
    ⟨{}, by decide⟩,
    ⟨{}, by decide⟩,
    ⟨{}, 1, by decide⟩,
    ⟨{ pmic := { railAt := some 0 } }, 1, 0, by decide⟩⟩

theorem witness_ClocksAndPicks :
    (∃ (s : State) (netUs : Nat) (spare : Bool) (streams : List (List SampRun)) (exc : List F64) (svcEn : Bool) (pw : PowerIn),
    (s.warp.picks = true)) ∧
    (∃ (s : State) (netUs : Nat) (spare : Bool) (streams : List (List SampRun)) (exc : List F64) (svcEn : Bool) (pw : PowerIn),
    (s.warp.picks = false)) ∧
    (∃ (s : State), (s.edgeDue = true) ∧ (((s.at 0).applyCommands.warpEdge).warp.window.head? = some false)) ∧
    (∃ (s : State), (s.edgeDue = true) ∧ (((s.at 0).applyCommands.warpEdge).warp.window.head? ≠ some false)) ∧
    (∃ (s : State), (s.edgeDue = false)) ∧
    (∃ (s : State) (u : Ns) (b : Beat), (s.warp.run = true) ∧ (s.warp.old = []) ∧ (s.warp.prev.all (fun p => p.recording != 1
    && !p.recordDue (s.at u).n (s.at u).now) = true) ∧ (s.warp.last = some b) ∧ (s.warp.stage = .dispatched) ∧
    (b.recordDue (s.at u).n (s.at u).now = true)) ∧
    (∃ (s : State) (u : Ns) (b : Beat), (s.warp.run = true) ∧ (s.warp.old = []) ∧ (s.warp.prev = some b) ∧ (s.warp.last.all
    (fun l => l.recording != 1) = true) ∧ (b.recordDue (s.at u).n (s.at u).now = true)) ∧
    (∃ (s : State) (u : Ns) (b : Beat), (s.warp.old = []) ∧ (s.warp.prev.all (fun p => p.recording != 1) = true) ∧ (s.warp.last
    = some b) ∧ (b.recording = 1)) ∧
    (∃ (s : State) (u : Ns) (b : Beat), (s.warp.old = []) ∧ (s.warp.prev = some b) ∧ (b.recording = 1)) ∧
    (∃ (s : State) (u : Ns) (b : Beat) (rest : List Beat), (s.warp.old = b :: rest)) ∧
    (∃ (s : State) (counts : List (Nat × Nat)) (half : Nat × Nat), (s.sys.st = .off)) ∧
    (∃ (s : State) (counts : List (Nat × Nat)) (half : Nat × Nat), (s.sys.st ≠ .off) ∧ (cmpFails counts half &&& s.sys.cmpLast
    = 0)) ∧
    (∃ (s : State) (counts : List (Nat × Nat)) (half : Nat × Nat), (s.sys.st ≠ .off)) :=
  ⟨⟨{ warp := { picks := true } }, 1000, true, [], [], false, {}, by decide⟩,
    ⟨{}, 1000, true, [], [], false, {}, by decide⟩,
    ⟨{ warp := { picks := true, nextEdge := some 0 } }, by decide⟩,
    ⟨{ warp := { picks := true, nextEdge := some 0, run := true, last := some { holders := [.solve] }, prev := some { holders := [.solve] } } }, by decide⟩,
    ⟨{}, by decide⟩,
    ⟨{ warp := { run := true, stage := .dispatched, last := some { holders := [.record] } } }, 9000000, { holders := [.record] }, by decide⟩,
    ⟨{ warp := { run := true, prev := some { holders := [.record] } } }, 9000000, { holders := [.record] }, by decide⟩,
    ⟨{ warp := { last := some { recording := 1 } } }, 9000000, { recording := 1 }, by decide⟩,
    ⟨{ warp := { prev := some { recording := 1 } } }, 9000000, { recording := 1 }, by decide⟩,
    ⟨{ warp := { old := [{ recording := 1 }] } }, 9000000, { recording := 1 }, [], by decide⟩,
    ⟨{ sys := { st := .off } }, [], (0, 0), by decide⟩,
    ⟨{}, [], (0, 0), by decide⟩,
    ⟨{}, [], (0, 0), by decide⟩⟩

theorem witness_ConeMonitors :
    (∃ (s : State), (s.warp.run = true) ∧ (3 ≤ s.warp.win) ∧ (s.warp.degDrop = false)) ∧
    (∃ (s : State), (s.warp.run = true) ∧ (s.warp.win = 0) ∧ (s.warp.degDrop = true)) ∧
    (∃ (s : State), (s.warp.run = true) ∧ (10 ≤ s.warp.dropRun) ∧ (s.warp.dropSafe = false)) ∧
    (∃ (s : State), (s.warp.before .voted = true)) ∧
    (∃ (s : State), (s.warp.before .observed = true)) ∧
    (∃ (s : State) (b : Beat), (s.warp.run = true) ∧ (s.warp.stage ≠ .idle) ∧ (s.warp.last = some b) ∧ (b.guiding = true)) ∧
    (∃ (s : State) (n : Nat), ((s.sendBeat n).warp.txBeat ≠ [])) ∧
    (∃ (s : State) (n : Nat), ((s.sendBeat n).warp.txBeat = [])) ∧
    (∃ (s : State) (n : Nat), ((s.sendBeat n).warp.txBeat ≠ [])) ∧
    (∃ (s : State) (n : Nat), ((s.sendBeat n).warp.txBeat = [])) ∧
    (∃ (s : State) (u : Ns), ((s.warp.last.toList ++ s.warp.prev.toList ++ s.warp.old).any (fun b => b.recordLate s.n (s.at
    u).now) = true)) ∧
    (∃ (s : State), (s.warp.txPhase ≠ [])) ∧
    (∃ (s : State), (12000 < s.warp.sramPicks) ∧ (s.warp.sramTold = false)) ∧
    (∃ (s : State), (60000 < s.warp.mramPicks) ∧ (s.warp.mramTold = false)) :=
  ⟨⟨{ warp := { run := true, window := [true, true, true] } }, by decide⟩,
    ⟨{ warp := { run := true, degDrop := true } }, by decide⟩,
    ⟨{ warp := { run := true, dropRun := 10 } }, by decide⟩,
    ⟨{ warp := { run := true, stage := .edge } }, by decide⟩,
    ⟨{ warp := { run := true, stage := .voted } }, by decide⟩,
    ⟨{ warp := { run := true, stage := .observed, last := some { holders := [.guide] } } }, { holders := [.guide] }, by decide⟩,
    ⟨{ warp := { txBeat := [.pulse 0 0] } }, 0, by decide⟩,
    ⟨{}, 0, by decide⟩,
    ⟨{ warp := { txBeat := [.pulse 0 0] } }, 0, by decide⟩,
    ⟨{}, 0, by decide⟩,
    ⟨{ warp := { last := some { holders := [.record] } } }, 100000000, by decide⟩,
    ⟨{ warp := { txPhase := [.pulse 0 0] } }, by decide⟩,
    ⟨{ warp := { sramPicks := 12001 } }, by decide⟩,
    ⟨{ warp := { mramPicks := 60001 } }, by decide⟩⟩

theorem witness_TimeMessages :
    (∃ (s : State) (i : Nat), (i < 2) ∧ ((s.src i).mast = true)) ∧
    (∃ (s : State), (s.ringMaster = true)) ∧
    (∃ (s : State) (i : Nat), (s.mastOf i = true)) ∧
    (∃ (s : State) (i : Nat) (a : Announce), ((s.domain i).master = true) ∧ (s.ownBetter i a = true)) ∧
    (∃ (s : State) (i : Nat) (a : Announce), ((s.domain i).master = false ∨ s.ownBetter i a = false) ∧ ((s.src i).gm = some
    a.gm ∨ (s.src i).gm = none) ∧ (s.time.sel.contains i = false)) ∧
    (∃ (s : State) (i : Nat) (a : Announce), ((s.domain i).master = false ∨ s.ownBetter i a = false) ∧ ((s.src i).gm = some
    a.gm ∨ (s.src i).gm = none) ∧ (s.time.sel.contains i = true)) ∧
    (∃ (s : State) (i : Nat) (a : Announce) (g : U64), ((s.domain i).master = false ∨ s.ownBetter i a = false) ∧ ((s.src i).gm
    = some g) ∧ (g ≠ a.gm) ∧ ((s.src i).st = 2 ∨ (s.src i).st = 3 ∨ (s.src i).st = 4)) ∧
    (∃ (s : State) (i p n : Nat) (t1 corr t2 l : Int) (v : ServoOut), (s.slaveOf i = true) ∧ (s.portTimes p = true)) ∧
    (∃ (s : State) (i p n : Nat) (t1 corr t2 l : Int) (v : ServoOut), (s.slaveOf i = true) ∧ (s.portTimes p = true)) ∧
    (∃ (s : State) (i p n : Nat) (t1 corr t2 c : Int) (v : ServoOut) (b : List Byte) (bad : Bool), (p < 2) ∧ (s.slaveOf i =
    true) ∧ (s.portTimes p = true) ∧ (((s.src i).port p).wait = some (n, t2, c))) ∧
    (∃ (s : State) (i p n : Nat) (t1 corr : Int) (v : ServoOut) (b : List Byte) (bad : Bool) (e : Nat × Nat × Int), (2 ≤ p) ∧
    ((s.link p).passed.find? (fun (e : Nat × Nat × Int) => e.1 == n && decide (s.otime ≤ e.2.1 + 10000)) = some e)) ∧
    (∃ (s : State) (i p n : Nat) (t1 corr : Int) (v : ServoOut) (b : List Byte) (bad : Bool), (2 ≤ p) ∧ ((s.link
    p).passed.find? (fun (e : Nat × Nat × Int) => e.1 == n && decide (s.otime ≤ e.2.1 + 10000)) = none)) ∧
    (∃ (s : State) (i p : Nat) (u : Ns), (s.slaveOf i = true) ∧ (s.portTimes p = true) ∧ ((s.domain i).profile = 0)) ∧
    (∃ (s : State) (i p n : Nat) (t4 t3 t1 t2 : Int), (s.slaveOf i = true) ∧ (s.portTimes p = true) ∧ (((s.src i).port p).req =
    some (n, t3)) ∧ (((s.src i).port p).sync = some (t1, t2))) ∧
    (∃ (s : State) (i p n : Nat) (u : Ns), (i < 2) ∧ ((s.src i).mast = true)) ∧
    (∃ (s : State) (p : Nat) (u : Ns), (s.peerPort p = true)) ∧
    (∃ (s : State) (p n : Nat) (u : Ns), (s.peerPort p = true)) ∧
    (∃ (s : State) (p n : Nat) (t4 turn t1 : Int), (s.peerPort p = true) ∧ ((s.link p).req = some (n, t1))) :=
  ⟨⟨{ time := { srcs := [{ mast := true }] } }, 0, by decide⟩,
    ⟨{ time := { ringOn := true } }, by decide⟩,
    ⟨{ time := { ringOn := true } }, 2, by decide⟩,
    ⟨{ draft := some { aDraft with time := { domains := [{ master := true }] } } }, 0, { prio1 := 255, gm := 0, sender := 0 }, by decide⟩,
    ⟨{ time := { srcs := [{ gm := some 0 }] } }, 0, { gm := 0, sender := 0 }, by decide⟩,
    ⟨{ time := { sel := [0], srcs := [{ gm := some 0 }] } }, 0, { gm := 0, sender := 0 }, by decide⟩,
    ⟨{ time := { srcs := [{ st := 3, gm := some 1 }] } }, 0, { gm := 0, sender := 0 }, 1, by decide⟩,
    ⟨{ draft := some { aDraft with time := { ranks := [some 1, none, none] } }, net := { ports := [{ up := true, speed := 2 }] } }, 0, 0, 0, 0, 0, 0, 0, {}, by decide⟩,
    ⟨{ draft := some { aDraft with time := { ranks := [some 1, none, none] } }, net := { ports := [{ up := true, speed := 2 }] } }, 0, 0, 0, 0, 0, 0, 0, {}, by decide⟩,
    ⟨{ draft := some { aDraft with time := { ranks := [some 1, none, none] } }, net := { ports := [{ up := true, speed := 2 }] }, time := { srcs := [{ a := { wait := some (0, 0, 0) } }] } }, 0, 0, 0, 0, 0, 0, 0, {}, [], false, by decide⟩,
    ⟨{ time := { links := [{}, {}, { passed := [(0, 0, 5)] }] } }, 0, 2, 0, 0, 0, {}, [], false, (0, 0, 5), by decide⟩,
    ⟨{}, 0, 2, 0, 0, 0, {}, [], false, by decide⟩,
    ⟨{ draft := some { aDraft with time := { ranks := [some 1, none, none] } }, net := { ports := [{ up := true, speed := 2 }] } }, 0, 0, 0, by decide⟩,
    ⟨{ draft := some { aDraft with time := { ranks := [some 1, none, none] } }, net := { ports := [{ up := true, speed := 2 }] }, time := { srcs := [{ a := { req := some (0, 0), sync := some (0, 0) } }] } }, 0, 0, 0, 0, 0, 0, 0, by decide⟩,
    ⟨{ time := { srcs := [{ mast := true }] } }, 0, 0, 0, 0, by decide⟩,
    ⟨{}, 2, 0, by decide⟩,
    ⟨{}, 2, 0, 0, by decide⟩,
    ⟨{ time := { links := [{}, {}, { req := some (0, 0) }] } }, 2, 0, 0, 0, 0, by decide⟩⟩

theorem witness_TimeSources :
    (∃ (s : State) (i : Nat), (i < 2) ∧ ((s.src i).annAt + annTimeout * (s.src i).annInt ≤ s.otime ∨ (s.src i).syncAt + 3 *
    (s.src i).syncInt ≤ s.otime) ∧ ((s.domain i).master = false) ∧ ((s.src i).st = 2 ∨ (s.src i).st = 3 ∨ (s.src i).st =
    4)) ∧
    (∃ (s : State) (i : Nat), ((s.src i).st = 2) ∧ ((s.src i).fed = true) ∧ ((s.src i).since + s.timeRec.tQual * 1000000 ≤
    s.otime)) ∧
    (∃ (s : State) (i : Nat), ((s.src i).st = 5) ∧ ((s.src i).faultTo ≤ s.otime)) ∧
    (∃ (s : State) (i since : Nat), ((s.src i).agree = some since) ∧ ((s.src i).st = 4) ∧ (since + s.timeRec.tQual * 1000000 ≤
    s.otime)) ∧
    (∃ (s : State), (s.clk.est = true) ∧ (s.time.sel ≠ []) ∧ (s.clk.sub = 0) ∧ (s.isActive = false) ∧ (inSub s.timeRec.tStep <
    s.timeOfs)) ∧
    (∃ (s : State), (s.clk.est = true) ∧ (s.time.sel ≠ []) ∧ (s.clk.sub = 0) ∧ (s.isActive = true) ∧ (s.warp.run = true) ∧
    (s.warp.phase = 0) ∧ (inSub 1000000000 < s.timeOfs)) ∧
    (∃ (s : State), (s.time.hold = true) ∧ (s.time.holdTold = false) ∧ (flt (fofNat s.timeRec.holdLimit) s.timeUnc = true)) ∧
    (∃ (s : State) (devs : List Int), (s.time.refUse = false) ∧ (s.time.refBad = false) ∧ (s.timeRec.refUse = true) ∧ (1000 ≤
    devs.length) ∧ (devs.all (fun d => decide (d.natAbs ≤ 20000)) = true)) ∧
    (∃ (s : State) (edge : Bool) (dev ratio : Int), (edge = false ∨ 20000 < dev.natAbs) ∧ (s.time.refUse = true)) ∧
    (∃ (s : State) (edge : Bool) (dev ratio : Int), (edge = false ∨ 20000 < dev.natAbs) ∧ (s.time.refUse = false)) ∧
    (∃ (s : State) (ratio : Int), (s.time.refBad = true) ∧ (s.timeRec.refUse = true) ∧ (s.time.refFailAt + 60000000 ≤ s.otime)) ∧
    (∃ (s : State) (edge : Bool) (dev : Int), (s.time.tcxoBad = false) ∧ (edge = false ∨ 20000 < dev.natAbs)) ∧
    (∃ (s : State), (s.clk.est = true) ∧ (s.time.l61 = true) ∧ ((((s.now / 1000000000 : Nat) : Int) - s.time.leap) % 86400 = 0)) ∧
    (∃ (s : State), (s.clk.est = true) ∧ (s.time.l61 = false) ∧ (s.time.l59 = true) ∧ ((((s.now / 1000000000 : Nat) : Int) -
    s.time.leap) % 86400 = 86399)) ∧
    (∃ (s : State) (n : Nat) (u : Ns) (r : PpsRec), (s.timeRec.pps[n]? = some r) ∧ ((r.mode = 1 ∧ s.clk.est = true) ∨ (r.mode =
    2 ∧ 3 ≤ stateCode s.sys.st)) ∧ (s.draft.isSome = true) ∧ (((s.at u).now + r.advance) % 1000000000 = 0) ∧
    (s.time.ppsEnd.getD n 0 ≤ (s.at u).otime)) ∧
    (∃ (s : State), (s.time.tpvalid = true) ∧ (s.tpCond = false)) ∧
    (∃ (s : State) (since : Nat), (s.time.tpvalid = false) ∧ (s.time.tpSince = some since) ∧ (s.tpCond = true) ∧ (since +
    2000000 ≤ s.otime)) :=
  ⟨⟨{ time := { srcs := [{ st := 3, annInt := 0 }] } }, 0, by decide⟩,
    ⟨{ clk := { otimeUs := 10000000 }, time := { srcs := [{ st := 2, fed := true }] } }, 0, by decide⟩,
    ⟨{ time := { srcs := [{ st := 5 }] } }, 0, by decide⟩,
    ⟨{ clk := { otimeUs := 10000000 }, time := { srcs := [{ st := 4, agree := some 0 }] } }, 0, 0, by decide⟩,
    ⟨{ clk := { est := true }, sys := { st := .standby }, time := { sel := [2], srcs := [{}, {}, { theta := 131072000000 }] } }, by decide⟩,
    ⟨{ clk := { est := true }, sys := { st := .active }, warp := { run := true }, time := { sel := [2], srcs := [{}, {}, { theta := 131072000000000 }] } }, by decide⟩,
    ⟨{ time := { hold := true, u0 := 0x40F86A0000000000#64 } }, by decide⟩,
    ⟨{}, List.replicate 1000 0, rfl, rfl, rfl, by simp, by simp⟩,
    ⟨{ time := { refUse := true } }, false, 0, 0, by decide⟩,
    ⟨{}, true, 20001, 0, by decide⟩,
    ⟨{ time := { refBad := true }, clk := { otimeUs := 60000000 } }, 0, by decide⟩,
    ⟨{}, false, 0, by decide⟩,
    ⟨{ clk := { est := true }, time := { l61 := true, leap := 0 } }, by decide⟩,
    ⟨{ clk := { est := true, tick := 86399000000000 }, time := { l59 := true, leap := 0 } }, by decide⟩,
    ⟨{ draft := some aDraft, clk := { est := true } }, 0, 0, {}, by decide⟩,
    ⟨{ time := { tpvalid := true } }, by decide⟩,
    ⟨{ clk := { est := true, otimeUs := 2000000 }, time := { sel := [2], tpSince := some 0 } }, 0, by decide⟩⟩

theorem witness_IntakeAndVote :
    (∃ (s : State) (g : Telegram) (rest : List Telegram), (s.heddle.inbox = g :: rest)) ∧
    (∃ (s : State), (s.heddle.inbox = [])) ∧
    (∃ (s : State), (s.warp.run = true) ∧ (s.warp.stage = .edge)) ∧
    (∃ (s : State), (s.warp.run = true) ∧ (s.warp.stage = .intake)) ∧
    (∃ (s : State), (s.warp.run = true) ∧ (s.warp.stage = .voted)) ∧
    (∃ (s : State) (k : Nat) (u : Ns), ((s.track k).st = .confirmed ∨ (s.track k).st = .coasting) ∧ ((s.track k).lastHit +
    2000000000 ≤ (s.at u).now)) ∧
    (∃ (s : State) (i : Nat) (u : Ns) (x : Session), (s.session i = some x) ∧ (x.st = .live) ∧ (x.kind ≠ 0x0A) ∧ (x.kind ≠
    0x0B) ∧ (x.kind ≠ 0x0C) ∧ (x.lastValid.getD 0 + (s.at u).tStale i ≤ (s.at u).now)) ∧
    (∃ (s : State) (i : Nat) (u : Ns) (x : Session), (s.session i = some x) ∧ (x.kind ≠ 0x0A) ∧ (x.st = .admitted ∨ x.st =
    .stale) ∧ (x.lastValid.getD 0 + (s.at u).tLost i ≤ (s.at u).now)) ∧
    (∃ (s : State) (i : Nat) (u : Ns) (x : Session), (s.session i = some x) ∧ (x.st = .barred) ∧ (x.barredAt + 10000000000 ≤
    (s.at u).now)) :=
  ⟨⟨{ heddle := { inbox := [{ sess := 0, arrival := 0, body := .binary [] }] } }, { sess := 0, arrival := 0, body := .binary [] }, [], by decide⟩,
    ⟨{}, by decide⟩,
    ⟨{ warp := { run := true, stage := .edge } }, by decide⟩,
    ⟨{ warp := { run := true, stage := .intake } }, by decide⟩,
    ⟨{ warp := { run := true, stage := .voted } }, by decide⟩,
    ⟨{ heddle := { tracks := [{ st := .coasting }] } }, 0, 2000000000, by decide⟩,
    ⟨{ sess := [(0, { st := .live })] }, 0, 1000000000, { st := .live }, by decide⟩,
    ⟨{ sess := [(0, { st := .stale })] }, 0, 5000000000, { st := .stale }, by decide⟩,
    ⟨{ sess := [(0, { st := .barred })] }, 0, 10000000000, { st := .barred }, by decide⟩⟩

theorem witness_ObserverAndGuide :
    (∃ (s : State) (u : Ns) (d : Draft), (s.draft = some d) ∧ (s.obs.valid = true) ∧ (s.obs.drPos = true) ∧ (s.obs.posLost =
    false) ∧ (s.obs.drPosAt + d.obs.maxDrS * 1000000000 < (s.at u).now)) ∧
    (∃ (s : State) (d : Draft) (l : List (Bool × Bool × Bool)), (s.draft = some d) ∧ (s.warp.before .observed = true) ∧
    (s.obs.valid = true) ∧ (s.obs.waveSince + 60000000000 ≤ s.beatEdge) ∧ (l = (s.obs.waveLog.filter (fun e => decide
    (s.beatEdge ≤ e.1 + 60000000000))).map (fun e => e.2))) ∧
    (∃ (s : State), (s.warp.run = true) ∧ (s.obs.warmDue = true)) ∧
    (∃ (s : State) (u : Ns) (d : Draft) (b : Beat), (s.draft = some d) ∧ (s.warp.run = true) ∧ (s.warp.last = some b) ∧
    (b.holders.contains .guide = true) ∧ (b.holders.contains .observe = false) ∧ (b.edge + 1500000 ≤ (s.at u).now)) ∧
    (∃ (s : State) (u : Ns) (b : Beat), (s.draft = none) ∧ (s.warp.run = true) ∧ (s.warp.last = some b) ∧ (b.holders.contains
    .guide = true) ∧ (b.holders.contains .observe = false) ∧ (b.edge + 1500000 ≤ (s.at u).now)) ∧
    (∃ (s : State), (s.guide.soft.isSome = true) ∧ (s.guide.softDone = true)) :=
  ⟨⟨{ draft := some aDraft, obs := { valid := true, drPos := true } }, 600000000001, aDraft, by decide⟩,
    ⟨{ draft := some aDraft, warp := { run := true, stage := .voted, last := some { edge := 60000000000 } }, obs := { valid := true } }, aDraft, [], by decide⟩,
    ⟨{ warp := { run := true }, obs := { warmDue := true } }, by decide⟩,
    ⟨{ draft := some aDraft, warp := { run := true, last := some { holders := [.guide] } } }, 1500000, aDraft, { holders := [.guide] }, by decide⟩,
    ⟨{ warp := { run := true, last := some { holders := [.guide] } } }, 1500000, { holders := [.guide] }, by decide⟩,
    ⟨{ guide := { soft := some 0, softDone := true } }, by decide⟩⟩

theorem witness_WheelSteps :
    (∃ (s : State) (u : Ns) (b : Beat) (r : State) (sc : WheelSched) (im : Image), (s.warp.run = true) ∧ (s.warp.stage =
    .guided) ∧ (s.warp.last = some b) ∧ (b.guiding = false) ∧ (b.edge + 2000000 ≤ (s.at u).now) ∧ (s.warp.pickCount <
    b.pick + (s.n - 2)) ∧ (r = (s.at u).schedChange) ∧ (r.sched (s.at u).solveRole = some sc) ∧ (r.beatImage = some im) ∧
    (valsOk im.vals = true)) ∧
    (∃ (s : State) (u : Ns) (b : Beat) (r : State) (sc : WheelSched), (s.warp.run = true) ∧ (s.warp.stage = .guided) ∧
    (s.warp.last = some b) ∧ (b.guiding = false) ∧ (b.edge + 2000000 ≤ (s.at u).now) ∧ (s.warp.pickCount < b.pick + (s.n -
    2)) ∧ (r = (s.at u).schedChange) ∧ (r.sched (s.at u).solveRole = some sc) ∧ ((r.beatImage.isSome && valsOk
    ((r.beatImage.map Image.vals).getD {})) = false)) ∧
    (∃ (s : State) (u : Ns) (b : Beat) (r : State), (s.warp.run = true) ∧ (s.warp.stage = .guided) ∧ (s.warp.last = some b) ∧
    (b.guiding = false) ∧ (b.edge + 2000000 ≤ (s.at u).now) ∧ (s.warp.pickCount < b.pick + (s.n - 2)) ∧ (r = (s.at
    u).schedChange) ∧ (r.sched (s.at u).solveRole = none)) ∧
    (∃ (s : State) (e : Fin 8) (u : Ns) (b : Beat) (r : State) (sc : WheelSched) (im : Image), (s.warp.run = true) ∧
    (s.warp.stage = .guided) ∧ (s.warp.last = some b) ∧ (b.guiding = false) ∧ (b.edge + 2000000 ≤ (s.at u).now) ∧
    (s.warp.pickCount < b.pick + (s.n - 2)) ∧ (r = (s.at u).schedChange) ∧ (r.sched (s.at u).solveRole = some sc) ∧
    (r.beatImage = some im) ∧ (valsOk im.vals = true)) ∧
    (∃ (s : State) (l : List (Fin 8)) (ecc : Option (Fin 8)) (u : Ns) (b : Beat) (v x : Solve) (d : Draft) (sc : WheelSched) (o
    : IpOut) (pt : IpPoint) (al : F64) (dir : IpPoint) (r : State), (s.warp.run = true) ∧ (s.warp.stage = .solving) ∧
    (s.warp.last = some b) ∧ (s.warp.pickCount < b.pick + (s.n - 2) ∨ (s.warp.pickCount = b.pick + (s.n - 2) ∧ u = 0)) ∧
    (s.wheel.solve = some v) ∧ (s.draft = some d) ∧ (s.sched s.solveRole = some sc) ∧ (o = (qpOf sc
    v.vals).scaled.iteration sc.perm v.raised v.pt) ∧ ((State.countPivots
    { (s.at u) with wheel := { s.wheel with solve := some { v with pivot := v.pivot || decide (0 < o.pivots), raised := o.raised } } }
    o (!v.pivot)).residueHits l ecc = (r, false)) ∧ (r.wheel.solve = some x) ∧ (o.next = some (pt, al, dir))) ∧
    (∃ (s : State) (l : List (Fin 8)) (ecc : Option (Fin 8)) (u : Ns) (b : Beat) (v : Solve) (d : Draft) (sc : WheelSched) (o :
    IpOut) (r : State), (s.warp.run = true) ∧ (s.warp.stage = .solving) ∧ (s.warp.last = some b) ∧ (s.warp.pickCount <
    b.pick + (s.n - 2) ∨ (s.warp.pickCount = b.pick + (s.n - 2) ∧ u = 0)) ∧ (s.wheel.solve = some v) ∧ (s.draft = some d)
    ∧ (s.sched s.solveRole = some sc) ∧ (o = (qpOf sc v.vals).scaled.iteration sc.perm v.raised v.pt) ∧
    ((State.countPivots
    { (s.at u) with wheel := { s.wheel with solve := some { v with pivot := v.pivot || decide (0 < o.pivots), raised := o.raised } } }
    o (!v.pivot)).residueHits l ecc = (r, false)) ∧ (o.next = none)) ∧
    (∃ (s : State) (l : List (Fin 8)) (ecc : Option (Fin 8)) (u : Ns) (b : Beat) (v : Solve) (d : Draft) (sc : WheelSched) (o :
    IpOut) (r : State), (s.warp.run = true) ∧ (s.warp.stage = .solving) ∧ (s.warp.last = some b) ∧ (s.warp.pickCount <
    b.pick + (s.n - 2) ∨ (s.warp.pickCount = b.pick + (s.n - 2) ∧ u = 0)) ∧ (s.wheel.solve = some v) ∧ (s.draft = some d)
    ∧ (s.sched s.solveRole = some sc) ∧ (o = (qpOf sc v.vals).scaled.iteration sc.perm v.raised v.pt) ∧
    ((State.countPivots
    { (s.at u) with wheel := { s.wheel with solve := some { v with pivot := v.pivot || decide (0 < o.pivots), raised := o.raised } } }
    o (!v.pivot)).residueHits l ecc = (r, true))) ∧
    (∃ (s : State) (l : List (Fin 8)) (ecc : Option (Fin 8)) (k : Nat) (b : Beat) (v : Solve) (r : State), (s.warp.run = true)
    ∧ (s.warp.last = some b) ∧ (b.pick + (s.n - 2) = s.warp.pickCount) ∧ (s.warp.stage = .solving) ∧ (s.wheel.solve = some
    v) ∧ (((s.at 0).fire 3).residueHits l ecc = (r, false))) ∧
    (∃ (s : State) (l : List (Fin 8)) (ecc : Option (Fin 8)) (k : Nat) (b : Beat) (v : Solve) (r : State), (s.warp.run = true)
    ∧ (s.warp.last = some b) ∧ (b.pick + (s.n - 2) = s.warp.pickCount) ∧ (s.warp.stage = .solving) ∧ (s.wheel.solve = some
    v) ∧ (((s.at 0).fire 3).residueHits l ecc = (r, true))) ∧
    (∃ (s : State) (l : List (Fin 8)) (ecc : Option (Fin 8)) (k : Nat) (b : Beat), (s.warp.run = true) ∧ (s.warp.last = some b)
    ∧ (b.pick + (s.n - 2) = s.warp.pickCount) ∧ (s.warp.stage.num < 6) ∧ (s.wheel.solve = none)) ∧
    (∃ (s : State) (l : List (Fin 8)) (ecc : Option (Fin 8)) (k : Nat) (b : Beat), (s.warp.run = true) ∧ (s.warp.last = some b)
    ∧ (b.pick + (s.n - 2) = s.warp.pickCount) ∧ (s.warp.stage = .solved) ∧ (s.wheel.solve = none)) ∧
    (∃ (s : State), (s.warp.run = true) ∧ (3 ≤ s.wheel.missRun) ∧ (s.wheel.wdeg = false)) ∧
    (∃ (s : State), (s.warp.run = true) ∧ (s.wheel.wdeg = true) ∧ (100 ≤ s.wheel.cleanRun)) ∧
    (∃ (s : State), (s.warp.run = true) ∧ (20 ≤ s.wheel.missRun) ∧ (s.wheel.missSafe = false)) ∧
    (∃ (s : State) (r : WarmRec), (s.warp.run = true) ∧ (s.wheel.copyDue = true) ∧ (aget s.wheel.sched s.wheel.recs = some r) ∧
    (s.wheel.slotSeq % 2 = 0)) ∧
    (∃ (s : State) (r : WarmRec), (s.warp.run = true) ∧ (s.wheel.copyDue = true) ∧ (aget s.wheel.sched s.wheel.recs = some r) ∧
    (s.wheel.slotSeq % 2 = 1)) ∧
    (∃ (s : State), (s.warp.run = true) ∧ (s.wheel.copyDue = true) ∧ (aget s.wheel.sched s.wheel.recs = none)) ∧
    (∃ (s : State) (d : Draft) (b : Beat) (im : Image), (s.draft = some d) ∧ (s.warp.run = true) ∧ (s.warp.last = some b) ∧
    (b.count % 60 = 0) ∧ (s.beatImage = some im) ∧ (s.alloc.cqActive = false)) ∧
    (∃ (s : State) (d : Draft) (b : Beat) (im : Image) (r : State), (s.draft = some d) ∧ (s.warp.run = true) ∧ (s.warp.last =
    some b) ∧ (b.count % 60 = 0) ∧ (s.beatImage = some im) ∧ (s.alloc.cqActive = true) ∧ (r = s.cycleEnd (s.alloc.cqDone
    ++ List.replicate s.alloc.cqImgs.length { result := 3 }))) ∧
    (∃ (s : State) (l : List (Fin 8)) (ecc : Option (Fin 8)) (d : Draft) (im : Image) (sc : WheelSched) (o : ConseqOut) (r :
    State), (s.draft = some d) ∧ (s.alloc.cqActive = true) ∧ (s.alloc.cqImgs = [im]) ∧ (s.conseqSched = some sc) ∧
    (s.warp.stage ≠ .solving) ∧ (o = s.conseqSolve d.wheel sc im) ∧ (State.residueHits
    { s with wheel := { s.wheel with pivCnt := satAdd 0xFFFF s.wheel.pivCnt o.pivots, refac := satAdd 0xFFFF s.wheel.refac o.refac } }
    l ecc = (r, false))) ∧
    (∃ (s : State) (l : List (Fin 8)) (ecc : Option (Fin 8)) (d : Draft) (im im2 : Image) (rest : List Image) (sc : WheelSched)
    (o : ConseqOut) (r : State), (s.draft = some d) ∧ (s.alloc.cqActive = true) ∧ (s.alloc.cqImgs = im :: im2 :: rest) ∧
    (s.conseqSched = some sc) ∧ (s.warp.stage ≠ .solving) ∧ (o = s.conseqSolve d.wheel sc im) ∧ (State.residueHits
    { s with wheel := { s.wheel with pivCnt := satAdd 0xFFFF s.wheel.pivCnt o.pivots, refac := satAdd 0xFFFF s.wheel.refac o.refac } }
    l ecc = (r, false))) ∧
    (∃ (s : State) (l : List (Fin 8)) (ecc : Option (Fin 8)) (d : Draft) (im : Image) (rest : List Image) (sc : WheelSched) (o
    : ConseqOut) (r : State), (s.draft = some d) ∧ (s.alloc.cqActive = true) ∧ (s.alloc.cqImgs = im :: rest) ∧
    (s.conseqSched = some sc) ∧ (s.warp.stage ≠ .solving) ∧ (o = s.conseqSolve d.wheel sc im) ∧ (State.residueHits
    { s with wheel := { s.wheel with pivCnt := satAdd 0xFFFF s.wheel.pivCnt o.pivots, refac := satAdd 0xFFFF s.wheel.refac o.refac } }
    l ecc = (r, true))) :=
  ⟨⟨{ draft := some wheelDraft, warp := { run := true, stage := .guided, last := some {}, pickCount := 2 }, alloc := { image := some anImage } }, 2000000, {}, _, sched0, anImage, by decide, by decide, rfl, by decide, by decide, by decide, rfl, rfl, rfl, by decide⟩,
    ⟨{ draft := some wheelDraft, warp := { run := true, stage := .guided, last := some {}, pickCount := 2 } }, 2000000, {}, _, sched0, by decide, by decide, rfl, by decide, by decide, by decide, rfl, rfl, rfl⟩,
    ⟨{ warp := { run := true, stage := .guided, last := some {}, pickCount := 2 } }, 2000000, {}, _, by decide, by decide, rfl, by decide, by decide, by decide, rfl, rfl⟩,
    ⟨{ draft := some wheelDraft, warp := { run := true, stage := .guided, last := some {}, pickCount := 2 }, alloc := { image := some anImage } }, 0, 2000000, {}, _, sched0, anImage, by decide, by decide, rfl, by decide, by decide, by decide, rfl, rfl, rfl, by decide⟩,
    ⟨{ draft := some wheelDraft, warp := { run := true, stage := .solving, last := some {}, pickCount := 2 }, wheel := { solve := some { role := 1, start := 0 } } }, [], none, 0, {}, _, _, _, _, _, _, _, _, _, by decide, by decide, rfl, by decide, rfl, rfl, rfl, rfl, rfl, rfl, rfl⟩,
    ⟨{ draft := some { aDraft with wheel := { scheds := [schedInf] } }, warp := { run := true, stage := .solving, last := some {}, pickCount := 2 }, wheel := { solve := some { role := 1, start := 0, vals := infVals, pt := { x := [], rows := [infRow] } } } }, [], none, 0, {}, _, _, _, _, _, by decide, by decide, rfl, by decide, rfl, rfl, rfl, rfl, rfl, rfl⟩,
    ⟨{ draft := some wheelDraft, warp := { run := true, stage := .solving, last := some {}, pickCount := 2 }, wheel := { solve := some { role := 1, start := 0 } } }, [], some 0, 0, {}, _, _, _, _, _, by decide, by decide, rfl, by decide, rfl, rfl, rfl, rfl, rfl⟩,
    ⟨{ warp := { run := true, stage := .solving, pickCount := 8, last := some {} }, wheel := { solve := some { role := 0, start := 0 } } }, [], none, 0, _, _, _, by decide, rfl, by decide, by decide, rfl, rfl⟩,
    ⟨{ warp := { run := true, stage := .solving, pickCount := 8, last := some {} }, wheel := { solve := some { role := 0, start := 0 } } }, [], some 0, 0, _, _, _, by decide, rfl, by decide, by decide, rfl, rfl⟩,
    ⟨{ warp := { run := true, stage := .guided, pickCount := 8, last := some {} } }, [], none, 0, {}, by decide⟩,
    ⟨{ warp := { run := true, stage := .solved, pickCount := 8, last := some {} } }, [], none, 0, {}, by decide⟩,
    ⟨{ warp := { run := true }, wheel := { missRun := 3 } }, by decide⟩,
    ⟨{ warp := { run := true }, wheel := { wdeg := true, cleanRun := 100 } }, by decide⟩,
    ⟨{ warp := { run := true }, wheel := { missRun := 20 } }, by decide⟩,
    ⟨{ warp := { run := true }, wheel := { copyDue := true, recs := [(0, aWarm)] } }, aWarm, by decide⟩,
    ⟨{ warp := { run := true }, wheel := { copyDue := true, slotSeq := 1, recs := [(0, aWarm)] } }, aWarm, by decide⟩,
    ⟨{ warp := { run := true }, wheel := { copyDue := true } }, by decide⟩,
    ⟨{ draft := some aDraft, warp := { run := true, last := some {} }, alloc := { image := some anImage } }, _, _, _, rfl, by decide, rfl, by decide, rfl, by decide⟩,
    ⟨{ draft := some aDraft, warp := { run := true, last := some {} }, alloc := { image := some anImage, cqActive := true } }, _, _, _, _, rfl, by decide, rfl, by decide, rfl, by decide, rfl⟩,
    ⟨{ draft := some wheelDraft, alloc := { cqActive := true, cqImgs := [anImage] } }, [], none, _, _, _, _, _, rfl, rfl, rfl, rfl, by decide, rfl, rfl⟩,
    ⟨{ draft := some wheelDraft, alloc := { cqActive := true, cqImgs := [anImage, anImage] } }, [], none, _, _, _, _, _, _, _, rfl, rfl, rfl, rfl, by decide, rfl, rfl⟩,
    ⟨{ draft := some wheelDraft, alloc := { cqActive := true, cqImgs := [anImage] } }, [], some 0, _, _, _, _, _, _, rfl, rfl, rfl, rfl, by decide, rfl, rfl⟩⟩

theorem witness_PlantInputs :
    (∃ (s : State) (i : Nat) (u : Ns), ((s.plant.sub i).seen = true) ∧ ((s.plant.sub i).stale = false) ∧ ((s.plant.sub i).rx +
    (s.plant.sub i).ttlMs * 1000000 ≤ (s.at u).now)) ∧
    (∃ (s : State) (tie : Bool) (i k : Nat) (u : Ns) (t0 : Nat), ((s.plant.brk tie i).inter.getD k none = some t0) ∧ (t0 +
    200000000 ≤ (s.at u).now)) ∧
    (∃ (s : State) (tie : Bool) (i : Nat) (u : Ns) (t0 : Nat), ((s.plant.brk tie i).disagree = some t0) ∧ ((s.plant.brk tie
    i).told = false) ∧ (t0 + 500000000 < (s.at u).now)) ∧
    (∃ (s : State) (g : Nat) (u : Ns) (r : GenRec) (t0 : Nat), (s.plantRec.gens[g]? = some r) ∧ (s.plant.closedAt.getD g none =
    some t0) ∧ ((s.plant.brk false g).closed = true) ∧ (s.plant.online.getLsbD g = false) ∧ (t0 + r.tOnlineMs * 1000000 ≤
    (s.at u).now)) :=
  ⟨⟨{ plant := { goose := [(0, { seen := true })] } }, 0, 0, by decide⟩,
    ⟨{ plant := { gens := [{ inter := [some 0] }] } }, false, 0, 0, 200000000, 0, by decide⟩,
    ⟨{ plant := { gens := [{ disagree := some 0 }] } }, false, 0, 500000001, 0, by decide⟩,
    ⟨{ draft := some { aDraft with plant := { gens := [{ sect := 0, pRated := 0, breaker := [] }] } }, plant := { closedAt := [some 0], gens := [{ closed := true }] } }, 0, 5000000000, _, _, rfl, rfl, by decide, by decide, by decide⟩⟩

theorem witness_LoopSlots :
    (∃ (s : State) (late : Nat), (s.fastLane = true)) ∧
    (∃ (s : State) (r : State), (s.fastLane = true) ∧ (r = (State.fire
    { (s.at 350000) with loop := { s.loop with ovr := true } } 8).raise 0x02410009#32)) ∧
    (∃ (s : State) (k n : Nat) (c : SlotRec) (r : ThrRec), s.slotRec k = some c ∧ s.slotThr k = some (n, r) ∧ (s.slot k).st = 3) ∧
    (∃ (s : State) (k n : Nat) (c : SlotRec) (r : ThrRec), s.slotRec k = some c ∧ s.slotThr k = some (n, r) ∧ (s.slot k).st = 4) ∧
    (∃ (s : State) (k : Nat) (c : SlotRec), (s.slotRec k = some c) ∧ ((s.slot k).st = 2) ∧ ((s.slot k).softAt + c.tSs * 1000000
    ≤ s.clk.tick)) ∧
    (∃ (s : State) (k : Nat) (c : SlotRec), (s.slotRec k = some c) ∧ ((s.slot k).st = 3) ∧ (c.tFe ≤ (s.slot k).feTimer)) ∧
    (∃ (s : State) (k : Nat) (c : SlotRec) (r : RepRec), (s.slotRec k = some c) ∧ (c.rep = some r) ∧ ((s.slot k).rep.valid =
    true) ∧ ((s.periodNow r).2 = false)) ∧
    (∃ (s : State) (k : Nat) (c : SlotRec) (since : Nat), (s.slotRec k = some c) ∧ ((s.slot k).st = 4 ∨ (s.slot k).st = 5) ∧
    (c.autoRec = true) ∧ ((s.slot k).cause = 1 ∨ (s.slot k).cause = 2 ∨ (s.slot k).cause = 3 ∨ (s.slot k).cause = 5) ∧
    ((s.slot k).goodSince = some since) ∧ (since + c.tRec * 1000000 ≤ s.clk.tick)) :=
  ⟨⟨{ warp := { picks := true }, sys := { st := .standby } }, 0, by decide⟩,
    ⟨{ warp := { picks := true }, sys := { st := .standby } }, _, by decide, rfl⟩,
    ⟨{ draft := some slotDraft, loop := { slots := [(0, { st := 3 })] } }, 0, 0, _, _, rfl, rfl, rfl⟩,
    ⟨{ draft := some slotDraft, loop := { slots := [(0, { st := 4 })] } }, 0, 0, _, _, rfl, rfl, rfl⟩,
    ⟨{ draft := some { aDraft with loop := [aSlot] }, clk := { tick := 2000000000 }, loop := { slots := [(0, { st := 2 })] } }, 0, aSlot, by decide⟩,
    ⟨{ draft := some { aDraft with loop := [aSlot] }, loop := { slots := [(0, { st := 3, feTimer := 500 })] } }, 0, aSlot, by decide⟩,
    ⟨{ draft := some { aDraft with loop := [aSlot] }, loop := { slots := [(0, { rep := { valid := true } })] } }, 0, aSlot, { source := .wave 0, tMin := 0, tMax := 0, urc := 0 }, by decide⟩,
    ⟨{ draft := some { aDraft with loop := [aSlot] }, clk := { tick := 5000000000 }, loop := { slots := [(0, { st := 4, cause := 1, goodSince := some 0 })] } }, 0, aSlot, 0, by decide⟩⟩

theorem witness_GnssSignals :
    (∃ (s : State) (a : Nat), (s.gnss.run = true) ∧ (s.gnss.queue.head? = some a)) ∧
    (∃ (s : State) (a : Nat) (res : List TrainIn), (s.gnss.busy.contains a = true)) ∧
    (∃ (s : State) (a due : Nat), (s.gnss.retrain.getD a none = some due) ∧ (s.gnss.run = true) ∧ (due ≤ s.otime) ∧
    ((s.groupStreams a).all (fun k => (s.strm k).up) = true)) ∧
    (∃ (s : State) (a due : Nat), (s.gnss.retrain.getD a none = some due) ∧ (s.gnss.run = true) ∧ (due ≤ s.otime) ∧
    ((s.groupStreams a).all (fun k => (s.strm k).up) = false)) ∧
    (∃ (s : State) (d : DwellIn), (s.warp.pickCount % 4 = 0 ∨ s.gnss.run = false)) ∧
    (∃ (s : State) (d : DwellIn) (a : Acq) (p : Snap) (x : Chan), (s.gnss.cur = some a) ∧ (s.gnss.snap = some p) ∧
    (s.warp.pickCount % 4 ≠ 0) ∧ (s.gnss.run = true) ∧ (x = s.chan a.ch)) ∧
    (∃ (s : State) (sats : List SatIn) (load : List Nat), (s.gnss.run = true)) ∧
    (∃ (s : State) (c : Nat), ((s.chan c).unit ≠ 0) ∧ ((s.gnss.chans.filter (fun x => x.unit == (s.chan c).unit)).all (fun x =>
    x.st == 5 && decide (x.since + 10000000 ≤ s.otime)) = true)) ∧
    (∃ (s : State) (c : Nat) (v : DumpIn) (u : Ns) (p : PsetRec) (x y : Chan) (r : State) (ot : Nat), (2 ≤ (s.chan c).st) ∧
    ((s.chan c).st ≤ 4) ∧ ((s.strm (s.chan c).strm).up = true) ∧ ((s.chan c).boundaryOk v.k (s.pset (s.chan c)).tiMax =
    true) ∧ (p = s.pset (s.chan c)) ∧ (x = (s.chan c).boundary p v (s.at u).otime (s.at u).now) ∧ (y =
    { x with ferrOk := since x.ferrOk (flt (fabs v.ferr) p.bFll) (s.at u).otime, pliHi := since x.pliHi (x.pli.isSome && flt p.pli (x.pli.getD 0)) (s.at u).otime, pliLo := since x.pliLo (x.pli.isSome && flt (x.pli.getD 0) p.pli) (s.at u).otime, cnLo := since x.cnLo (decide (x.cn0 < p.loss)) (s.at u).otime })
    ∧ (r = (s.at u).setChan c y) ∧ (ot = (s.at u).otime)) ∧
    (∃ (s : State) (c : Nat) (v : DumpIn) (u : Ns), ((s.chan c).st < 2 ∨ 4 < (s.chan c).st ∨ (s.strm (s.chan c).strm).up =
    false ∨ (s.chan c).boundaryOk v.k (s.pset (s.chan c)).tiMax = false)) ∧
    (∃ (s : State) (c : Nat) (car cod : BitVec 40) (slew : Int) (u : Ns), (2 ≤ (s.chan c).st) ∧ ((s.chan c).st ≤ 4) ∧ ((s.at
    u).now ≤ (s.chan c).ncoAt + 100000)) ∧
    (∃ (s : State) (c : Nat) (car cod : BitVec 40) (slew : Int) (u : Ns), (2 ≤ (s.chan c).st) ∧ ((s.chan c).st ≤ 4) ∧ ((s.chan
    c).ncoAt + 100000 < (s.at u).now)) :=
  ⟨⟨{ gnss := { run := true, queue := [0] } }, 0, by decide⟩,
    ⟨{ gnss := { busy := [0] } }, 0, [], by decide⟩,
    ⟨{ gnss := { run := true, retrain := [some 0, none, none] } }, 0, 0, by decide⟩,
    ⟨{ draft := some { aDraft with gnss := { streams := [some { band := 0, fz := 0 }] } }, gnss := { run := true, retrain := [some 0, none, none] } }, 0, 0, by decide⟩,
    ⟨{}, {}, by decide⟩,
    ⟨{ warp := { pickCount := 1 }, gnss := { run := true, cur := some { kind := 2, prio := 0, order := 0, ch := 0 }, snap := some { strm := 0, mix := 0, len := 0, blocks := 1, coh := 1 } } }, {}, _, _, _, rfl, rfl, by decide, rfl, rfl⟩,
    ⟨{ gnss := { run := true } }, [], [], by decide⟩,
    ⟨{ clk := { otimeUs := 10000000 }, gnss := { chans := [{ unit := 1, st := 5 }] } }, 0, by decide⟩,
    ⟨{ gnss := { streams := [{ up := true }], chans := [{ st := 2 }] } }, 0, { k := 1 }, 0, _, _, _, _, _, by decide, by decide, by decide, by decide, rfl, rfl, rfl, rfl, rfl⟩,
    ⟨{}, 0, { k := 1 }, 0, by decide⟩,
    ⟨{ gnss := { chans := [{ st := 2 }] } }, 0, 0, 0, 0, 0, by decide⟩,
    ⟨{ gnss := { chans := [{ st := 2 }] } }, 0, 0, 0, 0, 100001, by decide⟩⟩

theorem witness_GnssMeasurements :
    (∃ (s : State) (v : LatchIn), (s.gnss.run = true) ∧ (s.gnssRec.mLat ≠ 0) ∧ (nearestMs s.clk.tick % s.gnssRec.mLat = 0)) ∧
    (∃ (s : State) (v : LatchIn), (s.gnss.run = false ∨ s.gnssRec.mLat = 0 ∨ nearestMs s.clk.tick % s.gnssRec.mLat ≠ 0)) ∧
    (∃ (s : State) (u : Ns) (r : DueRec) (rest : List DueRec) (d : Draft), (s.gnss.rawDue = r :: rest) ∧ ((s.at u).posts =
    true) ∧ ((s.at u).inTime r = true) ∧ (s.draft = some d) ∧ (d.base.rawDecim ≠ 0) ∧ (ofBe ((r.bytes.drop 16).take 4) %
    d.base.rawDecim = 0)) ∧
    (∃ (s : State) (u : Ns) (r : DueRec) (rest : List DueRec), (s.gnss.rawDue = r :: rest) ∧ ((s.at u).posts = true) ∧ ((s.at
    u).inTime r = true) ∧ (s.draft.all (fun d => d.base.rawDecim == 0 || ofBe ((r.bytes.drop 16).take 4) % d.base.rawDecim
    != 0) = true)) ∧
    (∃ (s : State) (u : Ns) (r : DueRec) (rest : List DueRec), (s.gnss.posDue = r :: rest) ∧ ((s.at u).posts = true) ∧ ((s.at
    u).inTime r = true) ∧ ((s.at u).gnssWithdrawn = false)) ∧
    (∃ (s : State) (u : Ns) (r : DueRec) (rest : List DueRec), (s.gnss.attDue = r :: rest) ∧ ((s.at u).posts = true) ∧ ((s.at
    u).inTime r = true) ∧ ((s.at u).gnssWithdrawn = false)) ∧
    (∃ (s : State) (u : Ns) (r : DueRec), (r ∈ s.gnss.rawDue ++ s.gnss.posDue ++ s.gnss.attDue) ∧ ((s.at u).inTime r = false)) ∧
    (∃ (s : State) (since : Nat), (s.gnss.clkBad = some since) ∧ (since + 60000000 ≤ s.otime)) ∧
    (∃ (s : State) (since : Nat), (s.gnss.common = some since) ∧ (since + 60000000 ≤ s.otime)) ∧
    (∃ (s : State) (scores : List (List Nat)) (l : List Nat), (s.gnss.run = true) ∧ (s.warp.pickCount % 4 = 0) ∧ (l =
    (((List.range 384).filter (fun c => (s.chan c).tracks)).filter (fun c => decide (s.gnss.gridPtr ≤ c)) ++ ((List.range
    384).filter (fun c => (s.chan c).tracks)).filter (fun c => decide (c < s.gnss.gridPtr))).take 64)) ∧
    (∃ (s : State) (i : Nat) (b : List Byte) (u : Ns), (s.sessTakes i = false ∨ s.gnssRec.rtcm ≠ some i)) ∧
    (∃ (s : State) (i : Nat) (b : List Byte) (u : Ns) (r : State), (s.sessTakes i = true) ∧ (s.gnssRec.rtcm = some i) ∧ (r =
    (match s.sessRec i with | some x => (s.at u).glazeUnit (rxUnit x) i 2 (b.take (b.length - 3)) | none => s.at u)) ∧
    (rtcmOk b = false)) ∧
    (∃ (s : State) (i : Nat) (b : List Byte) (u : Ns) (r q : State), (s.sessTakes i = true) ∧ (s.gnssRec.rtcm = some i) ∧ (r =
    (match s.sessRec i with | some x => (s.at u).glazeUnit (rxUnit x) i 2 (b.take (b.length - 3)) | none => s.at u)) ∧
    (rtcmOk b = true) ∧ (r.charge i = (q, false))) ∧
    (∃ (s : State) (i : Nat) (b : List Byte) (u : Ns) (r q : State), (s.sessTakes i = true) ∧ (s.gnssRec.rtcm = some i) ∧ (r =
    (match s.sessRec i with | some x => (s.at u).glazeUnit (rxUnit x) i 2 (b.take (b.length - 3)) | none => s.at u)) ∧
    (rtcmOk b = true) ∧ (r.charge i = (q, true)) ∧ (rtcmTypes.contains (bitsAt b 24 12) = true)) ∧
    (∃ (s : State) (i : Nat) (b : List Byte) (u : Ns) (r q : State), (s.sessTakes i = true) ∧ (s.gnssRec.rtcm = some i) ∧ (r =
    (match s.sessRec i with | some x => (s.at u).glazeUnit (rxUnit x) i 2 (b.take (b.length - 3)) | none => s.at u)) ∧
    (rtcmOk b = true) ∧ (r.charge i = (q, true)) ∧ (rtcmTypes.contains (bitsAt b 24 12) = false)) :=
  ⟨⟨{ gnss := { run := true } }, {}, by decide⟩,
    ⟨{}, {}, by decide⟩,
    ⟨{ draft := some aDraft, gnss := { run := true, rawDue := [{ tov := 0, ot := 0, bytes := [] }] } }, 0, { tov := 0, ot := 0, bytes := [] }, [], aDraft, by decide⟩,
    ⟨{ gnss := { run := true, rawDue := [{ tov := 0, ot := 0, bytes := [] }] } }, 0, { tov := 0, ot := 0, bytes := [] }, [], by decide⟩,
    ⟨{ gnss := { run := true, posDue := [{ tov := 0, ot := 0, bytes := [] }] } }, 0, { tov := 0, ot := 0, bytes := [] }, [], by decide⟩,
    ⟨{ gnss := { run := true, attDue := [{ tov := 0, ot := 0, bytes := [] }] } }, 0, { tov := 0, ot := 0, bytes := [] }, [], by decide⟩,
    ⟨{ gnss := { rawDue := [{ tov := 0, ot := 0, bytes := [] }] } }, 100000001, { tov := 0, ot := 0, bytes := [] }, by decide⟩,
    ⟨{ clk := { otimeUs := 60000000 }, gnss := { clkBad := some 0 } }, 0, by decide⟩,
    ⟨{ clk := { otimeUs := 60000000 }, gnss := { common := some 0 } }, 0, by decide⟩,
    ⟨{ gnss := { run := true, chans := [] } }, [], [], rfl, by decide, by decide⟩,
    ⟨{}, 0, [], 0, by decide⟩,
    ⟨rtcmState, 0, [], 0, _, by decide, by decide, rfl, by decide⟩,
    ⟨{ rtcmState with sess := [(0, {})] }, 0, rtcmMsg 1005, 0, _, _, by decide, by decide, rfl, by decide, rfl⟩,
    ⟨rtcmState, 0, rtcmMsg 1005, 0, _, _, by decide, by decide, rfl, by decide, rfl, by decide⟩,
    ⟨rtcmState, 0, rtcmMsg 1001, 0, _, _, by decide, by decide, rfl, by decide, rfl, by decide⟩⟩

theorem witness_AnalogChain :
    (∃ (s : State) (c j : Nat) (pa pb : Bool) (u : Ns), (s.adc.run = false)) ∧
    (∃ (s : State) (c j : Nat) (pa pb : Bool) (u : Ns), (s.adc.run = true) ∧ ((s.adcChan c).mode = 0)) ∧
    (∃ (s : State) (c j : Nat) (pa pb : Bool) (u : Ns) (d : AdcChan) (a : AdcIn) (y x : AdcCh) (k : Int) (sat range beyond :
    Bool) (g o v : F64) (blocked cause q n : Nat), (s.adc.run = true) ∧ (d = s.adcChan c) ∧ (d.mode = 1 ∨ d.mode = 2) ∧ (a
    = (s.at u).adcIn c) ∧ (y = s.ach c) ∧ (x = (if pa then y.unsettle d else y)) ∧ ((k, sat, g, o) = (if y.onSpare then
    (a.spare, a.spareSat, s.adc.spareG, s.adc.spareO) else (a.own, a.ownSat, y.g, y.o))) ∧ (v = calValue d.mode g o k) ∧
    (range = !inSpan d.mode v) ∧ (beyond = (d.mode == 1 && (range || sat))) ∧ (blocked = (s.at u).adcBlocked c) ∧ (cause =
    (if blocked ≠ 0 then blocked else if range then 1 else if sat ∧ d.mode = 1 then 2 else 0)) ∧ ((q, n) = nextCond x d
    cause beyond)) ∧
    (∃ (s : State) (c j : Nat) (pa pb : Bool) (u : Ns), (s.adc.run = true) ∧ ((s.adcChan c).mode = 3) ∧ (c % 2 = 1)) ∧
    (∃ (s : State) (c j : Nat) (pa pb : Bool) (u : Ns) (d e : AdcChan) (a b : AdcIn) (y z : AdcCh) (k0 k1 : Int) (t0 t1 bad :
    Bool) (g0 o0 g1 o1 vs vc mu : F64) (b0 b1 c0 c1 q0 n0 q1 n1 : Nat), (s.adc.run = true) ∧ (d = s.adcChan c) ∧ (e =
    s.adcChan (c + 1)) ∧ (d.mode = 3) ∧ (c % 2 = 0) ∧ (a = (s.at u).adcIn c) ∧ (b = (s.at u).adcIn (c + 1)) ∧ (y = s.ach
    c) ∧ (z = s.ach (c + 1)) ∧ ((k0, t0, g0, o0) = (if y.onSpare then (a.spare, a.spareSat, s.adc.spareG, s.adc.spareO)
    else (a.own, a.ownSat, y.g, y.o))) ∧ ((k1, t1, g1, o1) = (if z.onSpare then (b.spare, b.spareSat, s.adc.spareG,
    s.adc.spareO) else (b.own, b.ownSat, z.g, z.o))) ∧ (vs = calValue 3 g0 o0 k0) ∧ (vc = calValue 3 g1 o1 k1) ∧ (mu =
    fdiv (fsqrt (fadd (fmul vs vs) (fmul vc vc))) (fmul (s.excRec (c / 2)).ratio (s.excRec (c / 2)).amp)) ∧ (bad = !(fle
    (fofRat 8 10) mu && fle mu (fofRat 12 10))) ∧ (b0 = (s.at u).adcBlocked c) ∧ (b1 = (s.at u).adcBlocked (c + 1)) ∧ (c0
    = (if b0 ≠ 0 then b0 else if bad then 5 else 0)) ∧ (c1 = (if b1 ≠ 0 then b1 else if bad then 5 else 0)) ∧ ((q0, n0) =
    nextCond (if pa then y.unsettle d else y) d c0 false) ∧ ((q1, n1) = nextCond (if pb then z.unsettle e else z) e c1
    false)) ∧
    (∃ (s : State) (c : Nat), ((s.adcChan c).mode = 2) ∧ ((s.ach c).shunt = true)) ∧
    (∃ (s : State) (c below : Nat), (1000000000 ≤ below)) ∧
    (∃ (s : State) (bits : List (List Bool)) (u : Ns), (s.adc.linkBad = true) ∧ (s.adc.lostAt + 100 < s.warp.pickCount)) ∧
    (∃ (s : State) (bits : List (List Bool)) (u : Ns), (s.adc.linkBad = false ∨ s.warp.pickCount ≤ s.adc.lostAt + 100)) ∧
    (∃ (s : State) (bits : List (List Bool)) (u : Ns) (n : Nat), (n = (if s.adc.badPick = s.warp.pickCount then s.adc.badNow
    else 0)) ∧ (n + 1 ≠ 16)) ∧
    (∃ (s : State) (bits : List (List Bool)) (u : Ns) (n : Nat) (k : Nat), (n = (if s.adc.badPick = s.warp.pickCount then
    s.adc.badNow else 0)) ∧ (n = 15) ∧ (k = (if s.adc.lostRun ≠ 0 ∧ s.adc.lostAt + 1 = s.warp.pickCount then s.adc.lostRun
    + 1 else 1)) ∧ (k < 10 ∨ s.adc.linkBad = true)) ∧
    (∃ (s : State) (bits : List (List Bool)) (u : Ns) (n : Nat) (k : Nat), (n = (if s.adc.badPick = s.warp.pickCount then
    s.adc.badNow else 0)) ∧ (n = 15) ∧ (k = (if s.adc.lostRun ≠ 0 ∧ s.adc.lostAt + 1 = s.warp.pickCount then s.adc.lostRun
    + 1 else 1)) ∧ (10 ≤ k) ∧ (s.adc.linkBad = false)) ∧
    (∃ (s : State), (s.adc.run = true) ∧ (s.warp.picks = true) ∧ (s.adc.spareBad = false) ∧ (s.adc.slotCh = none) ∧
    (s.warp.pickCount % 60000 % 1875 = 0)) ∧
    (∃ (s : State) (formed : Bool) (c : Nat), (s.adc.slotCh = some c) ∧ (s.adc.ph = 5) ∧ (1875 ≤ s.warp.pickCount -
    s.adc.slotAt)) ∧
    (∃ (s : State) (formed : Bool) (c : Nat), (s.adc.slotCh = some c) ∧ (1 ≤ s.adc.ph) ∧ (s.adc.ph ≤ 5) ∧ (s.warp.pickCount -
    s.adc.slotAt < [0, 300, 600, 1200, 1500, 1875].getD s.adc.ph 0)) ∧
    (∃ (s : State) (formed : Bool) (c : Nat), (s.adc.slotCh = some c) ∧ (1 ≤ s.adc.ph) ∧ (s.adc.ph ≤ 4) ∧
    ([0, 300, 600, 1200, 1500].getD s.adc.ph 0 ≤ s.warp.pickCount - s.adc.slotAt) ∧ (formed = false ∨ 2 * (s.adc.sum.n +
    s.adc.sum.n2) < s.adc.sum.all ∨ s.adc.sum.n = 0 ∨ ((s.adc.ph = 1 ∨ s.adc.ph = 3) ∧ s.adc.sum.n2 = 0))) ∧
    (∃ (s : State) (c : Nat) (g o : F64), (s.adc.slotCh = some c) ∧ (s.adc.ph = 1) ∧ (300 ≤ s.warp.pickCount - s.adc.slotAt) ∧
    (s.adc.sum.all ≤ 2 * (s.adc.sum.n + s.adc.sum.n2)) ∧ (s.adc.sum.n ≠ 0) ∧ (s.adc.sum.n2 ≠ 0) ∧ ((g, o) = calCoef (mean
    s.adc.sum.spare s.adc.sum.n) (mean s.adc.sum.ref s.adc.sum.n2)) ∧ (calOk (g, o) = true)) ∧
    (∃ (s : State) (c : Nat) (g o : F64), (s.adc.slotCh = some c) ∧ (s.adc.ph = 1) ∧ (300 ≤ s.warp.pickCount - s.adc.slotAt) ∧
    (s.adc.sum.all ≤ 2 * (s.adc.sum.n + s.adc.sum.n2)) ∧ (s.adc.sum.n ≠ 0) ∧ (s.adc.sum.n2 ≠ 0) ∧ ((g, o) = calCoef (mean
    s.adc.sum.spare s.adc.sum.n) (mean s.adc.sum.ref s.adc.sum.n2)) ∧ (calOk (g, o) = false)) ∧
    (∃ (s : State) (c : Nat) (f : F64), (s.adc.slotCh = some c) ∧ (s.adc.ph = 2) ∧ (600 ≤ s.warp.pickCount - s.adc.slotAt) ∧
    (s.adc.sum.all ≤ 2 * (s.adc.sum.n + s.adc.sum.n2)) ∧ (s.adc.sum.n ≠ 0) ∧ (f = fsub (mean s.adc.sum.own s.adc.sum.n)
    (mean s.adc.sum.spare s.adc.sum.n))) ∧
    (∃ (s : State) (c : Nat) (g o : F64), (s.adc.slotCh = some c) ∧ (s.adc.ph = 3) ∧ (1200 ≤ s.warp.pickCount - s.adc.slotAt) ∧
    (s.adc.sum.all ≤ 2 * (s.adc.sum.n + s.adc.sum.n2)) ∧ (s.adc.sum.n ≠ 0) ∧ (s.adc.sum.n2 ≠ 0) ∧ ((g, o) = calCoef (mean
    s.adc.sum.own s.adc.sum.n) (mean s.adc.sum.ref s.adc.sum.n2))) ∧
    (∃ (s : State) (c : Nat) (f : F64), (s.adc.slotCh = some c) ∧ (s.adc.ph = 4) ∧ (1500 ≤ s.warp.pickCount - s.adc.slotAt) ∧
    (s.adc.sum.all ≤ 2 * (s.adc.sum.n + s.adc.sum.n2)) ∧ (s.adc.sum.n ≠ 0) ∧ (f = fsub (mean s.adc.sum.own s.adc.sum.n)
    (mean s.adc.sum.spare s.adc.sum.n)) ∧ (s.adc.newOk = true) ∧ (overlapOk (s.adcChan c).mode f = true)) ∧
    (∃ (s : State) (c : Nat) (f : F64), (s.adc.slotCh = some c) ∧ (s.adc.ph = 4) ∧ (1500 ≤ s.warp.pickCount - s.adc.slotAt) ∧
    (s.adc.sum.all ≤ 2 * (s.adc.sum.n + s.adc.sum.n2)) ∧ (s.adc.sum.n ≠ 0) ∧ (f = fsub (mean s.adc.sum.own s.adc.sum.n)
    (mean s.adc.sum.spare s.adc.sum.n)) ∧ (s.adc.newOk = false ∨ overlapOk (s.adcChan c).mode f = false)) :=
  ⟨⟨{}, 0, 0, false, false, 0, by decide⟩,
    ⟨{ adc := { run := true } }, 0, 0, false, false, 0, by decide⟩,
    ⟨{ draft := some { aDraft with adc := { chans := [{ mode := 2 }] } }, adc := { run := true } }, 0, 0, false, false, 0, _, _, _, _, _, _, _, _, _, _, _, _, _, _, _, by decide, rfl, by decide, rfl, rfl, rfl, rfl, rfl, rfl, rfl, rfl, rfl, rfl⟩,
    ⟨{ draft := some { aDraft with adc := { chans := [{ mode := 3 }, { mode := 3 }] } }, adc := { run := true } }, 1, 0, false, false, 0, by decide⟩,
    ⟨{ draft := some { aDraft with adc := { chans := [{ mode := 3 }, { mode := 3 }] } }, adc := { run := true } }, 0, 0, false, false, 0, _, _, _, _, _, _, _, _, _, _, _, _, _, _, _, _, _, _, _, _, _, _, _, _, _, _, by decide, rfl, rfl, by decide, by decide, rfl, rfl, rfl, rfl, rfl, rfl, rfl, rfl, rfl, rfl, rfl, rfl, rfl, rfl, rfl, rfl⟩,
    ⟨{ draft := some { aDraft with adc := { chans := [{ mode := 2 }] } }, adc := { chans := [{ shunt := true }] } }, 0, by decide⟩,
    ⟨{}, 0, 1000000000, by decide⟩,
    ⟨{ warp := { pickCount := 101 }, adc := { linkBad := true } }, [], 0, by decide⟩,
    ⟨{}, [], 0, by decide⟩,
    ⟨{}, [], 0, 0, by decide⟩,
    ⟨{ adc := { badNow := 15 } }, [], 0, 15, 1, by decide⟩,
    ⟨{ warp := { pickCount := 1 }, adc := { badPick := 1, badNow := 15, lostRun := 9 } }, [], 0, 15, 10, by decide⟩,
    ⟨{ warp := { picks := true }, adc := { run := true } }, by decide⟩,
    ⟨{ warp := { pickCount := 1875 }, adc := { slotCh := some 0, ph := 5 } }, true, 0, by decide⟩,
    ⟨{ adc := { slotCh := some 0, ph := 1 } }, true, 0, by decide⟩,
    ⟨{ warp := { pickCount := 300 }, adc := { slotCh := some 0, ph := 1 } }, false, 0, by decide⟩,
    ⟨{ warp := { pickCount := 300 }, adc := { slotCh := some 0, ph := 1, sum := { spare := 0, own := 0, ref := 0x41547ae147ae147b#64, n := 1, n2 := 1, all := 2 } } }, 0, _, _, by decide, by decide, by decide, by decide, by decide, by decide, rfl, by decide +kernel⟩,
    ⟨{ warp := { pickCount := 300 }, adc := { slotCh := some 0, ph := 1, sum := { spare := 0, own := 0, ref := 0x41447ae147ae147b#64, n := 1, n2 := 1, all := 2 } } }, 0, _, _, by decide, by decide, by decide, by decide, by decide, by decide, rfl, by decide +kernel⟩,
    ⟨{ warp := { pickCount := 600 }, adc := { slotCh := some 0, ph := 2, sum := { spare := 0, own := 0, ref := 0x41547ae147ae147b#64, n := 1, n2 := 1, all := 2 } } }, 0, _, by decide, by decide, by decide, by decide, by decide, rfl⟩,
    ⟨{ warp := { pickCount := 1200 }, adc := { slotCh := some 0, ph := 3, sum := { spare := 0, own := 0, ref := 0x41547ae147ae147b#64, n := 1, n2 := 1, all := 2 } } }, 0, _, _, by decide, by decide, by decide, by decide, by decide, by decide, rfl⟩,
    ⟨{ warp := { pickCount := 1500 }, adc := { slotCh := some 0, newOk := true, ph := 4, sum := { spare := 0, own := 0, ref := 0, n := 1, n2 := 1, all := 2 } } }, 0, _, by decide, by decide, by decide, by decide, by decide, rfl, rfl, by decide +kernel⟩,
    ⟨{ warp := { pickCount := 1500 }, adc := { slotCh := some 0, newOk := false, ph := 4, sum := { spare := 0, own := 0, ref := 0, n := 1, n2 := 1, all := 2 } } }, 0, _, by decide, by decide, by decide, by decide, by decide, rfl, by decide⟩⟩

theorem witness_KilnCycle :
    (∃ (s : State) (z : KSample), (s.kiln.powered = true)) ∧
    (∃ (s : State) (z : KSample), (s.kiln.powered = false)) ∧
    (∃ (s : State) (n s0 : Nat), (s.kiln.powered = true) ∧ ((s.kiln.inp n).mis = some s0) ∧ (kSafety (s.kiln.inRec n) = true) ∧
    (s0 + (s.kiln.inRec n).tdisc * 100 ≤ s.kiln.samp) ∧ ((s.kiln.inp n).fault = 0)) ∧
    (∃ (s : State) (n : Nat) (b : KTable) (r : Kiln), (s.kiln.powered = true) ∧ (s.kiln.tbl = some b) ∧ (s.kiln.st ≠ 2) ∧
    (kTpsOn b n = true) ∧ (s.kiln.srcOff n = false) ∧ ((s.kiln.source n).pulse = false) ∧ (s.kiln.due (s.kiln.source
    n).next = true) ∧ (r = s.kiln.setSrc n
    { s.kiln.source n with pulse := true, start := some (s.kiln.source n).next, next := (s.kiln.source n).next + b.p })) ∧
    (∃ (s : State) (n u : Nat) (b : KTable), (s.kiln.powered = true) ∧ (s.kiln.tbl = some b) ∧ ((s.kiln.source n).start = some
    u) ∧ ((s.kiln.source n).pulse = true) ∧ (s.kiln.due (u + b.w) = true)) ∧
    (∃ (s : State) (o : Nat) (r : KOutRec), (s.kiln.powered = true) ∧ (s.kiln.outRec o = some r) ∧ (0 < r.iMin) ∧ (100000 ≤
    (s.kiln.outp o).low) ∧ ((s.kiln.outp o).st = 1) ∧ ((s.kiln.outp o).openLoad = false)) ∧
    (∃ (s : State) (f : Nat) (x : KSupply), (s.kiln.powered = true) ∧ (s.kiln.fs[f]? = some x) ∧ (100 ≤ x.outRun) ∧ (x.bad =
    false)) ∧
    (∃ (s : State) (f : Nat) (x : KSupply), (s.kiln.powered = true) ∧ (s.kiln.fs[f]? = some x) ∧ (10000 ≤ x.inRun) ∧ (x.bad =
    true)) :=
  ⟨⟨{ kiln := { powered := true } }, {}, by decide⟩,
    ⟨{}, {}, by decide⟩,
    ⟨{ kiln := { powered := true, samp := 1000, tbl := some aTable, ins := [{ mis := some 0 }] } }, 0, 0, by decide⟩,
    ⟨{ kiln := { powered := true, tbl := some aTable } }, 0, aTable, _, by decide, by decide, by decide, by decide, by decide, by decide, by decide, rfl⟩,
    ⟨{ kiln := { powered := true, tbl := some aTable, samp := 10, srcs := [{ start := some 0, pulse := true }] } }, 0, 0, aTable, by decide⟩,
    ⟨{ kiln := { powered := true, tbl := some aTable, outs := [{ st := 1, low := 100000 }] } }, 0, anOut, by decide⟩,
    ⟨{ kiln := { powered := true, fs := [{ outRun := 100 }] } }, 0, { outRun := 100 }, by decide⟩,
    ⟨{ kiln := { powered := true, fs := [{ inRun := 10000, bad := true }] } }, 0, { inRun := 10000, bad := true }, by decide⟩⟩

theorem witness_KilnTests :
    (∃ (s : State) (o : Nat) (b : KTable) (r : KOutRec) (q g : Bool), (s.kiln.powered = true) ∧ (s.kiln.tbl = some b) ∧
    (s.kiln.outRec o = some r) ∧ (s.kiln.outs.any (fun (y : KOutput) => y.test.isSome) = false) ∧ (s.kiln.st ≠ 2) ∧
    (s.kiln.st ≠ 0 ∨ s.kiln.boot = true) ∧ (q = (s.kiln.testQ.head? == some o)) ∧ (g = (s.kiln.outp o).again.any (fun u =>
    decide (u ≤ s.kiln.us))) ∧ (q = true ∨ g = true ∨ (s.kiln.st = 1 ∧ s.kiln.autoDue b o ≤ s.kiln.us)) ∧ ((s.kiln.outp
    o).st = 0 ∨ (s.kiln.outp o).st = 1)) ∧
    (∃ (s : State) (o : Nat) (b : KTable) (r : KOutRec) (q g : Bool), (s.kiln.powered = true) ∧ (s.kiln.tbl = some b) ∧
    (s.kiln.outRec o = some r) ∧ (s.kiln.outs.any (fun (y : KOutput) => y.test.isSome) = false) ∧ (s.kiln.st ≠ 2) ∧
    (s.kiln.st ≠ 0 ∨ s.kiln.boot = true) ∧ (q = (s.kiln.testQ.head? == some o)) ∧ (g = (s.kiln.outp o).again.any (fun u =>
    decide (u ≤ s.kiln.us))) ∧ (q = true ∨ g = true ∨ (s.kiln.st = 1 ∧ s.kiln.autoDue b o ≤ s.kiln.us)) ∧ (2 ≤
    (s.kiln.outp o).st)) ∧
    (∃ (s : State) (o : Nat) (b : KTable) (x : KTest), (s.kiln.powered = true) ∧ (s.kiln.tbl = some b) ∧ ((s.kiln.outp o).test
    = some x) ∧ (s.kiln.us < x.since + phaseUs b.swDark x) ∧ (x.bright = false ∨ x.phase ≠ 1 ∨ 5000 < (s.kiln.outp o).vh ∨
    s.kiln.us ≤ x.since)) ∧
    (∃ (s : State) (o : Nat) (b : KTable) (x : KTest), (s.kiln.powered = true) ∧ (s.kiln.tbl = some b) ∧ ((s.kiln.outp o).test
    = some x) ∧ (x.since + phaseUs b.swDark x ≤ s.kiln.us ∨ (x.bright = true ∧ x.phase = 1 ∧ (s.kiln.outp o).vh ≤ 5000 ∧
    x.since < s.kiln.us)) ∧ (phaseCheck x (s.kiln.fs.getD (outSupply o) {}).mv (s.kiln.outp o) ≠ 0)) ∧
    (∃ (s : State) (o : Nat) (b : KTable) (x : KTest), (s.kiln.powered = true) ∧ (s.kiln.tbl = some b) ∧ ((s.kiln.outp o).test
    = some x) ∧ (x.since + phaseUs b.swDark x ≤ s.kiln.us ∨ (x.bright = true ∧ x.phase = 1 ∧ (s.kiln.outp o).vh ≤ 5000 ∧
    x.since < s.kiln.us)) ∧ (phaseCheck x (s.kiln.fs.getD (outSupply o) {}).mv (s.kiln.outp o) = 0) ∧ (x.phase ≠ (if
    x.bright then 3 else 2))) ∧
    (∃ (s : State) (o : Nat) (b : KTable) (x : KTest), (s.kiln.powered = true) ∧ (s.kiln.tbl = some b) ∧ ((s.kiln.outp o).test
    = some x) ∧ (x.since + phaseUs b.swDark x ≤ s.kiln.us ∨ (x.bright = true ∧ x.phase = 1 ∧ (s.kiln.outp o).vh ≤ 5000 ∧
    x.since < s.kiln.us)) ∧ (phaseCheck x (s.kiln.fs.getD (outSupply o) {}).mv (s.kiln.outp o) = 0) ∧ (x.phase = (if
    x.bright then 3 else 2))) ∧
    (∃ (s : State) (o : Nat) (r : KOutRec), (s.kiln.powered = true) ∧ (s.kiln.outRec o = some r) ∧ ((s.kiln.outp o).tested.getD
    s.kiln.runAt + 86400000000 ≤ s.kiln.us) ∧ ((s.kiln.outp o).overdue = false) ∧ (s.kiln.st = 1)) ∧
    (∃ (s : State) (o u c : Nat) (r : KOutRec), (s.kiln.powered = true) ∧ (s.kiln.outRec o = some r) ∧ ((s.kiln.outp o).offAt =
    some u) ∧ (u ≤ s.kiln.us) ∧ (s.kiln.delayedCause r = some c)) ∧
    (∃ (s : State) (n p e : Nat), (s.kiln.powered = true) ∧ ((s.kiln.inp n).rel = some (p, e)) ∧ (e - p < 5000 ∨ 500000 < e -
    p)) ∧
    (∃ (s : State) (n p e : Nat), (s.kiln.powered = true) ∧ ((s.kiln.inp n).rel = some (p, e)) ∧ (5000 ≤ e - p) ∧ (e - p ≤
    500000)) ∧
    (∃ (s : State), (s.kiln.powered = true)) ∧
    (∃ (s : State), (s.kiln.powered = false)) ∧
    (∃ (s : State) (quiet : Nat), (s.kiln.powered = true) ∧ (s.kiln.trip = true) ∧ (s.kiln.hbLost = false) ∧ (100 ≤ quiet) ∧
    (s.kiln.tripAt + quiet ≤ s.kiln.samp)) ∧
    (∃ (s : State) (quiet : Nat), (s.kiln.trip = false ∨ s.kiln.hbLost = true ∨ quiet < 100 ∨ s.kiln.samp < s.kiln.tripAt +
    quiet)) ∧
    (∃ (s : State) (c v : Nat) (k : Kiln), (s.kiln.powered = true) ∧ (s.kiln.hbValid = some v) ∧ (s.kiln.hbLost = false) ∧ (v +
    s.kiln.hbT * 50000 + 2500 ≤ s.kiln.cycles c) ∧ (k =
    ({ (s.kiln.event 0x10560002#32).dropClaim with hbLost := true, hbRun := 0, lostCnt := satAdd 255 s.kiln.lostCnt 1, withhold := 0 }
    : Kiln).evalOuts) ∧ (k.hbLost = true)) :=
  ⟨⟨{ kiln := { powered := true, tbl := some aTable, st := 1, testQ := [0], outs := [{ st := 0 }] } }, 0, aTable, anOut, _, _, by decide, rfl, rfl, by decide, by decide, by decide, rfl, rfl, by decide, by decide⟩,
    ⟨{ kiln := { powered := true, tbl := some aTable, st := 1, testQ := [0], outs := [{ st := 3 }] } }, 0, aTable, anOut, _, _, by decide, rfl, rfl, by decide, by decide, by decide, rfl, rfl, by decide, by decide⟩,
    ⟨{ kiln := { powered := true, tbl := some aTable, samp := 0, outs := [{ test := some { bright := false, since := 0 } }] } }, 0, aTable, { bright := false, since := 0 }, by decide⟩,
    ⟨{ kiln := { powered := true, tbl := some aTable, samp := 10, outs := [{ vh := 6000, test := some { bright := false, since := 0 } }] } }, 0, aTable, { bright := false, since := 0 }, by decide⟩,
    ⟨{ kiln := { powered := true, tbl := some aTable, samp := 10, outs := [{ test := some { bright := false, since := 0 } }] } }, 0, aTable, { bright := false, since := 0 }, by decide⟩,
    ⟨{ kiln := { powered := true, tbl := some aTable, samp := 10, outs := [{ test := some { bright := false, since := 0, phase := 2 } }] } }, 0, aTable, { bright := false, since := 0, phase := 2 }, by decide⟩,
    ⟨{ kiln := { powered := true, tbl := some aTable, st := 1, samp := 8640000000 } }, 0, anOut, by decide⟩,
    ⟨{ kiln := { powered := true, tbl := some aTable, st := 1, outs := [{ st := 1, offAt := some 0 }] } }, 0, 0, 1, anOut, by decide⟩,
    ⟨{ kiln := { powered := true, ins := [{ rel := some (0, 1) }] } }, 0, 0, 1, by decide⟩,
    ⟨{ kiln := { powered := true, ins := [{ rel := some (0, 5000) }] } }, 0, 0, 5000, by decide⟩,
    ⟨{ kiln := { powered := true } }, by decide⟩,
    ⟨{}, by decide⟩,
    ⟨{ kiln := { powered := true, trip := true, samp := 100 } }, 100, by decide⟩,
    ⟨{}, 0, by decide⟩,
    ⟨{ kiln := { powered := true, hbValid := some 0, samp := 1000, outs := [], fs := [] } }, 0, 0, _, by decide, by decide, by decide, by decide, rfl, by decide⟩⟩

theorem witness_KilnLinkSteps :
    (∃ (s : State) (chal : Word) (bad badUp : Bool) (c : Nat), (s.warp.picks = false ∨ s.kiln.powered = false ∨ s.sys.loomFault
    = true)) ∧
    (∃ (s : State) (chal : Word) (bad badUp : Bool) (c : Nat) (r : State) (q : U16) (g : Bool), (s.warp.picks = true) ∧
    (s.kiln.powered = true) ∧ (s.sys.loomFault = false) ∧ (r = (if badUp then s.at 500000 else (s.at 500000).hbUp)) ∧ (q =
    s.kport.seq + 1) ∧ (g = r.kiln.hbRight bad q (hbResponse s.kport.chal q)) ∧ (g = true) ∧ (r.kiln.hbTimed c = true)) ∧
    (∃ (s : State) (chal : Word) (bad badUp : Bool) (c : Nat) (r : State) (q : U16) (g : Bool), (s.warp.picks = true) ∧
    (s.kiln.powered = true) ∧ (s.sys.loomFault = false) ∧ (r = (if badUp then s.at 500000 else (s.at 500000).hbUp)) ∧ (q =
    s.kport.seq + 1) ∧ (g = r.kiln.hbRight bad q (hbResponse s.kport.chal q)) ∧ (g = false ∨ r.kiln.hbTimed c = false)) ∧
    (∃ (s : State) (err : Word) (m : CopyMsg) (rest : List CopyMsg), (s.kiln.powered = true) ∧ (s.kiln.copyIn = m :: rest)) ∧
    (∃ (s : State) (err : Word), (s.kiln.powered = false ∨ s.kiln.copyIn = [])) ∧
    (∃ (s : State) (d : Draft), (s.draft = some d) ∧ (s.kiln.powered = true) ∧ (s.kiln.st = 0 ∨ (s.kiln.st = 1 ∧ s.kiln.mstate
    = 3 ∧ s.kport.change = true)) ∧ (s.sys.loomFault = false) ∧ (s.sys.st = .selftest ∨ s.sys.st = .standby)) ∧
    (∃ (s : State) (x : Nat) (high : Bool) (r : KXtRec), (s.kiln.powered = true) ∧ (s.kiln.xtRec x = some r)) ∧
    (∃ (s : State) (x held : Nat) (high : Bool) (r : KXtRec), (s.kiln.powered = true) ∧ (s.kiln.xtRec x = some r) ∧ (held ≠ 0)
    ∧ (held < r.filter)) ∧
    (∃ (s : State) (x held : Nat) (r : KXtRec), (s.kiln.powered = true) ∧ (s.kiln.xtRec x = some r) ∧ (held ≠ 0) ∧ (r.filter ≤
    held)) ∧
    (∃ (s : State) (x held : Nat) (r : KXtRec), (s.kiln.powered = true) ∧ (s.kiln.xtRec x = some r) ∧ (held ≠ 0) ∧ (r.filter ≤
    held) ∧ (r.lossEvent = true) ∧ (s.kiln.xtLost.getLsbD x = false)) ∧
    (∃ (s : State) (x held : Nat) (r : KXtRec), (s.kiln.powered = true) ∧ (s.kiln.xtRec x = some r) ∧ (held ≠ 0) ∧ (r.filter ≤
    held) ∧ (r.lossEvent = false ∨ s.kiln.xtLost.getLsbD x = true)) ∧
    (∃ (s : State) (line : List Bool), (s.pairMode = true) ∧ (s.kiln.powered = true) ∧ (s.kiln.claim = true)) ∧
    (∃ (s : State) (line : List Bool), (s.pairMode = false ∨ s.kiln.powered = false ∨ s.kiln.claim = false)) ∧
    (∃ (s : State), (s.pairMode = true) ∧ (s.kiln.powered = true) ∧ (30 ≤ s.kiln.silence)) ∧
    (∃ (s : State), (s.pairMode = true) ∧ (s.kiln.silence < 30)) ∧
    (∃ (s : State), (s.pairMode = false) ∧ (s.kiln.powered = true)) ∧
    (∃ (s : State) (c : Nat), (s.pairMode = true) ∧ (s.kiln.powered = true) ∧ ((c = 0 ∧ 3 < s.kiln.domRun) ∨ (c = 1 ∧
    s.kiln.claim = true ∧ 3 ≤ s.kiln.wrong) ∨ (2 ≤ c ∧ s.kiln.contra = true)) ∧ (s.kiln.lclm &&& BitVec.ofNat 3 (2 ^ min c
    2) = 0)) ∧
    (∃ (s : State) (v : Word), (s.kport.busy = false)) ∧
    (∃ (s : State) (v : Word), (s.kport.busy = false)) ∧
    (∃ (s : State) (v : Word), (s.kport.busy = false)) ∧
    (∃ (s : State) (v : Word), (s.kport.busy = true)) ∧
    (∃ (s : State) (v : Word), (s.kport.busy = true)) ∧
    (∃ (s : State) (v : Word), (s.kport.busy = true)) :=
  ⟨⟨{}, 0, false, false, 0, by decide⟩,
    ⟨{ warp := { picks := true }, kiln := { powered := true } }, 0, false, true, 0, _, _, _, rfl, rfl, rfl, rfl, rfl, rfl, by decide +kernel, rfl⟩,
    ⟨{ warp := { picks := true }, kiln := { powered := true } }, 0, true, true, 0, _, _, _, rfl, rfl, rfl, rfl, rfl, rfl, by decide⟩,
    ⟨{ kiln := { powered := true, copyIn := [{}] } }, 0, {}, [], by decide⟩,
    ⟨{}, 0, by decide⟩,
    ⟨{ draft := some aDraft, kiln := { powered := true }, sys := { st := .standby } }, aDraft, by decide⟩,
    ⟨{ kiln := { powered := true, tbl := some aTable } }, 0, true, { used := true, lossEvent := true, filter := 5, imask := 0, omask := 0, flags := 0 }, by decide⟩,
    ⟨{ kiln := { powered := true, tbl := some aTable } }, 0, 4, true, { used := true, lossEvent := true, filter := 5, imask := 0, omask := 0, flags := 0 }, by decide⟩,
    ⟨{ kiln := { powered := true, tbl := some aTable } }, 0, 5, { used := true, lossEvent := true, filter := 5, imask := 0, omask := 0, flags := 0 }, by decide⟩,
    ⟨{ kiln := { powered := true, tbl := some aTable } }, 0, 5, { used := true, lossEvent := true, filter := 5, imask := 0, omask := 0, flags := 0 }, by decide⟩,
    ⟨{ kiln := { powered := true, tbl := some aTable, xtLost := 1 } }, 0, 5, { used := true, lossEvent := true, filter := 5, imask := 0, omask := 0, flags := 0 }, by decide⟩,
    ⟨{ draft := some { aDraft with pair := { mode := 1 } }, kiln := { powered := true, claim := true } }, [], by decide⟩,
    ⟨{}, [], by decide⟩,
    ⟨{ draft := some { aDraft with pair := { mode := 1 } }, kiln := { powered := true, silence := 30 } }, by decide⟩,
    ⟨{ draft := some { aDraft with pair := { mode := 1 } } }, by decide⟩,
    ⟨{ kiln := { powered := true } }, by decide⟩,
    ⟨{ draft := some { aDraft with pair := { mode := 1 } }, kiln := { powered := true, domRun := 4 } }, 0, by decide⟩,
    ⟨{}, 0, by decide⟩,
    ⟨{}, 0, by decide⟩,
    ⟨{}, 0, by decide⟩,
    ⟨{ kport := { busy := true } }, 0, by decide⟩,
    ⟨{ kport := { busy := true } }, 0, by decide⟩,
    ⟨{ kport := { busy := true } }, 0, by decide⟩⟩

theorem witness_PairSteps :
    (∃ (s : State), (s.pairSends = true)) ∧
    (∃ (s : State), (s.pairSends = false)) ∧
    (∃ (s : State) (r : State), (s.pairSends = true) ∧ (r = s.at 800000)) ∧
    (∃ (s : State), (s.pairSends = false)) ∧
    (∃ (s : State) (lane : Bool) (b : List Byte) (u : Ns) (rtt : Nat), (s.pairMode = true) ∧ (s.warp.picks = true) ∧ (fastOk b
    = true) ∧ (((s.at u).laneValid lane).pair.fastNow = false)) ∧
    (∃ (s : State) (lane : Bool) (b : List Byte) (u : Ns) (rtt : Nat), (s.pairMode = true) ∧ (s.warp.picks = true) ∧ (fastOk b
    = true) ∧ (((s.at u).laneValid lane).pair.fastNow = true)) ∧
    (∃ (s : State) (lane : Bool) (b : List Byte) (u : Ns) (rtt : Nat), (s.pairMode = true) ∧ (s.warp.picks = true) ∧ (fastOk b
    = false)) ∧
    (∃ (s : State) (lane : Bool) (b : List Byte) (u : Ns) (rtt : Nat), (s.pairMode = false ∨ s.warp.picks = false)) ∧
    (∃ (s : State) (lane : Bool) (b : StateBody) (r q : State), (s.pairMode = true) ∧ (s.warp.picks = true) ∧ (r = (s.at
    900000).laneValid lane) ∧ (r.pair.mirAge ≠ 0) ∧ (q =
    { r with pair := { r.pair with mirAge := 0, pStaged := b.staged, seqs := b.seqs.foldl (fun (l : List (Nat × Word)) e => aset e.1 e.2 l) r.pair.seqs } })
    ∧ (r.sys.role ≠ .shadow)) ∧
    (∃ (s : State) (lane : Bool) (b : StateBody) (r q : State), (s.pairMode = true) ∧ (s.warp.picks = true) ∧ (r = (s.at
    900000).laneValid lane) ∧ (r.pair.mirAge ≠ 0) ∧ (q =
    { r with pair := { r.pair with mirAge := 0, pStaged := b.staged, seqs := b.seqs.foldl (fun (l : List (Nat × Word)) e => aset e.1 e.2 l) r.pair.seqs } })
    ∧ (r.sys.role = .shadow)) ∧
    (∃ (s : State) (lane : Bool) (b : StateBody), (s.pairMode = true) ∧ (s.warp.picks = true) ∧ (((s.at 900000).laneValid
    lane).pair.mirAge = 0)) ∧
    (∃ (s : State) (lane : Bool) (b : StateBody), (s.pairMode = true) ∧ (s.warp.picks = true)) ∧
    (∃ (s : State) (lane ok : Bool) (b : StateBody), (s.pairMode = false ∨ s.warp.picks = false)) ∧
    (∃ (s : State) (lane : Bool) (r : State), (s.pairMode = true) ∧ ((if lane then s.pair.lane1 else s.pair.lane0).up = true) ∧
    (2 ≤ (if lane then s.pair.lane1 else s.pair.lane0).silent) ∧ (r = (s.onLane lane (fun x =>
    { x with up := false, good := 0 })).raise 0x13250004#32 [byteOf (b2n lane)])) ∧
    (∃ (s : State) (k : Nat), (s.pair.armFrom = some k) ∧ (k ≤ s.warp.pickCount)) ∧
    (∃ (s : State), (s.pairMode = true) ∧ (s.warp.picks = true) ∧ (s.sys.role = .shadow) ∧ (s.pair.takeDue = true) ∧
    (s.pair.claim = true) ∧ (s.pair.barredBy = 0)) ∧
    (∃ (s : State) (sent react : Nat), (s.fastLane = true)) :=
  ⟨⟨{ draft := some { aDraft with pair := { mode := 1 } }, warp := { picks := true } }, by decide⟩,
    ⟨{}, by decide⟩,
    ⟨{ draft := some { aDraft with pair := { mode := 1 } }, warp := { picks := true } }, _, by decide, rfl⟩,
    ⟨{}, by decide⟩,
    ⟨{ draft := some { aDraft with pair := { mode := 1 } }, warp := { picks := true } }, false, (1 :: zeros 943) ++ be32 (crc32c (1 :: zeros 943)), 400000, 0, by decide, by decide, fastOk_of _ (by decide) (by decide), by decide⟩,
    ⟨{ draft := some { aDraft with pair := { mode := 1 } }, warp := { picks := true }, pair := { fastNow := true } }, false, (1 :: zeros 943) ++ be32 (crc32c (1 :: zeros 943)), 400000, 0, by decide, by decide, fastOk_of _ (by decide) (by decide), by decide⟩,
    ⟨{ draft := some { aDraft with pair := { mode := 1 } }, warp := { picks := true } }, false, [], 0, 0, by decide⟩,
    ⟨{}, false, [], 0, 0, by decide⟩,
    ⟨{ draft := some { aDraft with pair := { mode := 1 } }, warp := { picks := true }, pair := { mirAge := 1 } }, false, {}, _, _, by decide, by decide, rfl, by decide, rfl, by decide⟩,
    ⟨{ draft := some { aDraft with pair := { mode := 1 } }, warp := { picks := true }, pair := { mirAge := 1 }, sys := { role := .shadow } }, false, {}, _, _, by decide, by decide, rfl, by decide, rfl, by decide⟩,
    ⟨{ draft := some { aDraft with pair := { mode := 1 } }, warp := { picks := true } }, false, {}, by decide⟩,
    ⟨{ draft := some { aDraft with pair := { mode := 1 } }, warp := { picks := true } }, false, {}, by decide⟩,
    ⟨{}, false, true, {}, by decide⟩,
    ⟨{ draft := some { aDraft with pair := { mode := 1 } }, pair := { lane0 := { up := true, silent := 2 } } }, false, _, by decide, by decide, by decide, rfl⟩,
    ⟨{ pair := { armFrom := some 0 } }, 0, by decide⟩,
    ⟨{ draft := some { aDraft with pair := { mode := 1 } }, warp := { picks := true }, sys := { role := .shadow }, pair := { takeDue := true, claim := true } }, by decide⟩,
    ⟨{ warp := { picks := true }, sys := { st := .standby } }, 0, 0, by decide⟩⟩

theorem witness_NetworkLinks :
    (∃ (s : State) (p speed : Nat) (mdix : Bool) (r : State), ((s.port p).up = false) ∧ (s.speedAllowed p speed = true) ∧ (p <
    2) ∧ (r = (s.setPort p
    { s.port p with up := true, speed := speed, used := true, mdix := mdix, last := some s.otime }).raise 0x0A040001#32
    [byteOf p, byteOf speed])) ∧
    (∃ (s : State) (p speed : Nat) (mdix : Bool) (r q : State), ((s.port p).up = false) ∧ (s.speedAllowed p speed = true) ∧ (2
    ≤ p) ∧ (r = (s.setPort p
    { s.port p with up := true, speed := speed, used := decide (speed = 3), mdix := mdix, last := some s.otime }).raise
    0x0A040001#32 [byteOf p, byteOf speed]) ∧ (q = (if speed = 3 then r else (r.raise 0x0A240003#32
    [byteOf p]).ringBreak))) ∧
    (∃ (s : State) (p speed : Nat) (mdix : Bool), ((s.port p).up = true ∨ s.speedAllowed p speed = false)) ∧
    (∃ (s : State) (p : Nat) (r : State), ((s.port p).up = true) ∧ (r = (s.setPort p
    { s.port p with up := false, speed := 0, used := false, mdix := false, downs := sat16 (s.port p).downs, buf := 0 }).raise
    0x0A240002#32 [byteOf p])) ∧
    (∃ (s : State) (p : Nat), ((s.port p).up = false)) ∧
    (∃ (s : State) (p u : Nat), (p < 2) ∧ ((s.port p).up = true) ∧ ((∀ v, (s.port p).last = some v → v + 2000000 ≤ s.otime)) ∧
    ((s.port (mate p)).last = some u) ∧ (s.otime ≤ u + 2000000)) ∧
    (∃ (s : State) (p : Nat), (2 ≤ p ∨ (s.port p).up = false ∨ (∃ v, (s.port p).last = some v ∧ s.otime < v + 2000000) ∨ (∀ u,
    (s.port (mate p)).last = some u → u + 2000000 < s.otime))) ∧
    (∃ (s : State) (r q : State), (r = (if s.ringLinked = true ∧ s.net.ringSup = true then (if (s.port 2).back = true ∧ (s.port
    3).back = true then s.ringRestore else s.ringBreak) else s)) ∧ (q = (r.setPort 2 { r.port 2 with back := false }))) ∧
    (∃ (s : State) (g n : Nat) (src : List Byte) (sup bad : Bool) (mine queued : Nat) (b : List Byte) (w : Bool) (r : State),
    (w = (bad || decide (maxFrame < b.length))) ∧ (r = s.netPick.setPort g
    { s.netPick.port g with rx := sat32 (s.netPick.port g).rx, fcs := if w = true then sat16 (s.netPick.port g).fcs else (s.netPick.port g).fcs, last := some s.otime })) ∧
    (∃ (s : State) (g n : Nat) (src : List Byte) (sup bad : Bool) (mine queued : Nat) (b : List Byte) (w : Bool) (r : State),
    (w = (bad || decide (maxFrame < b.length))) ∧ (r = (if mine = 0 then s.netPick.setPort g
    { s.netPick.port g with rx := sat32 (s.netPick.port g).rx, fcs := if w = true then sat16 (s.netPick.port g).fcs else (s.netPick.port g).fcs, last := some s.otime }
    else (s.frameIn g src (some n) w (if sup then 1 else 4)).1)) ∧ (mine = 1 ∨ maxFrame < b.length ∨ r.net.forwarding =
    false ∨ (r.port (5 - g)).up = false)) ∧
    (∃ (s : State) (g n : Nat) (src : List Byte) (sup bad : Bool) (mine queued : Nat) (b : List Byte) (r : State), (b.length ≤
    maxFrame) ∧ (r = (if mine = 0 then s.netPick.setPort g
    { s.netPick.port g with rx := sat32 (s.netPick.port g).rx, fcs := if bad = true then sat16 (s.netPick.port g).fcs else (s.netPick.port g).fcs, last := some s.otime }
    else (s.frameIn g src (some n) bad (if sup then 1 else 4)).1)) ∧ (mine ≠ 1) ∧ (r.net.forwarding = true) ∧ ((r.port (5
    - g)).up = true)) ∧
    (∃ (s : State) (p : Nat) (mine conflict : Bool), (s.net.ready = false)) ∧
    (∃ (s : State) (p : Nat) (mine : Bool), (s.net.ready = true)) ∧
    (∃ (s : State) (p : Nat), (s.net.ready = true)) ∧
    (∃ (s : State) (p : Nat), (s.net.ready = true)) ∧
    (∃ (s : State) (p : Nat) (b : List Byte), (s.net.ready = true)) ∧
    (∃ (s : State) (p : Nat) (b : List Byte), (s.net.ready = false)) ∧
    (∃ (s : State) (v3 : Bool), (s.net.ready = true) ∧ (s.netRec.groups ≠ [])) ∧
    (∃ (s : State) (v3 : Bool), (s.net.ready = true) ∧ (s.netRec.groups = [])) ∧
    (∃ (s : State) (v3 : Bool), (s.net.ready = false)) ∧
    (∃ (s : State) (a b : Nat), (s.net.readyAt = some a) ∧ (s.net.linkAt = some b)) ∧
    (∃ (s : State), (s.net.readyAt = none ∨ s.net.linkAt = none)) :=
  ⟨⟨{}, 0, 3, false, _, by decide, by decide, by decide, rfl⟩,
    ⟨{}, 2, 1, false, _, _, by decide, by decide, by decide, rfl, rfl⟩,
    ⟨{ net := { ports := [{ up := true }] } }, 0, 1, false, by decide⟩,
    ⟨{ net := { ports := [{ up := true }] } }, 0, _, by decide, rfl⟩,
    ⟨{}, 0, by decide⟩,
    ⟨{ net := { ports := [{ up := true }, { up := true, last := some 0 }] } }, 0, 0, by decide, by decide, (by intro v h; cases h), by decide, by decide⟩,
    ⟨{}, 2, .inl (by decide)⟩,
    ⟨{}, _, _, rfl, rfl⟩,
    ⟨{}, 2, 0, [], false, false, 0, 0, [], _, _, rfl, rfl⟩,
    ⟨{}, 2, 0, [], false, false, 1, 0, [], _, _, rfl, rfl, by decide⟩,
    ⟨{ net := { forwarding := true, ready := true, ports := [{}, {}, {}, { up := true }] } }, 2, 0, [], false, false, 2, 0, [], _, by decide, rfl, by decide, by decide, by decide⟩,
    ⟨{}, 0, true, false, by decide⟩,
    ⟨{ net := { ready := true } }, 0, true, by decide⟩,
    ⟨{ net := { ready := true } }, 0, by decide⟩,
    ⟨{ net := { ready := true } }, 0, by decide⟩,
    ⟨{ net := { ready := true } }, 0, [], by decide⟩,
    ⟨{}, 0, [], by decide⟩,
    ⟨{ net := { ready := true }, draft := some { aDraft with net := { groups := [(0, 0)] } } }, true, by decide⟩,
    ⟨{ net := { ready := true } }, true, by decide⟩,
    ⟨{}, true, by decide⟩,
    ⟨{ net := { readyAt := some 0, linkAt := some 0 }, clk := { otimeUs := 1000000 } }, 0, 0, by decide⟩,
    ⟨{}, by decide⟩⟩

theorem witness_ReceivedFrames :
    (∃ (s : State) (p d : Nat) (g : Word) (b : List Byte) (u : Ns), (s.net.ready = false)) ∧
    (∃ (s : State) (p d : Nat) (g : Word) (b : List Byte) (u : Ns), (s.net.ready = true) ∧ (b.take 6 ≠ ascii "UdPbC" ++ [0])) ∧
    (∃ (s : State) (p d : Nat) (g : Word) (b : List Byte) (u : Ns) (src : Option (List Byte)) (ok : Bool) (l : List (List
    Byte)), (s.net.ready = true) ∧ (b.take 6 = ascii "UdPbC" ++ [0]) ∧ (parse450 (b.drop 6) = (src, ok, l)) ∧ (((s.at
    u).findSess (fun r => r.kind == 1 && r.rx && r.address.take 6 == ipKey g d && (r.address.drop 6).take 6 == fitBytes 6
    (src.getD []) && src.isSome)) = none)) ∧
    (∃ (s : State) (p d : Nat) (g : Word) (b : List Byte) (u : Ns) (src : Option (List Byte)) (ok : Bool) (l : List (List
    Byte)) (r : SessRec), (s.net.ready = true) ∧ (b.take 6 = ascii "UdPbC" ++ [0]) ∧ (parse450 (b.drop 6) = (src, ok, l))
    ∧ (((s.at u).findSess (fun r => r.kind == 1 && r.rx && r.address.take 6 == ipKey g d && (r.address.drop 6).take 6 ==
    fitBytes 6 (src.getD []) && src.isSome)) = some r) ∧ (s.sessTakes r.index = false)) ∧
    (∃ (s : State) (p d : Nat) (g : Word) (b : List Byte) (u : Ns) (src : Option (List Byte)) (l : List (List Byte)) (r :
    SessRec) (x : Session), (s.net.ready = true) ∧ (b.take 6 = ascii "UdPbC" ++ [0]) ∧ (parse450 (b.drop 6) = (src, false,
    l)) ∧ (((s.at u).findSess (fun r => r.kind == 1 && r.rx && r.address.take 6 == ipKey g d && (r.address.drop 6).take 6
    == fitBytes 6 (src.getD []) && src.isSome)) = some r) ∧ (s.sessTakes r.index = true) ∧ (s.session r.index = some x)) ∧
    (∃ (s : State) (p d : Nat) (g : Word) (b : List Byte) (u : Ns) (src : Option (List Byte)) (l : List (List Byte)) (r :
    SessRec), (s.net.ready = true) ∧ (b.take 6 = ascii "UdPbC" ++ [0]) ∧ (parse450 (b.drop 6) = (src, true, l)) ∧ (((s.at
    u).findSess (fun r => r.kind == 1 && r.rx && r.address.take 6 == ipKey g d && (r.address.drop 6).take 6 == fitBytes 6
    (src.getD []) && src.isSome)) = some r) ∧ (s.sessTakes r.index = true)) ∧
    (∃ (s : State) (p d : Nat) (src : Word) (b : List Byte) (u : Ns), (s.net.ready = false)) ∧
    (∃ (s : State) (p d : Nat) (src : Word) (b : List Byte) (u : Ns), (s.net.ready = true) ∧ (((s.at u).findSess (fun r =>
    r.kind == 2 && r.rx && r.address.take 6 == ipKey src d)) = none)) ∧
    (∃ (s : State) (p d : Nat) (src : Word) (b : List Byte) (u : Ns) (r : SessRec), (s.net.ready = true) ∧ (((s.at u).findSess
    (fun r => r.kind == 2 && r.rx && r.address.take 6 == ipKey src d)) = some r) ∧ (s.sessTakes r.index = false)) ∧
    (∃ (s : State) (p d : Nat) (src : Word) (b : List Byte) (u : Ns) (r : SessRec), (s.net.ready = true) ∧ (((s.at u).findSess
    (fun r => r.kind == 2 && r.rx && r.address.take 6 == ipKey src d)) = some r) ∧ (s.sessTakes r.index = true)) ∧
    (∃ (s : State) (p ap : Nat) (src cb : List Byte) (st sq : Word) (ttl : Nat) (sim : Bool) (m : List GooseMember) (u : Ns),
    (s.net.ready = false)) ∧
    (∃ (s : State) (p ap : Nat) (src cb : List Byte) (st sq : Word) (ttl : Nat) (sim : Bool) (m : List GooseMember) (u : Ns),
    (s.net.ready = true) ∧ (s.netRec.goose.find? (fun (g : GooseRec) => g.appid == ap && g.src == src && g.gocb == cb) =
    none)) ∧
    (∃ (s : State) (p ap : Nat) (src cb : List Byte) (st sq : Word) (ttl : Nat) (sim : Bool) (m : List GooseMember) (u : Ns) (g
    : GooseRec), (s.net.ready = true) ∧ (s.netRec.goose.find? (fun (g : GooseRec) => g.appid == ap && g.src == src &&
    g.gocb == cb) = some g) ∧ (s.sessTakes g.sess = false)) ∧
    (∃ (s : State) (p ap : Nat) (src cb : List Byte) (st sq : Word) (ttl : Nat) (m : List GooseMember) (u : Ns) (g : GooseRec),
    (s.net.ready = true) ∧ (s.netRec.goose.find? (fun (g : GooseRec) => g.appid == ap && g.src == src && g.gocb == cb) =
    some g) ∧ (s.sessTakes g.sess = true)) ∧
    (∃ (s : State) (p ap : Nat) (src cb : List Byte) (st sq : Word) (ttl : Nat) (m : List GooseMember) (u : Ns) (g : GooseRec),
    (s.net.ready = true) ∧ (s.netRec.goose.find? (fun (g : GooseRec) => g.appid == ap && g.src == src && g.gocb == cb) =
    some g) ∧ (s.sessTakes g.sess = true)) ∧
    (∃ (s : State) (i : Nat) (b : List Byte) (u : Ns), ((s.at u).sessRec i = none ∨ (s.at u).session i = none)) ∧
    (∃ (s : State) (i : Nat) (b : List Byte) (u : Ns) (r : SessRec) (x : Session), ((s.at u).sessRec i = some r) ∧ ((s.at
    u).session i = some x) ∧ (r.kind ≠ 8 ∨ s.net.ready = false ∨ s.sessTakes i = false)) ∧
    (∃ (s : State) (i : Nat) (b : List Byte) (u : Ns) (r : SessRec) (x : Session) (a : State), ((s.at u).sessRec i = some r) ∧
    ((s.at u).session i = some x) ∧ (r.kind = 8) ∧ (s.net.ready = true) ∧ (s.sessTakes i = true) ∧ (a = (s.at u).glazeRx r
    b) ∧ ((28 ≤ b.length && (a.glazeSet r.glaze).any (fun g => decide (glazeCheck g (b.take (b.length - 4)) % 4294967296 =
    ofBe (b.drop (b.length - 4))))) = false)) ∧
    (∃ (s : State) (i : Nat) (b : List Byte) (u : Ns) (r : SessRec) (x : Session) (a : State), ((s.at u).sessRec i = some r) ∧
    ((s.at u).session i = some x) ∧ (r.kind = 8) ∧ (s.net.ready = true) ∧ (s.sessTakes i = true) ∧ (a = (s.at u).glazeRx r
    b) ∧ ((28 ≤ b.length && (a.glazeSet r.glaze).any (fun g => decide (glazeCheck g (b.take (b.length - 4)) % 4294967296 =
    ofBe (b.drop (b.length - 4))))) = true) ∧ ((fieldAt b 0 1 == 1 && fieldAt b 1 1 == 0x81 && fieldAt b 2 2 == 32 &&
    b.length == 60) = false)) ∧
    (∃ (s : State) (i : Nat) (b : List Byte) (u : Ns) (r : SessRec) (x : Session) (a : State) (v : Word), ((s.at u).sessRec i =
    some r) ∧ ((s.at u).session i = some x) ∧ (r.kind = 8) ∧ (s.net.ready = true) ∧ (s.sessTakes i = true) ∧ (a = (s.at
    u).glazeRx r b) ∧ ((28 ≤ b.length && (a.glazeSet r.glaze).any (fun g => decide (glazeCheck g (b.take (b.length - 4)) %
    4294967296 = ofBe (b.drop (b.length - 4))))) = true) ∧ ((fieldAt b 0 1 == 1 && fieldAt b 1 1 == 0x81 && fieldAt b 2 2
    == 32 && b.length == 60) = true) ∧ (x.rxSeq = some v) ∧ (seqNewer (word (fieldAt b 12 4)) v = false)) ∧
    (∃ (s : State) (i : Nat) (b : List Byte) (u : Ns) (r : SessRec) (x : Session) (a : State) (q : State), ((s.at u).sessRec i
    = some r) ∧ ((s.at u).session i = some x) ∧ (r.kind = 8) ∧ (s.net.ready = true) ∧ (s.sessTakes i = true) ∧ (a = (s.at
    u).glazeRx r b) ∧ ((28 ≤ b.length && (a.glazeSet r.glaze).any (fun g => decide (glazeCheck g (b.take (b.length - 4)) %
    4294967296 = ofBe (b.drop (b.length - 4))))) = true) ∧ ((fieldAt b 0 1 == 1 && fieldAt b 1 1 == 0x81 && fieldAt b 2 2
    == 32 && b.length == 60) = true) ∧ ((∀ v, x.rxSeq = some v → seqNewer (word (fieldAt b 12 4)) v = true)) ∧ (a.charge i
    = (q, false))) ∧
    (∃ (s : State) (i : Nat) (b : List Byte) (u : Ns) (r : SessRec) (x : Session) (a : State) (q y : State) (z : Session),
    ((s.at u).sessRec i = some r) ∧ ((s.at u).session i = some x) ∧ (r.kind = 8) ∧ (s.net.ready = true) ∧ (s.sessTakes i =
    true) ∧ (a = (s.at u).glazeRx r b) ∧ ((28 ≤ b.length && (a.glazeSet r.glaze).any (fun g => decide (glazeCheck g
    (b.take (b.length - 4)) % 4294967296 = ofBe (b.drop (b.length - 4))))) = true) ∧ ((fieldAt b 0 1 == 1 && fieldAt b 1 1
    == 0x81 && fieldAt b 2 2 == 32 && b.length == 60) = true) ∧ ((∀ v, x.rxSeq = some v → seqNewer (word (fieldAt b 12 4))
    v = true)) ∧ (a.charge i = (q, true)) ∧ (q.session i = some z) ∧ (y = q.setSession i
    { z with rxSeq := some (word (fieldAt b 12 4)) })) ∧
    (∃ (s : State) (p n : Nat) (src : List Byte) (seq : Option Nat) (bad : Bool) (b : EthBody) (u : Ns) (r : State) (on :
    Bool), ((s.at u).frameIn p src seq (bad || decide (maxFrame < n)) (frameKind b) = (r, on))) ∧
    (∃ (s : State) (i : Nat), (s.sessRec i = none)) ∧
    (∃ (s : State) (i : Nat) (r : SessRec), (s.sessRec i = some r) ∧ (¬ ((s.sys.st = .ready ∨ s.isActive = true ∨ s.sys.st =
    .safe) ∧ s.leads = true ∧ (r.kind = 0x0B ∨ r.kind = 0x0C) ∧ 0 < r.period ∧ s.warp.pickCount % r.period = 0))) ∧
    (∃ (s : State) (i : Nat) (r : SessRec), (s.sessRec i = some r) ∧ (s.sys.st = .ready ∨ s.isActive = true ∨ s.sys.st = .safe)
    ∧ (s.leads = true) ∧ (r.kind = 0x0C) ∧ (0 < r.period) ∧ (s.warp.pickCount % r.period = 0)) ∧
    (∃ (s : State) (i : Nat) (r : SessRec), (s.sessRec i = some r) ∧ (s.sys.st = .ready ∨ s.isActive = true ∨ s.sys.st = .safe)
    ∧ (s.leads = true) ∧ (r.kind = 0x0B) ∧ (0 < r.period) ∧ (s.warp.pickCount % r.period = 0)) ∧
    (∃ (s : State) (n e : Nat) (c : Byte) (u : Ns), (s.net.ready = false ∨ (s.uartRec n).rx = none)) ∧
    (∃ (s : State) (n e : Nat) (c : Byte) (u : Ns) (i : Nat), (s.net.ready = true) ∧ ((s.uartRec n).rx = some i) ∧ (e ≠ 0)) ∧
    (∃ (s : State) (n : Nat) (c : Byte) (u : Ns) (i : Nat), (s.net.ready = true) ∧ ((s.uartRec n).rx = some i) ∧ ((s.at
    u).sessRec i = none)) ∧
    (∃ (s : State) (n : Nat) (c : Byte) (u : Ns) (i : Nat) (r : SessRec), (s.net.ready = true) ∧ ((s.uartRec n).rx = some i) ∧
    ((s.at u).sessRec i = some r)) ∧
    (∃ (s : State) (c id rec' : Nat) (fast full : Bool) (b : List Byte) (u : Ns), (s.canRec c = none)) ∧
    (∃ (s : State) (c id rec' : Nat) (fast full : Bool) (b : List Byte) (u : Ns) (r : CanRec) (y : State), (s.canRec c = some
    r) ∧ (y = (s.at u).canReceived c rec') ∧ (s.net.ready = false ∨ (y.can c).bus = 2 ∨ canPasses r id = false)) ∧
    (∃ (s : State) (c id rec' : Nat) (fast : Bool) (b : List Byte) (u : Ns) (r : CanRec) (y : State), (s.canRec c = some r) ∧
    (y = (s.at u).canReceived c rec') ∧ (s.net.ready = true) ∧ ((y.can c).bus ≠ 2) ∧ (canPasses r id = true)) ∧
    (∃ (s : State) (c id rec' : Nat) (fast : Bool) (b : List Byte) (u : Ns) (r : CanRec) (y : State), (s.canRec c = some r) ∧
    (y = (s.at u).canReceived c rec') ∧ (s.net.ready = true) ∧ ((y.can c).bus ≠ 2) ∧ (canPasses r id = true) ∧ (r.n2k =
    true)) ∧
    (∃ (s : State) (c id rec' : Nat) (fast : Bool) (b : List Byte) (u : Ns) (r : CanRec) (y : State) (z : State), (s.canRec c =
    some r) ∧ (y = (s.at u).canReceived c rec') ∧ (s.net.ready = true) ∧ ((y.can c).bus ≠ 2) ∧ (canPasses r id = true) ∧
    (r.n2k = false) ∧ (z = y.setCan c { y.can c with frames := sat16 (y.can c).frames }) ∧ (z.canSess c id = none)) ∧
    (∃ (s : State) (c id rec' : Nat) (fast : Bool) (b : List Byte) (u : Ns) (r : CanRec) (y : State) (z : State) (q : SessRec),
    (s.canRec c = some r) ∧ (y = (s.at u).canReceived c rec') ∧ (s.net.ready = true) ∧ ((y.can c).bus ≠ 2) ∧ (canPasses r
    id = true) ∧ (r.n2k = false) ∧ (z = y.setCan c { y.can c with frames := sat16 (y.can c).frames }) ∧ (z.canSess c id =
    some q)) ∧
    (∃ (s : State) (c tec rec' : Nat), (s.canRec c = none ∨ (s.can c).bus = 2)) ∧
    (∃ (s : State) (c tec rec' : Nat) (r : State), (s.canRec c ≠ none) ∧ ((s.can c).bus ≠ 2) ∧ (127 < tec ∨ 127 < rec') ∧ (r =
    s.setCan c { s.can c with tec := tec, rec' := rec', errFrames := sat16 (s.can c).errFrames, bus := 1 })) ∧
    (∃ (s : State) (c tec rec' : Nat), (s.canRec c ≠ none) ∧ ((s.can c).bus ≠ 2) ∧ (tec ≤ 127) ∧ (rec' ≤ 127)) ∧
    (∃ (s : State) (c : Nat), (s.canRec c ≠ none) ∧ ((s.can c).bus ≠ 2)) ∧
    (∃ (s : State) (c : Nat), (s.canRec c = none ∨ (s.can c).bus = 2)) ∧
    (∃ (s : State) (c : Nat), ((s.can c).bus = 2)) ∧
    (∃ (s : State) (c : Nat), ((s.can c).bus ≠ 2)) :=
  ⟨⟨{}, 0, 0, 0, [], 0, by decide⟩,
    ⟨{ net := { ready := true } }, 0, 0, 0, [], 0, by decide, by simp [ascii]⟩,
    ⟨{ net := { ready := true } }, 0, 0, 0, aHead450 ++ aTagged, 0, some [65#8], true, [[36#8]], by decide, (by simp [aHead450, aTagged, ascii, byteOf]), by decide +kernel, by decide⟩,
    ⟨{ netState { index := 0, kind := 1, address := [0, 0, 0, 0, 0, 0, 65, 0, 0, 0, 0, 0] } with sess := [] }, 0, 0, 0, aHead450 ++ aTagged, 0, some [65#8], true, [[36#8]], full { index := 0, kind := 1, address := [0, 0, 0, 0, 0, 0, 65, 0, 0, 0, 0, 0] }, by decide, (by simp [aHead450, aTagged, ascii, byteOf]), by decide +kernel, by decide +kernel, by decide⟩,
    ⟨netState { index := 0, kind := 1, address := [0, 0, 0, 0, 0, 0, 65, 0, 0, 0, 0, 0] }, 0, 0, 0, aHead450 ++ aTagged ++ [10#8, 0x5C#8], 0, some [65#8], [[36#8]], full { index := 0, kind := 1, address := [0, 0, 0, 0, 0, 0, 65, 0, 0, 0, 0, 0] }, { kind := 1 }, by decide, (by simp [aHead450, aTagged, ascii, byteOf]), by decide +kernel, by decide +kernel, by decide, by decide⟩,
    ⟨netState { index := 0, kind := 1, address := [0, 0, 0, 0, 0, 0, 65, 0, 0, 0, 0, 0] }, 0, 0, 0, aHead450 ++ aTagged, 0, some [65#8], [[36#8]], full { index := 0, kind := 1, address := [0, 0, 0, 0, 0, 0, 65, 0, 0, 0, 0, 0] }, by decide, (by simp [aHead450, aTagged, ascii, byteOf]), by decide +kernel, by decide +kernel, by decide⟩,
    ⟨{}, 0, 0, 0, [], 0, by decide⟩,
    ⟨{ net := { ready := true } }, 0, 0, 0, [], 0, by decide⟩,
    ⟨{ netState { index := 0, kind := 2, address := [0, 0, 0, 0, 0, 0] } with sess := [] }, 0, 0, 0, [], 0, full { index := 0, kind := 2, address := [0, 0, 0, 0, 0, 0] }, by decide +kernel⟩,
    ⟨netState { index := 0, kind := 2, address := [0, 0, 0, 0, 0, 0] }, 0, 0, 0, [], 0, full { index := 0, kind := 2, address := [0, 0, 0, 0, 0, 0] }, by decide +kernel⟩,
    ⟨{}, 0, 0, [], [], 0, 0, 100, false, [], 0, by decide⟩,
    ⟨{ net := { ready := true } }, 0, 0, [], [], 0, 0, 100, false, [], 0, by decide⟩,
    ⟨{ draft := some { aDraft with net := { goose := [{ sess := 0, appid := 0, src := [], gocb := [] }] } }, net := { ready := true } }, 0, 0, [], [], 0, 0, 100, false, [], 0, { sess := 0, appid := 0, src := [], gocb := [] }, by decide⟩,
    ⟨{ draft := some { aDraft with net := { goose := [{ sess := 0, appid := 0, src := [], gocb := [] }] } }, net := { ready := true }, sess := [(0, {})] }, 0, 0, [], [], 0, 0, 100, [], 0, { sess := 0, appid := 0, src := [], gocb := [] }, by decide⟩,
    ⟨{ draft := some { aDraft with net := { goose := [{ sess := 0, appid := 0, src := [], gocb := [] }] } }, net := { ready := true }, sess := [(0, {})] }, 0, 0, [], [], 0, 0, 100, [], 0, { sess := 0, appid := 0, src := [], gocb := [] }, by decide⟩,
    ⟨{}, 0, [], 0, .inl (by decide)⟩,
    ⟨netState { index := 0, kind := 2, address := [0, 0, 0, 0, 0, 0] }, 0, [], 0, full { index := 0, kind := 2, address := [0, 0, 0, 0, 0, 0] }, { kind := 2 }, by decide +kernel⟩,
    ⟨{ netState { index := 0, kind := 8, glaze := 0 } with sess := [(0, { kind := 8, credit := 4000 })] }, 0, [], 0, full { index := 0, kind := 8, glaze := 0 }, { kind := 8, credit := 4000 }, _, by decide +kernel, by decide, by decide, by decide, by decide +kernel, rfl, by decide⟩,
    ⟨{ netState { index := 0, kind := 8, glaze := 0 } with sess := [(0, { kind := 8, credit := 4000 })] }, 0, aReply ++ zeros 0, 0, full { index := 0, kind := 8, glaze := 0 }, { kind := 8, credit := 4000 }, _, by decide +kernel, by decide, by decide, by decide, by decide +kernel, rfl, by decide +kernel, by decide +kernel⟩,
    ⟨{ { netState { index := 0, kind := 8, glaze := 0 } with sess := [(0, { kind := 8, credit := 4000 })] } with sess := [(0, { kind := 8, credit := 4000, rxSeq := some 5 })] }, 0, aDriveFrame, 0, full { index := 0, kind := 8, glaze := 0 }, { kind := 8, credit := 4000, rxSeq := some 5 }, _, 5, by decide +kernel, by decide, by decide, by decide, by decide +kernel, rfl, by decide +kernel, by decide +kernel, by decide, by decide +kernel⟩,
    ⟨{ { netState { index := 0, kind := 8, glaze := 0 } with sess := [(0, { kind := 8, credit := 4000 })] } with sess := [(0, { kind := 8 })] }, 0, aDriveFrame, 0, full { index := 0, kind := 8, glaze := 0 }, { kind := 8 }, _, _, by decide +kernel, by decide, by decide, by decide, by decide +kernel, rfl, by decide +kernel, by decide +kernel, (by intro v h; cases h), rfl⟩,
    ⟨{ netState { index := 0, kind := 8, glaze := 0 } with sess := [(0, { kind := 8, credit := 4000 })] }, 0, aDriveFrame, 0, full { index := 0, kind := 8, glaze := 0 }, { kind := 8, credit := 4000 }, _, _, _, _, by decide +kernel, by decide, by decide, by decide, by decide +kernel, rfl, by decide +kernel, by decide +kernel, (by intro v h; cases h), rfl, rfl, rfl⟩,
    ⟨{ net := { ready := true } }, 0, 0, [], none, false, .unknown, 0, _, _, rfl⟩,
    ⟨{}, 0, by decide⟩,
    ⟨netState { index := 0, kind := 2, address := [0, 0, 0, 0, 0, 0] }, 0, full { index := 0, kind := 2, address := [0, 0, 0, 0, 0, 0] }, by decide +kernel⟩,
    ⟨{ netState { index := 0, kind := 0x0C, period := 1 } with sys := { st := .ready } }, 0, full { index := 0, kind := 0x0C, period := 1 }, by decide +kernel⟩,
    ⟨{ netState { index := 0, kind := 0x0B, period := 1 } with sys := { st := .ready } }, 0, full { index := 0, kind := 0x0B, period := 1 }, by decide +kernel⟩,
    ⟨{}, 0, 0, 0, 0, by decide⟩,
    ⟨{ net := { ready := true }, draft := some { aDraft with net := { uarts := [{ rx := some 0 }] } } }, 0, 1, 0, 0, 0, by decide⟩,
    ⟨{ net := { ready := true }, draft := some { aDraft with net := { uarts := [{ rx := some 0 }] } } }, 0, 0, 0, 0, by decide⟩,
    ⟨{ netState { index := 0, kind := 3 } with draft := some { withSess { index := 0, kind := 3 } with net := { uarts := [{ rx := some 0 }] } } }, 0, 0, 0, 0, full { index := 0, kind := 3 }, by decide +kernel⟩,
    ⟨{}, 0, 0, 0, false, false, [], 0, by decide⟩,
    ⟨{ draft := some { aDraft with net := { cans := [some {}] } } }, 0, 0, 0, false, false, [], 0, {}, _, by decide, rfl, by decide⟩,
    ⟨{ netState { index := 0, kind := 4, address := [0, 0, 0, 0, 0, 0, 0, 0] } with draft := some { withSess { index := 0, kind := 4, address := [0, 0, 0, 0, 0, 0, 0, 0] } with net := { cans := [some { filters := [(0, 0)] }] } }, field := { cans := [{ bus := 0 }] } }, 0, 0, 0, false, [], 0, { filters := [(0, 0)] }, _, by decide +kernel, rfl, by decide, by decide +kernel, by decide⟩,
    ⟨{ netState { index := 0, kind := 4, address := [0, 0, 0, 0, 0, 0, 0, 0] } with draft := some { withSess { index := 0, kind := 4, address := [0, 0, 0, 0, 0, 0, 0, 0] } with net := { cans := [some { filters := [(0, 0)], n2k := true }] } }, field := { cans := [{ bus := 0 }] } }, 0, 0, 0, false, [], 0, { filters := [(0, 0)], n2k := true }, _, by decide +kernel, rfl, by decide, by decide +kernel, by decide, by decide⟩,
    ⟨{ net := { ready := true }, draft := some { aDraft with net := { cans := [some { filters := [(0, 0)] }] } }, field := { cans := [{ bus := 0 }] } }, 0, 0, 0, false, [], 0, { filters := [(0, 0)] }, _, _, by decide +kernel, rfl, by decide, by decide +kernel, by decide, by decide, rfl, by decide⟩,
    ⟨{ netState { index := 0, kind := 4, address := [0, 0, 0, 0, 0, 0, 0, 0] } with draft := some { withSess { index := 0, kind := 4, address := [0, 0, 0, 0, 0, 0, 0, 0] } with net := { cans := [some { filters := [(0, 0)] }] } }, field := { cans := [{ bus := 0 }] } }, 0, 0, 0, false, [], 0, { filters := [(0, 0)] }, _, _, full { index := 0, kind := 4, address := [0, 0, 0, 0, 0, 0, 0, 0] }, by decide +kernel, rfl, by decide, by decide +kernel, by decide, by decide, rfl, by decide +kernel⟩,
    ⟨{}, 0, 0, 0, by decide⟩,
    ⟨{ draft := some { aDraft with net := { cans := [some {}] } }, field := { cans := [{ bus := 0 }] } }, 0, 128, 0, _, by decide, by decide, by decide, rfl⟩,
    ⟨{ draft := some { aDraft with net := { cans := [some {}] } }, field := { cans := [{ bus := 0 }] } }, 0, 127, 0, by decide⟩,
    ⟨{ draft := some { aDraft with net := { cans := [some {}] } }, field := { cans := [{ bus := 0 }] } }, 0, by decide⟩,
    ⟨{}, 0, by decide⟩,
    ⟨{ field := { cans := [{ bus := 2 }] } }, 0, by decide⟩,
    ⟨{ field := { cans := [{ bus := 0 }] } }, 0, by decide⟩⟩

theorem witness_RemoteStations :
    (∃ (s : State), (s.rioSends = true) ∧ (s.warp.picks = true)) ∧
    (∃ (s : State), (s.rioSends = false ∨ s.warp.picks = false)) ∧
    (∃ (s : State) (k : Nat) (b : List Byte) (u : Ns), (s.staRec k = none)) ∧
    (∃ (s : State) (k : Nat) (b : List Byte) (u : Ns) (r : StaRec), (s.staRec k = some r) ∧ (s.net.ready = false ∨ s.sessTakes
    r.sess = false)) ∧
    (∃ (s : State) (k : Nat) (b : List Byte) (u : Ns) (r : StaRec), (s.staRec k = some r) ∧ (s.net.ready = true) ∧ (s.sessTakes
    r.sess = true) ∧ ((s.at u).sessRec r.sess = none)) ∧
    (∃ (s : State) (k : Nat) (b : List Byte) (u : Ns) (r : StaRec) (x : SessRec) (a : State), (s.staRec k = some r) ∧
    (s.net.ready = true) ∧ (s.sessTakes r.sess = true) ∧ ((s.at u).sessRec r.sess = some x) ∧ (a = (s.at u).glazeRx x b) ∧
    ((a.glazeSet x.glaze).any (fun g => decide (32 ≤ b.length) && glazeTailOk g b) = false)) ∧
    (∃ (s : State) (k : Nat) (b : List Byte) (u : Ns) (r : StaRec) (x : SessRec) (a : State), (s.staRec k = some r) ∧
    (s.net.ready = true) ∧ (s.sessTakes r.sess = true) ∧ ((s.at u).sessRec r.sess = some x) ∧ (a = (s.at u).glazeRx x b) ∧
    ((a.glazeSet x.glaze).any (fun g => decide (32 ≤ b.length) && glazeTailOk g b) = true) ∧ ((beAt b 0 1 == 1 && beAt b 1
    1 == 0x81 && beAt b 2 2 + 32 == b.length && beAt b 10 1 == k) = false)) ∧
    (∃ (s : State) (k : Nat) (b : List Byte) (u : Ns) (r : StaRec) (x : SessRec) (a : State) (q : State), (s.staRec k = some r)
    ∧ (s.net.ready = true) ∧ (s.sessTakes r.sess = true) ∧ ((s.at u).sessRec r.sess = some x) ∧ (a = (s.at u).glazeRx x b)
    ∧ ((a.glazeSet x.glaze).any (fun g => decide (32 ≤ b.length) && glazeTailOk g b) = true) ∧ ((beAt b 0 1 == 1 && beAt b
    1 1 == 0x81 && beAt b 2 2 + 32 == b.length && beAt b 10 1 == k) = true) ∧ (a.charge r.sess = (q, false))) ∧
    (∃ (s : State) (k : Nat) (b : List Byte) (u : Ns) (r : StaRec) (x : SessRec) (a : State) (q w : State) (z y : Sta) (late :
    Bool), (s.staRec k = some r) ∧ (s.net.ready = true) ∧ (s.sessTakes r.sess = true) ∧ ((s.at u).sessRec r.sess = some x)
    ∧ (a = (s.at u).glazeRx x b) ∧ ((a.glazeSet x.glaze).any (fun g => decide (32 ≤ b.length) && glazeTailOk g b) = true)
    ∧ ((beAt b 0 1 == 1 && beAt b 1 1 == 0x81 && beAt b 2 2 + 32 == b.length && beAt b 10 1 == k) = true) ∧ (a.charge
    r.sess = (q, true)) ∧ (z = q.sta k) ∧ (late = (if z.due = true then decide (40000 ≤ u ∧ u < 50000) else z.missed)) ∧
    (y =
    { z with held := (q.now, b.take (b.length - 4)) :: z.held, due := false, missed := false, late := if late = true then sat16 z.late else z.late, missing := if z.missed = true ∧ z.due = false then z.missing - 1 else z.missing })
    ∧ (w = (q.setSta k y).sessValid r.sess q.now)) ∧
    (∃ (s : State) (bad : BitVec 16), (bad &&& 0x3FFF#16 = 0)) ∧
    (∃ (s : State) (bad : BitVec 16), (bad &&& 0x3FFF#16 ≠ 0)) :=
  ⟨⟨{ sys := { st := .ready }, warp := { picks := true } }, by decide⟩,
    ⟨{}, by decide⟩,
    ⟨{}, 0, [], 0, by decide⟩,
    ⟨{ draft := some { aDraft with stations := [{ sta := 0, sess := 0, mods := [] }] } }, 0, [], 0, { sta := 0, sess := 0, mods := [] }, by decide⟩,
    ⟨{ draft := some { aDraft with stations := [{ sta := 0, sess := 0, mods := [] }] }, net := { ready := true }, sess := [(0, {})] }, 0, [], 0, { sta := 0, sess := 0, mods := [] }, by decide⟩,
    ⟨{ netState { index := 0, kind := 9, glaze := 0 } with draft := some { withSess { index := 0, kind := 9, glaze := 0 } with stations := [{ sta := 0, sess := 0, mods := [] }] }, sess := [(0, { kind := 9, credit := 4000 })], rio := { sta := [(0, { due := true })] } }, 0, [], 0, { sta := 0, sess := 0, mods := [] }, full { index := 0, kind := 9, glaze := 0 }, _, by decide, by decide, by decide, by decide +kernel, rfl, by decide⟩,
    ⟨{ netState { index := 0, kind := 9, glaze := 0 } with draft := some { withSess { index := 0, kind := 9, glaze := 0 } with stations := [{ sta := 0, sess := 0, mods := [] }] }, sess := [(0, { kind := 9, credit := 4000 })], rio := { sta := [(0, { due := true })] } }, 0, aDriveFrame, 0, { sta := 0, sess := 0, mods := [] }, full { index := 0, kind := 9, glaze := 0 }, _, by decide, by decide, by decide, by decide +kernel, rfl, by decide +kernel, by decide⟩,
    ⟨{ netState { index := 0, kind := 9, glaze := 0 } with draft := some { withSess { index := 0, kind := 9, glaze := 0 } with stations := [{ sta := 0, sess := 0, mods := [] }] }, sess := [(0, { kind := 9 })], rio := { sta := [(0, { due := true })] } }, 0, aReply, 0, { sta := 0, sess := 0, mods := [] }, full { index := 0, kind := 9, glaze := 0 }, _, _, by decide, by decide, by decide, by decide +kernel, rfl, by decide +kernel, by decide +kernel, rfl⟩,
    ⟨{ netState { index := 0, kind := 9, glaze := 0 } with draft := some { withSess { index := 0, kind := 9, glaze := 0 } with stations := [{ sta := 0, sess := 0, mods := [] }] }, sess := [(0, { kind := 9, credit := 4000 })], rio := { sta := [(0, { due := true })] } }, 0, aReply, 0, { sta := 0, sess := 0, mods := [] }, full { index := 0, kind := 9, glaze := 0 }, _, _, _, _, _, _, by decide, by decide, by decide, by decide +kernel, rfl, by decide +kernel, by decide +kernel, rfl, rfl, rfl, rfl, rfl⟩,
    ⟨{}, 0xC000, by decide⟩,
    ⟨{}, 1, by decide⟩⟩

theorem witness_RecorderFlash :
    (∃ (s : State), (s.sherd.stopped = false) ∧ (s.sherd.pfFlush = false) ∧ (s.sherd.pagesNow < 8) ∧ (s.sherd.pageDue s.otime =
    true) ∧ (s.sherd.full false = false ∨ s.sherd.ringErased = true) ∧ (s.sherd.full true = false ∨ s.sherd.archiveErased
    = true)) ∧
    (∃ (s : State), (s.sherd.stopped = false) ∧ (s.sherd.pfFlush = false) ∧ (s.sherd.pagesNow < 8) ∧ (s.sherd.pageDue s.otime =
    true) ∧ (s.sherd.full false = false ∨ s.sherd.ringErased = true) ∧ (s.sherd.full true = false ∨ s.sherd.archiveErased
    = true)) ∧
    (∃ (s : State) (k : Nat), (2 ≤ k) ∧ (s.sherd.stopped = false) ∧ (s.sherd.pfFlush = false) ∧ (s.sherd.pagesNow < 8) ∧
    (s.sherd.pageDue s.otime = true) ∧ (s.sherd.full false = false ∨ s.sherd.ringErased = true) ∧ (s.sherd.full true =
    false ∨ s.sherd.archiveErased = true)) ∧
    (∃ (s : State) (k : Nat), (s.sherd.stopped = true ∨ s.sherd.pfFlush = true ∨ 8 ≤ s.sherd.pagesNow ∨ s.sherd.pageDue s.otime
    = false ∨ (s.sherd.full false = true ∧ s.sherd.ringErased = false) ∨ (s.sherd.full true = true ∧ s.sherd.archiveErased
    = false))) ∧
    (∃ (s : State) (q n : Nat), (s.sherd.stopped = false) ∧ (s.sherd.ringErased = false) ∧ (s.warp.spare = true) ∧
    (s.sherd.eraseNow = false) ∧ (q = s.sherd.next false) ∧ (n = (aget (eraseKey false q) s.sherd.erase).getD 0 + 1) ∧ (n
    < 48000 ∨ s.sherd.wearWarned = true)) ∧
    (∃ (s : State) (q n : Nat), (s.sherd.stopped = false) ∧ (s.sherd.ringErased = false) ∧ (s.warp.spare = true) ∧
    (s.sherd.eraseNow = false) ∧ (q = s.sherd.next false) ∧ (n = (aget (eraseKey false q) s.sherd.erase).getD 0 + 1) ∧
    (48000 ≤ n) ∧ (s.sherd.wearWarned = false)) ∧
    (∃ (s : State) (q n : Nat), (s.sherd.stopped = false) ∧ (s.sherd.ringErased = false) ∧ (s.warp.spare = true) ∧
    (s.sherd.eraseNow = false) ∧ (q = s.sherd.next false) ∧ (n = (aget (eraseKey false q) s.sherd.erase).getD 0 + 1)) ∧
    (∃ (s : State) (q n : Nat), (s.sherd.stopped = false) ∧ (s.sherd.archiveErased = false) ∧ (s.warp.spare = true) ∧
    (s.sherd.eraseNow = false) ∧ (q = s.sherd.next true) ∧ (n = (aget (eraseKey true q) s.sherd.erase).getD 0 + 1) ∧ (n <
    48000 ∨ s.sherd.wearWarned = true)) ∧
    (∃ (s : State) (q n : Nat), (s.sherd.stopped = false) ∧ (s.sherd.archiveErased = false) ∧ (s.warp.spare = true) ∧
    (s.sherd.eraseNow = false) ∧ (q = s.sherd.next true) ∧ (n = (aget (eraseKey true q) s.sherd.erase).getD 0 + 1) ∧
    (48000 ≤ n) ∧ (s.sherd.wearWarned = false)) ∧
    (∃ (s : State) (q n : Nat), (s.sherd.stopped = false) ∧ (s.sherd.archiveErased = false) ∧ (s.warp.spare = true) ∧
    (s.sherd.eraseNow = false) ∧ (q = s.sherd.next true) ∧ (n = (aget (eraseKey true q) s.sherd.erase).getD 0 + 1)) ∧
    (∃ (s : State) (arch fail : Bool), (s.sherd.stopped = true ∨ s.sherd.erasedNext arch = true ∨ s.warp.spare = false ∨
    s.sherd.eraseNow = true)) :=
  ⟨⟨{ clk := { otimeUs := 1000000 }, sherd := { staging := [{ rtype := 1, high := true, rseq := 1, pcc := 0, otimeUs := 0, staged := 0, dtime := 0, srcblk := 0, srcinst := 0, payload := [] }] } }, by decide⟩,
    ⟨{ clk := { otimeUs := 1000000 }, sherd := { staging := [{ rtype := 1, high := true, rseq := 1, pcc := 0, otimeUs := 0, staged := 0, dtime := 0, srcblk := 0, srcinst := 0, payload := [] }] } }, by decide⟩,
    ⟨{ clk := { otimeUs := 1000000 }, sherd := { staging := [{ rtype := 1, high := true, rseq := 1, pcc := 0, otimeUs := 0, staged := 0, dtime := 0, srcblk := 0, srcinst := 0, payload := [] }] } }, 2, by decide⟩,
    ⟨{ sherd := { stopped := true } }, 0, by decide⟩,
    ⟨{ warp := { spare := true }, sherd := { ringErased := false, eraseNow := false } }, _, _, by decide, by decide, by decide, by decide, rfl, rfl, by decide +kernel⟩,
    ⟨{ warp := { spare := true }, sherd := { ringErased := false, eraseNow := false, erase := [(1, 48000)] } }, _, _, by decide, by decide, by decide, by decide, rfl, rfl, by decide +kernel, by decide⟩,
    ⟨{ warp := { spare := true }, sherd := { ringErased := false, eraseNow := false } }, _, _, by decide, by decide, by decide, by decide, rfl, rfl⟩,
    ⟨{ warp := { spare := true }, sherd := { archiveErased := false, eraseNow := false } }, _, _, by decide, by decide, by decide, by decide, rfl, rfl, by decide +kernel⟩,
    ⟨{ warp := { spare := true }, sherd := { archiveErased := false, eraseNow := false, erase := [(65537, 48000)] } }, _, _, by decide, by decide, by decide, by decide, rfl, rfl, by decide +kernel, by decide⟩,
    ⟨{ warp := { spare := true }, sherd := { archiveErased := false, eraseNow := false } }, _, _, by decide, by decide, by decide, by decide, rfl, rfl⟩,
    ⟨{ sherd := { stopped := true } }, false, false, by decide⟩⟩

theorem witness_MonitorLines :
    (∃ (s : State) (c : Byte), (s.monRuns = true)) ∧
    (∃ (s : State) (c : Byte), (s.monRuns = false)) ∧
    (∃ (s : State) (line : List Byte) (args : List (List Byte)), (s.mon.cur = some line) ∧ (lineWords line = kwHelp :: args)) ∧
    (∃ (s : State) (line : List Byte) (args : List (List Byte)), (s.mon.cur = some line) ∧ (lineWords line = kwId :: args)) ∧
    (∃ (s : State) (line : List Byte) (args : List (List Byte)), (s.mon.cur = some line) ∧ (lineWords line = kwSt :: args)) ∧
    (∃ (s : State) (line : List Byte) (args : List (List Byte)), (s.mon.cur = some line) ∧ (lineWords line = kwTime :: args)) ∧
    (∃ (s : State) (line : List Byte) (args : List (List Byte)) (n : Nat), (s.mon.cur = some line) ∧ (lineWords line = kwEv ::
    args) ∧ (monCount 32 8 args = some n)) ∧
    (∃ (s : State) (line : List Byte) (args : List (List Byte)), (s.mon.cur = some line) ∧ (lineWords line = kwEv :: args) ∧
    (monCount 32 8 args = none)) ∧
    (∃ (s : State) (line : List Byte) (args : List (List Byte)), (s.mon.cur = some line) ∧ (lineWords line = kwRec :: args)) ∧
    (∃ (s : State) (line w : List Byte) (rest : List (List Byte)) (a n : Nat), (s.mon.cur = some line) ∧ (lineWords line = kwRd
    :: w :: rest) ∧ (readNumber w = some a) ∧ (monCount 64 1 rest = some n)) ∧
    (∃ (s : State) (line w : List Byte) (rest : List (List Byte)), (s.mon.cur = some line) ∧ (lineWords line = kwRd :: w ::
    rest) ∧ (readNumber w = none ∨ monCount 64 1 rest = none)) ∧
    (∃ (s : State) (line : List Byte), (s.mon.cur = some line) ∧ (lineWords line = [kwRd])) ∧
    (∃ (s : State) (m : Bool) (line w x : List Byte) (a v : Nat) (r : State), (s.mon.cur = some line) ∧ (lineWords line =
    [kwWr, w, x]) ∧ (readNumber w = some a) ∧ (readNumber x = some v) ∧ (r = (if writable a 4 = false then s.monAnswer
    line 0x1005 [] else if s.sys.svcEn = false then s.monAnswer line 0x3004 [] else if s.sys.st ≠ .service then
    s.monAnswer line 0x2001 [] else if m = false then s.monAnswer line 0x5002 [] else (s.monWrites a v).monAnswer line 0
    []))) ∧
    (∃ (s : State) (m : Bool) (line : List Byte) (args : List (List Byte)), (s.mon.cur = some line) ∧ (lineWords line = kwWr ::
    args) ∧ ((∀ w x, args = [w, x] → readNumber w = none ∨ readNumber x = none))) ∧
    (∃ (s : State) (line : List Byte) (args : List (List Byte)), (s.mon.cur = some line) ∧ (lineWords line = kwLog :: args)) ∧
    (∃ (s : State) (line : List Byte), (s.mon.cur = some line)) ∧
    (∃ (s : State), (s.mon.cur = none)) ∧
    (∃ (s : State), ((∀ line, s.mon.cur = some line → (lineWords line).head? ≠ some kwHelp))) ∧
    (∃ (s : State), ((∀ line, s.mon.cur = some line → (lineWords line).head? ≠ some kwId))) ∧
    (∃ (s : State), ((∀ line, s.mon.cur = some line → (lineWords line).head? ≠ some kwSt))) ∧
    (∃ (s : State), ((∀ line, s.mon.cur = some line → (lineWords line).head? ≠ some kwTime))) ∧
    (∃ (s : State), ((∀ line, s.mon.cur = some line → (lineWords line).head? ≠ some kwEv))) ∧
    (∃ (s : State), ((∀ line, s.mon.cur = some line → (lineWords line).head? ≠ some kwRec))) ∧
    (∃ (s : State), ((∀ line, s.mon.cur = some line → (lineWords line).head? ≠ some kwRd))) ∧
    (∃ (s : State), ((∀ line, s.mon.cur = some line → (lineWords line).head? ≠ some kwLog))) ∧
    (∃ (s : State) (m : Bool), ((∀ line, s.mon.cur = some line → (lineWords line).head? ≠ some kwWr))) :=
  ⟨⟨{ sys := { st := .standby } }, 65, by decide⟩,
    ⟨{}, 65, by decide⟩,
    ⟨{ mon := { cur := some [72, 69, 76, 80] } }, [72, 69, 76, 80], [], by decide⟩,
    ⟨{ mon := { cur := some [73, 68] } }, [73, 68], [], by decide⟩,
    ⟨{ mon := { cur := some [83, 84] } }, [83, 84], [], by decide⟩,
    ⟨{ mon := { cur := some [84, 73, 77, 69] } }, [84, 73, 77, 69], [], by decide⟩,
    ⟨{ sys := { svcEn := true }, mon := { cur := some [69, 86] } }, [69, 86], [], 8, by decide⟩,
    ⟨{ mon := { cur := some [69, 86, 32, 48] } }, [69, 86, 32, 48], [[48]], by decide⟩,
    ⟨{ mon := { cur := some [82, 69, 67] } }, [82, 69, 67], [], by decide⟩,
    ⟨{ sys := { svcEn := true }, mon := { cur := some [82, 68, 32, 49, 48, 48, 48, 48, 48, 48, 48] } }, [82, 68, 32, 49, 48, 48, 48, 48, 48, 48, 48], [49, 48, 48, 48, 48, 48, 48, 48], [], 0x10000000, 1, by decide⟩,
    ⟨{ mon := { cur := some [82, 68, 32, 120] } }, [82, 68, 32, 120], [120], [], by decide⟩,
    ⟨{ mon := { cur := some [82, 68] } }, [82, 68], by decide⟩,
    ⟨{ sys := { svcEn := true, st := .service }, mon := { cur := some [87, 82, 32, 49, 48, 48, 48, 48, 48, 48, 48, 32, 49] } }, true, [87, 82, 32, 49, 48, 48, 48, 48, 48, 48, 48, 32, 49], [49, 48, 48, 48, 48, 48, 48, 48], [49], 0x10000000, 1, _, by decide, by decide, by decide, by decide, rfl⟩,
    ⟨{ mon := { cur := some [87, 82] } }, true, [87, 82], [], by decide, by decide, (by intro w x h; cases h)⟩,
    ⟨{ sys := { svcEn := true }, mon := { cur := some [76, 79, 71, 32, 111, 110] } }, [76, 79, 71, 32, 111, 110], [[111, 110]], by decide⟩,
    ⟨{ mon := { cur := some [65] } }, [65], by decide⟩,
    ⟨{}, by decide⟩,
    ⟨{}, (by intro l h; cases h)⟩,
    ⟨{}, (by intro l h; cases h)⟩,
    ⟨{}, (by intro l h; cases h)⟩,
    ⟨{}, (by intro l h; cases h)⟩,
    ⟨{}, (by intro l h; cases h)⟩,
    ⟨{}, (by intro l h; cases h)⟩,
    ⟨{}, (by intro l h; cases h)⟩,
    ⟨{}, (by intro l h; cases h)⟩,
    ⟨{}, true, (by intro l h; cases h)⟩⟩

theorem witness_TwillStack :
    (∃ (s : State) (t : Nat) (k : Task) (i : TwIns) (rest : List U64), (s.runs 0x00 t k i) ∧ (k.stack = rest) ∧ (rest.length ≤
    64)) ∧
    (∃ (s : State) (t : Nat) (k : Task) (i : TwIns) (v : U64), (s.runs 0x01 t k i) ∧ (k.stack.length ≤ 63) ∧ (twOperand s t i
    { k with pc := i.next } = some v)) ∧
    (∃ (s : State) (t : Nat) (k : Task) (i : TwIns), (s.runs 0x01 t k i) ∧ (k.stack.length ≤ 63) ∧ (i.mode = 1) ∧ (tyInt i.ty =
    true)) ∧
    (∃ (s : State) (t : Nat) (k : Task) (i : TwIns) (x : U64) (rest : List U64), (s.runs 0x03 t k i) ∧ (k.stack = x :: rest) ∧
    (rest.length ≤ 62)) ∧
    (∃ (s : State) (t : Nat) (k : Task) (i : TwIns) (x : U64) (rest : List U64), (s.runs 0x04 t k i) ∧ (k.stack = x :: rest) ∧
    (rest.length ≤ 64)) ∧
    (∃ (s : State) (t : Nat) (k : Task) (i : TwIns) (x y : U64) (rest : List U64), (s.runs 0x05 t k i) ∧ (k.stack = y :: x ::
    rest) ∧ (rest.length ≤ 62)) ∧
    (∃ (s : State) (t : Nat) (k : Task) (i : TwIns) (x : U64) (rest : List U64) (a b : Nat), (s.runs 0x06 t k i) ∧ (k.stack = x
    :: rest) ∧ (rest.length ≤ 63) ∧ (0 ≤ twInt 3 x) ∧ (twInt 3 x < i.ext2) ∧ (twAddr k i.mode (i.ext1 + (twInt 3 x).toNat
    * tyBits i.ty) = some (a, b)) ∧ (twAligned a b (tyBits i.ty) = true)) ∧
    (∃ (s : State) (t : Nat) (k : Task) (i : TwIns) (x : U64) (rest : List U64) (a b : Nat), (s.runs 0x02 t k i) ∧ (k.stack = x
    :: rest) ∧ (twAddr k i.mode i.ext1 = some (a, b)) ∧ (twAligned a b (tyBits i.ty) = true) ∧ ((k.forces.any (fun f =>
    (forceAt s.shuttle.prog f).any (fun p => overlaps a b (tyBits i.ty) p.1 p.2.1 p.2.2))) = false) ∧ (a ≠ 6 ∨ tyFloat
    i.ty = false ∨ ffinite (twF i.ty x) = true)) ∧
    (∃ (s : State) (t : Nat) (k : Task) (i : TwIns) (x : U64) (rest : List U64) (a b : Nat), (s.runs 0x02 t k i) ∧ (k.stack = x
    :: rest) ∧ (twAddr k i.mode i.ext1 = some (a, b)) ∧ (twAligned a b (tyBits i.ty) = true) ∧ ((k.forces.any (fun f =>
    (forceAt s.shuttle.prog f).any (fun p => overlaps a b (tyBits i.ty) p.1 p.2.1 p.2.2))) = true)) ∧
    (∃ (s : State) (t : Nat) (k : Task) (i : TwIns) (x : U64) (rest : List U64) (a b : Nat), (s.runs 0x02 t k i) ∧ (k.stack = x
    :: rest) ∧ (twAddr k i.mode i.ext1 = some (a, b)) ∧ (twAligned a b (tyBits i.ty) = true) ∧ ((k.forces.any (fun f =>
    (forceAt s.shuttle.prog f).any (fun p => overlaps a b (tyBits i.ty) p.1 p.2.1 p.2.2))) = false) ∧ (a = 6) ∧ (tyFloat
    i.ty = true) ∧ (ffinite (twF i.ty x) = false)) ∧
    (∃ (s : State) (t : Nat) (k : Task) (i : TwIns) (x y : U64) (rest : List U64) (a b : Nat), (s.runs 0x07 t k i) ∧ (k.stack =
    y :: x :: rest) ∧ (0 ≤ twInt 3 y) ∧ (twInt 3 y < i.ext2) ∧ (twAddr k i.mode (i.ext1 + (twInt 3 y).toNat * tyBits i.ty)
    = some (a, b)) ∧ (twAligned a b (tyBits i.ty) = true) ∧ ((k.forces.any (fun f => (forceAt s.shuttle.prog f).any (fun p
    => overlaps a b (tyBits i.ty) p.1 p.2.1 p.2.2))) = false) ∧ (a ≠ 6 ∨ tyFloat i.ty = false ∨ ffinite (twF i.ty x) =
    true)) ∧
    (∃ (s : State) (t : Nat) (k : Task) (i : TwIns) (x y : U64) (rest : List U64) (a b : Nat), (s.runs 0x07 t k i) ∧ (k.stack =
    y :: x :: rest) ∧ (0 ≤ twInt 3 y) ∧ (twInt 3 y < i.ext2) ∧ (twAddr k i.mode (i.ext1 + (twInt 3 y).toNat * tyBits i.ty)
    = some (a, b)) ∧ (twAligned a b (tyBits i.ty) = true) ∧ ((k.forces.any (fun f => (forceAt s.shuttle.prog f).any (fun p
    => overlaps a b (tyBits i.ty) p.1 p.2.1 p.2.2))) = true)) ∧
    (∃ (s : State) (t : Nat) (k : Task) (i : TwIns) (x y : U64) (rest : List U64) (a b : Nat), (s.runs 0x07 t k i) ∧ (k.stack =
    y :: x :: rest) ∧ (0 ≤ twInt 3 y) ∧ (twInt 3 y < i.ext2) ∧ (twAddr k i.mode (i.ext1 + (twInt 3 y).toNat * tyBits i.ty)
    = some (a, b)) ∧ (twAligned a b (tyBits i.ty) = true) ∧ ((k.forces.any (fun f => (forceAt s.shuttle.prog f).any (fun p
    => overlaps a b (tyBits i.ty) p.1 p.2.1 p.2.2))) = false) ∧ (a = 6) ∧ (tyFloat i.ty = true) ∧ (ffinite (twF i.ty x) =
    false)) :=
  ⟨⟨twState [0x00300000#32] { stack := [] }, 0, twTask { stack := [] }, { op := 0x00, ty := 3, mode := 0, imm := 0, next := 1 }, [], by decide⟩,
    ⟨twState [0x01310005#32] {}, 0, twTask {}, { op := 1, ty := 3, mode := 1, imm := 5, next := 1 }, 5, by decide⟩,
    ⟨twState [0x01310005#32] {}, 0, twTask {}, { op := 1, ty := 3, mode := 1, imm := 5, next := 1 }, by decide⟩,
    ⟨twState [0x03300000#32] { stack := [1] }, 0, twTask { stack := [1] }, { op := 0x03, ty := 3, mode := 0, imm := 0, next := 1 }, 1, [], by decide⟩,
    ⟨twState [0x04300000#32] { stack := [1] }, 0, twTask { stack := [1] }, { op := 0x04, ty := 3, mode := 0, imm := 0, next := 1 }, 1, [], by decide⟩,
    ⟨twState [0x05300000#32] { stack := [2, 1] }, 0, twTask { stack := [2, 1] }, { op := 0x05, ty := 3, mode := 0, imm := 0, next := 1 }, 1, 2, [], by decide⟩,
    ⟨twState [0x06330000#32, 0, 4] { stack := [1] }, 0, twTask { stack := [1] }, { op := 6, ty := 3, mode := 3, imm := 0, ext1 := 0, ext2 := 4, next := 3 }, 1, [], 3, 32, by decide⟩,
    ⟨{ shuttle := { run := true, prog := { code := [0x02330000#32, 0], tasks := [{ entry := 0 }], syms := [{ id := 1, area := 3, bit := 0, ty := 3 }] }, tasks := [twTask { stack := [1] }] } }, 0, twTask { stack := [1] }, { op := 2, ty := 3, mode := 3, imm := 0, next := 2 }, 1, [], 3, 0, by decide⟩,
    ⟨{ shuttle := { run := true, prog := { code := [0x02330000#32, 0], tasks := [{ entry := 0 }], syms := [{ id := 1, area := 3, bit := 0, ty := 3 }] }, tasks := [twTask { stack := [1], forces := [{ sym := 1, elem := 0, ty := 3, value := 0 }] }] } }, 0, twTask { stack := [1], forces := [{ sym := 1, elem := 0, ty := 3, value := 0 }] }, { op := 2, ty := 3, mode := 3, imm := 0, next := 2 }, 1, [], 3, 0, by decide⟩,
    ⟨{ shuttle := { run := true, prog := { code := [0x02E60000#32, 0], tasks := [{ entry := 0 }], syms := [{ id := 1, area := 3, bit := 0, ty := 3 }] }, tasks := [twTask { stack := [0x7FF0000000000000] }] } }, 0, twTask { stack := [0x7FF0000000000000] }, { op := 2, ty := 14, mode := 6, imm := 0, next := 2 }, 0x7FF0000000000000, [], 6, 0, by decide⟩,
    ⟨{ shuttle := { run := true, prog := { code := [0x07330000#32, 0, 4], tasks := [{ entry := 0 }], syms := [{ id := 1, area := 3, bit := 32, ty := 3 }] }, tasks := [twTask { stack := [1, 7] }] } }, 0, twTask { stack := [1, 7] }, { op := 7, ty := 3, mode := 3, imm := 0, ext1 := 0, ext2 := 4, next := 3 }, 7, 1, [], 3, 32, by decide⟩,
    ⟨{ shuttle := { run := true, prog := { code := [0x07330000#32, 0, 4], tasks := [{ entry := 0 }], syms := [{ id := 1, area := 3, bit := 32, ty := 3 }] }, tasks := [twTask { stack := [1, 7], forces := [{ sym := 1, elem := 0, ty := 3, value := 0 }] }] } }, 0, twTask { stack := [1, 7], forces := [{ sym := 1, elem := 0, ty := 3, value := 0 }] }, { op := 7, ty := 3, mode := 3, imm := 0, ext1 := 0, ext2 := 4, next := 3 }, 7, 1, [], 3, 32, by decide⟩,
    ⟨{ shuttle := { run := true, prog := { code := [0x07E60000#32, 0, 4], tasks := [{ entry := 0 }], syms := [{ id := 1, area := 3, bit := 32, ty := 3 }] }, tasks := [twTask { stack := [1, 0x7FF0000000000000] }] } }, 0, twTask { stack := [1, 0x7FF0000000000000] }, { op := 7, ty := 14, mode := 6, imm := 0, ext1 := 0, ext2 := 4, next := 3 }, 0x7FF0000000000000, 1, [], 6, 64, by decide⟩⟩

theorem witness_TwillArithmetic :
    (∃ (s : State) (t : Nat) (k : Task) (i : TwIns) (x y : U64) (rest : List U64), (s.runs 0x10 t k i) ∧ (k.stack = y :: x ::
    rest) ∧ (rest.length ≤ 63)) ∧
    (∃ (s : State) (t : Nat) (k : Task) (i : TwIns) (x y : U64) (rest : List U64), (s.runs 0x11 t k i) ∧ (k.stack = y :: x ::
    rest) ∧ (rest.length ≤ 63)) ∧
    (∃ (s : State) (t : Nat) (k : Task) (i : TwIns) (x y : U64) (rest : List U64), (s.runs 0x12 t k i) ∧ (k.stack = y :: x ::
    rest) ∧ (rest.length ≤ 63)) ∧
    (∃ (s : State) (t : Nat) (k : Task) (i : TwIns) (x y : U64) (rest : List U64), (s.runs 0x13 t k i) ∧ (k.stack = y :: x ::
    rest) ∧ (rest.length ≤ 63) ∧ (tyFloat i.ty = false) ∧ (twInt i.ty y ≠ 0)) ∧
    (∃ (s : State) (t : Nat) (k : Task) (i : TwIns) (x y : U64) (rest : List U64), (s.runs 0x13 t k i) ∧ (k.stack = y :: x ::
    rest) ∧ (rest.length ≤ 63) ∧ (tyFloat i.ty = true)) ∧
    (∃ (s : State) (t : Nat) (k : Task) (i : TwIns) (x y : U64) (rest : List U64), (s.runs 0x14 t k i) ∧ (k.stack = y :: x ::
    rest) ∧ (rest.length ≤ 63) ∧ (twInt i.ty y ≠ 0)) ∧
    (∃ (s : State) (t : Nat) (k : Task) (i : TwIns) (x y : U64) (rest : List U64), (s.runs 0x13 t k i) ∧ (k.stack = y :: x ::
    rest) ∧ (rest.length ≤ 63) ∧ (tyFloat i.ty = false) ∧ (twInt i.ty y = 0)) ∧
    (∃ (s : State) (t : Nat) (k : Task) (i : TwIns) (x y : U64) (rest : List U64), (s.runs 0x14 t k i) ∧ (k.stack = y :: x ::
    rest) ∧ (rest.length ≤ 63) ∧ (tyFloat i.ty = false) ∧ (twInt i.ty y = 0)) ∧
    (∃ (s : State) (t : Nat) (k : Task) (i : TwIns) (x : U64) (rest : List U64), (s.runs 0x15 t k i) ∧ (k.stack = x :: rest) ∧
    (rest.length ≤ 63)) ∧
    (∃ (s : State) (t : Nat) (k : Task) (i : TwIns) (x : U64) (rest : List U64), (s.runs 0x16 t k i) ∧ (k.stack = x :: rest) ∧
    (rest.length ≤ 63)) ∧
    (∃ (s : State) (t : Nat) (k : Task) (i : TwIns) (x y : U64) (rest : List U64), (s.runs 0x17 t k i) ∧ (k.stack = y :: x ::
    rest) ∧ (rest.length ≤ 63)) ∧
    (∃ (s : State) (t : Nat) (k : Task) (i : TwIns) (x y : U64) (rest : List U64), (s.runs 0x18 t k i) ∧ (k.stack = y :: x ::
    rest) ∧ (rest.length ≤ 63)) ∧
    (∃ (s : State) (t : Nat) (k : Task) (i : TwIns) (x y z : U64) (rest : List U64), (s.runs 0x19 t k i) ∧ (k.stack = z :: y ::
    x :: rest) ∧ (rest.length ≤ 63)) ∧
    (∃ (s : State) (t : Nat) (k : Task) (i : TwIns) (x : U64) (rest : List U64), (s.runs 0x1A t k i) ∧ (k.stack = x :: rest) ∧
    (rest.length ≤ 63)) ∧
    (∃ (s : State) (t : Nat) (k : Task) (i : TwIns) (x : U64) (rest : List U64), (s.runs 0x1B t k i) ∧ (k.stack = x :: rest) ∧
    (rest.length ≤ 63)) ∧
    (∃ (s : State) (t : Nat) (k : Task) (i : TwIns) (x : U64) (rest : List U64), (s.runs 0x1C t k i) ∧ (k.stack = x :: rest) ∧
    (rest.length ≤ 63)) ∧
    (∃ (s : State) (t : Nat) (k : Task) (i : TwIns) (x : U64) (rest : List U64), (s.runs 0x1E t k i) ∧ (k.stack = x :: rest) ∧
    (rest.length ≤ 63)) ∧
    (∃ (s : State) (t : Nat) (k : Task) (i : TwIns) (x : U64) (rest : List U64), (s.runs 0x1F t k i) ∧ (k.stack = x :: rest) ∧
    (rest.length ≤ 63)) ∧
    (∃ (s : State) (t : Nat) (k : Task) (i : TwIns) (x y : U64) (rest : List U64), (s.runs 0x1D t k i) ∧ (k.stack = y :: x ::
    rest) ∧ (rest.length ≤ 63)) :=
  ⟨⟨twState [0x10300000#32] { stack := [2, 1] }, 0, twTask { stack := [2, 1] }, { op := 0x10, ty := 3, mode := 0, imm := 0, next := 1 }, 1, 2, [], by decide⟩,
    ⟨twState [0x11300000#32] { stack := [2, 1] }, 0, twTask { stack := [2, 1] }, { op := 0x11, ty := 3, mode := 0, imm := 0, next := 1 }, 1, 2, [], by decide⟩,
    ⟨twState [0x12300000#32] { stack := [2, 1] }, 0, twTask { stack := [2, 1] }, { op := 0x12, ty := 3, mode := 0, imm := 0, next := 1 }, 1, 2, [], by decide⟩,
    ⟨twState [0x13300000#32] { stack := [2, 1] }, 0, twTask { stack := [2, 1] }, { op := 0x13, ty := 3, mode := 0, imm := 0, next := 1 }, 1, 2, [], by decide⟩,
    ⟨twState [0x13E00000#32] { stack := [2, 1] }, 0, twTask { stack := [2, 1] }, { op := 0x13, ty := 14, mode := 0, imm := 0, next := 1 }, 1, 2, [], by decide⟩,
    ⟨twState [0x14300000#32] { stack := [2, 1] }, 0, twTask { stack := [2, 1] }, { op := 0x14, ty := 3, mode := 0, imm := 0, next := 1 }, 1, 2, [], by decide⟩,
    ⟨twState [0x13300000#32] { stack := [0, 1] }, 0, twTask { stack := [0, 1] }, { op := 0x13, ty := 3, mode := 0, imm := 0, next := 1 }, 1, 0, [], by decide⟩,
    ⟨twState [0x14300000#32] { stack := [0, 1] }, 0, twTask { stack := [0, 1] }, { op := 0x14, ty := 3, mode := 0, imm := 0, next := 1 }, 1, 0, [], by decide⟩,
    ⟨twState [0x15300000#32] { stack := [1] }, 0, twTask { stack := [1] }, { op := 0x15, ty := 3, mode := 0, imm := 0, next := 1 }, 1, [], by decide⟩,
    ⟨twState [0x16300000#32] { stack := [1] }, 0, twTask { stack := [1] }, { op := 0x16, ty := 3, mode := 0, imm := 0, next := 1 }, 1, [], by decide⟩,
    ⟨twState [0x17300000#32] { stack := [2, 1] }, 0, twTask { stack := [2, 1] }, { op := 0x17, ty := 3, mode := 0, imm := 0, next := 1 }, 1, 2, [], by decide⟩,
    ⟨twState [0x18300000#32] { stack := [2, 1] }, 0, twTask { stack := [2, 1] }, { op := 0x18, ty := 3, mode := 0, imm := 0, next := 1 }, 1, 2, [], by decide⟩,
    ⟨twState [0x19300000#32] { stack := [3, 2, 1] }, 0, twTask { stack := [3, 2, 1] }, { op := 0x19, ty := 3, mode := 0, imm := 0, next := 1 }, 1, 2, 3, [], by decide⟩,
    ⟨twState [0x1AE00000#32] { stack := [1] }, 0, twTask { stack := [1] }, { op := 0x1A, ty := 14, mode := 0, imm := 0, next := 1 }, 1, [], by decide⟩,
    ⟨twState [0x1BE00000#32] { stack := [1] }, 0, twTask { stack := [1] }, { op := 0x1B, ty := 14, mode := 0, imm := 0, next := 1 }, 1, [], by decide⟩,
    ⟨twState [0x1CE00000#32] { stack := [1] }, 0, twTask { stack := [1] }, { op := 0x1C, ty := 14, mode := 0, imm := 0, next := 1 }, 1, [], by decide⟩,
    ⟨twState [0x1EE00000#32] { stack := [1] }, 0, twTask { stack := [1] }, { op := 0x1E, ty := 14, mode := 0, imm := 0, next := 1 }, 1, [], by decide⟩,
    ⟨twState [0x1FE00000#32] { stack := [1] }, 0, twTask { stack := [1] }, { op := 0x1F, ty := 14, mode := 0, imm := 0, next := 1 }, 1, [], by decide⟩,
    ⟨twState [0x1DE00000#32] { stack := [2, 1] }, 0, twTask { stack := [2, 1] }, { op := 0x1D, ty := 14, mode := 0, imm := 0, next := 1 }, 1, 2, [], by decide⟩⟩

theorem witness_TwillLogic :
    (∃ (s : State) (t : Nat) (k : Task) (i : TwIns) (x y : U64) (rest : List U64), (s.runs 0x20 t k i) ∧ (k.stack = y :: x ::
    rest) ∧ (rest.length ≤ 63)) ∧
    (∃ (s : State) (t : Nat) (k : Task) (i : TwIns) (x y : U64) (rest : List U64), (s.runs 0x21 t k i) ∧ (k.stack = y :: x ::
    rest) ∧ (rest.length ≤ 63)) ∧
    (∃ (s : State) (t : Nat) (k : Task) (i : TwIns) (x y : U64) (rest : List U64), (s.runs 0x22 t k i) ∧ (k.stack = y :: x ::
    rest) ∧ (rest.length ≤ 63)) ∧
    (∃ (s : State) (t : Nat) (k : Task) (i : TwIns) (x : U64) (rest : List U64), (s.runs 0x23 t k i) ∧ (k.stack = x :: rest) ∧
    (rest.length ≤ 63)) ∧
    (∃ (s : State) (t : Nat) (k : Task) (i : TwIns) (x y : U64) (rest : List U64), (s.runs 0x24 t k i) ∧ (k.stack = y :: x ::
    rest) ∧ (rest.length ≤ 63)) ∧
    (∃ (s : State) (t : Nat) (k : Task) (i : TwIns) (x y : U64) (rest : List U64), (s.runs 0x25 t k i) ∧ (k.stack = y :: x ::
    rest) ∧ (rest.length ≤ 63)) ∧
    (∃ (s : State) (t : Nat) (k : Task) (i : TwIns) (x y : U64) (rest : List U64), (s.runs 0x26 t k i) ∧ (k.stack = y :: x ::
    rest) ∧ (rest.length ≤ 63)) ∧
    (∃ (s : State) (t : Nat) (k : Task) (i : TwIns) (x y : U64) (rest : List U64), (s.runs 0x27 t k i) ∧ (k.stack = y :: x ::
    rest) ∧ (rest.length ≤ 63)) :=
  ⟨⟨twState [0x20B00000#32] { stack := [2, 1] }, 0, twTask { stack := [2, 1] }, { op := 0x20, ty := 11, mode := 0, imm := 0, next := 1 }, 1, 2, [], by decide⟩,
    ⟨twState [0x21B00000#32] { stack := [2, 1] }, 0, twTask { stack := [2, 1] }, { op := 0x21, ty := 11, mode := 0, imm := 0, next := 1 }, 1, 2, [], by decide⟩,
    ⟨twState [0x22B00000#32] { stack := [2, 1] }, 0, twTask { stack := [2, 1] }, { op := 0x22, ty := 11, mode := 0, imm := 0, next := 1 }, 1, 2, [], by decide⟩,
    ⟨twState [0x23B00000#32] { stack := [1] }, 0, twTask { stack := [1] }, { op := 0x23, ty := 11, mode := 0, imm := 0, next := 1 }, 1, [], by decide⟩,
    ⟨twState [0x24B00000#32] { stack := [2, 1] }, 0, twTask { stack := [2, 1] }, { op := 0x24, ty := 11, mode := 0, imm := 0, next := 1 }, 1, 2, [], by decide⟩,
    ⟨twState [0x25B00000#32] { stack := [2, 1] }, 0, twTask { stack := [2, 1] }, { op := 0x25, ty := 11, mode := 0, imm := 0, next := 1 }, 1, 2, [], by decide⟩,
    ⟨twState [0x26B00000#32] { stack := [2, 1] }, 0, twTask { stack := [2, 1] }, { op := 0x26, ty := 11, mode := 0, imm := 0, next := 1 }, 1, 2, [], by decide⟩,
    ⟨twState [0x27B00000#32] { stack := [2, 1] }, 0, twTask { stack := [2, 1] }, { op := 0x27, ty := 11, mode := 0, imm := 0, next := 1 }, 1, 2, [], by decide⟩⟩

theorem witness_TwillCompare :
    (∃ (s : State) (t : Nat) (k : Task) (i : TwIns) (x y : U64) (rest : List U64), (s.runs 0x30 t k i) ∧ (k.stack = y :: x ::
    rest) ∧ (rest.length ≤ 63)) ∧
    (∃ (s : State) (t : Nat) (k : Task) (i : TwIns) (x y : U64) (rest : List U64), (s.runs 0x31 t k i) ∧ (k.stack = y :: x ::
    rest) ∧ (rest.length ≤ 63)) ∧
    (∃ (s : State) (t : Nat) (k : Task) (i : TwIns) (x y : U64) (rest : List U64), (s.runs 0x32 t k i) ∧ (k.stack = y :: x ::
    rest) ∧ (rest.length ≤ 63)) ∧
    (∃ (s : State) (t : Nat) (k : Task) (i : TwIns) (x y : U64) (rest : List U64), (s.runs 0x33 t k i) ∧ (k.stack = y :: x ::
    rest) ∧ (rest.length ≤ 63)) ∧
    (∃ (s : State) (t : Nat) (k : Task) (i : TwIns) (x y : U64) (rest : List U64), (s.runs 0x34 t k i) ∧ (k.stack = y :: x ::
    rest) ∧ (rest.length ≤ 63)) ∧
    (∃ (s : State) (t : Nat) (k : Task) (i : TwIns) (x y : U64) (rest : List U64), (s.runs 0x35 t k i) ∧ (k.stack = y :: x ::
    rest) ∧ (rest.length ≤ 63)) ∧
    (∃ (s : State) (t : Nat) (k : Task) (i : TwIns) (x y z : U64) (rest : List U64), (s.runs 0x36 t k i) ∧ (k.stack = z :: y ::
    x :: rest) ∧ (rest.length ≤ 63)) ∧
    (∃ (s : State) (t : Nat) (k : Task) (i : TwIns) (x : U64) (rest : List U64), (s.runs 0x38 t k i) ∧ (k.stack = x :: rest) ∧
    (rest.length ≤ 63) ∧ ((twCvt (i.imm % 16) i.ty x).2 = false)) ∧
    (∃ (s : State) (t : Nat) (k : Task) (i : TwIns) (x : U64) (rest : List U64), (s.runs 0x38 t k i) ∧ (k.stack = x :: rest) ∧
    (rest.length ≤ 63) ∧ ((twCvt (i.imm % 16) i.ty x).2 = true)) :=
  ⟨⟨twState [0x30300000#32] { stack := [2, 1] }, 0, twTask { stack := [2, 1] }, { op := 0x30, ty := 3, mode := 0, imm := 0, next := 1 }, 1, 2, [], by decide⟩,
    ⟨twState [0x31300000#32] { stack := [2, 1] }, 0, twTask { stack := [2, 1] }, { op := 0x31, ty := 3, mode := 0, imm := 0, next := 1 }, 1, 2, [], by decide⟩,
    ⟨twState [0x32300000#32] { stack := [2, 1] }, 0, twTask { stack := [2, 1] }, { op := 0x32, ty := 3, mode := 0, imm := 0, next := 1 }, 1, 2, [], by decide⟩,
    ⟨twState [0x33300000#32] { stack := [2, 1] }, 0, twTask { stack := [2, 1] }, { op := 0x33, ty := 3, mode := 0, imm := 0, next := 1 }, 1, 2, [], by decide⟩,
    ⟨twState [0x34300000#32] { stack := [2, 1] }, 0, twTask { stack := [2, 1] }, { op := 0x34, ty := 3, mode := 0, imm := 0, next := 1 }, 1, 2, [], by decide⟩,
    ⟨twState [0x35300000#32] { stack := [2, 1] }, 0, twTask { stack := [2, 1] }, { op := 0x35, ty := 3, mode := 0, imm := 0, next := 1 }, 1, 2, [], by decide⟩,
    ⟨twState [0x36300000#32] { stack := [3, 2, 1] }, 0, twTask { stack := [3, 2, 1] }, { op := 0x36, ty := 3, mode := 0, imm := 0, next := 1 }, 1, 2, 3, [], by decide⟩,
    ⟨twState [0x38300000#32] { stack := [1] }, 0, twTask { stack := [1] }, { op := 0x38, ty := 3, mode := 0, imm := 0, next := 1 }, 1, [], by decide⟩,
    ⟨twState [0x38100003#32] { stack := [300] }, 0, twTask { stack := [300] }, { op := 0x38, ty := 1, mode := 0, imm := 3, next := 1 }, 300, [], by decide⟩⟩

theorem witness_TwillFlow :
    (∃ (s : State) (t : Nat) (k : Task) (i : TwIns), (s.runs 0x40 t k i)) ∧
    (∃ (s : State) (t : Nat) (k : Task) (i : TwIns) (x : U64) (rest : List U64), (s.runs 0x41 t k i) ∧ (k.stack = x :: rest) ∧
    (x.getLsbD 0 = true)) ∧
    (∃ (s : State) (t : Nat) (k : Task) (i : TwIns) (x : U64) (rest : List U64), (s.runs 0x41 t k i) ∧ (k.stack = x :: rest) ∧
    (x.getLsbD 0 = false)) ∧
    (∃ (s : State) (t : Nat) (k : Task) (i : TwIns) (x : U64) (rest : List U64), (s.runs 0x42 t k i) ∧ (k.stack = x :: rest) ∧
    (x.getLsbD 0 = false)) ∧
    (∃ (s : State) (t : Nat) (k : Task) (i : TwIns) (x : U64) (rest : List U64), (s.runs 0x42 t k i) ∧ (k.stack = x :: rest) ∧
    (x.getLsbD 0 = true)) ∧
    (∃ (s : State) (t : Nat) (k : Task) (i : TwIns) (p : Nat × Nat), (s.runs 0x43 t k i) ∧ (k.calls.length < 16) ∧ (twAddr k
    (i.imm % 16) i.ext2 = some p)) ∧
    (∃ (s : State) (t : Nat) (k : Task) (i : TwIns) (pc : Nat) (p : Option (Nat × Nat)) (rest : List (Nat × Option (Nat ×
    Nat))), (s.runs 0x44 t k i) ∧ (k.calls = (pc, p) :: rest)) ∧
    (∃ (s : State) (u : Ns) (t : Nat) (k : Task) (i : TwIns), (s.runs 0x45 t k i) ∧ (k.calls = []) ∧
    ((s.shuttle.prog.tasks.getD t { entry := 0 }).beat = false)) ∧
    (∃ (s : State) (u : Ns) (t : Nat) (k : Task) (i : TwIns) (r : State), (s.runs 0x45 t k i) ∧ (k.calls = []) ∧
    ((s.shuttle.prog.tasks.getD t { entry := 0 }).beat = true) ∧ (r = (s.at u).twCommit t { k with pc := i.next })) ∧
    (∃ (s : State) (t : Nat) (k : Task) (i : TwIns) (x : U64) (rest : List U64), (s.runs 0x60 t k i) ∧ (k.stack = x :: rest) ∧
    (x.getLsbD 0 = false)) ∧
    (∃ (s : State) (t : Nat) (k : Task) (i : TwIns) (x : U64) (rest : List U64), (s.runs 0x60 t k i) ∧ (k.stack = x :: rest) ∧
    (x.getLsbD 0 = true) ∧ ((∀ u, aget (0x1208000000 + i.imm % 4096) s.limits = some u → u + 100000 ≤ s.otime))) ∧
    (∃ (s : State) (t : Nat) (k : Task) (i : TwIns) (x : U64) (rest : List U64) (u : Nat), (s.runs 0x60 t k i) ∧ (k.stack = x
    :: rest) ∧ (x.getLsbD 0 = true) ∧ (aget (0x1208000000 + i.imm % 4096) s.limits = some u) ∧ (s.otime < u + 100000)) ∧
    (∃ (s : State) (t : Nat) (k : Task) (i : TwIns), (s.runs 0x43 t k i) ∧ (16 ≤ k.calls.length)) ∧
    (∃ (s : State) (t : Nat) (k : Task) (i : TwIns), (s.runs 0x44 t k i) ∧ (k.calls = [])) ∧
    (∃ (s : State) (u : Ns) (t : Nat) (k : Task) (i : TwIns), (s.runs 0x45 t k i) ∧ (k.calls ≠ [])) :=
  ⟨⟨twState [0x40010003#32] {}, 0, twTask {}, { op := 0x40, ty := 0, mode := 1, imm := 3, next := 1 }, by decide⟩,
    ⟨twState [0x41010003#32] { stack := [1] }, 0, twTask { stack := [1] }, { op := 0x41, ty := 0, mode := 1, imm := 3, next := 1 }, 1, [], by decide⟩,
    ⟨twState [0x41010003#32] { stack := [0] }, 0, twTask { stack := [0] }, { op := 0x41, ty := 0, mode := 1, imm := 3, next := 1 }, 0, [], by decide⟩,
    ⟨twState [0x42010003#32] { stack := [0] }, 0, twTask { stack := [0] }, { op := 0x42, ty := 0, mode := 1, imm := 3, next := 1 }, 0, [], by decide⟩,
    ⟨twState [0x42010003#32] { stack := [1] }, 0, twTask { stack := [1] }, { op := 0x42, ty := 0, mode := 1, imm := 3, next := 1 }, 1, [], by decide⟩,
    ⟨twState [0x43020003#32, 0, 64] {}, 0, twTask {}, { op := 0x43, ty := 0, mode := 2, imm := 3, ext1 := 0, ext2 := 64, next := 3 }, (3, 64), by decide⟩,
    ⟨twState [0x44000000#32] { calls := [(5, none)] }, 0, twTask { calls := [(5, none)] }, { op := 0x44, ty := 0, mode := 0, imm := 0, next := 1 }, 5, none, [], by decide⟩,
    ⟨twState [0x45000000#32] {}, 0, 0, twTask {}, { op := 0x45, ty := 0, mode := 0, imm := 0, next := 1 }, by decide⟩,
    ⟨{ shuttle := { run := true, prog := { code := [0x45000000#32], tasks := [{ entry := 0, beat := true }] }, tasks := [twTask {}] } }, 0, 0, twTask {}, { op := 0x45, ty := 0, mode := 0, imm := 0, next := 1 }, _, by decide, by decide, by decide, rfl⟩,
    ⟨twState [0x60100007#32] { stack := [0] }, 0, twTask { stack := [0] }, { op := 0x60, ty := 1, mode := 0, imm := 7, next := 1 }, 0, [], by decide⟩,
    ⟨twState [0x60100007#32] { stack := [1] }, 0, twTask { stack := [1] }, { op := 0x60, ty := 1, mode := 0, imm := 7, next := 1 }, 1, [], by decide, by decide, by decide, (by intro u h; cases h)⟩,
    ⟨{ twState [0x60100007#32] { stack := [1] } with limits := [(0x1208000007, 0)] }, 0, twTask { stack := [1] }, { op := 0x60, ty := 1, mode := 0, imm := 7, next := 1 }, 1, [], 0, by decide⟩,
    ⟨twState [0x43020003#32, 0, 64] { calls := List.replicate 16 (0, none) }, 0, twTask { calls := List.replicate 16 (0, none) }, { op := 0x43, ty := 0, mode := 2, imm := 3, ext1 := 0, ext2 := 64, next := 3 }, by decide⟩,
    ⟨twState [0x44000000#32] {}, 0, twTask {}, { op := 0x44, ty := 0, mode := 0, imm := 0, next := 1 }, by decide⟩,
    ⟨twState [0x45000000#32] { calls := [(5, none)] }, 0, 0, twTask { calls := [(5, none)] }, { op := 0x45, ty := 0, mode := 0, imm := 0, next := 1 }, by decide⟩⟩

theorem witness_TwillBlocks :
    (∃ (s : State) (t : Nat) (k : Task) (i : TwIns) (x y : U64) (rest : List U64) (a bit : Nat) (st : Nat) (et : Int) (q :
    Bool), (s.runs 0x50 t k i) ∧ (k.stack = y :: x :: rest) ∧ (rest.length ≤ 62) ∧ (twAddr k i.mode i.ext1 = some (a,
    bit)) ∧ (bit % 64 = 0) ∧ (bit + 192 ≤ areaSize a * 8) ∧ (st = (if x.getLsbD 0 && !nbit (twGet k a (bit / 8 + 2) 1) 0
    then k.tclk else twGet k a (bit / 8 + 8) 8)) ∧ (et = (if x.getLsbD 0 then twEt k.tclk st (max 0 (twInt 15 y)) else 0))
    ∧ (q = (x.getLsbD 0 && decide (max 0 (twInt 15 y) ≤ et)))) ∧
    (∃ (s : State) (t : Nat) (k : Task) (i : TwIns) (x y : U64) (rest : List U64) (a bit : Nat) (st : Nat) (et : Int) (q :
    Bool), (s.runs 0x51 t k i) ∧ (k.stack = y :: x :: rest) ∧ (rest.length ≤ 62) ∧ (twAddr k i.mode i.ext1 = some (a,
    bit)) ∧ (bit % 64 = 0) ∧ (bit + 192 ≤ areaSize a * 8) ∧ (st = (if !x.getLsbD 0 && nbit (twGet k a (bit / 8 + 2) 1) 0
    then k.tclk else twGet k a (bit / 8 + 8) 8)) ∧ (et = (if x.getLsbD 0 then 0 else if (nbit (twGet k a (bit / 8 + 3) 1)
    0) then twEt k.tclk st (max 0 (twInt 15 y)) else twInt 15 (BitVec.ofNat 64 (twGet k a (bit / 8 + 16) 8)))) ∧ (q =
    (x.getLsbD 0 || ((nbit (twGet k a (bit / 8 + 3) 1) 0) && decide (et < max 0 (twInt 15 y)))))) ∧
    (∃ (s : State) (t : Nat) (k : Task) (i : TwIns) (x y : U64) (rest : List U64) (a bit : Nat) (st : Nat) (et : Int) (q :
    Bool), (s.runs 0x52 t k i) ∧ (k.stack = y :: x :: rest) ∧ (rest.length ≤ 62) ∧ (twAddr k i.mode i.ext1 = some (a,
    bit)) ∧ (bit % 64 = 0) ∧ (bit + 192 ≤ areaSize a * 8) ∧ (st = (if x.getLsbD 0 && !nbit (twGet k a (bit / 8 + 2) 1) 0
    && !(nbit (twGet k a (bit / 8 + 3) 1) 0) then k.tclk else twGet k a (bit / 8 + 8) 8)) ∧ (et = (if (nbit (twGet k a
    (bit / 8 + 3) 1) 0) || (x.getLsbD 0 && !nbit (twGet k a (bit / 8 + 2) 1) 0 && !(nbit (twGet k a (bit / 8 + 3) 1) 0))
    then twEt k.tclk st (max 0 (twInt 15 y)) else if x.getLsbD 0 then twInt 15 (BitVec.ofNat 64 (twGet k a (bit / 8 + 16)
    8)) else 0)) ∧ (q = (((nbit (twGet k a (bit / 8 + 3) 1) 0) || (x.getLsbD 0 && !nbit (twGet k a (bit / 8 + 2) 1) 0 &&
    !(nbit (twGet k a (bit / 8 + 3) 1) 0))) && decide (et < max 0 (twInt 15 y))))) ∧
    (∃ (s : State) (t : Nat) (k : Task) (i : TwIns) (x y z : U64) (rest : List U64) (a bit : Nat) (n : Int), (s.runs 0x53 t k
    i) ∧ (k.stack = z :: y :: x :: rest) ∧ (rest.length ≤ 62) ∧ (twAddr k i.mode i.ext1 = some (a, bit)) ∧ (bit % 64 = 0)
    ∧ (bit + 128 ≤ areaSize a * 8) ∧ (n = (if y.getLsbD 0 then 0 else if x.getLsbD 0 && !nbit (twGet k a (bit / 8 + 2) 1)
    0 && decide (twInt i.ty (BitVec.ofNat 64 (twGet k a (bit / 8 + 8) (tyBits i.ty / 8))) < twMax i.ty) then twInt i.ty
    (BitVec.ofNat 64 (twGet k a (bit / 8 + 8) (tyBits i.ty / 8))) + 1 else twInt i.ty (BitVec.ofNat 64 (twGet k a (bit / 8
    + 8) (tyBits i.ty / 8)))))) ∧
    (∃ (s : State) (t : Nat) (k : Task) (i : TwIns) (x y z : U64) (rest : List U64) (a bit : Nat) (n : Int), (s.runs 0x54 t k
    i) ∧ (k.stack = z :: y :: x :: rest) ∧ (rest.length ≤ 62) ∧ (twAddr k i.mode i.ext1 = some (a, bit)) ∧ (bit % 64 = 0)
    ∧ (bit + 128 ≤ areaSize a * 8) ∧ (n = (if y.getLsbD 0 then twInt i.ty z else if x.getLsbD 0 && !nbit (twGet k a (bit /
    8 + 2) 1) 0 && decide (twMin i.ty < twInt i.ty (BitVec.ofNat 64 (twGet k a (bit / 8 + 8) (tyBits i.ty / 8)))) then
    twInt i.ty (BitVec.ofNat 64 (twGet k a (bit / 8 + 8) (tyBits i.ty / 8))) - 1 else twInt i.ty (BitVec.ofNat 64 (twGet k
    a (bit / 8 + 8) (tyBits i.ty / 8)))))) ∧
    (∃ (s : State) (t : Nat) (k : Task) (i : TwIns) (x y z p q : U64) (rest : List U64) (a bit : Nat) (n : Int), (s.runs 0x55 t
    k i) ∧ (k.stack = q :: p :: z :: y :: x :: rest) ∧ (rest.length ≤ 61) ∧ (twAddr k i.mode i.ext1 = some (a, bit)) ∧
    (bit % 64 = 0) ∧ (bit + 128 ≤ areaSize a * 8) ∧ (n = (if z.getLsbD 0 then 0 else if p.getLsbD 0 then twInt i.ty q else
    if (x.getLsbD 0 && !nbit (twGet k a (bit / 8 + 2) 1) 0) && !(y.getLsbD 0 && !nbit (twGet k a (bit / 8 + 2) 1) 1) &&
    decide (twInt i.ty (BitVec.ofNat 64 (twGet k a (bit / 8 + 8) (tyBits i.ty / 8))) < twMax i.ty) then twInt i.ty
    (BitVec.ofNat 64 (twGet k a (bit / 8 + 8) (tyBits i.ty / 8))) + 1 else if (y.getLsbD 0 && !nbit (twGet k a (bit / 8 +
    2) 1) 1) && !(x.getLsbD 0 && !nbit (twGet k a (bit / 8 + 2) 1) 0) && decide (twMin i.ty < twInt i.ty (BitVec.ofNat 64
    (twGet k a (bit / 8 + 8) (tyBits i.ty / 8)))) then twInt i.ty (BitVec.ofNat 64 (twGet k a (bit / 8 + 8) (tyBits i.ty /
    8))) - 1 else twInt i.ty (BitVec.ofNat 64 (twGet k a (bit / 8 + 8) (tyBits i.ty / 8)))))) ∧
    (∃ (s : State) (t : Nat) (k : Task) (i : TwIns) (x : U64) (rest : List U64) (a bit : Nat), (s.runs 0x56 t k i) ∧ (k.stack =
    x :: rest) ∧ (rest.length ≤ 63) ∧ (twAddr k i.mode i.ext1 = some (a, bit)) ∧ (bit % 64 = 0) ∧ (bit + 64 ≤ areaSize a *
    8)) ∧
    (∃ (s : State) (t : Nat) (k : Task) (i : TwIns) (x : U64) (rest : List U64) (a bit : Nat), (s.runs 0x57 t k i) ∧ (k.stack =
    x :: rest) ∧ (rest.length ≤ 63) ∧ (twAddr k i.mode i.ext1 = some (a, bit)) ∧ (bit % 64 = 0) ∧ (bit + 64 ≤ areaSize a *
    8)) ∧
    (∃ (s : State) (t : Nat) (k : Task) (i : TwIns) (x y : U64) (rest : List U64) (a bit : Nat), (s.runs 0x58 t k i) ∧ (k.stack
    = y :: x :: rest) ∧ (rest.length ≤ 63) ∧ (twAddr k i.mode i.ext1 = some (a, bit)) ∧ (bit % 64 = 0) ∧ (bit + 64 ≤
    areaSize a * 8)) ∧
    (∃ (s : State) (t : Nat) (k : Task) (i : TwIns) (x y : U64) (rest : List U64) (a bit : Nat), (s.runs 0x59 t k i) ∧ (k.stack
    = y :: x :: rest) ∧ (rest.length ≤ 63) ∧ (twAddr k i.mode i.ext1 = some (a, bit)) ∧ (bit % 64 = 0) ∧ (bit + 64 ≤
    areaSize a * 8)) :=
  ⟨⟨twState [0x50030000#32, 0] { stack := [1000, 1] }, 0, twTask { stack := [1000, 1] }, { op := 0x50, ty := 0, mode := 3, imm := 0, next := 2 }, 1, 1000, [], 3, 0, _, _, _, by decide, by decide, by decide, by decide, by decide, by decide, rfl, rfl, rfl⟩,
    ⟨twState [0x51030000#32, 0] { stack := [1000, 1] }, 0, twTask { stack := [1000, 1] }, { op := 0x51, ty := 0, mode := 3, imm := 0, next := 2 }, 1, 1000, [], 3, 0, _, _, _, by decide, by decide, by decide, by decide, by decide, by decide, rfl, rfl, rfl⟩,
    ⟨twState [0x52030000#32, 0] { stack := [1000, 1] }, 0, twTask { stack := [1000, 1] }, { op := 0x52, ty := 0, mode := 3, imm := 0, next := 2 }, 1, 1000, [], 3, 0, _, _, _, by decide, by decide, by decide, by decide, by decide, by decide, rfl, rfl, rfl⟩,
    ⟨twState [0x53330000#32, 0] { stack := [5, 0, 1] }, 0, twTask { stack := [5, 0, 1] }, { op := 0x53, ty := 3, mode := 3, imm := 0, next := 2 }, 1, 0, 5, [], 3, 0, _, by decide, by decide, by decide, by decide, by decide, by decide, rfl⟩,
    ⟨twState [0x54330000#32, 0] { stack := [5, 0, 1] }, 0, twTask { stack := [5, 0, 1] }, { op := 0x54, ty := 3, mode := 3, imm := 0, next := 2 }, 1, 0, 5, [], 3, 0, _, by decide, by decide, by decide, by decide, by decide, by decide, rfl⟩,
    ⟨twState [0x55330000#32, 0] { stack := [5, 0, 0, 0, 1] }, 0, twTask { stack := [5, 0, 0, 0, 1] }, { op := 0x55, ty := 3, mode := 3, imm := 0, next := 2 }, 1, 0, 0, 0, 5, [], 3, 0, _, by decide, by decide, by decide, by decide, by decide, by decide, rfl⟩,
    ⟨twState [0x56030000#32, 0] { stack := [1] }, 0, twTask { stack := [1] }, { op := 0x56, ty := 0, mode := 3, imm := 0, next := 2 }, 1, [], 3, 0, by decide⟩,
    ⟨twState [0x57030000#32, 0] { stack := [1] }, 0, twTask { stack := [1] }, { op := 0x57, ty := 0, mode := 3, imm := 0, next := 2 }, 1, [], 3, 0, by decide⟩,
    ⟨twState [0x58030000#32, 0] { stack := [0, 1] }, 0, twTask { stack := [0, 1] }, { op := 0x58, ty := 0, mode := 3, imm := 0, next := 2 }, 1, 0, [], 3, 0, by decide⟩,
    ⟨twState [0x59030000#32, 0] { stack := [0, 1] }, 0, twTask { stack := [0, 1] }, { op := 0x59, ty := 0, mode := 3, imm := 0, next := 2 }, 1, 0, [], 3, 0, by decide⟩⟩

theorem witness_TwillFaults :
    (∃ (s : State) (c : Instr) (op n : Nat), twOpcode c = some (op, n) ∧ (s.shuttle.run = false ∨ s.twRunning = none)) ∧
    (∃ (s : State) (c : Instr) (op n t : Nat) (k : Task), twOpcode c = some (op, n) ∧ (s.shuttle.run = true) ∧ (s.twRunning =
    some (t, k)) ∧ (fetchTw s.shuttle.prog.code k.pc = none)) ∧
    (∃ (s : State) (c : Instr) (op n t : Nat) (k : Task) (i : TwIns), twOpcode c = some (op, n) ∧ (s.shuttle.run = true) ∧
    (s.twRunning = some (t, k)) ∧ (fetchTw s.shuttle.prog.code k.pc = some i) ∧ (i.op ≠ op)) ∧
    (∃ (s : State) (c : Instr) (op n t : Nat) (k : Task) (i : TwIns), twOpcode c = some (op, n) ∧ (s.shuttle.run = true) ∧
    (s.twRunning = some (t, k)) ∧ (fetchTw s.shuttle.prog.code k.pc = some i) ∧ (i.op = op) ∧ (twAllowed i = false)) ∧
    (∃ (s : State) (c : Instr) (op n t : Nat) (k : Task) (i : TwIns), twOpcode c = some (op, n) ∧ (s.runs op t k i) ∧
    (k.stack.length < n)) ∧
    (∃ (s : State) (t : Nat) (k : Task) (i : TwIns), (s.runs 0x03 t k i) ∧ (k.stack.length = 64)) ∧
    (∃ (s : State) (t : Nat) (k : Task) (i : TwIns) (v : U64), (s.runs 0x01 t k i) ∧ (k.stack.length = 64) ∧ (twOperand s t i
    { k with pc := i.next } = some v)) ∧
    (∃ (s : State) (t : Nat) (k : Task) (i : TwIns), (s.runs 0x01 t k i) ∧ (twOperand s t i { k with pc := i.next } = none)) ∧
    (∃ (s : State) (t : Nat) (k : Task) (i : TwIns), (s.runs 0x02 t k i) ∧ (1 ≤ k.stack.length) ∧ ((∀ p, twAddr k i.mode i.ext1
    = some p → twAligned p.1 p.2 (tyBits i.ty) = false))) ∧
    (∃ (s : State) (t : Nat) (k : Task) (i : TwIns) (x : U64), (s.runs 0x06 t k i) ∧ (1 ≤ k.stack.length) ∧ (x = k.stack.getD 0
    0) ∧ (twInt 3 x < 0 ∨ (i.ext2 : Int) ≤ twInt 3 x)) ∧
    (∃ (s : State) (t : Nat) (k : Task) (i : TwIns) (x : U64), (s.runs 0x06 t k i) ∧ (1 ≤ k.stack.length) ∧ (x = k.stack.getD 0
    0) ∧ (0 ≤ twInt 3 x) ∧ (twInt 3 x < i.ext2) ∧ ((∀ p, twAddr k i.mode (i.ext1 + (twInt 3 x).toNat * tyBits i.ty) = some
    p → twAligned p.1 p.2 (tyBits i.ty) = false))) ∧
    (∃ (s : State) (t : Nat) (k : Task) (i : TwIns) (x : U64), (s.runs 0x07 t k i) ∧ (2 ≤ k.stack.length) ∧ (x = k.stack.getD 0
    0) ∧ (twInt 3 x < 0 ∨ (i.ext2 : Int) ≤ twInt 3 x)) ∧
    (∃ (s : State) (t : Nat) (k : Task) (i : TwIns) (x : U64), (s.runs 0x07 t k i) ∧ (2 ≤ k.stack.length) ∧ (x = k.stack.getD 0
    0) ∧ (0 ≤ twInt 3 x) ∧ (twInt 3 x < i.ext2) ∧ ((∀ p, twAddr k i.mode (i.ext1 + (twInt 3 x).toNat * tyBits i.ty) = some
    p → twAligned p.1 p.2 (tyBits i.ty) = false))) ∧
    (∃ (s : State) (u : Ns), (s.shuttle.run = false ∨ s.twRunning = none)) ∧
    (∃ (s : State) (u : Ns) (t : Nat) (k : Task), (s.shuttle.run = true) ∧ (s.twRunning = some (t, k)) ∧ (fetchTw
    s.shuttle.prog.code k.pc = none)) ∧
    (∃ (s : State) (u : Ns) (t : Nat) (k : Task) (i : TwIns), (s.shuttle.run = true) ∧ (s.twRunning = some (t, k)) ∧ (fetchTw
    s.shuttle.prog.code k.pc = some i) ∧ (i.op ≠ 0x45)) ∧
    (∃ (s : State) (u : Ns) (t : Nat) (k : Task) (i : TwIns), (s.shuttle.run = true) ∧ (s.twRunning = some (t, k)) ∧ (fetchTw
    s.shuttle.prog.code k.pc = some i) ∧ (i.op = 0x45) ∧ (twAllowed i = false)) :=
  ⟨⟨{}, .twAdd, 0x10, 2, by decide⟩,
    ⟨twState [] {}, .twAdd, 0x10, 2, 0, twTask {}, by decide⟩,
    ⟨twState [0x11300000#32] {}, .twAdd, 0x10, 2, 0, twTask {}, { op := 0x11, ty := 3, mode := 0, imm := 0, next := 1 }, by decide⟩,
    ⟨twState [0x10F10000#32] {}, .twAdd, 0x10, 2, 0, twTask {}, { op := 0x10, ty := 15, mode := 1, imm := 0, next := 1 }, by decide⟩,
    ⟨twState [0x10300000#32] {}, .twAdd, 0x10, 2, 0, twTask {}, { op := 0x10, ty := 3, mode := 0, imm := 0, next := 1 }, by decide⟩,
    ⟨twState [0x03300000#32] { stack := List.replicate 64 0 }, 0, twTask { stack := List.replicate 64 0 }, { op := 0x03, ty := 3, mode := 0, imm := 0, next := 1 }, by decide +kernel⟩,
    ⟨twState [0x01310005#32] { stack := List.replicate 64 0 }, 0, twTask { stack := List.replicate 64 0 }, { op := 1, ty := 3, mode := 1, imm := 5, next := 1 }, 5, by decide +kernel⟩,
    ⟨twState [0x01330000#32, 1] {}, 0, twTask {}, { op := 1, ty := 3, mode := 3, imm := 0, ext1 := 1, next := 2 }, by decide⟩,
    ⟨twState [0x02330000#32, 1] { stack := [1] }, 0, twTask { stack := [1] }, { op := 2, ty := 3, mode := 3, imm := 0, ext1 := 1, next := 2 }, by decide, by decide, (by intro p h; cases h; decide)⟩,
    ⟨twState [0x06330000#32, 1, 4] { stack := [4] }, 0, twTask { stack := [4] }, { op := 0x06, ty := 3, mode := 3, imm := 0, ext1 := 1, ext2 := 4, next := 3 }, 4, by decide⟩,
    ⟨twState [0x06330000#32, 1, 4] { stack := [1] }, 0, twTask { stack := [1] }, { op := 0x06, ty := 3, mode := 3, imm := 0, ext1 := 1, ext2 := 4, next := 3 }, 1, by decide, by decide, by decide, by decide, by decide, (by intro p h; cases h; decide)⟩,
    ⟨twState [0x07330000#32, 1, 4] { stack := [4, 7] }, 0, twTask { stack := [4, 7] }, { op := 0x07, ty := 3, mode := 3, imm := 0, ext1 := 1, ext2 := 4, next := 3 }, 4, by decide⟩,
    ⟨twState [0x07330000#32, 1, 4] { stack := [1, 7] }, 0, twTask { stack := [1, 7] }, { op := 0x07, ty := 3, mode := 3, imm := 0, ext1 := 1, ext2 := 4, next := 3 }, 1, by decide, by decide, by decide, by decide, by decide, (by intro p h; cases h; decide)⟩,
    ⟨{}, 0, by decide⟩,
    ⟨twState [] {}, 0, 0, twTask {}, by decide⟩,
    ⟨twState [0x11300000#32] {}, 0, 0, twTask {}, { op := 0x11, ty := 3, mode := 0, imm := 0, next := 1 }, by decide⟩,
    ⟨twState [0x45F10000#32] {}, 0, 0, twTask {}, { op := 0x45, ty := 15, mode := 1, imm := 0, next := 1 }, by decide⟩⟩

theorem witness_ShuttleSteps :
    (∃ (s : State), (s.shuttle.run = true) ∧ (s.warp.picks = true) ∧ (s.shuttle.startPick < s.warp.pickCount)) ∧
    (∃ (s : State), (s.shuttle.run = false ∨ s.warp.picks = false ∨ s.warp.pickCount ≤ s.shuttle.startPick)) ∧
    (∃ (s : State) (b : Beat) (j : Nat), (s.warp.last = some b) ∧ (b.holders.contains .beatTask = true) ∧ (s.warp.run = true) ∧
    ((List.range s.shuttle.prog.tasks.length).find? (fun j => (s.shuttle.prog.tasks.getD j { entry := 0 }).beat) = some j)
    ∧ (s.shuttle.run = true) ∧ ((s.shuttle.tasks.getD j {}).st = 0) ∧ (s.shuttle.startPick < s.warp.pickCount)) ∧
    (∃ (s : State) (b : Beat) (j : Nat), (s.warp.last = some b) ∧ (b.holders.contains .beatTask = true) ∧ (s.warp.run = true) ∧
    ((List.range s.shuttle.prog.tasks.length).find? (fun j => (s.shuttle.prog.tasks.getD j { entry := 0 }).beat) = some j)
    ∧ (s.shuttle.run = false ∨ (s.shuttle.tasks.getD j {}).st ≠ 0 ∨ s.warp.pickCount ≤ s.shuttle.startPick)) ∧
    (∃ (s : State) (b : Beat), (s.warp.last = some b) ∧ (b.holders.contains .beatTask = true) ∧ (s.warp.run = true) ∧
    ((List.range s.shuttle.prog.tasks.length).find? (fun j => (s.shuttle.prog.tasks.getD j { entry := 0 }).beat) = none)) ∧
    (∃ (s : State), ((∀ b, s.warp.last = some b → b.holders.contains .beatTask = false ∨ s.warp.run = false))) ∧
    (∃ (s : State), (s.shuttle.run = true) ∧ ((s.shuttle.tasks.zip s.shuttle.prog.tasks).any (fun e => e.1.st == 1 &&
    !e.2.beat) = true)) ∧
    (∃ (s : State), (s.shuttle.run = true) ∧ ((s.shuttle.tasks.zip s.shuttle.prog.tasks).any (fun e => e.1.st == 1 &&
    !e.2.beat) = true)) ∧
    (∃ (s : State) (tick : Bool), (s.shuttle.run = false ∨ (s.shuttle.tasks.zip s.shuttle.prog.tasks).any (fun e => e.1.st == 1
    && !e.2.beat) = false)) ∧
    (∃ (s : State) (i : Nat) (u : Ns) (k : Task) (r : TwTask), (s.shuttle.tasks[i]? = some k) ∧ (s.shuttle.prog.tasks[i]? =
    some r)) ∧
    (∃ (s : State) (i : Nat) (u : Ns), (s.shuttle.tasks[i]? = none ∨ s.shuttle.prog.tasks[i]? = none)) ∧
    (∃ (s : State) (u : Ns) (b : Beat) (j : Nat), ((List.range s.shuttle.prog.tasks.length).find? (fun j =>
    (s.shuttle.prog.tasks.getD j { entry := 0 }).beat) = some j) ∧ (s.warp.last = some b)) ∧
    (∃ (s : State) (u : Ns), ((List.range s.shuttle.prog.tasks.length).find? (fun j => (s.shuttle.prog.tasks.getD j
    { entry := 0 }).beat) = none ∨ s.warp.last = none)) ∧
    (∃ (s : State), (s.shuttle.leadSync = none ∨ s.sys.role ≠ .shadow ∨ s.shuttle.run = false)) ∧
    (∃ (s : State) (l : SyncCap), (s.shuttle.leadSync = some l) ∧ (s.sys.role = .shadow) ∧ (s.shuttle.run = true) ∧
    (s.shuttle.caps.find? (fun c => nearestMs c.edge == nearestMs l.edge) = none)) ∧
    (∃ (s : State) (l c : SyncCap) (lead : TwSym × Nat → Option (List U64)) (diff : List (TwSym × Nat)), (s.shuttle.leadSync =
    some l) ∧ (s.sys.role = .shadow) ∧ (s.shuttle.run = true) ∧ (s.shuttle.caps.find? (fun c => nearestMs c.edge ==
    nearestMs l.edge) = some c) ∧ (lead = (fun e => (syncValue l e).map (shiftStart e ((c.tclk : Int) - (l.tclk : Int)))))
    ∧ (diff = (syncElems s.shuttle.prog).filter (fun e => (syncValue c e).any (fun a => (lead e).any (fun b => a != b))))) ∧
    (∃ (s : State) (p i : Nat) (drop : Bool) (w : Word) (c : TwChange), (s.shuttle.agreed = some (p, drop, some (i, w))) ∧
    (s.shuttle.change = some c) ∧ (p ≤ s.warp.pickCount) ∧ (s.warp.pickCount ≤ p + 100) ∧ (s.shuttle.tasks.all (fun k =>
    k.st != 1) = true)) ∧
    (∃ (s : State) (p : Nat) (drop : Bool) (c : TwChange), (s.shuttle.agreed = some (p, drop, none)) ∧ (s.shuttle.change = some
    c) ∧ (p ≤ s.warp.pickCount) ∧ (s.warp.pickCount ≤ p + 100) ∧ (s.shuttle.tasks.all (fun k => k.st != 1) = true)) ∧
    (∃ (s : State) (p : Nat) (drop : Bool) (o : Option (Nat × Word)), (s.shuttle.agreed = some (p, drop, o)) ∧
    (s.shuttle.change = none ∨ s.warp.pickCount < p ∨ p + 100 < s.warp.pickCount ∨ s.shuttle.tasks.any (fun k => k.st ==
    1) = true)) ∧
    (∃ (s : State), (s.shuttle.agreed = none)) ∧
    (∃ (s : State) (p i : Nat) (drop : Bool) (w : Word), (s.shuttle.agreed = some (p, drop, some (i, w))) ∧ (p + 100 <
    s.warp.pickCount)) ∧
    (∃ (s : State) (p : Nat) (drop : Bool), (s.shuttle.agreed = some (p, drop, none)) ∧ (p + 100 < s.warp.pickCount)) ∧
    (∃ (s : State), ((∀ p d o, s.shuttle.agreed = some (p, d, o) → s.warp.pickCount ≤ p + 100))) :=
  ⟨⟨{ warp := { picks := true, pickCount := 1 }, shuttle := { run := true, prog := { tasks := [{ entry := 0, m := 1, phase := 0 }] }, tasks := [{}] } }, by decide⟩,
    ⟨{}, by decide⟩,
    ⟨{ warp := { run := true, pickCount := 1, last := some { edge := 0, count := 0, holders := [.beatTask] } }, shuttle := { run := true, prog := { tasks := [{ entry := 0, beat := true }] }, tasks := [{ st := 0 }] } }, { edge := 0, count := 0, holders := [.beatTask] }, 0, by decide⟩,
    ⟨{ warp := { run := true, pickCount := 1, last := some { edge := 0, count := 0, holders := [.beatTask] } }, shuttle := { run := true, prog := { tasks := [{ entry := 0, beat := true }] }, tasks := [{ st := 1 }] } }, { edge := 0, count := 0, holders := [.beatTask] }, 0, by decide⟩,
    ⟨{ warp := { run := true, last := some { edge := 0, count := 0, holders := [.beatTask] } } }, { edge := 0, count := 0, holders := [.beatTask] }, by decide⟩,
    ⟨{}, (by intro b h; cases h)⟩,
    ⟨{ warp := { pickCount := 1 }, shuttle := { run := true, prog := { tasks := [{ entry := 0 }] }, tasks := [{ st := 1 }] } }, by decide⟩,
    ⟨{ warp := { pickCount := 1 }, shuttle := { run := true, prog := { tasks := [{ entry := 0 }] }, tasks := [{ st := 1 }] } }, by decide⟩,
    ⟨{}, false, by decide⟩,
    ⟨{ shuttle := { run := true, prog := { tasks := [{ entry := 0, wMs := 1 }] }, tasks := [{ st := 1 }] } }, 0, 1000000, { st := 1 }, { entry := 0, wMs := 1 }, by decide⟩,
    ⟨{}, 0, 0, by decide⟩,
    ⟨{ warp := { last := some { edge := 0, count := 0 } }, shuttle := { run := true, prog := { tasks := [{ entry := 0, beat := true }] }, tasks := [{ st := 1 }] } }, 900000000, { edge := 0, count := 0 }, 0, by decide⟩,
    ⟨{}, 0, by decide⟩,
    ⟨{}, by decide⟩,
    ⟨{ sys := { role := .shadow }, shuttle := { run := true, prog := { tasks := [{ entry := 0, sync := [7] }], syms := [{ id := 7, area := 3, bit := 0, ty := 3 }] }, leadSync := some { edge := 0, tclk := 5, vals := [((7, 0), [2])] }, caps := [] } }, { edge := 0, tclk := 5, vals := [((7, 0), [2])] }, by decide⟩,
    ⟨{ sys := { role := .shadow }, shuttle := { run := true, prog := { tasks := [{ entry := 0, sync := [7] }], syms := [{ id := 7, area := 3, bit := 0, ty := 3 }] }, leadSync := some { edge := 0, tclk := 5, vals := [((7, 0), [2])] }, caps := [{ edge := 0, tclk := 0, vals := [((7, 0), [1])] }] } }, { edge := 0, tclk := 5, vals := [((7, 0), [2])] }, { edge := 0, tclk := 0, vals := [((7, 0), [1])] }, _, _, by decide, by decide, by decide, by decide, rfl, rfl⟩,
    ⟨{ warp := { pickCount := 105 }, shuttle := { agreed := some (5, false, some (0, 1)), change := some { base := 0, prog := {} } } }, 5, 0, false, 1, { base := 0, prog := {} }, by decide⟩,
    ⟨{ warp := { pickCount := 105 }, shuttle := { agreed := some (5, false, none), change := some { base := 0, prog := {} } } }, 5, false, { base := 0, prog := {} }, by decide⟩,
    ⟨{ warp := { pickCount := 4 }, shuttle := { agreed := some (5, false, none), change := some { base := 0, prog := {} } } }, 5, false, none, by decide⟩,
    ⟨{}, by decide⟩,
    ⟨{ warp := { pickCount := 106 }, shuttle := { agreed := some (5, false, some (0, 1)), change := some { base := 0, prog := {} } } }, 5, 0, false, 1, by decide⟩,
    ⟨{ warp := { pickCount := 106 }, shuttle := { agreed := some (5, false, none), change := some { base := 0, prog := {} } } }, 5, false, by decide⟩,
    ⟨{}, (by intro p d o h; cases h)⟩⟩

theorem witness_CommandSessionSteps :
    (∃ (s : State) (p : Nat) (cookie : Bool) (u : Ns) (q : State), (q = (s.at u).netPick) ∧ (q.net.ready = false)) ∧
    (∃ (s : State) (p : Nat) (cookie : Bool) (u : Ns) (q : State), (q = (s.at u).netPick) ∧ (q.net.ready = true) ∧ (2 ≤ p)) ∧
    (∃ (s : State) (p : Nat) (u : Ns) (q : State), (q = (s.at u).netPick) ∧ (q.net.ready = true) ∧ (p < 2)) ∧
    (∃ (s : State) (p : Nat) (u : Ns) (q : State), (q = (s.at u).netPick) ∧ (q.net.ready = true) ∧ (p < 2) ∧ (q.net.admitOpen =
    false ∨ 32 ≤ q.net.createdNow ∨ (q.cmdEntries < 16 ∧ q.freeEntry = none))) ∧
    (∃ (s : State) (p : Nat) (u : Ns) (q : State), (q = (s.at u).netPick) ∧ (q.net.ready = true) ∧ (p < 2) ∧ (q.net.admitOpen =
    true) ∧ (q.net.createdNow < 32) ∧ (16 ≤ q.cmdEntries)) ∧
    (∃ (s : State) (p : Nat) (u : Ns) (q r : State) (i : Nat), (q = (s.at u).netPick) ∧ (q.net.ready = true) ∧ (p < 2) ∧
    (q.net.admitOpen = true) ∧ (q.net.createdNow < 32) ∧ (q.cmdEntries < 16) ∧ (q.freeEntry = some i) ∧ (r = q.setSession
    i { st := .admitted, kind := 0x0A, lastValid := some q.now, changes := 1 })) ∧
    (∃ (s : State) (i : Nat) (hs : Handshake) (leaf : U64) (chain : List U64) (anchor : U64) (certOk periodOk : Bool) (u : Ns)
    (e : Session) (l : Nat), (s.session i = some e) ∧ (e.kind = 0x0A) ∧ (e.st = .admitted) ∧ (handshakeOk hs = true) ∧
    (s.sec.unprov = false) ∧ ((s.at u).chainLevel leaf chain anchor certOk periodOk = some l)) ∧
    (∃ (s : State) (i : Nat) (hs : Handshake) (leaf : U64) (chain : List U64) (anchor : U64) (certOk periodOk : Bool) (u : Ns)
    (e : Session), (s.session i = some e) ∧ (e.kind = 0x0A) ∧ (e.st = .admitted) ∧ (handshakeOk hs = true) ∧ (s.sec.unprov
    = true) ∧ (s.sys.st = .standby) ∧ (s.sys.svcEn = true) ∧ (s.cmd.sessions = [])) ∧
    (∃ (s : State) (i : Nat) (hs : Handshake) (leaf : U64) (chain : List U64) (anchor : U64) (certOk periodOk : Bool) (u : Ns)
    (e : Session), (s.session i = some e) ∧ (e.kind = 0x0A) ∧ (e.st = .admitted) ∧ (handshakeOk hs = false ∨ (s.sec.unprov
    = true ∧ (s.sys.st ≠ .standby ∨ s.sys.svcEn = false ∨ s.cmd.sessions ≠ [])) ∨ (s.sec.unprov = false ∧ (s.at
    u).chainLevel leaf chain anchor certOk periodOk = none))) ∧
    (∃ (s : State) (i : Nat) (hs : Handshake) (leaf : U64) (chain : List U64) (anchor : U64) (certOk periodOk : Bool) (u : Ns),
    ((∀ e, s.session i = some e → e.kind ≠ 0x0A ∨ e.st ≠ .admitted))) ∧
    (∃ (s : State) (i : Nat) (r : State), (r =
    { s with cmd := { s.cmd with sessions := s.cmd.sessions.filter (fun x => x.idx != i) }, sess := s.sess.filter (fun p => !(p.1 == i && p.2.kind == 0x0A)), sec := { s.sec with bulk := s.sec.bulk.filter (fun b => b.sess != i) } })) ∧
    (∃ (s : State) (i : Nat) (x : CmdSession), (s.cmdSess i = some x)) ∧
    (∃ (s : State) (i : Nat) (e : Session), (s.cmdSess i = none) ∧ (s.session i = some e)) ∧
    (∃ (s : State) (i : Nat), (s.cmdSess i = none) ∧ (s.session i = none)) ∧
    (∃ (s : State) (i u : Nat) (x : CmdSession), (s.cmdSess i = some x) ∧ (x.safetyUntil = some u)) ∧
    (∃ (s : State) (i : Nat), ((∀ x, s.cmdSess i = some x → x.safetyUntil = none))) ∧
    (∃ (s : State), ((∀ u, s.sec.lockUntil = some u → s.otime < u))) ∧
    (∃ (s : State) (u : Nat), (s.sec.lockUntil = some u) ∧ (u ≤ s.otime)) ∧
    (∃ (s : State) (b : Bulk), (s.sec.bulk = some b)) ∧
    (∃ (s : State), (s.sec.bulk = none)) ∧
    (∃ (s : State) (r : State), (r = { s with sys := { s.sys with svcEn := false }, mon := { s.mon with log := false } })) ∧
    (∃ (s : State) (i : Nat) (b : List Byte), (s.cmdSess i = none ∨ s.serves = false ∨ (12 ≤ b.length ∧ packetBad b = none))) ∧
    (∃ (s : State) (i : Nat) (b : List Byte) (x : CmdSession), (b.length < 12) ∧ (s.cmdSess i = some x) ∧ (s.serves = true)) ∧
    (∃ (s : State) (i : Nat) (b : List Byte) (x : CmdSession) (e op : Nat) (cseq : Word) (q : Word) (r : List Byte), (12 ≤
    b.length) ∧ (packetBad b = some e) ∧ (op = ofBe ((b.drop 2).take 2)) ∧ (cseq = BitVec.ofNat 32 (ofBe ((b.drop 4).take
    4))) ∧ (s.cmdSess i = some x) ∧ (s.serves = true) ∧ (x.last = some (q, r)) ∧ (q = cseq)) ∧
    (∃ (s : State) (i : Nat) (b : List Byte) (x : CmdSession) (e op : Nat) (cseq : Word) (q : Word) (r : List Byte), (12 ≤
    b.length) ∧ (packetBad b = some e) ∧ (op = ofBe ((b.drop 2).take 2)) ∧ (cseq = BitVec.ofNat 32 (ofBe ((b.drop 4).take
    4))) ∧ (s.cmdSess i = some x) ∧ (s.serves = true) ∧ (x.last = some (q, r)) ∧ (q ≠ cseq) ∧ (seqNewer q cseq = true)) ∧
    (∃ (s : State) (i : Nat) (b : List Byte) (x : CmdSession) (e op : Nat) (cseq : Word), (12 ≤ b.length) ∧ (packetBad b = some
    e) ∧ (op = ofBe ((b.drop 2).take 2)) ∧ (cseq = BitVec.ofNat 32 (ofBe ((b.drop 4).take 4))) ∧ (s.cmdSess i = some x) ∧
    (s.serves = true) ∧ ((∀ q r, x.last = some (q, r) → q ≠ cseq ∧ seqNewer q cseq = false)) ∧ (x.waiting = none)) ∧
    (∃ (s : State) (i : Nat) (b : List Byte) (x : CmdSession) (e op : Nat) (cseq : Word), (12 ≤ b.length) ∧ (packetBad b = some
    e) ∧ (op = ofBe ((b.drop 2).take 2)) ∧ (cseq = BitVec.ofNat 32 (ofBe ((b.drop 4).take 4))) ∧ (s.cmdSess i = some x) ∧
    (s.serves = true) ∧ ((∀ q r, x.last = some (q, r) → q ≠ cseq ∧ seqNewer q cseq = false)) ∧ (x.waiting ≠ none)) :=
  ⟨⟨{}, 0, false, 0, _, rfl, by decide⟩,
    ⟨{ net := { ready := true } }, 2, false, 0, _, rfl, by decide, by decide⟩,
    ⟨{ net := { ready := true } }, 0, 0, _, rfl, by decide, by decide⟩,
    ⟨{ net := { ready := true, admitOpen := false } }, 0, 0, _, rfl, by decide, by decide, by decide⟩,
    ⟨{ net := { ready := true, admitOpen := true }, sess := (List.range 16).map (fun i => (i, { kind := 0x0A, st := .live })) }, 0, 0, _, rfl, by decide, by decide, by decide, by decide, by decide +kernel⟩,
    ⟨{ net := { ready := true, admitOpen := true } }, 0, 0, _, _, 0, rfl, by decide, by decide, by decide, by decide, by decide, by decide, rfl⟩,
    ⟨{ sess := [(0, { kind := 0x0A, st := .admitted })], sec := { anchors := [{ kind := 0, level := 3, keyId := 5 }] } }, 0, {}, 6, [], 5, true, true, 0, { kind := 0x0A, st := .admitted }, 3, by decide⟩,
    ⟨{ sess := [(0, { kind := 0x0A, st := .admitted })], sys := { st := .standby, svcEn := true } }, 0, {}, 6, [], 5, true, true, 0, { kind := 0x0A, st := .admitted }, by decide⟩,
    ⟨{ sess := [(0, { kind := 0x0A, st := .admitted })] }, 0, { done := false }, 6, [], 5, true, true, 0, { kind := 0x0A, st := .admitted }, by decide⟩,
    ⟨{}, 0, {}, 6, [], 5, true, true, 0, (by intro e h; cases h)⟩,
    ⟨{}, 0, _, rfl⟩,
    ⟨{ cmdState .ready (aSess 1) with clk := { otimeUs := 60000000 } }, 0, aSess 1, by decide⟩,
    ⟨{ sess := [(0, { kind := 0x0A, st := .admitted })] }, 0, { kind := 0x0A, st := .admitted }, by decide⟩,
    ⟨{}, 0, by decide⟩,
    ⟨{ cmdState .ready safeSess with clk := { otimeUs := 900000000 } }, 0, 900000000, safeSess, by decide⟩,
    ⟨{}, 0, (by intro x h; cases h)⟩,
    ⟨{}, (by intro u h; cases h)⟩,
    ⟨{ sec := { lockUntil := some 900000000 }, clk := { otimeUs := 900000000 } }, 900000000, by decide⟩,
    ⟨{ sec := { bulk := some aBulk }, clk := { otimeUs := 60000000 } }, aBulk, rfl⟩,
    ⟨{}, rfl⟩,
    ⟨{ sys := { st := .service } }, _, rfl⟩,
    ⟨{}, 0, [], by decide⟩,
    ⟨cmdState .ready (aSess 1), 0, [], aSess 1, by decide⟩,
    ⟨cmdState .ready { aSess 1 with last := some (1, [7]) }, 0, ([1#8, 0#8] ++ be16 0x0999 ++ be32 1 ++ be16 0 ++ be16 0), { aSess 1 with last := some (1, [7]) }, 0x1002, _, _, 1, [7], by decide, by decide, rfl, rfl, by decide, by decide, by decide, by decide⟩,
    ⟨cmdState .ready { aSess 1 with last := some (2, [7]) }, 0, ([1#8, 0#8] ++ be16 0x0999 ++ be32 1 ++ be16 0 ++ be16 0), { aSess 1 with last := some (2, [7]) }, 0x1002, _, _, 2, [7], by decide, by decide, rfl, rfl, by decide, by decide, by decide, by decide, by decide⟩,
    ⟨cmdState .ready (aSess 1), 0, ([1#8, 0#8] ++ be16 0x0999 ++ be32 1 ++ be16 0 ++ be16 0), (aSess 1), 0x1002, _, _, by decide, by decide, rfl, rfl, by decide, by decide, (by intro q r h; cases h), by decide⟩,
    ⟨cmdState .ready { aSess 1 with waiting := some (1, 0x0430) }, 0, ([1#8, 0#8] ++ be16 0x0999 ++ be32 1 ++ be16 0 ++ be16 0), { aSess 1 with waiting := some (1, 0x0430) }, 0x1002, _, _, by decide, by decide, rfl, rfl, by decide, by decide, (by intro q r h; cases h), by decide⟩⟩

theorem witness_CommandsThatReport :
    (∃ (s : State) (h : Hdr) (x : CmdSession) (r : State), (s.accepts h 0x0100 x = true) ∧ (r = s.heard h.sess x)) ∧
    (∃ (s : State) (h : Hdr) (x : CmdSession) (r : State), (s.accepts h 0x0101 x = true) ∧ (r = s.heard h.sess x)) ∧
    (∃ (s : State) (h : Hdr) (x : CmdSession) (r : State), (s.accepts h 0x0102 x = true) ∧ (r = s.heard h.sess x)) ∧
    (∃ (s : State) (h : Hdr) (x : CmdSession) (r : State) (ofs : Nat), (s.accepts h 0x0103 x = true) ∧ (r = s.heard h.sess x)) ∧
    (∃ (s : State) (h : Hdr) (x : CmdSession) (r : State), (s.accepts h 0x0104 x = true) ∧ (r = s.heard h.sess x)) ∧
    (∃ (s : State) (h : Hdr) (x : CmdSession) (r : State) (a b : List Byte), (s.accepts h 0x0420 x = true) ∧ (r = s.heard
    h.sess x) ∧ (r.sec.ledger.head? = some a) ∧ (r.sec.ledger.getLast? = some b)) ∧
    (∃ (s : State) (h : Hdr) (x : CmdSession) (r : State), (s.accepts h 0x0420 x = true) ∧ (r = s.heard h.sess x) ∧
    (r.sec.ledger = [])) ∧
    (∃ (s : State) (h : Hdr) (x : CmdSession) (r : State) (first : Word) (count : Nat), (s.accepts h 0x0421 x = true) ∧ (r =
    s.heard h.sess x) ∧ (count = 0 ∨ 8 < count)) ∧
    (∃ (s : State) (h : Hdr) (x : CmdSession) (r : State) (first : Word) (count : Nat), (s.accepts h 0x0421 x = true) ∧ (r =
    s.heard h.sess x) ∧ (1 ≤ count) ∧ (count ≤ 8)) ∧
    (∃ (s : State) (h : Hdr) (x : CmdSession) (r : State), (s.accepts h 0x0452 x = true) ∧ (r = s.heard h.sess x)) ∧
    (∃ (s : State) (h : Hdr) (x : CmdSession) (r : State), (s.accepts h 0x0601 x = true) ∧ (r = s.heard h.sess x)) ∧
    (∃ (s : State) (h : Hdr) (x : CmdSession) (r : State) (area : Nat) (rseq : Word) (ofs fixes : Nat), (s.accepts h 0x0602 x =
    true) ∧ (r = s.heard h.sess x) ∧ (area ≤ 1) ∧ (seqNewer s.sherd.flushed rseq = false)) ∧
    (∃ (s : State) (h : Hdr) (x : CmdSession) (r : State) (area : Nat) (rseq : Word) (ofs fixes : Nat), (s.accepts h 0x0602 x =
    true) ∧ (r = s.heard h.sess x) ∧ (1 < area ∨ seqNewer s.sherd.flushed rseq = true)) ∧
    (∃ (s : State) (h : Hdr) (x : CmdSession) (r : State) (first : Nat), (s.accepts h 0x0504 x = true) ∧ (r = s.heard h.sess x)) ∧
    (∃ (s : State) (h : Hdr) (x : CmdSession) (r : State), (s.accepts h 0x0701 x = true) ∧ (r = s.heard h.sess x)) ∧
    (∃ (s : State) (h : Hdr) (x : CmdSession) (r : State), (s.accepts h 0x0801 x = true) ∧ (r = s.heard h.sess x)) :=
  ⟨⟨cmdState .standby (aSess 2), aHdr, aSess 2, _, by decide, rfl⟩,
    ⟨cmdState .standby (aSess 2), aHdr, aSess 2, _, by decide, rfl⟩,
    ⟨cmdState .standby (aSess 2), aHdr, aSess 2, _, by decide, rfl⟩,
    ⟨cmdState .standby (aSess 2), aHdr, aSess 2, _, 0, by decide, rfl⟩,
    ⟨cmdState .standby (aSess 2), aHdr, aSess 2, _, by decide, rfl⟩,
    ⟨{ cmdState .standby (aSess 2) with sec := { ledger := [zeros 160] } }, aHdr, aSess 2, _, zeros 160, zeros 160, by decide, rfl, rfl, rfl⟩,
    ⟨cmdState .standby (aSess 2), aHdr, aSess 2, _, by decide, rfl, rfl⟩,
    ⟨cmdState .standby (aSess 2), aHdr, aSess 2, _, 0, 0, by decide, rfl, by decide⟩,
    ⟨cmdState .standby (aSess 2), aHdr, aSess 2, _, 0, 1, by decide, rfl, by decide, by decide⟩,
    ⟨cmdState .standby (aSess 2), aHdr, aSess 2, _, by decide, rfl⟩,
    ⟨cmdState .standby (aSess 2), aHdr, aSess 2, _, by decide, rfl⟩,
    ⟨cmdState .standby (aSess 2), aHdr, aSess 2, _, 0, 0, 0, 0, by decide, rfl, by decide, by decide⟩,
    ⟨cmdState .standby (aSess 2), aHdr, aSess 2, _, 2, 0, 0, 0, by decide, rfl, by decide⟩,
    ⟨cmdState .ready (aSess 2), aHdr, aSess 2, _, 0, by decide, rfl⟩,
    ⟨cmdState .standby (aSess 2), aHdr, aSess 2, _, by decide, rfl⟩,
    ⟨cmdState .standby (aSess 2), aHdr, aSess 2, _, by decide, rfl⟩⟩

theorem witness_CommandsOfModuleState :
    (∃ (s : State) (h : Hdr) (x : CmdSession) (r : State) (d : Draft), (s.accepts h 0x0201 x = true) ∧ (r = s.heard h.sess x) ∧
    (r.draft = some d)) ∧
    (∃ (s : State) (h : Hdr) (x : CmdSession) (r : State), (s.accepts h 0x0201 x = true) ∧ (r = s.heard h.sess x) ∧ (r.draft =
    none)) ∧
    (∃ (s : State) (h : Hdr) (x : CmdSession) (r : State), (s.accepts h 0x0202 x = true) ∧ (r = s.heard h.sess x) ∧ (r.kilnRun
    = false ∨ r.safemodsOn = false)) ∧
    (∃ (s : State) (h : Hdr) (x : CmdSession) (r : State), (s.accepts h 0x0202 x = true) ∧ (r = s.heard h.sess x) ∧ (r.kilnRun
    = true) ∧ (r.safemodsOn = true)) ∧
    (∃ (s : State) (h : Hdr) (x : CmdSession) (r : State), (s.accepts h 0x0203 x = true) ∧ (r = s.heard h.sess x)) ∧
    (∃ (s : State) (h : Hdr) (x : CmdSession) (r : State) (d : Draft), (s.accepts h 0x0204 x = true) ∧ (r = s.heard h.sess x) ∧
    (r.cmd.safe &&& 0x92#8 = 0) ∧ (r.kilnRun = true) ∧ (r.draft = some d)) ∧
    (∃ (s : State) (h : Hdr) (x : CmdSession) (r : State), (s.accepts h 0x0204 x = true) ∧ (r = s.heard h.sess x) ∧ (r.cmd.safe
    &&& 0x92#8 = 0) ∧ (r.kilnRun = true) ∧ (r.draft = none)) ∧
    (∃ (s : State) (h : Hdr) (x : CmdSession) (r : State), (s.accepts h 0x0204 x = true) ∧ (r = s.heard h.sess x) ∧ (r.cmd.safe
    &&& 0x92#8 ≠ 0 ∨ r.kilnRun = false)) ∧
    (∃ (s : State) (h : Hdr) (x : CmdSession) (r : State), (s.accepts h 0x0205 x = true) ∧ (r = s.heard h.sess x)) ∧
    (∃ (s : State) (h : Hdr) (x y : CmdSession) (r : State), (s.accepts h 0x0206 x = true) ∧ (r = s.heard h.sess x) ∧ (y =
    { x with lastRecord := (s.at 750000).otime }) ∧ (s.sys.svcEn = true)) ∧
    (∃ (s : State) (h : Hdr) (x : CmdSession) (r : State), (s.accepts h 0x0206 x = true) ∧ (r = s.heard h.sess x) ∧
    (s.sys.svcEn = false)) ∧
    (∃ (s : State) (h : Hdr) (x : CmdSession) (r : State) (kind : Nat), (s.accepts h 0x0207 x = true) ∧ (r = s.heard h.sess x)
    ∧ (1 < kind)) ∧
    (∃ (s : State) (h : Hdr) (x : CmdSession) (r : State) (kind : Nat), (s.accepts h 0x0207 x = true) ∧ (r = s.heard h.sess x)
    ∧ (kind ≤ 1)) :=
  ⟨⟨{ cmdState .standby (aSess 1) with draft := some aDraft }, aHdr, aSess 1, _, aDraft, by decide, rfl, rfl⟩,
    ⟨cmdState .standby (aSess 1), aHdr, aSess 1, _, by decide, rfl, rfl⟩,
    ⟨cmdState .ready (aSess 1), aHdr, aSess 1, _, by decide, rfl, by decide⟩,
    ⟨{ cmdState .ready (aSess 1) with mirror := [(0, 1)] }, aHdr, aSess 1, _, by decide, rfl, by decide, by decide⟩,
    ⟨cmdState .active (aSess 1), aHdr, aSess 1, _, by decide, rfl⟩,
    ⟨{ cmdState .safe (aSess 1) with mirror := [(0, 1)], draft := some aDraft }, aHdr, aSess 1, _, aDraft, by decide, rfl, by decide, by decide, rfl⟩,
    ⟨{ cmdState .safe (aSess 1) with mirror := [(0, 1)] }, aHdr, aSess 1, _, by decide, rfl, by decide, by decide, rfl⟩,
    ⟨{ cmdState .safe (aSess 1) with cmd := { sessions := [aSess 1], safe := 2 } }, aHdr, aSess 1, _, by decide, rfl, by decide⟩,
    ⟨cmdState .ready (aSess 2), aHdr, aSess 2, _, by decide, rfl⟩,
    ⟨{ sys := { st := .standby, svcEn := true }, cmd := { sessions := [aSess 2] } }, aHdr, aSess 2, _, _, by decide, rfl, rfl, by decide⟩,
    ⟨{ sys := { st := .standby, svcEn := false }, cmd := { sessions := [aSess 2] } }, aHdr, aSess 2, _, by decide, rfl, by decide⟩,
    ⟨cmdState .standby (aSess 2), aHdr, aSess 2, _, 2, by decide, rfl, by decide⟩,
    ⟨cmdState .standby (aSess 2), aHdr, aSess 2, _, 0, by decide, rfl, by decide⟩⟩

theorem witness_CommandsOfControl :
    (∃ (s : State) (h : Hdr) (x : CmdSession) (r : State) (code trk : Nat) (c : GuideCmd), (s.accepts h 0x0210 x = true) ∧ (r =
    s.heard h.sess x) ∧ (c = .mode code trk) ∧ (s.guideRange c = true) ∧ (r.guideRefusal 0x0210 c = none) ∧ (r.mirrors =
    false)) ∧
    (∃ (s : State) (h : Hdr) (x : CmdSession) (r : State) (north east : Word) (c : GuideCmd), (s.accepts h 0x0301 x = true) ∧
    (r = s.heard h.sess x) ∧ (c = s.guide.positionCmd false north.toInt east.toInt) ∧ (s.guideRange c = true) ∧
    (r.guideRefusal 0x0301 c = none) ∧ (r.mirrors = false)) ∧
    (∃ (s : State) (h : Hdr) (x : CmdSession) (r : State) (north east : Word) (c : GuideCmd), (s.accepts h 0x0301 x = true) ∧
    (r = s.heard h.sess x) ∧ (c = s.guide.positionCmd true north.toInt east.toInt) ∧ (s.guideRange c = true) ∧
    (r.guideRefusal 0x0301 c = none) ∧ (r.mirrors = false)) ∧
    (∃ (s : State) (h : Hdr) (x : CmdSession) (r : State) (hdg : Bam) (dir : Nat) (c : GuideCmd), (s.accepts h 0x0302 x = true)
    ∧ (r = s.heard h.sess x) ∧ (c = .heading hdg dir) ∧ (s.guideRange c = true) ∧ (r.guideRefusal 0x0302 c = none) ∧
    (r.mirrors = false)) ∧
    (∃ (s : State) (h : Hdr) (x : CmdSession) (r : State) (v a ω α : F32) (c : GuideCmd), (s.accepts h 0x0303 x = true) ∧ (r =
    s.heard h.sess x) ∧ (c = .limits v a ω α) ∧ (s.guideRange c = true) ∧ (r.guideRefusal 0x0303 c = none) ∧ (r.mirrors =
    false)) ∧
    (∃ (s : State) (h : Hdr) (x : CmdSession) (r : State) (pts : List Waypoint) (c : GuideCmd), (s.accepts h 0x0304 x = true) ∧
    (r = s.heard h.sess x) ∧ (c = .track pts) ∧ (s.guideRange c = true) ∧ (r.guideRefusal 0x0304 c = none) ∧ (r.mirrors =
    false)) ∧
    (∃ (s : State) (h : Hdr) (x : CmdSession) (r : State) (north east : Word) (rule : Nat) (c : GuideCmd), (s.accepts h 0x0305
    x = true) ∧ (r = s.heard h.sess x) ∧ (c = .follow north.toInt east.toInt rule) ∧ (s.guideRange c = true) ∧
    (r.guideRefusal 0x0305 c = none) ∧ (r.mirrors = false)) ∧
    (∃ (s : State) (h : Hdr) (x : CmdSession) (r : State) (enable : Nat) (kw : F32) (c : GuideCmd), (s.accepts h 0x0306 x =
    true) ∧ (r = s.heard h.sess x) ∧ (c = .wind (enable == 1) kw) ∧ (enable ≤ 1) ∧ (s.guideRange c = true) ∧
    (r.guideRefusal 0x0306 c = none) ∧ (r.mirrors = false)) ∧
    (∃ (s : State) (h : Hdr) (x : CmdSession) (r : State) (t use : Nat) (c : GuideCmd), (s.accepts h 0x0310 x = true) ∧ (r =
    s.heard h.sess x) ∧ (c = .thruster t (use == 1)) ∧ (use ≤ 1) ∧ (s.guideRange c = true) ∧ (r.guideRefusal 0x0310 c =
    none) ∧ (r.mirrors = false)) ∧
    (∃ (s : State) (h : Hdr) (x : CmdSession) (r : State) (i : Instr) (op : Nat) (flag : Bool) (c : GuideCmd), (asGuide s.guide
    i = some (h, op, flag, c)) ∧ (s.accepts h op x = true) ∧ (r = s.heard h.sess x) ∧ (flag = false ∨ s.guideRange c =
    false)) ∧
    (∃ (s : State) (h : Hdr) (x : CmdSession) (r : State) (i : Instr) (op : Nat) (flag : Bool) (c : GuideCmd), (asGuide s.guide
    i = some (h, op, flag, c)) ∧ (s.accepts h op x = true) ∧ (r = s.heard h.sess x) ∧ (flag = true) ∧ (s.guideRange c =
    true) ∧ (r.guideRefusal op c ≠ none)) ∧
    (∃ (s : State) (h : Hdr) (x : CmdSession) (r : State) (i : Instr) (op : Nat) (flag : Bool) (c : GuideCmd), (asGuide s.guide
    i = some (h, op, flag, c)) ∧ (s.accepts h op x = true) ∧ (r = s.heard h.sess x) ∧ (flag = true) ∧ (s.guideRange c =
    true) ∧ (r.guideRefusal op c = none) ∧ (r.mirrors = true)) ∧
    (∃ (s : State) (h : Hdr) (x : CmdSession) (r : State) (g sess : Nat), (s.accepts h 0x0320 x = true) ∧ (r = s.heard h.sess
    x) ∧ (g ≤ 4) ∧ (s.inGroup g sess = true) ∧ ((r.heddle.groups.getD g {}).cands.contains sess = true) ∧ (r.mirrors =
    false)) ∧
    (∃ (s : State) (h : Hdr) (x : CmdSession) (r : State) (g i : Nat), (s.accepts h 0x0321 x = true) ∧ (r = s.heard h.sess x) ∧
    (g ≤ 4) ∧ ((r.heddle.groups.getD g {}).opSel = some i) ∧ (r.mirrors = false)) ∧
    (∃ (s : State) (h : Hdr) (x : CmdSession) (r : State) (g sess : Nat), (s.accepts h 0x0320 x = true) ∧ (r = s.heard h.sess
    x) ∧ (4 < g ∨ s.inGroup g sess = false)) ∧
    (∃ (s : State) (h : Hdr) (x : CmdSession) (r : State) (g sess : Nat), (s.accepts h 0x0320 x = true) ∧ (r = s.heard h.sess
    x) ∧ (g ≤ 4) ∧ (s.inGroup g sess = true) ∧ ((r.heddle.groups.getD g {}).cands.contains sess = false)) ∧
    (∃ (s : State) (h : Hdr) (x : CmdSession) (r : State) (g sess : Nat), (s.accepts h 0x0320 x = true) ∧ (r = s.heard h.sess
    x) ∧ (g ≤ 4) ∧ (s.inGroup g sess = true) ∧ ((r.heddle.groups.getD g {}).cands.contains sess = true) ∧ (r.mirrors =
    true)) ∧
    (∃ (s : State) (h : Hdr) (x : CmdSession) (r : State) (g : Nat), (s.accepts h 0x0321 x = true) ∧ (r = s.heard h.sess x) ∧
    (4 < g)) ∧
    (∃ (s : State) (h : Hdr) (x : CmdSession) (r : State) (g : Nat), (s.accepts h 0x0321 x = true) ∧ (r = s.heard h.sess x) ∧
    (g ≤ 4) ∧ ((r.heddle.groups.getD g {}).opSel = none)) ∧
    (∃ (s : State) (h : Hdr) (x : CmdSession) (r : State) (g i : Nat), (s.accepts h 0x0321 x = true) ∧ (r = s.heard h.sess x) ∧
    (g ≤ 4) ∧ ((r.heddle.groups.getD g {}).opSel = some i) ∧ (r.mirrors = true)) ∧
    (∃ (s : State) (h : Hdr) (x : CmdSession) (r : State) (k : Nat), (s.accepts h 0x0311 x = true) ∧ (r = s.heard h.sess x) ∧
    (64 ≤ k ∨ (s.slotThr k).isSome = false)) ∧
    (∃ (s : State) (h : Hdr) (x : CmdSession) (r : State) (k : Nat), (s.accepts h 0x0311 x = true) ∧ (r = s.heard h.sess x) ∧
    (k < 64) ∧ ((s.slotThr k).isSome = true) ∧ (r.slotResettable k = false)) ∧
    (∃ (s : State) (h : Hdr) (x : CmdSession) (r : State) (mask : Nat), (s.accepts h 0x0910 x = true) ∧ (r = s.heard h.sess x)
    ∧ (mask = 0 ∨ 7 < mask)) ∧
    (∃ (s : State) (h : Hdr) (x : CmdSession) (r : State) (k : Nat), (s.accepts h 0x0311 x = true) ∧ (r = s.heard h.sess x) ∧
    (k < 64) ∧ ((s.slotThr k).isSome = true) ∧ (r.slotResettable k = true)) ∧
    (∃ (s : State) (h : Hdr) (x : CmdSession) (r : State) (mask : Nat), (s.accepts h 0x0910 x = true) ∧ (r = s.heard h.sess x)
    ∧ (1 ≤ mask) ∧ (mask ≤ 7) ∧ (r.gnss.run = true) ∧ (r.gnssGroups.any (fun a => nbit mask a && (r.gnss.busy.contains a
    || r.gnss.queue.contains a)) = false)) ∧
    (∃ (s : State) (h : Hdr) (x : CmdSession) (r : State) (mask : Nat), (s.accepts h 0x0910 x = true) ∧ (r = s.heard h.sess x)
    ∧ (1 ≤ mask) ∧ (mask ≤ 7) ∧ (r.gnss.run = false ∨ r.gnssGroups.any (fun a => nbit mask a && (r.gnss.busy.contains a ||
    r.gnss.queue.contains a)) = true)) :=
  ⟨⟨{ cmdState .active (aSess 1) with guide := { mode := 3 } }, aHdr, aSess 1, _, 0, 0, _, by decide, rfl, rfl, by decide, by decide, by decide⟩,
    ⟨{ cmdState .active (aSess 1) with guide := { mode := 3 } }, aHdr, aSess 1, _, 0, 0, _, by decide, rfl, rfl, by decide, by decide, by decide⟩,
    ⟨{ cmdState .active (aSess 1) with guide := { mode := 3 } }, aHdr, aSess 1, _, 0, 0, _, by decide, rfl, rfl, by decide, by decide, by decide⟩,
    ⟨{ cmdState .active (aSess 1) with guide := { mode := 3 } }, aHdr, aSess 1, _, 0, 0, _, by decide, rfl, rfl, by decide, by decide, by decide⟩,
    ⟨{ cmdState .active (aSess 1) with guide := { mode := 3 } }, aHdr, aSess 1, _, 0x3F800000, 0x3F800000, 0x3F800000, 0x3F800000, _, by decide, rfl, rfl, by decide, by decide, by decide⟩,
    ⟨{ cmdState .active (aSess 1) with guide := { mode := 3 } }, aHdr, aSess 1, _, [{ north := 0, east := 0, speed := 0, rule := 0, value := 0 }, { north := 1, east := 0, speed := 0, rule := 0, value := 0 }], _, by decide, rfl, rfl, by decide, by decide, by decide⟩,
    ⟨{ cmdState .active (aSess 1) with guide := { mode := 5 } }, aHdr, aSess 1, _, 0, 0, 0, _, by decide, rfl, rfl, by decide, by decide, by decide⟩,
    ⟨{ cmdState .active (aSess 1) with guide := { mode := 3 } }, aHdr, aSess 1, _, 1, 0, _, by decide, rfl, rfl, by decide, by decide, by decide, by decide⟩,
    ⟨{ cmdState .active (aSess 1) with guide := { mode := 3 }, draft := some slotDraft }, aHdr, aSess 1, _, 0, 1, _, by decide, rfl, rfl, by decide, by decide, by decide, by decide⟩,
    ⟨cmdState .active (aSess 1), aHdr, aSess 1, _, .setDpMode aHdr 9 0, _, _, _, rfl, by decide, rfl, by decide⟩,
    ⟨cmdState .active (aSess 1), aHdr, aSess 1, _, .setHeading aHdr 0 0, _, _, _, rfl, by decide, rfl, by decide, by decide, by decide⟩,
    ⟨{ cmdState .active (aSess 1) with sys := { st := .active, role := .lead }, draft := some pairDraft, pair := { lane0 := { up := true }, pRole := 2 } }, aHdr, aSess 1, _, .setDpMode aHdr 0 0, _, _, _, rfl, by decide, rfl, by decide, by decide, by decide, by decide⟩,
    ⟨{ cmdState .active (aSess 1) with draft := some intakeDraft, heddle := { groups := [{ cands := [1] }, {}, {}, {}, {}] } }, aHdr, aSess 1, _, 0, 1, by decide, rfl, by decide, by decide, by decide, by decide⟩,
    ⟨{ cmdState .active (aSess 1) with heddle := { groups := [{ opSel := some 1 }, {}, {}, {}, {}] } }, aHdr, aSess 1, _, 0, 1, by decide, rfl, by decide, by decide, by decide⟩,
    ⟨cmdState .active (aSess 1), aHdr, aSess 1, _, 5, 0, by decide, rfl, by decide⟩,
    ⟨{ cmdState .active (aSess 1) with draft := some intakeDraft }, aHdr, aSess 1, _, 0, 1, by decide, rfl, by decide, by decide, by decide⟩,
    ⟨{ cmdState .active (aSess 1) with sys := { st := .active, role := .lead }, draft := some { intakeDraft with pair := { mode := 1 } }, pair := { lane0 := { up := true }, pRole := 2 }, heddle := { groups := [{ cands := [1], opSel := some 1 }, {}, {}, {}, {}] } }, aHdr, aSess 1, _, 0, 1, by decide, rfl, by decide, by decide, by decide, by decide⟩,
    ⟨cmdState .active (aSess 1), aHdr, aSess 1, _, 5, by decide, rfl, by decide⟩,
    ⟨cmdState .active (aSess 1), aHdr, aSess 1, _, 0, by decide, rfl, by decide, by decide⟩,
    ⟨{ cmdState .active (aSess 1) with sys := { st := .active, role := .lead }, draft := some { intakeDraft with pair := { mode := 1 } }, pair := { lane0 := { up := true }, pRole := 2 }, heddle := { groups := [{ cands := [1], opSel := some 1 }, {}, {}, {}, {}] } }, aHdr, aSess 1, _, 0, 1, by decide, rfl, by decide, by decide, by decide⟩,
    ⟨cmdState .active (aSess 1), aHdr, aSess 1, _, 64, by decide, rfl, by decide⟩,
    ⟨{ cmdState .active (aSess 1) with draft := some slotDraft }, aHdr, aSess 1, _, 0, by decide, rfl, by decide, by decide, by decide⟩,
    ⟨cmdState .ready (aSess 2), aHdr, aSess 2, _, 0, by decide, rfl, by decide⟩,
    ⟨{ cmdState .active (aSess 1) with draft := some slotDraft, loop := { slots := [(0, { st := 4 })] } }, aHdr, aSess 1, _, 0, by decide, rfl, by decide, by decide, by decide⟩,
    ⟨{ cmdState .ready (aSess 2) with gnss := { run := true } }, aHdr, aSess 2, _, 1, by decide, rfl, by decide, by decide, by decide, by decide⟩,
    ⟨cmdState .ready (aSess 2), aHdr, aSess 2, _, 1, by decide, rfl, by decide, by decide, by decide⟩⟩

theorem witness_CommandsOfSecurity :
    (∃ (s : State) (h : Hdr) (x : CmdSession) (r : State), (s.accepts h 0x0411 x = true) ∧ (r = s.heard h.sess x)) ∧
    (∃ (s : State) (h : Hdr) (x y : CmdSession) (r : State) (flags : Nat) (t : State), (s.accepts h 0x0440 x = true) ∧ (r =
    s.heard h.sess x) ∧ (y = { x with lastRecord := (s.at 750000).otime }) ∧ (flags ≤ 1) ∧ (s.sec.inactive.present = true)
    ∧ (t =
    { r with sec := { r.sec with activeSlot := !r.sec.activeSlot, trial := true, trialBoots := 0, trialFloor := nbit flags 0 } })) ∧
    (∃ (s : State) (h : Hdr) (x : CmdSession) (r : State) (flags : Nat) (mram : Bool), (s.accepts h 0x0440 x = true) ∧ (r =
    s.heard h.sess x) ∧ (1 < flags)) ∧
    (∃ (s : State) (h : Hdr) (x : CmdSession) (r : State) (flags : Nat) (mram : Bool), (s.accepts h 0x0440 x = true) ∧ (r =
    s.heard h.sess x) ∧ (flags ≤ 1) ∧ (s.sec.inactive.present = false)) ∧
    (∃ (s : State) (h : Hdr) (x : CmdSession) (r : State) (flags : Nat), (s.accepts h 0x0440 x = true) ∧ (r = s.heard h.sess x)
    ∧ (flags ≤ 1) ∧ (s.sec.inactive.present = true)) ∧
    (∃ (s : State) (h : Hdr) (x y : CmdSession) (r : State) (kind level : Nat) (key : U64) (certOk : Bool), (s.accepts h 0x0450
    x = true) ∧ (r = s.heard h.sess x) ∧ (y = { x with lastRecord := (s.at 750000).otime }) ∧ (kind ≤ 3) ∧ ((kind = 0 ∧
    level ≤ 3) ∨ (kind ≠ 0 ∧ level = 0)) ∧ (kind = 3 ∨ certOk = true) ∧ (safetyAnchor kind level = false ∨ (s.at
    750000).holdsSafety y = true) ∧ (kind = 3) ∧ (r.sec.deny.length < 64)) ∧
    (∃ (s : State) (h : Hdr) (x y : CmdSession) (r : State) (kind level : Nat) (key : U64) (certOk : Bool), (s.accepts h 0x0450
    x = true) ∧ (r = s.heard h.sess x) ∧ (y = { x with lastRecord := (s.at 750000).otime }) ∧ (kind ≤ 3) ∧ ((kind = 0 ∧
    level ≤ 3) ∨ (kind ≠ 0 ∧ level = 0)) ∧ (kind = 3 ∨ certOk = true) ∧ (safetyAnchor kind level = false ∨ (s.at
    750000).holdsSafety y = true) ∧ (kind ≠ 3) ∧ (r.sec.anchors.length < 8)) ∧
    (∃ (s : State) (h : Hdr) (x : CmdSession) (r : State) (kind level : Nat) (key : U64) (certOk mram : Bool), (s.accepts h
    0x0450 x = true) ∧ (r = s.heard h.sess x) ∧ (3 < kind ∨ (kind = 0 ∧ 3 < level) ∨ (kind ≠ 0 ∧ level ≠ 0) ∨ (kind ≠ 3 ∧
    certOk = false))) ∧
    (∃ (s : State) (h : Hdr) (x y : CmdSession) (r : State) (kind level : Nat) (key : U64) (certOk mram : Bool), (s.accepts h
    0x0450 x = true) ∧ (r = s.heard h.sess x) ∧ (y = { x with lastRecord := (s.at 750000).otime }) ∧ (kind ≤ 3) ∧ ((kind =
    0 ∧ level ≤ 3) ∨ (kind ≠ 0 ∧ level = 0)) ∧ (kind = 3 ∨ certOk = true) ∧ (safetyAnchor kind level = true) ∧ ((s.at
    750000).holdsSafety y = false)) ∧
    (∃ (s : State) (h : Hdr) (x y : CmdSession) (r : State) (kind level : Nat) (key : U64) (certOk mram : Bool), (s.accepts h
    0x0450 x = true) ∧ (r = s.heard h.sess x) ∧ (y = { x with lastRecord := (s.at 750000).otime }) ∧ (kind ≤ 3) ∧ ((kind =
    0 ∧ level ≤ 3) ∨ (kind ≠ 0 ∧ level = 0)) ∧ (kind = 3 ∨ certOk = true) ∧ (safetyAnchor kind level = false ∨ (s.at
    750000).holdsSafety y = true) ∧ ((kind = 3 ∧ 64 ≤ r.sec.deny.length) ∨ (kind ≠ 3 ∧ 8 ≤ r.sec.anchors.length))) ∧
    (∃ (s : State) (h : Hdr) (x y : CmdSession) (r : State) (kind level : Nat) (key : U64) (certOk : Bool), (s.accepts h 0x0450
    x = true) ∧ (r = s.heard h.sess x) ∧ (y = { x with lastRecord := (s.at 750000).otime }) ∧ (kind ≤ 3) ∧ ((kind = 0 ∧
    level ≤ 3) ∨ (kind ≠ 0 ∧ level = 0)) ∧ (kind = 3 ∨ certOk = true) ∧ (safetyAnchor kind level = false ∨ (s.at
    750000).holdsSafety y = true) ∧ ((kind = 3 ∧ r.sec.deny.length < 64) ∨ (kind ≠ 3 ∧ r.sec.anchors.length < 8))) ∧
    (∃ (s : State) (h : Hdr) (x y : CmdSession) (r : State) (kind : Nat) (key : U64), (s.accepts h 0x0451 x = true) ∧ (r =
    s.heard h.sess x) ∧ (y = { x with lastRecord := (s.at 750000).otime }) ∧ (s.sec.hasEntry kind key = true) ∧ ((kind ≠ 3
    ∧ (s.sec.named kind key).any (fun a => safetyAnchor a.kind a.level) = false) ∨ (s.at 750000).holdsSafety y = true) ∧
    ((r.sec.without kind key).anchors.any (fun a => a.kind == 0 && decide (2 ≤ a.level)) = true)) ∧
    (∃ (s : State) (h : Hdr) (x : CmdSession) (r : State) (kind : Nat) (key : U64) (mram : Bool), (s.accepts h 0x0451 x = true)
    ∧ (r = s.heard h.sess x) ∧ (s.sec.hasEntry kind key = false)) ∧
    (∃ (s : State) (h : Hdr) (x y : CmdSession) (r : State) (kind : Nat) (key : U64) (mram : Bool), (s.accepts h 0x0451 x =
    true) ∧ (r = s.heard h.sess x) ∧ (y = { x with lastRecord := (s.at 750000).otime }) ∧ (s.sec.hasEntry kind key = true)
    ∧ (kind = 3 ∨ (s.sec.named kind key).any (fun a => safetyAnchor a.kind a.level) = true) ∧ ((s.at 750000).holdsSafety y
    = false)) ∧
    (∃ (s : State) (h : Hdr) (x y : CmdSession) (r : State) (kind : Nat) (key : U64) (mram : Bool), (s.accepts h 0x0451 x =
    true) ∧ (r = s.heard h.sess x) ∧ (y = { x with lastRecord := (s.at 750000).otime }) ∧ (s.sec.hasEntry kind key = true)
    ∧ ((kind ≠ 3 ∧ (s.sec.named kind key).any (fun a => safetyAnchor a.kind a.level) = false) ∨ (s.at 750000).holdsSafety
    y = true) ∧ ((r.sec.without kind key).anchors.any (fun a => a.kind == 0 && decide (2 ≤ a.level)) = false)) ∧
    (∃ (s : State) (h : Hdr) (x y : CmdSession) (r : State) (kind : Nat) (key : U64), (s.accepts h 0x0451 x = true) ∧ (r =
    s.heard h.sess x) ∧ (y = { x with lastRecord := (s.at 750000).otime }) ∧ (s.sec.hasEntry kind key = true) ∧ ((kind ≠ 3
    ∧ (s.sec.named kind key).any (fun a => safetyAnchor a.kind a.level) = false) ∨ (s.at 750000).holdsSafety y = true) ∧
    ((r.sec.without kind key).anchors.any (fun a => a.kind == 0 && decide (2 ≤ a.level)) = true)) ∧
    (∃ (s : State) (h : Hdr) (x y : CmdSession) (r : State) (img : Option Draft) (d : Draft) (id : U64), (s.accepts h 0x0410 x
    = true) ∧ (r = s.heard h.sess x) ∧ (y = { x with lastRecord := (s.at 750000).otime }) ∧ (s.staged = img) ∧ (img = some
    d) ∧ (s.draftBad img id = none) ∧ ((s.at 750000).draftPerm img y = none) ∧ (draftRefusal d = none)) ∧
    (∃ (s : State) (h : Hdr) (x : CmdSession) (r : State) (id : U64) (mram : Bool) (e : Nat), (s.accepts h 0x0410 x = true) ∧
    (r = s.heard h.sess x) ∧ (s.draftBad s.staged id = some e)) ∧
    (∃ (s : State) (h : Hdr) (x y : CmdSession) (r : State) (img : Option Draft) (d : Draft) (id : U64) (mram : Bool) (e :
    Nat), (s.accepts h 0x0410 x = true) ∧ (r = s.heard h.sess x) ∧ (y = { x with lastRecord := (s.at 750000).otime }) ∧
    (s.staged = img) ∧ (img = some d) ∧ (s.draftBad img id = none) ∧ ((s.at 750000).draftPerm img y = some e)) ∧
    (∃ (s : State) (h : Hdr) (x y : CmdSession) (r : State) (img : Option Draft) (d : Draft) (id : U64) (mram : Bool) (e :
    Word), (s.accepts h 0x0410 x = true) ∧ (r = s.heard h.sess x) ∧ (y = { x with lastRecord := (s.at 750000).otime }) ∧
    (s.staged = img) ∧ (img = some d) ∧ (s.draftBad img id = none) ∧ ((s.at 750000).draftPerm img y = none) ∧
    (draftRefusal d = some e)) ∧
    (∃ (s : State) (h : Hdr) (x y : CmdSession) (r : State) (img : Option Draft) (d : Draft) (id : U64), (s.accepts h 0x0410 x
    = true) ∧ (r = s.heard h.sess x) ∧ (y = { x with lastRecord := (s.at 750000).otime }) ∧ (s.staged = img) ∧ (img = some
    d) ∧ (s.draftBad img id = none) ∧ ((s.at 750000).draftPerm img y = none) ∧ (draftRefusal d = none)) ∧
    (∃ (s : State) (h : Hdr) (x y : CmdSession) (r : State) (img : Option Draft) (d : Draft) (id : U64), (s.accepts h 0x0412 x
    = true) ∧ (r = s.heard h.sess x) ∧ (y = { x with lastRecord := (s.at 750000).otime }) ∧ (s.prevDraft = img) ∧ (img =
    some d) ∧ (s.draftBad img id = none) ∧ ((s.at 750000).draftPerm img y = none) ∧ (draftRefusal d = none)) ∧
    (∃ (s : State) (h : Hdr) (x : CmdSession) (r : State) (id : U64) (mram : Bool) (e : Nat), (s.accepts h 0x0412 x = true) ∧
    (r = s.heard h.sess x) ∧ (s.draftBad s.prevDraft id = some e)) ∧
    (∃ (s : State) (h : Hdr) (x y : CmdSession) (r : State) (img : Option Draft) (d : Draft) (id : U64) (mram : Bool) (e :
    Nat), (s.accepts h 0x0412 x = true) ∧ (r = s.heard h.sess x) ∧ (y = { x with lastRecord := (s.at 750000).otime }) ∧
    (s.prevDraft = img) ∧ (img = some d) ∧ (s.draftBad img id = none) ∧ ((s.at 750000).draftPerm img y = some e)) ∧
    (∃ (s : State) (h : Hdr) (x y : CmdSession) (r : State) (img : Option Draft) (d : Draft) (id : U64) (mram : Bool) (e :
    Word), (s.accepts h 0x0412 x = true) ∧ (r = s.heard h.sess x) ∧ (y = { x with lastRecord := (s.at 750000).otime }) ∧
    (s.prevDraft = img) ∧ (img = some d) ∧ (s.draftBad img id = none) ∧ ((s.at 750000).draftPerm img y = none) ∧
    (draftRefusal d = some e)) ∧
    (∃ (s : State) (h : Hdr) (x y : CmdSession) (r : State) (img : Option Draft) (d : Draft) (id : U64), (s.accepts h 0x0412 x
    = true) ∧ (r = s.heard h.sess x) ∧ (y = { x with lastRecord := (s.at 750000).otime }) ∧ (s.prevDraft = img) ∧ (img =
    some d) ∧ (s.draftBad img id = none) ∧ ((s.at 750000).draftPerm img y = none) ∧ (draftRefusal d = none)) ∧
    (∃ (s : State) (h : Hdr) (x y : CmdSession) (r : State) (pw : List Byte), (s.accepts h 0x0460 x = true) ∧ (r = s.heard
    h.sess x) ∧ (y = { x with lastRecord := (s.at 750000).otime }) ∧ (passwordOk pw = true) ∧ (s.clk.est = true) ∧
    (x.grantsSafety = true) ∧ ((s.at 750000).lockedOut = false) ∧ (r.sec.matches' pw = true) ∧ (r.cmd.sessions.any (fun z
    => z.idx != y.idx && r.holdsSafety z) = false)) ∧
    (∃ (s : State) (h : Hdr) (x : CmdSession) (r : State) (pw : List Byte), (s.accepts h 0x0460 x = true) ∧ (r = s.heard h.sess
    x) ∧ (passwordOk pw = false)) ∧
    (∃ (s : State) (h : Hdr) (x : CmdSession) (r : State) (pw : List Byte), (s.accepts h 0x0460 x = true) ∧ (r = s.heard h.sess
    x) ∧ (passwordOk pw = true) ∧ (s.clk.est = false ∨ x.grantsSafety = false)) ∧
    (∃ (s : State) (h : Hdr) (x : CmdSession) (r : State) (pw : List Byte), (s.accepts h 0x0460 x = true) ∧ (r = s.heard h.sess
    x) ∧ (passwordOk pw = true) ∧ (s.clk.est = true) ∧ (x.grantsSafety = true) ∧ ((s.at 750000).lockedOut = true)) ∧
    (∃ (s : State) (h : Hdr) (x : CmdSession) (r : State) (pw : List Byte), (s.accepts h 0x0460 x = true) ∧ (r = s.heard h.sess
    x) ∧ (passwordOk pw = true) ∧ (s.clk.est = true) ∧ (x.grantsSafety = true) ∧ ((s.at 750000).lockedOut = false) ∧
    (r.sec.matches' pw = false)) ∧
    (∃ (s : State) (h : Hdr) (x y : CmdSession) (r : State) (pw : List Byte), (s.accepts h 0x0460 x = true) ∧ (r = s.heard
    h.sess x) ∧ (y = { x with lastRecord := (s.at 750000).otime }) ∧ (passwordOk pw = true) ∧ (s.clk.est = true) ∧
    (x.grantsSafety = true) ∧ ((s.at 750000).lockedOut = false) ∧ (r.sec.matches' pw = true) ∧ (r.cmd.sessions.any (fun z
    => z.idx != y.idx && r.holdsSafety z) = true)) ∧
    (∃ (s : State) (h : Hdr) (x y : CmdSession) (r : State), (s.accepts h 0x0461 x = true) ∧ (r = s.heard h.sess x) ∧ (y =
    { x with lastRecord := (s.at 750000).otime })) ∧
    (∃ (s : State) (h : Hdr) (x y : CmdSession) (r : State) (pw : List Byte) (salt : BitVec 128), (s.accepts h 0x0462 x = true)
    ∧ (r = s.heard h.sess x) ∧ (y = { x with lastRecord := (s.at 750000).otime }) ∧ (passwordOk pw = true) ∧ ((s.at
    750000).holdsSafety y = true ∨ (s.sec.password = none ∧ x.grantsSafety = true))) ∧
    (∃ (s : State) (h : Hdr) (x : CmdSession) (r : State) (pw : List Byte) (salt : BitVec 128) (mram : Bool), (s.accepts h
    0x0462 x = true) ∧ (r = s.heard h.sess x) ∧ (passwordOk pw = false)) ∧
    (∃ (s : State) (h : Hdr) (x y : CmdSession) (r : State) (pw : List Byte) (salt : BitVec 128) (mram : Bool), (s.accepts h
    0x0462 x = true) ∧ (r = s.heard h.sess x) ∧ (y = { x with lastRecord := (s.at 750000).otime }) ∧ (passwordOk pw =
    true) ∧ ((s.at 750000).holdsSafety y = false) ∧ (s.sec.password ≠ none ∨ x.grantsSafety = false)) ∧
    (∃ (s : State) (h : Hdr) (x y : CmdSession) (r : State) (pw : List Byte) (salt : BitVec 128), (s.accepts h 0x0462 x = true)
    ∧ (r = s.heard h.sess x) ∧ (y = { x with lastRecord := (s.at 750000).otime }) ∧ (passwordOk pw = true) ∧ ((s.at
    750000).holdsSafety y = true ∨ (s.sec.password = none ∧ x.grantsSafety = true))) ∧
    (∃ (s : State) (h : Hdr) (x y : CmdSession) (r : State), (s.accepts h 0x0463 x = true) ∧ (r = s.heard h.sess x) ∧ (y =
    { x with lastRecord := (s.at 750000).otime })) ∧
    (∃ (s : State) (h : Hdr) (x : CmdSession) (r : State), (s.accepts h 0x0463 x = true) ∧ (r = s.heard h.sess x)) :=
  ⟨⟨cmdState .standby (aSess 2), aHdr, aSess 2, _, by decide, rfl⟩,
    ⟨{ cmdState .standby (aSess 2) with sec := { slot1 := { present := true } } }, aHdr, aSess 2, _, _, 0, _, by decide, rfl, rfl, by decide, by decide, rfl⟩,
    ⟨cmdState .standby (aSess 2), aHdr, aSess 2, _, 2, true, by decide, rfl, by decide⟩,
    ⟨cmdState .standby (aSess 2), aHdr, aSess 2, _, 0, true, by decide, rfl, by decide, by decide⟩,
    ⟨{ cmdState .standby (aSess 2) with sec := { slot1 := { present := true } } }, aHdr, aSess 2, _, 0, by decide, rfl, by decide, by decide⟩,
    ⟨cmdState .standby (aSess 2), aHdr, aSess 2, _, _, 3, 0, 0, false, by decide, rfl, rfl, by decide, by decide, by decide, by decide, by decide, by decide⟩,
    ⟨cmdState .standby (aSess 2), aHdr, aSess 2, _, _, 0, 0, 0, true, by decide, rfl, rfl, by decide, by decide, by decide, by decide, by decide, by decide⟩,
    ⟨cmdState .standby (aSess 2), aHdr, aSess 2, _, 4, 0, 0, true, true, by decide, rfl, by decide⟩,
    ⟨cmdState .standby (aSess 2), aHdr, aSess 2, _, _, 2, 0, 0, true, true, by decide, rfl, rfl, by decide, by decide, by decide, by decide, by decide⟩,
    ⟨{ cmdState .standby (aSess 2) with sec := { deny := List.replicate 64 0 } }, aHdr, aSess 2, _, _, 3, 0, 0, true, true, by decide, rfl, rfl, by decide, by decide, by decide, by decide, by decide⟩,
    ⟨cmdState .standby (aSess 2), aHdr, aSess 2, _, _, 3, 0, 0, true, by decide, rfl, rfl, by decide, by decide, by decide, by decide, by decide⟩,
    ⟨{ cmdState .standby (aSess 2) with sec := { anchors := [{ kind := 1, level := 0, keyId := 5 }, { kind := 0, level := 2, keyId := 6 }] } }, aHdr, aSess 2, _, _, 1, 5, by decide, rfl, rfl, by decide, by decide, by decide⟩,
    ⟨cmdState .standby (aSess 2), aHdr, aSess 2, _, 1, 5, true, by decide, rfl, by decide⟩,
    ⟨{ cmdState .standby (aSess 2) with sec := { anchors := [{ kind := 2, level := 0, keyId := 5 }] } }, aHdr, aSess 2, _, _, 2, 5, true, by decide, rfl, rfl, by decide, by decide, by decide⟩,
    ⟨{ cmdState .standby (aSess 2) with sec := { anchors := [{ kind := 1, level := 0, keyId := 5 }] } }, aHdr, aSess 2, _, _, 1, 5, true, by decide, rfl, rfl, by decide, by decide, by decide⟩,
    ⟨{ cmdState .standby (aSess 2) with sec := { anchors := [{ kind := 1, level := 0, keyId := 5 }, { kind := 0, level := 2, keyId := 6 }] } }, aHdr, aSess 2, _, _, 1, 5, by decide, rfl, rfl, by decide, by decide, by decide⟩,
    ⟨{ cmdState .standby (aSess 2) with sec := { anchors := [{ kind := 1, level := 0, keyId := 5 }] }, staged := some signedDraft }, aHdr, aSess 2, _, _, some signedDraft, signedDraft, 9, by decide, rfl, rfl, rfl, rfl, by decide +kernel, by decide +kernel, by decide +kernel⟩,
    ⟨cmdState .standby (aSess 2), aHdr, aSess 2, _, 0, true, 0x1010, by decide, rfl, rfl⟩,
    ⟨{ cmdState .standby (aSess 2) with sec := { anchors := [{ kind := 1, level := 0, keyId := 5 }, { kind := 2, level := 0, keyId := 7 }] }, staged := some changedKiln }, aHdr, aSess 2, _, _, _, changedKiln, 9, true, 0x3001, by decide, rfl, rfl, rfl, rfl, by decide +kernel, by decide +kernel⟩,
    ⟨{ cmdState .standby (aSess 2) with sec := { anchors := [{ kind := 1, level := 0, keyId := 5 }] }, staged := some badDraft }, aHdr, aSess 2, _, _, _, badDraft, 9, true, 0x0413000f, by decide, rfl, rfl, rfl, rfl, by decide +kernel, by decide +kernel, by decide +kernel⟩,
    ⟨{ cmdState .standby (aSess 2) with sec := { anchors := [{ kind := 1, level := 0, keyId := 5 }] }, staged := some signedDraft }, aHdr, aSess 2, _, _, some signedDraft, signedDraft, 9, by decide, rfl, rfl, rfl, rfl, by decide +kernel, by decide +kernel, by decide +kernel⟩,
    ⟨{ cmdState .standby (aSess 2) with sec := { anchors := [{ kind := 1, level := 0, keyId := 5 }] }, prevDraft := some signedDraft }, aHdr, aSess 2, _, _, some signedDraft, signedDraft, 9, by decide, rfl, rfl, rfl, rfl, by decide +kernel, by decide +kernel, by decide +kernel⟩,
    ⟨cmdState .standby (aSess 2), aHdr, aSess 2, _, 0, true, 0x1010, by decide, rfl, rfl⟩,
    ⟨{ cmdState .standby (aSess 2) with sec := { anchors := [{ kind := 1, level := 0, keyId := 5 }, { kind := 2, level := 0, keyId := 7 }] }, prevDraft := some changedKiln }, aHdr, aSess 2, _, _, _, changedKiln, 9, true, 0x3001, by decide, rfl, rfl, rfl, rfl, by decide +kernel, by decide +kernel⟩,
    ⟨{ cmdState .standby (aSess 2) with sec := { anchors := [{ kind := 1, level := 0, keyId := 5 }] }, prevDraft := some badDraft }, aHdr, aSess 2, _, _, _, badDraft, 9, true, 0x0413000f, by decide, rfl, rfl, rfl, rfl, by decide +kernel, by decide +kernel, by decide +kernel⟩,
    ⟨{ cmdState .standby (aSess 2) with sec := { anchors := [{ kind := 1, level := 0, keyId := 5 }] }, prevDraft := some signedDraft }, aHdr, aSess 2, _, _, some signedDraft, signedDraft, 9, by decide, rfl, rfl, rfl, rfl, by decide +kernel, by decide +kernel, by decide +kernel⟩,
    ⟨{ cmdState .standby grantSess with clk := { est := true }, sec := { password := some (0, passwordHash (zeros 12) 0) } }, aHdr, grantSess, _, _, zeros 12, by decide, rfl, rfl, by decide, by decide, by decide, by decide, beq_self_eq_true (passwordHash (zeros 12) 0), by decide⟩,
    ⟨cmdState .standby (aSess 2), aHdr, aSess 2, _, [], by decide, rfl, by decide⟩,
    ⟨cmdState .standby (aSess 2), aHdr, aSess 2, _, zeros 12, by decide, rfl, by decide, by decide⟩,
    ⟨{ cmdState .standby grantSess with clk := { est := true }, sec := { lockUntil := some 900000000 } }, aHdr, grantSess, _, zeros 12, by decide, rfl, by decide, by decide, by decide, by decide⟩,
    ⟨{ cmdState .standby grantSess with clk := { est := true } }, aHdr, grantSess, _, zeros 12, by decide, rfl, by decide, by decide, by decide, by decide, rfl⟩,
    ⟨{ cmdState .standby grantSess with clk := { est := true }, cmd := { sessions := [grantSess, { safeSess with idx := 1 }] }, sec := { password := some (0, passwordHash (zeros 12) 0) } }, aHdr, grantSess, _, _, zeros 12, by decide, rfl, rfl, by decide, by decide, by decide, by decide, beq_self_eq_true (passwordHash (zeros 12) 0), by decide⟩,
    ⟨cmdState .standby (aSess 2), aHdr, aSess 2, _, _, by decide, rfl, rfl⟩,
    ⟨cmdState .standby (grantSess), aHdr, grantSess, _, _, zeros 12, 0, by decide, rfl, rfl, by decide, by decide⟩,
    ⟨cmdState .standby (aSess 2), aHdr, aSess 2, _, [], 0, true, by decide, rfl, by decide⟩,
    ⟨cmdState .standby (aSess 2), aHdr, aSess 2, _, _, zeros 12, 0, true, by decide, rfl, rfl, by decide, by decide, by decide⟩,
    ⟨cmdState .standby (grantSess), aHdr, grantSess, _, _, zeros 12, 0, by decide, rfl, rfl, by decide, by decide⟩,
    ⟨cmdState .service (aSess 2), aHdr, aSess 2, _, _, by decide, rfl, rfl⟩,
    ⟨cmdState .service (aSess 2), aHdr, aSess 2, _, by decide, rfl⟩⟩

theorem witness_CommandsOfTheShuttle :
    (∃ (s : State) (h : Hdr) (x : CmdSession) (r : State), (s.accepts h 0x0230 x = true) ∧ (r = s.heard h.sess x)) ∧
    (∃ (s : State) (h : Hdr) (x : CmdSession) (r : State), (s.accepts h 0x0230 x = true) ∧ (r = s.heard h.sess x)) ∧
    (∃ (s : State) (h : Hdr) (x : CmdSession) (r : State), (s.accepts h 0x0230 x = true) ∧ (r = s.heard h.sess x)) ∧
    (∃ (s : State) (h : Hdr) (x : CmdSession) (r : State) (a : Nat), (s.accepts h 0x0230 x = true) ∧ (r = s.heard h.sess x) ∧
    (2 < a)) ∧
    (∃ (s : State) (h : Hdr) (x : CmdSession) (r : State) (i : Nat), (s.accepts h 0x0231 x = true) ∧ (r = s.heard h.sess x) ∧
    (s.shuttle.prog.tasks.length ≤ i)) ∧
    (∃ (s : State) (h : Hdr) (x : CmdSession) (r : State) (i : Nat), (s.accepts h 0x0231 x = true) ∧ (r = s.heard h.sess x) ∧
    (i < s.shuttle.prog.tasks.length) ∧ ((r.shuttle.tasks.getD i {}).st = 2) ∧ (r.mirrors = true)) ∧
    (∃ (s : State) (h : Hdr) (x : CmdSession) (r : State) (i : Nat), (s.accepts h 0x0231 x = true) ∧ (r = s.heard h.sess x) ∧
    (i < s.shuttle.prog.tasks.length) ∧ ((r.shuttle.tasks.getD i {}).st = 2) ∧ (r.mirrors = false)) ∧
    (∃ (s : State) (h : Hdr) (x : CmdSession) (r : State) (i : Nat), (s.accepts h 0x0231 x = true) ∧ (r = s.heard h.sess x) ∧
    (i < s.shuttle.prog.tasks.length) ∧ ((r.shuttle.tasks.getD i {}).st ≠ 2)) ∧
    (∃ (s : State) (h : Hdr) (x : CmdSession) (r : State) (flags : Nat) (id : U64), (s.accepts h 0x0430 x = true) ∧ (r =
    s.heard h.sess x) ∧ (flags ≤ 1) ∧ (s.changeBad id = none) ∧ (r.changeRefusal (flags == 1) id = none) ∧ (r.mirrors =
    false)) ∧
    (∃ (s : State) (h : Hdr) (x : CmdSession) (r : State) (flags : Nat) (id : U64), (s.accepts h 0x0430 x = true) ∧ (r =
    s.heard h.sess x) ∧ (1 < flags)) ∧
    (∃ (s : State) (h : Hdr) (x : CmdSession) (r : State) (flags : Nat) (id : U64), (s.accepts h 0x0430 x = true) ∧ (r =
    s.heard h.sess x) ∧ (flags ≤ 1) ∧ (s.changeBad id ≠ none)) ∧
    (∃ (s : State) (h : Hdr) (x : CmdSession) (r : State) (flags : Nat) (id : U64) (e : Nat × Nat), (s.accepts h 0x0430 x =
    true) ∧ (r = s.heard h.sess x) ∧ (flags ≤ 1) ∧ (s.changeBad id = none) ∧ (r.changeRefusal (flags == 1) id = some e)) ∧
    (∃ (s : State) (h : Hdr) (x : CmdSession) (r : State) (flags : Nat) (id : U64), (s.accepts h 0x0430 x = true) ∧ (r =
    s.heard h.sess x) ∧ (flags ≤ 1) ∧ (s.changeBad id = none) ∧ (r.changeRefusal (flags == 1) id = none) ∧ (r.mirrors =
    true)) ∧
    (∃ (s : State) (h : Hdr) (x : CmdSession) (r : State), (s.accepts h 0x0431 x = true) ∧ (r = s.heard h.sess x)) ∧
    (∃ (s : State) (h : Hdr) (x y : CmdSession) (r : State) (o : ForceOp) (sym elem : Word) (ty : Nat) (v : U64), (s.accepts h
    0x0501 x = true) ∧ (r = s.heard h.sess x) ∧ (y = { x with lastRecord := (s.at 750000).otime }) ∧ (o = .put
    { sym := sym, elem := elem, ty := ty, value := v }) ∧ (s.forceBad o = none) ∧ (r.forceRefusal 0x0501 o = none) ∧
    (r.mirrors = false)) ∧
    (∃ (s : State) (h : Hdr) (x : CmdSession) (r : State) (o : ForceOp) (sym elem : Word) (ty : Nat) (v : U64), (s.accepts h
    0x0501 x = true) ∧ (r = s.heard h.sess x) ∧ (o = .put { sym := sym, elem := elem, ty := ty, value := v }) ∧
    (s.forceBad o = none) ∧ (r.forceRefusal 0x0501 o = none) ∧ (r.mirrors = true)) ∧
    (∃ (s : State) (h : Hdr) (x : CmdSession) (r : State) (o : ForceOp) (sym elem : Word) (ty : Nat) (v : U64), (s.accepts h
    0x0501 x = true) ∧ (r = s.heard h.sess x) ∧ (o = .put { sym := sym, elem := elem, ty := ty, value := v }) ∧
    (s.forceBad o = none) ∧ (r.forceRefusal 0x0501 o = none)) ∧
    (∃ (s : State) (h : Hdr) (x : CmdSession) (r : State) (o : ForceOp) (sym elem : Word) (ty : Nat) (v : U64) (mram : Bool) (e
    : Nat), (s.accepts h 0x0501 x = true) ∧ (r = s.heard h.sess x) ∧ (o = .put
    { sym := sym, elem := elem, ty := ty, value := v }) ∧ (s.forceBad o = some e)) ∧
    (∃ (s : State) (h : Hdr) (x : CmdSession) (r : State) (o : ForceOp) (sym elem : Word) (ty : Nat) (v : U64) (mram : Bool) (e
    : Nat × Nat), (s.accepts h 0x0501 x = true) ∧ (r = s.heard h.sess x) ∧ (o = .put
    { sym := sym, elem := elem, ty := ty, value := v }) ∧ (s.forceBad o = none) ∧ (r.forceRefusal 0x0501 o = some e)) ∧
    (∃ (s : State) (h : Hdr) (x y : CmdSession) (r : State) (o : ForceOp) (sym elem : Word), (s.accepts h 0x0502 x = true) ∧ (r
    = s.heard h.sess x) ∧ (y = { x with lastRecord := (s.at 750000).otime }) ∧ (o = .clear sym elem) ∧ (s.forceBad o =
    none) ∧ (r.forceRefusal 0x0502 o = none) ∧ (r.mirrors = false)) ∧
    (∃ (s : State) (h : Hdr) (x : CmdSession) (r : State) (o : ForceOp) (sym elem : Word), (s.accepts h 0x0502 x = true) ∧ (r =
    s.heard h.sess x) ∧ (o = .clear sym elem) ∧ (s.forceBad o = none) ∧ (r.forceRefusal 0x0502 o = none) ∧ (r.mirrors =
    true)) ∧
    (∃ (s : State) (h : Hdr) (x : CmdSession) (r : State) (o : ForceOp) (sym elem : Word), (s.accepts h 0x0502 x = true) ∧ (r =
    s.heard h.sess x) ∧ (o = .clear sym elem) ∧ (s.forceBad o = none) ∧ (r.forceRefusal 0x0502 o = none)) ∧
    (∃ (s : State) (h : Hdr) (x : CmdSession) (r : State) (o : ForceOp) (sym elem : Word) (mram : Bool) (e : Nat), (s.accepts h
    0x0502 x = true) ∧ (r = s.heard h.sess x) ∧ (o = .clear sym elem) ∧ (s.forceBad o = some e)) ∧
    (∃ (s : State) (h : Hdr) (x : CmdSession) (r : State) (o : ForceOp) (sym elem : Word) (mram : Bool) (e : Nat × Nat),
    (s.accepts h 0x0502 x = true) ∧ (r = s.heard h.sess x) ∧ (o = .clear sym elem) ∧ (s.forceBad o = none) ∧
    (r.forceRefusal 0x0502 o = some e)) ∧
    (∃ (s : State) (h : Hdr) (x y : CmdSession) (r : State) (o : ForceOp), (s.accepts h 0x0503 x = true) ∧ (r = s.heard h.sess
    x) ∧ (y = { x with lastRecord := (s.at 750000).otime }) ∧ (o = .clearAll) ∧ (s.forceBad o = none) ∧ (r.forceRefusal
    0x0503 o = none) ∧ (r.mirrors = false)) ∧
    (∃ (s : State) (h : Hdr) (x : CmdSession) (r : State) (o : ForceOp), (s.accepts h 0x0503 x = true) ∧ (r = s.heard h.sess x)
    ∧ (o = .clearAll) ∧ (s.forceBad o = none) ∧ (r.forceRefusal 0x0503 o = none) ∧ (r.mirrors = true)) ∧
    (∃ (s : State) (h : Hdr) (x : CmdSession) (r : State) (o : ForceOp), (s.accepts h 0x0503 x = true) ∧ (r = s.heard h.sess x)
    ∧ (o = .clearAll) ∧ (s.forceBad o = none) ∧ (r.forceRefusal 0x0503 o = none)) :=
  ⟨⟨cmdState .ready (aSess 2), aHdr, aSess 2, _, by decide, rfl⟩,
    ⟨cmdState .ready (aSess 2), aHdr, aSess 2, _, by decide, rfl⟩,
    ⟨cmdState .ready (aSess 2), aHdr, aSess 2, _, by decide, rfl⟩,
    ⟨cmdState .ready (aSess 2), aHdr, aSess 2, _, 3, by decide, rfl, by decide⟩,
    ⟨cmdState .ready (aSess 2), aHdr, aSess 2, _, 0, by decide, rfl, by decide⟩,
    ⟨{ cmdState .ready (aSess 2) with sys := { st := .ready, role := .lead }, draft := some pairDraft, pair := { lane0 := { up := true }, pRole := 2 }, shuttle := { prog := { tasks := [{ entry := 0 }] }, tasks := [{ st := 2 }] } }, aHdr, aSess 2, _, 0, by decide, rfl, by decide, by decide, by decide⟩,
    ⟨{ cmdState .ready (aSess 2) with shuttle := { prog := { tasks := [{ entry := 0 }] }, tasks := [{ st := 2 }] } }, aHdr, aSess 2, _, 0, by decide, rfl, by decide, by decide, by decide⟩,
    ⟨{ cmdState .ready (aSess 2) with shuttle := { prog := { tasks := [{ entry := 0 }] }, tasks := [{}] } }, aHdr, aSess 2, _, 0, by decide, rfl, by decide, by decide⟩,
    ⟨changeState, aHdr, aSess 2, _, 0, 9, by decide, rfl, by decide, by decide, by decide, by decide⟩,
    ⟨cmdState .ready (aSess 2), aHdr, aSess 2, _, 2, 0, by decide, rfl, by decide⟩,
    ⟨cmdState .ready (aSess 2), aHdr, aSess 2, _, 0, 0, by decide, rfl, by decide, by decide⟩,
    ⟨{ changeState with shuttle := { changeState.shuttle with agreed := some (0, false, none) } }, aHdr, aSess 2, _, 0, 9, (0x4001, 0), by decide, rfl, by decide, by decide, by decide⟩,
    ⟨{ changeState with sys := { st := .ready, role := .lead }, draft := some pairDraft, pair := { lane0 := { up := true }, pRole := 2, pStaged := some 9 } }, aHdr, aSess 2, _, 0, 9, by decide, rfl, by decide, by decide, by decide, by decide⟩,
    ⟨cmdState .ready (aSess 2), aHdr, aSess 2, _, by decide, rfl⟩,
    ⟨{ cmdState .ready (aSess 2) with shuttle := { forces := [{ sym := 1, elem := 0xFFFFFFFF, ty := 3, value := 0 }], prog := { syms := [{ id := 1, ty := 3, area := 3, count := 1, bit := 0 }] } } }, aHdr, aSess 2, _, _, _, 1, 0xFFFFFFFF, 3, 0, by decide, rfl, rfl, rfl, by decide, by decide, by decide⟩,
    ⟨{ cmdState .ready (aSess 2) with sys := { st := .ready, role := .lead }, draft := some pairDraft, pair := { lane0 := { up := true }, pRole := 2 }, shuttle := { forces := [{ sym := 1, elem := 0xFFFFFFFF, ty := 3, value := 0 }], prog := { syms := [{ id := 1, ty := 3, area := 3, count := 1, bit := 0 }] } } }, aHdr, aSess 2, _, _, 1, 0xFFFFFFFF, 3, 0, by decide, rfl, rfl, by decide, by decide, by decide⟩,
    ⟨{ cmdState .ready (aSess 2) with shuttle := { forces := [{ sym := 1, elem := 0xFFFFFFFF, ty := 3, value := 0 }], prog := { syms := [{ id := 1, ty := 3, area := 3, count := 1, bit := 0 }] } } }, aHdr, aSess 2, _, _, 1, 0xFFFFFFFF, 3, 0, by decide, rfl, rfl, by decide, by decide⟩,
    ⟨cmdState .ready (aSess 2), aHdr, aSess 2, _, _, 1, 0xFFFFFFFF, 3, 0, true, 0x1010, by decide, rfl, rfl, by decide⟩,
    ⟨{ cmdState .ready (aSess 2) with shuttle := { forces := List.replicate 256 { sym := 2, elem := 0xFFFFFFFF, ty := 3, value := 0 }, prog := { syms := [{ id := 1, ty := 3, area := 3, count := 1, bit := 0 }] } } }, aHdr, aSess 2, _, _, 1, 0xFFFFFFFF, 3, 0, true, _, by decide, rfl, rfl, by decide, rfl⟩,
    ⟨{ cmdState .ready (aSess 2) with shuttle := { forces := [{ sym := 1, elem := 0xFFFFFFFF, ty := 3, value := 0 }], prog := { syms := [{ id := 1, ty := 3, area := 3, count := 1, bit := 0 }] } } }, aHdr, aSess 2, _, _, _, 1, 0xFFFFFFFF, by decide, rfl, rfl, rfl, by decide, by decide, by decide⟩,
    ⟨{ cmdState .ready (aSess 2) with sys := { st := .ready, role := .lead }, draft := some pairDraft, pair := { lane0 := { up := true }, pRole := 2 }, shuttle := { forces := [{ sym := 1, elem := 0xFFFFFFFF, ty := 3, value := 0 }], prog := { syms := [{ id := 1, ty := 3, area := 3, count := 1, bit := 0 }] } } }, aHdr, aSess 2, _, _, 1, 0xFFFFFFFF, by decide, rfl, rfl, by decide, by decide, by decide⟩,
    ⟨{ cmdState .ready (aSess 2) with shuttle := { forces := [{ sym := 1, elem := 0xFFFFFFFF, ty := 3, value := 0 }], prog := { syms := [{ id := 1, ty := 3, area := 3, count := 1, bit := 0 }] } } }, aHdr, aSess 2, _, _, 1, 0xFFFFFFFF, by decide, rfl, rfl, by decide, by decide⟩,
    ⟨cmdState .ready (aSess 2), aHdr, aSess 2, _, _, 1, 0xFFFFFFFF, true, 0x1010, by decide, rfl, rfl, by decide⟩,
    ⟨{ cmdState .ready (aSess 2) with shuttle := { prog := { syms := [{ id := 1, ty := 3, area := 3, count := 1, bit := 0 }] } } }, aHdr, aSess 2, _, _, 1, 0xFFFFFFFF, true, _, by decide, rfl, rfl, by decide, rfl⟩,
    ⟨{ cmdState .ready (aSess 2) with shuttle := { forces := [{ sym := 1, elem := 0xFFFFFFFF, ty := 3, value := 0 }], prog := { syms := [{ id := 1, ty := 3, area := 3, count := 1, bit := 0 }] } } }, aHdr, aSess 2, _, _, _, by decide, rfl, rfl, rfl, by decide, by decide, by decide⟩,
    ⟨{ cmdState .ready (aSess 2) with sys := { st := .ready, role := .lead }, draft := some pairDraft, pair := { lane0 := { up := true }, pRole := 2 }, shuttle := { forces := [{ sym := 1, elem := 0xFFFFFFFF, ty := 3, value := 0 }], prog := { syms := [{ id := 1, ty := 3, area := 3, count := 1, bit := 0 }] } } }, aHdr, aSess 2, _, _, by decide, rfl, rfl, by decide, by decide, by decide⟩,
    ⟨{ cmdState .ready (aSess 2) with shuttle := { forces := [{ sym := 1, elem := 0xFFFFFFFF, ty := 3, value := 0 }], prog := { syms := [{ id := 1, ty := 3, area := 3, count := 1, bit := 0 }] } } }, aHdr, aSess 2, _, _, by decide, rfl, rfl, by decide, by decide⟩⟩

theorem witness_CommandsOfKilnPairAndTime :
    (∃ (s : State) (h : Hdr) (x : CmdSession) (r : State) (kind i : Nat) (z : CmdSession), (s.accepts h 0x0920 x = true) ∧ (r =
    s.heard h.sess x) ∧ (clearRange kind i = true) ∧ (r.cmdSess h.sess = some z)) ∧
    (∃ (s : State) (h : Hdr) (x : CmdSession) (r : State) (mask : U16) (z : CmdSession), (s.accepts h 0x0921 x = true) ∧ (r =
    s.heard h.sess x) ∧ (mask ≠ 0) ∧ (r.cmdSess h.sess = some z)) ∧
    (∃ (s : State) (h : Hdr) (x : CmdSession) (r : State) (mask v : U16) (z : CmdSession), (s.accepts h 0x0922 x = true) ∧ (r =
    s.heard h.sess x) ∧ (mask ≠ 0) ∧ (r.cmdSess h.sess = some z)) ∧
    (∃ (s : State) (h : Hdr) (x : CmdSession) (r : State) (kind i : Nat), (s.accepts h 0x0920 x = true) ∧ (r = s.heard h.sess
    x) ∧ (clearRange kind i = false)) ∧
    (∃ (s : State) (h : Hdr) (x : CmdSession) (r : State), (s.accepts h 0x0921 x = true) ∧ (r = s.heard h.sess x)) ∧
    (∃ (s : State) (h : Hdr) (x : CmdSession) (r : State) (v : U16), (s.accepts h 0x0922 x = true) ∧ (r = s.heard h.sess x)) ∧
    (∃ (s : State) (h : Hdr) (x : CmdSession) (r : State), (s.accepts h 0x0810 x = true) ∧ (r = s.heard h.sess x) ∧
    (r.inLastTwo r.pair.qualAge = true)) ∧
    (∃ (s : State) (h : Hdr) (x : CmdSession) (r : State), (s.accepts h 0x0810 x = true) ∧ (r = s.heard h.sess x) ∧
    (r.inLastTwo r.pair.qualAge = false)) ∧
    (∃ (s : State) (h : Hdr) (x : CmdSession) (r : State), (s.accepts h 0x0811 x = true) ∧ (r = s.heard h.sess x)) ∧
    (∃ (s : State) (h : Hdr) (x : CmdSession) (r : State), (s.accepts h 0x0812 x = true) ∧ (r = s.heard h.sess x) ∧
    (r.pair.linkUp = true) ∧ (r.pair.pPrint = r.pairRec.print)) ∧
    (∃ (s : State) (h : Hdr) (x : CmdSession) (r : State), (s.accepts h 0x0812 x = true) ∧ (r = s.heard h.sess x) ∧
    (r.pair.linkUp = false ∨ r.pair.pPrint ≠ r.pairRec.print)) ∧
    (∃ (s : State) (h : Hdr) (x : CmdSession) (r : State) (i use : Nat), (s.accepts h 0x0710 x = true) ∧ (r = s.heard h.sess x)
    ∧ (2 < i ∨ 1 < use)) ∧
    (∃ (s : State) (h : Hdr) (x : CmdSession) (r : State) (i : Nat), (s.accepts h 0x0710 x = true) ∧ (r = s.heard h.sess x) ∧
    (i ≤ 2) ∧ (r.rank i = none)) ∧
    (∃ (s : State) (h : Hdr) (x : CmdSession) (r : State) (i : Nat) (q : State), (s.accepts h 0x0710 x = true) ∧ (r = s.heard
    h.sess x) ∧ (i ≤ 2) ∧ (q = r.setSrc i { (r.src i) with off := true })) ∧
    (∃ (s : State) (h : Hdr) (x : CmdSession) (r : State) (i k : Nat) (q : State), (s.accepts h 0x0710 x = true) ∧ (r = s.heard
    h.sess x) ∧ (i ≤ 2) ∧ (r.rank i = some k) ∧ (q = r.setSrc i { (r.src i) with off := false })) ∧
    (∃ (s : State) (h : Hdr) (x : CmdSession) (r : State) (q : State), (s.accepts h 0x0711 x = true) ∧ (r = s.heard h.sess x) ∧
    (q = (if r.time.hold = true then r.exitHold else r))) :=
  ⟨⟨{ cmdState .standby safeSess with clk := { est := true } }, aHdr, safeSess, _, 0, 31, _, by decide, rfl, by decide, rfl⟩,
    ⟨cmdState .standby (aSess 2), aHdr, aSess 2, _, 1, _, by decide, rfl, by decide, rfl⟩,
    ⟨cmdState .standby (aSess 2), aHdr, aSess 2, _, 1, 0, _, by decide, rfl, by decide, rfl⟩,
    ⟨{ cmdState .standby safeSess with clk := { est := true } }, aHdr, safeSess, _, 9, 0, by decide, rfl, by decide⟩,
    ⟨cmdState .standby (aSess 2), aHdr, aSess 2, _, by decide, rfl⟩,
    ⟨cmdState .standby (aSess 2), aHdr, aSess 2, _, 0, by decide, rfl⟩,
    ⟨{ cmdState .active (aSess 1) with sys := { st := .active, role := .lead }, draft := some pairDraft, pair := { qualAge := 0 } }, aHdr, aSess 1, _, by decide, rfl, by decide⟩,
    ⟨{ cmdState .active (aSess 1) with sys := { st := .active, role := .lead }, draft := some pairDraft, pair := { qualAge := 9 } }, aHdr, aSess 1, _, by decide, rfl, by decide⟩,
    ⟨{ cmdState .ready (aSess 2) with sys := { st := .ready, role := .shadow }, draft := some pairDraft }, aHdr, aSess 2, _, by decide, rfl⟩,
    ⟨{ cmdState .ready (aSess 2) with sys := { st := .ready, role := .barred }, draft := some pairDraft, pair := { lane0 := { up := true } } }, aHdr, aSess 2, _, by decide, rfl, by decide, by decide⟩,
    ⟨{ cmdState .ready (aSess 2) with sys := { st := .ready, role := .barred }, draft := some pairDraft }, aHdr, aSess 2, _, by decide, rfl, by decide⟩,
    ⟨cmdState .standby (aSess 2), aHdr, aSess 2, _, 3, 0, by decide, rfl, by decide⟩,
    ⟨{ cmdState .standby (aSess 2) with draft := none }, aHdr, aSess 2, _, 0, by decide, rfl, by decide, by decide⟩,
    ⟨cmdState .standby (aSess 2), aHdr, aSess 2, _, 0, _, by decide, rfl, by decide, rfl⟩,
    ⟨{ cmdState .standby (aSess 2) with draft := some aDraft }, aHdr, aSess 2, _, 2, 1, _, by decide, rfl, by decide, by decide, rfl⟩,
    ⟨cmdState .standby (aSess 2), aHdr, aSess 2, _, _, by decide, rfl, rfl⟩⟩

theorem witness_CommandsOfMemoryAndStores :
    (∃ (s : State) (h : Hdr) (x : CmdSession) (r : State) (a n : Nat), (s.accepts h 0x0901 x = true) ∧ (r = s.heard h.sess x) ∧
    (4 ≤ n) ∧ (n ≤ 1024) ∧ (n % 4 = 0) ∧ (readable a n = true)) ∧
    (∃ (s : State) (h : Hdr) (x : CmdSession) (r : State) (a n : Nat), (s.accepts h 0x0901 x = true) ∧ (r = s.heard h.sess x) ∧
    (n < 4 ∨ 1024 < n ∨ n % 4 ≠ 0)) ∧
    (∃ (s : State) (h : Hdr) (x : CmdSession) (r : State) (a n : Nat), (s.accepts h 0x0901 x = true) ∧ (r = s.heard h.sess x) ∧
    (4 ≤ n) ∧ (n ≤ 1024) ∧ (n % 4 = 0) ∧ (readable a n = false)) ∧
    (∃ (s : State) (h : Hdr) (x y : CmdSession) (r : State) (a : Nat) (b : List Byte), (s.accepts h 0x0902 x = true) ∧ (r =
    s.heard h.sess x) ∧ (y = { x with lastRecord := (s.at 750000).otime }) ∧ (spanIn [general] a b.length = true)) ∧
    (∃ (s : State) (h : Hdr) (x y : CmdSession) (r : State) (a : Nat) (b : List Byte), (s.accepts h 0x0902 x = true) ∧ (r =
    s.heard h.sess x) ∧ (y = { x with lastRecord := (s.at 750000).otime }) ∧ (writable a b.length = true) ∧ (spanIn
    [general] a b.length = false)) ∧
    (∃ (s : State) (h : Hdr) (x : CmdSession) (r : State) (a : Nat) (b : List Byte) (mram : Bool), (s.accepts h 0x0902 x =
    true) ∧ (r = s.heard h.sess x) ∧ (writable a b.length = false)) ∧
    (∃ (s : State) (h : Hdr) (x : CmdSession) (r : State) (a : Nat) (b : List Byte), (s.accepts h 0x0902 x = true) ∧ (r =
    s.heard h.sess x) ∧ (writable a b.length = true)) ∧
    (∃ (s : State) (h : Hdr) (x : CmdSession) (r : State) (target len : Nat) (digest : List Byte), (s.accepts h 0x0A01 x =
    true) ∧ (r = s.heard h.sess x) ∧ (target = 0 ∨ 3 < target)) ∧
    (∃ (s : State) (h : Hdr) (x : CmdSession) (r : State) (target len : Nat) (digest : List Byte), (s.accepts h 0x0A01 x =
    true) ∧ (r = s.heard h.sess x) ∧ (1 ≤ target) ∧ (target ≤ 3) ∧ (r.sec.bulk ≠ none)) ∧
    (∃ (s : State) (h : Hdr) (x : CmdSession) (r : State) (target len : Nat) (digest : List Byte), (s.accepts h 0x0A01 x =
    true) ∧ (r = s.heard h.sess x) ∧ (1 ≤ target) ∧ (target ≤ 3) ∧ (r.sec.bulk = none) ∧ (targetSize target < len)) ∧
    (∃ (s : State) (h : Hdr) (x : CmdSession) (r : State) (ofs : Nat) (data : List Byte) (b : Bulk), (s.accepts h 0x0A02 x =
    true) ∧ (r = s.heard h.sess x) ∧ (s.bulkOf h.sess = some b) ∧ (ofs ≠ b.received.length)) ∧
    (∃ (s : State) (h : Hdr) (x : CmdSession) (r : State) (ofs : Nat) (data : List Byte), (s.accepts h 0x0A02 x = true) ∧ (r =
    s.heard h.sess x) ∧ (s.bulkOf h.sess = none) ∧ (r.bulkOf h.sess = none)) ∧
    (∃ (s : State) (h : Hdr) (x : CmdSession) (r : State) (img : BulkImage) (nand : Bool) (b : Bulk), (s.accepts h 0x0A03 x =
    true) ∧ (r = s.heard h.sess x) ∧ (s.bulkOf h.sess = some b) ∧ (b.received.length ≠ b.length ∨ sha256 b.received ≠
    b.digest)) ∧
    (∃ (s : State) (h : Hdr) (x : CmdSession) (r : State) (img : BulkImage) (nand : Bool) (b : Bulk), (s.accepts h 0x0A03 x =
    true) ∧ (r = s.heard h.sess x) ∧ (s.bulkOf h.sess = some b) ∧ (b.received.length = b.length) ∧ (sha256 b.received =
    b.digest) ∧ (s.imageOk b.target img = false)) ∧
    (∃ (s : State) (h : Hdr) (x : CmdSession) (r : State) (img : BulkImage) (nand : Bool), (s.accepts h 0x0A03 x = true) ∧ (r =
    s.heard h.sess x) ∧ (s.bulkOf h.sess = none) ∧ (r.bulkOf h.sess = none)) ∧
    (∃ (s : State) (h : Hdr) (x : CmdSession) (r : State) (img : BulkImage) (b : Bulk), (s.accepts h 0x0A03 x = true) ∧ (r =
    s.heard h.sess x) ∧ (s.bulkOf h.sess = some b) ∧ (r.bulkOf h.sess = some b) ∧ (b.received.length = b.length) ∧ (sha256
    b.received = b.digest) ∧ (s.imageOk b.target img = true)) ∧
    (∃ (s : State) (h : Hdr) (x : CmdSession) (r : State) (fromH fromUs toH toUs : Word) (lo hi : Nat), (s.accepts h 0x0603 x =
    true) ∧ (r = s.heard h.sess x) ∧ (lo = fromH.toNat * 3600000000 + fromUs.toNat) ∧ (hi = toH.toNat * 3600000000 +
    toUs.toNat) ∧ (3600000000 ≤ fromUs.toNat ∨ 3600000000 ≤ toUs.toNat ∨ hi < lo ∨ (s.at 750000).otime + 3600000000 < hi)) ∧
    (∃ (s : State) (h : Hdr) (x : CmdSession) (r : State) (fromH fromUs toH toUs : Word) (lo hi : Nat), (s.accepts h 0x0603 x =
    true) ∧ (r = s.heard h.sess x) ∧ (lo = fromH.toNat * 3600000000 + fromUs.toNat) ∧ (hi = toH.toNat * 3600000000 +
    toUs.toNat) ∧ (fromUs.toNat < 3600000000) ∧ (toUs.toNat < 3600000000) ∧ (lo ≤ hi) ∧ (hi ≤ (s.at 750000).otime +
    3600000000) ∧ (r.manualFreeze lo hi = none)) ∧
    (∃ (s : State) (h : Hdr) (x : CmdSession) (r : State) (i : Nat), (s.accepts h 0x0604 x = true) ∧ (r = s.heard h.sess x) ∧
    (7 < i ∨ (aget i s.sherd.freezes).isSome = false)) ∧
    (∃ (s : State) (h : Hdr) (x : CmdSession) (r : State) (i enable : Nat) (ip : Word) (port : U16) (mask decim : Nat) (mram :
    Bool), (s.accepts h 0x0605 x = true) ∧ (r = s.heard h.sess x) ∧ (3 < i ∨ 1 < enable ∨ 256 ≤ mask ∨ decim = 0 ∨ 100 <
    decim)) ∧
    (∃ (s : State) (h : Hdr) (x : CmdSession) (r : State) (i enable : Nat) (ip : Word) (port : U16) (mask decim : Nat),
    (s.accepts h 0x0605 x = true) ∧ (r = s.heard h.sess x) ∧ (i ≤ 3) ∧ (enable ≤ 1) ∧ (mask < 256) ∧ (1 ≤ decim) ∧ (decim
    ≤ 100)) ∧
    (∃ (s : State) (h : Hdr) (x : CmdSession) (r : State) (target len : Nat) (digest : List Byte), (s.accepts h 0x0A01 x =
    true) ∧ (r = s.heard h.sess x) ∧ (1 ≤ target) ∧ (target ≤ 3) ∧ (r.sec.bulk = none) ∧ (len ≤ targetSize target)) ∧
    (∃ (s : State) (h : Hdr) (x : CmdSession) (r : State) (ofs : Nat) (data : List Byte) (b : Bulk), (s.accepts h 0x0A02 x =
    true) ∧ (r = s.heard h.sess x) ∧ (s.bulkOf h.sess = some b) ∧ (r.bulkOf h.sess = some b) ∧ (ofs = b.received.length)) ∧
    (∃ (s : State) (h : Hdr) (x : CmdSession) (r : State) (img : BulkImage) (b : Bulk), (s.accepts h 0x0A03 x = true) ∧ (r =
    s.heard h.sess x) ∧ (s.bulkOf h.sess = some b) ∧ (r.bulkOf h.sess = some b) ∧ (b.received.length = b.length) ∧ (sha256
    b.received = b.digest) ∧ (s.imageOk b.target img = true)) ∧
    (∃ (s : State) (h : Hdr) (x : CmdSession) (r : State) (b : Bulk), (s.accepts h 0x0A04 x = true) ∧ (r = s.heard h.sess x) ∧
    (r.bulkOf h.sess = some b)) ∧
    (∃ (s : State) (h : Hdr) (x : CmdSession) (r : State), (s.accepts h 0x0A04 x = true) ∧ (r = s.heard h.sess x) ∧ (r.bulkOf
    h.sess = none)) ∧
    (∃ (s : State) (h : Hdr) (x : CmdSession) (r : State) (fromH fromUs toH toUs : Word) (lo hi i : Nat), (s.accepts h 0x0603 x
    = true) ∧ (r = s.heard h.sess x) ∧ (lo = fromH.toNat * 3600000000 + fromUs.toNat) ∧ (hi = toH.toNat * 3600000000 +
    toUs.toNat) ∧ (fromUs.toNat < 3600000000) ∧ (toUs.toNat < 3600000000) ∧ (lo ≤ hi) ∧ (hi ≤ (s.at 750000).otime +
    3600000000) ∧ (freeId r.sherd.freezes [0, 1, 2, 3] = some i) ∧ (r.sherd.freezeFits (aset i { lo := lo, hi := hi }
    r.sherd.freezes) = true)) ∧
    (∃ (s : State) (h : Hdr) (x : CmdSession) (r : State) (i : Nat), (s.accepts h 0x0604 x = true) ∧ (r = s.heard h.sess x) ∧
    (i ≤ 7) ∧ ((aget i s.sherd.freezes).isSome = true)) ∧
    (∃ (s : State) (h : Hdr) (x : CmdSession) (r : State) (i enable : Nat) (ip : Word) (port : U16) (mask decim : Nat),
    (s.accepts h 0x0605 x = true) ∧ (r = s.heard h.sess x) ∧ (i ≤ 3) ∧ (enable ≤ 1) ∧ (mask < 256) ∧ (1 ≤ decim) ∧ (decim
    ≤ 100)) :=
  ⟨⟨cmdState .standby (aSess 2), aHdr, aSess 2, _, 0x20000000, 4, by decide, rfl, by decide, by decide, by decide, by decide⟩,
    ⟨cmdState .standby (aSess 2), aHdr, aSess 2, _, 0x20000000, 3, by decide, rfl, by decide⟩,
    ⟨cmdState .standby (aSess 2), aHdr, aSess 2, _, 0xF0000000, 4, by decide, rfl, by decide, by decide, by decide, by decide⟩,
    ⟨cmdState .service (aSess 2), aHdr, aSess 2, _, _, 0x10000000, [1], by decide, rfl, rfl, by decide⟩,
    ⟨cmdState .service (aSess 2), aHdr, aSess 2, _, _, 0x400D0038, [0, 0, 0, 0], by decide, rfl, rfl, by decide, by decide⟩,
    ⟨cmdState .service (aSess 2), aHdr, aSess 2, _, 0x14000000, [1], true, by decide, rfl, by decide⟩,
    ⟨cmdState .service (aSess 2), aHdr, aSess 2, _, 0x10000000, [1], by decide, rfl, by decide⟩,
    ⟨cmdState .standby (aSess 2), aHdr, aSess 2, _, 0, 0, [], by decide, rfl, by decide⟩,
    ⟨{ cmdState .standby (aSess 2) with sec := { bulk := some { sess := 0, target := 1, length := 0, digest := [], lastWrite := 0 } } }, aHdr, aSess 2, _, 1, 0, [], by decide, rfl, by decide, by decide, by decide⟩,
    ⟨cmdState .standby (aSess 2), aHdr, aSess 2, _, 2, 4194305, [], by decide, rfl, by decide, by decide, rfl, by decide⟩,
    ⟨{ cmdState .standby (aSess 2) with sec := { bulk := some { sess := 0, target := 1, length := 0, digest := [], lastWrite := 0 } } }, aHdr, aSess 2, _, 1, [], _, by decide, rfl, rfl, by decide⟩,
    ⟨cmdState .standby (aSess 2), aHdr, aSess 2, _, 1, [], by decide, rfl, rfl, rfl⟩,
    ⟨{ cmdState .standby (aSess 2) with sec := { bulk := some { aBulk with length := 1 } } }, aHdr, aSess 2, _, .firmware 0 0 true, true, { aBulk with length := 1 }, by decide, rfl, rfl, .inl (by decide)⟩,
    ⟨{ cmdState .standby (aSess 2) with sec := { bulk := some aBulk } }, aHdr, aSess 2, _, .firmware 0 0 false, true, aBulk, by decide, rfl, rfl, rfl, by simp only [aBulk], by decide⟩,
    ⟨cmdState .standby (aSess 2), aHdr, aSess 2, _, .firmware 0 0 false, true, by decide, rfl, rfl, rfl⟩,
    ⟨{ cmdState .standby (aSess 2) with sec := { bulk := some aBulk } }, aHdr, aSess 2, _, .firmware 0 0 true, aBulk, by decide, rfl, rfl, rfl, rfl, by simp only [aBulk], by decide⟩,
    ⟨cmdState .standby (aSess 2), aHdr, aSess 2, _, 1, 0, 0, 0, _, _, by decide, rfl, rfl, rfl, by decide⟩,
    ⟨{ cmdState .standby (aSess 2) with sherd := { freezes := [(0, { lo := 0, hi := 1 }), (1, { lo := 0, hi := 1 }), (2, { lo := 0, hi := 1 }), (3, { lo := 0, hi := 1 })] } }, aHdr, aSess 2, _, 0, 0, 0, 1, _, _, by decide, rfl, rfl, rfl, by decide, by decide, by decide, by decide, rfl⟩,
    ⟨cmdState .standby (aSess 2), aHdr, aSess 2, _, 0, by decide, rfl, by decide⟩,
    ⟨cmdState .standby (aSess 2), aHdr, aSess 2, _, 4, 1, 0, 0, 0, 1, true, by decide, rfl, by decide⟩,
    ⟨cmdState .standby (aSess 2), aHdr, aSess 2, _, 0, 1, 0, 0, 0, 1, by decide, rfl, by decide, by decide, by decide, by decide, by decide⟩,
    ⟨cmdState .standby (aSess 2), aHdr, aSess 2, _, 1, 0, [], by decide, rfl, by decide, by decide, rfl, by decide⟩,
    ⟨{ cmdState .standby (aSess 2) with sec := { bulk := some { sess := 0, target := 1, length := 0, digest := [], lastWrite := 0 } } }, aHdr, aSess 2, _, 0, [], _, by decide, rfl, rfl, rfl, rfl⟩,
    ⟨{ cmdState .standby (aSess 2) with sec := { bulk := some aBulk } }, aHdr, aSess 2, _, .firmware 0 0 true, aBulk, by decide, rfl, rfl, rfl, rfl, by simp only [aBulk], by decide⟩,
    ⟨{ cmdState .standby (aSess 2) with sec := { bulk := some { sess := 0, target := 1, length := 0, digest := [], lastWrite := 0 } } }, aHdr, aSess 2, _, _, by decide, rfl, rfl⟩,
    ⟨cmdState .standby (aSess 2), aHdr, aSess 2, _, by decide, rfl, rfl⟩,
    ⟨cmdState .standby (aSess 2), aHdr, aSess 2, _, 0, 0, 0, 1, _, _, 0, by decide, rfl, rfl, rfl, by decide, by decide, by decide, by decide, by decide, by decide⟩,
    ⟨{ cmdState .standby (aSess 2) with sherd := { freezes := [(0, { lo := 0, hi := 1 })] } }, aHdr, aSess 2, _, 0, by decide, rfl, by decide, by decide⟩,
    ⟨cmdState .standby (aSess 2), aHdr, aSess 2, _, 0, 1, 0, 0, 0, 1, by decide, rfl, by decide, by decide, by decide, by decide, by decide⟩⟩

end Sys2Proof.Machine
end

section
/-! The beat count (R51, R77): of all that a beat edge does, only the Warp's own part changes the count. -/

namespace Sys2Proof.Machine

/-! ### parts of a beat edge that leave the Warp as it was -/

@[simp] theorem State.gnssFollow_warp (s : State) : s.gnssFollow.warp = s.warp := by
  simp [State.gnssFollow, State.gnssStart]

/-- A new module state brings no change of the Warp: beats begin and stop by operations of their own. -/
@[simp] theorem State.setSt_warp (s : State) (new : ModState) : (s.setSt new).warp = s.warp := by
  cases new <;> simp [State.setSt, State.openSlots]

@[simp] theorem State.pendingAtEdge_warp (s : State) : s.pendingAtEdge.warp = s.warp := by
  unfold State.pendingAtEdge
  split <;> simp

@[simp] theorem State.enterAtEdge_warp (s : State) : s.enterAtEdge.warp = s.warp := by
  simp [State.enterAtEdge]

@[simp] theorem State.applyCommands_warp (s : State) : s.applyCommands.warp = s.warp := by
  unfold State.applyCommands
  extract_lets due before s1 leads lifted
  have hs1 : s1.warp = s.warp := foldl_warp _ (fun a t => by dsimp only; (repeat' split) <;> simp) _ _
  rw [foldl_warp _ (fun a i => by simp), hs1]

@[simp] theorem State.latchCommands_warp (s : State) : s.latchCommands.warp = s.warp := by
  unfold State.latchCommands
  exact foldl_warp _ (fun a c => by split <;> simp) _ _

@[simp] theorem State.availability_warp (s : State) : s.availability.warp = s.warp := by
  unfold State.availability
  exact foldl_warp _ (fun a t => by split <;> simp) _ _

@[simp] theorem State.latchRole_warp (s : State) : s.latchRole.warp = s.warp := rfl

@[simp] theorem State.logTau_warp (s : State) : s.logTau.warp = s.warp := by
  simp [State.logTau]

@[simp] theorem State.beatSync_warp (s : State) : s.beatSync.warp = s.warp := by
  simp [State.beatSync]

@[simp] theorem State.syncCapture_warp (s : State) : s.syncCapture.warp = s.warp := by
  simp [State.syncCapture]

/-! ### the count itself -/

@[simp] theorem State.markLive_beatCount (s : State) : s.markLive.warp.beatCount = s.warp.beatCount := rfl
@[simp] theorem State.startBeat_beatCount (s : State) : s.startBeat.warp.beatCount = s.warp.beatCount := rfl
@[simp] theorem State.dropBeat_beatCount (s : State) : s.dropBeat.warp.beatCount = s.warp.beatCount := by
  simp [State.dropBeat]

/-- The Warp counts an edge before its edge check, so a dropped beat counts as a started one does (R51). -/
theorem State.warpEdge_beatCount (s : State) :
    s.warpEdge.warp.beatCount = if s.warp.run then s.warp.beatCount + 1 else 0 := by
  unfold State.warpEdge
  extract_lets w s1
  split
  · exact State.startBeat_beatCount s1
  · exact State.dropBeat_beatCount s1

/-- What the whole command makes of the count at an edge that is due. -/
theorem exec_beatEdge_beatCount (s : State) (due : s.edgeDue = true) : Completes (exec .beatEdge s) (fun t =>
    t.warp.beatCount = if s.warp.run then s.warp.beatCount + 1 else 0) := by
  refine ⟨_, rfl, ?_⟩
  have counted := State.warpEdge_beatCount (s.at 0).applyCommands
  simp only [State.applyCommands_warp, State.at_frame] at counted
  simp only [due, Bool.not_true, Bool.false_eq_true, if_false, State.syncCapture_warp, State.beatSync_warp,
    State.logTau_warp]
  split <;> simp [counted]

/-! ### the registers of the count (R76, R77) -/

theorem State.warpReg_beatH (s : State) : s.warpReg 0x14 = hi32 s.warp.beatCount := rfl
theorem State.warpReg_beatL (s : State) : s.warpReg 0x10 = s.warp.beatL := rfl

theorem exec_warpBeatHRead_latches (s : State) : Completes (exec .warpBeatHRead s) (fun t =>
    t.warpReg 0x10 = lo32 s.warp.beatCount) :=
  ⟨_, rfl, by simp [State.warpReg_beatL, State.latchBeat]⟩

end Sys2Proof.Machine

open Sys2Proof Sys2Proof.Machine

/-- Settles O13: the Warp's part of the edge sets the count, nothing else at the edge touches it, and the registers
read it. -/
theorem beatCount : Obligations.BeatCount := by
  unfold Obligations.BeatCount
  refine ⟨fun s due stopped => ?_, fun s due runs => ?_, exec_warpBeatHRead_latches⟩
  · obtain ⟨t, next, count⟩ := exec_beatEdge_beatCount s due
    have zero : t.warp.beatCount = 0 := by simpa [stopped] using count
    exact ⟨t, next, zero, by rw [State.warpReg_beatH, zero]; rfl⟩
  · obtain ⟨t, next, count⟩ := exec_beatEdge_beatCount s due
    have succ : t.warp.beatCount = s.warp.beatCount + 1 := by simpa [runs] using count
    exact ⟨t, next, succ, by rw [State.warpReg_beatH, succ]; rfl⟩

end

section

/-! The fixed check-value sets (R613): which they are in every state, and what they compute. -/

namespace Sys2Proof.Machine

/-- Below index 4 the lookup never reaches the Draft: so no Draft can redefine a fixed set (R613). -/
theorem State.glazeSet_of_lt_four (s : State) {i : Nat} (fixed : i < 4) : s.glazeSet i = fixedSets[i]? := if_pos fixed

/-- The check column of R613's table, over the nine ASCII bytes 123456789. -/
theorem fixedSets_checkValues :
    fixedSets.map (fun g => glazeCheck g [0x31, 0x32, 0x33, 0x34, 0x35, 0x36, 0x37, 0x38, 0x39])
      = [0xE3069283, 0xCBF43926, 0xCDE703, 0x29B1] := by
  decide +kernel

end Sys2Proof.Machine

open Sys2Proof Sys2Proof.Machine

/-- Settles O11: below index 4 every state looks its set up in the one fixed table, whose check column is computed row
by row. -/
theorem fixedGlazeSets : Obligations.FixedGlazeSets := by
  unfold Obligations.FixedGlazeSets
  refine ⟨fun s => ?_, fun s g i fixed isSet => ?_⟩
  · have row {i : Nat} (fixed : i < 4) := s.glazeSet_of_lt_four fixed
    exact ⟨row (by decide), row (by decide), row (by decide), row (by decide)⟩
  · rw [s.glazeSet_of_lt_four fixed] at isSet
    rw [← fixedSets_checkValues, List.getD_eq_getElem?_getD, List.getElem?_map, isSet, Option.map_some, Option.getD_some]

end

section

/-! STATE2, STATE1 and STATE0 (R689): boot failure is the one row of the table that does not go by the state alone. -/

namespace Sys2Proof.Machine

/-- The last row of R689's table, which R540 sets apart: both firmware slots failed. -/
theorem State.leds_of_bootFailed {s : State} (st : s.sys.st = .boot) (failed : s.sys.bootFailed = true) :
    s.leds = .blink 4 :=
  if_pos (by simp [st, failed])

/-- BOOT's own row holds as long as one firmware slot is left. -/
theorem State.leds_of_not_bootFailed {s : State} (ok : s.sys.bootFailed = false) : s.leds = ledsOf s.sys.st :=
  if_neg (by simp [ok])

/-- Outside BOOT the boot failure plays no part. -/
theorem State.leds_of_ne_boot {s : State} {m : ModState} (other : m ≠ .boot) (st : s.sys.st = m) :
    s.leds = ledsOf m := by
  subst st
  exact if_neg (by simp [other])

end Sys2Proof.Machine

open Sys2Proof Sys2Proof.Machine

/-- Settles O12: outside BOOT the lands show the state's row, and within BOOT the flag of the failed slots chooses the
row. -/
theorem stateLamps : Obligations.StateLamps := by
  unfold Obligations.StateLamps
  refine ⟨fun s => ?_, fun s failed st => State.leds_of_bootFailed st failed⟩
  have row {m : ModState} (other : m ≠ .boot) := State.leds_of_ne_boot (s := s) other
  have bootRow (st : s.sys.st = .boot) (ok : s.sys.bootFailed = false) : s.leds = ledsOf .boot :=
    st ▸ State.leds_of_not_bootFailed ok
  exact ⟨row (by decide), bootRow, row (by decide), row (by decide), row (by decide), row (by decide), row (by decide),
    row (by decide), row (by decide)⟩

end

section

/-! What every command does to the General SRAM and to the queue of waiting commands, once for all commands. -/

namespace Sys2Proof.Machine

/-- Most meanings are one next state outright; the rest choose between next states. -/
theorem exec_answers (i : Sys2Proof.Instr) (s : State) : ∃ t, exec i s = .next t := by
  cases i
  case recordComplete | telegramDecode | driveStatusReceive | groupTrainingStart | groupTrainingComplete |
      groupRetrainTimer | acquisitionSearchComplete | demandList | accumulationDump | loopUpdate | featureGrid |
      commonLatch | rawRecordPost | positionRecordPost | attitudeRecordPost | withdrawalEnd | ptpSyncReceive |
      followUpReceive | announceReceive | delayRespReceive | pdelayRespReceive | ringPtpForward | ptpSourceTimeout |
      suspectReturn | dtimeStep | ppsPulse | tpvalidChange | commandSessionTimeout | safetyExpiry | portLinkUp |
      portLinkDown | ringFrameForward | admissionOpen | uartCharacterReceive | canFrameReceive | outputSessionSend |
      unknownOpcode | dtlsHandshakeComplete | canBusError | delayReqSend | pdelayReqSend | announceSend =>
    simp only [exec, execRecordComplete, execTelegramDecode, execDriveStatusReceive, execGroupTrainingStart,
      execGroupTrainingComplete, execGroupRetrainTimer, execAcquisitionSearchComplete, execDemandList,
      execAccumulationDump, execLoopUpdate, execFeatureGrid, execCommonLatch, execRawRecordPost,
      execPositionRecordPost, execAttitudeRecordPost, execWithdrawalEnd, execPtpSyncReceive, execFollowUpReceive,
      execAnnounceReceive, execDelayRespReceive, execPdelayRespReceive, execRingPtpForward, execPtpSourceTimeout,
      execSuspectReturn, execDtimeStep, execPpsPulse, execTpvalidChange, execCommandSessionTimeout, execSafetyExpiry,
      execPortLinkUp, execPortLinkDown, execRingFrameForward, execAdmissionOpen, execUartCharacterReceive,
      execCanFrameReceive, execOutputSessionSend, execUnknownOpcode, execDtlsHandshakeComplete, execCanBusError,
      execDelayReqSend, execPdelayReqSend, execAnnounceSend]
    (repeat' split) <;> exact ⟨_, rfl⟩
  all_goals exact ⟨_, rfl⟩

/-- The commands that write the General SRAM from outside, and the loss of power. -/
def writesSram : Sys2Proof.Instr → Bool
  | .memWrite .. | .monWr _ | .holdUpEnd => true
  | _ => false

theorem writer_of_writesSram {i : Sys2Proof.Instr} (writes : writesSram i = true) :
    (∃ h a b m, i = .memWrite h a b m) ∨ (∃ m, i = .monWr m) ∨ i = .holdUpEnd := by
  unfold writesSram at writes
  split at writes
  · exact .inl ⟨_, _, _, _, rfl⟩
  · exact .inr (.inl ⟨_, rfl⟩)
  · exact .inr (.inr rfl)
  · cases writes

theorem exec_keep {i : Sys2Proof.Instr} (spares : writesSram i = false) (s : State) :
    After (exec i s) (fun t => t.mem = s.mem ∧ t.pending = s.pending) := by
  cases i with
  | powerUp rtc => exact execPowerUp_keep rtc s
  | powerFailWarning => exact execPowerFailWarning_keep s
  | warningWithdrawn => exact execWarningWithdrawn_keep s
  | holdUpEnd => cases spares
  | rstNLow => exact execRstNLow_keep s
  | pmicWatchdogExpiry => exact execPmicWatchdogExpiry_keep s
  | railFault rail => exact execRailFault_keep rail s
  | thermalShutdown => exact execThermalShutdown_keep s
  | thermalRecovery tBase tLoom tKiln tPmic rtc => exact execThermalRecovery_keep tBase tLoom tKiln tPmic rtc s
  | vinOutOfBand => exact execVinOutOfBand_keep s
  | holdCapacitanceMeasure us => exact execHoldCapacitanceMeasure_keep us s
  | holdChargeTimeout => exact execHoldChargeTimeout_keep s
  | bootVerifyComplete seat ok0 ok1 us => exact execBootVerifyComplete_keep seat ok0 ok1 us s
  | selftestComplete ok trips glazeBad draftWhole hits damaged => exact execSelftestComplete_keep ok trips glazeBad draftWhole hits damaged s
  | clockComparison counts half => exact execClockComparison_keep counts half s
  | otimeSave => exact execOtimeSave_keep s
  | pickTick netUs spare streams exc svcEn pw => exact execPickTick_keep netUs spare streams exc svcEn pw s
  | beatEdge => exact execBeatEdge_keep s
  | dropWindowDegrade => exact execDropWindowDegrade_keep s
  | dropWindowClear => exact execDropWindowClear_keep s
  | dropRunSafe => exact execDropRunSafe_keep s
  | intake => exact execIntake_keep s
  | projectAndVote => exact execProjectAndVote_keep s
  | observe => exact execObserve_keep s
  | maxDeadReckoningTime t => exact execMaxDeadReckoningTime_keep t s
  | waveFrequencyUpdate => exact execWaveFrequencyUpdate_keep s
  | obsWarmRecordWrite => exact execObsWarmRecordWrite_keep s
  | beatTaskRelease => exact execBeatTaskRelease_keep s
  | guide t => exact execGuide_keep t s
  | softStartComplete => exact execSoftStartComplete_keep s
  | solveStart ecc t => exact execSolveStart_keep ecc t s
  | wheelIteration residues ecc t => exact execWheelIteration_keep residues ecc t s
  | coneSolveDeadline residues ecc sent => exact execConeSolveDeadline_keep residues ecc sent s
  | wheelDegradedEntry => exact execWheelDegradedEntry_keep s
  | wheelDegradedEnd => exact execWheelDegradedEnd_keep s
  | wheelMissSafe => exact execWheelMissSafe_keep s
  | wheelRecordCopy => exact execWheelRecordCopy_keep s
  | consequenceCycleStart => exact execConsequenceCycleStart_keep s
  | consequenceScenarioEnd residues ecc => exact execConsequenceScenarioEnd_keep residues ecc s
  | record t => exact execRecord_keep t s
  | recordComplete t => exact execRecordComplete_keep t s
  | coneStageOverrun observe => exact execConeStageOverrun_keep observe s
  | coneGuideLate => exact execConeGuideLate_keep s
  | coneTelegramsLate sent => exact execConeTelegramsLate_keep sent s
  | coneWithholdLimit sent => exact execConeWithholdLimit_keep sent s
  | coneRecordLate t => exact execConeRecordLate_keep t s
  | conePhaseBackLate => exact execConePhaseBackLate_keep s
  | coneLoopOverrun => exact execConeLoopOverrun_keep s
  | coneShuttleOverrun tick => exact execConeShuttleOverrun_keep tick s
  | scrubLate mram => exact execScrubLate_keep mram s
  | telegramDecode => exact execTelegramDecode_keep s
  | trackTimeout k t => exact execTrackTimeout_keep k t s
  | sessionStale ix t => exact execSessionStale_keep ix t s
  | sessionLost ix t => exact execSessionLost_keep ix t s
  | sessionUnbar ix t => exact execSessionUnbar_keep ix t s
  | fastInputChange k level t => exact execFastInputChange_keep k level t s
  | gooseFrameReceive p appid src gocb st sq ttl sim m t => exact execGooseFrameReceive_keep p appid src gocb st sq ttl sim m t s
  | gooseStale ix t => exact execGooseStale_keep ix t s
  | breakerIntermediateTimeout tie ix src t => exact execBreakerIntermediateTimeout_keep tie ix src t s
  | breakerDisagreement tie ix t => exact execBreakerDisagreement_keep tie ix t s
  | generatorOnline g t => exact execGeneratorOnline_keep g t s
  | tripCheck sent react => exact execTripCheck_keep sent react s
  | driveStatusReceive ix b t => exact execDriveStatusReceive_keep ix b t s
  | loopEngineRun late => exact execLoopEngineRun_keep late s
  | slotSoftComplete k => exact execSlotSoftComplete_keep k s
  | followingErrorTimeout k => exact execFollowingErrorTimeout_keep k s
  | slotAutoRecovery k => exact execSlotAutoRecovery_keep k s
  | periodSourceInvalid k => exact execPeriodSourceInvalid_keep k s
  | resetLoopSlot h k => exact execResetLoopSlot_keep h k s
  | groupTrainingStart a => exact execGroupTrainingStart_keep a s
  | groupTrainingComplete a res => exact execGroupTrainingComplete_keep a res s
  | groupRetrainTimer a => exact execGroupRetrainTimer_keep a s
  | gnssRetrain h mask => exact execGnssRetrain_keep h mask s
  | acquisitionSearchComplete d => exact execAcquisitionSearchComplete_keep d s
  | demandList sats load => exact execDemandList_keep sats load s
  | channelLostTimeout c => exact execChannelLostTimeout_keep c s
  | accumulationDump c v t => exact execAccumulationDump_keep c v t s
  | loopUpdate c car cod slew t => exact execLoopUpdate_keep c car cod slew t s
  | featureGrid scores => exact execFeatureGrid_keep scores s
  | commonLatch v => exact execCommonLatch_keep v s
  | rawRecordPost t => exact execRawRecordPost_keep t s
  | positionRecordPost t => exact execPositionRecordPost_keep t s
  | attitudeRecordPost t => exact execAttitudeRecordPost_keep t s
  | gnssRecordDiscard t => exact execGnssRecordDiscard_keep t s
  | exclusionHoldExpiry => exact execExclusionHoldExpiry_keep s
  | withdrawalEnd com => exact execWithdrawalEnd_keep com s
  | rtcmMessageReceive ix b t => exact execRtcmMessageReceive_keep ix b t s
  | ptpSyncReceive ix p twoStep seq t1 corr t2 logInt v => exact execPtpSyncReceive_keep ix p twoStep seq t1 corr t2 logInt v s
  | followUpReceive ix p seq t1 corr v b bad => exact execFollowUpReceive_keep ix p seq t1 corr v b bad s
  | announceReceive ix a => exact execAnnounceReceive_keep ix a s
  | delayRespReceive ix p seq t4 => exact execDelayRespReceive_keep ix p seq t4 s
  | delayReqReceive ix p seq t => exact execDelayReqReceive_keep ix p seq t s
  | pdelayReqReceive p seq t => exact execPdelayReqReceive_keep p seq t s
  | pdelayRespReceive p seq t4 turn => exact execPdelayRespReceive_keep p seq t4 turn s
  | managementMessageReceive => exact execManagementMessageReceive_keep s
  | ringPtpForward ing seq sync twoStep udp bad corr residence b => exact execRingPtpForward_keep ing seq sync twoStep udp bad corr residence b s
  | masterSyncSend ix => exact execMasterSyncSend_keep ix s
  | ringSyncSend => exact execRingSyncSend_keep s
  | ptpSourceTimeout ix => exact execPtpSourceTimeout_keep ix s
  | sourceQualified ix => exact execSourceQualified_keep ix s
  | sourceFaultExpiry ix => exact execSourceFaultExpiry_keep ix s
  | suspectReturn ix => exact execSuspectReturn_keep ix s
  | dtimeStep => exact execDtimeStep_keep s
  | holdoverLimit => exact execHoldoverLimit_keep s
  | refinQualify devs => exact execRefinQualify_keep devs s
  | refinFailure edge dev ratio => exact execRefinFailure_keep edge dev ratio s
  | refinRestore ratio => exact execRefinRestore_keep ratio s
  | tcxoFailure edge dev => exact execTcxoFailure_keep edge dev s
  | leapSecondApply => exact execLeapSecondApply_keep s
  | ppsPulse n t => exact execPpsPulse_keep n t s
  | tpvalidChange => exact execTpvalidChange_keep s
  | timeStatus h => exact execTimeStatus_keep h s
  | timeSourceUse h ix use' => exact execTimeSourceUse_keep h ix use' s
  | timeReestablish h => exact execTimeReestablish_keep h s
  | kilnSampleCycle z => exact execKilnSampleCycle_keep z s
  | discrepancyFault n => exact execDiscrepancyFault_keep n s
  | testPulseStart n => exact execTestPulseStart_keep n s
  | testPulseEnd n => exact execTestPulseEnd_keep n s
  | openLoadWarning o => exact execOpenLoadWarning_keep o s
  | fieldSupplyFault f => exact execFieldSupplyFault_keep f s
  | fieldSupplyRestore f => exact execFieldSupplyRestore_keep f s
  | switchTestStart o => exact execSwitchTestStart_keep o s
  | switchTestPhaseEnd o => exact execSwitchTestPhaseEnd_keep o s
  | switchTestOverdue o => exact execSwitchTestOverdue_keep o s
  | offDelayExpiry o => exact execOffDelayExpiry_keep o s
  | resetInputRelease n => exact execResetInputRelease_keep n s
  | tripLineAssert => exact execTripLineAssert_keep s
  | tripClear quiet => exact execTripClear_keep quiet s
  | heartbeatExchange chal bad badUp cyc => exact execHeartbeatExchange_keep chal bad badUp cyc s
  | heartbeatTimeout c => exact execHeartbeatTimeout_keep c s
  | commandCopyCheck err => exact execCommandCopyCheck_keep err s
  | kilnTableLoad => exact execKilnTableLoad_keep s
  | kilnClear h kind index => exact execKilnClear_keep h kind index s
  | kilnSwitchTest h mask => exact execKilnSwitchTest_keep h mask s
  | kilnWithhold h mask values => exact execKilnWithhold_keep h mask values s
  | mailboxClear arg => exact execMailboxClear_keep arg s
  | mailboxSwitchTest arg => exact execMailboxSwitchTest_keep arg s
  | mailboxReadTable arg => exact execMailboxReadTable_keep arg s
  | withholdMaskWrite v => exact execWithholdMaskWrite_keep v s
  | crossTripLineLevel x high held => exact execCrossTripLineLevel_keep x high held s
  | claimFrameSend line => exact execClaimFrameSend_keep line s
  | claimLineFree => exact execClaimLineFree_keep s
  | lclmFault c => exact execLclmFault_keep c s
  | fastFrameSend => exact execFastFrameSend_keep s
  | stateFrameSend => exact execStateFrameSend_keep s
  | fastFrameReceive lane b t rtt => exact execFastFrameReceive_keep lane b t rtt s
  | stateFrameReceive lane ok b => exact execStateFrameReceive_keep lane ok b s
  | doryoLaneTimeout lane => exact execDoryoLaneTimeout_keep lane s
  | takeover => exact execTakeover_keep s
  | armDelayExpiry => exact execArmDelayExpiry_keep s
  | pairStatus h => exact execPairStatus_keep h s
  | pairTransfer h => exact execPairTransfer_keep h s
  | pairBar h => exact execPairBar_keep h s
  | pairUnbar h => exact execPairUnbar_keep h s
  | pickTaskRelease => exact execPickTaskRelease_keep s
  | taskWatchdog ix t => exact execTaskWatchdog_keep ix t s
  | beatTaskLimit t => exact execBeatTaskLimit_keep t s
  | syncImageApply => exact execSyncImageApply_keep s
  | onlineChangeSwitch => exact execOnlineChangeSwitch_keep s
  | onlineChangeAbandon => exact execOnlineChangeAbandon_keep s
  | twNop => exact execTwNop_keep s
  | twLd => exact execTwLd_keep s
  | twSt => exact execTwSt_keep s
  | twDup => exact execTwDup_keep s
  | twDrop => exact execTwDrop_keep s
  | twSwap => exact execTwSwap_keep s
  | twLdx => exact execTwLdx_keep s
  | twStx => exact execTwStx_keep s
  | twAdd => exact execTwAdd_keep s
  | twSub => exact execTwSub_keep s
  | twMul => exact execTwMul_keep s
  | twDiv => exact execTwDiv_keep s
  | twMod => exact execTwMod_keep s
  | twNeg => exact execTwNeg_keep s
  | twAbs => exact execTwAbs_keep s
  | twMin => exact execTwMin_keep s
  | twMax => exact execTwMax_keep s
  | twLimit => exact execTwLimit_keep s
  | twSqrt => exact execTwSqrt_keep s
  | twSin => exact execTwSin_keep s
  | twCos => exact execTwCos_keep s
  | twAtan2 => exact execTwAtan2_keep s
  | twExp => exact execTwExp_keep s
  | twLn => exact execTwLn_keep s
  | twAnd => exact execTwAnd_keep s
  | twOr => exact execTwOr_keep s
  | twXor => exact execTwXor_keep s
  | twNot => exact execTwNot_keep s
  | twShl => exact execTwShl_keep s
  | twShr => exact execTwShr_keep s
  | twRol => exact execTwRol_keep s
  | twRor => exact execTwRor_keep s
  | twEq => exact execTwEq_keep s
  | twNe => exact execTwNe_keep s
  | twLt => exact execTwLt_keep s
  | twLe => exact execTwLe_keep s
  | twGt => exact execTwGt_keep s
  | twGe => exact execTwGe_keep s
  | twSel => exact execTwSel_keep s
  | twCvt => exact execTwCvt_keep s
  | twJmp => exact execTwJmp_keep s
  | twJmpc => exact execTwJmpc_keep s
  | twJmpcn => exact execTwJmpcn_keep s
  | twCall => exact execTwCall_keep s
  | twRet => exact execTwRet_keep s
  | twEnd t => exact execTwEnd_keep t s
  | twTon => exact execTwTon_keep s
  | twTof => exact execTwTof_keep s
  | twTp => exact execTwTp_keep s
  | twCtu => exact execTwCtu_keep s
  | twCtd => exact execTwCtd_keep s
  | twCtud => exact execTwCtud_keep s
  | twRTrig => exact execTwRTrig_keep s
  | twFTrig => exact execTwFTrig_keep s
  | twSr => exact execTwSr_keep s
  | twRs => exact execTwRs_keep s
  | twEvt => exact execTwEvt_keep s
  | shuttleRun h action => exact execShuttleRun_keep h action s
  | shuttleTaskRestart h ix => exact execShuttleTaskRestart_keep h ix s
  | onlineChange h flags id => exact execOnlineChange_keep h flags id s
  | onlineChangeDiscard h => exact execOnlineChangeDiscard_keep h s
  | forceSet h sym elem ty value mram => exact execForceSet_keep h sym elem ty value mram s
  | forceClear h sym elem mram => exact execForceClear_keep h sym elem mram s
  | forceClearAll h mram => exact execForceClearAll_keep h mram s
  | forceList h first => exact execForceList_keep h first s
  | ping h => exact execPing_keep h s
  | getIdentity h => exact execGetIdentity_keep h s
  | getState h => exact execGetState_keep h s
  | getCertificate h start => exact execGetCertificate_keep h start s
  | getDraftInfo h => exact execGetDraftInfo_keep h s
  | goReady h => exact execGoReady_keep h s
  | goActive h => exact execGoActive_keep h s
  | goSafe h => exact execGoSafe_keep h s
  | leaveSafe h => exact execLeaveSafe_keep h s
  | goStandby h => exact execGoStandby_keep h s
  | enterService h => exact execEnterService_keep h s
  | restart h kind => exact execRestart_keep h kind s
  | setDpMode h code trk => exact execSetDpMode_keep h code trk s
  | setPosition h flag north east => exact execSetPosition_keep h flag north east s
  | setHeading h hdg dir => exact execSetHeading_keep h hdg dir s
  | setMotionLimits h v a r y => exact execSetMotionLimits_keep h v a r y s
  | loadTrack h pts => exact execLoadTrack_keep h pts s
  | setFollow h north east rule => exact execSetFollow_keep h north east rule s
  | setWindFf h enable kw => exact execSetWindFf_keep h enable kw s
  | setThrusterUse h t use' => exact execSetThrusterUse_keep h t use' s
  | selectReference h g sess => exact execSelectReference_keep h g sess s
  | releaseReference h g => exact execReleaseReference_keep h g s
  | draftActivate h id mram => exact execDraftActivate_keep h id mram s
  | draftDiscard h => exact execDraftDiscard_keep h s
  | draftRevert h id mram => exact execDraftRevert_keep h id mram s
  | ledgerInfo h => exact execLedgerInfo_keep h s
  | ledgerRead h first count => exact execLedgerRead_keep h first count s
  | firmwareActivate h flags mram => exact execFirmwareActivate_keep h flags mram s
  | anchorAdd h kind level keyId certOk mram => exact execAnchorAdd_keep h kind level keyId certOk mram s
  | anchorRemove h kind keyId mram => exact execAnchorRemove_keep h kind keyId mram s
  | anchorList h => exact execAnchorList_keep h s
  | safetyUnlock h pw => exact execSafetyUnlock_keep h pw s
  | safetyLock h => exact execSafetyLock_keep h s
  | safetyPasswordSet h pw salt mram => exact execSafetyPasswordSet_keep h pw salt mram s
  | safetyPasswordReset h mram => exact execSafetyPasswordReset_keep h mram s
  | recStatus h => exact execRecStatus_keep h s
  | recRead h area rseq ofs fixes => exact execRecRead_keep h area rseq ofs fixes s
  | recFreeze h fromH fromUs toH toUs => exact execRecFreeze_keep h fromH fromUs toH toUs s
  | recRelease h ix => exact execRecRelease_keep h ix s
  | telemConfig h ix enable ip port mask decim mram => exact execTelemConfig_keep h ix enable ip port mask decim mram s
  | memRead h a n => exact execMemRead_keep h a n s
  | memWrite => cases spares
  | bulkOpen h target len digest => exact execBulkOpen_keep h target len digest s
  | bulkWrite h ofs data => exact execBulkWrite_keep h ofs data s
  | bulkClose h img nand => exact execBulkClose_keep h img nand s
  | bulkAbort h => exact execBulkAbort_keep h s
  | bulkTimeout => exact execBulkTimeout_keep s
  | clientHello p cookie t => exact execClientHello_keep p cookie t s
  | closeNotify ix => exact execCloseNotify_keep ix s
  | commandSessionTimeout ix => exact execCommandSessionTimeout_keep ix s
  | safetyExpiry ix => exact execSafetyExpiry_keep ix s
  | lockoutExpiry => exact execLockoutExpiry_keep s
  | svcEnLow => exact execSvcEnLow_keep s
  | portLinkUp p speed mdix => exact execPortLinkUp_keep p speed mdix s
  | portLinkDown p => exact execPortLinkDown_keep p s
  | prpSupervisionSend => exact execPrpSupervisionSend_keep s
  | lanSilence p => exact execLanSilence_keep p s
  | ringSupervisionSend => exact execRingSupervisionSend_keep s
  | prpFrameReceive p n src seq bad b t => exact execPrpFrameReceive_keep p n src seq bad b t s
  | ringFrameForward ing src seq own sup bad mine queued b => exact execRingFrameForward_keep ing src seq own sup bad mine queued b s
  | arpRequest p mine conflict => exact execArpRequest_keep p mine conflict s
  | icmpEchoRequest p b => exact execIcmpEchoRequest_keep p b s
  | igmpQuery v3 => exact execIgmpQuery_keep v3 s
  | admissionOpen => exact execAdmissionOpen_keep s
  | uartCharacterReceive u c err t => exact execUartCharacterReceive_keep u c err t s
  | canFrameReceive c id rec' fast full b t => exact execCanFrameReceive_keep c id rec' fast full b t s
  | canBusOff c => exact execCanBusOff_keep c s
  | canBusOffRecovery c => exact execCanBusOffRecovery_keep c s
  | iec61162450Datagram p group dport b t => exact execIec61162450Datagram_keep p group dport b t s
  | udpBinaryDatagram p src sport b t => exact execUdpBinaryDatagram_keep p src sport b t s
  | outputSessionSend ix => exact execOutputSessionSend_keep ix s
  | rioRequestBuild => exact execRioRequestBuild_keep s
  | rioReplyReceive k b t => exact execRioReplyReceive_keep k b t s
  | glazeBackgroundTest bad => exact execGlazeBackgroundTest_keep bad s
  | adcOutputSample c j pa pb t => exact execAdcOutputSample_keep c j pa pb t s
  | sampleLinkFrame ok bits t => exact execSampleLinkFrame_keep ok bits t s
  | shuntDisconnect c => exact execShuntDisconnect_keep c s
  | shuntReconnect c below => exact execShuntReconnect_keep c below s
  | calibrationSlotStart => exact execCalibrationSlotStart_keep s
  | calibrationPhaseEnd formed => exact execCalibrationPhaseEnd_keep formed s
  | pageProgram outcome => exact execPageProgram_keep outcome s
  | blockErase arch fail => exact execBlockErase_keep arch fail s
  | flushComplete => exact execFlushComplete_keep s
  | monHelp => exact execMonHelp_keep s
  | monId => exact execMonId_keep s
  | monSt => exact execMonSt_keep s
  | monTime => exact execMonTime_keep s
  | monEv => exact execMonEv_keep s
  | monRec => exact execMonRec_keep s
  | monRd => exact execMonRd_keep s
  | monWr => cases spares
  | monLog => exact execMonLog_keep s
  | sysOtimeHRead => exact execSysOtimeHRead_keep s
  | warpCfgWrite v => exact execWarpCfgWrite_keep v s
  | warpConeWrite v => exact execWarpConeWrite_keep v s
  | warpBgWrite v => exact execWarpBgWrite_keep v s
  | warpPickHRead => exact execWarpPickHRead_keep s
  | warpBeatHRead => exact execWarpBeatHRead_keep s
  | warpNextedgeHRead => exact execWarpNextedgeHRead_keep s
  | heddleSesselWrite v => exact execHeddleSesselWrite_keep v s
  | heddleTrkselWrite v => exact execHeddleTrkselWrite_keep v s
  | obsSelWrite v => exact execObsSelWrite_keep v s
  | wheelFpHRead => exact execWheelFpHRead_keep s
  | wheelEngRead => exact execWheelEngRead_keep s
  | allocThrselWrite v => exact execAllocThrselWrite_keep v s
  | pwrSecselWrite v => exact execPwrSecselWrite_keep v s
  | loopSlotselWrite v => exact execLoopSlotselWrite_keep v s
  | gnssStrmselWrite v => exact execGnssStrmselWrite_keep v s
  | gnssChselWrite v => exact execGnssChselWrite_keep v s
  | gnssSigselWrite v => exact execGnssSigselWrite_keep v s
  | timeDtHRead => exact execTimeDtHRead_keep s
  | timeSrcselWrite v => exact execTimeSrcselWrite_keep v s
  | kilnSealHRead => exact execKilnSealHRead_keep s
  | kilnInselWrite v => exact execKilnInselWrite_keep v s
  | kilnOutselWrite v => exact execKilnOutselWrite_keep v s
  | shuttleProgidHRead => exact execShuttleProgidHRead_keep s
  | shuttleRetidHRead => exact execShuttleRetidHRead_keep s
  | shuttleTaskselWrite v => exact execShuttleTaskselWrite_keep v s
  | shuttleTaskstatRead => exact execShuttleTaskstatRead_keep s
  | secSerialHRead => exact execSecSerialHRead_keep s
  | netPortselWrite v => exact execNetPortselWrite_keep v s
  | netSesselWrite v => exact execNetSesselWrite_keep v s
  | fieldUartselWrite v => exact execFieldUartselWrite_keep v s
  | fieldCanselWrite v => exact execFieldCanselWrite_keep v s
  | rioStaselWrite v => exact execRioStaselWrite_keep v s
  | glazePsselWrite v => exact execGlazePsselWrite_keep v s
  | glazeSwselWrite v => exact execGlazeSwselWrite_keep v s
  | glazeSwrunWrite v => exact execGlazeSwrunWrite_keep v s
  | glazeSwrunRead => exact execGlazeSwrunRead_keep s
  | glazeSwdataWrite v => exact execGlazeSwdataWrite_keep v s
  | glazeSwchkRead => exact execGlazeSwchkRead_keep s
  | adcChselWrite v => exact execAdcChselWrite_keep v s
  | registerWrite a v => exact execRegisterWrite_keep a v s
  | unknownOpcode sess b => exact execUnknownOpcode_keep sess b s
  | dtlsHandshakeComplete ix hs leaf chain anchor certOk periodOk t => exact execDtlsHandshakeComplete_keep ix hs leaf chain anchor certOk periodOk t s
  | monCharacterReceive c => exact execMonCharacterReceive_keep c s
  | monUnknownCommand => exact execMonUnknownCommand_keep s
  | canBusError c tec rec' => exact execCanBusError_keep c tec rec' s
  | delayReqSend ix p t => exact execDelayReqSend_keep ix p t s
  | pdelayReqSend p t => exact execPdelayReqSend_keep p t s
  | announceSend ix => exact execAnnounceSend_keep ix s
  | holdChargeComplete uc => exact execHoldChargeComplete_keep uc s

/-- A command of the table leaves the queue as it was, the writers of the SRAM too. -/
theorem exec_pending (i : Sys2Proof.Instr) (s : State) : After (exec i s) (fun t => t.pending = s.pending) := by
  by_cases writes : writesSram i = true
  · obtain ⟨h, a, b, mram, rfl⟩ | ⟨mram, rfl⟩ | rfl := writer_of_writesSram writes
    · exact execMemWrite_pending h a b mram s
    · exact execMonWr_pending mram s
    · exact (execHoldUpEnd_keep s).2
  · have keep := exec_keep (Bool.eq_false_iff.mpr writes) s
    obtain ⟨t, next⟩ := exec_answers i s
    rw [next] at keep ⊢
    exact keep.2

/-! ### the canonical form of the memory, writer by writer -/

theorem execMemWrite_inv (h a b mram) {s : State} (inv : Inv s) : After (execMemWrite h a b mram s) Inv := by
  have command : Inv (s.command h (cmdSpec 0x0902) (if writable a b.length then none else some 0x1005) (fun _ => none)
      (fun t x => if mram then .done (t.writeOutside (t.levelOf x) x.actor a b) [] else .refuse 0x5002 0)) := by
    refine (State.command_proj (fun t => memWf t.mem) (by simp) (by simp) (by simp) (by simp) (by simp) (by simp)
      s _ _ _ _ _ (fun t x same => ?_)).trans inv
    split
    · have wf := State.writeBytes_wf t a b (same.trans inv)
      simpa [wf] using inv.symm
    · trivial
  unfold execMemWrite
  simp only [After]
  split <;> simpa [Inv, State.blockedWrite] using command

/-- WR either is refused or writes one word. -/
theorem monWr_cases (mram : Bool) (s : State) (args : List (List Byte)) :
    (∃ e, monWr mram s args = .err e) ∨ ∃ a v, monWr mram s args = .ok (s.monWrites a v) [] := by
  unfold monWr
  split
  · split
    · split
      · exact .inl ⟨_, rfl⟩
      · split
        · exact .inl ⟨_, rfl⟩
        · split
          · exact .inl ⟨_, rfl⟩
          · split
            · exact .inl ⟨_, rfl⟩
            · exact .inr ⟨_, _, rfl⟩
    · exact .inl ⟨_, rfl⟩
  · exact .inl ⟨_, rfl⟩

theorem execMonWr_inv (mram) {s : State} (inv : Inv s) : After (execMonWr mram s) Inv := by
  have monitor : Inv (s.monitor kwWr (monWr mram)) := by
    refine (State.monitor_proj (fun t => memWf t.mem) (by simp) s _ _ (fun args => ?_)).trans inv
    obtain ⟨e, refused⟩ | ⟨a, v, writes⟩ := monWr_cases mram s args
    · rw [refused]
      trivial
    · rw [writes]
      have wf := State.writeBytes_wf s a (le32 v) inv
      simpa [MonResult.Keeps, wf] using inv.symm
  unfold execMonWr
  simp only [After]
  split <;> simpa [Inv, State.blockedWrite] using monitor

theorem execHoldUpEnd_inv {s : State} (inv : Inv s) : After (execHoldUpEnd s) Inv := by
  obtain ⟨same | lost, _⟩ := execHoldUpEnd_keep s
  · exact (congrArg memWf same).trans inv
  · exact congrArg memWf lost

theorem exec_inv (i : Sys2Proof.Instr) {s : State} (inv : Inv s) : After (exec i s) Inv := by
  by_cases writes : writesSram i = true
  · obtain ⟨h, a, b, mram, rfl⟩ | ⟨mram, rfl⟩ | rfl := writer_of_writesSram writes
    · exact execMemWrite_inv h a b mram inv
    · exact execMonWr_inv mram inv
    · exact execHoldUpEnd_inv inv
  · have keep := exec_keep (Bool.eq_false_iff.mpr writes) s
    obtain ⟨t, next⟩ := exec_answers i s
    rw [next] at keep ⊢
    exact (congrArg memWf keep.1).trans inv

end Sys2Proof.Machine

open Sys2Proof Sys2Proof.Machine

/-- Settles O1: the definition of a step on a queue that is not empty. -/
theorem stepRunsTheFrontCommand : Obligations.StepRunsTheFrontCommand := by
  unfold Obligations.StepRunsTheFrontCommand
  exact fun c s rest => rfl

/-- Settles O2. -/
theorem emptyQueueIdles : Obligations.EmptyQueueIdles := by
  unfold Obligations.EmptyQueueIdles
  intro s empty
  simp [step, empty]

/-- Settles O3: every meaning answers a next state, and none of its operations touches the queue. -/
theorem everyCommandAnswersAndLeavesTheQueue : Obligations.EveryCommandAnswersAndLeavesTheQueue := by
  unfold Obligations.EveryCommandAnswersAndLeavesTheQueue
  intro i s
  obtain ⟨t, next⟩ := exec_answers i s
  have pending := exec_pending i s
  rw [next] at pending
  exact ⟨t, next, pending⟩

/-- Settles O5: a step runs the front command, which keeps the canonical form, or idles. -/
theorem stepKeepsInv : Obligations.StepKeepsInv := by
  unfold Obligations.StepKeepsInv
  intro s t inv next
  unfold step at next
  split at next
  · cases next
    exact inv
  · rename_i c rest _
    have kept := exec_inv c (s := { s with pending := rest }) inv
    rwa [next] at kept

/-- Settles O6: every other command keeps the memory. -/
theorem onlyWritersChangeMemory : Obligations.OnlyWritersChangeMemory := by
  unfold Obligations.OnlyWritersChangeMemory
  intro i s t next changed
  by_cases writes : writesSram i = true
  · exact writer_of_writesSram writes
  · have keep := exec_keep (Bool.eq_false_iff.mpr writes) s
    rw [next] at keep
    exact absurd keep.1 changed

end

section

/-! What is refused or turned away before a session's command is evaluated (R21, R29, R530). -/

namespace Sys2Proof.Machine

/-! ### every command of a session goes through the one evaluation -/

/-- The commands that leave the integrity event of R29 behind when they are evaluated. -/
def blocksOwned : Sys2Proof.Instr → Bool
  | .memWrite _ a b _ => ownedSpan a b.length
  | _ => false

/-- Every command of a session is judged under its line of the opcode table. -/
theorem exec_asCommand {i : Sys2Proof.Instr} {h : Hdr} {op : Nat} (known : asCommand i = some (h, op)) (s : State) :
    (cmdSpec op).op = op ∧ ∃ bad perm act, exec i s = .next
      (let t := s.command h (cmdSpec op) bad perm act
       if blocksOwned i && s.evaluates h then t.blockedWrite else t) := by
  cases i <;> cases known
  all_goals exact ⟨rfl, _, _, _, rfl⟩

/-- A command that would not be evaluated only runs the evaluation's first part. -/
theorem exec_asCommand_of_not_evaluates {i : Sys2Proof.Instr} {h : Hdr} {op : Nat} (known : asCommand i = some (h, op))
    {s : State} (turned : s.evaluates h = false) :
    (cmdSpec op).op = op ∧ ∃ bad perm act, exec i s = .next (s.command h (cmdSpec op) bad perm act) := by
  obtain ⟨row, bad, perm, act, run⟩ := exec_asCommand known s
  refine ⟨row, bad, perm, act, run.trans ?_⟩
  simp [turned]

theorem State.evaluates_of_not_newer {s : State} {h : Hdr} {x : CmdSession} {q : Word} {r : List Byte}
    (sess : s.cmdSess h.sess = some x) (last : x.last = some (q, r)) (seen : q = h.cseq ∨ seqNewer q h.cseq = true) :
    s.evaluates h = false := by
  obtain same | older := seen
  · simp [State.evaluates, sess, last, same]
  · simp [State.evaluates, sess, last, older]

theorem State.command_repeated {s : State} {h : Hdr} {c : CmdSpec} {x : CmdSession} {bad : Option Nat}
    {perm : CmdSession → Option Nat} {act : State → CmdSession → Judged} {r : List Byte}
    (sess : s.cmdSess h.sess = some x) (serves : s.serves = true) (last : x.last = some (h.cseq, r)) (kept : r ≠ []) :
    s.command h c bad perm act = (s.heard h.sess x).emit (.reply x.idx r) := by
  simp [State.command, sess, serves, last, kept, State.heard]

theorem State.command_old {s : State} {h : Hdr} {c : CmdSpec} {x : CmdSession} {bad : Option Nat}
    {perm : CmdSession → Option Nat} {act : State → CmdSession → Judged} {q : Word} {r : List Byte}
    (sess : s.cmdSess h.sess = some x) (serves : s.serves = true) (last : x.last = some (q, r)) (other : q ≠ h.cseq)
    (older : seqNewer q h.cseq = true) :
    s.command h c bad perm act = (s.heard h.sess x).turnAway x c.op h.cseq 0x1006 := by
  simp [State.command, sess, serves, last, other, older, State.heard, State.turnAway]

/-! ### the events of a refusal -/
/-- A record that finds room raises no event. -/
theorem State.stage_events {s : State} {high : Bool} {payload : List Byte}
    (room : s.sherd.room high (36 + payload.length) = true) (rtype blk inst' : Nat) (times : Option (Nat × Nat)) :
    (s.stage rtype high blk inst' payload times).events = s.events := by
  simp [State.stage, room]

/-- The end of a command raises no event while the staging has room for its record. -/
theorem State.finish_events {s : State} (room : s.sherd.room true 56 = true) (sess op : Nat) (cseq : Word) (e : Nat)
    (r : List Byte) : (s.finish sess op cseq e r).events = s.events := by
  unfold State.finish
  extract_lets s1
  split
  · rfl
  · exact State.stage_events (by exact room) ..

/-- The integrity event of R29 is among the events of the state that blocks a write. -/
theorem State.blockedWrite_events_ne_nil (s : State) : s.blockedWrite.events ≠ [] := by
  intro none
  have raised := s.raise_events_prefix (BitVec.ofNat 32 (0x01420000 + Config.integrityEvent.toNat)) []
  change _ <+: s.blockedWrite.events at raised
  rw [none] at raised
  simp at raised

end Sys2Proof.Machine

open Sys2Proof Sys2Proof.Machine

/-- Refutes O8: a session of level VIEW that sends MEM_WRITE to 0x14000000, a partition of another owner, is refused,
and the integrity event of R29 follows its refusal. -/
theorem not_levelStateAndRoleAreChecked : ¬ Obligations.LevelStateAndRoleAreChecked := by
  unfold Obligations.LevelStateAndRoleAreChecked
  intro checked
  obtain ⟨e, d, _, refusal⟩ := checked (.memWrite aHdr 0x14000000 [0] true) aHdr 0x0902 (cmdState .service (aSess 0))
    (aSess 0) rfl rfl rfl rfl (by intro q r last; cases last) (.inl (by decide))
  have blocked : exec (.memWrite aHdr 0x14000000 [0] true) (cmdState .service (aSess 0)) =
      .next (((cmdState .service (aSess 0)).heard 0 (aSess 0)).finish 0 0x0902 1 0x1005 (be32 0)).blockedWrite := by
    rfl
  rw [blocked] at refusal
  injection refusal with same
  have events := congrArg State.events same
  rw [State.finish_events (by decide)] at events
  exact State.blockedWrite_events_ne_nil _ events

/-- Settles O10: a CSEQ that is not newer is not evaluated, and what is sent hangs on the last one alone. -/
theorem repeatedAndOldSequenceNumbers : Obligations.RepeatedAndOldSequenceNumbers := by
  unfold Obligations.RepeatedAndOldSequenceNumbers
  refine ⟨fun i h op s x r known sess serves last kept => ?_,
    fun i h op s x q r known sess serves last low high => ?_⟩
  · have turned := State.evaluates_of_not_newer sess last (.inl rfl)
    obtain ⟨_, bad, perm, act, run⟩ := exec_asCommand_of_not_evaluates known turned
    rw [run, State.command_repeated sess serves last kept]
  · have older : seqNewer q h.cseq = true := decide_eq_true ⟨low, high⟩
    have other : q ≠ h.cseq := by
      rintro rfl
      simp at low
    have turned := State.evaluates_of_not_newer sess last (.inr older)
    obtain ⟨row, bad, perm, act, run⟩ := exec_asCommand_of_not_evaluates known turned
    rw [run, State.command_old sess serves last other older, row]

end

section

/-! MEM_WRITE (R28, R29, R534): what it writes when it is accepted, and where it may not write. -/

namespace Sys2Proof.Machine

theorem State.evaluates_of_accepts {s : State} {h : Hdr} {op : Nat} {x : CmdSession} (ok : s.accepts h op x = true) :
    s.evaluates h = true := by
  simp only [State.accepts, Bool.and_eq_true, beq_iff_eq] at ok
  obtain ⟨⟨⟨⟨⟨⟨sess, serves⟩, _⟩, newer⟩, _⟩, _⟩, _⟩ := ok
  simp only [State.evaluates, serves, sess, Bool.true_and]
  exact newer

@[simp] theorem State.heard_mem (s : State) (i : Nat) (x : CmdSession) : (s.heard i x).mem = s.mem := by
  simp [State.heard]

@[simp] theorem State.blockedWrite_mem (s : State) : s.blockedWrite.mem = s.mem := by
  simp [State.blockedWrite]

/-- A span inside the General partition may be written. -/
theorem writable_of_spanIn_general {a n : Nat} (inside : spanIn [general] a n = true) : writable a n = true := by
  simp [writable, inside]

theorem execMemWrite_accepted {s : State} {h : Hdr} {x : CmdSession} {a : Nat} {b : List Byte}
    (ok : s.accepts h 0x0902 x = true) (inside : spanIn [general] a b.length = true) :
    After (execMemWrite h a b true s) (fun t => t.mem = memWriteBytes s.mem a b) := by
  have command := s.command_accepted (bad := if writable a b.length then none else some 0x1005) (perm := fun _ => none)
    (act := fun t x => if true then .done (t.writeOutside (t.levelOf x) x.actor a b) [] else .refuse 0x5002 0)
    ok rfl (if_pos (writable_of_spanIn_general inside)) rfl
  unfold execMemWrite
  rw [command]
  simp only [After, State.answered]
  split <;> simp [State.writeBytes, inside]

theorem execMemWrite_not_writable {s : State} {h : Hdr} {x : CmdSession} {a : Nat} {b : List Byte} (mram : Bool)
    (ok : s.accepts h 0x0902 x = true) (barred : writable a b.length = false) :
    execMemWrite h a b mram s = .next (
      let t := (s.heard h.sess x).finish h.sess 0x0902 h.cseq 0x1005 (be32 0)
      if ownedSpan a b.length then t.blockedWrite else t) := by
  unfold execMemWrite
  rw [State.command_bad ok rfl (e := 0x1005) (by simp [barred]), State.evaluates_of_accepts ok, Bool.and_true]

end Sys2Proof.Machine

open Sys2Proof Sys2Proof.Machine

/-- Settles O7: the bytes written read back at their addresses, every other byte as before, and a span that may not be
written is refused before anything is. -/
theorem writtenMemoryReadsBack : Obligations.WrittenMemoryReadsBack := by
  unfold Obligations.WrittenMemoryReadsBack
  refine ⟨fun s h x a b inv ok inside => ?_, fun s h x a b m ok barred => execMemWrite_not_writable m ok barred⟩
  have written := execMemWrite_accepted ok inside
  obtain ⟨t, next⟩ := exec_answers (.memWrite h a b true) s
  change execMemWrite h a b true s = .next t at next
  rw [next] at written
  refine ⟨t, next, fun n => ?_⟩
  rw [show t.mem = _ from written]
  exact memRead_memWriteBytes s.mem a n b inv

end

section

/-! What entering SAFE from ACTIVE or DEGRADED leaves of each block (R53, R199, R278, R519, R520). -/

namespace Sys2Proof.Machine

/-! ### setting the module state -/

theorem State.gnssFollow_frame (s : State) : s.gnssFollow.sys = s.sys ∧ s.gnssFollow.guide = s.guide ∧
    s.gnssFollow.cmd = s.cmd ∧ s.gnssFollow.loop = s.loop := by
  simp [State.gnssFollow, State.gnssStart]

theorem State.openSlots_frame (s : State) : s.openSlots.sys = s.sys ∧ s.openSlots.guide = s.guide ∧
    s.openSlots.cmd = s.cmd := ⟨rfl, rfl, rfl⟩

@[simp] theorem State.setSt_sys (s : State) (new : ModState) :
    (s.setSt new).sys.st = new ∧ (s.setSt new).sys.pending = s.sys.pending := by
  unfold State.setSt
  extract_lets old drove s0 sys0 s1
  have kept : s0.sys = s.sys := by simp [s0, State.openSlots_frame]
  have moved : s1.sys.st = new ∧ s1.sys.pending = s.sys.pending := by
    simp [s1, sys0, State.gnssFollow_frame, kept]
  cases new <;> simp [moved]

@[simp] theorem State.setSt_guide (s : State) (new : ModState) : (s.setSt new).guide = s.guide := by
  unfold State.setSt
  extract_lets old drove s0 sys0 s1
  have kept : s1.guide = s.guide := by simp [s1, s0, State.gnssFollow_frame, State.openSlots_frame]
  cases new <;> simp [kept]

@[simp] theorem State.setSt_cmd (s : State) (new : ModState) : (s.setSt new).cmd = s.cmd := by
  unfold State.setSt
  extract_lets old drove s0 sys0 s1
  have kept : s1.cmd = s.cmd := by simp [s1, s0, State.gnssFollow_frame, State.openSlots_frame]
  cases new <;> simp [kept]

/-- Leaving ACTIVE and DEGRADED opens every slot (R278). -/
theorem State.setSt_safe_loop {s : State} (active : s.sys.st = .active ∨ s.sys.st = .degraded) :
    (s.setSt .safe).loop = s.openSlots.loop := by
  unfold State.setSt
  extract_lets old drove s0 sys0 s1
  have leaves : drove = true := by rcases active with st | st <;> simp [drove, old, st]
  simp [s1, s0, leaves, State.gnssFollow_frame]

/-- An opened slot is not provisioned or OPEN. -/
theorem Slot.opened_st_le (q : Slot) : q.opened.st ≤ 1 := by
  unfold Slot.opened
  split
  · omega
  · exact Nat.le_refl 1

theorem State.openSlots_open (s : State) : s.openSlots.loop.slots.all (fun p => decide (p.2.st ≤ 1)) = true := by
  simp [State.openSlots, Slot.opened_st_le]

/-! ### the guidance and the pair -/

@[simp] theorem State.supersede_frame (s : State) (l : List GuideCmd) : (s.supersede l).sys = s.sys ∧
    (s.supersede l).warp = s.warp ∧ (s.supersede l).cmd = s.cmd ∧ (s.supersede l).loop = s.loop := by
  simp [State.supersede]

@[simp] theorem State.forceIdle_frame (s : State) : s.forceIdle.sys = s.sys ∧ s.forceIdle.warp = s.warp ∧
    s.forceIdle.cmd = s.cmd ∧ s.forceIdle.loop = s.loop := by
  refine ⟨?_, ?_, ?_, ?_⟩ <;> simp [State.forceIdle]

@[simp] theorem State.forceIdle_mode (s : State) : s.forceIdle.guide.mode = 0 := by
  unfold State.forceIdle
  extract_lets g s1 guide1 s2
  split <;> simp [s2]

@[simp] theorem State.pairSafe_frame (s : State) (bit : Nat) : (s.pairSafe bit).sys = s.sys ∧
    (s.pairSafe bit).guide = s.guide ∧ (s.pairSafe bit).cmd = s.cmd ∧ (s.pairSafe bit).loop = s.loop := by
  refine ⟨?_, ?_, ?_, ?_⟩ <;> (unfold State.pairSafe; dsimp only; (repeat' split) <;> rfl)

/-- What an entry into SAFE does to the pair only discards telegrams. -/
theorem State.pairSafe_txBeat {s : State} (bit : Nat) (unsent : s.warp.txBeat = []) : (s.pairSafe bit).warp.txBeat = [] := by
  unfold State.pairSafe
  extract_lets p
  split
  · exact unsent
  · split
    · rfl
    · split <;> exact unsent

/-- In ACTIVE and DEGRADED every cause goes the whole way. -/
theorem State.enterSafe_of_active {s : State} (active : s.sys.st = .active ∨ s.sys.st = .degraded) (bit : Nat) :
    s.enterSafe bit =
      (let s1 : State := { s with cmd := { s.cmd with safe := s.cmd.safe ||| BitVec.ofNat 8 (2 ^ bit) } }
       State.pairSafe (State.forceIdle
        (State.setSt { s1.unsendBeat with sys := { s1.sys with pending := none } } .safe)) bit) := by
  rcases active with st | st <;> simp only [State.enterSafe, st]

/-- A bit that is set in a byte shows. -/
theorem getLsbD_or_twoPow (b : BitVec 8) {c : Nat} (small : c < 8) : (b ||| BitVec.ofNat 8 (2 ^ c)).getLsbD c = true := by
  have bit : ∀ k < 8, (BitVec.ofNat 8 (2 ^ k)).getLsbD k = true := by decide
  rw [BitVec.getLsbD_or, bit c small, Bool.or_true]

end Sys2Proof.Machine

open Sys2Proof Sys2Proof.Machine

/-- Settles O14: the entry into SAFE part by part: state and cause, the guidance, the telegrams and the slots. -/
theorem safeAtOnce : Obligations.SafeAtOnce := by
  unfold Obligations.SafeAtOnce
  rintro s t c small active rfl
  rw [State.enterSafe_of_active active]
  dsimp only
  refine ⟨by simp, by simp, State.pairSafe_txBeat c (by simp [State.unsendBeat]), by simp, ?_, ?_⟩
  · simp only [State.pairSafe_frame, State.forceIdle_frame, State.setSt_cmd]
    exact getLsbD_or_twoPow s.cmd.safe small
  · simp only [State.pairSafe_frame, State.forceIdle_frame]
    rw [State.setSt_safe_loop (by exact active)]
    exact State.openSlots_open _

end

section

/-! Integers of the Twill (R494): a number wrapped into a type, read back. -/

namespace Sys2Proof.Machine

/-- The widths of the eight integer types. -/
theorem tyBits_of_tyInt {ty : Nat} (int : tyInt ty = true) :
    tyBits ty = 8 ∨ tyBits ty = 16 ∨ tyBits ty = 32 ∨ tyBits ty = 64 := by
  obtain ⟨low, high⟩ : 1 ≤ ty ∧ ty ≤ 8 := by simpa [tyInt] using int
  obtain rfl | rfl | rfl | rfl | rfl | rfl | rfl | rfl :
      ty = 1 ∨ ty = 2 ∨ ty = 3 ∨ ty = 4 ∨ ty = 5 ∨ ty = 6 ∨ ty = 7 ∨ ty = 8 := by omega
  all_goals decide

/-- The word of a wrapped number holds its residue. -/
theorem twWrap_toNat {ty : Nat} (int : tyInt ty = true) (n : Int) :
    (twWrap ty n).toNat % 2 ^ tyBits ty = (n % (2 ^ tyBits ty : Nat)).toNat := by
  unfold twWrap
  rw [BitVec.toNat_ofNat]
  obtain w | w | w | w := tyBits_of_tyInt int <;> rw [w] <;> simp only [Nat.reducePow] <;> omega

/-- A wrapped number reads as its residue, less the modulus in the upper half of a signed type. -/
theorem twInt_twWrap {ty : Nat} (int : tyInt ty = true) (n : Int) :
    twInt ty (twWrap ty n) =
      if tySigned ty = true ∧ ((2 ^ (tyBits ty - 1) : Nat) : Int) ≤ n % (2 ^ tyBits ty : Nat) then
        n % (2 ^ tyBits ty : Nat) - (2 ^ tyBits ty : Nat)
      else n % (2 ^ tyBits ty : Nat) := by
  have residue : (0 : Int) ≤ n % (2 ^ tyBits ty : Nat) := by
    refine Int.emod_nonneg _ (Int.natCast_ne_zero.mpr ?_)
    exact Nat.pos_iff_ne_zero.mp (Nat.two_pow_pos _)
  unfold twInt
  simp only [twWrap_toNat int, Bool.and_eq_true, decide_eq_true_eq, Int.toNat_of_nonneg residue, Int.le_toNat residue]

end Sys2Proof.Machine

open Sys2Proof Sys2Proof.Machine

/-- Settles O15: per width, the residue is congruent and in range, and a number in range is its own residue. -/
theorem integersWrap : Obligations.IntegersWrap := by
  unfold Obligations.IntegersWrap
  refine ⟨fun ty n int => ?_, fun ty n int low high => ?_⟩
  · rw [twInt_twWrap int]
    unfold twMin twMax
    cases sign : tySigned ty
    · simp only [Bool.false_eq_true, false_and, if_false]
      obtain w | w | w | w := tyBits_of_tyInt int <;> simp only [w, Nat.reducePow] <;> omega
    · simp only [true_and, if_true]
      obtain w | w | w | w := tyBits_of_tyInt int <;>
        simp only [w, Nat.reducePow, Nat.reduceSub] <;> split <;> omega
  · rw [twInt_twWrap int]
    unfold twMin at low
    unfold twMax at high
    cases sign : tySigned ty
    · simp only [sign, Bool.false_eq_true, false_and, if_false] at low high ⊢
      obtain w | w | w | w := tyBits_of_tyInt int <;> simp only [w, Nat.reducePow] at high ⊢ <;> omega
    · simp only [sign, true_and, if_true] at low high ⊢
      obtain w | w | w | w := tyBits_of_tyInt int <;>
        simp only [w, Nat.reducePow, Nat.reduceSub] at low high ⊢ <;> split <;> omega

end

section

/-! REGISTER_WRITE (R14, R16): the row of the register at the address, or nothing. -/

namespace Sys2Proof.Machine

theorem aget_append {α : Type} (k : Nat) (l m : List (Nat × α)) : aget k (l ++ m) = (aget k l).or (aget k m) := by
  induction l with
  | nil => simp [aget]
  | cons e l ih =>
    simp only [List.cons_append, aget, ih]
    split <;> rfl

theorem State.writeReg_of_unlisted {a : Nat} (rw' : aget a rwWrites = none) (other : aget a otherWrites = none)
    (s : State) (v : Word) : s.writeReg a v = s := by
  unfold State.writeReg
  rw [aget_append, rw', other]
  rfl

theorem State.writeReg_of_listed {a : Nat} {f : State → Word → State}
    (listed : aget a (rwWrites ++ otherWrites) = some f) (s : State) (v : Word) : s.writeReg a v = f s v := by
  unfold State.writeReg
  rw [listed]

end Sys2Proof.Machine

open Sys2Proof Sys2Proof.Machine

/-- Settles O20: the table of the writable registers gives each address its row. -/
theorem registerWriteActsAsItsRow : Obligations.RegisterWriteActsAsItsRow := by
  unfold Obligations.RegisterWriteActsAsItsRow
  refine ⟨fun s a v rw' other => congrArg Host.Outcome.next (State.writeReg_of_unlisted rw' other s v), fun s v => ?_⟩
  have row {a : Nat} {f : State → Word → State} (listed : aget a (rwWrites ++ otherWrites) = some f) :
      exec (.registerWrite a v) s = .next (f s v) := congrArg Host.Outcome.next (State.writeReg_of_listed listed s v)
  exact ⟨row rfl, row rfl, row rfl, row rfl, row rfl, row rfl, row rfl, row rfl, row rfl, row rfl, row rfl, row rfl,
    row rfl, row rfl, row rfl, row rfl, row rfl, row rfl, row rfl, row rfl, row rfl, row rfl, row rfl, row rfl, row rfl,
    row rfl, row rfl⟩

end

section

/-! Writes to the select registers (R14, R16): the register read back and the frame of the block. -/

namespace Sys2Proof.Machine

/-- A register that is not renewed in steps reads as it stands. -/
theorem State.regAt_of_not_shown {a : Nat} (live : shownRegs.contains a = false) (s : State) : s.regAt a = s.regNow a := by
  unfold State.regAt
  rw [live]
  exact if_neg Bool.false_ne_true

/-- A write that completes with the state t completes with what holds of t. -/
theorem completes_next {t : State} {P : State → Prop} (holds : P t) : Completes (.next t) P := ⟨t, rfl, holds⟩

/-! ### the writes whose window hangs on a record -/

theorem State.writeThrsel_sel (s : State) (v : Word) : (s.writeThrsel v).alloc.sel = word (v.toNat % 32) ∧
    { s.writeThrsel v with alloc := s.alloc } = s := by
  unfold State.writeThrsel
  dsimp only
  split <;> exact ⟨rfl, rfl⟩

theorem State.writeTasksel_sel (s : State) (v : Word) : (s.writeTasksel v).shuttle.sel = word (v.toNat % 8) ∧
    { s.writeTasksel v with shuttle := s.shuttle } = s := by
  unfold State.writeTasksel
  dsimp only
  split <;> exact ⟨rfl, rfl⟩

theorem State.writePssel_sel (s : State) (v : Word) : (s.writePssel v).glaze.psSel = word (v.toNat % 64) ∧
    { s.writePssel v with glaze := s.glaze } = s := by
  unfold State.writePssel
  dsimp only
  split <;> exact ⟨rfl, rfl⟩

/-! ### the registers -/

theorem State.regAt_thrsel (s : State) : s.regAt 0x40050010 = s.alloc.sel :=
  s.regAt_of_not_shown (by decide)
theorem State.regAt_tasksel (s : State) : s.regAt 0x40110030 = s.shuttle.sel :=
  s.regAt_of_not_shown (by decide)
theorem State.regAt_pssel (s : State) : s.regAt 0x400D0010 = s.glaze.psSel :=
  s.regAt_of_not_shown (by decide)

end Sys2Proof.Machine

open Sys2Proof Sys2Proof.Machine

/-- Settles O16: each write sets its select register and its window only. -/
theorem selectorWritesA : Obligations.SelectorWritesA := by
  unfold Obligations.SelectorWritesA
  have live {a : Nat} (t : State) (live : shownRegs.contains a = false) := t.regAt_of_not_shown live
  refine ⟨fun s v => completes_next ⟨live _ (by decide), rfl⟩, fun s v => completes_next ⟨live _ (by decide), rfl⟩,
    fun s v => completes_next ⟨live _ (by decide), rfl⟩, fun s v => completes_next ?_,
    fun s v => completes_next ⟨live _ (by decide), rfl⟩, fun s v => completes_next ⟨live _ (by decide), rfl⟩,
    fun s v => completes_next ⟨live _ (by decide), rfl⟩,
    fun s v => completes_next ⟨live _ (by decide), live _ (by decide), rfl⟩,
    fun s v => completes_next ⟨live _ (by decide), live _ (by decide), rfl⟩⟩
  obtain ⟨sel, frame⟩ := s.writeThrsel_sel v
  exact ⟨(State.regAt_thrsel _).trans sel, frame⟩

/-- Settles O17: as O16, for the other blocks. -/
theorem selectorWritesB : Obligations.SelectorWritesB := by
  unfold Obligations.SelectorWritesB
  have live {a : Nat} (t : State) (live : shownRegs.contains a = false) := t.regAt_of_not_shown live
  refine ⟨fun s v => completes_next ⟨live _ (by decide), rfl⟩, fun s v => completes_next ⟨live _ (by decide), rfl⟩,
    fun s v => completes_next ⟨live _ (by decide), rfl⟩, fun s v => completes_next ?_,
    fun s v => completes_next ⟨live _ (by decide), rfl⟩, fun s v => completes_next ⟨live _ (by decide), rfl⟩,
    fun s v => completes_next ⟨live _ (by decide), rfl⟩, fun s v => completes_next ⟨live _ (by decide), rfl⟩,
    fun s v => completes_next ⟨live _ (by decide), rfl⟩, fun s v => completes_next ?_,
    fun s v => completes_next ⟨live _ (by decide), rfl⟩⟩
  · obtain ⟨sel, frame⟩ := s.writeTasksel_sel v
    exact ⟨(State.regAt_tasksel _).trans sel, frame⟩
  · obtain ⟨sel, frame⟩ := s.writePssel_sel v
    exact ⟨(State.regAt_pssel _).trans sel, frame⟩

end

section

/-! Writes to WARP_CFG and the registers of the Glaze's software unit (R14, R77, R80, R619, R624). -/

namespace Sys2Proof.Machine

theorem State.writeWarpCfg_taken {s : State} {v : Word} (standby : s.sys.st = .standby) (code : v.toNat % 8 ≤ 4) :
    s.writeWarpCfg v = { s with warp := { s.warp with nsel := BitVec.ofNat 3 v.toNat } } :=
  if_pos ⟨standby, code⟩

theorem State.writeWarpCfg_left {s : State} {v : Word} (barred : s.sys.st ≠ .standby ∨ 4 < v.toNat % 8) :
    s.writeWarpCfg v = s := by
  refine if_neg (fun ⟨standby, code⟩ => ?_)
  rcases barred with other | high
  · exact other standby
  · omega

theorem getLsbD_and_not_ofNat (x : BitVec 10) (v : Word) {n : Nat} (small : n < 10) :
    (x &&& ~~~(BitVec.ofNat 10 v.toNat)).getLsbD n = (x.getLsbD n && !v.getLsbD n) := by
  simp [small]

@[simp] theorem Glaze.setUnit_swSel (g : Glaze) (u : SwUnit) : (g.setUnit u).swSel = g.swSel := by
  unfold Glaze.setUnit
  split <;> rfl

/-- The unit that is set is the selected one. -/
@[simp] theorem Glaze.setUnit_unit (g : Glaze) (u : SwUnit) : (g.setUnit u).unit = u := by
  rw [Glaze.unit, Glaze.setUnit_swSel]
  unfold Glaze.setUnit
  split <;> rfl

/-- GLAZE_SWSEL is no register that is renewed in steps. -/
theorem State.regAt_swSel (s : State) : s.regAt 0x400D0030 = s.glaze.swSel := s.regAt_of_not_shown (by decide)

theorem State.writeSwsel_set {s : State} {v : Word} {y : GlazeSet} (set : s.glazeSet (nbits v.toNat 13 8) = some y) :
    s.writeSwsel v = { s with glaze :=
      ({ s.glaze with swSel := v &&& 0x3F01#32 } : Glaze).setUnit { set := some (nbits v.toNat 13 8), run := y.init } } := by
  simp only [State.writeSwsel, set]

theorem State.writeSwsel_no_set {s : State} {v : Word} (noSet : s.glazeSet (nbits v.toNat 13 8) = none) :
    s.writeSwsel v = { s with glaze := { s.glaze with swSel := v &&& 0x3F01#32 } } := by
  simp only [State.writeSwsel, noSet]

end Sys2Proof.Machine

open Sys2Proof Sys2Proof.Machine

/-- Settles O19. -/
theorem warpAndGlazeWrites : Obligations.WarpAndGlazeWrites := by
  unfold Obligations.WarpAndGlazeWrites
  refine ⟨fun s v standby code => ?_, fun s v barred => congrArg Host.Outcome.next (State.writeWarpCfg_left barred),
    fun s v => completes_next ⟨fun n small => getLsbD_and_not_ofNat _ v small, rfl⟩,
    fun s v => completes_next ⟨rfl, rfl⟩, fun s v => completes_next ⟨State.regAt_of_not_shown (by decide) _, rfl⟩,
    fun s v y set => ?_, fun s v noSet => ?_,
    fun s v => completes_next ⟨?_, rfl⟩, fun s => rfl, fun s v => completes_next ⟨?_, rfl⟩, fun s => rfl⟩
  · have taken := State.writeWarpCfg_taken standby code
    exact ⟨_, congrArg Host.Outcome.next taken, rfl, rfl⟩
  · have written := State.writeSwsel_set set
    exact ⟨_, congrArg Host.Outcome.next written, by rw [State.regAt_swSel, Glaze.setUnit_swSel],
      Glaze.setUnit_unit _ _, rfl⟩
  · have written := State.writeSwsel_no_set noSet
    exact ⟨_, congrArg Host.Outcome.next written, State.regAt_swSel _, rfl⟩
  · exact congrArg SwUnit.run (Glaze.setUnit_unit _ _)
  · exact congrArg SwUnit.run (Glaze.setUnit_unit _ _)

end

section

/-! Power-up, boot and self-tests (R518, R540, R541, R547, R655, R675, R681, R684 to R686). -/

namespace Sys2Proof.Machine

/-! ### BOOT_VERIFY_COMPLETE: what the state is like when the slots are judged -/

/-- The state in which the boot ROM judges the slots: the strap is read and the time of BOOT has passed. -/
def State.booting (s : State) (seat : Bool) (us : Nat) : State :=
  { s with
    sys := { s.sys with pairSeat := seat }
    clk := { s.clk with sub := 0, tick := s.clk.tick + us * 1000, otimeUs := s.clk.otimeUs + us } }

theorem execBootVerifyComplete_judges {s : State} (seat ok0 ok1 : Bool) (us : Nat) (boot : s.sys.st = .boot)
    (fresh : s.sys.bootFailed = false) (free : s.pmic.loomHeld = false) :
    execBootVerifyComplete seat ok0 ok1 us s = .next (
      let c := s.sec.bootBegins
      let s1 := s.booting seat us
      match c.bootSlot ok0 ok1 with
      | none => { s1 with sec := c, sys := { s1.sys with bootFailed := true } }
      | some b =>
        let other := b != c.activeSlot
        let s2 := State.firmwareRuns { s1 with sec := { c with bootedSlot := b, slotFailed := other } }
        let s3 := s2.raise 0x11040001#32 (byteOf (b2n b) :: be32 s2.sec.running.version.toNat)
        let s4 := if other then State.raise { s3 with sec := { s3.sec with slotFailed := false } } 0x11340002#32 else s3
        s4.provisioned) := by
  refine congrArg Host.Outcome.next (if_neg ?_)
  simp [boot, fresh, free]

/-! ### SELFTEST_COMPLETE -/

/-- The state in which the verdict of the self-tests is drawn: staging recovered, ledger and Draft judged. -/
def State.selftested (s : State) (glazeBad : BitVec 16) (whole : Bool) (hits : List (Nat × Nat × Byte))
    (damaged : List Word) : State :=
  let q : State := { s with sec := { s.sec with ledger := ledgerHit s.sec.ledger hits } }
  let r := q.stagingRecovery (startCause s.pmic.rstCause) (startCause s.pmic.rstCause == 1) damaged
  ((if ledgerOk q.sec.ledger then r else r.raise 0x11220004#32).glazeSelftest glazeBad).verifyDraft whole

/-- The self-tests pass; the trip lines are excused after a warm restart (R685). -/
def selftestsPass (s : State) (ok : Bool) (trips : List (Bool × Bool)) (glazeBad : BitVec 16) : Bool :=
  ok && (tripTest trips || s.pmic.rstCause == 2) && glazeBad == 0

theorem execSelftestComplete_verdict {s : State} (ok : Bool) (trips : List (Bool × Bool)) (glazeBad : BitVec 16)
    (whole : Bool) (hits : List (Nat × Nat × Byte)) (damaged : List Word) (selftest : s.sys.st = .selftest)
    (charged : s.pmic.waitHold = false) :
    execSelftestComplete ok trips glazeBad whole hits damaged s = .next (
      if selftestsPass s ok trips glazeBad then (s.selftested glazeBad whole hits damaged).standbyReached
      else ((s.selftested glazeBad whole hits damaged).raise 0x01440004#32).enterSafe 7) := by
  refine congrArg Host.Outcome.next (if_neg ?_)
  simp [selftest, charged]

end Sys2Proof.Machine

open Sys2Proof Sys2Proof.Machine

/-- Settles O21: the boot by the slot that the ROM finds, the self-tests by their verdict. -/
theorem startSteps : Obligations.StartSteps := by
  unfold Obligations.StartSteps
  refine ⟨fun s rtc off cool => ?_, fun s seat ok0 ok1 us boot fresh free slot => ?_,
    fun s seat ok0 ok1 us boot fresh free slot => ?_, fun s seat ok0 ok1 us boot fresh free slot => ?_,
    fun s ok trips glazeBad whole hits damaged selftest charged sound lines units => ?_,
    fun s ok trips glazeBad whole hits damaged selftest charged fault => ?_⟩
  · have starts : exec (.powerUp rtc) s = .next (s.powerUp 1 rtc) := by simp [exec, execPowerUp, off, cool]
    exact ⟨_, starts, rfl, rfl, rfl, rfl, rfl⟩
  · refine (execBootVerifyComplete_judges seat ok0 ok1 us boot fresh free).trans ?_
    simp only [slot]
    rfl
  · refine ⟨_, execBootVerifyComplete_judges seat ok0 ok1 us boot fresh free, ?_⟩
    simp only [slot, bne_self_eq_false]
    exact ⟨_, rfl, rfl⟩
  · refine ⟨_, execBootVerifyComplete_judges seat ok0 ok1 us boot fresh free, ?_⟩
    have other : ((!s.sec.bootBegins.activeSlot) != s.sec.bootBegins.activeSlot) = true := by simp
    simp only [slot, other, if_true]
    exact ⟨_, rfl, _, rfl, rfl⟩
  · have pass : selftestsPass s ok trips glazeBad = true := by
      rcases lines with lines | warm
      · simp [selftestsPass, tripTest, sound, lines, units]
      · simp [selftestsPass, sound, warm, units]
    refine ⟨_, execSelftestComplete_verdict ok trips glazeBad whole hits damaged selftest charged, _, _, rfl, rfl, ?_⟩
    rw [if_pos pass, units]
    rfl
  · have fails : ¬ selftestsPass s ok trips glazeBad = true := by
      rcases fault with unsound | units | ⟨lines, cold⟩
      · simp [selftestsPass, unsound]
      · have bad : (glazeBad == 0) = false := beq_false_of_ne units
        simp only [selftestsPass, bad, Bool.and_false, Bool.false_eq_true, not_false_eq_true]
      · simp [selftestsPass, tripTest, lines, cold]
    refine ⟨_, execSelftestComplete_verdict ok trips glazeBad whole hits damaged selftest charged, _, _, rfl, rfl, ?_⟩
    rw [if_neg fails]
    rfl

end

section

/-! The PMIC: supplies, hold-up, HOLD, temperature, resets (R673 to R683, R690). -/

namespace Sys2Proof.Machine

@[simp] theorem State.holdEstimate_pmic (s : State) : s.holdEstimate.pmic.holdCap = s.pmic.holdCap ∧
    s.holdEstimate.pmic.capAt = s.pmic.capAt ∧ s.holdEstimate.pmic.holdOk = s.pmic.holdOk ∧
    s.holdEstimate.pmic.waitHold = s.pmic.waitHold := by
  unfold State.holdEstimate
  dsimp only
  (repeat' split) <;> simp

theorem State.resetBy_acts {s : State} (power : s.sys.st ≠ .off) (free : s.pmic.loomHeld = false) (code : Nat) :
    s.resetBy code = s.resetOrHold code := if_neg (by simp [power, free])

theorem State.resetBy_idles {s : State} (dead : s.sys.st = .off ∨ s.pmic.loomHeld = true) (code : Nat) :
    s.resetBy code = s := if_pos dead

/-- The rail group's fault is kept and told (R683). -/
def State.railTold (s : State) (rail : Nat) : State :=
  State.raise { s with pmic := { s.pmic with
    railFault := s.pmic.railFault ||| BitVec.ofNat 5 (2 ^ rail)
    railGood := s.pmic.railGood &&& ~~~(BitVec.ofNat 5 (2 ^ rail)) } } 0x1644000A#32

@[simp] theorem State.railTold_frame (s : State) (rail : Nat) :
    (s.railTold rail).pmic.railAt = s.pmic.railAt ∧ (s.railTold rail).otime = s.otime := by
  simp [State.railTold, State.otime]

/-- A fault of a Loom rail resets the Loom, and holds it when the last one is not 10 s ago. -/
theorem execRailFault_loom {s : State} {rail : Nat} (power : s.sys.st ≠ .off) (loom : rail = 1 ∨ rail = 3 ∨ rail = 4) :
    execRailFault rail s = .next (
      let r := s.railTold rail
      let again := match r.pmic.railAt with
        | some t => decide (r.otime ≤ t + 10000000)
        | none => false
      let q := r.loomReset 6
      { q with pmic := { q.pmic with
        railAt := some r.otime, held := if again then q.pmic.held ||| 2#3 else q.pmic.held } }) := by
  rcases loom with rfl | rfl | rfl <;> exact congrArg Host.Outcome.next (if_neg (by simp [power]))

end Sys2Proof.Machine

open Sys2Proof Sys2Proof.Machine

/-- Settles O22: each event of the supply where its condition holds. -/
theorem powerSupply : Obligations.PowerSupply := by
  unfold Obligations.PowerSupply
  refine ⟨fun s since band time told => ?_, fun s power => ?_, fun s warned cold => ?_, fun s flush => ?_,
    fun s warned => ?_, fun s us power time => ?_, fun s uc power => ?_, fun s power wait low time => ?_,
    fun s since hot time cold power => ?_, fun s tb tl tk tp rtc off thermal base loom kiln pmic => ?_⟩
  · simp [exec, execVinOutOfBand, band, time, told]
  · simp [exec, execPowerFailWarning, power]
  · simp [exec, execWarningWithdrawn, warned, cold]
  · simp [exec, execFlushComplete, flush]
  · have falls : exec .holdUpEnd s = .next s.powerOff := congrArg Host.Outcome.next (if_pos warned)
    exact ⟨_, falls, rfl, rfl, rfl, rfl, rfl⟩
  · have measures : exec (.holdCapacitanceMeasure us) s = .next (s.holdMeasured (us * 50 / 2000)) := by
      simp [exec, execHoldCapacitanceMeasure, power, time, capOfDischarge]
    exact ⟨_, measures, rfl, by simp [State.holdMeasured], by simp [State.holdMeasured]⟩
  · exact ⟨_, congrArg Host.Outcome.next (if_neg power), rfl, by simp [State.holdMeasured, capOfCharge],
      by simp [State.holdMeasured], by simp [State.holdMeasured]⟩
  · simp [exec, execHoldChargeTimeout, power, wait, low, time]
  · simp [exec, execThermalShutdown, hot, time, cold, power]
  · have starts : exec (.thermalRecovery tb tl tk tp rtc) s = .next (s.powerUp 7 rtc) := by
      simp [exec, execThermalRecovery, off, thermal, base, loom, kiln, pmic]
    exact ⟨_, starts, rfl, rfl, rfl⟩

/-- Settles O23: the two reset sources go through one operation, the rails part by their group. -/
theorem resetSources : Obligations.ResetSources := by
  unfold Obligations.ResetSources
  have next {t u : State} (same : t = u) := congrArg (Host.Outcome.next (φ := Fault) (ρ := Refusal)) same
  refine ⟨fun s power free => next (State.resetBy_acts power free 4), fun s dead => next (State.resetBy_idles dead 4),
    fun s power free => next (State.resetBy_acts power free 5), fun s dead => next (State.resetBy_idles dead 5),
    fun s power => ?_, fun s power => ?_, fun s rail power loom first => ?_, fun s rail at0 power loom last soon => ?_⟩
  · exact ⟨_, next (if_neg (by simp [power])), _, rfl, rfl⟩
  · exact ⟨_, next (if_neg (by simp [power])), _, rfl, rfl⟩
  · refine ⟨_, execRailFault_loom power loom, _, rfl, ?_⟩
    have before : (s.railTold rail).pmic.railAt = none := by simp [first]
    simp only [before]
    rfl
  · refine ⟨_, execRailFault_loom power loom, _, rfl, ?_⟩
    have before : (s.railTold rail).pmic.railAt = some at0 := by simp [last]
    have within : (s.railTold rail).otime ≤ at0 + 10000000 := by simpa using soon
    simp only [before, decide_eq_true within]
    rfl

end

section

/-! The pick tick, the beat edge, RECORD and the supervision of the clocks (R33 to R35, R59 to R61, R67), and the Cone's
monitors (R62 to R66). -/

namespace Sys2Proof.Machine

/-! ### a command with a condition: an outcome in one of its two branches -/

theorem next_if_pos {c : Prop} [Decidable c] {a b : State} (holds : c) :
    (.next (if c then a else b) : Host.Outcome State Fault Refusal) = .next a := by rw [if_pos holds]

theorem next_if_neg {c : Prop} [Decidable c] {a b : State} (fails : ¬ c) :
    (.next (if c then a else b) : Host.Outcome State Fault Refusal) = .next b := by rw [if_neg fails]

/-! ### the edge -/

/-- The Warp starts the beat at the edge. -/
def State.edgeStarts (s : State) : Prop := (s.at 0).applyCommands.warpEdge.warp.window.head? = some false

theorem execBeatEdge_started {s : State} (due : s.edgeDue = true) (started : s.edgeStarts) :
    execBeatEdge s = .next ((((s.at 0).applyCommands.warpEdge).latchCommands.latchRole.enterAtEdge.availability.markLive
      ).logTau.beatSync.syncCapture) := by
  have flag : ((s.at 0).applyCommands.warpEdge.warp.window.head? == some false) = true := by
    simpa [State.edgeStarts] using started
  refine (next_if_neg (by simp [due])).trans ?_
  simp only [flag, if_true]

theorem execBeatEdge_dropped {s : State} (due : s.edgeDue = true) (dropped : ¬ s.edgeStarts) :
    execBeatEdge s = .next (((s.at 0).applyCommands.warpEdge).enterAtEdge.logTau.beatSync.syncCapture) := by
  have flag : ((s.at 0).applyCommands.warpEdge.warp.window.head? == some false) = false := by
    simpa [State.edgeStarts] using dropped
  refine (next_if_neg (by simp [due])).trans ?_
  simp only [flag, Bool.false_eq_true, if_false]

/-! ### RECORD -/

/-- A beat whose RECORD is due is not being recorded. -/
theorem Beat.recording_eq_zero_of_recordDue {b : Beat} {n now : Nat} (due : b.recordDue n now = true) : b.recording = 0 := by
  simp only [Beat.recordDue, Bool.and_eq_true, beq_iff_eq] at due
  exact due.1.1.1

/-- RECORD takes the beat before the last. -/
theorem execRecord_prev {s : State} {u : Ns} {b : Beat} (run : s.warp.run = true) (old : s.warp.old = [])
    (prev : s.warp.prev = some b) (last : s.warp.last.all (fun l => l.recording != 1) = true)
    (due : b.recordDue (s.at u).n (s.at u).now = true) :
    execRecord u s = .next (
      let r := (s.at u).recordBeat b b.data
      { r with warp := { r.warp with prev := some { b with recording := 1 } } }) := by
  have idle := Beat.recording_eq_zero_of_recordDue due
  rw [State.at_n] at due
  unfold execRecord
  cases lastIs : s.warp.last with
  | none => simp [run, old, prev, lastIs, idle, due]
  | some l =>
    have other : l.recording ≠ 1 := by simpa [lastIs] using last
    simp [run, old, prev, lastIs, idle, due, other]

/-- RECORD takes the last beat, once dispatched, when it need not wait for the one before. -/
theorem execRecord_last {s : State} {u : Ns} {b : Beat} (run : s.warp.run = true) (old : s.warp.old = [])
    (prev : s.warp.prev.all (fun p => p.recording != 1 && !p.recordDue (s.at u).n (s.at u).now) = true)
    (last : s.warp.last = some b) (stage : s.warp.stage = .dispatched)
    (due : b.recordDue (s.at u).n (s.at u).now = true) :
    execRecord u s = .next (
      let r := (s.at u).recordBeat b ((s.at u).summaryData b)
      { r with warp := { r.warp with last := some { b with recording := 1 }, stage := .recorded } }) := by
  have idle := Beat.recording_eq_zero_of_recordDue due
  rw [State.at_n] at due prev
  unfold execRecord
  cases prevIs : s.warp.prev with
  | none => simp [run, old, last, prevIs, idle, due, stage]
  | some p =>
    obtain ⟨other, early⟩ : p.recording ≠ 1 ∧ p.recordDue s.n (s.at u).now = false := by
      simpa [prevIs] using prev
    simp [run, old, last, prevIs, idle, due, stage, other, early]

/-! ### CLOCK_COMPARISON -/

theorem domainFails_zero (n : Nat) : domainFails 0#15 n = 0 := by
  simp [domainFails, countP]

theorem execClockComparison_sound {s : State} {counts : List (Nat × Nat)} {half : Nat × Nat} (power : s.sys.st ≠ .off)
    (sound : cmpFails counts half &&& s.sys.cmpLast = 0) :
    execClockComparison counts half s = .next
      { s with sys := { s.sys with cmpLast := cmpFails counts half, clkCmp := 0, checker := 0 } } := by
  refine (next_if_neg power).trans ?_
  have none_ (l : List (Nat × Nat × Nat)) : l.filter (fun _ => false) = [] :=
    List.filter_eq_nil_iff.mpr (fun _ _ => Bool.false_ne_true)
  simp [sound, domainFails_zero, none_]

/-- What a comparison keeps of its result: the failures of this evaluation, and those of this one and the one before. -/
def State.compared (s : State) : BitVec 15 × BitVec 15 := (s.sys.cmpLast, s.sys.clkCmp)

theorem State.compared_of_sys {s t : State} (same : t.sys = s.sys) : t.compared = s.compared := by
  unfold State.compared
  rw [same]

theorem State.raise_compared (s : State) (c : Word) (d : List Byte) : (s.raise c d).compared = s.compared :=
  State.compared_of_sys (by simp)

theorem State.setSt_compared (s : State) (new : ModState) : (s.setSt new).compared = s.compared := by
  unfold State.setSt
  extract_lets old drove s0 sys0 s1
  have kept : s0.sys = s.sys := by simp [s0, State.openSlots_frame]
  have moved : s1.compared = s.compared := by
    simp [State.compared, s1, sys0, State.gnssFollow_frame, kept]
  cases new <;> exact (State.compared_of_sys (by simp)).trans moved

theorem State.setDeg_compared (s : State) (bit : Nat) : (s.setDeg bit).compared = s.compared := by
  unfold State.setDeg
  extract_lets had cmd s1
  have kept : s1.compared = s.compared := rfl
  split
  · exact (State.setSt_compared _ _).trans kept
  · split
    · exact kept
    · exact (State.raise_compared _ _ _).trans kept
  · exact kept

theorem State.enterSafe_compared (s : State) (bit : Nat) : (s.enterSafe bit).compared = s.compared := by
  unfold State.enterSafe
  extract_lets cmd s1 unsent sys1 go
  have recorded : s1.compared = s.compared := rfl
  have pair : (s1.pairSafe bit).compared = s.compared := (State.compared_of_sys (by simp)).trans recorded
  have gone : go.compared = s.compared := by
    have aside : go.compared = (State.setSt { unsent with sys := { sys1 with pending := none } } .safe).compared :=
      State.compared_of_sys (by simp [go])
    exact aside.trans (State.setSt_compared _ _)
  clear_value go s1
  have either (c : Prop) [Decidable c] : (if c then s else go).compared = s.compared := by
    split
    · rfl
    · exact gone
  split
  · split
    · exact pair
    · exact recorded
  · exact gone
  · exact gone
  · exact either _
  · exact either _
  · exact either _
  · split
    · exact gone
    · rfl
  · rfl

theorem State.loomFault_compared (s : State) : s.loomFault.compared = s.compared :=
  State.enterSafe_compared { s with sys := { s.sys with loomFault := true } } 1

theorem State.mapAnalog_sys (s : State) (c : Nat) : (s.mapAnalog c).sys = s.sys := by
  unfold State.mapAnalog
  dsimp only
  (repeat' split) <;> rfl

theorem State.adcInvalid_sys (s : State) : s.adcInvalid.sys = s.sys := by
  unfold State.adcInvalid
  refine foldl_sys _ (fun a c => ?_) _ _
  dsimp only
  split
  · rfl
  · rw [State.mapAnalog_sys]
    split <;> simp

theorem State.compared_kiln (s : State) (k : Kiln) : State.compared { s with kiln := k } = s.compared := rfl

theorem State.domainFailed_compared (s : State) (n : Nat) : (s.domainFailed n).compared = s.compared := by
  have declared (c : BitVec 9) : State.compared { s with sys := { s.sys with clkFail := c } } = s.compared := rfl
  unfold State.domainFailed
  extract_lets sys1 s1 s2 s3
  have kept : s3.compared = s.compared :=
    (State.compared_kiln s2 _).trans ((State.raise_compared s1 _ _).trans (declared _))
  clear_value s3
  split
  · exact (State.setDeg_compared _ _).trans kept
  · exact (State.setDeg_compared _ _).trans ((State.compared_of_sys (State.adcInvalid_sys _)).trans kept)
  · exact (State.enterSafe_compared _ _).trans kept
  · exact kept
  · exact (State.loomFault_compared _).trans kept

/-- The reactions to a comparison leave its result as it was kept. -/
theorem execClockComparison_result {s : State} (counts : List (Nat × Nat)) (half : Nat × Nat) (power : s.sys.st ≠ .off) :
    Completes (execClockComparison counts half s) (fun t =>
      t.compared = (cmpFails counts half, cmpFails counts half &&& s.sys.cmpLast)) := by
  refine ⟨_, next_if_neg power, ?_⟩
  dsimp only
  refine (fold_proj State.compared _ (fun a p => ?_) _ _).trans ?_
  · split
    · rfl
    · exact State.raise_compared _ _ _
  · exact fold_proj State.compared _ (fun a n => State.domainFailed_compared a n) _ _

end Sys2Proof.Machine
open Sys2Proof Sys2Proof.Machine

/-- Settles O24: the pick tick and the edge in their two branches, RECORD by the beat it takes, the comparison by its
result. -/
theorem clocksAndPicks : Obligations.ClocksAndPicks := by
  unfold Obligations.ClocksAndPicks
  refine ⟨fun s netUs spare streams exc svcEn pw picks => ?_, fun s netUs spare streams exc svcEn pw none => ?_,
    fun s due started => execBeatEdge_started due started, fun s due dropped => execBeatEdge_dropped due dropped,
    fun s early => next_if_pos (by simp [early]), fun s u b run old prev last stage due => ?_,
    fun s u b run old prev last due => ?_, fun s u b old prev last runs => ?_, fun s u b old prev runs => ?_,
    fun s u b rest old => ?_, fun s counts half off => next_if_pos off,
    fun s counts half power sound => execClockComparison_sound power sound, fun s counts half power => ?_, fun s => rfl⟩
  · exact ⟨_, next_if_neg (by simp [picks]), _, _, rfl, rfl, rfl⟩
  · exact next_if_pos (by simp [none])
  · exact ⟨_, execRecord_last run old prev last stage due, _, rfl, rfl⟩
  · exact ⟨_, execRecord_prev run old prev last due, _, rfl, rfl⟩
  · simp only [exec, execRecordComplete, State.at_frame, old, last]
    cases prevIs : s.warp.prev with
    | none => simp only [runs, if_true, State.endUs]
    | some p =>
      have other : p.recording ≠ 1 := by simpa [prevIs] using prev
      simp only [runs, other, if_true, if_false, State.endUs]
  · simp only [exec, execRecordComplete, State.at_frame, old, prev, runs, if_true, State.endUs]
  · simp only [exec, execRecordComplete, State.at_frame, old, State.endUs]
  · obtain ⟨t, next, result⟩ := execClockComparison_result counts half power
    exact ⟨t, next, congrArg Prod.fst result, congrArg Prod.snd result⟩

/-- Settles O25: each monitor where its condition holds. -/
theorem coneMonitors : Obligations.ConeMonitors := by
  unfold Obligations.ConeMonitors
  refine ⟨fun s run many fresh => next_if_pos (by simp [run, many, fresh]),
    fun s run none told => next_if_pos (by simp [run, none, told]),
    fun s run row fresh => next_if_pos (by simp [run, row, fresh]), fun s before => next_if_pos before,
    fun s before => next_if_pos before, fun s b run stage last guiding => ?_,
    fun s n waits => next_if_neg (by simpa using waits), fun s n sent => next_if_pos (by simp [sent]),
    fun s n waits => next_if_neg (by simpa using waits), fun s n sent => next_if_pos (by simp [sent]),
    fun s u late => next_if_pos late, fun s waits => ?_,
    fun s many fresh => ?_, fun s many fresh => ?_⟩
  · simp [exec, execConeGuideLate, run, stage, last, guiding]
  · exact ⟨_, next_if_neg (by simpa using waits), _, rfl, rfl⟩
  · simp [exec, execScrubLate, many, fresh]
  · simp [exec, execScrubLate, many, fresh]

end

section

/-! The messages of the time protocols (R367 to R378, R387), and sources, steps, holdover, references, leap seconds and
pulses (R364 to R390). -/

namespace Sys2Proof.Machine

/-- What an Announce that is taken leaves of its source; a change of grandmaster requalifies it (R368). -/
def TimeSource.announced (x : TimeSource) (a : Announce) (now : Nat) (requal : Bool) : TimeSource :=
  { x with
    mast := false, annAt := now, annInt := logUs a.logInt, gm := some a.gm, sender := some a.sender
    utc := if a.utcValid then some (a.utcOfs, a.leap61, a.leap59) else none
    st := if requal then 2 else x.st, since := if requal then now else x.since }

/-- The Announce comes from another grandmaster than the last one. -/
def TimeSource.gmChanged (x : TimeSource) (a : Announce) : Bool :=
  match x.gm with
  | some g => g != a.gm
  | none => false

theorem execAnnounceReceive_taken {s : State} {i : Nat} {a : Announce}
    (worse : (s.domain i).master = false ∨ s.ownBetter i a = false) :
    execAnnounceReceive i a s = .next (
      let x := s.src i
      let requal := x.gmChanged a && (x.st == 2 || x.st == 3 || x.st == 4)
      let s1 := s.setSrc i (x.announced a s.otime requal)
      if requal then s1.reselect else if s.time.sel.contains i then s1.leapUpdate else s1) :=
  if_neg (by rcases worse with worse | worse <;> simp [worse])

theorem TimeSource.gmChanged_of_same {x : TimeSource} {a : Announce} (same : x.gm = some a.gm ∨ x.gm = none) :
    x.gmChanged a = false := by
  rcases same with same | same <;> simp [TimeSource.gmChanged, same]

theorem execAnnounceReceive_same {s : State} {i : Nat} {a : Announce}
    (worse : (s.domain i).master = false ∨ s.ownBetter i a = false)
    (same : (s.src i).gm = some a.gm ∨ (s.src i).gm = none) :
    execAnnounceReceive i a s = .next (
      let s1 := s.setSrc i ((s.src i).announced a s.otime false)
      if s.time.sel.contains i then s1.leapUpdate else s1) := by
  rw [execAnnounceReceive_taken worse]
  simp only [TimeSource.gmChanged_of_same same, Bool.false_and, Bool.false_eq_true, if_false]

end Sys2Proof.Machine

open Sys2Proof Sys2Proof.Machine

/-- Settles O26: an Announce by the comparison of data sets and by its grandmaster, every other message by its port. -/
theorem timeMessages : Obligations.TimeMessages := by
  unfold Obligations.TimeMessages
  refine ⟨fun s i port mast => next_if_pos ⟨port, mast⟩, fun s mast => next_if_pos mast, fun s i mast => if_pos mast,
    fun s i a mast better => if_pos (by simp [mast, better]), fun s i a worse same sel => ?_,
    fun s i a worse same sel => ?_, fun s i a g worse gm other st => ?_, fun s i p n t1 corr t2 l v slave times => ?_,
    fun s i p n t1 corr t2 l v slave times => ?_, fun s i p n t1 corr t2 c v b bad port slave times wait => ?_,
    fun s i p n t1 corr v b bad e ring passed => ?_, fun s i p n t1 corr v b bad ring passed => ?_,
    fun s g n bad corr res b => rfl, fun s g n bad corr res b => rfl, fun s g n sync two bad corr res b => rfl,
    fun s g n two bad corr res b => rfl, fun s i p u slave times profile => if_pos (by simp [slave, times, profile]),
    fun s i p n t4 t3 t1 t2 slave times req sync => ?_, fun s i p n u port mast => next_if_pos ⟨port, mast⟩,
    fun s p u peer => if_pos peer, fun s p n u peer => next_if_pos peer, fun s p n t4 turn t1 peer req => ?_,
    fun s => rfl⟩
  · refine (execAnnounceReceive_same worse same).trans ?_
    simp only [sel, Bool.false_eq_true, if_false]
    rfl
  · refine (execAnnounceReceive_same worse same).trans ?_
    simp only [sel, if_true]
    rfl
  · refine (execAnnounceReceive_taken worse).trans ?_
    have requal : ((s.src i).gmChanged a && ((s.src i).st == 2 || (s.src i).st == 3 || (s.src i).st == 4)) = true := by
      rcases st with st | st | st <;> simp [TimeSource.gmChanged, gm, other, st]
    simp only [requal, if_true]
    rfl
  · simp [exec, execPtpSyncReceive, slave, times]
  · exact ⟨_, if_pos (by simp [slave, times]), _, rfl, rfl⟩
  · simp [exec, execFollowUpReceive, port, slave, times, wait]
  · simp only [exec, execFollowUpReceive, Nat.not_lt.mpr ring, if_false, passed]
  · simp only [exec, execFollowUpReceive, Nat.not_lt.mpr ring, if_false, passed]
  · simp [exec, execDelayRespReceive, slave, times, req, sync]
  · simp [exec, execPdelayRespReceive, peer, req]

/-- Settles O27: each supervision of a source, of the oscillators and of the outputs where its condition holds. -/
theorem timeSources : Obligations.TimeSources := by
  unfold Obligations.TimeSources
  refine ⟨fun s i port out master st => ?_, fun s i st fed time => next_if_pos ⟨st, fed, time⟩,
    fun s i st time => next_if_pos ⟨st, time⟩, fun s i since agree st time => ?_,
    fun s est sel edge idle beyond => ?_, fun s est sel edge active run phase beyond => ?_,
    fun s hold fresh beyond => next_if_pos (by simp [hold, fresh, beyond]),
    fun s devs unused sound draft many within => next_if_pos ?_, fun s edge dev ratio fails used => ?_,
    fun s edge dev ratio fails unused => ?_, fun s ratio bad draft time => next_if_pos (by simp [bad, draft, time]),
    fun s edge dev fresh fails => next_if_neg ?_, fun s est l61 day => next_if_pos ?_,
    fun s est l61 l59 day => ?_, fun s n u r rec on draft second ended => ?_, fun s valid off => ?_,
    fun s since invalid sinceIs on time => ?_⟩
  · have due : i < 2 ∧ (decide ((s.src i).annAt + annTimeout * (s.src i).annInt ≤ s.otime) ||
        decide ((s.src i).syncAt + 3 * (s.src i).syncInt ≤ s.otime)) = true :=
      ⟨port, by simpa using out⟩
    refine (if_pos due).trans ?_
    simp [master, st]
  · simp [exec, execSuspectReturn, agree, st, time]
  · exact ⟨_, by simp [exec, execDtimeStep, est, sel, edge, idle, beyond], _, rfl, rfl⟩
  · exact ⟨_, by simp [exec, execDtimeStep, est, sel, edge, active, run, phase, beyond], _, _, rfl, rfl, rfl⟩
  · simp only [List.all_eq_true, decide_eq_true_eq] at within
    simpa [unused, sound, draft, many, oscOff] using within
  · refine (next_if_neg ?_).trans (next_if_pos used)
    rcases fails with fails | fails <;> simp [fails, oscOff]
  · refine (next_if_neg ?_).trans (next_if_neg (by simp [unused]))
    rcases fails with fails | fails <;> simp [fails, oscOff]
  · rcases fails with fails | fails <;> simp [fresh, fails, oscOff]
  · simpa only [est, l61, Bool.and_self, Bool.true_and, beq_iff_eq] using day
  · refine (next_if_neg (by simp [l61])).trans (next_if_pos ?_)
    simpa only [est, l59, Bool.and_self, Bool.true_and, beq_iff_eq] using day
  · have runs : (r.mode == 1 && s.clk.est || r.mode == 2 && decide (3 ≤ stateCode s.sys.st)) = true := by
      rcases on with ⟨mode, est⟩ | ⟨mode, state⟩
      · simp [mode, est]
      · simp [mode, state]
    simp only [exec, execPpsPulse, rec, runs, draft, decide_eq_true second, decide_eq_true ended, Bool.and_self, if_true]
    rfl
  · simp [exec, execTpvalidChange, valid, off]
  · simp [exec, execTpvalidChange, invalid, sinceIs, on, time]

end

section

/-! Decoding, the stages of a beat, session and track timeouts (R55, R87 to R91, R111), and the Observer's and GUIDE's
steps (R54, R143, R145, R146, R205). -/

namespace Sys2Proof.Machine

theorem execGuide_runs {s : State} {u : Ns} {b : Beat} (run : s.warp.run = true) (last : s.warp.last = some b)
    (holds : b.holders.contains .guide = true) (observed : b.holders.contains .observe = false)
    (time : b.edge + 1500000 ≤ (s.at u).now) :
    execGuide u s = .next (
      let r := (match s.draft with
        | some d => (s.at u).guideRun d
        | none => s.at u).releaseGuide .guide
      { r with warp := { r.warp with stage := if r.warp.stage == .observed then .guided else r.warp.stage } }) := by
  have edge : (s.at u).beatEdge = b.edge := by simp [State.beatEdge, last]
  refine next_if_pos ?_
  simp only [State.at_frame, run, last, holds, observed, edge, Bool.not_false, Bool.and_self,
    decide_eq_true time]

end Sys2Proof.Machine

open Sys2Proof Sys2Proof.Machine

/-- Settles O28: each stage in its place, each timeout when it is due. -/
theorem intakeAndVote : Obligations.IntakeAndVote := by
  unfold Obligations.IntakeAndVote
  have next {t v : State} (same : t = v) := congrArg (Host.Outcome.next (φ := Fault) (ρ := Refusal)) same
  refine ⟨fun s g rest inbox => ?_, fun s empty => ?_, fun s run stage => next_if_pos (by simp [run, stage]),
    fun s run stage => next_if_pos (by simp [run, stage]), fun s run stage => next_if_pos (by simp [run, stage]),
    fun s k u st time => next_if_pos ⟨st, time⟩, fun s i u x sess st k1 k2 k3 time => next ?_,
    fun s i u x sess kind st time => next ?_, fun s i u x sess st time => next ?_⟩
  · simp only [exec, execTelegramDecode, inbox]
  · simp only [exec, execTelegramDecode, empty]
  · simp [State.sessStale, sess, st, k1, k2, k3, time]
  · simp [State.sessLost, sess, st, kind, time]
  · simp [State.sessUnbar, sess, st, time]

/-- Settles O29: each step of the Observer and of GUIDE where its condition holds. -/
theorem observerAndGuide : Obligations.ObserverAndGuide := by
  unfold Obligations.ObserverAndGuide
  refine ⟨fun s u d draft valid dr fresh long => ?_, fun s d l draft before valid time log => ?_,
    fun s run due => next_if_pos (by simp [run, due]), fun s u d b draft run last holds observed time => ?_,
    fun s u b draft run last holds observed time => ?_, fun s soft done => next_if_pos (by simp [soft, done])⟩
  · simp [exec, execMaxDeadReckoningTime, draft, valid, dr, fresh, long]
  · subst log
    have due : (s.warp.before .observed && s.obs.valid && decide (s.obs.waveSince + 60000000000 ≤ s.beatEdge)) = true := by
      simp [before, valid, time]
    simp only [exec, execWaveFrequencyUpdate, draft, due, if_true, List.map_map, Function.comp_def]
  · refine ⟨_, execGuide_runs run last holds observed time, _, rfl, ?_⟩
    simp only [draft]
  · refine ⟨_, execGuide_runs run last holds observed time, _, rfl, ?_⟩
    simp only [draft]

end

section

/-! The Wheel's solve of a beat (R165, R169, R171, R173, R174), its degraded mode (R177, R178), the copy of its warm-start
record (R180) and the consequence cycle (R234 to R237). -/

namespace Sys2Proof.Machine

/-- Where SOLVE may begin: GUIDE and the beat task have released the bank, not before b + 2.0 ms, before pick N − 2. -/
theorem execSolveStart_runs {s : State} {u : Ns} {b : Beat} (ecc : Option (Fin 8)) (run : s.warp.run = true)
    (stage : s.warp.stage = .guided) (last : s.warp.last = some b) (free : b.guiding = false)
    (time : b.edge + 2000000 ≤ (s.at u).now) (early : s.warp.pickCount < b.pick + (s.n - 2)) :
    execSolveStart ecc u s = .next (
      let t := (s.at u).solveStart
      match ecc with
      | some e => if t.warp.stage == .solving then (t.eccFault e).engineEnd else (t.eccFault e).loomFault
      | none => t) := by
  refine next_if_pos ?_
  simp [run, stage, last, free, early, time]

theorem State.solveStart_of_sound {s : State} {sc : WheelSched} {im : Image}
    (sched : s.schedChange.sched s.solveRole = some sc) (image : s.schedChange.beatImage = some im)
    (sound : valsOk im.vals = true) :
    s.solveStart = State.solveBegin
      { s.schedChange with warp := { s.schedChange.warp with stage := .solving } } sc im.vals := by
  simp [State.solveStart, sched, image, sound]

/-- The starting point of a solve: no iteration yet, on the values it was given. -/
theorem State.solveBegin_solve (s : State) (sc : WheelSched) (v : QpVals) :
    (s.solveBegin sc v).warp.stage = s.warp.stage ∧
      ∃ w, (s.solveBegin sc v).wheel.solve = some w ∧ w.iter = 0 ∧ w.role = sc.role ∧ w.vals = v := by
  fun_cases State.solveBegin s sc v
  · exact ⟨rfl, _, rfl, rfl, rfl, rfl⟩
  · simp only [State.raise_frame]
    exact ⟨rfl, _, rfl, rfl, rfl, rfl⟩
  · exact ⟨rfl, _, rfl, rfl, rfl, rfl⟩
  · exact ⟨rfl, _, rfl, rfl, rfl, rfl⟩

theorem execWheelIteration_runs {s : State} {u : Ns} {b : Beat} {v : Solve} {d : Draft} {sc : WheelSched}
    (l : List (Fin 8)) (ecc : Option (Fin 8)) (run : s.warp.run = true) (stage : s.warp.stage = .solving)
    (last : s.warp.last = some b)
    (early : s.warp.pickCount < b.pick + (s.n - 2) ∨ (s.warp.pickCount = b.pick + (s.n - 2) ∧ u = 0))
    (solve : s.wheel.solve = some v) (draft : s.draft = some d) (sched : s.sched s.solveRole = some sc) :
    execWheelIteration l ecc u s = .next ((s.at u).wheelStep d.wheel sc v l ecc) := by
  have sched' : (s.at u).sched (s.at u).solveRole = some sc := sched
  have early' : (decide (s.warp.pickCount < b.pick + (s.n - 2)) ||
      (s.warp.pickCount == b.pick + (s.n - 2) && u == 0)) = true := by simpa using early
  simp only [execWheelIteration, State.at_frame, solve, draft, sched', run, stage, last, early', beq_self_eq_true,
    Bool.and_self, if_true]

/-- An iteration by what its residue errors, its ECC error and its factorization gave. -/
theorem State.wheelStep_of_hits {s r : State} {sc : WheelSched} {v : Solve} {l : List (Fin 8)} {ecc : Option (Fin 8)}
    {o : IpOut} {bad : Bool} (d : DraftWheel) (out : o = (qpOf sc v.vals).scaled.iteration sc.perm v.raised v.pt)
    (hits : ((State.countPivots
      { s with wheel := { s.wheel with
          solve := some { v with pivot := v.pivot || decide (0 < o.pivots), raised := o.raised } } }
      o (!v.pivot)).residueHits l ecc = (r, bad))) :
    s.wheelStep d sc v l ecc =
      if bad then r.engineEnd
      else match o.next with
        | none => r.outcomeBy 4
        | some (pt, al, dir) => r.iterate d
            (r.wheel.solve.getD { v with pivot := v.pivot || decide (0 < o.pivots), raised := o.raised })
            pt (measure (qpOf sc v.vals) (qpOf sc v.vals).scaled pt al dir) := by
  subst out
  simp only [State.wheelStep, hits] <;> rfl

/-- At pick N − 2 a beat that is not dispatched yet is dispatched, after its solve was ended where it is not done. -/
theorem execConeSolveDeadline_runs {s : State} {b : Beat} (l : List (Fin 8)) (ecc : Option (Fin 8)) (k : Nat)
    (run : s.warp.run = true) (last : s.warp.last = some b) (pick : b.pick + (s.n - 2) = s.warp.pickCount)
    (stage : s.warp.stage.num < 8) :
    execConeSolveDeadline l ecc k s = .next (
      let start := match s.wheel.solve with
        | some v => some v.start
        | none => if s.warp.stage == .solved then some (b.edge + s.wheel.startUs * 1000) else none
      let t := if s.warp.stage == .solved then s.at 0
        else if s.warp.stage == .solving then ((s.at 0).fire 3).cutSolve l ecc
        else ((s.at 0).fire 3).schedChange.outcome 0xD
      (t.dispatch start).sendBeat k) := by
  have due : (s.warp.run && b.pick + (s.n - 2) == s.warp.pickCount && decide (s.warp.stage.num < 8)) = true := by
    simp [run, pick, stage]
  simp only [execConeSolveDeadline, State.at_frame, last, due, if_true, Option.bind_some] <;> rfl

/-- What starts the consequence cycle of the newest beat, the cycle before it closed. -/
theorem execConsequenceCycleStart_runs {s : State} {d : Draft} {b : Beat} {im : Image} (draft : s.draft = some d)
    (run : s.warp.run = true) (last : s.warp.last = some b) (count : b.count % 60 = 0)
    (image : s.beatImage = some im) :
    execConsequenceCycleStart s = .next (
      let t := if s.alloc.cqActive then
          s.cycleEnd (s.alloc.cqDone ++ List.replicate s.alloc.cqImgs.length { result := 3 }) else s
      let imgs := t.scenarios.map (fun c =>
        t.scenImage d (t.beatImage.getD { role := 1, edge := 0, thr := [], bus := [] }) c)
      { t with alloc := { t.alloc with cqActive := !imgs.isEmpty, cqImgs := imgs, cqDone := [] } }) := by
  have due : (s.warp.run && b.count % 60 == 0 && s.beatImage.isSome) = true := by simp [run, count, image]
  simp only [execConsequenceCycleStart, draft, last, due, if_true]

/-- The end of a cycle takes neither the beat nor its image. -/
theorem State.cycleEnd_beatImage (s : State) (res : List CqRes) : (s.cycleEnd res).beatImage = s.beatImage := by
  have frame : (s.cycleEnd res).alloc.image = s.alloc.image ∧ (s.cycleEnd res).warp.last = s.warp.last := by
    simp [State.cycleEnd]
  obtain ⟨image, last⟩ := frame
  simp only [State.beatImage, State.beatEdge, image, last] <;> rfl

theorem execConsequenceScenarioEnd_runs {s r : State} {l : List (Fin 8)} {ecc : Option (Fin 8)} {d : Draft} {im : Image}
    {rest : List Image} {sc : WheelSched} {o : ConseqOut} {bad : Bool} (draft : s.draft = some d)
    (active : s.alloc.cqActive = true) (imgs : s.alloc.cqImgs = im :: rest) (sched : s.conseqSched = some sc)
    (idle : s.warp.stage ≠ .solving) (out : o = s.conseqSolve d.wheel sc im)
    (hits : State.residueHits { s with wheel := { s.wheel with
      pivCnt := satAdd 0xFFFF s.wheel.pivCnt o.pivots, refac := satAdd 0xFFFF s.wheel.refac o.refac } } l ecc =
      (r, bad)) :
    execConsequenceScenarioEnd l ecc s = .next (
      let done := r.alloc.cqDone ++ [if bad then { result := 3 } else
        scenResult d.alloc.tolc { d := d, im := im, h := 0, dt := 0 } sc o]
      let t : State := if rest.isEmpty then r.cycleEnd done
        else { r with alloc := { r.alloc with cqImgs := rest, cqDone := done } }
      if bad then t.loomFault else t) := by
  subst out
  have due : (s.alloc.cqActive && s.wheelIdle) = true := by simp [State.wheelIdle, active, idle]
  unfold execConsequenceScenarioEnd
  split
  · next im' rest' d' sc' imgs' draft' sched' =>
    obtain ⟨rfl, rfl⟩ := List.cons.inj (imgs'.symm.trans imgs)
    obtain rfl := Option.some.inj (draft'.symm.trans draft)
    obtain rfl := Option.some.inj (sched'.symm.trans sched)
    rw [if_pos due]
    dsimp only
    rw [hits]
  · next other => exact absurd sched (other im rest d sc imgs draft)

end Sys2Proof.Machine

open Sys2Proof Sys2Proof.Machine

/-- Settles O30: each step of the Wheel in its place, by the lemma that says where it runs. -/
theorem wheelSteps : Obligations.WheelSteps := by
  unfold Obligations.WheelSteps
  refine ⟨fun s u b r sc im run stage last free time early st sched image sound => ?_,
    fun s u b r sc run stage last free time early st sched unsound => ?_,
    fun s u b r run stage last free time early st sched => ?_,
    fun s e u b r sc im run stage last free time early st sched image sound => ?_,
    fun s l ecc u b v x d sc o pt al dir r run stage last early solve draft sched out hits solving next => ?_,
    fun s l ecc u b v d sc o r run stage last early solve draft sched out hits next => ?_,
    fun s l ecc u b v d sc o r run stage last early solve draft sched out hits => ?_,
    fun s l ecc k b v r run last pick stage solve hits => ?_, fun s l ecc k b v r run last pick stage solve hits => ?_,
    fun s l ecc k b run last pick stage solve => ?_, fun s l ecc k b run last pick stage solve => ?_,
    fun s run miss wdeg => next_if_pos (by simp [run, miss, wdeg]),
    fun s run wdeg clean => next_if_pos (by simp [run, clean, wdeg]),
    fun s run miss safe => next_if_pos (by simp [run, miss, safe]),
    fun s r run due recs slot => ?_, fun s r run due recs slot => ?_, fun s run due recs => ?_,
    fun s d b im draft run last count image idle => ?_, fun s d b im r draft run last count image active closed => ?_,
    fun s l ecc d im sc o r draft active imgs sched idle out hits => ?_,
    fun s l ecc d im im2 rest sc o r draft active imgs sched idle out hits => ?_,
    fun s l ecc d im rest sc o r draft active imgs sched idle out hits => ?_⟩
  · subst st
    have begun := (s.at u).solveStart_of_sound sched image sound
    refine ⟨_, execSolveStart_runs none run stage last free time early, begun, ?_⟩
    simp only [begun]
    exact State.solveBegin_solve _ _ _
  · subst st
    refine ⟨_, execSolveStart_runs none run stage last free time early, _, rfl, ?_⟩
    simp only [State.solveStart, sched, unsound, Bool.false_eq_true, if_false]
  · subst st
    refine (execSolveStart_runs none run stage last free time early).trans ?_
    simp only [State.solveStart, sched]
  · subst st
    have begun := (s.at u).solveStart_of_sound sched image sound
    refine (execSolveStart_runs (some e) run stage last free time early).trans ?_
    simp only [begun, State.solveBegin_solve, beq_self_eq_true, if_true]
  · refine (execWheelIteration_runs l ecc run stage last early solve draft sched).trans ?_
    rw [(s.at u).wheelStep_of_hits d.wheel out hits]
    simp [next, solving]
  · refine (execWheelIteration_runs l ecc run stage last early solve draft sched).trans ?_
    rw [(s.at u).wheelStep_of_hits d.wheel out hits]
    simp [next]
  · refine (execWheelIteration_runs l ecc run stage last early solve draft sched).trans ?_
    rw [(s.at u).wheelStep_of_hits d.wheel out hits, if_pos rfl]
  · refine (execConeSolveDeadline_runs l ecc k run last pick (by rw [stage]; decide)).trans ?_
    simp [stage, solve, State.cutSolve, hits]
  · refine (execConeSolveDeadline_runs l ecc k run last pick (by rw [stage]; decide)).trans ?_
    simp [stage, solve, State.cutSolve, hits]
  · have notSolved : s.warp.stage ≠ .solved := fun h => absurd (h ▸ stage) (by decide)
    have notSolving : s.warp.stage ≠ .solving := fun h => absurd (h ▸ stage) (by decide)
    refine (execConeSolveDeadline_runs l ecc k run last pick (Nat.lt_trans stage (by decide))).trans ?_
    simp [notSolved, notSolving, solve]
  · refine (execConeSolveDeadline_runs l ecc k run last pick (by rw [stage]; decide)).trans ?_
    simp [stage, solve]
  · simp [exec, execWheelRecordCopy, State.copyRecord, run, due, recs, slot]
  · simp [exec, execWheelRecordCopy, State.copyRecord, run, due, recs, slot]
  · simp [exec, execWheelRecordCopy, State.copyRecord, run, due, recs]
  · refine (execConsequenceCycleStart_runs draft run last count image).trans ?_
    simp only [idle, image, Bool.false_eq_true, if_false, Option.getD_some]
  · subst closed
    refine (execConsequenceCycleStart_runs draft run last count image).trans ?_
    simp only [active, if_true, State.cycleEnd_beatImage, image, Option.getD_some]
  · refine (execConsequenceScenarioEnd_runs draft active imgs sched idle out hits).trans ?_
    rfl
  · exact (execConsequenceScenarioEnd_runs draft active imgs sched idle out hits).trans rfl
  · refine ⟨_, execConsequenceScenarioEnd_runs draft active imgs sched idle out hits, fun none_ => ?_, fun some_ => ?_⟩
    · subst none_
      rfl
    · simp [some_]

end

section

/-! GOOSE ageing, breaker positions, fast inputs and generators (R217, R222, R223, R227). -/

open Sys2Proof Sys2Proof.Machine

/-- Settles O31: each timeout of the plant where it is due, each change of a fast input at once. -/
theorem plantInputs : Obligations.PlantInputs := by
  unfold Obligations.PlantInputs
  refine ⟨fun s i u seen fresh time => next_if_pos (by simp [seen, fresh, time]),
    fun s tie i k u t0 inter time => ?_, fun s tie i u t0 disagree told time => ?_, fun s k u => rfl,
    fun s k u => rfl, fun s g u r t0 rec_ at_ closed online time => ?_⟩
  · simp only [exec, execBreakerIntermediateTimeout, State.at_frame, inter, time, if_true]
  · simp [exec, execBreakerDisagreement, disagree, told, time]
  · simp only [exec, execGeneratorOnline, State.at_frame, State.at_plantRec, rec_, at_]
    exact next_if_pos (by simp [closed, online, time])

end

section

/-! The loop engine's run, its overrun and the supervision of a slot (R261, R263 to R266, R275, R278). -/

open Sys2Proof Sys2Proof.Machine

/-- Settles O32: the engine's run and its overrun while the fast lane runs, each supervision where its condition holds. -/
theorem loopSlots : Obligations.LoopSlots := by
  unfold Obligations.LoopSlots
  refine ⟨fun s late fast => ⟨_, next_if_pos fast, _, rfl, rfl⟩, fun s r fast overrun => ?_,
    fun s k n c r b rec_ thr st fell => ?_, fun s k n c r rec_ thr st => ?_, fun s k c rec_ st time => ?_,
    fun s k c rec_ st time => ?_, fun s k c r rec_ rep valid lost => ?_,
    fun s k c since rec_ st auto cause good time => ?_⟩
  · subst overrun
    exact next_if_pos fast
  · subst fell
    simp only [State.slotOverrun, rec_, thr, st, if_true]
  · have controls : ¬ ((s.slot k).st = 2 ∨ (s.slot k).st = 3) := by omega
    simp only [State.slotOverrun, rec_, thr, controls, st, if_false, if_true]
  · simp only [exec, execSlotSoftComplete, rec_, st, time, and_self, if_true]
  · simp only [exec, execFollowingErrorTimeout, rec_, st, time, and_self, if_true]
  · simp only [exec, execPeriodSourceInvalid, rec_, rep, valid, lost, Bool.not_false, Bool.and_self, if_true]
  · simp only [exec, execSlotAutoRecovery, rec_, st, auto, cause, good, time, decide_true, and_self, if_true]

end

section

/-! Training, acquisition, demand, tracking and the loop words of the basebands (R297 to R301, R311, R313, R316 to R321,
R324). -/

namespace Sys2Proof.Machine

/-- A dwell counts while the block runs, in the first three picks of four. -/
theorem execAcquisitionSearchComplete_runs {s : State} {a : Acq} {p : Snap} (d : DwellIn) (cur : s.gnss.cur = some a)
    (snap : s.gnss.snap = some p) (pick : s.warp.pickCount % 4 ≠ 0) (run : s.gnss.run = true) :
    execAcquisitionSearchComplete d s = .next (
      let x := s.chan a.ch
      match dwellDetects a.kind x.sig p.blocks (s.pset x).acq d with
      | none => s.acqDone false
      | some b =>
        match a.first with
        | none => { s with gnss := { s.gnss with cur := some { a with first := some (b.code, b.dop) } } }
        | some (c, f) =>
          if binsNear a.kind x.sig b.code c ∧ (b.dop - f).natAbs ≤ 1 then
            (if (x.st = 1 ∨ x.st = 5) ∧ (s.strm x.strm).up then s.startChan a p.coh b else s).acqDone true
          else s.acqDone false) := by
  have counts : ¬ (s.warp.pickCount % 4 = 0 ∨ (!s.gnss.run) = true) := by simp [pick, run]
  simp only [execAcquisitionSearchComplete, cur, snap, counts, if_false]
  cases dwellDetects a.kind (s.chan a.ch).sig p.blocks (s.pset (s.chan a.ch)).acq d with
  | none => rfl
  | some b =>
    cases a.first with
    | none => rfl
    | some e => exact (apply_ite Host.Outcome.next _ _ _).symm

end Sys2Proof.Machine

open Sys2Proof Sys2Proof.Machine

/-- Settles O33: each step of the basebands where its condition holds, and the ends of a dwell and of a dump by case. -/
theorem gnssSignals : Obligations.GnssSignals := by
  unfold Obligations.GnssSignals
  refine ⟨fun s a run head => if_pos (by simp [run, head]), fun s a res busy => ?_,
    fun s a due timer run time up => ?_, fun s a due timer run time down => ?_, fun s d idle => ?_,
    fun s d a p x cur snap pick run ch => ?_, fun s sats load run => ?_,
    fun s c unit lost => next_if_pos ⟨unit, lost⟩,
    fun s c v u p x y r ot low high up bound ps bd yd rd od => ?_, fun s c v u idle => ?_,
    fun s c car cod slew u low high time => ?_, fun s c car cod slew u low high time => ?_⟩
  · refine ⟨_, if_pos busy, _, rfl, fun up => ?_, fun down => ?_⟩
    · simp only [up, if_true]
    · simp only [down, Bool.false_eq_true, if_false]
  · simp only [exec, execGroupRetrainTimer, timer, run, time, up, decide_true, Bool.and_self, if_true]
  · simp only [exec, execGroupRetrainTimer, timer, run, time, down, decide_true, Bool.and_self, if_true,
      Bool.false_eq_true, if_false]
  · have idle' : s.warp.pickCount % 4 = 0 ∨ (!s.gnss.run) = true := by simpa using idle
    simp only [exec, execAcquisitionSearchComplete, idle', if_true]
    split <;> rfl
  · subst ch
    refine ⟨_, execAcquisitionSearchComplete_runs d cur snap pick run, fun none_ => ?_, fun b hit => ?_⟩
    · simp only [none_]
    · refine ⟨fun none_ => ?_, fun e first => ⟨fun near => ⟨fun asks up => ?_, fun busy => ?_⟩, fun far => ?_⟩⟩
      · simp only [hit, none_]
      · simp only [hit, first, near, asks, up, and_self, if_true]
      · have idle : ¬ (((s.chan a.ch).st = 1 ∨ (s.chan a.ch).st = 5) ∧ (s.strm (s.chan a.ch).strm).up = true) := by
          rintro ⟨asks, up⟩
          rcases busy with ⟨first_, lost⟩ | down
          · exact asks.elim first_ lost
          · exact Bool.false_ne_true (down.symm.trans up)
        simp only [hit, first, near, idle, and_self, if_true, if_false]
      · have apart : ¬ (binsNear a.kind (s.chan a.ch).sig b.code e.1 = true ∧ (b.dop - e.2).natAbs ≤ 1) := by
          rintro ⟨near, close⟩
          rcases far with codes | dops
          · exact Bool.false_ne_true (codes.symm.trans near)
          · omega
        simp only [hit, first, apart, if_false]
  · refine ⟨_, if_neg (by simp [run]), _, _, _, _, _, _, rfl, rfl, rfl, rfl, rfl⟩
  · subst ps bd yd rd od
    have tracked : ¬ ((s.chan c).st < 2 ∨ 4 < (s.chan c).st ∨ (!(s.strm (s.chan c).strm).up) = true ∨
        (!(s.chan c).boundaryOk v.k (s.pset (s.chan c)).tiMax) = true) := by
      simp only [up, bound, Bool.not_true, Bool.false_eq_true, or_false]
      omega
    refine ⟨_, if_neg tracked, fun pull lock => ?_, fun pull lock => ?_, fun pull low => ?_, fun dll held => ?_,
      fun pll held => ?_⟩
    · exact (if_pos pull).trans (if_pos lock)
    · exact (if_pos pull).trans (if_neg fun held => Bool.false_ne_true (lock.symm.trans held))
    · exact (if_neg pull).trans (if_pos low)
    · exact (if_neg fun h => absurd (dll.symm.trans h) (by decide)).trans
        ((if_neg fun h => Bool.false_ne_true (held.symm.trans h)).trans (if_pos dll))
    · exact (if_neg fun h => absurd (pll.symm.trans h) (by decide)).trans
        ((if_neg fun h => Bool.false_ne_true (held.symm.trans h)).trans
          (if_neg fun h => absurd (pll.symm.trans h) (by decide)))
  · refine if_pos ?_
    simpa using idle
  · have tracked : ¬ ((s.chan c).st < 2 ∨ 4 < (s.chan c).st) := by omega
    exact (if_neg tracked).trans (if_neg (Nat.not_lt.mpr time))
  · have tracked : ¬ ((s.chan c).st < 2 ∨ 4 < (s.chan c).st) := by omega
    exact ⟨_, (if_neg tracked).trans (if_pos time), _, rfl, rfl⟩
end

section

/-! The common latch, posting and discarding of records, exclusions and corrections (R329, R342 to R346, R352, R364 to
R369). -/

namespace Sys2Proof.Machine

/-- A session's budget does not take time. -/
theorem State.charge_now (s : State) (i : Nat) : (s.charge i).1.now = s.now := by
  unfold State.charge
  split <;> rfl

/-- A message of the correction session: judged by its check value, then by the session's budget, then by its type. -/
theorem State.rtcmMessage_taken {s r q : State} {i : Nat} {b : List Byte} {room : Bool} (takes : s.sessTakes i = true)
    (sess : s.gnssRec.rtcm = some i)
    (unit : r = (match s.sessRec i with
      | some x => s.glazeUnit (rxUnit x) i 2 (b.take (b.length - 3))
      | none => s))
    (charge : r.charge i = (q, room)) :
    s.rtcmMessage i b =
      if !rtcmOk b then r.glazeFail.sessReject i r.now false
      else if !room then q
      else if rtcmTypes.contains (bitsAt b 24 12) then (q.sessValid i q.now).rtcmTake (bitsAt b 24 12) b
      else (q.sessValid i q.now).rtcmIgnore i (bitsAt b 24 12) := by
  have ours : ¬ ((!s.sessTakes i || s.gnssRec.rtcm != some i) = true) := by simp [takes, sess]
  refine (if_neg ours).trans ?_
  extract_lets t ty
  have same : t = r := unit.symm
  have now : q.now = r.now := by
    have kept := State.charge_now r i
    rwa [charge] at kept
  rw [same, charge, now]

/-- A due record beside those that stay in time is taken out. -/
theorem discard_ne {s : State} {r : DueRec} (mem : r ∈ s.gnss.rawDue ++ s.gnss.posDue ++ s.gnss.attDue)
    (late : s.inTime r = false) :
    ({ s.gnss with
      rawDue := s.gnss.rawDue.filter (fun x => s.inTime x)
      posDue := s.gnss.posDue.filter (fun x => s.inTime x)
      attDue := s.gnss.attDue.filter (fun x => s.inTime x) } : Gnss) ≠ s.gnss := by
  have gone {l : List DueRec} (same : l.filter (fun x => s.inTime x) = l) : r ∉ l := fun here =>
    Bool.false_ne_true (late.symm.trans (List.filter_eq_self.mp same r here))
  intro same
  rcases List.mem_append.mp mem with mem | mem
  · rcases List.mem_append.mp mem with mem | mem
    · exact gone (congrArg Gnss.rawDue same) mem
    · exact gone (congrArg Gnss.posDue same) mem
  · exact gone (congrArg Gnss.attDue same) mem

end Sys2Proof.Machine

open Sys2Proof Sys2Proof.Machine

/-- Settles O34: the latch, each posting and each expiry where it is due, and a correction message by what judges it. -/
theorem gnssMeasurements : Obligations.GnssMeasurements := by
  unfold Obligations.GnssMeasurements
  refine ⟨fun s v run m latch => ?_, fun s v idle => ?_,
    fun s u r rest d due posts time draft k dec => ?_, fun s u r rest due posts time none_ => ?_,
    fun s u r rest due posts time ok => ?_, fun s u r rest due posts time ok => ?_,
    fun s u r mem late => ?_, fun s => rfl, fun s since bad time => ?_, fun s since bad time => ?_,
    fun s scores l run pick order => ?_, fun s i b u other => ?_, fun s i b u r takes sess unit bad => ?_,
    fun s i b u r q takes sess unit ok charge => ?_, fun s i b u r q takes sess unit ok charge type_ => ?_,
    fun s i b u r q takes sess unit ok charge type_ => ?_⟩
  · refine ⟨_, if_pos (by simp [run, m, latch]), _, _, _, _, rfl, fun none_ => ?_, fun x some_ => ?_, rfl, rfl⟩
    · simp only [none_]
    · simp only [some_]
  · refine if_neg ?_
    rcases idle with idle | idle | idle <;> simp [idle]
  · simp only [exec, execRawRecordPost, due, posts, time, draft, k, dec, Bool.and_self, ne_eq, not_false_eq_true,
      and_self, if_true]
    rfl
  · have staged : ¬ ((match s.draft with
        | some d => d.base.rawDecim
        | none => 0) ≠ 0 ∧ ofBe ((r.bytes.drop 16).take 4) % (match s.draft with
        | some d => d.base.rawDecim
        | none => 0) = 0) := by
      cases draft : s.draft with
      | none => simp
      | some d =>
        rw [draft] at none_
        have none' : d.base.rawDecim = 0 ∨ ¬ ofBe ((r.bytes.drop 16).take 4) % d.base.rawDecim = 0 := by simpa using none_
        rintro ⟨on, due⟩
        exact none'.elim on (fun other => other due)
    simp only [exec, execRawRecordPost, due, posts, time, Bool.and_self, if_true]
    exact next_if_neg staged
  · simp only [exec, execPositionRecordPost, due, posts, time, ok, Bool.not_false, Bool.and_self, if_true]
    rfl
  · simp only [exec, execAttitudeRecordPost, due, posts, time, ok, Bool.not_false, Bool.and_self, if_true]
    rfl
  · exact next_if_neg (discard_ne (s := s.at u) mem late)
  · simp only [exec, execWithdrawalEnd, bad, time, Bool.false_eq_true, if_false, if_true]
  · simp only [exec, execWithdrawalEnd, bad, time, if_true]
  · subst order
    exact ⟨_, if_pos (by simp [run, pick]), _, rfl, rfl⟩
  · refine next_if_pos ?_
    rcases other with other | other <;> simp [other]
  · exact congrArg _ ((State.rtcmMessage_taken (s := s.at u) (b := b) takes sess unit (show r.charge i = ((r.charge i).1, (r.charge i).2) from rfl)).trans
      (if_pos (by simp [bad])))
  · exact congrArg _ ((State.rtcmMessage_taken (s := s.at u) (b := b) takes sess unit charge).trans (by simp [ok]))
  · exact congrArg _ ((State.rtcmMessage_taken (s := s.at u) (b := b) takes sess unit charge).trans (by rw [ok, type_]; rfl))
  · exact congrArg _ ((State.rtcmMessage_taken (s := s.at u) (b := b) takes sess unit charge).trans (by rw [ok, type_]; rfl))
end

section

/-! Output samples, the shunt, the sample link and the calibration slots of the analog chain (R622 to R643). -/

namespace Sys2Proof.Machine

@[simp] theorem AdcCh.switch_calFault (x : AdcCh) (spare : Bool) : (x.switch spare).calFault = x.calFault := by
  unfold AdcCh.switch
  split <;> rfl

@[simp] theorem AdcCh.switch_saved (x : AdcCh) (spare : Bool) : (x.switch spare).saved = x.saved := by
  unfold AdcCh.switch
  split <;> rfl

/-- A bad frame, by its number in the pick and by whether it makes the pick a lost one. -/
theorem execSampleLinkFrame_bad {s : State} {n k : Nat} {lost : Bool} (bits : List (List Bool)) (u : Ns)
    (count : n = if s.adc.badPick = s.warp.pickCount then s.adc.badNow else 0) (full : lost = decide (n + 1 = 16))
    (lostRun : k = if !lost then s.adc.lostRun
      else if s.adc.lostRun ≠ 0 ∧ s.adc.lostAt + 1 = s.warp.pickCount then s.adc.lostRun + 1 else 1) :
    execSampleLinkFrame false bits u s = .next (
      let t := (State.raiseLimited { (s.at u) with adc := { s.sampled false bits with
        badFrames := sat16 s.adc.badFrames, badNow := n + 1, badPick := s.warp.pickCount, lostRun := k
        lostAt := if lost then s.warp.pickCount else s.adc.lostAt
        lostPicks := if lost then sat16 s.adc.lostPicks else s.adc.lostPicks } }
        0x0D120003 1000000 0x0D120003#32).unsettleAll
      if lost && decide (10 ≤ k) && !s.adc.linkBad then
        (State.raise { t with adc := { t.adc with linkBad := true } } 0x0D42000A#32).adcInvalid
      else t) := by
  subst lostRun full count
  rfl

/-- The pick, counted from the slot's start, at which a phase ends. -/
theorem calDue_eq {ph : Nat} (first : 1 ≤ ph) (last : ph ≤ 5) :
    (match ph with | 1 => 300 | 2 => 600 | 3 => 1200 | 4 => 1500 | _ => 1875) =
      [0, 300, 600, 1200, 1500, 1875].getD ph 0 := by
  obtain rfl | rfl | rfl | rfl | rfl : ph = 1 ∨ ph = 2 ∨ ph = 3 ∨ ph = 4 ∨ ph = 5 := by omega
  all_goals rfl

end Sys2Proof.Machine

open Sys2Proof Sys2Proof.Machine

/-- Settles O35: a sample by its mode, a link frame by its check, a calibration phase by its number and its sums. -/
theorem analogChain : Obligations.AnalogChain := by
  unfold Obligations.AnalogChain
  refine ⟨fun s c j pa pb u idle => next_if_pos (by simp [idle]),
    fun s c j pa pb u run mode => ?_,
    fun s c j pa pb u d a y x k sat range beyond g o v blocked cause q n run dd mode ad yd xd pick vd rd bd bld cd cond => ?_,
    fun s c j pa pb u run mode odd => ?_,
    fun s c j pa pb u d e a b y z k0 k1 t0 t1 bad g0 o0 g1 o1 vs vc mu b0 b1 c0 c1 q0 n0 q1 n1 run dd ed mode even ad bd yd
      zd pick0 pick1 vsd vcd mud badd b0d b1d c0d c1d cond0 cond1 => ?_,
    fun s c mode shunt => next_if_pos ⟨mode, shunt⟩, fun s c below time => next_if_pos time,
    fun s bits u bad time => ?_, fun s bits u fine => ?_, fun s bits u n count few => ?_,
    fun s bits u n k count full lost few => ?_, fun s bits u n k count full lost many up => ?_,
    fun s run picks spare slot time => next_if_pos (by simp [run, picks, spare, slot, time]),
    fun s formed c slot ph time => ?_, fun s formed c slot first last early => ?_,
    fun s formed c slot first last late bad => ?_, fun s c g o slot ph late valid own ref coef ok => ?_,
    fun s c g o slot ph late valid own ref coef bad => ?_, fun s c f slot ph late valid own diff => ?_,
    fun s c g o slot ph late valid own ref coef => ?_, fun s c f slot ph late valid own diff ok overlap => ?_,
    fun s c f slot ph late valid own diff bad => ?_⟩
  · simp [exec, execAdcOutputSample, run, mode]
  · subst dd ad yd
    have mode0 : (s.adcChan c).mode ≠ 0 := by omega
    have mode3 : (s.adcChan c).mode ≠ 3 := by omega
    simp only [exec, execAdcOutputSample, State.at_frame, State.at_adcChan, State.at_ach, run, mode0, mode3,
      Bool.not_true, Bool.false_eq_true, if_false, ← pick, ← xd, ← vd, ← rd, ← bd, ← bld, ← cd, ← cond]
  · simp [exec, execAdcOutputSample, run, mode, odd]
  · subst dd ed ad bd yd zd
    have even' : ¬ c % 2 = 1 := by omega
    have mode0 : ¬ (s.adcChan c).mode = 0 := by omega
    simp only [exec, execAdcOutputSample, State.at_frame, State.at_adcChan, State.at_ach, State.at_excRec, run, mode,
      even', Bool.not_true, Bool.false_eq_true, if_false, if_true, show ¬ (3 = 0) by decide, ← pick0, ← pick1, ← vsd,
      ← vcd, ← mud, ← badd, ← b0d, ← b1d, ← c0d, ← c1d, ← cond0, ← cond1]
    exact ⟨_, rfl, _, rfl, rfl⟩
  · have long : (s.adc.linkBad && decide (s.adc.lostAt + 100 < s.warp.pickCount)) = true := by simp [bad, time]
    exact next_if_pos long
  · have short : ¬ ((s.adc.linkBad && decide (s.adc.lostAt + 100 < s.warp.pickCount)) = true) := by
      rcases fine with fine | fine <;> simp [fine]
    exact next_if_neg short
  · exact execSampleLinkFrame_bad bits u (lost := false) count (by simp [few]) rfl
  · subst full
    have stays : ¬ ((true && decide (10 ≤ k) && !s.adc.linkBad) = true) := by
      rcases few with few | bad
      · simp [Nat.not_le.mpr few]
      · simp [bad]
    exact (execSampleLinkFrame_bad bits u (lost := true) count rfl lost).trans (next_if_neg stays)
  · subst full
    have goes : (true && decide (10 ≤ k) && !s.adc.linkBad) = true := by simp [many, up]
    exact ⟨_, (execSampleLinkFrame_bad bits u (lost := true) count rfl lost).trans (next_if_pos goes), _, rfl, rfl⟩
  · have late : ¬ s.warp.pickCount - s.adc.slotAt < 1875 := by omega
    simp only [exec, execCalibrationPhaseEnd, slot, ph, late, if_false, if_true]
  · have early' : s.warp.pickCount - s.adc.slotAt <
        (match s.adc.ph with | 1 => 300 | 2 => 600 | 3 => 1200 | 4 => 1500 | _ => 1875) := by
      rwa [calDue_eq first last]
    simp only [exec, execCalibrationPhaseEnd, slot]
    exact next_if_pos early'
  · have late' : ¬ s.warp.pickCount - s.adc.slotAt <
        (match s.adc.ph with | 1 => 300 | 2 => 600 | 3 => 1200 | 4 => 1500 | _ => 1875) := by
      rw [calDue_eq first (by omega)]
      obtain ph | ph | ph | ph : s.adc.ph = 1 ∨ s.adc.ph = 2 ∨ s.adc.ph = 3 ∨ s.adc.ph = 4 := by omega
      all_goals
        rw [ph] at late ⊢
        exact Nat.not_lt.mpr late
    have ph5 : ¬ s.adc.ph = 5 := by omega
    have bad' : (!formed || decide (2 * (s.adc.sum.n + s.adc.sum.n2) < s.adc.sum.all) || decide (s.adc.sum.n = 0) ||
        (decide (s.adc.ph = 1 ∨ s.adc.ph = 3) && decide (s.adc.sum.n2 = 0))) = true := by
      simpa [or_assoc] using bad
    simp only [exec, execCalibrationPhaseEnd, slot]
    exact (next_if_neg late').trans ((next_if_neg ph5).trans (next_if_pos bad'))
  · have late' : ¬ s.warp.pickCount - s.adc.slotAt < 300 := Nat.not_lt.mpr late
    have valid' : ¬ 2 * (s.adc.sum.n + s.adc.sum.n2) < s.adc.sum.all := Nat.not_lt.mpr valid
    simp [exec, execCalibrationPhaseEnd, slot, ph, late', valid', own, ref, ← coef, ok]
  · have late' : ¬ s.warp.pickCount - s.adc.slotAt < 300 := Nat.not_lt.mpr late
    have valid' : ¬ 2 * (s.adc.sum.n + s.adc.sum.n2) < s.adc.sum.all := Nat.not_lt.mpr valid
    refine ⟨_, ?_, _, rfl, rfl⟩
    simp [exec, execCalibrationPhaseEnd, slot, ph, late', valid', own, ref, ← coef, bad]
  · subst diff
    have late' : ¬ s.warp.pickCount - s.adc.slotAt < 600 := Nat.not_lt.mpr late
    have valid' : ¬ 2 * (s.adc.sum.n + s.adc.sum.n2) < s.adc.sum.all := Nat.not_lt.mpr valid
    refine ⟨_, ?_, _, rfl, rfl⟩
    simp [exec, execCalibrationPhaseEnd, slot, ph, late', valid', own]
  · have late' : ¬ s.warp.pickCount - s.adc.slotAt < 1200 := Nat.not_lt.mpr late
    have valid' : ¬ 2 * (s.adc.sum.n + s.adc.sum.n2) < s.adc.sum.all := Nat.not_lt.mpr valid
    simp [exec, execCalibrationPhaseEnd, slot, ph, late', valid', own, ref, ← coef]
  · subst diff
    have late' : ¬ s.warp.pickCount - s.adc.slotAt < 1500 := Nat.not_lt.mpr late
    have valid' : ¬ 2 * (s.adc.sum.n + s.adc.sum.n2) < s.adc.sum.all := Nat.not_lt.mpr valid
    refine ⟨_, ?_, _, _, rfl, rfl, rfl⟩
    simp [exec, execCalibrationPhaseEnd, slot, ph, late', valid', own, ok, overlap]
  · subst diff
    have late' : ¬ s.warp.pickCount - s.adc.slotAt < 1500 := Nat.not_lt.mpr late
    have valid' : ¬ 2 * (s.adc.sum.n + s.adc.sum.n2) < s.adc.sum.all := Nat.not_lt.mpr valid
    refine ⟨_, ?_, _, rfl, rfl⟩
    rcases bad with bad | bad <;>
      simp [exec, execCalibrationPhaseEnd, slot, ph, late', valid', own, bad]
end

section

/-! The Kiln's sample cycle, input faults, test pulses and field supplies (R405 to R418), its switch tests (R419 to R421),
off-delays and restarts (R424, R426), the trip path (R428) and HB_LOST (R429). -/

namespace Sys2Proof.Machine

theorem State.kilnStep_powered {s : State} (on : s.kiln.powered = true) (f : Kiln → Kiln) :
    s.kilnStep f = { s with kiln := f s.kiln } := if_pos on

theorem State.kilnStep_unpowered {s : State} (off : s.kiln.powered = false) (f : Kiln → Kiln) : s.kilnStep f = s :=
  if_neg fun on => Bool.false_ne_true (off.symm.trans on)

/-- A step of the powered Kiln changes the Kiln alone. -/
theorem State.next_kilnStep {s : State} {k : Kiln} {f : Kiln → Kiln} (on : s.kiln.powered = true)
    (step : f s.kiln = k) :
    (.next (s.kilnStep f) : Host.Outcome State Fault Refusal) = .next { s with kiln := k } := by
  rw [State.kilnStep_powered on, step]

end Sys2Proof.Machine

open Sys2Proof Sys2Proof.Machine

/-- Settles O36: each step of the powered Kiln where its condition holds. -/
theorem kilnCycle : Obligations.KilnCycle := by
  unfold Obligations.KilnCycle
  refine ⟨fun s z on => State.next_kilnStep on rfl, fun s z off => congrArg _ (State.kilnStep_unpowered off _),
    fun s n s0 on mis safety time fault => State.next_kilnStep on ?_,
    fun s n b r on tbl st tps src pulse due started => State.next_kilnStep on ?_,
    fun s n u b on tbl start pulse due => State.next_kilnStep on ?_,
    fun s o r on rec_ least low st told => State.next_kilnStep on ?_,
    fun s f x on supply run bad => State.next_kilnStep on ?_, fun s f x on supply run bad => State.next_kilnStep on ?_⟩
  · simp [Kiln.discrepancy, mis, safety, time, fault]
  · subst started
    have goes : (s.kiln.st == 2 || !kTpsOn b n || s.kiln.srcOff n || (s.kiln.source n).pulse ||
        !s.kiln.due (s.kiln.source n).next) = false := by
      simp [st, tps, src, pulse, due]
    simp only [Kiln.pulseStart, tbl, goes, Bool.false_eq_true, if_false]
  · simp only [Kiln.pulseEnd, tbl, start, pulse, due, Bool.and_self, if_true]
  · simp [Kiln.openLoadStep, rec_, least, low, st, told]
  · simp [Kiln.supplyFault, supply, run, bad]
  · simp [Kiln.supplyBack, supply, run, bad]

end

section

/-! The Kiln's switch tests (R419 to R421), off-delays and restarts (R424, R426), the trip path (R428) and HB_LOST
(R429). -/

namespace Sys2Proof.Machine

/-- A switch test's turn: by the queue, again after an abort, or by its interval, one test at a time. -/
theorem Kiln.testStart_turn {k : Kiln} {o : Nat} {b : KTable} {r : KOutRec} {q g : Bool} (tbl : k.tbl = some b)
    (rec_ : k.outRec o = some r) (free : k.outs.any (fun y : KOutput => y.test.isSome) = false) (st : k.st ≠ 2)
    (load : k.st ≠ 0 ∨ k.boot = true) (queued : q = (k.testQ.head? == some o))
    (again : g = (k.outp o).again.any (fun u => decide (u ≤ k.us)))
    (turn : q = true ∨ g = true ∨ (k.st = 1 ∧ k.autoDue b o ≤ k.us)) :
    k.testStart o =
      let x := k.outp o
      let n := if !q && !g then x.autoN + 1 else x.autoN
      let k1 : Kiln := { k with testQ := if q then k.testQ.drop 1 else k.testQ }
      if x.st = 0 ∨ x.st = 1 then k1.setOut o { x with
        test := some { bright := x.st == 0, since := k.us }, again := none, autoN := n, rb := 0, low := 0 }
      else (k1.setOut o { x with again := none, autoN := n }).tryRun := by
  have waits : (k.st == 0 && !k.boot) = false := by
    rcases load with load | load <;> simp [load]
  have turn' : (q || g || (k.st == 1 && decide (k.autoDue b o ≤ k.us))) = true := by
    simpa [or_assoc] using turn
  have goes : ¬ ((k.outs.any (fun y : KOutput => y.test.isSome) || k.st == 2 || (k.st == 0 && !k.boot) ||
      !(q || g || (k.st == 1 && decide (k.autoDue b o ≤ k.us)))) = true) := by
    simp [free, st, waits, turn']
  cases due : (k.outp o).again with
  | none =>
    obtain rfl : g = false := by rw [again, due]; rfl
    simp only [Kiln.testStart, tbl, rec_, due, ← queued, goes, Bool.false_eq_true, if_false]
  | some u =>
    obtain rfl : g = decide (u ≤ k.us) := by rw [again, due]; rfl
    simp only [Kiln.testStart, tbl, rec_, due, ← queued, goes, Bool.false_eq_true, if_false]

/-- When a phase of a switch test ends: its time has run, or a bright test's second phase reads low. -/
theorem phaseOver_iff {k : Kiln} {o : Nat} {b : KTable} {x : KTest} :
    (decide (x.since + phaseUs b.swDark x ≤ k.us) ||
        (x.bright && x.phase == 1 && decide ((k.outp o).vh ≤ 5000 ∧ x.since < k.us))) = true ↔
      x.since + phaseUs b.swDark x ≤ k.us ∨
        (x.bright = true ∧ x.phase = 1 ∧ (k.outp o).vh ≤ 5000 ∧ x.since < k.us) := by
  simp [and_assoc]

/-- The end of a phase, by its check and its number. -/
theorem Kiln.phaseEnd_over {k : Kiln} {o : Nat} {b : KTable} {x : KTest} (tbl : k.tbl = some b)
    (test : (k.outp o).test = some x)
    (ends : x.since + phaseUs b.swDark x ≤ k.us ∨
      (x.bright = true ∧ x.phase = 1 ∧ (k.outp o).vh ≤ 5000 ∧ x.since < k.us)) :
    k.phaseEnd o =
      let c := phaseCheck x (k.fs.getD (outSupply o) {}).mv (k.outp o)
      if c ≠ 0 then ((k.outFault o c).evalOuts).tryRun
      else if x.phase = (if x.bright then 3 else 2) then k.testDone o
      else k.setOut o { k.outp o with test := some { x with phase := x.phase + 1, since := k.us } } := by
  have ends' := phaseOver_iff.mpr ends
  simp only [Kiln.phaseEnd, test, tbl, ends', Bool.not_true, Bool.false_eq_true, if_false]

@[simp] theorem Kiln.event_lostCnt (k : Kiln) (code : Word) (detail : List Byte) :
    (k.event code detail).lostCnt = k.lostCnt := by
  unfold Kiln.event
  split <;> rfl

end Sys2Proof.Machine

open Sys2Proof Sys2Proof.Machine

/-- Settles O37: a test's turn and the end of its phase by their lemmas, the others where their condition holds. -/
theorem kilnTests : Obligations.KilnTests := by
  unfold Obligations.KilnTests
  refine ⟨fun s o b r q g on tbl rec_ free st load queued again turn out => State.next_kilnStep on ?_,
    fun s o b r q g on tbl rec_ free st load queued again turn out => State.next_kilnStep on ?_,
    fun s o b x on tbl test early still => ?_,
    fun s o b x on tbl test ends fails => State.next_kilnStep on ?_,
    fun s o b x on tbl test ends right phase => State.next_kilnStep on ?_,
    fun s o b x on tbl test ends right phase => State.next_kilnStep on ?_,
    fun s o r on rec_ time told st => State.next_kilnStep on ?_,
    fun s o u c r on rec_ off time cause => State.next_kilnStep on ?_,
    fun s n p e on rel press => State.next_kilnStep on ?_, fun s n p e on rel short long => State.next_kilnStep on ?_,
    fun s on => ?_, fun s off => ?_, fun s quiet on trip lost long time => State.next_kilnStep on ?_,
    fun s quiet idle => ?_, fun s c v k on valid lost time kd lost' => ?_⟩
  · exact (Kiln.testStart_turn tbl rec_ free st load queued again turn).trans (if_pos out)
  · exact (Kiln.testStart_turn tbl rec_ free st load queued again turn).trans (if_neg (by omega))
  · have idle : s.kiln.phaseEnd o = s.kiln := by
      have goes := (not_congr (phaseOver_iff (k := s.kiln) (o := o) (b := b) (x := x))).mpr (by
        rintro (over_ | ⟨bright, phase, low, time⟩)
        · omega
        · rcases still with still | still | still | still
          · exact Bool.false_ne_true (still.symm.trans bright)
          · exact still phase
          · omega
          · omega)
      simp only [Kiln.phaseEnd, test, tbl, goes, Bool.not_false, if_true]
    exact State.next_kilnStep on idle
  · exact (Kiln.phaseEnd_over tbl test ends).trans (if_pos fails)
  · exact (Kiln.phaseEnd_over tbl test ends).trans ((if_neg (Classical.not_not.mpr right)).trans (if_neg phase))
  · exact (Kiln.phaseEnd_over tbl test ends).trans ((if_neg (Classical.not_not.mpr right)).trans (if_pos phase))
  · simp [Kiln.testOverdue, rec_, time, told, st]
  · simp only [Kiln.delayExpiry, rec_, off, time, cause, if_true]
  · have wrong : ¬ (5000 ≤ e - p ∧ e - p ≤ 500000) := by omega
    simp only [Kiln.resetRelease, rel, wrong, decide_false, Bool.false_eq_true, if_false]
  · simp only [Kiln.resetRelease, rel, short, long, and_self, decide_true, if_true]
  · simp only [exec, execTripLineAssert, State.kilnStep_powered on]
  · simp only [exec, execTripLineAssert, State.kilnStep_unpowered off]
  · simp [Kiln.tripClear, trip, lost, long, time]
  · have same : s.kiln.tripClear quiet = s.kiln := by
      refine if_neg ?_
      rcases idle with idle | idle | idle | idle
      · simp [idle]
      · simp [idle]
      · simp [Nat.not_le.mpr idle]
      · simp [Nat.not_le.mpr idle]
    cases on : s.kiln.powered with
    | true => exact State.next_kilnStep on same
    | false => exact congrArg _ (State.kilnStep_unpowered on _)
  · have fires : s.kiln.hbTimeout c = k := by
      simp [Kiln.hbTimeout, valid, lost, time, kd, Kiln.dropClaim]
    simp only [exec, execHeartbeatTimeout, State.kilnStep_powered on, fires, lost', lost, Bool.not_false, Bool.and_self, if_true]

end

section

/-! The heartbeat (R429 to R431), command copies (R432), the Kiln's table (R436, R437), cross-trip lines (R470, R471),
the claim line (R449, R456, R457) and the mailbox (R440). -/

namespace Sys2Proof.Machine

/-- A heartbeat of a pick, by whether the Loom's part of it is right and timely. -/
theorem execHeartbeatExchange_runs {s r : State} {chal : Word} {bad badUp g : Bool} {c : Nat} {q : U16}
    (picks : s.warp.picks = true) (on : s.kiln.powered = true) (fault : s.sys.loomFault = false)
    (up : r = if badUp then s.at 500000 else (s.at 500000).hbUp) (seq : q = s.kport.seq + 1)
    (right : g = r.kiln.hbRight bad q (hbResponse s.kport.chal q)) :
    execHeartbeatExchange chal bad badUp c s = .next (
      let k : Kiln := { r.kiln with
        chal := chal, hbSeq := if bad then r.kiln.hbSeq else q
        hbSeen := if g then some (r.kiln.cycles c) else r.kiln.hbSeen }
      let t : State := { r with kport := { r.kport with seq := q, chal := if badUp then r.kport.chal else chal } }
      if g && r.kiln.hbTimed c then t.hbDown k c
      else { t with
        kiln := { k with invalid := sat16 k.invalid, hbRun := 0 }
        copies := t.copies.drop 1, pair := { t.pair with arm := t.armNow } }) := by
  subst right seq up
  exact next_if_neg (by simp [picks, on, fault])

/-- A step that leaves the Kiln as it is changes nothing. -/
theorem State.kilnStep_same {s : State} {f : Kiln → Kiln} (same : f s.kiln = s.kiln) : s.kilnStep f = s := by
  unfold State.kilnStep
  rw [same]
  exact ite_self s

theorem State.mailbox_idle {s : State} (v : Word) {op : Word} (named : op.toNat % 256 ≠ 4) (idle : s.kport.busy = false) :
    (s.writeMbarg v).writeMbcmd op = { s with kport := { s.kport with
      mbArg := v, busy := true, done := false, ovr := false
      reqs := s.kport.reqs ++ [{ op := op.toNat % 256, arg := v, pick := s.warp.pickCount }] } } := by
  simp [State.writeMbcmd, State.writeMbarg, idle, named]

theorem State.mailbox_busy {s : State} (v op : Word) (busy : s.kport.busy = true) :
    (s.writeMbarg v).writeMbcmd op = { s with kport := { s.kport with mbArg := v, ovr := true } } := by
  simp [State.writeMbcmd, State.writeMbarg, busy]

/-- A claim-line fault that shows and is not set yet. -/
theorem Kiln.lclmFault_shows {k : Kiln} {c : Nat}
    (holds : (c = 0 ∧ 3 < k.domRun) ∨ (c = 1 ∧ k.claim = true ∧ 3 ≤ k.wrong) ∨ (2 ≤ c ∧ k.contra = true))
    (new : k.lclm &&& BitVec.ofNat 3 (2 ^ min c 2) = 0) :
    k.lclmFault c =
      let k1 : Kiln := { k with lclm := k.lclm ||| BitVec.ofNat 3 (2 ^ min c 2) }
      if k.lclm == 0 then k1.event 0x13340006#32 [byteOf c] else k1 := by
  refine if_pos ((Bool.and_eq_true _ _).mpr ⟨?_, beq_iff_eq.mpr new⟩)
  rcases holds with ⟨rfl, dom⟩ | ⟨rfl, claim, wrong⟩ | ⟨high, contra⟩
  · exact decide_eq_true dom
  · exact (Bool.and_eq_true _ _).mpr ⟨claim, decide_eq_true wrong⟩
  · obtain ⟨n, rfl⟩ := Nat.exists_eq_add_of_le' high
    exact contra

end Sys2Proof.Machine

open Sys2Proof Sys2Proof.Machine

/-- Settles O38: the heartbeat and the mailbox by their lemmas, each line and each load where its condition holds. -/
theorem kilnLinkSteps : Obligations.KilnLinkSteps := by
  unfold Obligations.KilnLinkSteps
  refine ⟨fun s chal bad badUp c idle => next_if_pos (by simpa [or_assoc] using idle),
    fun s chal bad badUp c r q g picks on fault up seq right ok timed =>
      (execHeartbeatExchange_runs picks on fault up seq right).trans (next_if_pos (by simp [ok, timed])),
    fun s chal bad badUp c r q g picks on fault up seq right wrong =>
      (execHeartbeatExchange_runs picks on fault up seq right).trans (next_if_neg ?_),
    fun s err m rest on queue => State.next_kilnStep on ?_, fun s err idle => ?_, fun s d draft on st fault sys => ?_,
    fun s x high r on rec_ => State.next_kilnStep on ?_, fun s x held high r on rec_ some_ short => ?_,
    fun s x held r on rec_ some_ long => State.next_kilnStep on ?_,
    fun s x held r on rec_ some_ long asks told => State.next_kilnStep on ?_,
    fun s x held r on rec_ some_ long quiet => State.next_kilnStep on ?_,
    fun s line pair on claim => ?_, fun s line idle => ?_, fun s pair on silence => State.next_kilnStep on ?_,
    fun s pair short => ?_, fun s pair on => State.next_kilnStep on ?_, fun s c pair on holds new => ?_, ?_⟩
  · rcases wrong with wrong | wrong <;> simp [wrong]
  · simp only [queue]
  · rcases idle with off | empty
    · exact congrArg _ (State.kilnStep_unpowered off _)
    · exact congrArg _ (State.kilnStep_same (by simp only [empty]))
  · have loads : (s.kiln.powered && (s.kiln.st == 0 || (s.kiln.st == 1 && s.kiln.mstate == 3 && s.kport.change)) &&
        !s.sys.loomFault && (s.sys.st == .selftest || s.sys.st == .standby)) = true := by
      simpa [on, fault, and_assoc] using And.intro st sys
    simp only [exec, execKilnTableLoad, draft, loads, if_true]
  · simp only [Kiln.xtLevel, rec_, if_true]
  · have same : s.kiln.xtLevel x high held = s.kiln := by
      simp only [Kiln.xtLevel, rec_, some_, short, if_false, if_true]
    exact State.next_kilnStep on same
  · simp only [Kiln.xtLevel, rec_, some_, Nat.not_lt.mpr long, if_false, if_true]
  · simp [Kiln.xtLevel, rec_, some_, Nat.not_lt.mpr long, asks, told]
  · have silent : (r.lossEvent && !s.kiln.xtLost.getLsbD x) = false := by
      rcases quiet with quiet | told
      · simp [quiet]
      · simp [told]
    simp only [Kiln.xtLevel, rec_, some_, Nat.not_lt.mpr long, silent, Bool.false_eq_true, if_false]
  · have sent : (s.kiln.powered && s.kiln.claim) = true := by simp [on, claim]
    exact (next_if_pos pair).trans ((next_if_pos sent).trans (by rw [State.kilnStep_powered on]))
  · cases pair : s.pairMode with
    | false => exact next_if_neg fun paired => Bool.false_ne_true (pair.symm.trans paired)
    | true =>
      have quiet : (s.kiln.powered && s.kiln.claim) = false :=
        Bool.and_eq_false_iff.mpr (by simpa only [pair, Bool.true_eq_false, false_or] using idle)
      have same : s.kilnStep (fun k => k.claimSend s.sys.pairSeat line) = s := by
        rcases Bool.and_eq_false_iff.mp quiet with off | free
        · exact State.kilnStep_unpowered off _
        · exact State.kilnStep_same (if_pos (by simp [free]))
      simp only [exec, execClaimFrameSend, pair, same, quiet, Bool.false_eq_true, if_false, if_true]
  · simp only [pair, if_true, Kiln.claimFree, silence]
  · refine congrArg _ (State.kilnStep_same ?_)
    simp only [pair, if_true, Kiln.claimFree, Nat.not_le.mpr short, if_false]
  · simp only [pair, Bool.false_eq_true, if_false]
  · refine ⟨_, (next_if_pos pair).trans (State.next_kilnStep on (Kiln.lclmFault_shows holds new)), _, rfl, ?_⟩
    simp only [beq_iff_eq]
  exact ⟨fun s v idle => congrArg _ (State.mailbox_idle v (by decide) idle),
    fun s v idle => congrArg _ (State.mailbox_idle v (by decide) idle),
    fun s v idle => congrArg _ (State.mailbox_idle v (by decide) idle),
    fun s v busy => congrArg _ (State.mailbox_busy v _ busy),
    fun s v busy => congrArg _ (State.mailbox_busy v _ busy),
    fun s v busy => congrArg _ (State.mailbox_busy v _ busy)⟩
end

section

/-! Frames of the pair, its lanes, the takeover and the trip check of the fast lane (R225, R459 to R465). -/

namespace Sys2Proof.Machine

/-- A STATE frame of a module in a pair whose picks run. -/
theorem execStateFrameReceive_runs {s : State} {lane ok : Bool} {b : StateBody} (pair : s.pairMode = true)
    (picks : s.warp.picks = true) :
    execStateFrameReceive lane ok b s = .next (
      if !ok then (s.at 900000).onLane lane Lane.invalid
      else
        let r := (s.at 900000).laneValid lane
        if r.pair.mirAge = 0 then r
        else
          let q : State := { r with pair := { r.pair with
            mirAge := 0, pStaged := b.staged
            seqs := b.seqs.foldl (fun (l : List (Nat × Word)) e => aset e.1 e.2 l) r.pair.seqs } }
          (if q.sys.role == .shadow then q.shadowTake b else q).mirAcked b.acks) :=
  next_if_neg (by simp [pair, picks])

end Sys2Proof.Machine

open Sys2Proof Sys2Proof.Machine

/-- Settles O39: each frame by its lane and its pick, each takeover and timeout where its condition holds. -/
theorem pairSteps : Obligations.PairSteps := by
  unfold Obligations.PairSteps
  have alone {s : State} (idle : s.pairMode = false ∨ s.warp.picks = false) :
      (!s.pairMode || !s.warp.picks) = true := by
    simpa using idle
  have paired {s : State} (pair : s.pairMode = true) (picks : s.warp.picks = true) :
      ¬ ((!s.pairMode || !s.warp.picks) = true) := by
    simp [pair, picks]
  refine ⟨fun s sends => next_if_pos sends, fun s quiet => next_if_neg (by simp [quiet]), fun s r sends at_ => ?_,
    fun s quiet => next_if_neg (by simp [quiet]), fun s lane b u rtt pair picks ok first => ?_,
    fun s lane b u rtt pair picks ok second => ?_, fun s lane b u rtt pair picks bad => ?_,
    fun s lane b u rtt idle => next_if_pos (alone idle), fun s lane b r q pair picks rd age qd role => ?_,
    fun s lane b r q pair picks rd age qd role => ?_, fun s lane b pair picks age => ?_, fun s lane b pair picks => ?_,
    fun s lane ok b idle => next_if_pos (alone idle), fun s lane r pair up silent rd => ?_,
    fun s k from_ due => ?_, fun s pair picks role due claim bar => next_if_pos (by simp [pair, picks, role, due, claim, bar]),
    fun s sent react fast => ⟨_, next_if_pos fast, _, _, rfl, rfl⟩⟩
  · subst at_
    exact ⟨_, next_if_pos sends, _, rfl, rfl⟩
  · exact (next_if_neg (paired pair picks)).trans ((next_if_neg (by simp [ok])).trans (next_if_neg (by simp [first])))
  · exact (next_if_neg (paired pair picks)).trans ((next_if_neg (by simp [ok])).trans (next_if_pos second))
  · exact (next_if_neg (paired pair picks)).trans (next_if_pos (by simp [bad]))
  · subst rd qd
    refine (execStateFrameReceive_runs pair picks).trans ((next_if_neg age).trans ?_)
    exact congrArg (fun q : State => Host.Outcome.next (q.mirAcked b.acks)) (if_neg (by simpa using role))
  · subst rd qd
    refine (execStateFrameReceive_runs pair picks).trans ((next_if_neg age).trans ?_)
    exact congrArg (fun q : State => Host.Outcome.next (q.mirAcked b.acks)) (if_pos (by simpa using role))
  · exact (execStateFrameReceive_runs pair picks).trans (next_if_pos age)
  · exact execStateFrameReceive_runs pair picks
  · subst rd
    refine ⟨_, next_if_pos (by simp [pair, up, silent]), fun linked => if_pos linked, fun lost => ?_⟩
    exact ⟨_, rfl, if_neg (by simp [lost])⟩
  · simp only [exec, execArmDelayExpiry, from_, due, if_true]

end

section

/-! The answer to an ICMP echo (R558). -/

namespace Sys2Proof.Machine

/-- A ready network that has answered no echo in this second: the module's net alone differs from its reset value. -/
def echoState : State := { net := { ready := true } }

/-- What the model sends: a frame named "ICMP echo reply". -/
theorem exec_icmpEchoRequest_echoState :
    exec (.icmpEchoRequest 0 []) echoState = .next (State.emit
      { echoState.ansSecond with net := { echoState.ansSecond.net with icmpNow := echoState.ansSecond.net.icmpNow + 1 } }
      (.frame 0 "ICMP echo reply" [])) := by
  have few : echoState.ansSecond.net.icmpNow < 16 := by decide
  exact (next_if_neg (by decide)).trans (congrArg Host.Outcome.next (if_pos few))

end Sys2Proof.Machine

open Sys2Proof Sys2Proof.Machine

/-- Refutes O40: the reply to an echo is the frame "ICMP echo reply", and the statement's own name for it has a line break
with four blanks before its last word, so it is another frame. -/
theorem not_networkLinks : ¬ Obligations.NetworkLinks := by
  unfold Obligations.NetworkLinks
  intro holds
  obtain ⟨-, -, -, -, -, -, -, -, -, -, -, -, -, -, -, -, echo, -⟩ := holds
  have few : echoState.ansSecond.net.icmpNow < 16 := by decide
  have same := exec_icmpEchoRequest_echoState.symm.trans (echo echoState 0 [] rfl)
  rw [if_pos few] at same
  have out := congrArg State.out (Host.Outcome.next.inj same)
  simp only [State.emit_out, List.append_cancel_left_eq, List.cons.injEq, Output.frame.injEq] at out
  exact absurd out (by decide)

end

section

/-! Datagrams (R567, R568), GOOSE (R217), drive status (R209), frames of a port (R555), output sessions (R589), UART
characters (R590) and CAN frames (R591 to R596). -/

namespace Sys2Proof.Machine

/-- A 450 datagram on a ready network, by what its header and tag block say. -/
theorem State.datagram450_ready {s : State} {src : Option (List Byte)} {ok : Bool} {l : List (List Byte)} (p : Nat)
    (g : Word) (d : Nat) {b : List Byte} (ready : s.net.ready = true) (head : b.take 6 = ascii "UdPbC" ++ [0])
    (parsed : parse450 (b.drop 6) = (src, ok, l)) :
    s.datagram450 p g d b =
      match s.findSess (fun r => r.kind == 1 && r.rx && r.address.take 6 == ipKey g d &&
        (r.address.drop 6).take 6 == fitBytes 6 (src.getD []) && src.isSome) with
      | none => s.unprov p
      | some r =>
        if !s.sessTakes r.index then s
        else if ok then l.foldl (fun (a : State) x => a.handOn r.index (.sentence x)) s
        else match s.session r.index with
          | some x => s.setSession r.index { x with check := sat16 x.check }
          | none => s := by
  simp only [State.datagram450, ready, head, parsed, Bool.not_true, Bool.false_eq_true, if_false, bne_self_eq_false] <;> rfl

/-- A drive status that its session takes, on a ready network. -/
theorem execDriveStatusReceive_taken {s : State} {i : Nat} {u : Ns} {r : SessRec} {x : Session} (b : List Byte)
    (rec_ : (s.at u).sessRec i = some r) (sess : (s.at u).session i = some x) (kind : r.kind = 8)
    (ready : s.net.ready = true) (takes : s.sessTakes i = true) :
    execDriveStatusReceive i b u s =
      let a := (s.at u).glazeRx r b
      let chk := 28 ≤ b.length && (a.glazeSet r.glaze).any (fun g =>
        decide (glazeCheck g (b.take (b.length - 4)) % 4294967296 = ofBe (b.drop (b.length - 4))))
      let shape := fieldAt b 0 1 == 1 && fieldAt b 1 1 == 0x81 && fieldAt b 2 2 == 32 && b.length == 60
      let newer := x.rxSeq.all (fun q => seqNewer (word (fieldAt b 12 4)) q)
      if !chk then .next (a.glazeFail.sessReject i a.now false)
      else if !shape then .next (a.sessReject i a.now false)
      else if !newer then .next (a.sessReject i a.now true)
      else
        let (q, room) := a.charge i
        if room then
          let y := match q.session i with
            | some z => q.setSession i { z with rxSeq := some (word (fieldAt b 12 4)) }
            | none => q
          .next ((y.driveTake i b).sessValid i y.now)
        else .next q := by
  have ours : ¬ (r.kind ≠ 8 ∨ (!(s.at u).net.ready) = true ∨ (!(s.at u).sessTakes i) = true) := by
    simp [kind, ready, takes]
  have check (a : State) : (match a.glazeSet r.glaze with
      | some g => decide (glazeCheck g (b.take (b.length - 4)) % 4294967296 = ofBe (b.drop (b.length - 4)))
      | none => false) = (a.glazeSet r.glaze).any (fun g =>
        decide (glazeCheck g (b.take (b.length - 4)) % 4294967296 = ofBe (b.drop (b.length - 4)))) := by
    cases a.glazeSet r.glaze <;> rfl
  have newer : (match x.rxSeq with
      | some q => seqNewer (word (fieldAt b 12 4)) q
      | none => true) = x.rxSeq.all (fun q => seqNewer (word (fieldAt b 12 4)) q) := by
    cases x.rxSeq <;> rfl
  rw [← newer]
  simp only [← check]
  unfold execDriveStatusReceive
  extract_lets t
  rw [rec_, sess]
  exact if_neg ours

/-- A CAN frame that bus and filter let in. -/
theorem execCanFrameReceive_passes {s y : State} {c id rec' : Nat} {fast full : Bool} {b : List Byte} {u : Ns} {r : CanRec}
    (rec_ : s.canRec c = some r) (received : y = (s.at u).canReceived c rec') (ready : s.net.ready = true)
    (bus : (y.can c).bus ≠ 2) (passes : canPasses r id = true) :
    execCanFrameReceive c id rec' fast full b u s =
      if full then .next (State.raise (y.setCan c { y.can c with overflow := sat16 (y.can c).overflow }) 0x0B110005#32
        [byteOf c])
      else
        let z := y.setCan c { y.can c with frames := sat16 (y.can c).frames }
        .next (if r.n2k then z.n2kFrame c id fast b
          else match z.canSess c id with
            | some q => if z.sessTakes q.index then z.handOn q.index (.can id b) else z
            | none => z) := by
  subst received
  unfold execCanFrameReceive
  extract_lets t
  rw [rec_]
  refine if_neg ?_
  simp only [ready, passes, Bool.not_true, Bool.false_eq_true, false_or, or_false]
  exact bus

end Sys2Proof.Machine

open Sys2Proof Sys2Proof.Machine

/-- Settles O41: what is received, by what carries it, its check and its session. -/
theorem receivedFrames : Obligations.ReceivedFrames := by
  unfold Obligations.ReceivedFrames
  have newest {x : Session} {b : List Byte} (new : ∀ v, x.rxSeq = some v → seqNewer (word (fieldAt b 12 4)) v = true) :
      x.rxSeq.all (fun q => seqNewer (word (fieldAt b 12 4)) q) = true := by
    cases seq : x.rxSeq with
    | none => rfl
    | some v => exact new v seq
  refine ⟨fun s p d g b u off => next_if_pos (by simp [off]),
    fun s p d g b u on head => (next_if_neg (by simp [on])).trans (next_if_pos (by simpa using head)),
    fun s p d g b u src ok l on head parsed sess => congrArg Host.Outcome.next ?_,
    fun s p d g b u src ok l r on head parsed sess takes => congrArg Host.Outcome.next ?_,
    fun s p d g b u src l r x on head parsed sess takes known => congrArg Host.Outcome.next ?_,
    fun s p d g b u src l r on head parsed sess takes => congrArg Host.Outcome.next ?_,
    fun s p d src b u off => next_if_pos (by simp [off]), fun s p d src b u on sess => ?_,
    fun s p d src b u r on sess takes => ?_, fun s p d src b u r on sess takes => ?_,
    fun s p ap src cb st sq ttl sim m u off => next_if_pos (by simp [off]),
    fun s p ap src cb st sq ttl sim m u on sub => ?_, fun s p ap src cb st sq ttl sim m u g on sub takes => ?_,
    fun s p ap src cb st sq ttl m u g on sub takes => ?_, fun s p ap src cb st sq ttl m u g on sub takes => ?_,
    fun s i b u idle => ?_, fun s i b u r x rec_ sess other => ?_,
    fun s i b u r x a rec_ sess kind on takes ad check => ?_, fun s i b u r x a rec_ sess kind on takes ad check shape => ?_,
    fun s i b u r x a v rec_ sess kind on takes ad check shape seq old => ?_,
    fun s i b u r x a q rec_ sess kind on takes ad check shape new charge => ?_,
    fun s i b u r x a q y z rec_ sess kind on takes ad check shape new charge known yd => ?_, ?_⟩
  · rw [State.datagram450_ready (s := s.at u) p g d on head parsed, sess]
    rfl
  · rw [State.datagram450_ready (s := s.at u) p g d on head parsed, sess]
    exact if_pos (by simp [takes])
  · rw [State.datagram450_ready (s := s.at u) p g d on head parsed, sess]
    simp [takes, known]
  · rw [State.datagram450_ready (s := s.at u) p g d on head parsed, sess]
    simp [takes]
  · simp [exec, execUdpBinaryDatagram, State.datagramUdp, on, sess, State.unprov]
  · simp [exec, execUdpBinaryDatagram, State.datagramUdp, on, sess, takes]
  · simp [exec, execUdpBinaryDatagram, State.datagramUdp, on, sess, takes]
  · simp [exec, execGooseFrameReceive, State.gooseFrame, on, sub, State.unprov]
  · simp [exec, execGooseFrameReceive, State.gooseFrame, on, sub, takes]
  · simp [exec, execGooseFrameReceive, State.gooseFrame, on, sub, takes]
  · simp [exec, execGooseFrameReceive, State.gooseFrame, on, sub, takes]
  · show execDriveStatusReceive i b u s = .next s
    unfold execDriveStatusReceive
    extract_lets t
    split
    · next r x rec_ sess =>
      rcases idle with idle | idle
      · exact Option.some_ne_none _ (rec_.symm.trans idle) |>.elim
      · exact Option.some_ne_none _ (sess.symm.trans idle) |>.elim
    · rfl
  · show execDriveStatusReceive i b u s = .next s
    unfold execDriveStatusReceive
    extract_lets t
    rw [rec_, sess]
    exact if_pos (by simpa [t] using other)
  · subst ad
    exact (execDriveStatusReceive_taken b rec_ sess kind on takes).trans (if_pos (by simp [check]))
  · subst ad
    exact (execDriveStatusReceive_taken b rec_ sess kind on takes).trans
      ((if_neg (by simp [check])).trans (if_pos (by simp [shape])))
  · subst ad
    exact (execDriveStatusReceive_taken b rec_ sess kind on takes).trans
      ((if_neg (by simp [check])).trans ((if_neg (by simp [shape])).trans (if_pos (by simp [seq, old]))))
  · subst ad
    refine (execDriveStatusReceive_taken b rec_ sess kind on takes).trans
      ((if_neg (by simp [check])).trans ((if_neg (by simp [shape])).trans ((if_neg ?_).trans ?_)))
    · simpa using newest new
    · rw [charge]
      rfl
  · subst ad yd
    refine (execDriveStatusReceive_taken b rec_ sess kind on takes).trans
      ((if_neg (by simp [check])).trans ((if_neg (by simp [shape])).trans ((if_neg ?_).trans ?_)))
    · simpa using newest new
    · rw [charge]
      simp only [known, if_true]
  refine ⟨fun s p n src seq bad b u r on input => ?_, fun s i none_ => ?_, fun s i r rec_ idle => ?_,
    fun s i r rec_ st leads kind period turn => ?_, fun s i r rec_ st leads kind period turn => ?_,
    fun s n e c u off => ?_, fun s n e c u i on rx err => ?_, fun s n c u i on rx none_ => ?_,
    fun s n c u i r on rx rec_ => ?_, fun s c id rec' fast full b u none_ => ?_,
    fun s c id rec' fast full b u r y rec_ yd out => ?_, fun s c id rec' fast b u r y rec_ yd on bus passes => ?_,
    fun s c id rec' fast b u r y rec_ yd on bus passes n2k => ?_,
    fun s c id rec' fast b u r y z rec_ yd on bus passes n2k zd sess => ?_,
    fun s c id rec' fast b u r y z q rec_ yd on bus passes n2k zd sess => ?_,
    fun s c tec rec' idle => ?_, fun s c tec rec' r rec_ bus high rd => ?_, fun s c tec rec' rec_ bus low low' => ?_,
    fun s c rec_ bus => ?_, fun s c idle => ?_, fun s c bus => next_if_pos bus, fun s c bus => next_if_neg bus⟩
  · simp only [exec, execPrpFrameReceive, input]
  · simp only [exec, execOutputSessionSend, none_]
  · have silent : ¬ (((s.sys.st == .ready || s.isActive || s.sys.st == .safe) && s.leads && (r.kind == 0x0B || r.kind == 0x0C)
        && decide (0 < r.period ∧ s.warp.pickCount % r.period = 0)) = true) := by
      simpa [and_assoc, or_assoc] using idle
    simp only [exec, execOutputSessionSend, rec_]
    exact if_neg silent
  · have sends : ((s.sys.st == .ready || s.isActive || s.sys.st == .safe) && s.leads && (r.kind == 0x0B || r.kind == 0x0C)
        && decide (0 < r.period ∧ s.warp.pickCount % r.period = 0)) = true := by
      simpa [leads, kind, period, turn, or_assoc] using st
    simp only [exec, execOutputSessionSend, rec_]
    exact (if_pos sends).trans (if_pos kind)
  · have sends : ((s.sys.st == .ready || s.isActive || s.sys.st == .safe) && s.leads && (r.kind == 0x0B || r.kind == 0x0C)
        && decide (0 < r.period ∧ s.warp.pickCount % r.period = 0)) = true := by
      simpa [leads, kind, period, turn, or_assoc] using st
    have datagram : ¬ r.kind = 0x0C := by omega
    simp only [exec, execOutputSessionSend, rec_]
    exact (if_pos sends).trans (if_neg datagram)
  · rcases off with off | off <;> simp [exec, execUartCharacterReceive, off]
  · simp only [exec, execUartCharacterReceive, on, rx, err, Bool.not_true, Bool.false_eq_true, ne_eq, not_false_eq_true,
      if_false, if_true]
    rfl
  · simp [exec, execUartCharacterReceive, on, rx, none_]
  · simp only [exec, execUartCharacterReceive, on, rx, rec_, Bool.not_true, Bool.false_eq_true, ne_eq, not_true_eq_false,
      if_false, State.at_sessTakes]
    by_cases takes : s.sessTakes i = true <;> simp [takes]
  · simp only [exec, execCanFrameReceive, none_]
  · subst yd
    have out' : ((!s.net.ready) = true ∨ (((s.at u).canReceived c rec').can c).bus = 2 ∨ (!canPasses r id) = true) := by
      simpa using out
    simp only [exec, execCanFrameReceive, rec_, out', if_true]
  · exact (execCanFrameReceive_passes rec_ yd on bus passes).trans (if_pos rfl)
  · refine (execCanFrameReceive_passes rec_ yd on bus passes).trans ((if_neg Bool.false_ne_true).trans ?_)
    exact next_if_pos n2k
  · subst zd
    refine (execCanFrameReceive_passes rec_ yd on bus passes).trans ((if_neg Bool.false_ne_true).trans ?_)
    refine (next_if_neg (by simp [n2k])).trans ?_
    rw [sess]
  · subst zd
    refine (execCanFrameReceive_passes rec_ yd on bus passes).trans ((if_neg Bool.false_ne_true).trans ?_)
    refine (next_if_neg (by simp [n2k])).trans ?_
    rw [sess]
  · exact if_pos (by simpa using idle)
  · subst rd
    have passive : decide (127 < tec ∨ 127 < rec') = true := decide_eq_true high
    refine (if_neg (by simp [rec_, bus])).trans ?_
    rw [passive]
    by_cases was : (s.can c).bus = 1 <;> simp [was, b2n]
  · have active : decide (127 < tec ∨ 127 < rec') = false := by simp [low, low']
    refine (if_neg (by simp [rec_, bus])).trans ?_
    rw [active]
    rfl
  · exact next_if_pos ⟨Option.isSome_iff_ne_none.mpr rec_, bus⟩
  · refine next_if_neg ?_
    rcases idle with idle | idle <;> simp [idle]

end

section

/-! PRIO requests and replies (R603 to R607) and the Glaze's background test (R614). -/

namespace Sys2Proof.Machine

/-- The Glaze changes no session's record. -/
theorem State.glazeRx_sessRec (s : State) (x : SessRec) (b : List Byte) (i : Nat) :
    (s.glazeRx x b).sessRec i = s.sessRec i := by
  have kept : (s.glazeRx x b).draft = s.draft := by
    unfold State.glazeRx
    split <;> rfl
  simp only [State.sessRec, kept]

/-- A reply of a provisioned station, on a ready network, of a session that takes frames. -/
theorem execRioReplyReceive_taken {s : State} {k : Nat} {b : List Byte} {u : Ns} {r : StaRec} {x : SessRec}
    (rec_ : s.staRec k = some r) (ready : s.net.ready = true) (takes : s.sessTakes r.sess = true)
    (sess : (s.at u).sessRec r.sess = some x) :
    execRioReplyReceive k b u s = .next (
      let a := (s.at u).glazeRx x b
      let chk := (a.glazeSet x.glaze).any (fun g => decide (32 ≤ b.length) && glazeTailOk g b)
      let shape := decide (32 ≤ b.length) && beAt b 0 1 == 1 && beAt b 1 1 == 0x81 && beAt b 2 2 + 32 == b.length
        && beAt b 10 1 == k
      if !chk then a.glazeFail.sessReject r.sess a.now false
      else if !shape then a.sessReject r.sess a.now false
      else
        let (q, room) := a.charge r.sess
        if !room then q else
        let z := q.sta k
        let late := if z.due then decide (40000 ≤ u ∧ u < 50000) else z.missed
        let y : Sta := { z with
          held := (q.now, b.take (b.length - 4)) :: z.held, due := false, missed := false
          late := if late then sat16 z.late else z.late
          missing := if z.missed && !z.due then z.missing - 1 else z.missing }
        let w := (q.setSta k y).sessValid r.sess q.now
        if late then w.raiseLimited (0x0C110003 * 256 + k) 1000000 0x0C110003#32 [byteOf k] else w) := by
  have ours : ¬ ((!(s.at u).net.ready || !(s.at u).sessTakes r.sess) = true) := by simp [ready, takes]
  have glazed : ((s.at u).glazeRx x b).sessRec r.sess = some x := (State.glazeRx_sessRec _ x b r.sess).trans sess
  have check (a : State) : a.sessRec r.sess = some x → (match (a.sessRec r.sess).bind (fun x => a.glazeSet x.glaze) with
      | some g => decide (32 ≤ b.length) && glazeTailOk g b
      | none => false) = (a.glazeSet x.glaze).any (fun g => decide (32 ≤ b.length) && glazeTailOk g b) := by
    intro known
    rw [known, Option.bind_some]
    cases a.glazeSet x.glaze <;> rfl
  simp only [← check _ glazed]
  unfold execRioReplyReceive
  extract_lets t
  have rec' : t.staRec k = some r := rec_
  have sess' : t.sessRec r.sess = some x := sess
  rw [rec']
  refine (next_if_neg ours).trans ?_
  rw [sess'] <;> rfl

end Sys2Proof.Machine

open Sys2Proof Sys2Proof.Machine

/-- Settles O42: the requests of the pick, a reply by its Glaze, its shape and its session's rate, and the test's units. -/
theorem remoteStations : Obligations.RemoteStations := by
  unfold Obligations.RemoteStations
  have whole {a : State} {x : SessRec} {b : List Byte}
      (check : (a.glazeSet x.glaze).any (fun g => decide (32 ≤ b.length) && glazeTailOk g b) = true) :
      decide (32 ≤ b.length) = true := by
    cases set : a.glazeSet x.glaze with
    | none =>
      rw [set] at check
      exact absurd check Bool.false_ne_true
    | some g =>
      rw [set] at check
      exact ((Bool.and_eq_true _ _).mp check).1
  refine ⟨fun s sends picks => next_if_pos (by simp [sends, picks]), fun s idle => next_if_neg ?_,
    fun s k b u none_ => ?_, fun s k b u r rec_ idle => ?_, fun s k b u r rec_ ready takes sess => ?_,
    fun s k b u r x a rec_ ready takes sess ad check => ?_, fun s k b u r x a rec_ ready takes sess ad check shape => ?_,
    fun s k b u r x a q rec_ ready takes sess ad check shape charge => ?_,
    fun s k b u r x a q w z y late rec_ ready takes sess ad check shape charge zd lated yd wd => ?_,
    fun s bad none_ => next_if_pos none_, fun s bad some_ => next_if_neg some_⟩
  · rcases idle with idle | idle <;> simp [idle]
  · have none' : (s.at u).staRec k = none := none_
    simp only [exec, execRioReplyReceive, none']
  · have rec' : (s.at u).staRec k = some r := rec_
    have idle' : (!(s.at u).net.ready || !(s.at u).sessTakes r.sess) = true := by simpa using idle
    simp only [exec, execRioReplyReceive, rec', idle', if_true]
  · have rec' : (s.at u).staRec k = some r := rec_
    have ours : (!(s.at u).net.ready || !(s.at u).sessTakes r.sess) = false := by simp [ready, takes]
    simp only [exec, execRioReplyReceive, rec', ours, sess, Option.bind_none, Bool.not_false, Bool.false_eq_true, if_false,
      if_true]
  · subst ad
    exact (execRioReplyReceive_taken rec_ ready takes sess).trans (next_if_pos (by simp [check]))
  · subst ad
    exact (execRioReplyReceive_taken rec_ ready takes sess).trans
      ((next_if_neg (by simp [check])).trans (next_if_pos (by simp only [whole check, Bool.true_and, shape, Bool.not_false])))
  · subst ad
    refine (execRioReplyReceive_taken rec_ ready takes sess).trans ((next_if_neg (by simp [check])).trans
      ((next_if_neg (by simp only [whole check, Bool.true_and, shape, Bool.not_true, Bool.false_eq_true, not_false_eq_true])).trans ?_))
    rw [charge]
    rfl
  · subst ad wd yd lated zd
    refine (execRioReplyReceive_taken rec_ ready takes sess).trans ((next_if_neg (by simp [check])).trans
      ((next_if_neg (by simp only [whole check, Bool.true_and, shape, Bool.not_true, Bool.false_eq_true, not_false_eq_true])).trans ?_))
    rw [charge]
    simp only [Bool.not_true, Bool.false_eq_true, if_false, Bool.and_eq_true, Bool.not_eq_true']

end

section

/-! Programming pages and erasing blocks of the recorder's flash (R69, R70, R650 to R653). -/

namespace Sys2Proof.Machine

/-- Whether a page is programmed: the Sherd flushes, the budget of the pick is open, a page is due and the blocks that it
needs are erased. -/
def Sherd.programs (h : Sherd) (now : Nat) : Prop :=
  h.stopped = false ∧ h.pfFlush = false ∧ h.pagesNow < 8 ∧ h.pageDue now = true ∧
    (h.full false = false ∨ h.ringErased = true) ∧ (h.full true = false ∨ h.archiveErased = true)

theorem Sherd.programs_iff (h : Sherd) (now : Nat) :
    h.programs now ↔ ¬ ((h.stopped || h.pfFlush || decide (8 ≤ h.pagesNow) || !h.pageDue now ||
      (h.full false && !h.ringErased) || (h.full true && !h.archiveErased)) = true) := by
  simp only [Sherd.programs, Bool.not_eq_true, Bool.or_eq_false_iff, Bool.and_eq_false_iff, Bool.not_eq_false',
    decide_eq_false_iff_not, Nat.not_le, and_assoc]

theorem execPageProgram_programs {s : State} (k : Nat) (programs : s.sherd.programs s.otime) :
    execPageProgram k s = .next (match k with
      | 0 => { s with sherd := s.sherd.program }
      | 1 => s.retire false (lastBlock s.sherd.ring).no
      | _ => s.sherdStop) :=
  next_if_neg ((Sherd.programs_iff _ _).mp programs)

theorem execPageProgram_waits {s : State} (k : Nat) (waits : ¬ s.sherd.programs s.otime) : execPageProgram k s = .next s :=
  next_if_pos (Classical.not_not.mp ((not_congr (Sherd.programs_iff _ _)).mp waits))

/-- An erase begins in a pick with time for it that has begun none, where the next block is not erased yet. -/
theorem eraseBegins {s : State} {arch : Bool} (run : s.sherd.stopped = false) (next : s.sherd.erasedNext arch = false)
    (spare : s.warp.spare = true) (first : s.sherd.eraseNow = false) :
    ¬ ((s.sherd.stopped || s.sherd.erasedNext arch || !s.warp.spare || s.sherd.eraseNow) = true) := by
  simp [run, next, spare, first]

/-- The warning of a worn block, given once. -/
theorem wearWarns_iff {n : Nat} {told : Bool} : (decide (48000 ≤ n) && !told) = true ↔ 48000 ≤ n ∧ told = false := by
  simp

end Sys2Proof.Machine

open Sys2Proof Sys2Proof.Machine

/-- Settles O43: a page where one is programmed, by its outcome; an erase where one begins, by its outcome and its wear. -/
theorem recorderFlash : Obligations.RecorderFlash := by
  unfold Obligations.RecorderFlash
  refine ⟨fun s run flush few due ring archive =>
      execPageProgram_programs 0 ⟨run, flush, few, due, ring, archive⟩,
    fun s run flush few due ring archive => execPageProgram_programs 1 ⟨run, flush, few, due, ring, archive⟩,
    fun s k high run flush few due ring archive => ?_, fun s k idle => execPageProgram_waits k ?_,
    fun s q n run next spare first qd nd fresh => ?_, fun s q n run next spare first qd nd worn told => ?_,
    fun s q n run next spare first qd nd => ?_, fun s q n run next spare first qd nd fresh => ?_,
    fun s q n run next spare first qd nd worn told => ?_, fun s q n run next spare first qd nd => ?_,
    fun s arch fail idle => next_if_pos ?_⟩
  · obtain ⟨j, rfl⟩ := Nat.exists_eq_add_of_le' high
    exact execPageProgram_programs (j + 2) ⟨run, flush, few, due, ring, archive⟩
  · rintro ⟨run, flush, few, due, ring, archive⟩
    rcases idle with idle | idle | idle | idle | ⟨full, idle⟩ | ⟨full, idle⟩
    · exact Bool.false_ne_true (run.symm.trans idle)
    · exact Bool.false_ne_true (flush.symm.trans idle)
    · omega
    · exact Bool.false_ne_true (idle.symm.trans due)
    · simp [full, idle] at ring
    · simp [full, idle] at archive
  · subst qd nd
    exact (next_if_neg (eraseBegins (arch := false) run next spare first)).trans (next_if_neg (mt wearWarns_iff.mp (by
      rintro ⟨worn, told⟩
      exact fresh.elim (Nat.not_lt.mpr worn) fun given => Bool.false_ne_true (told.symm.trans given))))
  · subst qd nd
    exact (next_if_neg (eraseBegins (arch := false) run next spare first)).trans
      (next_if_pos (wearWarns_iff.mpr ⟨worn, told⟩))
  · subst qd nd
    exact next_if_neg (eraseBegins (arch := false) run next spare first)
  · subst qd nd
    exact (next_if_neg (eraseBegins (arch := true) run next spare first)).trans (next_if_neg (mt wearWarns_iff.mp (by
      rintro ⟨worn, told⟩
      exact fresh.elim (Nat.not_lt.mpr worn) fun given => Bool.false_ne_true (told.symm.trans given))))
  · subst qd nd
    exact (next_if_neg (eraseBegins (arch := true) run next spare first)).trans
      (next_if_pos (wearWarns_iff.mpr ⟨worn, told⟩))
  · subst qd nd
    exact next_if_neg (eraseBegins (arch := true) run next spare first)
  · rcases idle with idle | idle | idle | idle <;> simp [idle]

end

section

/-! The monitor's lines and commands (R660 to R664). -/

namespace Sys2Proof.Machine

theorem State.monClose_ok (s t : State) (line text : List Byte) :
    s.monClose line (.ok t text) = t.monAnswer line 0 text := rfl

theorem State.monClose_err (s : State) (line : List Byte) (e : Nat) :
    s.monClose line (.err e) = s.monAnswer line e [] := rfl

theorem State.monClose_ite (s : State) (line : List Byte) (c : Prop) [Decidable c] (a b : MonResult) :
    s.monClose line (if c then a else b) = if c then s.monClose line a else s.monClose line b :=
  apply_ite (s.monClose line) c a b

/-- A waiting line whose first word is the command's: the command judges the words after it. -/
theorem State.monitor_line {s : State} {line kw : List Byte} {args : List (List Byte)} (cur : s.mon.cur = some line)
    (words : lineWords line = kw :: args) (act : State → List (List Byte) → MonResult) :
    s.monitor kw act = s.monClose line (act s args) := by
  simp only [State.monitor, cur, words, if_true]

/-- Any other line, or none, is left for the others. -/
theorem State.monitor_other {s : State} {kw : List Byte}
    (other : ∀ line, s.mon.cur = some line → (lineWords line).head? ≠ some kw)
    (act : State → List (List Byte) → MonResult) : s.monitor kw act = s := by
  unfold State.monitor
  split
  · next line cur =>
    split
    · next w args words => exact if_neg fun same => other line cur (by rw [words, same]; rfl)
    · rfl
  · rfl

/-- A command without arguments. -/
theorem State.monitor_plain {s : State} {line kw : List Byte} {args : List (List Byte)} (cur : s.mon.cur = some line)
    (words : lineWords line = kw :: args) (text : State → List Byte) :
    s.monitor kw (monPlain false text) =
      if args = [] then s.monAnswer line 0 (text s) else s.monAnswer line 0x1004 [] := by
  rw [State.monitor_line cur words]
  cases args <;> rfl

/-- WR with two words: its judgement, where both are numbers. -/
theorem monWr_numbers {m : Bool} {s : State} {w x : List Byte} {a v : Nat} (line : List Byte) (addr : readNumber w = some a)
    (value : readNumber x = some v) :
    s.monClose line (monWr m s [w, x]) =
      if writable a 4 = false then s.monAnswer line 0x1005 []
      else if s.sys.svcEn = false then s.monAnswer line 0x3004 []
      else if s.sys.st ≠ .service then s.monAnswer line 0x2001 []
      else if m = false then s.monAnswer line 0x5002 []
      else (s.monWrites a v).monAnswer line 0 [] := by
  simp only [monWr, addr, value, Bool.not_eq_true', bne_iff_ne, State.monClose_ite, State.monClose_ok, State.monClose_err]

theorem State.monForeign_of_wr {s : State} {line w x : List Byte} {a v : Nat} (cur : s.mon.cur = some line)
    (words : lineWords line = [kwWr, w, x]) (addr : readNumber w = some a) (value : readNumber x = some v) :
    s.monForeign = ownedSpan a 4 := by
  simp only [State.monForeign, cur, words, addr, value, beq_self_eq_true, Option.isSome_some, Bool.and_self,
    Bool.true_and]

/-- Only a WR of two numbers may reach a partition of another owner. -/
theorem State.monForeign_eq_false {s : State} (other : ∀ line w x, s.mon.cur = some line → lineWords line = [kwWr, w, x] →
    readNumber w = none ∨ readNumber x = none) : s.monForeign = false := by
  unfold State.monForeign
  split
  · next line cur =>
    split
    · next w x v words =>
      by_cases named : w = kwWr
      · subst named
        rcases other line x v cur words with bad | bad <;> simp [bad]
      · simp [named]
    · rfl
  · rfl

end Sys2Proof.Machine

open Sys2Proof Sys2Proof.Machine

/-- Settles O44: a character while the monitor runs, a command by its line's words and what it needs. -/
theorem monitorLines : Obligations.MonitorLines := by
  unfold Obligations.MonitorLines
  refine ⟨fun s c runs => next_if_pos runs, fun s c rests => next_if_neg (by simp [rests]),
    fun s line args cur words => congrArg Host.Outcome.next (State.monitor_plain cur words _),
    fun s line args cur words => congrArg Host.Outcome.next (State.monitor_plain cur words _),
    fun s line args cur words => congrArg Host.Outcome.next (State.monitor_plain cur words _),
    fun s line args cur words => congrArg Host.Outcome.next (State.monitor_plain cur words _),
    fun s line args n cur words count => congrArg Host.Outcome.next ((State.monitor_line cur words _).trans ?_),
    fun s line args cur words count => congrArg Host.Outcome.next ((State.monitor_line cur words _).trans ?_),
    fun s line args cur words => congrArg Host.Outcome.next ((State.monitor_line cur words _).trans ?_),
    fun s line w rest a n cur words addr count =>
      congrArg Host.Outcome.next ((State.monitor_line cur words _).trans ?_),
    fun s line w rest cur words bad => congrArg Host.Outcome.next ((State.monitor_line cur words _).trans ?_),
    fun s line cur words => congrArg Host.Outcome.next (State.monitor_line cur words _),
    fun s m line w x a v r cur words addr value rd => ?_, fun s m line args cur words bad => ?_,
    fun s line args cur words => congrArg Host.Outcome.next ((State.monitor_line cur words _).trans ?_),
    fun s line cur => ?_, fun s none_ => by simp only [exec, execMonUnknownCommand, none_],
    fun s other => congrArg Host.Outcome.next (State.monitor_other other _),
    fun s other => congrArg Host.Outcome.next (State.monitor_other other _),
    fun s other => congrArg Host.Outcome.next (State.monitor_other other _),
    fun s other => congrArg Host.Outcome.next (State.monitor_other other _),
    fun s other => congrArg Host.Outcome.next (State.monitor_other other _),
    fun s other => congrArg Host.Outcome.next (State.monitor_other other _),
    fun s other => congrArg Host.Outcome.next (State.monitor_other other _),
    fun s other => congrArg Host.Outcome.next (State.monitor_other other _), fun s m other => ?_⟩
  · simp only [count, State.monClose_ite, State.monClose_ok, State.monClose_err]
  · simp only [count, State.monClose_err]
  · cases args with
    | nil =>
      simp only [monPlain, List.isEmpty_nil, Bool.not_true, Bool.false_eq_true, if_false, Bool.true_and,
        State.monClose_ite, State.monClose_ok, State.monClose_err, ne_eq, not_true_eq_false]
      cases s.sys.svcEn <;> rfl
    | cons w rest => rfl
  · simp [State.monRd, addr, count, State.monClose_ite, State.monClose_ok, State.monClose_err]
  · rcases bad with bad | bad
    · simp [State.monRd, bad, State.monClose_err]
    · cases number : readNumber w <;> simp [State.monRd, bad, number, State.monClose_err]
  · have judged : s.monitor kwWr (monWr m) = r :=
      (State.monitor_line cur words _).trans ((monWr_numbers line addr value).trans rd.symm)
    simp only [exec, execMonWr, judged, State.monForeign_of_wr cur words addr value]
  · have judged : s.monitor kwWr (monWr m) = s.monAnswer line 0x1004 [] := by
      rw [State.monitor_line cur words]
      unfold monWr
      split
      · next w x =>
        split
        · next a v addr value => rcases bad w x rfl with bad | bad <;> simp_all
        · rfl
      · rfl
    have own : s.monForeign = false := State.monForeign_eq_false fun line' w x cur' words' => by
      obtain rfl := Option.some.inj (cur.symm.trans cur')
      exact bad w x (List.cons.inj (words.symm.trans words')).2
    simp only [exec, execMonWr, judged, own, Bool.false_eq_true, if_false]
  · have unnamed : (args ≠ [kwOn] ∧ args ≠ [kwOff]) ↔ ¬ (args = [kwOn] ∨ args = [kwOff]) := not_or.symm
    by_cases named : args = [kwOn] ∨ args = [kwOff]
    · rw [if_neg (fun other => unnamed.mp other named)]
      simp only [State.monLog, named, if_true, State.monClose_ite, State.monClose_ok, State.monClose_err]
      cases s.sys.svcEn <;> rfl
    · rw [if_pos (unnamed.mpr named)]
      simp only [State.monLog, named, if_false, State.monClose_err]
  · simp only [exec, execMonUnknownCommand, cur]
    cases words : lineWords line <;> simp
  · have own : s.monForeign = false := State.monForeign_eq_false fun line w x cur words =>
      absurd (by rw [words]; rfl) (other line cur)
    simp only [exec, execMonWr, State.monitor_other other, own, Bool.false_eq_true, if_false]

end

section

/-! Stack and moves of the Twill (R495, R501). -/

namespace Sys2Proof.Machine

/-- What becomes of the running task t, at its instruction's address, by what the instruction gives. -/
def State.twGives (s : State) (t : Nat) (k : Task) (o : TwOut) : State :=
  if o.fault ≠ 0 then s.twAbort t o.fault k.pc
  else if o.flag then
    (s.stepped t o.task o.blocked).raiseLimited (0x12120006 * 16 + t) 60000000 0x12120006#32 [byteOf t]
  else s.stepped t o.task o.blocked

theorem State.twRun_gives {s : State} {op t : Nat} {k : Task} {i : TwIns} {f : State → Nat → TwIns → Task → TwOut}
    (h : s.runs op t k i) : s.twRun op f = s.twGives t k (f s t i { k with pc := i.next }) := by
  unfold State.twGives
  split
  · next fault => exact State.twRun_fault h rfl fault
  · next clean =>
    split
    · next flag => exact State.twRun_flag h rfl (Classical.not_not.mp clean) flag
    · next quiet => exact State.twRun_next h rfl (Classical.not_not.mp clean) (Bool.eq_false_iff.mpr quiet)

/-- An instruction that only computes. -/
theorem State.twGives_quiet (s : State) (t : Nat) (k k' : Task) (n : Nat) :
    s.twGives t k { task := k', blocked := n } = s.stepped t k' n := rfl

/-- A store overlaps an item that is forced. -/
def storeForced (p : TwProg) (i : TwIns) (k : Task) (a b : Nat) : Bool :=
  k.forces.any (fun f => (forceAt p f).any (fun q => overlaps a b (tyBits i.ty) q.1 q.2.1 q.2.2))

/-- A value that is not finite, stored in the output area. -/
def storeBad (i : TwIns) (a : Nat) (v : U64) : Bool := a == 6 && tyFloat i.ty && !ffinite (twF i.ty v)

theorem storeBad_eq_false {i : TwIns} {a : Nat} {v : U64} (takes : a ≠ 6 ∨ tyFloat i.ty = false ∨ ffinite (twF i.ty v) = true) :
    storeBad i a v = false := by
  rcases takes with takes | takes | takes <;> simp [storeBad, takes]

/-- A store at an aligned address of its area. -/
theorem twStore_aligned {p : TwProg} {i : TwIns} {k : Task} {a b : Nat} {v : U64}
    (aligned : twAligned a b (tyBits i.ty) = true) :
    twStore p i k a b v =
      if storeForced p i k a b then { task := k, blocked := 1 }
      else
        let k1 : Task := { k with
          view := k.view.write a b (tyBits i.ty) (if storeBad i a v then 0 else v)
          dirty := k.dirty ++ [(a, b, tyBits i.ty)] }
        { task := if storeBad i a v then { k1 with fpout := true } else k1, flag := storeBad i a v } := by
  have forced : storeForced p i k a b = k.forces.any (fun f => match forceAt p f with
      | some (a', b', w') => overlaps a b (tyBits i.ty) a' b' w'
      | none => false) := by
    unfold storeForced
    congr 1
    funext f
    cases forceAt p f <;> rfl
  rw [forced]
  exact if_neg (by simp [aligned])

/-- What a store gives that goes through, is forced, or is not finite. -/
theorem twStore_taken {p : TwProg} {i : TwIns} {k : Task} {a b : Nat} {v : U64} (aligned : twAligned a b (tyBits i.ty) = true)
    (free : storeForced p i k a b = false) (takes : storeBad i a v = false) :
    twStore p i k a b v = { task := { k with
      view := k.view.write a b (tyBits i.ty) v, dirty := k.dirty ++ [(a, b, tyBits i.ty)] } } := by
  simp only [twStore_aligned aligned, free, takes, Bool.false_eq_true, if_false]

theorem twStore_forced {p : TwProg} {i : TwIns} {k : Task} {a b : Nat} {v : U64} (aligned : twAligned a b (tyBits i.ty) = true)
    (forced : storeForced p i k a b = true) : twStore p i k a b v = { task := k, blocked := 1 } := by
  simp only [twStore_aligned aligned, forced, if_true]

theorem twStore_bad {p : TwProg} {i : TwIns} {k : Task} {a b : Nat} {v : U64} (aligned : twAligned a b (tyBits i.ty) = true)
    (free : storeForced p i k a b = false) (bad : storeBad i a v = true) :
    twStore p i k a b v = { task := { k with
      view := k.view.write a b (tyBits i.ty) 0, dirty := k.dirty ++ [(a, b, tyBits i.ty)], fpout := true }, flag := true } := by
  simp only [twStore_aligned aligned, free, bad, Bool.false_eq_true, if_false, if_true]

/-- An element of an array within its limits. -/
theorem twElem_within {i : TwIns} {k : Task} {ix : U64} {p : Nat × Nat} (low : 0 ≤ twInt 3 ix) (high : twInt 3 ix < i.ext2)
    (addr : twAddr k i.mode (i.ext1 + (twInt 3 ix).toNat * tyBits i.ty) = some p)
    (aligned : twAligned p.1 p.2 (tyBits i.ty) = true) : twElem i k ix = (some p, 0) := by
  have within : ¬ (twInt 3 ix < 0 ∨ (i.ext2 : Int) ≤ twInt 3 ix) := by omega
  simp only [twElem, within, if_false, addr, aligned, if_true]

theorem exec_twSt {s : State} {t : Nat} {i : TwIns} {k : Task} {x : U64} {rest : List U64} {a b : Nat}
    (runs : s.runs 0x02 t k i) (stack : k.stack = x :: rest) (addr : twAddr k i.mode i.ext1 = some (a, b)) :
    exec .twSt s = .next (s.twGives t k (twStore s.shuttle.prog i { k with pc := i.next, stack := rest } a b x)) := by
  refine congrArg Host.Outcome.next ((State.twRun_gives runs).trans (congrArg (s.twGives t k) ?_))
  have addr' : twAddr { k with pc := i.next, stack := rest } i.mode i.ext1 = some (a, b) := addr
  simp only [twPop_values (k := { k with pc := i.next }) (vs := [x]) (n := 1) rfl stack, addr']
  rfl

theorem exec_twStx {s : State} {t : Nat} {i : TwIns} {k : Task} {x y : U64} {rest : List U64} {a b : Nat}
    (runs : s.runs 0x07 t k i) (stack : k.stack = y :: x :: rest) (low : 0 ≤ twInt 3 y) (high : twInt 3 y < i.ext2)
    (addr : twAddr k i.mode (i.ext1 + (twInt 3 y).toNat * tyBits i.ty) = some (a, b))
    (aligned : twAligned a b (tyBits i.ty) = true) :
    exec .twStx s = .next (s.twGives t k (twStore s.shuttle.prog i { k with pc := i.next, stack := rest } a b x)) := by
  refine congrArg Host.Outcome.next ((State.twRun_gives runs).trans (congrArg (s.twGives t k) ?_))
  have elem : twElem i { k with pc := i.next, stack := rest } (v1 [x, y]) = (some (a, b), 0) :=
    twElem_within (k := { k with pc := i.next, stack := rest }) low high addr aligned
  simp only [twPop_values (k := { k with pc := i.next }) (vs := [x, y]) (n := 2) rfl stack, elem]
  rfl

end Sys2Proof.Machine

open Sys2Proof Sys2Proof.Machine

/-- Settles O45: the moves by what they give, a store by its address, the forces and its value. -/
theorem twillStack : Obligations.TwillStack := by
  unfold Obligations.TwillStack
  refine ⟨fun s t k i rest runs stack room => ?_, fun s t k i v runs room value => ?_,
    fun s t k i runs room mode int => ?_,
    fun s t k i x rest runs stack room =>
      congrArg Host.Outcome.next (State.twRun_pure (vs := [x]) runs rfl stack (by simp; omega)),
    fun s t k i x rest runs stack room =>
      congrArg Host.Outcome.next (State.twRun_pure (vs := [x]) runs rfl stack (by simp; omega)),
    fun s t k i x y rest runs stack room =>
      congrArg Host.Outcome.next (State.twRun_pure (vs := [x, y]) runs rfl stack (by simp; omega)),
    fun s t k i x rest a b runs stack room low high addr aligned => ?_,
    fun s t k i x rest a b runs stack addr aligned free takes => (exec_twSt runs stack addr).trans ?_,
    fun s t k i x rest a b runs stack addr aligned forced => (exec_twSt runs stack addr).trans ?_,
    fun s t k i x rest a b runs stack addr aligned free out float nan => (exec_twSt runs stack addr).trans ?_,
    fun s t k i x y rest a b runs stack low high addr aligned free takes =>
      (exec_twStx runs stack low high addr aligned).trans ?_,
    fun s t k i x y rest a b runs stack low high addr aligned forced =>
      (exec_twStx runs stack low high addr aligned).trans ?_,
    fun s t k i x y rest a b runs stack low high addr aligned free out float nan =>
      (exec_twStx runs stack low high addr aligned).trans ?_⟩
  · subst stack
    exact congrArg Host.Outcome.next (State.twRun_gives runs)
  · refine congrArg Host.Outcome.next ((State.twRun_gives runs).trans ?_)
    simp only [value, twPush_room (k := { k with pc := i.next }) (vs := [v]) (by simp; omega)]
    rfl
  · have value : twOperand s t i { k with pc := i.next } = some (twWrap i.ty (immInt i.imm)) := by
      have kinds : tyFloat i.ty = false ∧ i.ty ≠ 0 := by
        simp only [tyInt, decide_eq_true_eq] at int
        refine ⟨?_, by omega⟩
        simp only [tyFloat, Bool.or_eq_false_iff, beq_eq_false_iff_ne]
        omega
      simp only [twOperand, mode, kinds, Bool.false_eq_true, if_false]
    refine congrArg Host.Outcome.next ((State.twRun_gives runs).trans ?_)
    simp only [value, twPush_room (k := { k with pc := i.next }) (vs := [twWrap i.ty (immInt i.imm)]) (by simp; omega)]
    rfl
  · have elem : twElem i { k with pc := i.next, stack := rest } (v0 [x]) = (some (a, b), 0) :=
      twElem_within (k := { k with pc := i.next, stack := rest }) low high addr aligned
    refine congrArg Host.Outcome.next ((State.twRun_gives runs).trans ?_)
    simp only [twLocal, twPop_values (k := { k with pc := i.next }) (vs := [x]) (n := 1) rfl stack, elem,
      twPush_room (k := { k with pc := i.next, stack := rest }) (vs := [k.view.read a b (tyBits i.ty)]) (by simp; omega)]
    rfl
  · exact congrArg (fun o => Host.Outcome.next (s.twGives t k o))
      (twStore_taken (k := { k with pc := i.next, stack := rest }) aligned free (storeBad_eq_false takes))
  · exact congrArg (fun o => Host.Outcome.next (s.twGives t k o))
      (twStore_forced (k := { k with pc := i.next, stack := rest }) aligned forced)
  · exact congrArg (fun o => Host.Outcome.next (s.twGives t k o))
      (twStore_bad (k := { k with pc := i.next, stack := rest }) aligned free (by simp [storeBad, out, float, nan]))
  · exact congrArg (fun o => Host.Outcome.next (s.twGives t k o))
      (twStore_taken (k := { k with pc := i.next, stack := rest }) aligned free (storeBad_eq_false takes))
  · exact congrArg (fun o => Host.Outcome.next (s.twGives t k o))
      (twStore_forced (k := { k with pc := i.next, stack := rest }) aligned forced)
  · exact congrArg (fun o => Host.Outcome.next (s.twGives t k o))
      (twStore_bad (k := { k with pc := i.next, stack := rest }) aligned free (by simp [storeBad, out, float, nan]))

end

section

/-! Arithmetic, logic and comparison of the Twill (R494, R495). -/

namespace Sys2Proof.Machine

/-- An instruction that replaces its operands, the last of `vs` on the top of the stack, by the one value that it computes. -/
theorem State.twRun_value {s : State} {op t n : Nat} {k : Task} {i : TwIns} {g : TwIns → List U64 → List U64}
    {vs rest : List U64} {v : U64} (h : s.runs op t k i) (len : vs.length = n) (stack : k.stack = vs.reverse ++ rest)
    (room : rest.length ≤ 63) (value : g i vs = [v]) :
    s.twRun op (twLocal (twPure n g)) = s.stepped t { k with pc := i.next, stack := v :: rest } := by
  refine (State.twRun_pure h len stack (by simp only [value, List.length_singleton]; omega)).trans ?_
  rw [value]
  rfl

/-- An instruction of one operand, of two and of three operands, by the value it computes. -/
theorem twExec_one {s : State} {op t : Nat} {k : Task} {i : TwIns} {g : TwIns → List U64 → List U64} {x v : U64}
    {rest : List U64} (h : s.runs op t k i) (stack : k.stack = x :: rest) (room : rest.length ≤ 63) (value : g i [x] = [v]) :
    twExec op (twLocal (twPure 1 g)) s = .next (s.stepped t { k with pc := i.next, stack := v :: rest }) :=
  congrArg Host.Outcome.next (State.twRun_value (vs := [x]) h rfl stack room value)

theorem twExec_two {s : State} {op t : Nat} {k : Task} {i : TwIns} {g : TwIns → List U64 → List U64} {x y v : U64}
    {rest : List U64} (h : s.runs op t k i) (stack : k.stack = y :: x :: rest) (room : rest.length ≤ 63)
    (value : g i [x, y] = [v]) :
    twExec op (twLocal (twPure 2 g)) s = .next (s.stepped t { k with pc := i.next, stack := v :: rest }) :=
  congrArg Host.Outcome.next (State.twRun_value (vs := [x, y]) h rfl stack room value)

theorem twExec_three {s : State} {op t : Nat} {k : Task} {i : TwIns} {g : TwIns → List U64 → List U64} {x y z v : U64}
    {rest : List U64} (h : s.runs op t k i) (stack : k.stack = z :: y :: x :: rest) (room : rest.length ≤ 63)
    (value : g i [x, y, z] = [v]) :
    twExec op (twLocal (twPure 3 g)) s = .next (s.stepped t { k with pc := i.next, stack := v :: rest }) :=
  congrArg Host.Outcome.next (State.twRun_value (vs := [x, y, z]) h rfl stack room value)

/-- A division or a remainder of integers, of another divisor than zero. -/
theorem State.twRun_divide {s : State} {op t : Nat} {k : Task} {i : TwIns} {int : Int → Int → Int} {x y : U64}
    {rest : List U64} (h : s.runs op t k i) (stack : k.stack = y :: x :: rest) (room : rest.length ≤ 63)
    (int' : tyFloat i.ty = false) (divides : twInt i.ty y ≠ 0) :
    s.twRun op (twLocal (twDivide int)) = s.stepped t
      { k with pc := i.next, stack := twWrap i.ty (int (twInt i.ty x) (twInt i.ty y)) :: rest } := by
  have kinds : i.ty ≠ 13 ∧ i.ty ≠ 14 := by simpa [tyFloat] using int'
  have value : twArith f32Div fdiv int i [x, y] = [twWrap i.ty (int (twInt i.ty x) (twInt i.ty y))] := by
    simp only [twArith, kinds, if_false]
    rfl
  have divides' : ¬ twInt i.ty (v1 [x, y]) = 0 := divides
  refine (State.twRun_gives h).trans ?_
  simp only [twLocal, twDivide, twPop_values (k := { k with pc := i.next }) (vs := [x, y]) (n := 2) rfl stack, int',
    Bool.false_eq_true, if_false, divides', value,
    twPush_room (k := { k with pc := i.next, stack := rest })
      (vs := [twWrap i.ty (int (twInt i.ty x) (twInt i.ty y))]) (by simp; omega)]
  rfl

/-- A division of an integer by zero gives 0 and sets DIVZ (R494). -/
theorem State.twRun_divide_zero {s : State} {op t : Nat} {k : Task} {i : TwIns} {int : Int → Int → Int} {x y : U64}
    {rest : List U64} (h : s.runs op t k i) (stack : k.stack = y :: x :: rest) (room : rest.length ≤ 63)
    (int' : tyFloat i.ty = false) (zero : twInt i.ty y = 0) :
    s.twRun op (twLocal (twDivide int)) =
      (s.stepped t { k with pc := i.next, stack := 0 :: rest, divz := true }).raiseLimited (0x12120006 * 16 + t) 60000000
        0x12120006#32 [byteOf t] := by
  have zero' : twInt i.ty (v1 [x, y]) = 0 := zero
  refine (State.twRun_gives h).trans ?_
  simp only [twLocal, twDivide, twPop_values (k := { k with pc := i.next }) (vs := [x, y]) (n := 2) rfl stack, int',
    Bool.false_eq_true, if_false, zero', if_true,
    twPush_room (k := { k with pc := i.next, stack := rest }) (vs := [0]) (by simp; omega)]
  rfl

/-- The division of reals. -/
theorem State.twRun_divide_real {s : State} {op t : Nat} {k : Task} {i : TwIns} {int : Int → Int → Int} {x y : U64}
    {rest : List U64} (h : s.runs op t k i) (stack : k.stack = y :: x :: rest) (room : rest.length ≤ 63)
    (float : tyFloat i.ty = true) :
    s.twRun op (twLocal (twDivide int)) = s.stepped t { k with
      pc := i.next
      stack := (if i.ty = 13 then (f32Div (x.setWidth 32) (y.setWidth 32)).setWidth 64 else fdiv x y) :: rest } := by
  have value : twArith f32Div fdiv int i [x, y] =
      [if i.ty = 13 then (f32Div (x.setWidth 32) (y.setWidth 32)).setWidth 64 else fdiv x y] := by
    rcases (by simpa [tyFloat] using float : i.ty = 13 ∨ i.ty = 14) with real | long
    · simp only [twArith, real, if_true]
      rfl
    · simp only [twArith, long, if_true]
      rfl
  refine (State.twRun_gives h).trans ?_
  simp only [twLocal, twDivide, twPop_values (k := { k with pc := i.next }) (vs := [x, y]) (n := 2) rfl stack, float,
    if_true, value,
    twPush_room (k := { k with pc := i.next, stack := rest })
      (vs := [if i.ty = 13 then (f32Div (x.setWidth 32) (y.setWidth 32)).setWidth 64 else fdiv x y]) (by simp; omega)]
  rfl

/-- MOD is of integers only (R495). -/
theorem tyFloat_of_mod {s : State} {t : Nat} {k : Task} {i : TwIns} (h : s.runs 0x14 t k i) : tyFloat i.ty = false := by
  obtain ⟨-, -, -, op, allowed⟩ := h
  simp only [twAllowed, op, Bool.and_eq_true, tyInt, decide_eq_true_eq] at allowed
  simp only [tyFloat, Bool.or_eq_false_iff, beq_eq_false_iff_ne]
  omega

/-- What CVT gives, without and with RANGE. -/
theorem State.twRun_cvt {s : State} {t : Nat} {k : Task} {i : TwIns} {x : U64} {rest : List U64} (h : s.runs 0x38 t k i)
    (stack : k.stack = x :: rest) (room : rest.length ≤ 63) :
    exec .twCvt s = .next (s.twGives t k
      (let o : TwOut := { task := { k with pc := i.next, stack := (twCvt (i.imm % 16) i.ty x).1 :: rest } }
       if (twCvt (i.imm % 16) i.ty x).2 then { o with task := { o.task with range := true }, flag := true } else o)) := by
  refine congrArg Host.Outcome.next ((State.twRun_gives h).trans (congrArg (s.twGives t k) ?_))
  simp only [twLocal, twPop_values (k := { k with pc := i.next }) (vs := [x]) (n := 1) rfl stack,
    twPush_room (k := { k with pc := i.next, stack := rest }) (vs := [(twCvt (i.imm % 16) i.ty (v0 [x])).1])
      (by simp; omega)]
  rfl

end Sys2Proof.Machine

open Sys2Proof Sys2Proof.Machine

/-- Settles O46: each operation by the one value it computes, the division by its divisor and its type. -/
theorem twillArithmetic : Obligations.TwillArithmetic := by
  unfold Obligations.TwillArithmetic
  exact ⟨fun _ _ _ _ _ _ _ runs stack room => twExec_two runs stack room rfl,
    fun _ _ _ _ _ _ _ runs stack room => twExec_two runs stack room rfl,
    fun _ _ _ _ _ _ _ runs stack room => twExec_two runs stack room rfl,
    fun s t k i x y rest runs stack room int divides =>
      congrArg Host.Outcome.next (State.twRun_divide runs stack room int divides),
    fun s t k i x y rest runs stack room float =>
      congrArg Host.Outcome.next (State.twRun_divide_real runs stack room float),
    fun s t k i x y rest runs stack room divides =>
      congrArg Host.Outcome.next (State.twRun_divide runs stack room (tyFloat_of_mod runs) divides),
    fun s t k i x y rest runs stack room int zero =>
      congrArg Host.Outcome.next (State.twRun_divide_zero runs stack room int zero),
    fun s t k i x y rest runs stack room int zero =>
      congrArg Host.Outcome.next (State.twRun_divide_zero runs stack room int zero),
    fun _ _ _ _ _ _ runs stack room => twExec_one runs stack room rfl,
    fun _ _ _ _ _ _ runs stack room => twExec_one runs stack room rfl,
    fun _ _ _ _ _ _ _ runs stack room => twExec_two runs stack room rfl,
    fun _ _ _ _ _ _ _ runs stack room => twExec_two runs stack room rfl,
    fun _ _ _ _ _ _ _ _ runs stack room => twExec_three runs stack room rfl,
    fun _ _ _ _ _ _ runs stack room => twExec_one runs stack room rfl,
    fun _ _ _ _ _ _ runs stack room => twExec_one runs stack room rfl,
    fun _ _ _ _ _ _ runs stack room => twExec_one runs stack room rfl,
    fun _ _ _ _ _ _ runs stack room => twExec_one runs stack room rfl,
    fun _ _ _ _ _ _ runs stack room => twExec_one runs stack room rfl,
    fun _ _ _ _ _ _ _ runs stack room => twExec_two runs stack room rfl⟩

/-- Settles O47: each operation by the one value it computes. -/
theorem twillLogic : Obligations.TwillLogic := by
  unfold Obligations.TwillLogic
  exact ⟨fun _ _ _ _ _ _ _ runs stack room => twExec_two runs stack room rfl,
    fun _ _ _ _ _ _ _ runs stack room => twExec_two runs stack room rfl,
    fun _ _ _ _ _ _ _ runs stack room => twExec_two runs stack room rfl,
    fun _ _ _ _ _ _ runs stack room => twExec_one runs stack room rfl,
    fun _ _ _ _ _ _ _ runs stack room => twExec_two runs stack room rfl,
    fun _ _ _ _ _ _ _ runs stack room => twExec_two runs stack room rfl,
    fun _ _ _ _ _ _ _ runs stack room => twExec_two runs stack room rfl,
    fun _ _ _ _ _ _ _ runs stack room => twExec_two runs stack room rfl⟩

/-- Settles O48: each operation by the one value it computes, CVT by whether it saturated. -/
theorem twillCompare : Obligations.TwillCompare := by
  unfold Obligations.TwillCompare
  refine ⟨fun _ _ _ _ _ _ _ runs stack room => twExec_two runs stack room rfl,
    fun _ _ _ _ _ _ _ runs stack room => twExec_two runs stack room rfl,
    fun _ _ _ _ _ _ _ runs stack room => twExec_two runs stack room rfl,
    fun _ _ _ _ _ _ _ runs stack room => twExec_two runs stack room rfl,
    fun _ _ _ _ _ _ _ runs stack room => twExec_two runs stack room rfl,
    fun _ _ _ _ _ _ _ runs stack room => twExec_two runs stack room rfl,
    fun _ _ _ _ _ _ _ _ runs stack room => twExec_three runs stack room rfl,
    fun s t k i x rest runs stack room exact' => (State.twRun_cvt runs stack room).trans ?_,
    fun s t k i x rest runs stack room sat => (State.twRun_cvt runs stack room).trans ?_⟩
  · simp only [exact', Bool.false_eq_true, if_false]
    rfl
  · simp only [sat, if_true]
    rfl

end

section

/-! Faults of the Twill (R485, R496): what an instruction does that does not run, or not through. -/

namespace Sys2Proof.Machine

theorem twPop_short {k : Task} {n : Nat} (short : k.stack.length < n) : twPop k n = none := if_pos short

/-- Every instruction of the table but EVT runs on the running task alone, and faults for want of its n values. -/
theorem twOpcode_exec {c : Instr} {op n : Nat} (known : twOpcode c = some (op, n)) (plain : c ≠ .twEvt) :
    ∃ f, (∀ s, exec c s = .next (s.twRun op f)) ∧
      ∀ (s : State) (t : Nat) (i : TwIns) (k : Task), k.stack.length < n → (f s t i k).fault = 3 := by
  cases c with
  | twEvt => exact absurd rfl plain
  | _ =>
    cases known <;>
    refine ⟨_, fun s => rfl, fun s t i k short => ?_⟩ <;>
    have some' := Nat.zero_lt_of_lt short <;>
    simp [twLocal, twPure, twDivide, twCompare, twJumpIf, twEdge, twBistable, twBuiltin, twPop_short short] at some' ⊢

/-- Nothing runs: the Shuttle is stopped, or no task runs. -/
theorem exec_tw_idle {s : State} {c : Instr} {op n : Nat} (known : twOpcode c = some (op, n))
    (idle : s.shuttle.run = false ∨ s.twRunning = none) : exec c s = .next s := by
  by_cases evt : c = .twEvt
  · subst evt
    rcases idle with idle | idle <;> simp [exec, execTwEvt, idle]
  · obtain ⟨f, run, -⟩ := twOpcode_exec known evt
    refine (run s).trans (congrArg Host.Outcome.next ?_)
    rcases idle with idle | idle <;> simp [State.twRun, idle]

/-- The next word is no instruction. -/
theorem exec_tw_stray {s : State} {c : Instr} {op n t : Nat} {k : Task} (known : twOpcode c = some (op, n))
    (on : s.shuttle.run = true) (task : s.twRunning = some (t, k)) (none' : fetchTw s.shuttle.prog.code k.pc = none) :
    exec c s = .next (s.twStray t k) := by
  by_cases evt : c = .twEvt
  · subst evt
    simp [exec, execTwEvt, on, task, none']
  · obtain ⟨f, run, -⟩ := twOpcode_exec known evt
    exact (run s).trans (by simp [State.twRun, on, task, none'])

/-- The next instruction is another. -/
theorem exec_tw_other {s : State} {c : Instr} {op n t : Nat} {k : Task} {i : TwIns} (known : twOpcode c = some (op, n))
    (on : s.shuttle.run = true) (task : s.twRunning = some (t, k)) (ins : fetchTw s.shuttle.prog.code k.pc = some i)
    (another : i.op ≠ op) : exec c s = .next (s.twOther t k i) := by
  by_cases evt : c = .twEvt
  · subst evt
    cases known
    simp [exec, execTwEvt, on, task, ins, another]
  · obtain ⟨f, run, -⟩ := twOpcode_exec known evt
    exact (run s).trans (by simp [State.twRun, on, task, ins, another])

/-- The instruction does not go with its type or mode. -/
theorem exec_tw_barred {s : State} {c : Instr} {op n t : Nat} {k : Task} {i : TwIns} (known : twOpcode c = some (op, n))
    (on : s.shuttle.run = true) (task : s.twRunning = some (t, k)) (ins : fetchTw s.shuttle.prog.code k.pc = some i)
    (same : i.op = op) (barred : twAllowed i = false) : exec c s = .next (s.twAbort t 7 k.pc) := by
  by_cases evt : c = .twEvt
  · subst evt
    cases known
    simp [exec, execTwEvt, on, task, ins, same, barred]
  · obtain ⟨f, run, -⟩ := twOpcode_exec known evt
    exact (run s).trans (by simp [State.twRun, on, task, ins, same, barred])

/-- The stack holds fewer values than the instruction takes. -/
theorem exec_tw_short {s : State} {c : Instr} {op n t : Nat} {k : Task} {i : TwIns} (known : twOpcode c = some (op, n))
    (runs : s.runs op t k i) (short : k.stack.length < n) : exec c s = .next (s.twAbort t 3 k.pc) := by
  by_cases evt : c = .twEvt
  · subst evt
    cases known
    obtain ⟨on, task, ins, same, allowed⟩ := runs
    simp [exec, execTwEvt, on, task, ins, same, allowed, twPop_short short]
  · obtain ⟨f, run, faults⟩ := twOpcode_exec known evt
    have fault := faults s t i { k with pc := i.next } short
    refine (run s).trans (congrArg Host.Outcome.next ((State.twRun_fault runs rfl (by rw [fault]; decide)).trans ?_))
    rw [fault]

/-- What the running instruction gives is a fault: its task is aborted. -/
theorem State.twRun_faults {s : State} {op t cause : Nat} {k : Task} {i : TwIns} {f : State → Nat → TwIns → Task → TwOut}
    (h : s.runs op t k i) (fault : (f s t i { k with pc := i.next }).fault = cause) (bad : cause ≠ 0) :
    s.twRun op f = s.twAbort t cause k.pc := by
  subst fault
  exact State.twRun_fault h rfl bad

theorem twPush_full {k : Task} {vs : List U64} (full : 64 < vs.length + k.stack.length) : (twPush k vs).fault = 3 := by
  have beyond : 64 < (vs.reverse ++ k.stack).length := by
    simp only [List.length_append, List.length_reverse]
    exact full
  simp only [twPush, if_pos beyond]

/-- The values on the stack from its top, when it holds that many. -/
theorem stack_one {l : List U64} (h : 1 ≤ l.length) : ∃ rest, l = l.getD 0 0 :: rest := by
  cases l with
  | nil => cases h
  | cons x rest => exact ⟨rest, rfl⟩

theorem stack_two {l : List U64} (h : 2 ≤ l.length) : ∃ x rest, l = l.getD 0 0 :: x :: rest := by
  match l, h with
  | _ :: x :: rest, _ => exact ⟨x, rest, rfl⟩

/-- A store at an address that is none, outside its area or not aligned. -/
theorem twStore_astray {p : TwProg} {i : TwIns} {k : Task} {a b : Nat} {v : U64}
    (astray : twAligned a b (tyBits i.ty) = false) : (twStore p i k a b v).fault = 6 := by
  simp [twStore, astray]

/-- An element outside its array, and one of an address that is none. -/
theorem twElem_outside {i : TwIns} {k : Task} {ix : U64} (outside : twInt 3 ix < 0 ∨ (i.ext2 : Int) ≤ twInt 3 ix) :
    twElem i k ix = (none, 5) := if_pos outside

theorem twElem_astray {i : TwIns} {k : Task} {ix : U64} (low : 0 ≤ twInt 3 ix) (high : twInt 3 ix < i.ext2)
    (astray : ∀ p, twAddr k i.mode (i.ext1 + (twInt 3 ix).toNat * tyBits i.ty) = some p →
      twAligned p.1 p.2 (tyBits i.ty) = false) : twElem i k ix = (none, 6) := by
  have within : ¬ (twInt 3 ix < 0 ∨ (i.ext2 : Int) ≤ twInt 3 ix) := by omega
  simp only [twElem, within, if_false]
  cases addr : twAddr k i.mode (i.ext1 + (twInt 3 ix).toNat * tyBits i.ty) with
  | none => rfl
  | some p => simp [astray p addr]

/-- LDX and STX of an element that is none. -/
theorem exec_twLdx_none {s : State} {t cause : Nat} {k : Task} {i : TwIns} {x : U64} (runs : s.runs 0x06 t k i)
    (stack : 1 ≤ k.stack.length) (index : x = k.stack.getD 0 0)
    (elem : ∀ k' : Task, k'.inst = k.inst → twElem i k' x = (none, cause)) (bad : cause ≠ 0) :
    exec .twLdx s = .next (s.twAbort t cause k.pc) := by
  obtain ⟨rest, values⟩ := stack_one stack
  rw [← index] at values
  have elem' : twElem i { k with pc := i.next, stack := rest } (v0 [x]) = (none, cause) := elem _ rfl
  refine congrArg Host.Outcome.next (State.twRun_faults runs ?_ bad)
  simp only [twLocal, twPop_values (k := { k with pc := i.next }) (vs := [x]) (n := 1) rfl values, elem']

theorem exec_twStx_none {s : State} {t cause : Nat} {k : Task} {i : TwIns} {x : U64} (runs : s.runs 0x07 t k i)
    (stack : 2 ≤ k.stack.length) (index : x = k.stack.getD 0 0)
    (elem : ∀ k' : Task, k'.inst = k.inst → twElem i k' x = (none, cause)) (bad : cause ≠ 0) :
    exec .twStx s = .next (s.twAbort t cause k.pc) := by
  obtain ⟨y, rest, values⟩ := stack_two stack
  rw [← index] at values
  have elem' : twElem i { k with pc := i.next, stack := rest } (v1 [y, x]) = (none, cause) := elem _ rfl
  refine congrArg Host.Outcome.next (State.twRun_faults runs ?_ bad)
  simp only [twPop_values (k := { k with pc := i.next }) (vs := [y, x]) (n := 2) rfl values, elem']

/-- The address of an operand is the same for two tasks whose current block is the same. -/
theorem twAddr_of_inst {k k' : Task} (inst : k'.inst = k.inst) (mode bit : Nat) : twAddr k' mode bit = twAddr k mode bit := by
  simp only [twAddr, inst]

/-- The Shuttle is the same at another instant. -/
theorem State.at_shuttle' (s : State) (u : Ns) : (s.at u).shuttle = s.shuttle ∧ (s.at u).twRunning = s.twRunning := ⟨rfl, rfl⟩

end Sys2Proof.Machine

open Sys2Proof Sys2Proof.Machine

/-- Settles O51: by what comes before the instruction (the Shuttle, the next word, its type and mode, the stack), then by the
operand that faults. -/
theorem twillFaults : Obligations.TwillFaults := by
  unfold Obligations.TwillFaults
  refine ⟨fun s c op n known idle => exec_tw_idle known idle,
    fun s c op n t k known on task none' => exec_tw_stray known on task none',
    fun s c op n t k i known on task ins another => exec_tw_other known on task ins another,
    fun s c op n t k i known on task ins same barred => exec_tw_barred known on task ins same barred,
    fun s c op n t k i known runs short => exec_tw_short known runs short,
    fun s t k i runs full => ?_, fun s t k i v runs full value => ?_, fun s t k i runs value => ?_,
    fun s t k i runs stack astray => ?_,
    fun s t k i x runs stack index outside =>
      exec_twLdx_none runs stack index (fun k' _ => twElem_outside outside) (by decide),
    fun s t k i x runs stack index low high astray => exec_twLdx_none runs stack index
      (fun k' inst => twElem_astray low high (fun p addr => astray p ((twAddr_of_inst inst _ _).symm.trans addr))) (by decide),
    fun s t k i x runs stack index outside =>
      exec_twStx_none runs stack index (fun k' _ => twElem_outside outside) (by decide),
    fun s t k i x runs stack index low high astray => exec_twStx_none runs stack index
      (fun k' inst => twElem_astray low high (fun p addr => astray p ((twAddr_of_inst inst _ _).symm.trans addr))) (by decide),
    fun s u idle => ?_, fun s u t k on task none' => ?_, fun s u t k i on task ins another => ?_,
    fun s u t k i on task ins same barred => ?_⟩
  · obtain ⟨rest, values⟩ := stack_one (by omega : 1 ≤ k.stack.length)
    refine congrArg Host.Outcome.next (State.twRun_faults runs ?_ (by decide))
    have room : rest.length = 63 := by
      rw [values] at full
      simpa using full
    simp only [twLocal, twPure, twPop_values (k := { k with pc := i.next }) (vs := [k.stack.getD 0 0]) (n := 1) rfl values]
    exact twPush_full (by simp [room])
  · refine congrArg Host.Outcome.next (State.twRun_faults runs ?_ (by decide))
    simp only [value]
    exact twPush_full (by simp [full])
  · refine congrArg Host.Outcome.next (State.twRun_faults runs ?_ (by decide))
    simp only [value]
  · obtain ⟨rest, values⟩ := stack_one stack
    refine congrArg Host.Outcome.next (State.twRun_faults runs ?_ (by decide))
    simp only [twPop_values (k := { k with pc := i.next }) (vs := [k.stack.getD 0 0]) (n := 1) rfl values]
    have addr : twAddr { k with pc := i.next, stack := rest } i.mode i.ext1 = twAddr k i.mode i.ext1 := rfl
    rw [addr]
    cases eq : twAddr k i.mode i.ext1 with
    | none => rfl
    | some p => exact twStore_astray (astray p eq)
  · rcases idle with idle | idle <;> simp [exec, execTwEnd, State.at_shuttle', idle]
  · simp [exec, execTwEnd, State.at_shuttle', on, task, none', State.twStray]
  · simp [exec, execTwEnd, State.at_shuttle', on, task, ins, another, State.twOther]
  · simp [exec, execTwEnd, State.at_shuttle', on, task, ins, same, barred]

end

section

/-! Jumps, calls, END and EVT of the Twill (R495, R488, R503), and its built-in blocks (R498 to R500). -/

namespace Sys2Proof.Machine

/-- A conditional jump whose popped value is the one it jumps on, and one whose is not. -/
theorem State.twRun_jump {s : State} {op t : Nat} {k : Task} {i : TwIns} {jump : Bool} {x : U64} {rest : List U64}
    (h : s.runs op t k i) (stack : k.stack = x :: rest) (taken : x.getLsbD 0 = jump) :
    s.twRun op (twLocal (twJumpIf jump)) = s.stepped t { k with pc := twTarget i, stack := rest } := by
  have taken' : (v0 [x]).getLsbD 0 = jump := taken
  refine (State.twRun_gives h).trans ?_
  simp only [twLocal, twJumpIf, twPop_values (k := { k with pc := i.next }) (vs := [x]) (n := 1) rfl stack, if_pos taken']
  rfl

theorem State.twRun_no_jump {s : State} {op t : Nat} {k : Task} {i : TwIns} {jump : Bool} {x : U64} {rest : List U64}
    (h : s.runs op t k i) (stack : k.stack = x :: rest) (passed : ¬ x.getLsbD 0 = jump) :
    s.twRun op (twLocal (twJumpIf jump)) = s.stepped t { k with pc := i.next, stack := rest } := by
  have passed' : ¬ (v0 [x]).getLsbD 0 = jump := passed
  refine (State.twRun_gives h).trans ?_
  simp only [twLocal, twJumpIf, twPop_values (k := { k with pc := i.next }) (vs := [x]) (n := 1) rfl stack, if_neg passed']
  rfl

/-- END outside a call. -/
theorem execTwEnd_commits {s : State} {u : Ns} {t : Nat} {k : Task} {i : TwIns} (runs : s.runs 0x45 t k i)
    (outside : k.calls = []) :
    exec (.twEnd u) s = .next (
      let r := (s.at u).twCommit t { k with pc := i.next }
      if (s.shuttle.prog.tasks.getD t { entry := 0 }).beat then r.releaseGuide .beatTask else r) := by
  obtain ⟨on, task, ins, op, allowed⟩ := runs
  simp [exec, execTwEnd, State.at_shuttle', on, task, ins, op, allowed, outside, State.twCommit]

/-- An event that is limited in time, when none of its key was raised within the period. -/
theorem State.raiseLimited_free {s : State} {key period : Nat} {code : Word} {detail : List Byte}
    (free : ∀ u, aget key s.limits = some u → u + period ≤ s.otime) :
    s.raiseLimited key period code detail = State.raise { s with limits := aset key s.otime s.limits } code detail := by
  unfold State.raiseLimited
  cases last : aget key s.limits with
  | none => rfl
  | some u => exact if_neg (Nat.not_lt.mpr (free u last))

/-- EVT with the task as the popped condition leaves it. -/
theorem execTwEvt_false {s : State} {t : Nat} {k : Task} {i : TwIns} {x : U64} {rest : List U64} (runs : s.runs 0x60 t k i)
    (stack : k.stack = x :: rest) (false' : x.getLsbD 0 = false) :
    exec .twEvt s = .next { s with shuttle := { s.shuttle with
      tasks := s.shuttle.tasks.set t { k with pc := i.next, stack := rest } } } := by
  obtain ⟨on, task, ins, op, allowed⟩ := runs
  have bit : x[0] = false := by simpa using false'
  simp [exec, execTwEvt, on, task, ins, op, allowed, twPop_values (k := k) (vs := [x]) (n := 1) rfl stack, v0, bit]

/-- EVT within 100 ms of the last event of its number. -/
theorem execTwEvt_held {s : State} {t : Nat} {k : Task} {i : TwIns} {x : U64} {rest : List U64} {u : Nat}
    (runs : s.runs 0x60 t k i) (stack : k.stack = x :: rest) (true' : x.getLsbD 0 = true)
    (last : aget (0x1208000000 + i.imm % 4096) s.limits = some u) (within : s.otime < u + 100000) :
    exec .twEvt s = .next { s with shuttle := { s.shuttle with
      tasks := s.shuttle.tasks.set t { k with pc := i.next, stack := rest, evsup := sat16 k.evsup } } } := by
  obtain ⟨on, task, ins, op, allowed⟩ := runs
  have bit : x[0] = true := by simpa using true'
  simp [exec, execTwEvt, on, task, ins, op, allowed, twPop_values (k := k) (vs := [x]) (n := 1) rfl stack, v0, bit, last,
    within]

/-- EVT with no event of its number in the last 100 ms. -/
theorem execTwEvt_raises {s : State} {t : Nat} {k : Task} {i : TwIns} {x : U64} {rest : List U64} (runs : s.runs 0x60 t k i)
    (stack : k.stack = x :: rest) (true' : x.getLsbD 0 = true)
    (free : ∀ u, aget (0x1208000000 + i.imm % 4096) s.limits = some u → u + 100000 ≤ s.otime) :
    exec .twEvt s = .next (State.raise
      { s with
        shuttle := { s.shuttle with tasks := s.shuttle.tasks.set t { k with pc := i.next, stack := rest } }
        limits := aset (0x1208000000 + i.imm % 4096) s.otime s.limits }
      (word (0x12080000 + i.ty * 1048576 + i.imm % 4096))) := by
  obtain ⟨on, task, ins, op, allowed⟩ := runs
  have bit : x[0] = true := by simpa using true'
  have runs' : exec .twEvt s = .next (State.raiseLimited
      { s with shuttle := { s.shuttle with tasks := s.shuttle.tasks.set t { k with pc := i.next, stack := rest } } }
      (0x1208000000 + i.imm % 4096) 100000 (word (0x12080000 + i.ty * 1048576 + i.imm % 4096))) := by
    cases last : aget (0x1208000000 + i.imm % 4096) s.limits with
    | none =>
      simp [exec, execTwEvt, on, task, ins, op, allowed, twPop_values (k := k) (vs := [x]) (n := 1) rfl stack, v0, bit, last]
    | some u =>
      have past : ¬ s.otime < u + 100000 := Nat.not_lt.mpr (free u last)
      simp [exec, execTwEvt, on, task, ins, op, allowed, twPop_values (k := k) (vs := [x]) (n := 1) rfl stack, v0, bit, last,
        past]
  exact runs'.trans (congrArg Host.Outcome.next (State.raiseLimited_free free))

/-- A built-in block of the running task, by what its body gives of its fields and its inputs. -/
theorem twExec_block {s : State} {op t n size : Nat} {k : Task} {i : TwIns}
    {body : State → TwIns → Task → TwBlock → List U64 → List U64 × Bool × List (Nat × Nat × Nat) × Nat}
    {vs rest : List U64} {a bit : Nat} {out : List U64} {fl : Bool} {fields : List (Nat × Nat × Nat)} {prev : Nat}
    (runs : s.runs op t k i) (len : vs.length = n) (stack : k.stack = vs.reverse ++ rest)
    (addr : twAddr k i.mode i.ext1 = some (a, bit)) (aligned : bit % 64 = 0) (fits : bit + size * 8 ≤ areaSize a * 8)
    (gives : body s i { k with pc := i.next } (twBlockAt s k a (bit / 8)) vs = (out, fl, fields, prev))
    (room : out.length + rest.length ≤ 64) :
    twExec op (fun s _ i k => twBuiltin n size s i k (body s i k)) s = .next (s.stepped t
      { (twField (twField (twField
          (fields.foldl (fun (c : Task) e => twField c a (bit / 8 + e.1) e.2.1 e.2.2) { k with pc := i.next, stack := rest })
          a (bit / 8) 2 (s.shuttle.starts.toNat % 65536)) a (bit / 8 + 2) 1 prev) a (bit / 8 + 3) 1 (b2n fl)) with
        stack := out.reverse ++ rest }) := by
  have block := twBuiltin_runs (k := { k with pc := i.next }) len stack addr aligned fits gives room
  exact congrArg Host.Outcome.next
    (State.twRun_next (f := fun s _ i k => twBuiltin n size s i k (body s i k)) runs block rfl rfl)

/-- An edge block, by the edge it looks for. -/
theorem exec_twEdge {f : Bool → Bool → Bool} {s : State} {op t : Nat} {k : Task} {i : TwIns} {x : U64} {rest : List U64}
    {a bit : Nat} (runs : s.runs op t k i) (stack : k.stack = x :: rest) (room : rest.length ≤ 63)
    (addr : twAddr k i.mode i.ext1 = some (a, bit)) (aligned : bit % 64 = 0) (fits : bit + 64 ≤ areaSize a * 8)
    {q : Bool} (edge : f (x.getLsbD 0) (nbit (twGet k a (bit / 8 + 2) 1) 0) = q) :
    twExec op (fun s _ i k => twEdge f s i k) s = .next (s.stepped t
      { (twField (twField (twField { k with pc := i.next, stack := rest } a (bit / 8) 2 (s.shuttle.starts.toNat % 65536))
          a (bit / 8 + 2) 1 (b2n (x.getLsbD 0))) a (bit / 8 + 3) 1 (b2n (nbit (twGet k a (bit / 8 + 3) 1) 0))) with
        stack := twBool (if twGet k a (bit / 8) 2 ≠ s.shuttle.starts.toNat % 65536 ∧ nbit i.imm 0 = true then false else q)
          :: rest }) := by
  subst edge
  have first : (if twGet k a (bit / 8) 2 ≠ s.shuttle.starts.toNat % 65536 ∧ nbit i.imm 0 = true then false
        else f (x.getLsbD 0) (nbit (twGet k a (bit / 8 + 2) 1) 0)) =
      (if (twGet k a (bit / 8) 2 != s.shuttle.starts.toNat % 65536) && nbit i.imm 0 then false
        else f (x.getLsbD 0) (nbit (twGet k a (bit / 8 + 2) 1) 0)) := by
    simp only [Bool.and_eq_true, bne_iff_ne]
  rw [first]
  exact (twExec_block (vs := [x]) runs rfl stack addr aligned fits rfl (by simp; omega)).trans rfl

end Sys2Proof.Machine

open Sys2Proof Sys2Proof.Machine

/-- Settles O49: a jump by its condition, calls and returns by the calls open, END by them and the task's kind, EVT by its
condition and the last event of its number. -/
theorem twillFlow : Obligations.TwillFlow := by
  unfold Obligations.TwillFlow
  refine ⟨fun s t k i runs => congrArg Host.Outcome.next (State.twRun_gives runs),
    fun s t k i x rest runs stack true' => congrArg Host.Outcome.next (State.twRun_jump runs stack true'),
    fun s t k i x rest runs stack false' => congrArg Host.Outcome.next (State.twRun_no_jump runs stack (by rw [false']; decide)),
    fun s t k i x rest runs stack false' => congrArg Host.Outcome.next (State.twRun_jump runs stack false'),
    fun s t k i x rest runs stack true' => congrArg Host.Outcome.next (State.twRun_no_jump runs stack (by rw [true']; decide)),
    fun s t k i p runs room addr => congrArg Host.Outcome.next ((State.twRun_gives runs).trans ?_),
    fun s t k i pc p rest runs calls => congrArg Host.Outcome.next ((State.twRun_gives runs).trans ?_),
    fun s u t k i runs outside pick => (execTwEnd_commits runs outside).trans (next_if_neg (ne_true_of_eq_false pick)),
    fun s u t k i r runs outside beat committed =>
      (execTwEnd_commits runs outside).trans ((next_if_pos beat).trans (by rw [committed])),
    fun s t k i x rest runs stack false' => execTwEvt_false runs stack false',
    fun s t k i x rest runs stack true' free => execTwEvt_raises runs stack true' free,
    fun s t k i x rest u runs stack true' last within => execTwEvt_held runs stack true' last within,
    fun s t k i runs full => congrArg Host.Outcome.next (State.twRun_faults runs ?_ (by decide)),
    fun s t k i runs outside => congrArg Host.Outcome.next (State.twRun_faults runs ?_ (by decide)),
    fun s u t k i runs inside => ?_⟩
  · have room' : ¬ 16 ≤ k.calls.length := by omega
    have addr' : twAddr { k with pc := i.next } (i.imm % 16) i.ext2 = some p := addr
    simp only [twLocal, room', if_false, addr']
    rfl
  · simp only [twLocal, calls]
    rfl
  · simp only [twLocal, full, if_true]
  · simp only [twLocal, outside]
  · obtain ⟨on, task, ins, op, allowed⟩ := runs
    simp [exec, execTwEnd, State.at_shuttle', on, task, ins, op, allowed, inside]

/-- Settles O50: each block by what its body gives of its fields and its inputs. -/
theorem twillBlocks : Obligations.TwillBlocks := by
  unfold Obligations.TwillBlocks
  refine ⟨fun s t k i x y rest a bit st et q runs stack room addr aligned fits hst het hq => ?_,
    fun s t k i x y rest a bit st et q runs stack room addr aligned fits hst het hq => ?_,
    fun s t k i x y rest a bit st et q runs stack room addr aligned fits hst het hq => ?_,
    fun s t k i x y z rest a bit n runs stack room addr aligned fits hn => ?_,
    fun s t k i x y z rest a bit n runs stack room addr aligned fits hn => ?_,
    fun s t k i x y z p q rest a bit n runs stack room addr aligned fits hn => ?_,
    fun s t k i x rest a bit runs stack room addr aligned fits => ?_,
    fun s t k i x rest a bit runs stack room addr aligned fits => ?_,
    fun s t k i x y rest a bit runs stack room addr aligned fits => ?_,
    fun s t k i x y rest a bit runs stack room addr aligned fits => ?_⟩
  · subst hst het hq
    exact (twExec_block (vs := [x, y]) runs rfl stack addr aligned fits rfl (by simp; omega)).trans rfl
  · subst hst het hq
    exact (twExec_block (vs := [x, y]) runs rfl stack addr aligned fits rfl (by simp; omega)).trans rfl
  · subst hst het hq
    exact (twExec_block (vs := [x, y]) runs rfl stack addr aligned fits rfl (by simp; omega)).trans rfl
  · subst hn
    exact (twExec_block (vs := [x, y, z]) runs rfl stack addr aligned fits rfl (by simp; omega)).trans rfl
  · subst hn
    exact (twExec_block (vs := [x, y, z]) runs rfl stack addr aligned fits rfl (by simp; omega)).trans rfl
  · subst hn
    exact (twExec_block (vs := [x, y, z, p, q]) runs rfl stack addr aligned fits rfl (by simp; omega)).trans rfl
  · exact exec_twEdge runs stack room addr aligned fits rfl
  · exact exec_twEdge runs stack room addr aligned fits rfl
  · exact (twExec_block (vs := [x, y]) runs rfl stack addr aligned fits rfl (by simp; omega)).trans rfl
  · exact (twExec_block (vs := [x, y]) runs rfl stack addr aligned fits rfl (by simp; omega)).trans rfl

end

section

/-! Releases, limits and switches of the Shuttle (R482 to R492). -/

namespace Sys2Proof.Machine

/-- The inputs of a release change the input area alone. -/
theorem State.twInputs_shuttle (s : State) : ∃ inp, s.twInputs =
    { s with shuttle := { s.shuttle with com := { s.shuttle.com with inp := inp } } } := by
  unfold State.twInputs
  generalize s.shuttle.prog.inMaps = maps
  induction maps generalizing s with
  | nil => exact ⟨_, rfl⟩
  | cons m maps ih =>
    rw [List.foldl_cons]
    obtain ⟨inp, rest⟩ := ih { s with shuttle := { s.shuttle with com := { s.shuttle.com with
      inp := (match m.st with
        | some o => memWriteBytes (memWriteBytes s.shuttle.com.inp m.ofs (s.twSourceBytes m.src).1) o
            [byteOf (s.twSourceBytes m.src).2]
        | none => memWriteBytes s.shuttle.com.inp m.ofs (s.twSourceBytes m.src).1) } } }
    exact ⟨inp, rest⟩

/-- The task k of r in the pick p becomes k' by a PICK release (R484). -/
def pickReleased (p : Nat) (r : TwTask) (k k' : Task) : Prop :=
  (¬ (r.beat = false ∧ p % r.m = r.phase ∧ k.st ≠ 2) → k' = k) ∧
  ((r.beat = false ∧ p % r.m = r.phase ∧ k.st ≠ 2) → 0 < k.owed → k' = { k with owed := k.owed - 1, lost := sat16 k.lost }) ∧
  ((r.beat = false ∧ p % r.m = r.phase ∧ k.st ≠ 2) → k.owed = 0 → k.st = 1 → k' = k) ∧
  ((r.beat = false ∧ p % r.m = r.phase ∧ k.st ≠ 2) → k.owed = 0 → k.st ≠ 1 →
    k'.st = 1 ∧ k'.pick = p ∧ k'.pc = r.entry ∧ k'.stack = [] ∧ k'.calls = [] ∧ k'.dirty = [] ∧ k'.ran = true ∧
      k'.first = !k.ran)

/-- What a release makes of one task, at its place. -/
def State.pickRelease (a : State) (t : Nat) : State :=
  let r := a.shuttle.prog.tasks.getD t { entry := 0 }
  let k := a.shuttle.tasks.getD t {}
  if r.beat ∨ a.warp.pickCount % r.m ≠ r.phase ∨ k.st = 2 then a
  else if 0 < k.owed then
    { a with shuttle := { a.shuttle with tasks := a.shuttle.tasks.set t { k with owed := k.owed - 1, lost := sat16 k.lost } } }
  else if k.st = 1 then a
  else a.twRelease t

theorem set_getD_same {α : Type} (l : List α) (t : Nat) (d : α) : l.set t (l.getD t d) = l := by
  by_cases h : t < l.length
  · simp [List.getD, h]
  · exact List.set_eq_of_length_le (Nat.not_lt.mp h)

/-- A released task starts at its entry, with nothing on its stack and nothing written. -/
theorem State.twRelease_task (a : State) (t : Nat) : ∃ com k',
    a.twRelease t = { a with shuttle := { a.shuttle with com := com, tasks := a.shuttle.tasks.set t k' } } ∧
    k'.st = 1 ∧ k'.pick = a.warp.pickCount ∧ k'.pc = (a.shuttle.prog.tasks.getD t { entry := 0 }).entry ∧ k'.stack = [] ∧
    k'.calls = [] ∧ k'.dirty = [] ∧ k'.ran = true ∧ k'.first = !(a.shuttle.tasks.getD t {}).ran := by
  obtain ⟨inp, inputs⟩ := a.twInputs_shuttle
  unfold State.twRelease
  rw [inputs]
  exact ⟨_, _, rfl, rfl, rfl, rfl, rfl, rfl, rfl, rfl, rfl⟩

/-- A release sets its task and may change the areas; nothing else. -/
theorem State.pickRelease_task (a : State) (t : Nat) : ∃ com k',
    a.pickRelease t = { a with shuttle := { a.shuttle with com := com, tasks := a.shuttle.tasks.set t k' } } ∧
    pickReleased a.warp.pickCount (a.shuttle.prog.tasks.getD t { entry := 0 }) (a.shuttle.tasks.getD t {}) k' := by
  have same : a = { a with shuttle := { a.shuttle with
      com := a.shuttle.com, tasks := a.shuttle.tasks.set t (a.shuttle.tasks.getD t {}) } } := by rw [set_getD_same]
  unfold State.pickRelease pickReleased
  extract_lets r k
  by_cases due : r.beat = true ∨ a.warp.pickCount % r.m ≠ r.phase ∨ k.st = 2
  · have idle : ¬ (r.beat = false ∧ a.warp.pickCount % r.m = r.phase ∧ k.st ≠ 2) := by
      rintro ⟨pick, phase, runs⟩
      rcases due with due | due | due
      · rw [pick] at due
        cases due
      · exact due phase
      · exact runs due
    rw [if_pos due]
    exact ⟨_, k, same, fun _ => rfl, fun h => absurd h idle, fun h => absurd h idle, fun h => absurd h idle⟩
  · rw [if_neg due]
    have due' : r.beat = false ∧ a.warp.pickCount % r.m = r.phase ∧ k.st ≠ 2 := by
      simpa only [not_or, Bool.not_eq_true, Classical.not_not] using due
    by_cases owes : 0 < k.owed
    · rw [if_pos owes]
      exact ⟨_, _, rfl, fun h => absurd due' h, fun _ _ => rfl, fun _ h => absurd h (Nat.pos_iff_ne_zero.mp owes),
        fun _ h => absurd h (Nat.pos_iff_ne_zero.mp owes)⟩
    · rw [if_neg owes]
      by_cases running : k.st = 1
      · rw [if_pos running]
        exact ⟨_, k, same, fun _ => rfl, fun _ h => absurd h owes, fun _ _ _ => rfl, fun _ _ h => absurd running h⟩
      · rw [if_neg running]
        obtain ⟨com, k', release, released⟩ := a.twRelease_task t
        exact ⟨com, k', release, fun h => absurd due' h, fun _ h => absurd h owes, fun _ _ h => absurd h running,
          fun _ _ _ => released⟩

/-- The releases of the first n tasks. -/
theorem pickRelease_range (s : State) (n : Nat) : ∃ com tasks,
    (List.range n).foldl State.pickRelease s = { s with shuttle := { s.shuttle with com := com, tasks := tasks } } ∧
    tasks.length = s.shuttle.tasks.length ∧ (∀ i, n ≤ i → tasks[i]? = s.shuttle.tasks[i]?) ∧
    ∀ (i : Nat) (r : TwTask) (k : Task), i < n → s.shuttle.prog.tasks[i]? = some r → s.shuttle.tasks[i]? = some k →
      ∃ k', tasks[i]? = some k' ∧ pickReleased s.warp.pickCount r k k' := by
  induction n with
  | zero => exact ⟨_, _, rfl, rfl, fun _ _ => rfl, fun i r k h => absurd h (Nat.not_lt_zero i)⟩
  | succ n ih =>
    obtain ⟨com, tasks, before, len, later, earlier⟩ := ih
    obtain ⟨com', k', step, released⟩ :=
      State.pickRelease_task { s with shuttle := { s.shuttle with com := com, tasks := tasks } } n
    refine ⟨com', tasks.set n k', ?_, by simp [len], fun i h => ?_, fun i r k h prog task => ?_⟩
    · rw [List.range_succ, List.foldl_append, before]
      exact step
    · rw [List.getElem?_set_ne (by omega)]
      exact later i (by omega)
    · by_cases last : i = n
      · subst last
        have here : tasks[i]? = some k := (later i (Nat.le_refl i)).trans task
        refine ⟨k', ?_, ?_⟩
        · rw [List.getElem?_set_self (List.getElem?_eq_some_iff.mp here).1]
        · simpa [List.getD, prog, here] using released
      · obtain ⟨k1, at', done⟩ := earlier i r k (by omega) prog task
        exact ⟨k1, by rw [List.getElem?_set_ne (by omega)]; exact at', done⟩

end Sys2Proof.Machine

open Sys2Proof Sys2Proof.Machine

/-- Settles O52: a release task by task, a limit by its comparison, the SYNC image by its capture, an online change by its
agreed pick and the tasks that run. -/
theorem shuttleSteps : Obligations.ShuttleSteps := by
  unfold Obligations.ShuttleSteps
  refine ⟨fun s on picks started => ?_, fun s idle => ?_,
    fun s b j last holds run task on idle started => ?_, fun s b j last holds run task waits => ?_,
    fun s b last holds run none' => ?_, fun s free => ?_,
    fun s on running => ?_, fun s on running => ?_, fun s tick none' => ?_,
    fun s i u k r task prog => ?_, fun s i u none' => ?_, fun s u b j task last => ?_, fun s u none' => ?_,
    fun s idle => ?_, fun s l lead shadow on none' => ?_, fun s l c lead diff image shadow on capture hlead hdiff => ?_,
    fun s p i drop w c agreed change from' within stopped => ?_, fun s p drop c agreed change from' within stopped => ?_,
    fun s p drop o agreed waits => ?_, fun s none' => ?_,
    fun s p i drop w agreed late => ?_, fun s p drop agreed late => ?_, fun s early => ?_⟩
  · obtain ⟨com, tasks, fold, len, -, released⟩ := pickRelease_range (s.at 400000) s.shuttle.prog.tasks.length
    exact ⟨_, (next_if_pos (by simp [on, picks, started])).trans (congrArg Host.Outcome.next fold), rfl, len,
      fun i r k prog task => released i r k (List.getElem?_eq_some_iff.mp prog).1 prog task⟩
  · refine next_if_neg ?_
    rcases idle with idle | idle | idle <;> simp [idle]
  · simp only [exec, execBeatTaskRelease, last, holds, run, task, on, idle, started, Bool.not_true, Bool.or_false, Bool.and_true,
      beq_self_eq_true, decide_true, Bool.false_eq_true, if_false, if_true]
  · have waits' : (s.shuttle.run && (s.shuttle.tasks.getD j {}).st == 0 && decide (s.shuttle.startPick < s.warp.pickCount)) =
        false := by
      rcases waits with waits | waits | waits
      · simp only [waits, Bool.false_and]
      · simp only [beq_eq_false_iff_ne.mpr waits, Bool.and_false, Bool.false_and]
      · simp only [decide_eq_false (Nat.not_lt.mpr waits), Bool.and_false]
    simp only [exec, execBeatTaskRelease, last, holds, run, task, waits', Bool.not_true, Bool.or_false, Bool.false_eq_true,
      if_false]
  · simp only [exec, execBeatTaskRelease, last, holds, run, none', Bool.not_true, Bool.or_false, Bool.false_eq_true, if_false]
  · cases last : s.warp.last with
    | none => simp only [exec, execBeatTaskRelease, last]
    | some b =>
      have free' : (!b.holders.contains .beatTask || !s.warp.run) = true := by
        rcases free b last with free | free
        · rw [free]; rfl
        · rw [free]; exact Bool.or_true _
      simp only [exec, execBeatTaskRelease, last, free', if_true]
  · have running' : (s.shuttle.tasks.zip s.shuttle.prog.tasks).any pickRuns = true := running
    simp only [exec, execConeShuttleOverrun, on, running', Bool.and_self, Bool.not_true, Bool.false_eq_true, if_false]
  · have running' : (s.shuttle.tasks.zip s.shuttle.prog.tasks).any pickRuns = true := running
    refine (next_if_neg (by simp only [on, running', Bool.and_self, Bool.not_true, Bool.false_eq_true, not_false_iff])).trans
      ((next_if_pos rfl).trans ?_)
    refine congrArg (fun l => Host.Outcome.next { s with shuttle := { s.shuttle with tasks := l } }) ?_
    refine List.map_congr_left (fun e _ => ?_)
    simp [pickRuns, and_assoc]
  · refine next_if_pos ?_
    rcases none' with none' | none'
    · simp [none']
    · have none'' : (s.shuttle.tasks.zip s.shuttle.prog.tasks).any pickRuns = false := none'
      simp only [none'', Bool.and_false, Bool.not_false]
  · simp only [exec, execTaskWatchdog, State.at_shuttle', task, prog]
    congr 1
    simp
  · rcases none' with none' | none'
    · simp only [exec, execTaskWatchdog, State.at_shuttle', none']
    · simp only [exec, execTaskWatchdog, State.at_shuttle', none']
      cases s.shuttle.tasks[i]? <;> rfl
  · have task' : (List.range (s.at u).shuttle.prog.tasks.length).find?
        (fun j => ((s.at u).shuttle.prog.tasks.getD j { entry := 0 }).beat) = some j := task
    have last' : (s.at u).warp.last = some b := last
    simp only [exec, execBeatTaskLimit, task', last']
    rfl
  · rcases none' with none' | none'
    · have none'' : (List.range (s.at u).shuttle.prog.tasks.length).find?
          (fun j => ((s.at u).shuttle.prog.tasks.getD j { entry := 0 }).beat) = none := none'
      simp only [exec, execBeatTaskLimit, none'']
    · have none'' : (s.at u).warp.last = none := none'
      simp only [exec, execBeatTaskLimit, none'']
      cases (List.range (s.at u).shuttle.prog.tasks.length).find?
        (fun j => ((s.at u).shuttle.prog.tasks.getD j { entry := 0 }).beat) <;> rfl
  · cases lead : s.shuttle.leadSync with
    | none => simp only [exec, execSyncImageApply, lead]
    | some l =>
      have idle' : s.sys.role ≠ .shadow ∨ (!s.shuttle.run) = true := by
        rcases idle with idle | idle | idle
        · rw [lead] at idle
          cases idle
        · exact .inl idle
        · exact .inr (by rw [idle]; rfl)
      simp only [exec, execSyncImageApply, lead, idle', if_true]
  · simp only [exec, execSyncImageApply, lead, shadow, on, none']
    rfl
  · have differs : (fun e => (syncValue c e).any (fun a => (lead e).any (fun b => a != b))) =
        (fun e => match syncValue c e, lead e with
          | some a, some b => a != b
          | _, _ => false) := by
      funext e
      cases syncValue c e <;> cases lead e <;> rfl
    rw [differs] at hdiff
    subst hlead hdiff
    simp only [exec, execSyncImageApply, image, shadow, on, capture, ne_eq, not_true_eq_false, Bool.not_true,
      Bool.false_eq_true, or_self, if_false] <;> rfl
  · have due : (decide (p ≤ s.warp.pickCount) && decide (s.warp.pickCount ≤ p + 100) &&
        s.shuttle.tasks.all (fun k => k.st != 1)) = true := by simp only [from', within, stopped, decide_true, Bool.and_self]
    simp only [exec, execOnlineChangeSwitch, agreed, change, due, if_true]
    rfl
  · have due : (decide (p ≤ s.warp.pickCount) && decide (s.warp.pickCount ≤ p + 100) &&
        s.shuttle.tasks.all (fun k => k.st != 1)) = true := by simp only [from', within, stopped, decide_true, Bool.and_self]
    simp only [exec, execOnlineChangeSwitch, agreed, change, due, if_true]
    rfl
  · cases change : s.shuttle.change with
    | none => simp only [exec, execOnlineChangeSwitch, agreed, change]
    | some c =>
      have waits' : (decide (p ≤ s.warp.pickCount) && decide (s.warp.pickCount ≤ p + 100) &&
          s.shuttle.tasks.all (fun k => k.st != 1)) = false := by
        rcases waits with waits | waits | waits | waits
        · rw [change] at waits
          cases waits
        · simp [Nat.not_le.mpr waits]
        · simp [Nat.not_le.mpr waits]
        · simpa [or_assoc] using fun _ _ => waits
      simp only [exec, execOnlineChangeSwitch, agreed, change, waits', Bool.false_eq_true, if_false]
  · simp only [exec, execOnlineChangeSwitch, none']
  · simp only [exec, execOnlineChangeAbandon, agreed, late, if_true]
  · simp only [exec, execOnlineChangeAbandon, agreed, late, if_true]
  · cases agreed : s.shuttle.agreed with
    | none => simp only [exec, execOnlineChangeAbandon, agreed]
    | some a =>
      obtain ⟨p, d, o⟩ := a
      have early' : ¬ p + 100 < s.warp.pickCount := Nat.not_lt.mpr (early p d o agreed)
      simp only [exec, execOnlineChangeAbandon, agreed, early', if_false]

end

section

/-! Command sessions: their opening and end, unlock, lockout and packets that are turned away (R523 to R538). -/

namespace Sys2Proof.Machine

/-! ### the handshake -/

/-- A hello that admission, the pick's new entries or the table leave no place for. -/
theorem State.helloAdmit_defers {s : State}
    (defers : s.net.admitOpen = false ∨ 32 ≤ s.net.createdNow ∨ (s.cmdEntries < 16 ∧ s.freeEntry = none)) :
    s.helloAdmit = { s with net := s.net.deferOne } := by
  unfold State.helloAdmit
  by_cases shut : (!s.net.admitOpen || decide (32 ≤ s.net.createdNow)) = true
  · exact if_pos shut
  · rw [if_neg shut]
    simp only [Bool.or_eq_true, Bool.not_eq_true', decide_eq_true_eq, not_or] at shut
    obtain ⟨few, none'⟩ := (defers.resolve_left shut.1).resolve_left shut.2
    rw [if_neg (Nat.not_le.mpr few), none']


/-- A handshake that completes for an entry of the session table that is ADMITTED. -/
theorem execHandshake_admitted {s : State} {i : Nat} {hs : Handshake} {leaf : U64} {chain : List U64} {anchor : U64}
    {certOk periodOk : Bool} {u : Ns} {e : Session} (entry : s.session i = some e) (kind : e.kind = 0x0A)
    (admitted : e.st = .admitted) :
    exec (.dtlsHandshakeComplete i hs leaf chain anchor certOk periodOk u) s = .next (
      let q := s.at u
      let x : CmdSession := { idx := i, level := 2, actor := leaf, lastRecord := q.otime }
      if !handshakeOk hs then q.handshakeFails i
      else if s.sec.unprov then
        if s.sys.st == .standby && s.sys.svcEn && s.cmd.sessions.isEmpty then q.sessionOpens i { x with unprov := true }
        else q.handshakeFails i
      else match q.chainLevel leaf chain anchor certOk periodOk with
        | some l => q.sessionOpens i { x with level := min l 2, grantsSafety := decide (l = 3) }
        | none => q.handshakeFails i) := by
  have entry' : (s.at u).session i = some e := entry
  have open' : ¬ (e.kind ≠ 0x0A ∨ e.st ≠ .admitted) := by simp [kind, admitted]
  simp only [exec, execDtlsHandshakeComplete, entry', open', if_false]
  by_cases right : (!handshakeOk hs) = true
  · simp only [right, if_true]
  · by_cases none' : s.sec.unprov = true
    · have none'' : (s.at u).sec.unprov = true := none'
      simp only [right, none', none'', if_false, if_true, Bool.false_eq_true]
      rfl
    · have some' : ¬ (s.at u).sec.unprov = true := none'
      simp only [right, none', some']
      cases (s.at u).chainLevel leaf chain anchor certOk periodOk <;> rfl

/-- The opening of a session that has an entry. -/
theorem State.sessionOpens_entry {s : State} {i : Nat} {e : Session} (entry : s.session i = some e) (x : CmdSession) :
    s.sessionOpens i x =
      let t := State.raise { s.setSession i { e with st := .live, lastValid := some s.now, changes := sat16 e.changes } with
        cmd := { s.cmd with sessions := s.cmd.sessions ++ [x] } } 0x14050001#32
      if x.unprov then t.raise 0x14270008#32 else t := by
  simp only [State.sessionOpens, entry]
  rfl

/-! ### packets that are turned away -/

theorem cmdSpec_op (op : Nat) : (cmdSpec op).op = op := by
  unfold cmdSpec
  cases found : cmdTable.find? (fun c => c.op == op) with
  | none => rfl
  | some c =>
    have same : (c.op == op) = true := List.find?_some (p := fun c : CmdSpec => c.op == op) found
    exact eq_of_beq same

/-- No packet is evaluated for a session that is not open, or while no command is served. -/
theorem State.command_unheard {s : State} {h : Hdr} {c : CmdSpec} {bad : Option Nat} {perm : CmdSession → Option Nat}
    {act : State → CmdSession → Judged} (unheard : s.cmdSess h.sess = none ∨ s.serves = false) :
    s.command h c bad perm act = s := by
  unfold State.command
  cases sess : s.cmdSess h.sess with
  | none => rfl
  | some x =>
    rcases unheard with none' | off
    · rw [sess] at none'
      cases none'
    · simp [off]

/-- A repeated packet sends the stored reply again, if there is one. -/
theorem State.command_again {s : State} {h : Hdr} {c : CmdSpec} {x : CmdSession} {bad : Option Nat}
    {perm : CmdSession → Option Nat} {act : State → CmdSession → Judged} {r : List Byte} (sess : s.cmdSess h.sess = some x)
    (serves : s.serves = true) (last : x.last = some (h.cseq, r)) :
    s.command h c bad perm act = if r = [] then s.heard h.sess x else (s.heard h.sess x).emit (.reply x.idx r) := by
  by_cases kept : r = []
  · simp [State.command, sess, serves, last, kept, State.heard]
  · rw [if_neg kept]
    exact State.command_repeated sess serves last kept

/-- A new packet that fails a check of its own: answered by that status, or turned away while the session waits. -/
theorem State.command_new_bad {s : State} {h : Hdr} {c : CmdSpec} {x : CmdSession} {e : Nat} {perm : CmdSession → Option Nat}
    {act : State → CmdSession → Judged} (sess : s.cmdSess h.sess = some x) (serves : s.serves = true)
    (newer : ∀ q r, x.last = some (q, r) → q ≠ h.cseq ∧ seqNewer q h.cseq = false) :
    s.command h c (some e) perm act =
      if x.waiting.isSome then (s.heard h.sess x).turnAway x c.op h.cseq (if 4 ≤ e / 4096 then 0x4001 else e)
      else (s.heard h.sess x).finish h.sess c.op h.cseq e (be32 0) := by
  cases last : x.last with
  | none =>
    by_cases busy : x.waiting.isSome = true <;> by_cases high : 4 ≤ e / 4096 <;>
      simp [State.command, sess, serves, last, State.judge, busy, high, State.heard, State.turnAway]
  | some p =>
    obtain ⟨q, r⟩ := p
    obtain ⟨other, new⟩ := newer q r last
    by_cases busy : x.waiting.isSome = true <;> by_cases high : 4 ≤ e / 4096 <;>
      simp [State.command, sess, serves, last, other, new, State.judge, busy, high, State.heard, State.turnAway]

/-- A packet of at least a header that fails the packet checks. -/
theorem execUnknownOpcode_bad {s : State} {i : Nat} {b : List Byte} {e op : Nat} {cseq : Word} (long : 12 ≤ b.length)
    (bad : packetBad b = some e) (hop : op = ofBe ((b.drop 2).take 2)) (hcseq : cseq = BitVec.ofNat 32 (ofBe ((b.drop 4).take 4))) :
    exec (.unknownOpcode i b) s = .next (s.command { sess := i, cseq := cseq }
      { cmdSpec op with level := 0 } (some e) (fun _ => none) (fun t _ => .done t [])) := by
  have long' : ¬ b.length < 12 := Nat.not_lt.mpr long
  subst hop hcseq
  simp only [exec, execUnknownOpcode, long', if_false, bad]

/-- The end of a session, by its own parts. -/
theorem State.closeSession_eq (s : State) (i : Nat) : s.closeSession i =
    let r : State := { s with
      cmd := { s.cmd with sessions := s.cmd.sessions.filter (fun x => x.idx != i) }
      sess := s.sess.filter (fun p => !(p.1 == i && p.2.kind == 0x0A))
      sec := { s.sec with bulk := s.sec.bulk.filter (fun b => b.sess != i) } }
    if (s.cmdSess i).isSome then r.raise 0x14050002#32 else r := by
  have drops : (match s.sec.bulk with
      | some b => if b.sess = i then none else some b
      | none => none) = s.sec.bulk.filter (fun b => b.sess != i) := by
    cases s.sec.bulk with
    | none => rfl
    | some b => by_cases own : b.sess = i <;> simp [Option.filter, own]
  rw [← drops]
  rfl

end Sys2Proof.Machine

open Sys2Proof Sys2Proof.Machine

/-- Settles O53: a hello by the network's counts, a handshake by its entry and chain, a time limit by its comparison, a packet by
its length, its checks and its CSEQ. -/
theorem commandSessionSteps : Obligations.CommandSessionSteps := by
  unfold Obligations.CommandSessionSteps
  refine ⟨fun s p cookie u q hq early => ?_, fun s p cookie u q hq ready ring => ?_, fun s p u q hq ready bus => ?_,
    fun s p u q hq ready bus defers => ?_, fun s p u q hq ready bus open' room full => ?_,
    fun s p u q r i hq ready bus open' room few free hr => ?_,
    fun s i hs leaf chain anchor certOk periodOk u e l entry kind admitted right provisioned level => ?_,
    fun s i hs leaf chain anchor certOk periodOk u e entry kind admitted right unprov standby svcEn none' => ?_,
    fun s i hs leaf chain anchor certOk periodOk u e entry kind admitted fails => ?_,
    fun s i hs leaf chain anchor certOk periodOk u other => ?_,
    fun s i r hr => ?_, fun s i x sess => ?_, fun s i e sess entry => ?_, fun s i sess entry => ?_,
    fun s i u x sess until' => ?_, fun s i none' => ?_, fun s early => ?_, fun s u lock due => ?_, fun s b bulk => ?_,
    fun s none' => ?_, fun s r hr => ?_, fun s i b idle => ?_, fun s i b x short sess serves => ?_,
    fun s i b x e op cseq q r long bad hop hcseq sess serves last same => ?_,
    fun s i b x e op cseq q r long bad hop hcseq sess serves last other older => ?_,
    fun s i b x e op cseq long bad hop hcseq sess serves newer free => ?_,
    fun s i b x e op cseq long bad hop hcseq sess serves newer busy => ?_⟩
  · subst hq
    exact next_if_pos (by simp [early])
  · subst hq
    exact (next_if_neg (by simp [ready])).trans (next_if_pos ring)
  · subst hq
    refine (next_if_neg (by simp [ready])).trans ((next_if_neg (Nat.not_le.mpr bus)).trans 
      ((next_if_neg Bool.false_ne_true).trans ?_))
    by_cases full : (s.at u).netPick.net.retryNow < 32
    · exact (next_if_neg (Nat.not_le.mpr full)).trans (next_if_pos full).symm
    · exact (next_if_pos (Nat.not_lt.mp full)).trans (next_if_neg full).symm
  · subst hq
    refine (next_if_neg (by simp [ready])).trans ((next_if_neg (Nat.not_le.mpr bus)).trans ((next_if_pos rfl).trans ?_))
    exact congrArg Host.Outcome.next (State.helloAdmit_defers defers)
  · subst hq
    refine (next_if_neg (by simp [ready])).trans ((next_if_neg (Nat.not_le.mpr bus)).trans ((next_if_pos rfl).trans ?_))
    exact (next_if_neg (by simp [open', room])).trans (next_if_pos full)
  · subst hq hr
    refine (next_if_neg (by simp [ready])).trans ((next_if_neg (Nat.not_le.mpr bus)).trans ((next_if_pos rfl).trans ?_))
    refine (next_if_neg (by simp [open', room])).trans ((next_if_neg (Nat.not_le.mpr few)).trans ?_)
    rw [free]
  · refine (execHandshake_admitted entry kind admitted).trans ?_
    simp only [right, provisioned, level, Bool.not_true, Bool.false_eq_true, if_false]
    exact congrArg Host.Outcome.next (State.sessionOpens_entry (s := s.at u) entry _)
  · refine (execHandshake_admitted entry kind admitted).trans ?_
    have serviced : (s.sys.st == .standby && s.sys.svcEn && s.cmd.sessions.isEmpty) = true := by simp [standby, svcEn, none']
    simp only [right, unprov, serviced, Bool.not_true, Bool.false_eq_true, if_false, if_true]
    refine (congrArg Host.Outcome.next (State.sessionOpens_entry (s := s.at u) entry _)).trans ((next_if_pos rfl).trans ?_)
    have first' : (s.at u).cmd.sessions = [] := none'
    rw [first']
    rfl
  · refine (execHandshake_admitted entry kind admitted).trans ?_
    rcases fails with wrong | ⟨unprov, fails⟩ | ⟨provisioned, none'⟩
    · simp only [wrong, Bool.not_false, if_true]
      rfl
    · have alone : (s.sys.st == .standby && s.sys.svcEn && s.cmd.sessions.isEmpty) = false := by
        rcases fails with fails | fails | fails <;> simp [fails]
      simp only [unprov, alone, if_true, Bool.false_eq_true, if_false, ite_self]
      rfl
    · simp only [provisioned, none', Bool.false_eq_true, if_false, ite_self]
      rfl
  · cases entry : s.session i with
    | none =>
      have entry' : (s.at u).session i = none := entry
      simp only [exec, execDtlsHandshakeComplete, entry']
    | some e =>
      have entry' : (s.at u).session i = some e := entry
      simp only [exec, execDtlsHandshakeComplete, entry', other e entry, if_true]
  · subst hr
    exact congrArg Host.Outcome.next (s.closeSession_eq i)
  · simp only [exec, execCommandSessionTimeout, sess]
  · simp only [exec, execCommandSessionTimeout, sess, entry]
  · simp only [exec, execCommandSessionTimeout, sess, entry]
  · simp only [exec, execSafetyExpiry, sess, until']
  · cases sess : s.cmdSess i with
    | none => simp only [exec, execSafetyExpiry, sess]
    | some x => simp only [exec, execSafetyExpiry, sess, none' x sess]
  · cases lock : s.sec.lockUntil with
    | none => simp only [exec, execLockoutExpiry, lock]
    | some u => simp only [exec, execLockoutExpiry, lock, Nat.not_le.mpr (early u lock), if_false]
  · simp only [exec, execLockoutExpiry, lock, due, if_true]
  · simp only [exec, execBulkTimeout, bulk]
  · simp only [exec, execBulkTimeout, none']
  · subst hr
    rfl
  · by_cases short : b.length < 12
    · refine (if_pos short).trans ?_
      rcases idle with none' | off | ⟨long, -⟩
      · rw [none']
      · cases s.cmdSess i <;> simp [off]
      · omega
    · refine (if_neg short).trans ?_
      cases bad : packetBad b with
      | none => rfl
      | some e =>
        refine congrArg Host.Outcome.next (State.command_unheard ?_)
        rcases idle with none' | off | ⟨-, right⟩
        · exact .inl none'
        · exact .inr off
        · rw [bad] at right
          cases right
  · refine (if_pos short).trans ?_
    simp only [sess, serves, if_true]
    rfl
  · subst same
    rw [execUnknownOpcode_bad long bad hop hcseq, State.command_again sess serves last]
  · rw [execUnknownOpcode_bad long bad hop hcseq, State.command_old sess serves last other older, cmdSpec_op]
  · rw [execUnknownOpcode_bad long bad hop hcseq, State.command_new_bad sess serves newer, if_neg (by simp [free]), cmdSpec_op]
  · rw [execUnknownOpcode_bad long bad hop hcseq, State.command_new_bad sess serves newer,
      if_pos (Option.isSome_iff_ne_none.mpr busy), cmdSpec_op]

end

section

/-! Commands that pass the checks all commands share (R530 to R533), and of them those that only report or change the module
state. -/

namespace Sys2Proof.Machine

/-! ### the end of a command that the shared checks accept -/

/-- What a command judged by its own act alone is answered. -/
theorem State.simple_judged {s : State} {h : Hdr} {op : Nat} {x : CmdSession} {act : State → CmdSession → Judged} {j : Judged}
    (accepts : s.accepts h op x = true)
    (judged : act (s.heard h.sess x) { x with lastRecord := (s.at 750000).otime } = j) :
    s.simple h op act = (s.heard h.sess x).answered h op j := by
  rw [State.simple, State.command_accepted accepts (cmdSpec_op op) rfl rfl, judged]

/-- The command is done, with the state and the reply that its act gives. -/
theorem State.simple_done {s t : State} {h : Hdr} {op : Nat} {x : CmdSession} {r : State}
    {act : State → CmdSession → Judged} {l : List Byte} (accepts : s.accepts h op x = true) (heard : r = s.heard h.sess x)
    (judged : act r { x with lastRecord := (s.at 750000).otime } = .done t l) :
    s.simple h op act = t.finish h.sess op h.cseq 0 l := by
  subst heard
  exact State.simple_judged accepts judged

/-- The command is refused by its act. -/
theorem State.simple_refused {s : State} {h : Hdr} {op e d : Nat} {x : CmdSession} {r : State}
    {act : State → CmdSession → Judged} (accepts : s.accepts h op x = true) (heard : r = s.heard h.sess x)
    (judged : act r { x with lastRecord := (s.at 750000).otime } = .refuse e d) :
    s.simple h op act = r.finish h.sess op h.cseq e (be32 d) := by
  subst heard
  exact State.simple_judged accepts judged

/-- The same of a command with a check and a permission of its own that it passes. -/
theorem State.command_done {s t : State} {h : Hdr} {op : Nat} {x : CmdSession} {r : State} {bad : Option Nat}
    {perm : CmdSession → Option Nat} {act : State → CmdSession → Judged} {l : List Byte} (accepts : s.accepts h op x = true)
    (heard : r = s.heard h.sess x) (good : bad = none) (may : perm { x with lastRecord := (s.at 750000).otime } = none)
    (judged : act r { x with lastRecord := (s.at 750000).otime } = .done t l) :
    s.command h (cmdSpec op) bad perm act = t.finish h.sess op h.cseq 0 l := by
  subst heard
  rw [State.command_accepted accepts (cmdSpec_op op) good may, judged]
  rfl

theorem State.command_refused {s : State} {h : Hdr} {op e d : Nat} {x : CmdSession} {r : State} {bad : Option Nat}
    {perm : CmdSession → Option Nat} {act : State → CmdSession → Judged} (accepts : s.accepts h op x = true)
    (heard : r = s.heard h.sess x) (good : bad = none) (may : perm { x with lastRecord := (s.at 750000).otime } = none)
    (judged : act r { x with lastRecord := (s.at 750000).otime } = .refuse e d) :
    s.command h (cmdSpec op) bad perm act = r.finish h.sess op h.cseq e (be32 d) := by
  subst heard
  rw [State.command_accepted accepts (cmdSpec_op op) good may, judged]
  rfl

/-- A command that answers first and then acts. -/
theorem State.command_then {s t : State} {h : Hdr} {op : Nat} {x : CmdSession} {r : State} {bad : Option Nat}
    {perm : CmdSession → Option Nat} {act : State → CmdSession → Judged} {f : State → State}
    (accepts : s.accepts h op x = true)
    (heard : r = s.heard h.sess x) (good : bad = none) (may : perm { x with lastRecord := (s.at 750000).otime } = none)
    (judged : act r { x with lastRecord := (s.at 750000).otime } = .thenDo t f) :
    s.command h (cmdSpec op) bad perm act = f (t.finish h.sess op h.cseq 0 []) := by
  subst heard
  rw [State.command_accepted accepts (cmdSpec_op op) good may, judged]
  rfl

/-- One whose own check fails, and one whose permission is missing. -/
theorem State.command_fails {s : State} {h : Hdr} {op e : Nat} {x : CmdSession} {r : State} {bad : Option Nat}
    {perm : CmdSession → Option Nat} {act : State → CmdSession → Judged} (accepts : s.accepts h op x = true)
    (heard : r = s.heard h.sess x) (fails : bad = some e) :
    s.command h (cmdSpec op) bad perm act = r.finish h.sess op h.cseq e (be32 0) := by
  subst heard
  exact State.command_bad accepts (cmdSpec_op op) fails

theorem State.command_forbidden {s : State} {h : Hdr} {op e : Nat} {x : CmdSession} {r : State} {bad : Option Nat}
    {perm : CmdSession → Option Nat} {act : State → CmdSession → Judged} (accepts : s.accepts h op x = true)
    (heard : r = s.heard h.sess x) (good : bad = none)
    (lacks : perm { x with lastRecord := (s.at 750000).otime } = some e) :
    s.command h (cmdSpec op) bad perm act = r.finish h.sess op h.cseq e (be32 0) := by
  subst heard
  exact State.command_barred accepts (cmdSpec_op op) good lacks

/-! ### the reports of the Draft and of the ledger -/

theorem State.draftInfo_eq (s : State) : s.draftInfo =
    be64 ((s.draft.map (fun (d : Draft) => d.base.ident)).getD 0).toNat ++
      be64 ((s.draft.map (fun (d : Draft) => d.pair.print)).getD 0).toNat ++
      be64 s.shuttle.prog.progId.toNat ++ be64 s.shuttle.prog.retId.toNat ++ be64 s.sealNow.toNat ++
      be64 ((s.staged.map (fun (d : Draft) => d.base.ident)).getD 0).toNat ++
      be64 ((s.shuttle.change.map (fun (c : TwChange) => c.prog.progId)).getD 0).toNat := by
  cases draft : s.draft <;> cases staged : s.staged <;> cases change : s.shuttle.change <;>
    simp [State.draftInfo, draft, staged, change]

theorem State.ledgerInfo_some {s : State} {a b : List Byte} (oldest : s.sec.ledger.head? = some a)
    (newest : s.sec.ledger.getLast? = some b) :
    s.ledgerInfo = be32 (entrySeq a).toNat ++ be32 (entrySeq b).toNat ++ sha256 b := by
  simp only [State.ledgerInfo, oldest, newest]

theorem State.ledgerInfo_empty {s : State} (empty : s.sec.ledger = []) : s.ledgerInfo = zeros 40 := by
  simp [State.ledgerInfo, empty]

end Sys2Proof.Machine

open Sys2Proof Sys2Proof.Machine

/-- Settles O54: each report by the act of its command. -/
theorem commandsThatReport : Obligations.CommandsThatReport := by
  unfold Obligations.CommandsThatReport
  refine ⟨fun s h x r accepts heard => congrArg Host.Outcome.next (State.simple_done accepts heard rfl),
    fun s h x r accepts heard => congrArg Host.Outcome.next (State.simple_done accepts heard rfl),
    fun s h x r accepts heard => congrArg Host.Outcome.next (State.simple_done accepts heard rfl),
    fun s h x r ofs accepts heard => congrArg Host.Outcome.next (State.simple_done accepts heard rfl),
    fun s h x r accepts heard => congrArg Host.Outcome.next
      (State.simple_done accepts heard (congrArg (Judged.done r) r.draftInfo_eq)),
    fun s h x r a b accepts heard oldest newest => congrArg Host.Outcome.next
      (State.simple_done accepts heard (congrArg (Judged.done r) (State.ledgerInfo_some oldest newest))),
    fun s h x r accepts heard empty => congrArg Host.Outcome.next
      (State.simple_done accepts heard (congrArg (Judged.done r) (State.ledgerInfo_empty empty))),
    fun s h x r first count accepts heard out => congrArg Host.Outcome.next
      (State.command_fails accepts heard (if_neg (by omega))),
    fun s h x r first count accepts heard low high => congrArg Host.Outcome.next
      (State.command_done accepts heard (if_pos ⟨low, high⟩) rfl rfl),
    fun s h x r accepts heard => congrArg Host.Outcome.next (State.simple_done accepts heard rfl),
    fun s h x r accepts heard => congrArg Host.Outcome.next (State.simple_done accepts heard rfl),
    fun s h x r area rseq ofs fixes accepts heard low flushed => congrArg Host.Outcome.next
      (State.command_done accepts heard (if_pos (by simp [low, flushed])) rfl rfl),
    fun s h x r area rseq ofs fixes accepts heard out => congrArg Host.Outcome.next
      (State.command_fails accepts heard (if_neg ?_)),
    fun s h x r first accepts heard => congrArg Host.Outcome.next (State.simple_done accepts heard rfl),
    fun s h x r accepts heard => congrArg Host.Outcome.next (State.simple_done accepts heard rfl),
    fun s h x r accepts heard => congrArg Host.Outcome.next (State.simple_done accepts heard rfl)⟩
  rintro ⟨low, flushed⟩
  rcases out with out | out
  · omega
  · simp [out] at flushed

/-- Settles O55: each command by what its act judges of the Draft, the Kiln and the SAFE causes. -/
theorem commandsOfModuleState : Obligations.CommandsOfModuleState := by
  unfold Obligations.CommandsOfModuleState
  refine ⟨fun s h x r d accepts heard draft => congrArg Host.Outcome.next
      (State.simple_done accepts heard (if_pos (by rw [draft]; rfl))),
    fun s h x r accepts heard none' => congrArg Host.Outcome.next
      (State.simple_refused accepts heard (if_neg (by simp [none']))),
    fun s h x r accepts heard off => congrArg Host.Outcome.next
      (State.simple_refused accepts heard (if_neg (by rcases off with off | off <;> simp [off]))),
    fun s h x r accepts heard run on => congrArg Host.Outcome.next
      (State.simple_done accepts heard (if_pos (by simp [run, on]))),
    fun s h x r accepts heard => congrArg Host.Outcome.next (State.simple_done accepts heard rfl),
    fun s h x r d accepts heard clear run draft => congrArg Host.Outcome.next
      (State.simple_done accepts heard ((if_neg (by simp [clear, run])).trans (if_pos (by rw [draft]; rfl)))),
    fun s h x r accepts heard clear run none' => congrArg Host.Outcome.next
      (State.simple_done accepts heard ((if_neg (by simp [clear, run])).trans (if_neg (by simp [none'])))),
    fun s h x r accepts heard stays => congrArg Host.Outcome.next
      (State.simple_refused accepts heard (if_pos (by simpa using stays))),
    fun s h x r accepts heard => congrArg Host.Outcome.next (State.simple_done accepts heard rfl),
    fun s h x y r accepts heard hy svcEn => ?_,
    fun s h x r accepts heard off => congrArg Host.Outcome.next
      (State.command_forbidden accepts heard rfl (if_neg (by simp [off]))),
    fun s h x r kind accepts heard out => congrArg Host.Outcome.next
      (State.command_fails accepts heard (if_neg (Nat.not_le.mpr out))),
    fun s h x r kind accepts heard low => congrArg Host.Outcome.next
      (State.command_then (f := fun u => u.resetOrHold (if kind = 0 then 2 else 3)) accepts heard (if_pos low) rfl rfl)⟩
  subst hy
  exact congrArg Host.Outcome.next (State.command_done accepts heard rfl (if_pos svcEn) rfl)

end

section

/-! Commands of guidance, selection, slots, GNSS and of the Shuttle; the mirrored ones wait for the partner (R475). -/

namespace Sys2Proof.Machine

/-! ### commands that a partner mirrors -/

/-- The command waits for its reply. -/
theorem State.command_waits {s t : State} {h : Hdr} {op : Nat} {x : CmdSession} {r : State} {bad : Option Nat}
    {perm : CmdSession → Option Nat} {act : State → CmdSession → Judged} (accepts : s.accepts h op x = true)
    (heard : r = s.heard h.sess x) (good : bad = none) (may : perm { x with lastRecord := (s.at 750000).otime } = none)
    (judged : act r { x with lastRecord := (s.at 750000).otime } = .wait t) :
    s.command h (cmdSpec op) bad perm act = t.waits h op := by
  subst heard
  rw [State.command_accepted accepts (cmdSpec_op op) good may, judged]
  rfl

/-- What the partner is asked to mirror, and the command waits. -/
theorem State.mirrored_waits {s : State} (partner : s.mirrors = true) (h : Hdr) (op : Nat) (a : MirAct) (f : State → State) :
    s.mirrored h op a f = .wait { s with pair := { s.pair with
      mirNext := s.pair.mirNext + 1
      mirror := s.pair.mirror ++ [{ id := s.pair.mirNext, sess := h.sess, cseq := h.cseq, op := op, act := a }] } } :=
  if_pos partner

theorem State.mirrored_done {s : State} (alone : s.mirrors = false) (h : Hdr) (op : Nat) (a : MirAct) (f : State → State) :
    s.mirrored h op a f = .done (f s) [] := if_neg (ne_true_of_eq_false alone)

/-! ### guidance -/

theorem exec_asGuide {s : State} {i : Instr} {h : Hdr} {op : Nat} {flag : Bool} {c : GuideCmd}
    (known : asGuide s.guide i = some (h, op, flag, c)) : exec i s = .next (s.guideCommand h op flag c) := by
  cases i <;> cases known <;> rfl

/-- An online change that is not the staged one, not signed or not sound has one status. -/
theorem State.changeBad_some (s : State) {id : U64} (bad : s.changeBad id ≠ none) : s.changeBad id = some 0x1010 := by
  unfold State.changeBad at bad ⊢
  split at bad
  · split at bad
    · exact absurd rfl bad
    · next fails => exact if_neg fails
  · rfl

section
variable {s r : State} {h : Hdr} {op : Nat} {flag : Bool} {c : GuideCmd} {x : CmdSession}
  (accepts : s.accepts h op x = true) (heard : r = s.heard h.sess x)
include accepts heard

theorem State.guideCommand_out (out : flag = false ∨ s.guideRange c = false) :
    s.guideCommand h op flag c = r.finish h.sess op h.cseq 0x1004 (be32 0) :=
  State.command_fails accepts heard (if_neg (by rcases out with out | out <;> simp [out]))

theorem State.guideCommand_refused {e : Nat × Nat} (fits : flag = true) (range : s.guideRange c = true)
    (refused : r.guideRefusal op c = some e) :
    s.guideCommand h op flag c = r.finish h.sess op h.cseq e.1 (be32 e.2) :=
  State.command_refused accepts heard (if_pos (by simp [fits, range])) rfl (by simp only [refused])

theorem State.guideCommand_waits (fits : flag = true) (range : s.guideRange c = true) (free : r.guideRefusal op c = none)
    (partner : r.mirrors = true) :
    s.guideCommand h op flag c = State.waits { r with pair := { r.pair with
      mirNext := r.pair.mirNext + 1
      mirror := r.pair.mirror ++ [{ id := r.pair.mirNext, sess := h.sess, cseq := h.cseq, op := op, act := .guide c }] } }
      h op :=
  State.command_waits accepts heard (if_pos (by simp [fits, range])) rfl
    (by simp only [free, State.mirrored_waits partner])

theorem State.guideCommand_done {c' : GuideCmd} (hc : c = c') (fits : flag = true) (range : s.guideRange c = true)
    (free : r.guideRefusal op c = none) (alone : r.mirrors = false) :
    s.guideCommand h op flag c' =
      State.finish { r with guide := { r.guide with waiting := r.guide.waiting ++ [c] } } h.sess op h.cseq 0 [] := by
  subst hc
  exact State.command_done accepts heard (if_pos (by simp [fits, range])) rfl
    (by simp only [free, State.mirrored_done alone]; rfl)

/-! ### forces -/

theorem State.forceCommand_bad {o o' : ForceOp} {mram : Bool} {e : Nat} (ho : o = o') (bad : s.forceBad o = some e) :
    s.forceCommand h op o' mram = r.finish h.sess op h.cseq e (be32 0) := by
  subst ho
  exact State.command_fails accepts heard bad

theorem State.forceCommand_refused {o o' : ForceOp} {mram : Bool} {e : Nat × Nat} (ho : o = o') (good : s.forceBad o = none)
    (refused : r.forceRefusal op o = some e) :
    s.forceCommand h op o' mram = r.finish h.sess op h.cseq e.1 (be32 e.2) := by
  subst ho
  exact State.command_refused accepts heard good rfl (by simp only [refused])

theorem State.forceCommand_uncommitted {o o' : ForceOp} (ho : o = o') (good : s.forceBad o = none)
    (free : r.forceRefusal op o = none) :
    s.forceCommand h op o' false = r.finish h.sess op h.cseq 0x5002 (be32 0) := by
  subst ho
  exact State.command_refused accepts heard good rfl (by simp only [free, Bool.false_eq_true, if_false])

theorem State.forceCommand_waits {o o' : ForceOp} (ho : o = o') (good : s.forceBad o = none) (free : r.forceRefusal op o = none)
    (partner : r.mirrors = true) :
    s.forceCommand h op o' true = State.waits { r with pair := { r.pair with
      mirNext := r.pair.mirNext + 1
      mirror := r.pair.mirror ++ [{ id := r.pair.mirNext, sess := h.sess, cseq := h.cseq, op := op, act := .force o }] } }
      h op := by
  subst ho
  exact State.command_waits accepts heard good rfl (by simp only [free, State.mirrored_waits partner, if_true])

theorem State.forceCommand_done {o o' : ForceOp} {y : CmdSession} (hy : y = { x with lastRecord := (s.at 750000).otime })
    (ho : o = o') (good : s.forceBad o = none) (free : r.forceRefusal op o = none) (alone : r.mirrors = false) :
    s.forceCommand h op o' true = (r.applyForce (some y) o).finish h.sess op h.cseq 0 [] := by
  subst hy ho
  exact State.command_done accepts heard good rfl (by simp only [free, State.mirrored_done alone, if_true])

end

end Sys2Proof.Machine

open Sys2Proof Sys2Proof.Machine

/-- Settles O56: each command by its range, its refusal and the partner. -/
theorem commandsOfControl : Obligations.CommandsOfControl := by
  unfold Obligations.CommandsOfControl
  refine ⟨fun s h x r code trk c accepts heard hc range free alone => congrArg Host.Outcome.next
      (State.guideCommand_done accepts heard hc rfl range free alone),
    fun s h x r north east c accepts heard hc range free alone => congrArg Host.Outcome.next
      (State.guideCommand_done accepts heard hc rfl range free alone),
    fun s h x r north east c accepts heard hc range free alone => congrArg Host.Outcome.next
      (State.guideCommand_done accepts heard hc rfl range free alone),
    fun s h x r hdg dir c accepts heard hc range free alone => congrArg Host.Outcome.next
      (State.guideCommand_done accepts heard hc rfl range free alone),
    fun s h x r v a ω α c accepts heard hc range free alone => congrArg Host.Outcome.next
      (State.guideCommand_done accepts heard hc rfl range free alone),
    fun s h x r pts c accepts heard hc range free alone => congrArg Host.Outcome.next
      (State.guideCommand_done accepts heard hc rfl range free alone),
    fun s h x r north east rule c accepts heard hc range free alone => congrArg Host.Outcome.next
      (State.guideCommand_done accepts heard hc rfl range free alone),
    fun s h x r enable kw c accepts heard hc fits range free alone => congrArg Host.Outcome.next
      (State.guideCommand_done accepts heard hc (decide_eq_true fits) range free alone),
    fun s h x r t use c accepts heard hc fits range free alone => congrArg Host.Outcome.next
      (State.guideCommand_done accepts heard hc (decide_eq_true fits) range free alone),
    fun s h x r i op flag c known accepts heard out =>
      (exec_asGuide known).trans (congrArg Host.Outcome.next (State.guideCommand_out accepts heard out)),
    fun s h x r i op flag c known accepts heard fits range refused => ?_,
    fun s h x r i op flag c known accepts heard fits range free partner =>
      (exec_asGuide known).trans
        (congrArg Host.Outcome.next (State.guideCommand_waits accepts heard fits range free partner)),
    fun s h x r g sess accepts heard low member cand alone => congrArg Host.Outcome.next
      (State.command_done accepts heard (if_pos ⟨low, member⟩) rfl ?_),
    fun s h x r g i accepts heard low sel alone => congrArg Host.Outcome.next
      (State.command_done accepts heard (if_pos low) rfl ?_),
    fun s h x r g sess accepts heard out => congrArg Host.Outcome.next
      (State.command_fails accepts heard (if_neg ?_)),
    fun s h x r g sess accepts heard low member other => congrArg Host.Outcome.next
      (State.command_refused accepts heard (if_pos ⟨low, member⟩) rfl ?_),
    fun s h x r g sess accepts heard low member cand partner => congrArg Host.Outcome.next
      (State.command_waits accepts heard (if_pos ⟨low, member⟩) rfl ?_),
    fun s h x r g accepts heard high => congrArg Host.Outcome.next
      (State.command_fails accepts heard (if_neg (Nat.not_le.mpr high))),
    fun s h x r g accepts heard low none' => congrArg Host.Outcome.next
      (State.command_refused accepts heard (if_pos low) rfl ?_),
    fun s h x r g i accepts heard low sel partner => congrArg Host.Outcome.next
      (State.command_waits accepts heard (if_pos low) rfl ?_),
    fun s h x r k accepts heard out => congrArg Host.Outcome.next (State.command_fails accepts heard (if_neg ?_)),
    fun s h x r k accepts heard low some' stays => congrArg Host.Outcome.next
      (State.command_refused accepts heard (if_pos ⟨low, some'⟩) rfl (if_neg (ne_true_of_eq_false stays))),
    fun s h x r mask accepts heard out => congrArg Host.Outcome.next
      (State.command_fails accepts heard (if_neg (by omega))),
    fun s h x r k accepts heard low some' resettable => congrArg Host.Outcome.next
      (State.command_done accepts heard (if_pos ⟨low, some'⟩) rfl (if_pos resettable)),
    fun s h x r mask accepts heard low high run free => congrArg Host.Outcome.next
      (State.command_done accepts heard (if_pos ⟨low, high⟩) rfl (if_neg (by simp only [run, free]; decide))),
    fun s h x r mask accepts heard low high busy => congrArg Host.Outcome.next
      (State.command_refused accepts heard (if_pos ⟨low, high⟩) rfl (if_pos ?_))⟩
  · obtain ⟨e, some'⟩ := Option.ne_none_iff_exists'.mp refused
    rw [some']
    exact (exec_asGuide known).trans
      (congrArg Host.Outcome.next (State.guideCommand_refused accepts heard fits range some'))
  · simp only [State.selectRefusal, cand, if_true, State.mirrored_done alone]
    rfl
  · simp only [State.selectRefusal, sel, Option.isSome_some, if_true, State.mirrored_done alone]
    rfl
  · rintro ⟨low, member⟩
    rcases out with out | out
    · omega
    · simp [out] at member
  · simp only [State.selectRefusal, other, Bool.false_eq_true, if_false]
  · simp only [State.selectRefusal, cand, if_true, State.mirrored_waits partner]
  · simp only [State.selectRefusal, none', Option.isSome_none, Bool.false_eq_true, if_false]
  · simp only [State.selectRefusal, sel, Option.isSome_some, if_true, State.mirrored_waits partner]
  · rintro ⟨low, some'⟩
    rcases out with out | out
    · omega
    · simp [out] at some'
  · rcases busy with off | busy
    · simp [off]
    · simp only [busy, Bool.or_true]

/-- Settles O58: each command by its range, its refusal, the partner and the ledger. -/
theorem commandsOfTheShuttle : Obligations.CommandsOfTheShuttle := by
  unfold Obligations.CommandsOfTheShuttle
  refine ⟨fun s h x r accepts heard => congrArg Host.Outcome.next
      (State.command_done accepts heard (if_pos (by decide)) rfl rfl),
    fun s h x r accepts heard => congrArg Host.Outcome.next
      (State.command_done accepts heard (if_pos (by decide)) rfl rfl),
    fun s h x r accepts heard => congrArg Host.Outcome.next
      (State.command_done accepts heard (if_pos (by decide)) rfl rfl),
    fun s h x r a accepts heard out => congrArg Host.Outcome.next
      (State.command_fails accepts heard (if_neg (Nat.not_le.mpr out))),
    fun s h x r i accepts heard out => congrArg Host.Outcome.next
      (State.command_fails accepts heard (if_neg (Nat.not_lt.mpr out))),
    fun s h x r i accepts heard low halted partner => congrArg Host.Outcome.next
      (State.command_waits accepts heard (if_pos low) rfl ?_),
    fun s h x r i accepts heard low halted alone => congrArg Host.Outcome.next
      (State.command_done accepts heard (if_pos low) rfl ?_),
    fun s h x r i accepts heard low runs => congrArg Host.Outcome.next
      (State.command_refused accepts heard (if_pos low) rfl ?_),
    fun s h x r flags id accepts heard low good free alone => congrArg Host.Outcome.next
      (State.command_waits accepts heard ((if_pos low).trans good) rfl ?_),
    fun s h x r flags id accepts heard high => congrArg Host.Outcome.next
      (State.command_fails accepts heard (if_neg (Nat.not_le.mpr high))),
    fun s h x r flags id accepts heard low bad => congrArg Host.Outcome.next
      (State.command_fails accepts heard ((if_pos low).trans (s.changeBad_some bad))),
    fun s h x r flags id e accepts heard low good refused => congrArg Host.Outcome.next
      (State.command_refused accepts heard ((if_pos low).trans good) rfl ?_),
    fun s h x r flags id accepts heard low good free partner => congrArg Host.Outcome.next
      (State.command_waits accepts heard ((if_pos low).trans good) rfl ?_),
    fun s h x r accepts heard => congrArg Host.Outcome.next (State.simple_done accepts heard rfl),
    fun s h x y r o sym elem ty v accepts heard hy ho good free alone => congrArg Host.Outcome.next
      (State.forceCommand_done accepts heard hy ho good free alone),
    fun s h x r o sym elem ty v accepts heard ho good free partner => congrArg Host.Outcome.next
      (State.forceCommand_waits accepts heard ho good free partner),
    fun s h x r o sym elem ty v accepts heard ho good free => congrArg Host.Outcome.next
      (State.forceCommand_uncommitted accepts heard ho good free),
    fun s h x r o sym elem ty v mram e accepts heard ho bad => congrArg Host.Outcome.next
      (State.forceCommand_bad accepts heard ho bad),
    fun s h x r o sym elem ty v mram e accepts heard ho good refused => congrArg Host.Outcome.next
      (State.forceCommand_refused accepts heard ho good refused),
    fun s h x y r o sym elem accepts heard hy ho good free alone => congrArg Host.Outcome.next
      (State.forceCommand_done accepts heard hy ho good free alone),
    fun s h x r o sym elem accepts heard ho good free partner => congrArg Host.Outcome.next
      (State.forceCommand_waits accepts heard ho good free partner),
    fun s h x r o sym elem accepts heard ho good free => congrArg Host.Outcome.next
      (State.forceCommand_uncommitted accepts heard ho good free),
    fun s h x r o sym elem mram e accepts heard ho bad => congrArg Host.Outcome.next
      (State.forceCommand_bad accepts heard ho bad),
    fun s h x r o sym elem mram e accepts heard ho good refused => congrArg Host.Outcome.next
      (State.forceCommand_refused accepts heard ho good refused),
    fun s h x y r o accepts heard hy ho good free alone => congrArg Host.Outcome.next
      (State.forceCommand_done accepts heard hy ho good free alone),
    fun s h x r o accepts heard ho good free partner => congrArg Host.Outcome.next
      (State.forceCommand_waits accepts heard ho good free partner),
    fun s h x r o accepts heard ho good free => congrArg Host.Outcome.next
      (State.forceCommand_uncommitted accepts heard ho good free)⟩
  · simp only [State.taskRefusal, halted, if_true, State.mirrored_waits partner]
  · simp only [State.taskRefusal, halted, if_true, State.mirrored_done alone]
    rfl
  · simp only [State.taskRefusal, runs, if_false]
    rfl
  · simp only [free, alone, Bool.false_eq_true, if_false]
    rfl
  · simp only [refused]
  · simp only [free, partner, if_true, State.mirrored_waits partner]

end

section

/-! Commands of the Kiln, the pair and time, and of Drafts, firmware, anchors and the safety password. -/

namespace Sys2Proof.Machine

/-- The command is refused by its act, which leaves an effect all the same. -/
theorem State.command_refused_with {s t : State} {h : Hdr} {op e d : Nat} {x : CmdSession} {r : State} {bad : Option Nat}
    {perm : CmdSession → Option Nat} {act : State → CmdSession → Judged} (accepts : s.accepts h op x = true)
    (heard : r = s.heard h.sess x) (good : bad = none) (may : perm { x with lastRecord := (s.at 750000).otime } = none)
    (judged : act r { x with lastRecord := (s.at 750000).otime } = .refuseWith t e d) :
    s.command h (cmdSpec op) bad perm act = t.finish h.sess op h.cseq e (be32 d) := by
  subst heard
  rw [State.command_accepted accepts (cmdSpec_op op) good may, judged]
  rfl

/-- The operation is put in the mailbox queue, and the session that asked keeps the pick. -/
theorem State.kilnAsk_waits {r : State} {h : Hdr} {z : CmdSession} (sess : r.cmdSess h.sess = some z) (op kop : Nat)
    (arg : Word) :
    r.kilnAsk h op kop arg = .wait (State.setCmdSess { r with kport := { r.kport with
      reqs := r.kport.reqs ++ [{ op := kop, arg := arg, owner := some (h.sess, h.cseq, op), pick := r.warp.pickCount }] } }
      { z with kilnPick := some r.warp.pickCount }) := by
  have sess' : State.cmdSess { r with kport := { r.kport with
      reqs := r.kport.reqs ++ [{ op := kop, arg := arg, owner := some (h.sess, h.cseq, op), pick := r.warp.pickCount }] } }
      h.sess = some z := sess
  simp only [State.kilnAsk, sess']

/-! ### Drafts -/

section
variable {s r : State} {h : Hdr} {op : Nat} {x : CmdSession} {d : Draft} {img : Option Draft} {id : U64} {revert : Bool}
  (accepts : s.accepts h op x = true) (heard : r = s.heard h.sess x) (some' : img = some d) (good : s.draftBad img id = none)
include accepts heard

theorem State.draftCommand_bad {mram : Bool} {e : Nat} (bad : s.draftBad img id = some e) :
    s.draftCommand h op img id revert mram = r.finish h.sess op h.cseq e (be32 0) :=
  State.command_fails accepts heard bad

include good

theorem State.draftCommand_forbidden {mram : Bool} {y : CmdSession} {e : Nat}
    (hy : y = { x with lastRecord := (s.at 750000).otime }) (lacks : (s.at 750000).draftPerm img y = some e) :
    s.draftCommand h op img id revert mram = r.finish h.sess op h.cseq e (be32 0) := by
  subst hy
  exact State.command_forbidden accepts heard good lacks

include some'

theorem State.draftCommand_refused {mram : Bool} {y : CmdSession} {e : Word}
    (hy : y = { x with lastRecord := (s.at 750000).otime }) (may : (s.at 750000).draftPerm img y = none)
    (refused : draftRefusal d = some e) :
    s.draftCommand h op img id revert mram = (r.raise e).finish h.sess op h.cseq 0x2014 (be32 e.toNat) := by
  subst hy some'
  exact State.command_refused_with accepts heard good may (by simp only [refused])

theorem State.draftCommand_uncommitted {y : CmdSession} (hy : y = { x with lastRecord := (s.at 750000).otime })
    (may : (s.at 750000).draftPerm img y = none) (free : draftRefusal d = none) :
    s.draftCommand h op img id revert false = r.finish h.sess op h.cseq 0x5002 (be32 0) := by
  subst hy some'
  exact State.command_refused accepts heard good may (by simp only [free, Bool.false_eq_true, if_false])

theorem State.draftCommand_done {y : CmdSession} (hy : y = { x with lastRecord := (s.at 750000).otime })
    (may : (s.at 750000).draftPerm img y = none) (free : draftRefusal d = none) :
    s.draftCommand h op img id revert true = (r.activateDraft y d revert).finish h.sess op h.cseq 0 [] := by
  subst hy some'
  exact State.command_done accepts heard good may (by simp only [free, if_true])

end

/-! ### anchors -/

/-- The check of an anchor's operands that ANCHOR_ADD makes. -/
theorem anchor_operands {kind level : Nat} {certOk : Bool} (low : kind ≤ 3)
    (fits : (kind = 0 ∧ level ≤ 3) ∨ (kind ≠ 0 ∧ level = 0)) (cert : kind = 3 ∨ certOk = true) :
    kind ≤ 3 ∧ (if kind = 0 then level ≤ 3 else level = 0) ∧ (kind = 3 ∨ certOk = true) := by
  refine ⟨low, ?_, cert⟩
  rcases fits with ⟨client, fits⟩ | ⟨other, fits⟩
  · rw [if_pos client]
    exact fits
  · rw [if_neg other]
    exact fits

theorem anchor_operands_out {kind level : Nat} {certOk : Bool}
    (out : 3 < kind ∨ (kind = 0 ∧ 3 < level) ∨ (kind ≠ 0 ∧ level ≠ 0) ∨ (kind ≠ 3 ∧ certOk = false)) :
    ¬ (kind ≤ 3 ∧ (if kind = 0 then level ≤ 3 else level = 0) ∧ (kind = 3 ∨ certOk = true)) := by
  rintro ⟨low, fits, cert⟩
  rcases out with out | ⟨client, out⟩ | ⟨other, out⟩ | ⟨other, out⟩
  · omega
  · rw [if_pos client] at fits
    omega
  · rw [if_neg other] at fits
    exact out fits
  · simp [other, out] at cert

theorem anchor_permitted {safety holds : Bool} (may : safety = false ∨ holds = true) :
    (if safety && !holds then some 0x3001 else none : Option Nat) = none := by
  rcases may with may | may <;> simp [may]

/-- The permission that ANCHOR_REMOVE asks for. -/
theorem removal_permitted {kind : Nat} {named holds : Bool} (may : (kind ≠ 3 ∧ named = false) ∨ holds = true) :
    (if (kind == 3 || named) && !holds then some 0x3001 else none : Option Nat) = none := by
  rcases may with ⟨other, unnamed⟩ | may <;> simp [*]

end Sys2Proof.Machine

open Sys2Proof Sys2Proof.Machine

/-- Settles O59: each command by its operands and its condition. -/
theorem commandsOfKilnPairAndTime : Obligations.CommandsOfKilnPairAndTime := by
  unfold Obligations.CommandsOfKilnPairAndTime
  refine ⟨fun s h x r kind i z accepts heard range sess => congrArg Host.Outcome.next
      (State.command_waits accepts heard (if_pos range) rfl (State.kilnAsk_waits sess ..)),
    fun s h x r mask z accepts heard some' sess => congrArg Host.Outcome.next
      (State.command_waits accepts heard (if_neg some') rfl (State.kilnAsk_waits sess ..)),
    fun s h x r mask v z accepts heard some' sess => congrArg Host.Outcome.next
      (State.command_waits accepts heard (if_neg some') rfl (State.kilnAsk_waits sess ..)),
    fun s h x r kind i accepts heard out => congrArg Host.Outcome.next
      (State.command_fails accepts heard (if_neg (ne_true_of_eq_false out))),
    fun s h x r accepts heard => congrArg Host.Outcome.next (State.command_fails accepts heard (if_pos rfl)),
    fun s h x r v accepts heard => congrArg Host.Outcome.next (State.command_fails accepts heard (if_pos rfl)),
    fun s h x r accepts heard qualified => congrArg Host.Outcome.next
      (State.simple_done accepts heard (if_pos qualified)),
    fun s h x r accepts heard stale => congrArg Host.Outcome.next
      (State.simple_refused accepts heard (if_neg (ne_true_of_eq_false stale))),
    fun s h x r accepts heard => congrArg Host.Outcome.next (State.simple_done accepts heard rfl),
    fun s h x r accepts heard link print => congrArg Host.Outcome.next
      (State.simple_done accepts heard (if_pos (by simp [link, print]))),
    fun s h x r accepts heard stays => congrArg Host.Outcome.next
      (State.simple_refused accepts heard (if_neg (by rcases stays with stays | stays <;> simp [stays]))),
    fun s h x r i use accepts heard out => congrArg Host.Outcome.next
      (State.command_fails accepts heard (if_neg (by omega))),
    fun s h x r i accepts heard low unranked => congrArg Host.Outcome.next
      (State.command_refused accepts heard (if_pos ⟨low, Nat.le_refl 1⟩) rfl (if_pos ⟨rfl, by rw [unranked]; rfl⟩)),
    fun s h x r i q accepts heard low hq => ?_, fun s h x r i k q accepts heard low ranked hq => ?_,
    fun s h x r q accepts heard hq => ?_⟩
  · subst hq
    exact congrArg Host.Outcome.next
      (State.command_done accepts heard (if_pos ⟨low, by decide⟩) rfl (if_neg (fun h => absurd h.1 (by decide))))
  · subst hq
    exact congrArg Host.Outcome.next
      (State.command_done accepts heard (if_pos ⟨low, Nat.le_refl 1⟩) rfl (if_neg (by simp [ranked])))
  · subst hq
    exact congrArg Host.Outcome.next (State.simple_done accepts heard rfl)

/-- Settles O57: each command by its operands, its permission and the commit of its change. -/
theorem commandsOfSecurity : Obligations.CommandsOfSecurity := by
  unfold Obligations.CommandsOfSecurity
  refine ⟨fun s h x r accepts heard => congrArg Host.Outcome.next (State.simple_done accepts heard rfl),
    fun s h x y r flags t accepts heard hy low present ht => ?_,
    fun s h x r flags mram accepts heard high => congrArg Host.Outcome.next
      (State.command_fails accepts heard (if_pos high)),
    fun s h x r flags mram accepts heard low absent => congrArg Host.Outcome.next
      (State.command_fails accepts heard ((if_neg (Nat.not_lt.mpr low)).trans (if_neg (ne_true_of_eq_false absent)))),
    fun s h x r flags accepts heard low present => congrArg Host.Outcome.next
      (State.command_refused accepts heard ((if_neg (Nat.not_lt.mpr low)).trans (if_pos present)) rfl rfl),
    fun s h x y r kind level key certOk accepts heard hy low fits cert may deny room => ?_,
    fun s h x y r kind level key certOk accepts heard hy low fits cert may trust room => ?_,
    fun s h x r kind level key certOk mram accepts heard out => congrArg Host.Outcome.next
      (State.command_fails accepts heard (if_neg (anchor_operands_out out))),
    fun s h x y r kind level key certOk mram accepts heard hy low fits cert safety lacks => ?_,
    fun s h x y r kind level key certOk mram accepts heard hy low fits cert may full => ?_,
    fun s h x y r kind level key certOk accepts heard hy low fits cert may room => ?_,
    fun s h x y r kind key accepts heard hy entry may left => ?_,
    fun s h x r kind key mram accepts heard none' => congrArg Host.Outcome.next
      (State.command_fails accepts heard (if_neg (ne_true_of_eq_false none'))),
    fun s h x y r kind key mram accepts heard hy entry safety lacks => ?_,
    fun s h x y r kind key mram accepts heard hy entry may last => ?_,
    fun s h x y r kind key accepts heard hy entry may left => ?_,
    fun s h x y r img d id accepts heard hy himg some' good may free => ?_,
    fun s h x r id mram e accepts heard bad =>
      congrArg Host.Outcome.next (State.draftCommand_bad accepts heard bad),
    fun s h x y r img d id mram e accepts heard hy himg some' good lacks => ?_,
    fun s h x y r img d id mram e accepts heard hy himg some' good may refused => ?_,
    fun s h x y r img d id accepts heard hy himg some' good may free => ?_,
    fun s h x y r img d id accepts heard hy himg some' good may free => ?_,
    fun s h x r id mram e accepts heard bad =>
      congrArg Host.Outcome.next (State.draftCommand_bad accepts heard bad),
    fun s h x y r img d id mram e accepts heard hy himg some' good lacks => ?_,
    fun s h x y r img d id mram e accepts heard hy himg some' good may refused => ?_,
    fun s h x y r img d id accepts heard hy himg some' good may free => ?_,
    fun s h x y r pw accepts heard hy sound est grants open' right free => ?_,
    fun s h x r pw accepts heard unsound => congrArg Host.Outcome.next
      (State.command_fails accepts heard (if_neg (ne_true_of_eq_false unsound))),
    fun s h x r pw accepts heard sound lacks => congrArg Host.Outcome.next
      (State.command_forbidden accepts heard (if_pos sound)
        (if_pos (by rcases lacks with lacks | lacks <;> simp [lacks]))),
    fun s h x r pw accepts heard sound est grants locked => congrArg Host.Outcome.next
      (State.command_forbidden accepts heard (if_pos sound) ((if_neg (by simp [est, grants])).trans (if_pos locked))),
    fun s h x r pw accepts heard sound est grants open' wrong => ?_,
    fun s h x y r pw accepts heard hy sound est grants open' right other => ?_,
    fun s h x y r accepts heard hy => ?_, fun s h x y r pw salt accepts heard hy sound may => ?_,
    fun s h x r pw salt mram accepts heard unsound => congrArg Host.Outcome.next
      (State.command_fails accepts heard (if_neg (ne_true_of_eq_false unsound))),
    fun s h x y r pw salt mram accepts heard hy sound lacks none' => ?_,
    fun s h x y r pw salt accepts heard hy sound may => ?_, fun s h x y r accepts heard hy => ?_,
    fun s h x r accepts heard => congrArg Host.Outcome.next (State.simple_refused accepts heard rfl)⟩
  · subst hy ht
    exact congrArg Host.Outcome.next (State.command_then (f := fun u => u.resetOrHold 3) accepts heard
      ((if_neg (Nat.not_lt.mpr low)).trans (if_pos present)) rfl rfl)
  · subst hy
    refine congrArg Host.Outcome.next (State.command_done accepts heard (if_pos (anchor_operands low fits cert))
      (anchor_permitted may) ?_)
    simp only [deny, Nat.not_le.mpr room, and_false, ne_eq, not_true_eq_false, false_and, or_false, if_false, Bool.not_true,
      Bool.false_eq_true, if_true]
  · subst hy
    refine congrArg Host.Outcome.next (State.command_done accepts heard (if_pos (anchor_operands low fits cert))
      (anchor_permitted may) ?_)
    simp only [trust, Nat.not_le.mpr room, and_false, false_and, or_false, if_false, Bool.not_true, Bool.false_eq_true]
  · subst hy
    exact congrArg Host.Outcome.next (State.command_forbidden accepts heard (if_pos (anchor_operands low fits cert))
      (if_pos (by simp [safety, lacks])))
  · subst hy
    exact congrArg Host.Outcome.next (State.command_refused accepts heard (if_pos (anchor_operands low fits cert))
      (anchor_permitted may) (if_pos full))
  · subst hy
    exact congrArg Host.Outcome.next (State.command_refused accepts heard (if_pos (anchor_operands low fits cert))
      (anchor_permitted may) ((if_neg (by omega)).trans (if_pos rfl)))
  · subst hy
    exact congrArg Host.Outcome.next (State.command_done accepts heard (if_pos entry) (removal_permitted may)
      ((if_neg (by simp only [left]; decide)).trans (if_neg (by decide))))
  · subst hy
    exact congrArg Host.Outcome.next (State.command_forbidden accepts heard (if_pos entry)
      (if_pos (by rcases safety with safety | safety <;> simp [safety, lacks])))
  · subst hy
    exact congrArg Host.Outcome.next (State.command_refused accepts heard (if_pos entry) (removal_permitted may)
      (if_pos (by simp only [last]; decide)))
  · subst hy
    exact congrArg Host.Outcome.next (State.command_refused accepts heard (if_pos entry) (removal_permitted may)
      ((if_neg (by simp only [left]; decide)).trans (if_pos rfl)))
  · subst himg
    exact congrArg Host.Outcome.next (State.draftCommand_done accepts heard some' good hy may free)
  · subst himg
    exact congrArg Host.Outcome.next (State.draftCommand_forbidden accepts heard good hy lacks)
  · subst himg
    exact congrArg Host.Outcome.next (State.draftCommand_refused accepts heard some' good hy may refused)
  · subst himg
    exact congrArg Host.Outcome.next (State.draftCommand_uncommitted accepts heard some' good hy may free)
  · subst himg
    exact congrArg Host.Outcome.next (State.draftCommand_done accepts heard some' good hy may free)
  · subst himg
    exact congrArg Host.Outcome.next (State.draftCommand_forbidden accepts heard good hy lacks)
  · subst himg
    exact congrArg Host.Outcome.next (State.draftCommand_refused accepts heard some' good hy may refused)
  · subst himg
    exact congrArg Host.Outcome.next (State.draftCommand_uncommitted accepts heard some' good hy may free)
  · subst hy
    exact congrArg Host.Outcome.next (State.command_done accepts heard (if_pos sound)
      ((if_neg (by simp [est, grants])).trans (if_neg (ne_true_of_eq_false open')))
      ((if_neg (by simp [right])).trans (if_neg (ne_true_of_eq_false free))))
  · exact congrArg Host.Outcome.next (State.command_refused_with accepts heard (if_pos sound)
      ((if_neg (by simp [est, grants])).trans (if_neg (ne_true_of_eq_false open'))) (if_pos (by simp [wrong])))
  · subst hy
    exact congrArg Host.Outcome.next (State.command_refused accepts heard (if_pos sound)
      ((if_neg (by simp [est, grants])).trans (if_neg (ne_true_of_eq_false open')))
      ((if_neg (by simp [right])).trans (if_pos other)))
  · subst hy
    exact congrArg Host.Outcome.next (State.simple_done accepts heard rfl)
  · subst hy
    exact congrArg Host.Outcome.next (State.command_done accepts heard (if_pos sound)
      (if_pos (by rcases may with may | ⟨unset, grants⟩ <;> simp [*])) rfl)
  · subst hy
    exact congrArg Host.Outcome.next (State.command_forbidden accepts heard (if_pos sound)
      (if_neg (by simp only [lacks, Bool.false_or]; rcases none' with set' | grants <;> simp [*])))
  · subst hy
    exact congrArg Host.Outcome.next (State.command_refused accepts heard (if_pos sound)
      (if_pos (by rcases may with may | ⟨unset, grants⟩ <;> simp [*])) rfl)
  · subst hy
    exact congrArg Host.Outcome.next (State.simple_done accepts heard rfl)

end

section

/-! Commands of memory, bulk transfers, recorder and telemetry. -/

namespace Sys2Proof.Machine

/-! ### where MEM_WRITE writes -/

theorem mem_keys_of_aget {α : Type} {k : Nat} {l : List (Nat × α)} (listed : (aget k l).isSome = true) :
    k ∈ l.map Prod.fst := by
  induction l with
  | nil => cases listed
  | cons e l ih =>
    by_cases same : e.1 = k
    · simp [same]
    · rw [show aget k (e :: l) = aget k l from if_neg same] at listed
      exact List.mem_cons_of_mem _ (ih listed)

/-- Every register that may be written lies above the partitions of the memory. -/
theorem le_of_aget_rwWrites {k : Nat} (listed : (aget k rwWrites).isSome = true) : 0x16000000 ≤ k := by
  have above : ∀ k ∈ rwWrites.map Prod.fst, 0x16000000 ≤ k := by decide
  exact above k (mem_keys_of_aget listed)

/-- What may be written lies in no partition of another owner (R28, R29). -/
theorem ownedSpan_of_writable {a n : Nat} (may : writable a n = true) : ownedSpan a n = false := by
  refine decide_eq_false ?_
  rintro ⟨some', low, high, owned⟩
  simp only [writable, Bool.or_eq_true, Bool.and_eq_true, decide_eq_true_eq, beq_iff_eq] at may
  rcases may with inside | ⟨⟨-, whole⟩, listed⟩
  · simp only [spanIn, general, List.any_cons, List.any_nil, Bool.or_false, decide_eq_true_eq] at inside
    omega
  · have first' := le_of_aget_rwWrites (List.all_eq_true.mp listed 0 (List.mem_range.mpr (by omega)))
    omega

/-- A MEM_WRITE to a span that may be written is judged by its commit alone. -/
theorem execMemWrite_writable {s : State} {h : Hdr} {a : Nat} {b : List Byte} {mram : Bool}
    (may : writable a b.length = true) :
    exec (.memWrite h a b mram) s = .next (s.command h (cmdSpec 0x0902) none (fun _ => none) (fun t x =>
      if mram then .done (t.writeOutside (t.levelOf x) x.actor a b) [] else .refuse 0x5002 0)) := by
  simp only [exec, execMemWrite, may, if_true, ownedSpan_of_writable may, Bool.false_and, Bool.false_eq_true, if_false]

/-! ### transfers and freezes -/

/-- The check of BULK_CLOSE, by the transfer of the session. -/
def bulkCloseBad (s : State) (h : Hdr) (img : BulkImage) : Option Nat :=
  match s.bulkOf h.sess with
  | some b =>
    if !(b.received.length == b.length && sha256 b.received == b.digest) then some 0x1021
    else if !s.imageOk b.target img then some 0x1020 else none
  | none => none

theorem bulkCloseBad_wrong {s : State} {h : Hdr} {img : BulkImage} {b : Bulk} (own : s.bulkOf h.sess = some b)
    (wrong : b.received.length ≠ b.length ∨ sha256 b.received ≠ b.digest) : bulkCloseBad s h img = some 0x1021 := by
  simp only [bulkCloseBad, own]
  exact if_pos (by rcases wrong with wrong | wrong <;> simp [wrong])

theorem bulkCloseBad_right {s : State} {h : Hdr} {img : BulkImage} {b : Bulk} (own : s.bulkOf h.sess = some b)
    (whole : b.received.length = b.length) (digest : sha256 b.received = b.digest) :
    bulkCloseBad s h img = if s.imageOk b.target img then none else some 0x1020 := by
  simp only [bulkCloseBad, own]
  refine (if_neg (by simp [whole, digest])).trans ?_
  cases s.imageOk b.target img <;> rfl

theorem execBulkClose_eq (s : State) (h : Hdr) (img : BulkImage) (nand : Bool) :
    exec (.bulkClose h img nand) s = .next (s.command h (cmdSpec 0x0A03) (bulkCloseBad s h img) (fun _ => none) (fun t _ =>
      match t.bulkOf h.sess with
      | none => .refuse 0x2006 0
      | some _ => if nand then .done (t.stageImage img) [] else .refuse 0x5002 0)) := rfl

theorem State.manualFreeze_some {s : State} {lo hi i : Nat} (free : freeId s.sherd.freezes [0, 1, 2, 3] = some i)
    (fits : s.sherd.freezeFits (aset i { lo := lo, hi := hi } s.sherd.freezes) = true) :
    s.manualFreeze lo hi = some (i, State.raise
      { s with sherd := { s.sherd with freezes := aset i { lo := lo, hi := hi } s.sherd.freezes } } 0x0F000006#32
      [byteOf i]) := by
  simp only [State.manualFreeze, free, fits, if_true]

end Sys2Proof.Machine

open Sys2Proof Sys2Proof.Machine

/-- Settles O60: each command by its operands, the span or the transfer it names, and what its store takes. -/
theorem commandsOfMemoryAndStores : Obligations.CommandsOfMemoryAndStores := by
  unfold Obligations.CommandsOfMemoryAndStores
  refine ⟨fun s h x r a n accepts heard low high whole may => congrArg Host.Outcome.next
      (State.command_done accepts heard ((if_neg (by simp [low, high, whole])).trans (if_pos may)) rfl rfl),
    fun s h x r a n accepts heard out => congrArg Host.Outcome.next
      (State.command_fails accepts heard (if_pos ?_)),
    fun s h x r a n accepts heard low high whole barred => congrArg Host.Outcome.next
      (State.command_fails accepts heard
        ((if_neg (by simp [low, high, whole])).trans (if_neg (ne_true_of_eq_false barred)))),
    fun s h x y r a b accepts heard hy inside => ?_,
    fun s h x y r a b accepts heard hy may outside => ?_,
    fun s h x r a b mram accepts heard barred => ?_,
    fun s h x r a b accepts heard may => (execMemWrite_writable may).trans (congrArg Host.Outcome.next
      (State.command_refused accepts heard rfl rfl rfl)),
    fun s h x r target len digest accepts heard out => congrArg Host.Outcome.next
      (State.command_fails accepts heard (if_neg (by omega))),
    fun s h x r target len digest accepts heard low high busy => congrArg Host.Outcome.next
      (State.command_refused accepts heard (if_pos ⟨low, high⟩) rfl (if_pos (Option.isSome_iff_ne_none.mpr busy))),
    fun s h x r target len digest accepts heard low high free long => congrArg Host.Outcome.next
      (State.command_refused accepts heard (if_pos ⟨low, high⟩) rfl ((if_neg (by simp [free])).trans (if_pos long))),
    fun s h x r ofs data b accepts heard own apart => congrArg Host.Outcome.next
      (State.command_fails accepts heard ?_),
    fun s h x r ofs data accepts heard none' none'' => congrArg Host.Outcome.next
      (State.command_refused accepts heard ?_ rfl ?_),
    fun s h x r img nand b accepts heard own wrong => (execBulkClose_eq s h img nand).trans (congrArg Host.Outcome.next
      (State.command_fails accepts heard (bulkCloseBad_wrong own wrong))),
    fun s h x r img nand b accepts heard own whole digest unsound => (execBulkClose_eq s h img nand).trans
      (congrArg Host.Outcome.next (State.command_fails accepts heard
        ((bulkCloseBad_right own whole digest).trans (if_neg (ne_true_of_eq_false unsound))))),
    fun s h x r img nand accepts heard none' none'' => (execBulkClose_eq s h img nand).trans
      (congrArg Host.Outcome.next (State.command_refused accepts heard ?_ rfl ?_)),
    fun s h x r img b accepts heard own own' whole digest sound => (execBulkClose_eq s h img false).trans
      (congrArg Host.Outcome.next (State.command_refused accepts heard
        ((bulkCloseBad_right own whole digest).trans (if_pos sound)) rfl ?_)),
    fun s h x r fromH fromUs toH toUs lo hi accepts heard hlo hhi out => ?_,
    fun s h x r fromH fromUs toH toUs lo hi accepts heard hlo hhi from' to' order near none' => ?_,
    fun s h x r i accepts heard out => congrArg Host.Outcome.next
      (State.command_fails accepts heard (if_neg ?_)),
    fun s h x r i enable ip port mask decim mram accepts heard out => congrArg Host.Outcome.next
      (State.command_fails accepts heard (if_neg (by omega))),
    fun s h x r i enable ip port mask decim accepts heard index flag bits low high => congrArg Host.Outcome.next
      (State.command_refused accepts heard (if_pos ⟨index, flag, bits, low, high⟩) rfl rfl),
    fun s h x r target len digest accepts heard low high free short => congrArg Host.Outcome.next
      (State.command_done accepts heard (if_pos ⟨low, high⟩) rfl
        ((if_neg (by simp [free])).trans (if_neg (Nat.not_lt.mpr short)))),
    fun s h x r ofs data b accepts heard own own' at' => congrArg Host.Outcome.next
      (State.command_done accepts heard ?_ rfl ?_),
    fun s h x r img b accepts heard own own' whole digest sound => (execBulkClose_eq s h img true).trans
      (congrArg Host.Outcome.next (State.command_done accepts heard
        ((bulkCloseBad_right own whole digest).trans (if_pos sound)) rfl ?_)),
    fun s h x r b accepts heard own => congrArg Host.Outcome.next (State.simple_done accepts heard ?_),
    fun s h x r accepts heard none' => congrArg Host.Outcome.next (State.simple_refused accepts heard ?_),
    fun s h x r fromH fromUs toH toUs lo hi i accepts heard hlo hhi from' to' order near free fits => ?_,
    fun s h x r i accepts heard low some' => congrArg Host.Outcome.next
      (State.command_done accepts heard (if_pos ⟨low, some'⟩) rfl rfl),
    fun s h x r i enable ip port mask decim accepts heard index flag bits low high => congrArg Host.Outcome.next
      (State.command_done accepts heard (if_pos ⟨index, flag, bits, low, high⟩) rfl rfl)⟩
  · rcases out with out | out | out
    · simp [Nat.not_le.mpr out]
    · simp [Nat.not_le.mpr out]
    · simp [out]
  · subst hy
    refine (execMemWrite_writable (writable_of_spanIn_general inside)).trans
      (congrArg Host.Outcome.next (State.command_done accepts heard rfl rfl ?_))
    simp only [State.writeOutside, State.writeBytes, inside, if_true]
  · subst hy
    refine (execMemWrite_writable may).trans
      (congrArg Host.Outcome.next (State.command_done accepts heard rfl rfl ?_))
    simp only [State.writeOutside, State.writeBytes, outside, if_true, Bool.false_eq_true, if_false]
  · subst heard
    exact execMemWrite_not_writable mram accepts barred
  · simp only [own, apart, if_false]
  · simp only [none']
  · simp only [none'']
  · simp only [bulkCloseBad, none']
  · simp only [none'']
  · simp only [own', Bool.false_eq_true, if_false]
  · subst hlo hhi
    exact congrArg Host.Outcome.next (State.command_fails accepts heard (if_neg (by simp only [decide_eq_true_eq]; omega)))
  · subst hlo hhi
    exact congrArg Host.Outcome.next (State.command_refused accepts heard
      (if_pos (decide_eq_true ⟨from', to', order, near⟩)) rfl (by simp only [none']))
  · rintro ⟨low, some'⟩
    rcases out with out | out
    · omega
    · simp [out] at some'
  · simp only [own, at', if_true]
  · simp only [own']
  · simp only [own', if_true]
  · simp only [own]
  · simp only [none']
  · subst hlo hhi
    exact congrArg Host.Outcome.next (State.command_done accepts heard
      (if_pos (decide_eq_true ⟨from', to', order, near⟩)) rfl (by simp only [State.manualFreeze_some free fits]))

end
